-- ==== Sys2Proof/Word.lean ====
section
/-!
DEFINITION. The word types of the hub: octets, the 16-, 32- and 64-bit words of its registers and records, and the bare
arithmetic of saturation. Bit fields, byte orders and stamps are in `Machine/Ops.lean` and `Machine/Time.lean`.
-/
namespace Sys2Proof

/-- An octet. -/
abbrev Byte := BitVec 8
/-- A 16-bit word. -/
abbrev Word16 := BitVec 16
/-- A 32-bit word. -/
abbrev Word32 := BitVec 32
/-- A 64-bit word. -/
abbrev Word64 := BitVec 64

/-- The largest value of an unsigned word of `bits` bits. -/
def maxWord (bits : Nat) : Nat := 2 ^ bits - 1

/-- Addition that stops at `top` (R477: a tally saturates and never wraps). -/
def satAdd (top a b : Nat) : Nat := min top (a + b)

end Sys2Proof
end

