-- ==== Sys2Proof/Syntax.lean ====
section
/-!
DEFINITION. The commands of the hub: one constructor of `Instr` for each row of spec/opcode_table.json, with the operands that
come from outside the hub (what a master writes or asks, what a wire, a pin, a frame or a partner brings). What the hub itself
holds is never an operand: it is read from the state.
-/
namespace Sys2Proof

/-- The paths to the BAR0 registers, in the order of R35. -/
inductive RegPath where
  | pcie | keeper | ring | station | service
deriving DecidableEq, Repr

/-- The access paths of the object dictionary (R433), in the order of R440. -/
inductive Path where
  | pcie | ring | station | service
deriving DecidableEq, Repr

/-- Who asks: the path, with the node id on the ring path or the key slot on the station path, and the IPv4 source on the station
path (R432, R433). -/
structure Requester where
  path : Path
  /-- Node id (ring) or key slot (station); 0 otherwise. -/
  unit : Nat := 0
  /-- IPv4 source (station); 0 otherwise. -/
  ip : Nat := 0
deriving DecidableEq, Repr

/-- A dictionary message (R426): header and data. -/
structure DictMsg where
  op : Nat
  flags : Nat := 0
  token : Nat := 0
  index : Nat := 0
  sub : Nat := 0
  abort : Nat := 0
  arg : Nat := 0
  data : List Byte := []
deriving DecidableEq, Repr

/-- What a host request addresses (R204 to R206, R209): one of the BARs, of BAR0 a read or a write that no register takes; configuration space; or none
of them. -/
inductive HostBar where
  | bar0 | bar2 | bar4 | config | outside
deriving DecidableEq, Repr

/-- How the octets of a host write come (R138, R209): with byte enables that cover whole units, with others, or poisoned. -/
inductive WriteMark where
  | whole | bytes | poisoned
deriving DecidableEq, Repr

/-- An instant that a PHY measures (R39): the LTC and the fraction of a tick, in 0.5 ns. -/
structure PhyStamp where
  tick : BitVec 64
  frac : Fin 5 := 0
deriving DecidableEq, Repr

/-- How a PCIe read of the hub ends (R209): with its data, as a poisoned completion, with Unsupported Request, or with Completer Abort. -/
inductive ReadEnd where
  | data | poisoned | unsupported | aborted
deriving DecidableEq, Repr

/-- Whose fence a marker belongs to (R148, R151): an outbound window, or a BULK queue. -/
inductive FenceOf where
  | window (w : Fin 16)
  | bulk (q : Fin 64)
deriving DecidableEq, Repr

/-- The class a cluster finds VDDIO_k in (R242). -/
inductive BankClass where
  | invalid | v18 | v25 | v33
deriving DecidableEq, Repr

/-- The sources of station time (R41), codes 1 to 3. -/
inductive TimeSource where
  | ptp | ring | tcode
deriving DecidableEq, Repr

/-- The sources of the phase clock (R50), codes 1 to 3. -/
inductive PhaseSource where
  | localMains | ring | nominal
deriving DecidableEq, Repr

/-- A ring frame: the header fields of R89, the payload and the trailer of R92. The result of the trailer check is computed from them
(Machine/Wire.lean). -/
structure RingFrame where
  dst : Nat
  src : Nat := 0
  cls : Nat
  /-- 1 E, 2 W, 3 BOTH, 0 invalid. -/
  path : Nat := 0
  hops : Nat := 0
  type : Nat
  epoch : Nat := 0
  stamp : Bool := false
  seq : Nat := 0
  tag : Nat := 0
  claim : Nat := 0
  wrap : Bool := false
  payload : List Byte := []
  /-- The 32-bit trailer as a number; of a frame that waits in the hub it has no meaning yet. -/
  trailer : Nat := 0
  /-- The body ended with an abort marker (R117). -/
  aborted : Bool := false
  /-- Of a received frame: the fraction of a tick its PHY measured, in 0.5 ns (R39). -/
  frac : Nat := 0
  /-- Of a frame that waits in a transmit lane: its trailer is to be sent inverted (R93); it has been counted in credit-waits (R115); the LTC of its
  receipt plus 1, and the fraction, when its residence time is still to be added (R121). -/
  stomp : Bool := false
  waited : Bool := false
  rxAt : Nat := 0
  /-- Of a frame the hub has extracted with STAMP = 1: the receive stamp of class H that is attached to it (R94). -/
  rxStamp : Option Nat := none
deriving DecidableEq, Repr

/-- The loss of lock at a ring port (R86, R117): which port, and the frame whose body it cut off, if one was in progress. -/
structure LockLoss where
  west : Bool
  mid : Option RingFrame := none
deriving DecidableEq, Repr

/-- What a ring port's lane carries beside frames (R87, R117). -/
inductive RingControl where
  | remoteFault | idle | abortMarker
deriving DecidableEq, Repr

/-- The host AtomicOps (R162). -/
inductive AtomicKind where
  | fetchAdd | swap | cas
deriving DecidableEq, Repr

/-- A received IRIG-B frame (R268): which of the validity conditions hold, and the decoded fields; `year` where the format carries it. -/
structure TcodeFrame where
  bitsOk : Bool := true
  widthsOk : Bool := true
  markersOk : Bool := true
  bcdOk : Bool := true
  parityOk : Bool := true
  year : Option Nat := none
  /-- Day of the year from 1, and seconds of the day. -/
  day : Nat := 1
  secs : Nat := 0
  control : Nat := 0
  /-- The utc-offset in s that the leap-second and offset fields of its IEEE 1344 extension supply, where it carries them (R41). -/
  utc : Option Int := none
  /-- LTC of the leading edge of the reference marker (R268). -/
  start : BitVec 64 := 0
deriving DecidableEq, Repr

/-- A frame received on a CAN bus (R297). -/
structure CanFrame where
  ide : Bool := false
  id : BitVec 29
  /-- RTR, or RRS for FD. -/
  rtr : Bool := false
  fdf : Bool := false
  brs : Bool := false
  esi : Bool := false
  dlc : BitVec 4 := 0
  data : List Byte := []
deriving DecidableEq, Repr

/-- The periodic messages of the PTP unit (R358). -/
inductive PtpKind where
  | sync | announce | pdelayReq
deriving DecidableEq, Repr

/-- A UDP datagram that reaches the keeper (R436, R437). -/
structure UdpRequest where
  mac : BitVec 48
  /-- The 802.1Q tag's control information, where the frame has one. -/
  tag : Option (BitVec 16) := none
  srcIp : BitVec 32
  dstIp : BitVec 32
  srcPort : BitVec 16
  dstPort : BitVec 16
  payload : List Byte
deriving DecidableEq, Repr

/-- The memories of the scrubber (R482, R498). -/
inductive EccMemory where
  | keeper | switch | queue | cluster | postSram | fetch | configuration
deriving DecidableEq, Repr

/-- The rails of the supply monitor (R485). -/
inductive Rail where
  | vddCore | vddAon | vddaSd | vddPcie
  /-- VDDIO_k. -/
  | vddio (k : Fin 12)
deriving DecidableEq, Repr

/-- One round of the supervisory converter (R505, R527): voltages in mV, the sense voltage in 10 µV, the gate-source voltage, FET_NTC,
the temperature, the fault timer and the breaker accumulator. -/
structure PowerSample where
  feedA : BitVec 32 := 0
  feedB : BitVec 32 := 0
  vbus : BitVec 32 := 0
  common : BitVec 32 := 0
  vout : BitVec 32 := 0
  sense : BitVec 16 := 0
  gateSource : BitVec 32 := 0
  ntc : BitVec 16 := 0
  temperature : BitVec 16 := 0
  timer : BitVec 16 := 0
  breaker : BitVec 16 := 0
deriving DecidableEq, Repr

/-- The Power Delivery messages the engine uses (R557 to R559). -/
inductive PdKind where
  | sourceCapabilities | request | accept | reject | psRdy | drSwap | sinkCapabilities | notSupported | goodCrc | getSinkCap
  | softReset | getSourceCap
deriving DecidableEq, Repr

/-- What the Power Delivery engine sends (R557 to R560). -/
inductive PdOut where
  /-- A message with its type name code, MessageID and data objects. -/
  | msg (kind : PdKind) (id : Nat) (data : List Nat)
  | softReset
  | hardReset
deriving DecidableEq, Repr



/-- The commands of the hub, in the order of the opcode table. -/
inductive Instr where
  /-- DICT_READ: who asks, its TOKEN, index and subindex. -/
  | dictRead (r : Requester) (token : Nat) (index : BitVec 16) (sub : BitVec 8)
  /-- DICT_WRITE: who asks, its TOKEN, index and subindex, the value's octets. -/
  | dictWrite (r : Requester) (token : Nat) (index : BitVec 16) (sub : BitVec 8) (data : List Byte)
  /-- SEG_START: who asks, its TOKEN, index and subindex, DIR (true: a read), the total length. -/
  | segStart (r : Requester) (token : Nat) (index : BitVec 16) (sub : BitVec 8) (read : Bool) (total : BitVec 32)
  /-- SEG_DATA: who asks, its TOKEN, index and subindex, the offset, LAST, the segment (a write's). -/
  | segData (r : Requester) (token : Nat) (index : BitVec 16) (sub : BitVec 8) (offset : BitVec 32) (last : Bool) (data : List Byte)
  /-- SEG_ABORT: who asks, its TOKEN, index and subindex. -/
  | segAbort (r : Requester) (token : Nat) (index : BitVec 16) (sub : BitVec 8)
  /-- STALL_REQUEST: who asks, its TOKEN. -/
  | stallRequest (r : Requester) (token : Nat)
  /-- KEEPALIVE: who asks, its TOKEN. -/
  | keepalive (r : Requester) (token : Nat)
  /-- STALL_RELEASE: who asks, its TOKEN. -/
  | stallRelease (r : Requester) (token : Nat)
  /-- STALL_HANDOVER: who asks, its TOKEN, the target identity. -/
  | stallHandover (r : Requester) (token : Nat) (target : BitVec 32)
  /-- WHO: who asks, its TOKEN. -/
  | who (r : Requester) (token : Nat)
  /-- REG_READ: who asks, its TOKEN, the BAR0 offset. -/
  | regRead (r : Requester) (token : Nat) (offset : BitVec 32)
  /-- REG_WRITE: who asks, its TOKEN, the BAR0 offset, the register value's octets. -/
  | regWrite (r : Requester) (token : Nat) (offset : BitVec 32) (data : List Byte)
  /-- RWB_BOUNDARY_APPLY: index and subindex of the object whose function reaches its boundary. -/
  | rwbBoundaryApply (index : BitVec 16) (sub : BitVec 8)
  /-- FUNCTION_START_COMPLETE: the function; for a cluster, the class of VDDIO_k it measured in 0.1 V: 0 outside all three, 18, 25, 33 (R242). -/
  | functionStartComplete (fid : BitVec 16) (bank : BankClass)
  /-- FUNCTION_DRAIN_COMPLETE: the function. -/
  | functionDrainComplete (fid : BitVec 16)
  /-- DRAIN_LIMIT_EXPIRED: the function. -/
  | drainLimitExpired (fid : BitVec 16)
  /-- FRESET: the path that writes, the FUNC_ID it names. -/
  | freset (path : RegPath) (fid : BitVec 16)
  /-- FRESET_OBJECT_WRITE: who writes 0x3600:01, its TOKEN, the FUNC_ID. -/
  | fresetObjectWrite (r : Requester) (token : Nat) (fid : BitVec 16)
  /-- FUNCTION_RESET_ABORT_DONE: the function. -/
  | functionResetAbortDone (fid : BitVec 16)
  /-- REGISTER_WRITE_OTHER: the path, the BAR0 offset, the value; from the ring, the port and the frame that carries the write. -/
  | registerWriteOther (path : RegPath) (offset : BitVec 24) (value : BitVec 32) (west : Bool) (f : RingFrame)
  /-- CLEAR_TALLIES: who writes true, its TOKEN, index and subindex of the clear-tallies object. -/
  | clearTallies (r : Requester) (token : Nat) (index : BitVec 16) (sub : BitVec 8)
  /-- TIME_SOURCE_QUALIFIED: the source, its time less ST in ns, the rate that tracks it in ppb, and the UTC offset it supplies. -/
  | timeSourceQualified (src : TimeSource) (offset rate : Int) (utc : Option Int)
  /-- TIME_SOURCE_LOSS_DECLARED: the source, and what the next qualified source shows, if there is one. -/
  | timeSourceLossDeclared (src : TimeSource) (offset rate : Int) (utc : Option Int)
  /-- TIME_MAP_UPDATE: the rate that tracks the selected source, in ppb, as the time unit measures it. -/
  | timeMapUpdate (rate : Int)
  /-- PHC_SOURCE_PRESENT. -/
  | phcSourcePresent (src : PhaseSource)
  /-- PHC_SOURCE_LOSS. -/
  | phcSourceLoss (src : PhaseSource)
  /-- PHC_LOCK_ACHIEVED: the source's phase fraction and frequency in µHz at the lock. -/
  | phcLockAchieved (fraction : BitVec 32) (freq : Nat)
  /-- PHC_ALIGN_SLOW_DONE. -/
  | phcAlignSlowDone
  /-- PHC_REALIGN: the source's phase fraction and frequency in µHz. -/
  | phcRealign (fraction : BitVec 32) (freq : Nat)
  /-- PHC_COAST_LIMIT_EXPIRED. -/
  | phcCoastLimitExpired
  /-- PHASE_FRAME_SEND. -/
  | phaseFrameSend
  /-- MAINS_ZERO_CROSSING: mean frequency of the cycle just ended in µHz, amplitude in 0.1 % of full scale. -/
  | mainsZeroCrossing (freq amplitude : Nat)
  /-- CONTROL_CYCLE_BOUNDARY. -/
  | controlCycleBoundary
  /-- TRIGGER_COMMIT. -/
  | triggerCommit (t : Fin 256)
  /-- TRIGGER_FIRE_NONE. -/
  | triggerFireNone (t : Fin 256)
  /-- TRIGGER_FIRE_OUTPUT. -/
  | triggerFireOutput (t : Fin 256)
  /-- TRIGGER_FIRE_CSTART. -/
  | triggerFireCstart (t : Fin 256)
  /-- TRIGGER_FIRE_SEQ_EVENT. -/
  | triggerFireSeqEvent (t : Fin 256)
  /-- TRIGGER_FIRE_CC_NOTICE. -/
  | triggerFireCcNotice (t : Fin 256)
  /-- TRIGGER_FIRE_CAN_START. -/
  | triggerFireCanStart (t : Fin 256)
  /-- TRIGGER_FIRE_TOUT_EDGE. -/
  | triggerFireToutEdge (t : Fin 256)
  /-- TRIGGER_FIRE_LTC_CAPTURE. -/
  | triggerFireLtcCapture (t : Fin 256)
  /-- TRIGGER_INSTANT_PASSED. -/
  | triggerInstantPassed (t : Fin 256)
  /-- TRIGGER_DISARM_ALL: who writes disarm-all, its TOKEN. -/
  | triggerDisarmAll (r : Requester) (token : Nat)
  /-- SNAP: the path that writes SNAP. -/
  | snap (path : RegPath)
  /-- TCAP_EDGE: the pin, the edge, and the interpolator's fraction in 0.5 ns. -/
  | tcapEdge (pin : Fin 4) (rising : Bool) (frac : Fin 5)
  /-- TCAP_HEAD_READ: a read of TCAPi_HI by a path. -/
  | tcapHeadRead (path : RegPath) (pin : Fin 4)
  /-- LTC_NOW_READ: a read of LTC_NOW_LO by a path. -/
  | ltcNowRead (path : RegPath)
  /-- TOUT_TIMED_EDGE. -/
  | toutTimedEdge (pin : Fin 4) (rising : Bool)
  /-- RING_LINK_QUALIFIED: false RING-E, true RING-W. -/
  | ringLinkQualified (west : Bool)
  /-- RING_BLOCK_LOCK_GAINED. -/
  | ringBlockLockGained (west : Bool)
  /-- RING_LOCK_LOSS: the port, and the frame whose body was in progress, as far as it has arrived. -/
  | ringLockLoss (loss : LockLoss)
  /-- REMOTE_FAULT_RX. -/
  | remoteFaultRx (west : Bool)
  /-- RIDGE_PASS: the receive port and the frame. -/
  | ridgePass (west : Bool) (f : RingFrame)
  /-- RING_BODY_TIMEOUT: the receive port and the frame as far as it has arrived. -/
  | ringBodyTimeout (west : Bool) (f : RingFrame)
  /-- RING_ORPHAN_BLOCKS: one unbroken run and its length in bytes. -/
  | ringOrphanBlocks (west : Bool) (bytes : Nat)
  /-- BCN_RX. -/
  | bcnRx (west : Bool) (f : RingFrame)
  /-- BRK_RX. -/
  | brkRx (west : Bool) (f : RingFrame)
  /-- JOIN_LISTEN_EXPIRED. -/
  | joinListenExpired
  /-- JOIN_REQ_RX. -/
  | joinReqRx (west : Bool) (f : RingFrame)
  /-- JOIN_ACK_RX. -/
  | joinAckRx (west : Bool) (f : RingFrame)
  /-- JOIN_REFUSE_RX. -/
  | joinRefuseRx (west : Bool) (f : RingFrame)
  /-- JOIN_ANSWER_TIMEOUT. -/
  | joinAnswerTimeout
  /-- LEAVE_RX. -/
  | leaveRx (west : Bool) (f : RingFrame)
  /-- HELLO_RX. -/
  | helloRx (west : Bool) (f : RingFrame)
  /-- REJOIN: who writes rejoin, its TOKEN. -/
  | rejoin (r : Requester) (token : Nat)
  /-- BCN_SEND. -/
  | bcnSend
  /-- BEACON_MISSED. -/
  | beaconMissed
  /-- STEWARD_RANK_WAIT_EXPIRED. -/
  | stewardRankWaitExpired
  /-- HELLO_SEND. -/
  | helloSend
  /-- INSERTION_CREDIT_PERIOD. -/
  | insertionCreditPeriod (west : Bool)
  /-- CLASS01_TOKEN_REFILL. -/
  | class01TokenRefill (west : Bool)
  /-- RING_TX_FRAME_DONE. -/
  | ringTxFrameDone (west : Bool)
  /-- LINK_DELAY_MEASURE. -/
  | linkDelayMeasure (west : Bool)
  /-- TIME_SYNC_SEND. -/
  | timeSyncSend
  /-- TIME_SYNC_RX. -/
  | timeSyncRx (west : Bool) (f : RingFrame)
  /-- DELAY_REQ_RX. -/
  | delayReqRx (west : Bool) (f : RingFrame)
  /-- DELAY_RESP_RX. -/
  | delayRespRx (west : Bool) (f : RingFrame)
  /-- PHASE_RX. -/
  | phaseRx (west : Bool) (f : RingFrame)
  /-- SEQ_WINDOW_AGE_EXPIRED: the source and the class. -/
  | seqWindowAgeExpired (src : Fin 128) (cls : Fin 2)
  /-- DATA_RX. -/
  | dataRx (west : Bool) (f : RingFrame)
  /-- RING_WAKE_RX: a WAKE ring operation for the hub, by its frame. -/
  | ringWakeRx (west : Bool) (f : RingFrame)
  /-- CMD_RX: the port (true RING-W), the frame. -/
  | cmdRx (west : Bool) (f : RingFrame)
  /-- MGMT_DICT_REQUEST_RX: the port (true RING-W), the frame. -/
  | mgmtDictRequestRx (west : Bool) (f : RingFrame)
  /-- MGMT_DICT_RESPONSE_RX: the port, the frame. -/
  | mgmtDictResponseRx (west : Bool) (f : RingFrame)
  /-- MGMT_FORWARD_RETRY. -/
  | mgmtForwardRetry
  /-- HOST_WINDOW_READ: the BAR and the offset it addresses, length, and whether the byte enables cover whole units. -/
  | hostWindowRead (bar : HostBar) (offset len : Nat) (whole : Bool)
  /-- HOST_WINDOW_WRITE: the BAR and the offset it addresses, the host's octets, and how they come. -/
  | hostWindowWrite (bar : HostBar) (offset : Nat) (data : List Byte) (mark : WriteMark)
  /-- HOST_ATOMICOP: the BAR and the offset it addresses, operand of 4 or 8 bytes (wide), kind, operand and compare value in host order. -/
  | hostAtomicop (bar : HostBar) (offset : Nat) (wide : Bool) (kind : AtomicKind) (operand compare : Nat)
  /-- RD_RX. -/
  | rdRx (west : Bool) (f : RingFrame)
  /-- RDR_RX. -/
  | rdrRx (west : Bool) (f : RingFrame)
  /-- RDX_RX. -/
  | rdxRx (west : Bool) (f : RingFrame)
  /-- RD_RETRY_INTERVAL_EXPIRED: the transaction tag. -/
  | rdRetryIntervalExpired (tag : BitVec 16)
  /-- RD_RESPONSE_TIMEOUT: the transaction tag. -/
  | rdResponseTimeout (tag : BitVec 16)
  /-- APERTURE_FETCH_COMPLETE: the retry tag of the buffer, how the PCIe read ended, its data. -/
  | apertureFetchComplete (retry : BitVec 16) (r : ReadEnd) (data : List Byte)
  /-- FETCH_HOLD_EXPIRED: the retry tag of the buffer. -/
  | fetchHoldExpired (retry : BitVec 16)
  /-- READ_BUDGET_EXPIRED: the transaction tag of the host read or AtomicOp. -/
  | readBudgetExpired (tag : BitVec 16)
  /-- WRP_RX. -/
  | wrpRx (west : Bool) (f : RingFrame)
  /-- WRN_RX. -/
  | wrnRx (west : Bool) (f : RingFrame)
  /-- APERTURE_FLUSH_READ_DONE. -/
  | apertureFlushReadDone
  /-- WACK_RX. -/
  | wackRx (west : Bool) (f : RingFrame)
  /-- WNAK_RX. -/
  | wnakRx (west : Bool) (f : RingFrame)
  /-- LKRD_RX. -/
  | lkrdRx (west : Bool) (f : RingFrame)
  /-- LKRT_RX. -/
  | lkrtRx (west : Bool) (f : RingFrame)
  /-- LOCK_RETRY_WAIT_EXPIRED. -/
  | lockRetryWaitExpired
  /-- WRUL_RX. -/
  | wrulRx (west : Bool) (f : RingFrame)
  /-- LOCK_WATCHDOG_EXPIRED: the local address of the locked granule. -/
  | lockWatchdogExpired (addr : Nat)
  /-- FENCE_W: the path that writes, the window. -/
  | fenceW (path : RegPath) (w : Fin 16)
  /-- FENCE_ALL: the path that writes. -/
  | fenceAll (path : RegPath)
  /-- FENCE_TIMEOUT: of a window's marker, or of the markers of a BULK queue. -/
  | fenceTimeout (of_ : FenceOf)
  /-- CLEAR_FAULT_LOG: who writes clear-fault-log, its TOKEN. -/
  | clearFaultLog (r : Requester) (token : Nat)
  /-- SWITCH_FRAME_IN: the first cell of the frame that waits at an input port. -/
  | switchFrameIn (port : Fin 18)
  /-- SWITCH_FRAME_OUT_DONE: the last cell of the frame an output port sends; 1 a single-bit, 2 an uncorrectable error met when its
  cells were read, and the index of that cell. -/
  | switchFrameOutDone (port : Fin 18) (ecc : Fin 3) (cell : BitVec 16)
  /-- CT_STALL_EXPIRED: at an output port. -/
  | ctStallExpired (port : Fin 18)
  /-- SWITCH_CELL_TIME. -/
  | switchCellTime
  /-- FWD_COMMIT: who writes commit, its TOKEN. -/
  | fwdCommit (r : Requester) (token : Nat)
  /-- FWD_DISCARD: who writes discard, its TOKEN. -/
  | fwdDiscard (r : Requester) (token : Nat)
  /-- QUEUE_DOORBELL: a write of QDB(q) by a path. -/
  | queueDoorbell (path : RegPath) (q : Fin 64) (pidx : BitVec 16)
  /-- DESCRIPTOR_FETCH_DONE: how the PCIe read ended, and the 32 octets of the slot. -/
  | descriptorFetchDone (q : Fin 64) (r : ReadEnd) (data : List Byte)
  /-- H2D_DATA_READ_DONE: how the PCIe read ended, and the data, or what came before the failing read. -/
  | h2dDataReadDone (q : Fin 64) (r : ReadEnd) (data : List Byte)
  /-- QPORT_WRITE: a write of QPORT(q); `unit8` when it is one aligned 8-byte unit. -/
  | qportWrite (path : RegPath) (q : Fin 64) (item : BitVec 64) (unit8 : Bool)
  /-- QPORT_READ: a read of QPORT(q); `unit8` when it is one aligned 8-byte unit. -/
  | qportRead (path : RegPath) (q : Fin 64) (unit8 : Bool)
  /-- CREDIT_SYNC: a write of 1 to SYNC in CREDIT(q). -/
  | creditSync (path : RegPath) (q : Fin 64)
  /-- CREDIT_HOLDOFF_EXPIRED. -/
  | creditHoldoffExpired (q : Fin 64)
  /-- QUEUE_FLUSH: who writes flush, its TOKEN, the queue. -/
  | queueFlush (r : Requester) (token : Nat) (q : Fin 64)
  /-- QUEUE_FLUSH_COMPLETE. -/
  | queueFlushComplete (q : Fin 64)
  /-- QACK_CLEAR: the bits written to QACK(q). -/
  | qackClear (path : RegPath) (q : Fin 64) (mask : BitVec 32)
  /-- NOTICE_PEND_CLEAR: the bits written to NPEND, NPEND_HI in the upper half. -/
  | noticePendClear (path : RegPath) (mask : BitVec 64)
  /-- IRQ_HOLDOFF_EXPIRED. -/
  | irqHoldoffExpired (q : Fin 64)
  /-- PCIE_FUNCTION_RESET: a Function Level Reset, a hot reset or a link-down. -/
  | pcieFunctionReset
  /-- BUS_MASTER_ENABLE_CHANGE: the new value. -/
  | busMasterEnableChange (on : Bool)
  /-- MSIX_UNMASK: the MSI-X state that configuration and table writes leave: MSI-X Enable, Function Mask, and the vectors whose own mask
  is set. (A write of one word of the table is a REGISTER_WRITE_OTHER of the PCIe path.) -/
  | msixUnmask (enable functionMask : Bool) (masked : List Nat)
  /-- PCIE_COMPLETION_TIMEOUT: of a hub read for a queue, or for an aperture by the retry tag of its buffer. -/
  | pcieCompletionTimeout (queue : Bool) (id : BitVec 16)
  /-- UART_CHAR_RX: a received character, LTC of its start bit, whether its parity or framing check failed. -/
  | uartCharRx (c : Fin 192) (char : BitVec 9) (start : BitVec 64) (parityErr framingErr : Bool)
  /-- UART_GAP_EXPIRED. -/
  | uartGapExpired (c : Fin 192)
  /-- UART_BREAK. -/
  | uartBreak (c : Fin 192)
  /-- UART_TX_PACKET. -/
  | uartTxPacket (c : Fin 192)
  /-- UART_TX_PACKET_SENT. -/
  | uartTxPacketSent (c : Fin 192)
  /-- BIN_EDGE: the new raw level at A, or of the comparator. -/
  | binEdge (c : Fin 192) (level : Bool)
  /-- BIN_DEBOUNCE_EXPIRED. -/
  | binDebounceExpired (c : Fin 192)
  /-- CHATTER_QUIET_EXPIRED. -/
  | chatterQuietExpired (c : Fin 192)
  /-- WET_PULSE_END. -/
  | wetPulseEnd (c : Fin 192)
  /-- BOUT_CMD_OPEN: the record at the head of the channel's cluster port. -/
  | boutCmdOpen (c : Fin 192)
  /-- BOUT_CMD_CLOSE. -/
  | boutCmdClose (c : Fin 192)
  /-- BOUT_CMD_PULSE. -/
  | boutCmdPulse (c : Fin 192)
  /-- BOUT_CMD_SAFE. -/
  | boutCmdSafe (c : Fin 192)
  /-- BOUT_PULSE_END. -/
  | boutPulseEnd (c : Fin 192)
  /-- BOUT_ANGLE_INSTANT. -/
  | boutAngleInstant (c : Fin 192)
  /-- CLAIM_HOLD_EXPIRED. -/
  | claimHoldExpired (c : Fin 192)
  /-- BOUT_READBACK_CHANGE: the filtered level at B, or at C (coil sense). -/
  | boutReadbackChange (c : Fin 192) (coil level : Bool)
  /-- READBACK_WINDOW_EXPIRED: of the readback, or of the coil sense. -/
  | readbackWindowExpired (c : Fin 192) (coil : Bool)
  /-- PULSE_EDGE. -/
  | pulseEdge (c : Fin 192) (rising : Bool)
  /-- PULSE_GATE_END. -/
  | pulseGateEnd (c : Fin 192)
  /-- PULSE_COUNT_RESET: who writes, its TOKEN, the channel. -/
  | pulseCountReset (r : Requester) (token : Nat) (c : Fin 192)
  /-- TCODE_FRAME_RX. -/
  | tcodeFrameRx (c : Fin 192) (f : TcodeFrame)
  /-- TCODE_OUTPUT_EDGE. -/
  | tcodeOutputEdge (c : Fin 192) (rising : Bool)
  /-- CSTART_PULSE_END. -/
  | cstartPulseEnd (c : Fin 192)
  /-- LS_SAMPLE: the converter's code, and whether the line was quiet as the mode's timing asks (R272). -/
  | lsSample (c : Fin 192) (code : BitVec 12) (quiet : Bool)
  /-- LS_DIAGNOSIS_CYCLE_END. -/
  | lsDiagnosisCycleEnd (c : Fin 192)
  /-- LS_REARM: who writes, its TOKEN, the channel. -/
  | lsRearm (r : Requester) (token : Nat) (c : Fin 192)
  /-- LEDGER_MIRROR_BATCH. -/
  | ledgerMirrorBatch
  /-- LEDGER_MIRROR_INTERVAL_EXPIRED. -/
  | ledgerMirrorIntervalExpired
  /-- LEDGER_FLUSH. -/
  | ledgerFlush
  /-- LEDGER_RANGE_READ: who reads ledger-range, its TOKEN. -/
  | ledgerRangeRead (r : Requester) (token : Nat)
  /-- LEDGER_EXPORT_START: who writes export-from, its TOKEN, the sequence number. -/
  | ledgerExportStart (r : Requester) (token : Nat) (from_ : BitVec 32)
  /-- LEDGER_CLEAR: who writes clear-ledger, its TOKEN. -/
  | ledgerClear (r : Requester) (token : Nat)
  /-- CAN_INTEGRATED. -/
  | canIntegrated (n : Fin 48)
  /-- CAN_FRAME_RX: the frame of another node, LTC of its start. -/
  | canFrameRx (n : Fin 48) (f : CanFrame) (start : BitVec 64)
  /-- CAN_ERROR_FRAME: the error (0 none to 5 acknowledge), in the data phase, LTC of the edge that starts the error flag, and what the counting rules of
  ISO 11898-1 ask of it: a case the standard exempts (sender) or a dominant bit right after the flag (receiver), and runs of 8 dominant bits after it. -/
  | canErrorFrame (n : Fin 48) (error : Fin 6) (dataPhase : Bool) (start : BitVec 64) (special : Bool) (runs : BitVec 8)
  /-- CAN_OVERLOAD_FRAME: LTC of the edge that starts it. -/
  | canOverloadFrame (n : Fin 48) (start : BitVec 64)
  /-- CAN_BUS_OFF_RECOVERY. -/
  | canBusOffRecovery (n : Fin 48)
  /-- CAN_BUS_OFF_RESTART: who writes, its TOKEN, the controller. -/
  | canBusOffRestart (r : Requester) (token : Nat) (n : Fin 48)
  /-- CAN_DOMINANT_TIMEOUT. -/
  | canDominantTimeout (n : Fin 48)
  /-- CAN_STUCK_RELEASED. -/
  | canStuckReleased (n : Fin 48)
  /-- CAN_TX_UPDATE: the packet at the head of the channel's cluster port; whether the bus is idle. -/
  | canTxUpdate (n : Fin 48) (idle : Bool)
  /-- CAN_BASIC_CYCLE_START. -/
  | canBasicCycleStart (n : Fin 48)
  /-- CAN_FLASHING_END: the pitch; whether the bus is idle. -/
  | canFlashingEnd (n : Fin 48) (pitch : Fin 32) (idle : Bool)
  /-- CAN_LATEST_START_PASSED. -/
  | canLatestStartPassed (n : Fin 48)
  /-- CAN_TX_END. -/
  | canTxEnd (n : Fin 48)
  /-- CAN_ARBITRATION_LOST. -/
  | canArbitrationLost (n : Fin 48)
  /-- CAN_FREE_WINDOW_START: the pitch; whether the bus is idle. -/
  | canFreeWindowStart (n : Fin 48) (pitch : Fin 32) (idle : Bool)
  /-- CAN_REF_MISSED. -/
  | canRefMissed (n : Fin 48)
  /-- CAN_MATRIX_STOP: who writes, its TOKEN, the controller. -/
  | canMatrixStop (r : Requester) (token : Nat) (n : Fin 48)
  /-- SEQ_NOP. -/
  | seqNop (q : Fin 24)
  /-- SEQ_DRIVE. -/
  | seqDrive (q : Fin 24)
  /-- SEQ_SAMPLE: the sequencer; the levels of the pads of the input pins at each step, bit j for pin seq-in-base + j. -/
  | seqSample (q : Fin 24) (pads : List (BitVec 8))
  /-- SEQ_EMIT. -/
  | seqEmit (q : Fin 24)
  /-- SEQ_LOAD_B. -/
  | seqLoadB (q : Fin 24)
  /-- SEQ_LOAD_NB. -/
  | seqLoadNb (q : Fin 24)
  /-- SEQ_STORE_B. -/
  | seqStoreB (q : Fin 24)
  /-- SEQ_STORE_NB. -/
  | seqStoreNb (q : Fin 24)
  /-- SEQ_COUNT_IMM. -/
  | seqCountImm (q : Fin 24)
  /-- SEQ_COUNT_RELOAD. -/
  | seqCountReload (q : Fin 24)
  /-- SEQ_COUNT_SHIFTER. -/
  | seqCountShifter (q : Fin 24)
  /-- SEQ_COUNT_DEC. -/
  | seqCountDec (q : Fin 24)
  /-- SEQ_FLAG_SET. -/
  | seqFlagSet (q : Fin 24)
  /-- SEQ_FLAG_CLEAR. -/
  | seqFlagClear (q : Fin 24)
  /-- SEQ_FLAG_SIGNAL. -/
  | seqFlagSignal (q : Fin 24)
  /-- SEQ_FLAG_BROADCAST. -/
  | seqFlagBroadcast (q : Fin 24)
  /-- SEQ_HOLD. -/
  | seqHold (q : Fin 24)
  /-- SEQ_HOLD_RELEASE: the sequencer; whether the edge at the pin is a rising one, where HOLD waits for an edge. -/
  | seqHoldRelease (q : Fin 24) (rising : Bool)
  /-- SEQ_BRANCH_ZERO. -/
  | seqBranchZero (q : Fin 24)
  /-- SEQ_BRANCH_DEC_NZ. -/
  | seqBranchDecNz (q : Fin 24)
  /-- SEQ_BRANCH_PIN_HIGH: the sequencer; the level of the pad, where nothing drives it from the hub. -/
  | seqBranchPinHigh (q : Fin 24) (pad : Bool)
  /-- SEQ_BRANCH_PIN_LOW: the sequencer; the level of the pad, where nothing drives it from the hub. -/
  | seqBranchPinLow (q : Fin 24) (pad : Bool)
  /-- SEQ_BRANCH_SHIFTER. -/
  | seqBranchShifter (q : Fin 24)
  /-- SEQ_BRANCH_FLAG. -/
  | seqBranchFlag (q : Fin 24)
  /-- SEQ_STALL_END. -/
  | seqStallEnd (q : Fin 24)
  /-- SEQ_GO: the path that writes SEQGO, and its GO field. -/
  | seqGo (path : RegPath) (go : BitVec 24)
  /-- SEQFLAG_WRITE: the path, SEQ and SET. -/
  | seqflagWrite (path : RegPath) (q : Fin 32) (set_ : BitVec 8)
  /-- SEQ_WATCHDOG_EXPIRED. -/
  | seqWatchdogExpired (q : Fin 24)
  /-- SEQ_RX_GAP_EXPIRED. -/
  | seqRxGapExpired (q : Fin 24)
  /-- SEQ_TX_PACKET. -/
  | seqTxPacket (q : Fin 24)
  /-- STA_FRAME_RX: false STA-A, true STA-B; the frame without FCS, LTC and 0.5 ns fraction of its start-of-frame delimiter,
  whether its FCS is right. -/
  | staFrameRx (b : Bool) (frame : List Byte) (start : PhyStamp) (fcsOk : Bool)
  /-- PTP_MESSAGE_RX: the link, the frame, LTC and 0.5 ns fraction of its start-of-frame delimiter. -/
  | ptpMessageRx (b : Bool) (frame : List Byte) (start : PhyStamp)
  /-- PRP_SUPERVISION_RX: the link, the frame, LTC and 0.5 ns fraction of its start-of-frame delimiter. -/
  | prpSupervisionRx (b : Bool) (frame : List Byte) (start : PhyStamp)
  /-- STA_TX_PACKET: the packet at the head of switch port 14 or 15. -/
  | staTxPacket (b : Bool)
  /-- STA_FRAME_DEPARTED: LTC and 0.5 ns fraction of the departing start-of-frame delimiter. -/
  | staFrameDeparted (b : Bool) (start : PhyStamp)
  /-- PRP_SUPERVISION_SEND. -/
  | prpSupervisionSend
  /-- NODE_TABLE_AGE_OUT: the node's address. -/
  | nodeTableAgeOut (mac : BitVec 48)
  /-- DUPLICATE_ENTRY_FORGET: source address and sequence number of the entry. -/
  | duplicateEntryForget (src : BitVec 48) (seq : BitVec 16)
  /-- LAN_SILENT_TIMEOUT: the link that is silent. -/
  | lanSilentTimeout (b : Bool)
  /-- STA_LINK_GAINED. -/
  | staLinkGained (b : Bool)
  /-- STA_LINK_LOSS. -/
  | staLinkLoss (b : Bool)
  /-- PTP_MESSAGE_INTERVAL: the port and the message. -/
  | ptpMessageInterval (b : Bool) (kind : PtpKind)
  /-- PTP_ANNOUNCE_TIMEOUT. -/
  | ptpAnnounceTimeout (b : Bool)
  /-- GOOSE_LEDGER_RECORD: the first such record that waits at a signal slot. -/
  | gooseLedgerRecord
  /-- GOOSE_HOST_VALUE_RECORD: the first such record that waits at a signal slot. -/
  | gooseHostValueRecord
  /-- GOOSE_RETRANSMIT. -/
  | gooseRetransmit (g : Fin 128)
  /-- GOOSE_SUB_FRAME_RX: the first record that waits at the subscription input. -/
  | gooseSubFrameRx
  /-- GOOSE_SUB_TAL_EXPIRED. -/
  | gooseSubTalExpired (u : Fin 256)
  /-- GOOSE_SUB_FIRST_WAIT_EXPIRED. -/
  | gooseSubFirstWaitExpired (u : Fin 256)
  /-- HEARTBEAT_RX: the port (true RING-W), the frame. -/
  | heartbeatRx (west : Bool) (f : RingFrame)
  /-- SWAP_REQUEST_RX. -/
  | swapRequestRx (west : Bool) (f : RingFrame)
  /-- SWAP_PREPARE_RX. -/
  | swapPrepareRx (west : Bool) (f : RingFrame)
  /-- SWAP_ACK_RX. -/
  | swapAckRx (west : Bool) (f : RingFrame)
  /-- SWAP_HANDOVER_RX. -/
  | swapHandoverRx (west : Bool) (f : RingFrame)
  /-- SWAP_ABORT_RX. -/
  | swapAbortRx (west : Bool) (f : RingFrame)
  /-- SWAP_REFUSE_RX. -/
  | swapRefuseRx (west : Bool) (f : RingFrame)
  /-- DUPLEX_LISTEN_EXPIRED. -/
  | duplexListenExpired
  /-- DUPLEX_CONTEND_EXPIRED. -/
  | duplexContendExpired
  /-- DUPLEX_HEARTBEAT_TIMEOUT. -/
  | duplexHeartbeatTimeout
  /-- DUPLEX_MISMATCH_LIMIT. -/
  | duplexMismatchLimit
  /-- DUPLEX_COMPARE_WINDOW_EXPIRED: node id and channel of the output. -/
  | duplexCompareWindowExpired (node : Fin 128) (c : BitVec 8)
  /-- DUPLEX_CLAIM_PERSISTED: whether the write to the store succeeded. -/
  | duplexClaimPersisted (ok : Bool)
  /-- DUP_SWAP: who writes dup-swap, its TOKEN. -/
  | dupSwap (r : Requester) (token : Nat)
  /-- DUPLEX_SWAP_BOUNDARY_K. -/
  | duplexSwapBoundaryK
  /-- DUPLEX_SWAP_TIMEOUT. -/
  | duplexSwapTimeout
  /-- DUP_REJOIN: who writes dup-rejoin, its TOKEN. -/
  | dupRejoin (r : Requester) (token : Nat)
  /-- DUP_CLAIM_CLEAR: who writes dup-claim-clear, its TOKEN. -/
  | dupClaimClear (r : Requester) (token : Nat)
  /-- CLAIM_RESET: who writes claim-reset, its TOKEN, the group or 0xFF. -/
  | claimReset (r : Requester) (token : Nat) (group : BitVec 8)
  /-- CMD_DISPATCH_PACKET: the packet at the head of the dispatcher. -/
  | cmdDispatchPacket
  /-- MIRROR_RECORD_RX: the next record of the area. -/
  | mirrorRecordRx
  /-- MBOX_POST: the path of the write of MBOX_DB, its value. -/
  | mboxPost (path : RegPath) (value : BitVec 32)
  /-- STATION_DICT_REQUEST: source MAC, 802.1Q tag where there is one, source and destination IPv4 address and UDP port, the UDP payload. -/
  | stationDictRequest (q : UdpRequest)
  /-- ARP_REQUEST_RX: sender's MAC and IPv4 address, tag, target IPv4 address. -/
  | arpRequestRx (mac : BitVec 48) (tag : Option (BitVec 16)) (ip target : BitVec 32)
  /-- KEY_CEILING_PERSISTED: whether the store confirms. -/
  | keyCeilingPersisted (ok : Bool)
  /-- KEY_WRITE: who writes, its TOKEN, the slot, the key. -/
  | keyWrite (r : Requester) (token : Nat) (slot : Fin 4) (key : List Byte)
  /-- SERVICE_DICT_REQUEST: the message of a bulk OUT transfer. -/
  | serviceDictRequest (m : DictMsg)
  /-- STALL_ELECTION_CLOSE. -/
  | stallElectionClose
  /-- STALL_LEASE_LAPSE. -/
  | stallLeaseLapse
  /-- STALL_RESERVATION_LAPSE. -/
  | stallReservationLapse
  /-- STALL_PATH_GONE. -/
  | stallPathGone
  /-- SEG_SESSION_TIMEOUT: the requester whose session it is. -/
  | segSessionTimeout (r : Requester)
  /-- SAVE_CONFIG: who writes save-config, its TOKEN. -/
  | saveConfig (r : Requester) (token : Nat)
  /-- RESTORE_DEFAULTS: who writes restore-defaults, its TOKEN. -/
  | restoreDefaults (r : Requester) (token : Nat)
  /-- SCAN_GO: the path that writes SCANGO, and its GO field. -/
  | scanGo (path : RegPath) (go : BitVec 4)
  /-- SCAN_STOP: who writes scan-stop, its TOKEN, the engine. -/
  | scanStop (r : Requester) (token : Nat) (e : Fin 3)
  /-- SCAN_JOB_END: the engine; the octets read from a source the hub's state does not hold (HOST, STORE). -/
  | scanJobEnd (e : Fin 3) (data : List Byte)
  /-- SCAN_READ_FAILURE: the engine; the cause (0 ECC, 1 DMA_ERROR, 2 STORE_FAULT); the octets included so far. -/
  | scanReadFailure (e : Fin 3) (cause : Fin 3) (good : BitVec 32) (data : List Byte)
  /-- SCRUB_PASS: words found with a single-bit error; words found with a double-bit error, by memory and word address, with the FUNC_ID (a
  configuration word), the channel (a cluster buffer), the queue (queue SRAM) or the frame (a switch cell) they belong to; configuration words
  that changed without an error code, by FUNC_ID and word address. -/
  | scrubPass (corrected : BitVec 32) (double : List (EccMemory × Nat × Nat)) (changed : List (Nat × Nat))
  /-- KEEPER_LOCKSTEP_MISMATCH. -/
  | keeperLockstepMismatch
  /-- KEEPER_WATCHDOG_EXPIRED. -/
  | keeperWatchdogExpired
  /-- CLOCK_MONITOR_FAULT. -/
  | clockMonitorFault
  /-- SUPPLY_OUT_OF_WINDOW: the rail. -/
  | supplyOutOfWindow (rail : Rail)
  /-- FAULT_TEST: who writes fault-test, its TOKEN. -/
  | faultTest (r : Requester) (token : Nat)
  /-- FAULT_RECORD_CLEAR: who writes, its TOKEN. -/
  | faultRecordClear (r : Requester) (token : Nat)
  /-- SENTINEL_START. -/
  | sentinelStart
  /-- SENTINEL_STOP. -/
  | sentinelStop
  /-- FEED_QUALIFIED: false feed A, true feed B; the round's samples. -/
  | feedQualified (b : Bool) (m : PowerSample)
  /-- FEED_UNDERVOLTAGE. -/
  | feedUndervoltage (b : Bool) (m : PowerSample)
  /-- FEED_OVERVOLTAGE. -/
  | feedOvervoltage (b : Bool) (m : PowerSample)
  /-- REVERSE_CURRENT. -/
  | reverseCurrent (b : Bool) (m : PowerSample)
  /-- DEAD_TIME_EXPIRED. -/
  | deadTimeExpired (m : PowerSample)
  /-- SERVICE_FEED_CHANGE: whether VBUS_S lies within its limits. -/
  | serviceFeedChange (inLimits : Bool) (m : PowerSample)
  /-- SEAT_DEBOUNCED. -/
  | seatDebounced (m : PowerSample)
  /-- SEAT_RELEASE. -/
  | seatRelease (m : PowerSample)
  /-- RAMP_COMPLETE. -/
  | rampComplete (m : PowerSample)
  /-- RAMP_TIMEOUT. -/
  | rampTimeout (m : PowerSample)
  /-- FAULT_TIMER_EXPIRED. -/
  | faultTimerExpired (m : PowerSample)
  /-- BREAKER_TRIP. -/
  | breakerTrip (m : PowerSample)
  /-- FAST_COMPARATOR_TRIP. -/
  | fastComparatorTrip (m : PowerSample)
  /-- FET_TEMPERATURE_TRIP. -/
  | fetTemperatureTrip (m : PowerSample)
  /-- COOL_EXPIRED. -/
  | coolExpired (m : PowerSample)
  /-- RETRIES_RESTORE. -/
  | retriesRestore
  /-- PG_QUALIFIED. -/
  | pgQualified (m : PowerSample)
  /-- PG_WITHDRAWN. -/
  | pgWithdrawn (m : PowerSample)
  /-- GATE_CHECK. -/
  | gateCheck (m : PowerSample)
  /-- OUTPUT_CHECK_FAIL. -/
  | outputCheckFail (m : PowerSample)
  /-- FET_FAULT_CLEAR: who writes fet-fault-clear, its TOKEN. -/
  | fetFaultClear (r : Requester) (token : Nat)
  /-- POWER_EVENT_FETCH. -/
  | powerEventFetch
  /-- PWR_MODE_REQUEST: who writes pwr-mode-request, its TOKEN, the mode. -/
  | pwrModeRequest (r : Requester) (token : Nat) (mode : BitVec 8)
  /-- HOLDER_POLL. -/
  | holderPoll
  /-- ENTRY_WAIT_EXPIRED. -/
  | entryWaitExpired
  /-- POWER_WAIT_RETIRE: the levels at CHc_A of the channels of wake-channels, in their order. -/
  | powerWaitRetire (watch : BitVec 16)
  /-- WAKE_LATCH_ARM. -/
  | wakeLatchArm
  /-- REST_WAKE. -/
  | restWake
  /-- DORMANT_WAKE: RTC ticks since entry. -/
  | dormantWake (rtc : BitVec 48)
  /-- KEEPER_DOZE_WAKE. -/
  | keeperDozeWake
  /-- EAVES_RELEASE: who writes eaves-release, its TOKEN, the domains. -/
  | eavesRelease (r : Requester) (token : Nat) (domains : BitVec 16)
  /-- SERVICE_ATTACH: attached as source (else as sink). -/
  | serviceAttach (source : Bool)
  /-- SERVICE_DETACH. -/
  | serviceDetach
  /-- PD_SOURCE_CAPABILITIES_RX: MessageID, the PDOs. -/
  | pdSourceCapabilitiesRx (id : Fin 8) (pdos : List (BitVec 32))
  /-- PD_REQUEST_RX: MessageID, the request data object. -/
  | pdRequestRx (id : Fin 8) (rdo : BitVec 32)
  /-- PD_PS_RDY_RX: MessageID. -/
  | pdPsRdyRx (id : Fin 8)
  /-- PD_DR_SWAP_SEND. -/
  | pdDrSwapSend
  /-- PD_DR_SWAP_RX: MessageID. -/
  | pdDrSwapRx (id : Fin 8)
  /-- PD_SWAP_REJECT: MessageID of a PR_Swap (false) or VCONN_Swap (true). -/
  | pdSwapReject (id : Fin 8) (vconn : Bool)
  /-- PD_GET_SINK_CAP_RX: MessageID. -/
  | pdGetSinkCapRx (id : Fin 8)
  /-- PD_OTHER_MESSAGE_RX: MessageID. -/
  | pdOtherMessageRx (id : Fin 8)
  /-- PD_GOODCRC_TIMEOUT. -/
  | pdGoodcrcTimeout
  /-- VBUS_SOURCE_LOW: VBUS in mV. -/
  | vbusSourceLow (mv : BitVec 32)
  /-- MOISTURE_TEST: kΩ measured at CC1, CC2, SBU1, SBU2; none where the pin is not tested. -/
  | moistureTest (cc1 cc2 sbu1 sbu2 : Option (BitVec 16))
  /-- USB_CONNECT. -/
  | usbConnect
  /-- WINDOW_COMMIT: who writes window-commit, its TOKEN, staging offset, length. -/
  | windowCommit (r : Requester) (token : Nat) (offset length : BitVec 32)
  /-- STAGING_VERIFY: who writes, its TOKEN. -/
  | stagingVerify (r : Requester) (token : Nat)
  /-- STAGING_ERASE: who writes, its TOKEN. -/
  | stagingErase (r : Requester) (token : Nat)
  /-- UPDATE_ARM: who writes, its TOKEN. -/
  | updateArm (r : Requester) (token : Nat)
  /-- UPDATE_DISARM: who writes, its TOKEN. -/
  | updateDisarm (r : Requester) (token : Nat)
  /-- UPDATE_RESTART: who writes, its TOKEN. -/
  | updateRestart (r : Requester) (token : Nat)
  /-- UPDATE_CONFIRM: who writes, its TOKEN. -/
  | updateConfirm (r : Requester) (token : Nat)
  /-- FALLBACK_PART: who writes, its TOKEN, the part id. -/
  | fallbackPart (r : Requester) (token : Nat) (part : BitVec 8)
  /-- KEY_REVOKE: who writes, its TOKEN, the slot. -/
  | keyRevoke (r : Requester) (token : Nat) (slot : BitVec 8)
  /-- CONFIRM_WINDOW_EXPIRED. -/
  | confirmWindowExpired
  /-- STORE_REFRESH. -/
  | storeRefresh
  /-- NPOR_RELEASE: the levels of the straps (R600), in the order of straps (R620). -/
  | nporRelease (straps : BitVec 11)
  /-- CCLK_LOCK. -/
  | cclkLock
  /-- KEEPER_READY: µs since nPOR_OUT release. -/
  | keeperReady (us : BitVec 32)
  /-- HUB_READY: µs since KEEPER_READY. -/
  | hubReady (us : BitVec 32)
  /-- HUB_RESET_IN. -/
  | hubResetIn
  /-- VDD_SEN_LOW. -/
  | vddSenLow
  /-- CORE_RAIL_LOW. -/
  | coreRailLow
  /-- STORE_BURST_COMPLETE: whether the store confirms the burst, and whether the write has failed after its retries. -/
  | storeBurstComplete (ok : Bool)
  /-- WAKE_SOURCE_EVENT: source id of R540, its detail (R546), whether it is asserted still (a level) or has passed. -/
  | wakeSourceEvent (id : Fin 8) (detail : BitVec 32) (asserted : Bool)
  /-- PD_DR_SWAP_RESPONSE_RX: MessageID; accepted. -/
  | pdDrSwapResponseRx (id : Fin 8) (accept : Bool)
  /-- PD_HARD_RESET_RX. -/
  | pdHardResetRx
  /-- USB_BUS_STATE_CHANGE: configured, suspended (neither: attached). -/
  | usbBusStateChange (configured suspended : Bool)
deriving DecidableEq, Repr

end Sys2Proof
end

