-- ==== Sys2Proof/WellFormed.lean ====
section
/-!
DEFINITION. Which commands a sender can produce: every operand lies in the field the spec gives it. `exec` gives a meaning to every term; the
statements that need an operand in its field name it.
-/
namespace Sys2Proof

/-- A requester (R432, R433): a node id on the ring path, a key slot and an IPv4 source on the station path, nothing else on the others. -/
def requesterOk (r : Requester) : Bool :=
  match r.path with
  | .ring => decide (1 ≤ r.unit ∧ r.unit ≤ 64 ∧ r.ip = 0)
  | .station => decide (r.unit < 4 ∧ r.ip < 2 ^ 32)
  | .pcie | .service => decide (r.unit = 0 ∧ r.ip = 0)

/-- The header fields of a ring frame in their widths (R89); the payload fits LEN. -/
def frameOk (f : RingFrame) : Bool :=
  decide (f.dst < 128 ∧ f.src < 128 ∧ f.cls < 8 ∧ f.path < 4 ∧ f.hops < 128 ∧ f.type < 64 ∧ f.epoch < 4)
    && decide (f.seq < 65536 ∧ f.tag < 65536 ∧ f.claim < 2 ^ 32 ∧ f.payload.length < 8192 ∧ f.trailer < 2 ^ 32 ∧ f.frac < 5)
    && !f.stomp && !f.waited && f.rxAt == 0

/-- An offset of a host request: within the BAR (R205). -/
def offsetOk (bar : HostBar) (offset : Nat) : Bool :=
  match bar with
  | .bar2 => decide (offset < 2 ^ 30)
  | .bar4 => decide (offset < 2 ^ 21)
  | .config => decide (offset < 4096)
  | .bar0 => decide (offset < 2 ^ 24)
  | .outside => true

/-- The header fields of a dictionary message in their widths (R426). -/
def msgOk (m : DictMsg) : Bool :=
  decide (m.op < 256 ∧ m.flags < 256 ∧ m.token < 65536 ∧ m.index < 65536 ∧ m.sub < 256 ∧ m.abort < 65536 ∧ m.arg < 2 ^ 32)
    && decide (m.data.length ≤ 4080)

/-- A CAN frame: a base identifier has 11 bits, a classical frame at most 8 octets, an FD frame at most 64. -/
def canOk (f : CanFrame) : Bool := (f.ide || decide (f.id.toNat < 2048)) && decide (f.data.length ≤ if f.fdf then 64 else 8)

/-- The decoded fields of a time-code frame (R268). -/
def tcodeOk (f : TcodeFrame) : Bool := decide (1 ≤ f.day ∧ f.day ≤ 366 ∧ f.secs < 86400 ∧ f.control < 2 ^ 32)

/-- A well-formed command. -/
def wellFormed : Instr → Bool
  | .dictRead r token _ _ => requesterOk r && decide (token < 65536)
  | .dictWrite r token _ _ data => requesterOk r && decide (token < 65536) && decide (data.length ≤ 4080)
  | .segStart r token _ _ _ _ => requesterOk r && decide (token < 65536)
  | .segData r token _ _ _ _ data => requesterOk r && decide (token < 65536) && decide (data.length ≤ 4080)
  | .segAbort r token _ _ => requesterOk r && decide (token < 65536)
  | .stallRequest r token => requesterOk r && decide (token < 65536)
  | .keepalive r token => requesterOk r && decide (token < 65536)
  | .stallRelease r token => requesterOk r && decide (token < 65536)
  | .stallHandover r token _ => requesterOk r && decide (token < 65536)
  | .who r token => requesterOk r && decide (token < 65536)
  | .regRead r token _ => requesterOk r && decide (token < 65536)
  | .regWrite r token _ data => requesterOk r && decide (token < 65536) && decide (data.length ≤ 4080)
  | .rwbBoundaryApply _ _ => true
  | .functionStartComplete _ _ => true
  | .functionDrainComplete _ => true
  | .drainLimitExpired _ => true
  | .freset _ _ => true
  | .fresetObjectWrite r token _ => requesterOk r && decide (token < 65536)
  | .functionResetAbortDone _ => true
  | .registerWriteOther _ _ _ _ f => frameOk f
  | .clearTallies r token _ _ => requesterOk r && decide (token < 65536)
  | .timeSourceQualified _ _ _ _ => true
  | .timeSourceLossDeclared _ _ _ _ => true
  | .timeMapUpdate _ => true
  | .phcSourcePresent _ => true
  | .phcSourceLoss _ => true
  | .phcLockAchieved _ freq => decide (freq < 2 ^ 32)
  | .phcAlignSlowDone => true
  | .phcRealign _ freq => decide (freq < 2 ^ 32)
  | .phcCoastLimitExpired => true
  | .phaseFrameSend => true
  | .mainsZeroCrossing freq amplitude => decide (freq < 2 ^ 32) && decide (amplitude < 2 ^ 32)
  | .controlCycleBoundary => true
  | .triggerCommit _ => true
  | .triggerFireNone _ => true
  | .triggerFireOutput _ => true
  | .triggerFireCstart _ => true
  | .triggerFireSeqEvent _ => true
  | .triggerFireCcNotice _ => true
  | .triggerFireCanStart _ => true
  | .triggerFireToutEdge _ => true
  | .triggerFireLtcCapture _ => true
  | .triggerInstantPassed _ => true
  | .triggerDisarmAll r token => requesterOk r && decide (token < 65536)
  | .snap _ => true
  | .tcapEdge _ _ _ => true
  | .tcapHeadRead _ _ => true
  | .ltcNowRead _ => true
  | .toutTimedEdge _ _ => true
  | .ringLinkQualified _ => true
  | .ringBlockLockGained _ => true
  | .ringLockLoss x => (x.mid.map frameOk).getD true
  | .remoteFaultRx _ => true
  | .ridgePass _ f => frameOk f
  | .ringBodyTimeout _ f => frameOk f
  | .ringOrphanBlocks _ bytes => decide (bytes < 65536)
  | .bcnRx _ f => frameOk f
  | .brkRx _ f => frameOk f
  | .joinListenExpired => true
  | .joinReqRx _ f => frameOk f
  | .joinAckRx _ f => frameOk f
  | .joinRefuseRx _ f => frameOk f
  | .joinAnswerTimeout => true
  | .leaveRx _ f => frameOk f
  | .helloRx _ f => frameOk f
  | .rejoin r token => requesterOk r && decide (token < 65536)
  | .bcnSend => true
  | .beaconMissed => true
  | .stewardRankWaitExpired => true
  | .helloSend => true
  | .insertionCreditPeriod _ => true
  | .class01TokenRefill _ => true
  | .ringTxFrameDone _ => true
  | .linkDelayMeasure _ => true
  | .timeSyncSend => true
  | .timeSyncRx _ f => frameOk f
  | .delayReqRx _ f => frameOk f
  | .delayRespRx _ f => frameOk f
  | .phaseRx _ f => frameOk f
  | .seqWindowAgeExpired _ _ => true
  | .dataRx _ f => frameOk f
  | .ringWakeRx _ f => frameOk f
  | .cmdRx _ f => frameOk f
  | .mgmtDictRequestRx _ f => frameOk f
  | .mgmtDictResponseRx _ f => frameOk f
  | .mgmtForwardRetry => true
  | .hostWindowRead bar x len _ => offsetOk bar x && decide (1 ≤ len ∧ len ≤ 4096)
  | .hostWindowWrite bar x data mark =>
    offsetOk bar x && decide (bar ≠ .bar0 ∨ mark ≠ .whole) && decide (1 ≤ data.length ∧ data.length ≤ 4096)
  | .hostAtomicop bar x wide _ operand compare =>
    offsetOk bar x && decide (operand < 2 ^ (if wide then 64 else 32)) && decide (compare < 2 ^ (if wide then 64 else 32))
  | .rdRx _ f => frameOk f
  | .rdrRx _ f => frameOk f
  | .rdxRx _ f => frameOk f
  | .rdRetryIntervalExpired _ => true
  | .rdResponseTimeout _ => true
  | .apertureFetchComplete _ _ _ => true
  | .fetchHoldExpired _ => true
  | .readBudgetExpired _ => true
  | .wrpRx _ f => frameOk f
  | .wrnRx _ f => frameOk f
  | .apertureFlushReadDone => true
  | .wackRx _ f => frameOk f
  | .wnakRx _ f => frameOk f
  | .lkrdRx _ f => frameOk f
  | .lkrtRx _ f => frameOk f
  | .lockRetryWaitExpired => true
  | .wrulRx _ f => frameOk f
  | .lockWatchdogExpired addr => decide (addr < 2 ^ 48)
  | .fenceW _ _ => true
  | .fenceAll _ => true
  | .fenceTimeout _ => true
  | .clearFaultLog r token => requesterOk r && decide (token < 65536)
  | .switchFrameIn _ => true
  | .switchFrameOutDone _ _ _ => true
  | .ctStallExpired _ => true
  | .switchCellTime => true
  | .fwdCommit r token => requesterOk r && decide (token < 65536)
  | .fwdDiscard r token => requesterOk r && decide (token < 65536)
  | .queueDoorbell _ _ _ => true
  | .descriptorFetchDone _ _ _ => true
  | .h2dDataReadDone _ _ _ => true
  | .qportWrite _ _ _ _ => true
  | .qportRead _ _ _ => true
  | .creditSync _ _ => true
  | .creditHoldoffExpired _ => true
  | .queueFlush r token _ => requesterOk r && decide (token < 65536)
  | .queueFlushComplete _ => true
  | .qackClear _ _ _ => true
  | .noticePendClear _ _ => true
  | .irqHoldoffExpired _ => true
  | .pcieFunctionReset => true
  | .busMasterEnableChange _ => true
  | .msixUnmask _ _ masked => masked.all (fun v => decide (v < 128))
  | .pcieCompletionTimeout _ _ => true
  | .uartCharRx _ _ _ _ _ => true
  | .uartGapExpired _ => true
  | .uartBreak _ => true
  | .uartTxPacket _ => true
  | .uartTxPacketSent _ => true
  | .binEdge _ _ => true
  | .binDebounceExpired _ => true
  | .chatterQuietExpired _ => true
  | .wetPulseEnd _ => true
  | .boutCmdOpen _ => true
  | .boutCmdClose _ => true
  | .boutCmdPulse _ => true
  | .boutCmdSafe _ => true
  | .boutPulseEnd _ => true
  | .boutAngleInstant _ => true
  | .claimHoldExpired _ => true
  | .boutReadbackChange _ _ _ => true
  | .readbackWindowExpired _ _ => true
  | .pulseEdge _ _ => true
  | .pulseGateEnd _ => true
  | .pulseCountReset r token _ => requesterOk r && decide (token < 65536)
  | .tcodeFrameRx _ f => tcodeOk f
  | .tcodeOutputEdge _ _ => true
  | .cstartPulseEnd _ => true
  | .lsSample _ _ _ => true
  | .lsDiagnosisCycleEnd _ => true
  | .lsRearm r token _ => requesterOk r && decide (token < 65536)
  | .ledgerMirrorBatch => true
  | .ledgerMirrorIntervalExpired => true
  | .ledgerFlush => true
  | .ledgerRangeRead r token => requesterOk r && decide (token < 65536)
  | .ledgerExportStart r token _ => requesterOk r && decide (token < 65536)
  | .ledgerClear r token => requesterOk r && decide (token < 65536)
  | .canIntegrated _ => true
  | .canFrameRx _ f _ => canOk f
  | .canErrorFrame _ _ _ _ _ _ => true
  | .canOverloadFrame _ _ => true
  | .canBusOffRecovery _ => true
  | .canBusOffRestart r token _ => requesterOk r && decide (token < 65536)
  | .canDominantTimeout _ => true
  | .canStuckReleased _ => true
  | .canTxUpdate _ _ => true
  | .canBasicCycleStart _ => true
  | .canFlashingEnd _ _ _ => true
  | .canLatestStartPassed _ => true
  | .canTxEnd _ => true
  | .canArbitrationLost _ => true
  | .canFreeWindowStart _ _ _ => true
  | .canRefMissed _ => true
  | .canMatrixStop r token _ => requesterOk r && decide (token < 65536)
  | .seqNop _ => true
  | .seqDrive _ => true
  | .seqSample _ pads => decide (pads.length ≤ 16)
  | .seqEmit _ => true
  | .seqLoadB _ => true
  | .seqLoadNb _ => true
  | .seqStoreB _ => true
  | .seqStoreNb _ => true
  | .seqCountImm _ => true
  | .seqCountReload _ => true
  | .seqCountShifter _ => true
  | .seqCountDec _ => true
  | .seqFlagSet _ => true
  | .seqFlagClear _ => true
  | .seqFlagSignal _ => true
  | .seqFlagBroadcast _ => true
  | .seqHold _ => true
  | .seqHoldRelease _ _ => true
  | .seqBranchZero _ => true
  | .seqBranchDecNz _ => true
  | .seqBranchPinHigh _ _ => true
  | .seqBranchPinLow _ _ => true
  | .seqBranchShifter _ => true
  | .seqBranchFlag _ => true
  | .seqStallEnd _ => true
  | .seqGo _ _ => true
  | .seqflagWrite _ _ _ => true
  | .seqWatchdogExpired _ => true
  | .seqRxGapExpired _ => true
  | .seqTxPacket _ => true
  | .staFrameRx _ frame _ _ => decide (14 ≤ frame.length ∧ frame.length ≤ 1522)
  | .ptpMessageRx _ frame _ => decide (14 ≤ frame.length ∧ frame.length ≤ 1522)
  | .prpSupervisionRx _ frame _ => decide (14 ≤ frame.length ∧ frame.length ≤ 1522)
  | .staTxPacket _ => true
  | .staFrameDeparted _ _ => true
  | .prpSupervisionSend => true
  | .nodeTableAgeOut _ => true
  | .duplicateEntryForget _ _ => true
  | .lanSilentTimeout _ => true
  | .staLinkGained _ => true
  | .staLinkLoss _ => true
  | .ptpMessageInterval _ _ => true
  | .ptpAnnounceTimeout _ => true
  | .gooseLedgerRecord => true
  | .gooseHostValueRecord => true
  | .gooseRetransmit _ => true
  | .gooseSubFrameRx => true
  | .gooseSubTalExpired _ => true
  | .gooseSubFirstWaitExpired _ => true
  | .heartbeatRx _ f => frameOk f
  | .swapRequestRx _ f => frameOk f
  | .swapPrepareRx _ f => frameOk f
  | .swapAckRx _ f => frameOk f
  | .swapHandoverRx _ f => frameOk f
  | .swapAbortRx _ f => frameOk f
  | .swapRefuseRx _ f => frameOk f
  | .duplexListenExpired => true
  | .duplexContendExpired => true
  | .duplexHeartbeatTimeout => true
  | .duplexMismatchLimit => true
  | .duplexCompareWindowExpired _ _ => true
  | .duplexClaimPersisted _ => true
  | .dupSwap r token => requesterOk r && decide (token < 65536)
  | .duplexSwapBoundaryK => true
  | .duplexSwapTimeout => true
  | .dupRejoin r token => requesterOk r && decide (token < 65536)
  | .dupClaimClear r token => requesterOk r && decide (token < 65536)
  | .claimReset r token _ => requesterOk r && decide (token < 65536)
  | .cmdDispatchPacket => true
  | .mirrorRecordRx => true
  | .mboxPost _ _ => true
  | .stationDictRequest q => decide (q.payload.length ≤ 1472)
  | .arpRequestRx _ _ _ _ => true
  | .keyCeilingPersisted _ => true
  | .keyWrite r token _ key => requesterOk r && decide (token < 65536) && decide (key.length ≤ 4080)
  | .serviceDictRequest m => msgOk m
  | .stallElectionClose => true
  | .stallLeaseLapse => true
  | .stallReservationLapse => true
  | .stallPathGone => true
  | .segSessionTimeout r => requesterOk r
  | .saveConfig r token => requesterOk r && decide (token < 65536)
  | .restoreDefaults r token => requesterOk r && decide (token < 65536)
  | .scanGo _ _ => true
  | .scanStop r token _ => requesterOk r && decide (token < 65536)
  | .scanJobEnd _ _ => true
  | .scanReadFailure _ _ _ _ => true
  | .scrubPass _ double changed => double.all (fun e => decide (e.2.1 < 2 ^ 32 ∧ e.2.2 < 65536)) && changed.all (fun e => decide (e.1 < 65536 ∧ e.2 < 2 ^ 32))
  | .keeperLockstepMismatch => true
  | .keeperWatchdogExpired => true
  | .clockMonitorFault => true
  | .supplyOutOfWindow _ => true
  | .faultTest r token => requesterOk r && decide (token < 65536)
  | .faultRecordClear r token => requesterOk r && decide (token < 65536)
  | .sentinelStart => true
  | .sentinelStop => true
  | .feedQualified _ _ => true
  | .feedUndervoltage _ _ => true
  | .feedOvervoltage _ _ => true
  | .reverseCurrent _ _ => true
  | .deadTimeExpired _ => true
  | .serviceFeedChange _ _ => true
  | .seatDebounced _ => true
  | .seatRelease _ => true
  | .rampComplete _ => true
  | .rampTimeout _ => true
  | .faultTimerExpired _ => true
  | .breakerTrip _ => true
  | .fastComparatorTrip _ => true
  | .fetTemperatureTrip _ => true
  | .coolExpired _ => true
  | .retriesRestore => true
  | .pgQualified _ => true
  | .pgWithdrawn _ => true
  | .gateCheck _ => true
  | .outputCheckFail _ => true
  | .fetFaultClear r token => requesterOk r && decide (token < 65536)
  | .powerEventFetch => true
  | .pwrModeRequest r token _ => requesterOk r && decide (token < 65536)
  | .holderPoll => true
  | .entryWaitExpired => true
  | .powerWaitRetire _ => true
  | .wakeLatchArm => true
  | .restWake => true
  | .dormantWake _ => true
  | .keeperDozeWake => true
  | .eavesRelease r token _ => requesterOk r && decide (token < 65536)
  | .serviceAttach _ => true
  | .serviceDetach => true
  | .pdSourceCapabilitiesRx _ pdos => decide (1 ≤ pdos.length ∧ pdos.length ≤ 7)
  | .pdRequestRx _ _ => true
  | .pdPsRdyRx _ => true
  | .pdDrSwapSend => true
  | .pdDrSwapRx _ => true
  | .pdSwapReject _ _ => true
  | .pdGetSinkCapRx _ => true
  | .pdOtherMessageRx _ => true
  | .pdGoodcrcTimeout => true
  | .vbusSourceLow _ => true
  | .moistureTest _ _ _ _ => true
  | .usbConnect => true
  | .windowCommit r token _ _ => requesterOk r && decide (token < 65536)
  | .stagingVerify r token => requesterOk r && decide (token < 65536)
  | .stagingErase r token => requesterOk r && decide (token < 65536)
  | .updateArm r token => requesterOk r && decide (token < 65536)
  | .updateDisarm r token => requesterOk r && decide (token < 65536)
  | .updateRestart r token => requesterOk r && decide (token < 65536)
  | .updateConfirm r token => requesterOk r && decide (token < 65536)
  | .fallbackPart r token _ => requesterOk r && decide (token < 65536)
  | .keyRevoke r token _ => requesterOk r && decide (token < 65536)
  | .confirmWindowExpired => true
  | .storeRefresh => true
  | .nporRelease _ => true
  | .cclkLock => true
  | .keeperReady _ => true
  | .hubReady _ => true
  | .hubResetIn => true
  | .vddSenLow => true
  | .coreRailLow => true
  | .storeBurstComplete _ => true
  | .wakeSourceEvent _ _ _ => true
  | .pdDrSwapResponseRx _ _ => true
  | .pdHardResetRx => true
  | .usbBusStateChange _ _ => true

end Sys2Proof
end

