-- ==== Sys2Proof/Config.lean ====
section
/-!
DEFINITION. What one part has fixed and the spec does not give (OTP contents, versions), the cryptographic functions the spec names
by their standard only, and the free values: opaque constants, so that nothing can be proved of a value of theirs.
-/
namespace Sys2Proof.Config

/-- serial-number, "from OTP" (R453). -/
opaque serialNumber : List Byte
/-- mac-base, "from OTP" (R453). -/
opaque macBase : List Byte
/-- keeper-version (R453): no default given. -/
opaque keeperVersion : Nat
/-- config-format, "format in use" (R588). -/
opaque configFormat : Nat
/-- key-slots-valid, "from OTP" (R592). -/
opaque keySlotsValid : Nat
/-- key-slots-revoked, "from OTP" (R592). -/
opaque keySlotsRevoked : Nat
/-- key-digests, "from OTP" (R592). -/
opaque keyDigests : List Byte
/-- HMAC-SHA-256 of a message under a key (R437), its 32 octets as one number, the first octet most significant. -/
opaque hmacSha256 (key msg : List Byte) : BitVec 256
/-- SHA-256 of octets (R574, R575). -/
opaque sha256 (msg : List Byte) : List Byte
/-- Verification of an ECDSA P-256 signature: key, digest, signature (R574). -/
opaque ecdsaVerify (key digest sig : List Byte) : Bool
/-- The octets of the image set a part leaves the factory with (R569): no contents given. -/
opaque factoryImage (offset : Nat) : Byte
/-- A saved value converted from one configuration format to another (R585); none where it cannot be converted. -/
opaque convertValue (from_ to_ key : Nat) (old : List Byte) : Option (List Byte)
/-- The fraction of a tick, in 0.5 ns, at which the PHY of a ring port (true RING-W) stamps a departure in a period of the LTC (R39). -/
opaque txFraction (west : Bool) (ltc : Nat) : Fin 5
/-- A word of the header that the AER header log takes at the n-th error logged (R209): a TLP's header is not given. -/
opaque tlpHeader (n k : Nat) : BitVec 32
/-- A value the spec leaves open, of width `w`: the argument is the counter of State that a step reads and advances. -/
opaque free (w n : Nat) : BitVec w

end Sys2Proof.Config
end

