-- ==== Sys2Proof/Machine/State.lean ====
section
/-!
DEFINITION. The state of the hub as plain data: one structure for each block of the spec, the object dictionary as one store of
values by index and subindex, and the queue of the commands that are waiting. `State.reset` is the hub at power-up.
-/
namespace Sys2Proof.Machine

/-- A value of the object dictionary as it is stored: the raw number of a fixed-width type (two's complement for the signed
types), or the octet string of a STRING, OCTETS or DOMAIN. -/
inductive Val where
  | num (n : Nat)
  | oct (b : List Byte)
deriving DecidableEq, Repr

/-- Sparse data by key. Canonical form: keys strictly rising, and no entry equal to what an unlisted key reads as (`SMap.wf` in
Machine/Ops.lean), so that equal contents are equal data. -/
abbrev SMap (α : Type) := List (Nat × α)

/-- Memory: octets by address, in the canonical form of `SMap` (`Memory.wf`). -/
abbrev Memory := List Host.Cell

/-- The STATE field of FSTATE (R30). -/
inductive Life where
  | off | starting | on | stopping
deriving DecidableEq, Repr

/-- The life cycle of one function (R30, R31, R34). -/
structure FState where
  life : Life := .off
  /-- FAULT: the function last left ON through a fault reaction. -/
  fault : Bool := false
  /-- PENDING_EN: STOPPING with the enable object true. -/
  pendingEn : Bool := false
  /-- The function is in reset (R34): from the reset write until it leaves STOPPING. -/
  inReset : Bool := false
deriving DecidableEq, Repr

/-- What the hub shows the outside world: frames, messages, bus transactions, answers. The model's own log of the hub's emissions,
newest first (a log entry names it); each constructor says what leaves the hub. -/
inductive Out where
  /-- A frame leaves on a ring port: false RING-E, true RING-W (R90). -/
  | ringFrame (west : Bool) (f : RingFrame)
  /-- An ordered set or lane control on a ring port (R87, R117). -/
  | ringControl (west : Bool) (what : RingControl)
  /-- A frame leaves a station port: false STA-A, true STA-B. -/
  | station (b : Bool) (frame : List Byte)
  /-- A frame that was leaving a station port is aborted on the wire (R174). -/
  | stationAbort (b : Bool)
  /-- An MSI-X message of a vector (R207, R212), with the address and the data word of its table entry. -/
  | msix (vector addr data : Nat)
  /-- The hub writes host memory. -/
  | hostWrite (addr : Nat) (data : List Byte)
  /-- The hub asks to read host memory. -/
  | hostRead (addr : Nat) (len : Nat)
  /-- The hub completes a PCIe read of the host with data. -/
  | hostData (data : List Byte)
  /-- The hub completes a PCIe request of the host with Completer Abort. -/
  | hostAbort
  /-- The hub completes a PCIe request of the host with Unsupported Request (R209). -/
  | hostUnsupported
  /-- A register read returns a value to a path. -/
  | regValue (path : RegPath) (value : Nat)
  /-- A dictionary response leaves on a path (R426, R429). -/
  | response (to_ : Requester) (msg : List Byte)
  /-- A channel sends serial characters of up to nine bits (R249, R253). -/
  | uart (c : Nat) (chars : List Nat)
  /-- A CAN controller starts a frame (R306). -/
  | canFrame (n : Nat) (buf : Nat) (data : List Byte)
  /-- A Power Delivery message or signal leaves on CC (R557 to R560). -/
  | pd (m : PdOut)
  /-- An output pin of a channel is driven: pin 0 A, 1 B, 2 C. -/
  | pin (c : Nat) (pin : Nat) (level : Bool)
  /-- A TOUT pin is driven at an LTC. -/
  | tout (i : Nat) (level : Bool) (at_ : Nat)
  /-- A time-code output sends an element of its frame: its number and its width in ms (R268). -/
  | timeCode (c element width : Nat)
  /-- A notice is raised for the keeper only (CC_NOTICE to the keeper, R67). -/
  | keeperNotice (t : Nat)
deriving DecidableEq, Repr

/-- One segment of the time map (R25): it starts at tick `l0` with station time `st0`, counted in units of 2.5e-9 ns so that
`st = st0 + (l - l0) * (10^9 + rate)` is exact, and runs at `rate` ppb. -/
structure Segment where
  l0 : Nat
  st0 : Nat
  rate : Int
deriving DecidableEq, Repr

/-- The time unit's state from a tick on (R26, R45): SYNC_STATE, the LTC of the last locked map update and the sleep uncertainty. -/
structure TimeMark where
  l0 : Nat
  sync : Nat
  lastLocked : Nat := 0
  sleepUnc : Nat := 0
deriving DecidableEq, Repr

/-- One line of the phase clock (R53): from tick `l0` with phase `base` at `rate` µHz; `nominal` is its distance from NOMINAL phase while the clock
follows NOMINAL (R54). -/
structure PhaseLine where
  l0 : Nat
  base : Nat
  rate : Nat
  nominal : Option Int := none
deriving DecidableEq, Repr

/-- One capture of a TCAP pin (R72, R78). -/
structure Capture where
  ltc : Nat
  /-- Fraction in 0.5 ns, 0 to 4. -/
  frac : Nat
  rising : Bool
deriving DecidableEq, Repr

/-- The snapshot registers (R74, R76, R77). -/
structure Snapshot where
  seq : Nat := 0
  trig : Nat := 0
  sync : Nat := 0
  phcState : Nat := 0
  src : Nat := 0
  ltc : Nat := 0
  st : Nat := 0
  phc : Nat := 0
deriving DecidableEq, Repr

/-- What a trigger entry holds beside its objects (R60, R62): the occurrence it waits for (ns of ST, PHASE64, or control-cycle
number), the firing LTC fixed at commit, and the firings since trig-enable was last written true. -/
structure TrigState where
  target : Nat := 0
  firing : Nat := 0
  fires : Nat := 0
deriving DecidableEq, Repr

/-- The time unit: LTC, station time, phase clock, control cycle, captures, time outputs (R38 to R83). -/
structure TimeUnit where
  /-- The local tick counter (R38). -/
  ltc : BitVec 64 := 0
  /-- Whether CCLK runs. -/
  cclk : Bool := false
  /-- The kept segments, newest first, at most 64 (R25). -/
  segs : List Segment := []
  /-- The sources that are qualified (R41). -/
  qualified : List TimeSource := []
  /-- The time unit's state over the kept segments, newest first, at most 64 (R26, R45). -/
  marks : List TimeMark := []
  /-- The segments and the marks before the kept ones, newest first, at most 4,096: those with which a unit that forms its record late converted the stamp
  as it latched it (R25). -/
  segsPast : List Segment := []
  marksPast : List TimeMark := []
  /-- Offset of the selected source still to be removed by slewing, in ns, positive when ST lags (R44). -/
  slew : Int := 0
  /-- The correction of the running segment in ppb, and the LTC from which what it removes counts (R44). -/
  slewCorr : Int := 0
  slewAt : Nat := 0
  /-- The rate that tracks the source, in ppb (R44). -/
  track : Int := 0
  /-- LTC of the last locked map update (R45). -/
  lastLocked : Nat := 0
  /-- Sleep uncertainty in ns (R81). -/
  sleepUnc : Nat := 0
  /-- LTC at which the phase clock has phase `phcBase` (PHASE64, unwrapped count of 2^-32 cycles). -/
  phcL0 : Nat := 0
  phcBase : Nat := 0
  /-- Frequency the phase clock runs at, in µHz. -/
  phcFreq : Nat := 50000000
  /-- What tracking adds to it, in µHz, to take out a phase difference of 1° at most (R53). -/
  phcTrim : Int := 0
  /-- The distance from NOMINAL phase, in 2^-32 cycle, while the clock follows NOMINAL (R54). -/
  phcNominal : Option Int := none
  /-- The earlier lines of the phase clock, newest first, at most 64 (R26: the phase at a stamp). -/
  phcPast : List PhaseLine := []
  /-- Whether the phase clock was LOCKED or COASTING from an LTC on, newest first, at most 64 (R275: PHASE_VALID at the stamp). -/
  usable : List (Nat × Bool) := []
  /-- A returning source being acquired while the phase clock runs on another one, 0 none (R52). -/
  phcCand : Nat := 0
  /-- Difference still to be removed at half frequency, in 2^-32 cycle (R53); 0 none. -/
  phcSlow : Nat := 0
  /-- The source to report when the slow alignment ends, and its frequency in µHz. -/
  phcSlowSrc : Nat := 0
  phcSlowFreq : Nat := 0
  /-- The last cycle frequencies of the DPLL, newest first, at most 8, in µHz (R622). -/
  cycles : List Nat := []
  /-- Phase sources present, by code (R50). -/
  present : List PhaseSource := []
  /-- The phase the followed ring master last sent, corrected for ring delay, at the LTC of its receipt; its frequency in µHz and rocof (R50, R123). -/
  ringL0 : Nat := 0
  ringPhase : Nat := 0
  ringFreq : Nat := 50000000
  ringRocof : Int := 0
  /-- The last frame of the followed master makes RING present: it reports LOCKED or COASTING and a frequency in range (R50, R51). -/
  ringGood : Bool := false
  /-- The current control-cycle number (R57). -/
  ccNumber : Nat := 0
  /-- The high LTC word latched by each path's LTC_NOW_LO read (R40), by path code. -/
  ltcHi : SMap Nat := []
  snap : Snapshot := {}
  /-- The capture FIFOs, oldest first, at most 4 each (R72). -/
  tcap : SMap (List Capture) := []
  /-- A run of overflows is in progress on a TCAP pin (R72), and OVF_CNT (R78). -/
  tcapRun : SMap Bool := []
  tcapOvf : SMap Nat := []
  /-- The last 1PPS edge on the pin of tcap-pps-pin: its LTC and fraction (R41, R72). -/
  pps : Option (Nat × Nat) := none
  /-- The levels of the TOUT pins (R73). -/
  toutLevel : SMap Bool := []
  /-- The trigger entries' internal state. -/
  trig : SMap TrigState := []
  /-- The last firing on each target, by action * 65536 + target: its firing LTC and its entry (R65). -/
  lastAct : SMap (Option (Nat × Nat)) := []
  /-- LTC at DORMANT entry (R83). -/
  dormantLtc : Nat := 0
deriving DecidableEq, Repr

/-- The sequence window of one source and class (R106). -/
structure SeqWindow where
  valid : Bool := false
  /-- H, the highest accepted SEQ. -/
  high : Nat := 0
  /-- The map of H − 63 to H: bit i marks H − i. -/
  map : Nat := 0
deriving DecidableEq, Repr

/-- A transmit lane of the ring (R113 to R116). -/
structure Lane where
  /-- Transit frames of ranks 1 and 2. -/
  prio : List RingFrame := []
  /-- Transit frames of classes 2 to 7. -/
  bulk : List RingFrame := []
  /-- Local frames, oldest first. -/
  loc : List RingFrame := []
  credit : Nat := 0
  tokens : Nat := 0
  /-- The receive lane holds block lock (R87). -/
  lock : Bool := false
  /-- The port's link is declared lost: frames wrap, Remote Fault is sent (R87, R109). -/
  lost : Bool := false
  /-- The last link-delay values in ps, newest first, at most 8 (R121). -/
  delays : List Int := []
  /-- Departure ST of the last DELAY_REQ in 2^-16 ns (R121). -/
  delayT1 : Nat := 0
deriving DecidableEq, Repr

/-- The ring interface (R85 to R128). -/
structure Ring where
  laneE : Lane := {}
  laneW : Lane := {}
  windows : SMap SeqWindow := []
  /-- The SEQ counters of classes 0 and 1, and of classes 2 to 7 by destination * 8 + class (R105). -/
  seq0 : Nat := 0
  seq1 : Nat := 0
  seqN : SMap Nat := []
  /-- Last SEQ received in classes 4 and 5, by source * 8 + class, plus 1; 0 none (R105). -/
  rxSeq : SMap Nat := []
  /-- EPOCH of that frame. -/
  rxEpoch : SMap Nat := []
  /-- The hub listens for a BCN (R96 step 1). -/
  listening : Bool := false
  /-- Steward heard while listening, 0 none, and the port it was heard on. -/
  heard : Nat := 0
  heardWest : Bool := false
  /-- JOIN_REQ sent and not answered: tries so far, 0 none (R96). -/
  tries : Nat := 0
  nonce : BitVec 32 := 0
  /-- The id a join asks for. -/
  wantId : Nat := 0
  /-- Three beacons in a row were missed (R99). -/
  stewardLost : Bool := false
  /-- What the steward keeps: granted rates and weights by id (R100, R102). -/
  grants : SMap Nat := []
  weights : SMap Nat := []
  beaconCount : Nat := 0
  /-- Σ insertion weights of the last BCN (R115). -/
  weightSum : Nat := 1
  phaseMasterId : Nat := 0
  /-- LTC plus 1 of the last step of the ordering epoch (R110); spans round the ring, from the hub's own beacon coming back, 0 unknown (R101, R108). -/
  stepAt : Nat := 0
  spans : Nat := 0
  /-- path-policy of the last recompute (R107). -/
  policy : Nat := 0
  /-- The last SYNC of each sender that reported LOCK_PTP or LOCK_TCODE: LTC plus 1; 0 none (R119). -/
  syncSeen : SMap Nat := []
  /-- Where the steward places a member eastward of itself, by id (R101): 1 + spans east, or 2000 less the spans west. -/
  place : SMap Nat := []
  /-- Last PHASE frame of each sender: LTC plus 1; 0 none (R51). -/
  phaseSeen : SMap Nat := []
  /-- The nearest member west reported by each neighbour's HELLO. -/
  helloWestE : Nat := 0
  helloWestW : Nat := 0
deriving DecidableEq, Repr

/-- One RD transaction of a host read (R139, R156). -/
structure ReadPart where
  tag : Nat
  host : Nat
  w : Nat
  addr : Nat
  len : Nat
  retry : Nat := 0
  /-- The data of the part, once it has come. -/
  data : Option (List Byte) := none
  /-- RDX has come: the part waits to be issued again. -/
  waits : Bool := false
deriving DecidableEq, Repr

/-- A host AtomicOp that waits or runs (R162). -/
structure AtomicOp where
  w : Nat
  offset : Nat
  wide : Bool
  kind : AtomicKind
  operand : Nat
  compare : Nat
  /-- The transaction tag of its LKRD, taken on arrival. -/
  tag : Nat := 0
  lkrts : Nat := 0
  /-- 0 waiting for the slot, 1 LKRD sent, 2 WRUL sent, 3 waiting node id × 1 µs. -/
  phase : Nat := 0
  old : List Byte := []
deriving DecidableEq, Repr

/-- A transaction of a window that waits behind a host AtomicOp of the window whose LKRD has not left (R147): the tag of the AtomicOp, the frame, its
flow label. -/
structure BehindTxn where
  after : Nat
  frame : RingFrame
  label : Nat
deriving DecidableEq, Repr

/-- A request that waits at the target for a granule or behind its flow (R137, R163): a ring transaction, a host access to the post SRAM, or the keeper's
write of a mailbox response (REQ_SEQ, TARGET, abort code, octets). -/
inductive Waiting where
  | ring (f : RingFrame)
  | hostRead (off len : Nat)
  | hostWrite (off : Nat) (data : List Byte)
  | mailbox (seq target code : Nat) (data : List Byte)
deriving DecidableEq, Repr

/-- The fences of one window (R148 to R153). -/
structure Fence where
  /-- Tag of the marker that is out, plus 1; 0 none. -/
  tag : Nat := 0
  resent : Bool := false
  held : Bool := false
  /-- The running fence counts for FENCE_ALL. -/
  forAll : Bool := false
  /-- The write tag that comes next after the marker that is out (R148, R158). -/
  upto : Nat := 0
  /-- The window has issued a write since its last marker. -/
  wrote : Bool := false
  epoch : Nat := 0
  seq : Nat := 0
  incomplete : Bool := false
  epochChanged : Bool := false
  faulted : Nat := 0
deriving DecidableEq, Repr

/-- A read-fetch buffer (R154, R155): running, or holding data or a failure status. -/
structure FetchBuf where
  retry : Nat
  src : Nat
  init : Nat
  addr : Nat
  len : Nat
  ap : Nat
  result : Option (Nat × List Byte) := none
deriving DecidableEq, Repr

/-- A granule lock (R162 to R164). -/
structure Lock where
  granule : Nat
  src : Nat
  init : Nat
  addr : Nat
  size : Nat
  /-- Tag of the LKRD, which its WRUL echoes. -/
  tag : Nat
  /-- An aperture lock whose old value is still being read from host memory. -/
  reading : Bool := false
  /-- The grant of this cycle, not answered yet (R163). -/
  fresh : Bool := false
deriving DecidableEq, Repr

/-- The bridge (R129 to R170). -/
structure Bridge where
  nextTag : Nat := 0
  /-- Write tags by initiator (R158), and address and length of the writes they number, by initiator * 65536 + tag. -/
  wtags : SMap Nat := []
  wsent : SMap (Nat × Nat) := []
  nextRetry : Nat := 1
  nextHost : Nat := 0
  parts : List ReadPart := []
  slot : Option AtomicOp := none
  /-- Host AtomicOps that wait for the slot, oldest first, and those that wait node id × 1 µs after LKRT (R165). -/
  atomics : List AtomicOp := []
  retrying : List AtomicOp := []
  /-- Transactions that wait behind an AtomicOp of their window (R147), oldest first. -/
  behind : List BehindTxn := []
  fences : SMap Fence := []
  /-- FENCE_ALL: running, held, windows still to complete, and its report. -/
  allRunning : Bool := false
  allHeld : Bool := false
  allLeft : List Nat := []
  /-- Windows that the running FENCE_ALL only reports (R149). -/
  allRest : List Nat := []
  allAcc : Nat := 0
  allAccInc : Bool := false
  allAccEpoch : Bool := false
  allSeq : Nat := 0
  allFaulted : Nat := 0
  allInc : Bool := false
  allEpoch : Bool := false
  fetches : List FetchBuf := []
  locks : List Lock := []
  /-- Requests that wait for a granule or behind their flow (R137, R163), oldest first. -/
  waiting : List Waiting := []
  /-- WRN answers that wait for a zero-length read behind aperture writes (R137). -/
  flushes : List RingFrame := []
  /-- The fault log by slot, eight words each, the next slot, and LOG_SEQ (R159 to R161). -/
  log : SMap (List Nat) := []
  logSlot : Nat := 63
  logSeq : Nat := 0
  /-- Transactions to the hub's own node id, served inside the hub (R138). -/
  loop : List RingFrame := []
deriving DecidableEq, Repr

/-- A packet at a switch input (R175, R176): routed by a route id, or a ring frame the hub sends by fixed delivery. -/
structure SwPacket where
  data : List Byte := []
  route : Nat := 0
  /-- A ring frame sent by fixed delivery, and its output port: 12, 13, or 14 for both ring ports; 0 to 11 for a CMD for a local output (R176), whose
  channel in its cluster `route` names. -/
  fixed : Option (RingFrame × Nat) := none
  /-- Class and source of an extracted frame: class + 1, 0 when local; SRC; TYPE. -/
  rxClass : Nat := 0
  rxSrc : Nat := 0
  rxType : Nat := 0
  stamp : Option Nat := none
  ended : Bool := true
  err : Bool := false
  /-- H2D queue + 1 the packet comes from; 0 none. -/
  queue : Nat := 0
  /-- Credits the packet holds in a word queue (R227), and the descriptors it is made of. -/
  credits : Nat := 0
  descs : List Nat := []
  /-- FUNC_ID + 1 of the block that sent the packet and still counts it in its buffer; 0 none (R247). -/
  owner : Nat := 0
  /-- A new-state frame of a GOOSE block (R370). -/
  newState : Bool := false
  /-- The supervisor's claim when the packet left its queue (R262). -/
  claim : Nat := 0
  /-- TS_INSERT offset, and the descriptor that asked for ECHO (R219). -/
  insOff : Option Nat := none
  echo : Option (Nat × Nat) := none
deriving DecidableEq, Repr

/-- One target of a stored frame (R180). -/
structure SwCopy where
  port : Nat
  clDest : Nat := 0
  hostQ : Nat := 0
  svc : Nat := 0
  /-- The ring frame of a ring copy. -/
  frame : Option RingFrame := none
  ct : Bool := false
  /-- Admitted on the port's reserve (R187). -/
  onReserve : Bool := false
deriving DecidableEq, Repr

/-- The account that pays for a frame's cells (R187, R188). -/
inductive Account where
  | shared
  | reserve (port : Nat)
  | c0Route
  | c0Unrouted
  | c0Extract
deriving DecidableEq, Repr

/-- A frame stored in the shared buffer (R180, R181). -/
structure SwFrame where
  pkt : SwPacket
  input : Nat
  cls : Nat
  cells : Nat
  /-- Cells written into the buffer so far (R172). -/
  wrote : Nat := 1
  epoch : Nat
  copies : List SwCopy
  account : Account
deriving DecidableEq, Repr

/-- A matched pair (R192): the output is the key; the input, the class, the frame and the cells moved. -/
structure SwMatch where
  input : Nat
  cls : Nat
  id : Nat
  /-- Cells moved, and octets of the next one that port 16 has moved (R220). -/
  moved : Nat
  part : Nat := 0
deriving DecidableEq, Repr

/-- What a service or cluster output, or a station port, has been handed and not yet consumed. -/
structure Delivered where
  target : Nat
  data : List Byte
  inPort : Nat
  route : Nat
  stamp : Option Nat := none
  insOff : Option Nat := none
  echo : Option (Nat × Nat) := none
  claim : Nat := 0
  /-- Class of the frame. -/
  cls : Nat := 4
  /-- H2D queue + 1, credits and descriptors a command packet still holds (R397). -/
  queue : Nat := 0
  credits : Nat := 0
  descs : List Nat := []
deriving DecidableEq, Repr

/-- The switch core (R171 to R203). -/
structure Switch where
  /-- Frames waiting at each input port, oldest first. -/
  inputs : SMap (List SwPacket) := []
  /-- Frames in the shared buffer, by the number they took at admission. -/
  frames : SMap (Option SwFrame) := []
  nextId : Nat := 0
  /-- Frames whose cells have been freed, with the LTC; the cells return at the end of that cell time (R196). -/
  freed : List (Nat × SwFrame) := []
  /-- Cells that a frame which ended short of its presented length gave back, with the LTC and the account they return to at the end of that cell time
  (R186, R196). -/
  returned : List (Nat × Account × Nat) := []
  /-- Virtual output queues by (input * 18 + output) * 8 + class: frame numbers, oldest first. -/
  voq : SMap (List Nat) := []
  matched : SMap (Option SwMatch) := []
  grantPtr : SMap Nat := []
  acceptPtr : SMap Nat := []
  /-- The two copies of the forwarding table: 128-bit entries by route id (R178, R183). -/
  fwd0 : SMap Nat := []
  fwd1 : SMap Nat := []
  /-- A staging write has come since the last flip (R184). -/
  staged : Bool := false
  /-- LTC plus 1 of the last SWITCH_TAIL_DROP of each port (R191). -/
  dropNotice : SMap Nat := []
  /-- Packets handed to the service output's consumers, to channels (by channel), to sequencers (0x100 + s), to station ports
  (0x200 + port), oldest first. -/
  delivered : SMap (List Delivered) := []
deriving DecidableEq, Repr

/-- A word-mode item (R224). -/
structure QItem where
  sop : Bool
  eop : Bool
  err : Bool
  data : List Byte
deriving DecidableEq, Repr

/-- A descriptor the hub has fetched and not completed (R219). -/
structure QDesc where
  idx : Nat
  addr : Nat
  len : Nat
  flags : Nat
  /-- BULK: ring address; PACKET: INS_OFF. -/
  target : Nat
  /-- The data of the descriptor has arrived. -/
  got : Bool := false
  /-- STATUS and BYTES of the completion the descriptor will have (R221). -/
  done : Option (Nat × Nat) := none
  /-- ECHO_STAMP, once the frame has left. -/
  echo : Option Nat := none
  /-- FENCE of a BULK descriptor: 0 none or done, 1 its data has been sent, 2 its markers are out (R223). -/
  fence : Nat := 0
deriving DecidableEq, Repr

/-- The packet a D2H queue is receiving, or is still placing into granted buffers (R220, R229). -/
structure QRest where
  /-- The packet's data so far. -/
  data : List Byte
  /-- Octets already placed in items or buffers. -/
  placed : Nat := 0
  ended : Bool := false
  err : Bool := false
  /-- The packet has become available (R229). -/
  avail : Bool := false
  /-- Further octets of the packet are known to follow what has come. -/
  more : Bool := false
  /-- ct-thresh at its start. -/
  ct : Nat := 0
  stamp : Option Nat := none
  inPort : Nat
  route : Nat
deriving DecidableEq, Repr

/-- The state of one hardware queue beside its objects (R216 to R235). -/
structure QState where
  pidxAcc : Nat := 0
  cidx : Nat := 0
  /-- Index of the next descriptor whose fetch is outstanding. -/
  fetchIdx : Nat := 0
  /-- Index of the next descriptor to ask host memory for. -/
  reqIdx : Nat := 0
  /-- Descriptor reads still under way whose descriptors a fault, a stop or a reset has taken from the queue. -/
  staleFetch : Nat := 0
  /-- Data reads under way, oldest first: the index of the descriptor; 65,536 where it has been taken from the queue. -/
  reads : List Nat := []
  /-- The descriptors fetched so far leave a packet open (R221). -/
  fetchOpen : Bool := false
  /-- Descriptors of the open packet whose data has come. -/
  openIdx : List Nat := []
  released : Nat := 0
  posted : Nat := 0
  /-- The inverted copies of the write and read pointers (R231): 2^32 − 1 less the pointer. -/
  invPosted : Nat := 0xFFFFFFFF
  invReleased : Nat := 0xFFFFFFFF
  items : List QItem := []
  /-- Data of the H2D packet that is open, oldest first (R221, R226). -/
  openData : List Byte := []
  /-- A packet is open. -/
  isOpen : Bool := false
  /-- The open packet is longer than MAX_FRAME and is being discarded (R218). -/
  oversized : Bool := false
  /-- The open packet has become available at ct-thresh and its frame is at the switch (R229). -/
  ctOut : Bool := false
  /-- ct-thresh of the open packet (R229). -/
  ctUse : Nat := 0
  descs : List QDesc := []
  /-- Granted D2H buffers, fetched: index and address; none: a grant that completes with a STATUS other than OK, its code. -/
  bufs : List (Nat × Option Nat × Nat) := []
  rest : Option QRest := none
  /-- Items at the tail that are present and not yet readable (R225, R229). -/
  held : Nat := 0
  /-- Items of the open H2D packet that are in the queue. -/
  openN : Nat := 0
  /-- The reader of a D2H word queue is inside a packet. -/
  mid : Bool := false
  flushing : Bool := false
  /-- Flush of an H2D descriptor queue: descriptors before this index that start a packet complete with FLUSHED, plus 1; 0 none. -/
  flushTo : Nat := 0
  flushCount : Nat := 0
  /-- Arrivals are discarded up to the next EOP (R231, R232). -/
  dropToEop : Bool := false
  wmHighSticky : Bool := false
  wmLowSticky : Bool := false
  creditViol : Bool := false
  ptrFault : Bool := false
  /-- Events not yet signalled under irq-mode 2 (R235). -/
  irqGathered : Nat := 0
  /-- Credits released since the last credit-word write (R228). -/
  creditDue : Nat := 0
  /-- Nodes a BULK queue has written since its previous FENCE, and writes faulted since (R223). -/
  bulkNodes : List Nat := []
  bulkFaulted : Nat := 0
  /-- ordering-epoch at the last FENCE of a BULK queue, or at its start, and whether a marker of the running one could not be confirmed (R149, R151). -/
  bulkEpoch : Nat := 0
  bulkInc : Bool := false
  /-- Fence markers not yet answered, by tag and node, and whether they have been sent a second time. -/
  bulkMarkers : List (Nat × Nat) := []
  bulkResent : Bool := false
  /-- The bulk write tag that comes next after those markers (R158). -/
  bulkUpto : Nat := 0
  /-- Packets of the queue dropped at admission since the previous FENCE (R223). -/
  admDrops : Nat := 0
deriving DecidableEq, Repr

/-- A notice as it is raised (R236). -/
structure Notice where
  code : Nat
  fid : Nat
  args : List Nat
  stamp : Nat
deriving DecidableEq, Repr

/-- The PCI Express endpoint and the global registers (R204 to R215, R236 to R238). -/
structure HostIf where
  busMaster : Bool := false
  msixEnable : Bool := false
  functionMask : Bool := false
  /-- Vectors whose own mask bit is set. -/
  vectorMask : List Nat := List.range 128
  /-- Pending bit array: vectors recorded and not sent. -/
  pba : List Nat := []
  /-- Address and data words of the MSI-X table (R211, R212), by 4 * vector + word. -/
  msixTable : SMap Nat := []
  /-- The AER Uncorrectable and Correctable Error Status registers and the abort bits of the Status register (R209). -/
  aerUncor : Nat := 0
  aerCor : Nat := 0
  pciStatus : Nat := 0
  /-- The writable words of configuration space (R204, R205, R209) that were written, by offset; the others read as after reset (log entry 94). -/
  config : SMap Nat := []
  /-- The First Error Pointer, and how many headers were logged (R209). -/
  firstError : Nat := 0
  headers : Nat := 0
  /-- Reads of the hub that have not ended, at most 256, and those that wait for one of them to end (R204): address and length. -/
  outstanding : Nat := 0
  readQueue : List (Nat × Nat) := []
  /-- The notices of the cycle that is being put in order, newest last (R236); none: each is written as it is raised. -/
  batch : Option (List Notice) := none
  /-- NPEND: classes with a pending notice. -/
  npend : Nat := 0
  /-- NSEQ: NOTICE_SEQ of the newest record written, and the next number to give. -/
  nseq : Nat := 0
  nextSeq : Nat := 1
  /-- NLOST. -/
  nlost : Nat := 0
  /-- Records lost since the last NOTICE_OVERFLOW record. -/
  lostRun : Nat := 0
  /-- Records with their numbers that wait because queue 63 in DESCRIPTOR mode cannot fetch its grants while Bus Master Enable is clear (R207). -/
  backlog : List (Notice × Nat) := []
  /-- Notices held until queue 63 first enters ON (R596), oldest first. -/
  held : List Notice := []
  /-- Queue 63 has been ON, or the held records were released. -/
  heldDone : Bool := false
  /-- The post SRAM (R16, BAR4): 2 MiB. -/
  sram : Memory := []
  /-- What the hub, as requester, still has to send because Bus Master Enable is clear, oldest first (R207). -/
  deferred : List Out := []
  queues : SMap QState := []
  /-- Queue + 1 that issued a bulk write, by write tag (R223). -/
  bulkOwner : SMap Nat := []
deriving DecidableEq, Repr

/-- Bursts one master still has to write to or read from the store (R570): its rank (0 ledger flush, 1 keeper for PERSIST, 2 boot ROM and
keeper, 3 ledger batches, 4 to 7 scan engines), partition code of R466 (6 PERSIST, 7 JOURNAL), offset of the next burst, bursts left. -/
structure StoreJob where
  rank : Nat
  part : Nat
  offset : Nat
  left : Nat
deriving DecidableEq, Repr

/-- The store's arbitration (R570, R571). -/
structure Store where
  /-- The master whose burst runs. -/
  cur : Option StoreJob := none
  /-- The masters that wait, in order of arrival. -/
  waiting : List StoreJob := []
  /-- Retries of the present burst. -/
  tries : Nat := 0
  /-- The scan engine served last. -/
  turn : Nat := 0
  /-- The last write failed after its retries: the store confirms nothing. -/
  bad : Bool := false
deriving DecidableEq, Repr

/-- An output before the first command of a cycle (R29). -/
structure OutputWas where
  command : Nat := 0
  pulse : Bool := false
  pulseMs : Nat := 0
  angle : Option (Nat × Nat × Nat × Nat) := none
  rbWin : Bool := false
  coilWin : Bool := false
deriving DecidableEq, Repr

/-- What a universal channel holds beside its objects (R241 to R274). -/
structure Chan where
  /-- The pins the hub drives; none: high impedance (R244). -/
  pinA : Option Bool := none
  pinB : Option Bool := none
  pinC : Option Bool := none
  /-- Raw levels last seen at A (or the comparator), B and C. -/
  inA : Bool := false
  inB : Bool := false
  inC : Bool := false
  recSeq : Nat := 0
  /-- UART receiver: the open packet, its stamp and its error flags (R250, R251). -/
  rxOpen : Bool := false
  rx : List Byte := []
  rxStamp : Nat := 0
  rxFlags : Nat := 0
  /-- Octets of the open packet lost for want of receive buffer (R251). -/
  rxLost : Nat := 0
  /-- Address mode: characters are discarded until an address matches (R252). -/
  rxSkip : Bool := false
  /-- LTC plus 1 of the last GAP_CLOSED notice (R289). -/
  gapNotice : Nat := 0
  /-- The packet the transmitter sends (R253). -/
  tx : Option (List Byte) := none
  /-- The debounced state before chatter blocking (R258). -/
  deb : Bool := false
  /-- BIN: the departure being debounced as LTC (compensated) and phase fraction (R256). -/
  depart : Option (Nat × Nat) := none
  /-- LTCs of the accepted changes in the window (R258). -/
  changes : List Nat := []
  blocked : Bool := false
  /-- STAMP64 and phase fraction of the last raw edge, and whether the phase was valid (R258, R275). -/
  rawStamp : Nat := 0
  rawPhase : Nat := 0
  rawValid : Bool := false
  wet : Bool := false
  /-- Consecutive samples below bin-off-level in the wetting pulse, and their sum in mV (R257). -/
  wetLow : Nat := 0
  wetSum : Int := 0
  /-- BOUT: a pulse runs; a pending ANGLE command: CMD, PULSE_MS, CLAIM and the LTC it is fixed for (R264). -/
  pulse : Bool := false
  /-- Width in ms of the pulse that runs (R261, R263). -/
  pulseMs : Nat := 0
  angle : Option (Nat × Nat × Nat × Nat) := none
  /-- Filtered readback (closed) and coil current (R260). -/
  rb : Bool := false
  coil : Bool := false
  /-- Windows of R266 that are open. -/
  rbWin : Bool := false
  coilWin : Bool := false
  /-- The claim-hold timer runs (R265). -/
  hold : Bool := false
  /-- The last accepted command: its LTC, CLAIM and SOURCE (R29). -/
  lastCmd : Option (Nat × Nat × Nat) := none
  /-- The output as the first command of that cycle found it (R29). -/
  was : OutputWas := {}
  /-- PULSE: edges in the gate, ST in ns of its first and last edge; LTC plus 1 of the last edge, last period in ticks (R267). -/
  gateEdges : Nat := 0
  gateFirst : Nat := 0
  gateLast : Nat := 0
  lastEdge : Nat := 0
  period : Nat := 0
  /-- TCODE: the last frame was valid (R268). -/
  tcodeOk : Bool := false
  /-- CSTART: the pulse is high (R270). -/
  cstart : Bool := false
  /-- Line sense: band, length and sum of the present run (R273); the cycle's count, sum and fault flag (R274). -/
  lsBand : Nat := 0
  lsRun : Nat := 0
  lsSum : Int := 0
  cycN : Nat := 0
  cycSum : Int := 0
  cycFault : Bool := false
  cleanRun : Nat := 0
  /-- The driver is disabled by a line fault (R273). -/
  driverOff : Bool := false
  /-- SEQ: pins (bit 0 A, 1 B, 2 C) that a sequencer has brought to their REST level since the channel entered ON (R328). -/
  rested : Nat := 0
  /-- Low 32 bits of the sequence number of the channel's newest ledger entry (R246). -/
  newest : Nat := 0
deriving DecidableEq, Repr

/-- A ledger entry (R275): SEQ in full, and byte 15 as `flags`. -/
structure LEntry where
  seq : Nat
  stamp : Nat
  phase : Nat
  ch : Nat
  flags : Nat
deriving DecidableEq, Repr

/-- The ledger (R275 to R279). -/
structure Ledger where
  /-- SRAM copy, newest first, at most 65,536 entries. -/
  sram : List LEntry := []
  /-- Store copy, newest first, at most 131,072 entries. -/
  store : List LEntry := []
  nextSeq : Nat := 1
  /-- The highest sequence number that is mirrored. -/
  mirrored : Nat := 0
  /-- Entries were lost since the last stored one (R277). -/
  gap : Bool := false
  /-- The next entry to export plus 1; 0: no export runs (R279). -/
  exportNext : Nat := 0
deriving DecidableEq, Repr

/-- A frame a CAN controller sends or waits to send (R302, R307 to R310). -/
structure CanTx where
  buf : Nat
  data : List Byte
  /-- 0 in its pitch, 1 in a free window, 2 in EVENT mode. -/
  kind : Nat
  cycle : Nat := 0xFF
  pitch : Nat := 0xFF
  /-- LTC of the latest start, 0 without one; LTC of the start of frame, once it has started. -/
  latest : Nat := 0
  start : Nat := 0
  retry : Bool := false
  /-- An update came after the data was latched. -/
  updated : Bool := false
deriving DecidableEq, Repr

/-- The latest update of a transmit buffer: its LTC, and the data and whether an update was pending before that cycle (R302). -/
structure CanUpdate where
  ltc : Nat
  before : Option (List Byte) := none
  pended : Bool := false
deriving DecidableEq, Repr

/-- A basic cycle that has ended: its number, the LTCs of its begin and end, and the matrix it ran under (R297). -/
structure CanCycle where
  cycle : Nat
  began : Nat
  ended : Nat := 0
  matrix : List Byte := []
deriving DecidableEq, Repr

/-- What a CAN controller holds beside its objects (R290 to R312). -/
structure Can where
  recSeq : Nat := 0
  /-- Data of the transmit buffers, and the buffers whose latest update has not been sent (R301). -/
  data : SMap (Option (List Byte)) := []
  pend : List Nat := []
  /-- The latest update of each buffer (R302). -/
  fresh : SMap (Option CanUpdate) := []
  /-- An update found the bus idle: its frame is offered in the next cycle (R302). -/
  offer : Bool := false
  /-- Buffers whose failed frame waits for a free window (R308). -/
  retries : List Nat := []
  /-- The frame that waits for the bus, and the frame on the bus. -/
  waiting : Option CanTx := none
  cur : Option CanTx := none
  /-- The free window in progress: its pitch. -/
  window : Option Nat := none
  /-- Consecutive references missed (R312). -/
  misses : Nat := 0
  stuck : Bool := false
  /-- RXD has turned recessive after that; 11 recessive bits have not been seen yet (R299). -/
  settling : Bool := false
  /-- Records were lost since the last receive record, and LTC plus 1 of the last CAN_RX_OVERRUN (R298). -/
  lost : Bool := false
  ovrAt : Nat := 0
  /-- The basic cycles that have ended, newest first, at most 2,048 (R297). -/
  cycles : List CanCycle := []
  /-- Bus-off under MANUAL: bus-off-restart has been written (R300). -/
  recover : Bool := false
deriving DecidableEq, Repr

/-- What a pin sequencer holds beside its objects (R317, R323, R324, R326 to R337). -/
structure SeqState where
  /-- 0 IDLE, 1 RUNNING, 2 STALLED. -/
  run : Nat := 0
  pc : Nat := 0
  shifter : Nat := 0
  bitCount : Nat := 0
  ca : Nat := 0
  cb : Nat := 0
  flags : Nat := 0
  events : Nat := 0
  /-- Transmit FIFO, words of the transmit buffer behind it, and the last word taken since start. -/
  tx : List Nat := []
  txWords : List Nat := []
  last : Nat := 0
  /-- Receive FIFO: word and STAMP64 of its STORE, converted there (R25). The open record: words, stamp of the first one. -/
  rx : List (Nat × Nat) := []
  words : List Nat := []
  first : Nat := 0
  recSeq : Nat := 0
  /-- LTC plus 1 at which the last word joined the open record (R333, R338). -/
  joined : Nat := 0
  /-- rx-drops grew since the previous record (R333). -/
  lost : Bool := false
  /-- Level each pin of the map was last given; none: high impedance (R318, R328). -/
  lev : SMap (Option Bool) := []
  progBusy : Bool := false
  wdExpired : Bool := false
  /-- LTC of the last divider restart, ticks used since, LTC of the last watchdog restart (R320, R336). -/
  divAt : Nat := 0
  ticks : Nat := 0
  kick : Nat := 0
  /-- LTC plus 1 of the last SEQ_SIGNAL and SEQ_RX_DROP notices (R337, R342). -/
  sigAt : Nat := 0
  dropAt : Nat := 0
deriving DecidableEq, Repr

/-- A frame that waits at a station port's transmitter (R349). -/
structure StaTx where
  rank : Nat
  /-- From the destination address on, without tag, RCT and FCS. -/
  frame : List Byte
  /-- 0 none, 1 RCT, 2 HSR tag, with its sequence number; 3: the frame already holds its HSR tag (transit). -/
  tag : Nat := 0
  seq : Nat := 0
  ins : Option Nat := none
  echo : Option (Nat × Nat) := none
  /-- A message of the PTP unit: 1 Sync, 2 Pdelay_Resp, 3 Pdelay_Req, 4 a forwarded Sync, 5 a forwarded Follow_Up; and the time it refers to, in ns × 2^16. -/
  ptp : Nat := 0
  ref : Int := 0
deriving DecidableEq, Repr

/-- The station ports (R343 to R357). -/
structure Station where
  /-- What waits at each transmitter, oldest first. -/
  tx : SMap (List StaTx) := []
  recSeq : SMap Nat := []
  /-- The sequence counter of R351 and R353, and that of supervision frames. -/
  seq : Nat := 0
  supSeq : Nat := 0
  /-- The duplicate table and the pairs forwarded: source and sequence, oldest first (R352, R353). -/
  dups : List (Nat × Nat) := []
  fwd : List (Nat × Nat) := []
  /-- The node table (R351). -/
  nodes : List Nat := []
  /-- Departure stamps of STA-B for ECHO requests whose copy still waits at STA-A: queue, descriptor, stamp (R357). -/
  echoes : List ((Nat × Nat) × Nat) := []
  /-- Links declared silent (R354). -/
  silent : SMap Bool := []
deriving DecidableEq, Repr

/-- A foreign master of a PTP port (R359): the port identity of the sender, how many Announce messages it has sent, and what they say. -/
structure Foreign where
  id : Nat
  n : Nat := 1
  prio1 : Nat
  cls : Nat
  acc : Nat
  var : Nat
  prio2 : Nat
  gm : Nat
  steps : Nat
  source : Nat := 0
  utc : Nat := 0
  /-- currentUtcOffsetValid of its Announce (R41). -/
  utcValid : Bool := false
  inacc : Nat := 0xFFFFFFFF
  tlvId : Nat := 0
deriving DecidableEq, Repr

/-- One PTP port (R359 to R362); times in ns × 2^16. -/
structure PtpPort where
  foreign : List Foreign := []
  annSeq : Nat := 0
  syncSeq : Nat := 0
  pdSeq : Nat := 0
  /-- A Pdelay_Req is unanswered; its departure; the answer of a two-step peer: t4 and t2. -/
  pdWait : Bool := false
  t1 : Int := 0
  pdResp : Option (Int × Int) := none
  /-- Mean link delay. -/
  delay : Int := 0
  /-- A two-step Sync that waits for its Follow_Up: sender, sequence, arrival less correction. -/
  syncWait : Option (Nat × Nat × Int) := none
  /-- TC: sender and sequence of a forwarded two-step Sync, and what its Follow_Up gains. -/
  residence : List (Nat × Nat × Int) := []
  /-- Announce intervals that a port in PRE_MASTER still waits (IEEE 1588-2019, through R359). -/
  qualify : Nat := 0
deriving DecidableEq, Repr

/-- The GOOSE engine (R364 to R378). -/
structure Goose where
  /-- The last ledger entry of each channel by slot * 256 + channel: STAMP64 and byte 15 (R368). -/
  sig : SMap (Option (Nat × Nat)) := []
  /-- The host values: VALUE, QUALITY, STAMP64 (R365). -/
  vals : SMap (Option (Nat × Nat × Nat)) := []
  /-- The members of each block as they were last encoded, and its present interval in ms (R370, R371). -/
  enc : SMap (List (List Byte)) := []
  /-- LTC plus 1 of the last new state of a block, and of the last accepted frame of a subscription (R370, R376). -/
  newAt : SMap Nat := []
  subAt : SMap Nat := []
  interval : SMap Nat := []
  /-- Last value of each mapped member: subscription * 64 + entry; 0 none, 1 false, 2 true (R377). -/
  prev : SMap Nat := []
  /-- t of the last accepted frame of a subscription as STAMP64, and its receive stamp (R378). -/
  subT : SMap Nat := []
  subRx : SMap Nat := []
  recSeq : SMap Nat := []
  /-- LTC plus 1 of the last GOOSE_RX_OVERFLOW. -/
  ovAt : Nat := 0
deriving DecidableEq, Repr

/-- One compared output (R404): the last command of the ACTIVE unit and of this hub as (CMD, PULSE_MS), and the whole record of the
latter. -/
structure DupOut where
  a : Option (Nat × Nat) := none
  s : Option (Nat × Nat) := none
  sRec : List Byte := []
  /-- The window is open. -/
  win : Bool := false
  mismatched : Bool := false
deriving DecidableEq, Repr

/-- Why a claim is being persisted (R392). -/
inductive Persist where
  | start | takeover | swap
  /-- The write goes on; the unit no longer takes the claim. -/
  | dropped
deriving DecidableEq, Repr

/-- The duplex supervisor beside its objects (R388 to R416). -/
structure Duplex where
  /-- Compared outputs by node * 256 + channel. -/
  outs : SMap DupOut := []
  overflowRaised : Bool := false
  mismatchRaised : Bool := false
  foreignAt : Nat := 0
  /-- The peer's digest differs (R389). -/
  digestDiffers : Bool := false
  /-- The claim that is persisted, and the persisted one of a CONTENDING peer. -/
  persisted : Nat := 0
  peerPersisted : Nat := 0
  /-- A write to the store that is awaited: why, and the claim. -/
  persisting : Option (Persist × Nat) := none
  /-- The claim has been confirmed; the unit becomes ACTIVE at the next boundary (R408). -/
  ready : Option (Nat × Nat) := none
  /-- How the present claim was taken: 0 START, 1 TAKEOVER, 2 SWAP. -/
  gained : Nat := 0
  /-- Swap boundary k plus 1; 0 none (R412). -/
  swapK : Nat := 0
  /-- A SWAP_REQUEST of this STANDBY is pending (R411). -/
  requested : Bool := false
  /-- The peer's PREPARE waits for this mirror sequence plus 1 (R412). -/
  prepareSeq : Nat := 0
  /-- Mirroring, sender: next offset of the area, records not yet reported applied (sequence, octets), tags of unacknowledged writes,
  the last record of a resynchronisation plus 1, a resynchronisation is due (R402, R403). -/
  mirPos : Nat := 0
  mirUse : List (Nat × Nat) := []
  mirTags : List Nat := []
  mirUntil : Nat := 0
  resync : Bool := false
  /-- Packets that passed a mirrored queue and wait to be sent, and the ordering epoch last seen (R400, R403). -/
  mirPend : List (Nat × List Byte) := []
  mirEpoch : Nat := 0
  /-- Mirroring, receiver: the offset of the next record. -/
  mirRead : Nat := 0
  /-- Records that have arrived and wait for a locked granule (R163). -/
  mirWaits : Nat := 0
  /-- By group: the cycle plus 1 of the last heartbeat that raised its record, and the highest claim of that cycle (R393, R417). -/
  raisedAt : SMap (Nat × Nat) := []
  /-- The cycle plus 1 in which a SWAP_REQUEST started the present swap (R411). -/
  askedAt : Nat := 0
deriving DecidableEq, Repr

/-- How a request reached the keeper, and where its response goes (R433). -/
inductive Carrier where
  /-- A dictionary command of the table: its response leaves on the requester's path. -/
  | direct
  /-- The mailbox: REQ_SEQ and TARGET (R434). -/
  | mailbox (seq target : Nat)
  /-- A MGMT frame of class 6 (R435). -/
  | ring
  /-- The station: the datagram it came in, and its COUNTER (R436, R437). -/
  | station (q : UdpRequest) (counter : Nat)
  /-- The service port (R439). -/
  | service
deriving DecidableEq, Repr

/-- A request that waits for the keeper (R440). -/
structure KReq where
  by_ : Requester
  msg : DictMsg
  via : Carrier := .direct
  /-- The requester held the stall when the request arrived (R443). -/
  held : Bool := false
  /-- The receive stamp of a ring frame sent with STAMP = 1 (R94). -/
  stamp : Option Nat := none
deriving DecidableEq, Repr

/-- A segmented transfer (R430, R431). -/
structure Session where
  by_ : Requester
  write : Bool
  idx : Nat
  sub : Nat
  total : Nat
  /-- Octets received. -/
  got : Nat := 0
  /-- Received so far, or the snapshot. -/
  data : List Byte := []
deriving DecidableEq, Repr

/-- A saved running image (R452, R585): the configuration format that wrote it and the values by key. -/
structure SavedImage where
  format : Nat
  values : SMap Val
deriving DecidableEq, Repr

/-- The keeper (R422 to R458). -/
structure Keeper where
  /-- HUBSTAT KEEPER_READY. -/
  ready : Bool := false
  /-- The requests that wait, oldest first (at most 32). -/
  waiting : List KReq := []
  sessions : List Session := []
  /-- Who holds the stall, and the LTC at which the lease lapses. -/
  holder : Option Requester := none
  leaseEnd : Nat := 0
  /-- The requests of the election that is open, in order of arrival (R442). -/
  election : List KReq := []
  /-- The mailbox request is unanswered (R434); the request that is being forwarded: node, message, REQ_SEQ, times resent. -/
  mboxBusy : Bool := false
  forward : Option (Nat × DictMsg × Nat × Nat) := none
  /-- A POST made before the keeper was ready (R440), or whose request stands in a locked granule (R163). -/
  mboxEarly : Bool := false
  /-- TOKEN and response of the last request served for a node (R435). -/
  ringLast : SMap (Option (Nat × List Byte)) := []
  /-- The keys, and the persisted ceilings of their counters (R438). -/
  keys : SMap (List Byte) := []
  ceilings : SMap Nat := []
  /-- Station requests that wait for a new ceiling, oldest first: the request, its slot. -/
  ceiling : List (KReq × Nat) := []
  /-- LTC plus 1 of the last DICT_AUTH_FAILED (R437). -/
  authAt : Nat := 0
  /-- LTC at which the keeper started. -/
  since : Nat := 0
  /-- The keeper's clock is gated (R532). -/
  gated : Bool := false
deriving DecidableEq, Repr

/-- A scan engine (R465 to R472): RUN (0 IDLE, 1 RUNNING, 2 DONE, 3 FAILED) and its registers. -/
structure Scan where
  run : Nat := 0
  status : Nat := 0
  jobSeq : Nat := 0
  done : Nat := 0
  val : Nat := 0
  res : Nat := 0
  /-- A job has been written since the engine's start (R467). -/
  hasJob : Bool := false
  /-- The job it runs, or ran last (R467). -/
  job : List Byte := []
  /-- The cycle plus 1 in which scan-job was last written, and the job and `hasJob` of the cycle before (R469). -/
  jobAt : Nat := 0
  jobWas : List Byte := []
  hadJob : Bool := false
  /-- The cycles plus 1 of the last start, and of the last scan-stop that met no RUNNING engine (R469). -/
  startedAt : Nat := 0
  stopAt : Nat := 0
deriving DecidableEq, Repr

/-- What the diagnostics hold beside their objects (R476 to R502). -/
structure Safety where
  /-- FLT_OUT is asserted from feed arrival until KEEPER_READY is first set (R490). -/
  fltStart : Bool := true
  /-- LTC plus 1 of the last repair of a configuration word, by FUNC_ID * 2^32 + word address (R482). -/
  repairs : SMap Nat := []
  /-- LTC plus 1 of the last reset and of the last fault reaction of each function, by FUNC_ID: resets that meet in one cycle merge (R35, R495). -/
  resetAt : SMap Nat := []
  faultAt : SMap Nat := []
  /-- The cycle plus 1 and the path's place in R35's order of the FRESET that last-func names. -/
  lastBy : Nat × Nat := (0, 0)
  /-- Words of the post SRAM with an uncorrectable error, by their offset (R482); a write of the word clears it. -/
  poison : List Nat := []
deriving DecidableEq, Repr

/-- An event the sentinel has recorded and the keeper has not fetched (R523, R524), with the notice it brings. -/
structure PowerEvent where
  event : Nat
  arg : Nat
  vout : Nat
  sense : Nat
  /-- When it happened, in ticks relative to the LTC's present zero. -/
  at_ : Int
  notice : Option (Nat × List Nat) := none
deriving DecidableEq, Repr

/-- The power path on the sentinel, beside its status objects (R503 to R530). -/
structure Power where
  /-- Version of the sentinel microcode that runs (R581). -/
  microcode : Nat := 0
  validA : Bool := false
  validB : Bool := false
  validS : Bool := false
  /-- The feed gates that are commanded on, and those a reverse comparator holds off (R507). -/
  gateA : Bool := false
  gateB : Bool := false
  revA : Bool := false
  revB : Bool := false
  /-- Dead time runs toward a feed: 1 A, 2 B (R508). -/
  dead : Nat := 0
  /-- Feeds that have been lost since the sentinel's start: bit 1 A, bit 2 B, bit 3 service. -/
  lost : Nat := 0
  /-- The settings the sentinel runs with, where they differ from its power-up settings (R17, R504). -/
  settings : SMap Val := []
  /-- The settings that the keeper has loaded and the next sample takes; none: no change waits (R17). -/
  nextSettings : Option (SMap Val) := none
  /-- The fault-timer setting, in ms, that the running fault timer started with; 0 while it is idle (R17, R513). -/
  timerLimit : Nat := 0
  /-- The sense voltage of the last round. -/
  sense : Nat := 0
  events : List PowerEvent := []
  /-- Events were dropped since the last fetch. -/
  dropped : Bool := false
  /-- The power-event log: 16-octet entries by slot, the next slot, the next LOG_SEQ (R523, R524). -/
  slots : SMap (List Byte) := []
  slot : Nat := 0
  logSeq : Nat := 0
deriving DecidableEq, Repr

/-- The power states beside their objects (R531 to R554). -/
structure PowerStates where
  /-- The mode being entered, and whether MODE has been written (R537 step 3). -/
  entering : Option Nat := none
  armed : Bool := false
  /-- MODE of PWRCTL. -/
  mode : Nat := 0
  /-- The lost-wake window has ended (R541). -/
  latch : Bool := false
  /-- Wake sources that are asserted or latched, by id, and the detail of each (R539, R546). -/
  sources : Nat := 0
  details : SMap Nat := []
  /-- The levels recorded for the channels of wake-channels at entry (R543). -/
  watch : Nat := 0
deriving DecidableEq, Repr

/-- The service port beside its objects (R555 to R568). -/
structure Service where
  /-- MessageID for transmission, and the last MessageID received (R560). -/
  txId : Nat := 0
  rxId : Option Nat := none
  /-- The message that waits for GoodCRC, its retries, and what Soft Reset follows it. -/
  sent : Option (PdKind × Nat × List Nat) := none
  tries : Nat := 0
  /-- Voltage and current asked for. -/
  asked : Option (Nat × Nat) := none
  /-- DR_Swap has been sent after the first contract (R557), and its answer is awaited. -/
  drSent : Bool := false
  drWait : Bool := false
  /-- No sourcing until the partner has detached (R557). -/
  blocked : Bool := false
  /-- GATE_VSRC. -/
  vsrc : Bool := false
  /-- Consecutive dry rounds (R562), and the impedance last measured of each pin in kΩ. -/
  dryRounds : Nat := 0
  /-- The USB device has connected its pull-up (R563). -/
  usb : Bool := false
deriving DecidableEq, Repr

/-- An image partition (R569, R572): its octets; `factory` says that unlisted octets are those the part left the factory with. -/
structure Partition where
  factory : Bool := false
  mem : Memory := []
deriving DecidableEq, Repr

/-- The update (R569 to R593). -/
structure Update where
  active : Partition := { factory := true }
  staging : Partition := {}
  fallback : Partition := {}
  /-- CONFIG_A and CONFIG_B (R452, R585). -/
  configA : Option SavedImage := none
  configB : Option SavedImage := none
  /-- The part a PIECE_ARMED journal names, and 0 otherwise (R584). -/
  piece : Nat := 0
  /-- Starts during TRIAL since the activation; the window has expired (R582). -/
  restarts : Nat := 0
  expired : Bool := false
  /-- One above the LTC at which the confirm window expired; 0 none (R583). -/
  expiredAt : Nat := 0
  /-- trial-restarts as the journal keeps it (R582). -/
  trialRestarts : Nat := 0
  /-- LTC at which the confirm window ends (R582). -/
  windowEnd : Nat := 0
  /-- BOOT_MODE recovery: the recovery loader runs (R599). -/
  recovery : Bool := false
  /-- The boot ROM serves nothing (R599 HALT). -/
  halted : Bool := false
  /-- Notices of the boot ROM, raised once the keeper starts (R593). -/
  notices : List (Nat × List Nat) := []
  /-- Persisted: starts since the store was first written, fault record (cause, stamp), revoked key slots. -/
  starts : Nat := 0
  faultCause : Nat := 0
  faultStamp : Nat := 0
  revoked : Nat := 0
deriving DecidableEq, Repr



/-- The hub: everything the spec gives the machine, but the queue of waiting commands. -/
structure Hub where
  /-- The time unit (R38 to R84) -/
  time : TimeUnit := {}
  /-- The ring interface (R85 to R128) -/
  ring : Ring := {}
  /-- The bridge (R129 to R170) -/
  bridge : Bridge := {}
  /-- The switch core (R171 to R203) -/
  sw : Switch := {}
  /-- The PCI Express endpoint, the queues and the post SRAM (R204 to R240) -/
  host : HostIf := {}
  /-- The store's arbitration (R570, R571) -/
  store : Store := {}
  /-- The universal channels, by c (R241 to R274) -/
  chans : SMap Chan := []
  /-- The ledger (R275 to R279) -/
  ledger : Ledger := {}
  /-- The CAN controllers, by n (R290 to R316) -/
  cans : SMap Can := []
  /-- The pin sequencers, by s (R317 to R342) -/
  seqs : SMap SeqState := []
  /-- The station ports (R343 to R357) -/
  sta : Station := {}
  /-- The PTP ports: 0 STA-A, 1 STA-B (R358 to R362) -/
  ptp : SMap PtpPort := []
  /-- The GOOSE engine (R364 to R378) -/
  goose : Goose := {}
  /-- The duplex supervisor (R388 to R421) -/
  duplex : Duplex := {}
  /-- The keeper (R422 to R458) -/
  keeper : Keeper := {}
  /-- The scan engines, by e (R465 to R475) -/
  scans : SMap Scan := []
  /-- Diagnostics and hub fault (R476 to R502) -/
  safety : Safety := {}
  /-- The power path (R503 to R530) -/
  power : Power := {}
  /-- Power domains, modes and wake (R531 to R554) -/
  pwr : PowerStates := {}
  /-- The service port (R555 to R568) -/
  svc : Service := {}
  /-- Image and configuration update, and what PERSIST holds (R569 to R593) -/
  upd : Update := {}
  /-- The object dictionary: values by key, default values unlisted (R422; keys in Machine/Obj.lean) -/
  dict : SMap Val := []
  /-- RWB values accepted and waiting for their boundary (R23, R424) -/
  rwb : SMap Val := []
  /-- The life cycle of every function, by FUNC_ID (R30, R479) -/
  funcs : SMap FState := []
  /-- What the hub has emitted, newest first (the model's own field) -/
  out : List Out := []
  /-- The counter of free values (the model's own field) -/
  freeCtr : Nat := 0
deriving DecidableEq, Repr

/-- The state: the commands that wait, first in first out, and the hub. -/
structure State where
  /-- The commands waiting, oldest first. -/
  pending : List Instr := []
  /-- The hub. -/
  hub : Hub := {}
deriving DecidableEq, Repr

/-- The reasons a command can stop the model with a fault. No command of the table does: every effect the spec gives is a next
state. The one constructor names the case of an operand that no sender can produce. -/
inductive Fault where
  /-- Raised by no command; kept so that a later repair has a name for an operand outside its field. Safe: the model stops. -/
  | badOperand
deriving DecidableEq, Repr

/-- The reasons a command can be refused. -/
inductive Refusal where
  /-- Raised by an arm of `exec` whose command has no meaning yet, with its mnemonic. Safe: the model stops. -/
  | notModelled (mnemonic : String)
deriving DecidableEq, Repr

/-- The hub right after power-on: nPOR_OUT is still low and no CCLK runs (R594), the LTC is 0 (R38), every object of the dictionary holds its default,
no command waits. -/
def State.reset : State := {}

end Sys2Proof.Machine
end

