-- ==== Sys2Proof/Machine/Ops.lean ====
section
/-!
DEFINITION. The named operations every block shares: sparse maps in canonical form, octets and byte orders, bit fields, signed
readings of raw words, the record of what the hub emits, and how a meaning answers.
-/
namespace Sys2Proof.Machine

/-- The answer of every command whose effect is a change of the hub: the queue of waiting commands is untouched. -/
def State.answer (s : State) (f : Hub → Hub) : Host.Outcome State Fault Refusal :=
  .next { s with hub := f s.hub }

/-! ### Sparse maps -/

/-- The value at a key; an unlisted key reads as `d key`. -/
def SMap.get {α : Type} (d : Nat → α) : SMap α → Nat → α
  | [], k => d k
  | (k', v) :: m, k => if k = k' then v else SMap.get d m k

/-- Insert or replace an entry, keeping the keys rising. -/
def SMap.put {α : Type} : SMap α → Nat → α → SMap α
  | [], k, v => [(k, v)]
  | (k', v') :: m, k, v =>
    if k < k' then (k, v) :: (k', v') :: m
    else if k = k' then (k, v) :: m
    else (k', v') :: SMap.put m k v

/-- Remove every entry of a key. -/
def SMap.erase {α : Type} : SMap α → Nat → SMap α
  | [], _ => []
  | (k', v') :: m, k => if k = k' then SMap.erase m k else (k', v') :: SMap.erase m k

/-- Set a key, keeping the canonical form: a value equal to what an unlisted key reads as removes the entry. -/
def SMap.set {α : Type} [DecidableEq α] (d : Nat → α) (m : SMap α) (k : Nat) (v : α) : SMap α :=
  if v = d k then m.erase k else m.put k v

/-- Every key listed lies above `lo`, rises, and no entry holds what an unlisted key reads as. -/
def SMap.wfFrom {α : Type} [DecidableEq α] (d : Nat → α) : Nat → SMap α → Bool
  | _, [] => true
  | lo, (k, v) :: m => decide (lo ≤ k) && decide (v ≠ d k) && SMap.wfFrom d (k + 1) m

/-- The canonical form of a sparse map. -/
def SMap.wf {α : Type} [DecidableEq α] (d : Nat → α) (m : SMap α) : Bool := SMap.wfFrom d 0 m

/-! ### Memory -/

/-- What an unlisted octet of memory reads as (R215: the post SRAM is cleared at reset; a log entry names the reading). -/
def Memory.unlisted (_ : Nat) : Byte := 0

/-- The octet at an address. -/
def Memory.read (m : Memory) (a : Nat) : Byte := SMap.get Memory.unlisted m a

/-- Write one octet. -/
def Memory.write (m : Memory) (a : Nat) (b : Byte) : Memory := SMap.set Memory.unlisted m a b

/-- The canonical form of a memory. -/
def Memory.wf (m : Memory) : Bool := SMap.wf Memory.unlisted m

/-- `n` octets from an address upward. -/
def Memory.readN (m : Memory) (a : Nat) : Nat → List Byte
  | 0 => []
  | n + 1 => m.read a :: Memory.readN m (a + 1) n

/-- Write octets from an address upward. -/
def Memory.writeN (m : Memory) (a : Nat) : List Byte → Memory
  | [] => m
  | b :: bs => Memory.writeN (m.write a b) (a + 1) bs

/-! ### Octets, byte orders, bit fields -/

/-- The low `n` octets of a number, least significant first (R16: host structures and dictionary values). -/
def leBytes : Nat → Nat → List Byte
  | 0, _ => []
  | n + 1, v => BitVec.ofNat 8 v :: leBytes n (v / 256)

/-- The number whose octets are given least significant first. -/
def leNat : List Byte → Nat
  | [] => 0
  | b :: bs => b.toNat + 256 * leNat bs

/-- The low `n` octets of a number, most significant first (R16: ring frames). -/
def beBytes (n v : Nat) : List Byte := (leBytes n v).reverse

/-- The number whose octets are given most significant first. -/
def beNat (bs : List Byte) : Nat := leNat bs.reverse

/-- The octets of an ASCII text. -/
def asciiBytes (t : String) : List Byte := t.toList.map (fun c => BitVec.ofNat 8 c.toNat)

/-- Bits [hi:lo] of a number. -/
def bits (v hi lo : Nat) : Nat := v / 2 ^ lo % 2 ^ (hi + 1 - lo)

/-- Bit `i` of a number. -/
def bit (v i : Nat) : Bool := v.testBit i

/-- A flag as 0 or 1. -/
def b2n (b : Bool) : Nat := if b then 1 else 0

/-- A number with bit `i` set. -/
def setBit (v i : Nat) : Nat := if v.testBit i then v else v + 2 ^ i

/-- A number with bit `i` cleared. -/
def clearBit (v i : Nat) : Nat := if v.testBit i then v - 2 ^ i else v

/-- Octet `i` of a string, 0 beyond its end. -/
def byteAt (bs : List Byte) (i : Nat) : Nat := (bs.getD i 0).toNat

/-- `n` octets of a string from offset `i`. -/
def slice (bs : List Byte) (i n : Nat) : List Byte := (bs.drop i).take n

/-- A little-endian number of `n` octets at offset `i`. -/
def leAt (bs : List Byte) (i n : Nat) : Nat := leNat (slice bs i n)

/-- A big-endian number of `n` octets at offset `i`. -/
def beAt (bs : List Byte) (i n : Nat) : Nat := beNat (slice bs i n)

/-- The two's-complement reading of a raw word of `w` bits. -/
def toSigned (w n : Nat) : Int :=
  if n % 2 ^ w < 2 ^ (w - 1) then (n % 2 ^ w : Nat) else (n % 2 ^ w : Nat) - (2 ^ w : Nat)

/-- The raw word of `w` bits of a signed number. -/
def ofSigned (w : Nat) (i : Int) : Nat := (i % (2 ^ w : Nat)).toNat

/-- The signed difference `a - b` modulo 2^64 (R12): positive when `a` is later. -/
def later64 (a b : Nat) : Int := toSigned 64 (a + 2 ^ 64 - b % 2 ^ 64)

/-- Whether an LTC value has been reached at another (R12). -/
def reached (now at_ : Nat) : Bool := decide (0 ≤ later64 now at_)

/-- Ticks from one LTC value to a later one; 0 when it is not later (R12). -/
def ticksBetween (frm dest : Nat) : Nat := (later64 dest frm).toNat

/-- The list with its element at a position replaced. -/
def setAt {α : Type} (l : List α) (i : Nat) (v : α) : List α := l.set i v

/-- Split octets into pieces of at most `n`, with fuel for the number of pieces. -/
def chunks (n : Nat) : Nat → List Byte → List (List Byte)
  | 0, _ => []
  | f + 1, bs => if bs.isEmpty then [] else bs.take n :: chunks n f (bs.drop n)

/-- The mean of nothing is 0: integer division rounded to nearest. -/
def roundDiv (a b : Int) : Int := (2 * a + b) / (2 * b)

/-- Apply a function to the hub when a condition holds; otherwise leave the hub as it is. -/
def Hub.when (h : Hub) (c : Bool) (f : Hub → Hub) : Hub := if c then f h else h

/-- Record what the hub emits. -/
def Hub.emit (h : Hub) (o : Out) : Hub := { h with out := o :: h.out }

/-- The next free value: the counter the step reads and advances (free values are opaque in Config). -/
def Hub.nextFree (h : Hub) : Hub := { h with freeCtr := h.freeCtr + 1 }

end Sys2Proof.Machine
end

