-- ==== Sys2Proof/Machine/Dict.lean ====
section
/-!
DEFINITION. The object dictionary as data (R13 to R16, R422 to R425): types, access codes, the description of an object, and the
shape of a table. The tables themselves are in Machine/DictTables.lean.
-/
namespace Sys2Proof.Machine

/-- The types of dictionary values (R15, R423). `octets`, `domain` and `str` carry their least and greatest length. -/
inductive Ty where
  | bool | u8 | u16 | u32 | u64 | i16 | i32 | i64 | stamp64 | stamp128 | phase64
  | str (lo hi : Nat) | octets (lo hi : Nat) | domain (lo hi : Nat)
deriving DecidableEq, Repr

/-- The access codes (R15). -/
inductive Acc where
  | const | ro | rw | rwb | wo
deriving DecidableEq, Repr

/-- One row of a dictionary table, standing for `count` consecutive subindexes from `sub`. -/
structure Desc where
  sub : Nat
  count : Nat := 1
  ty : Ty
  acc : Acc
  dflt : Val
  /-- The accepted intervals; empty: every value of the type. -/
  range : List (Int × Int) := []
  /-- Accepted values are multiples of this. -/
  step : Nat := 1
  /-- Writes are refused with STATE while the function is not OFF. -/
  offOnly : Bool := false
deriving DecidableEq, Repr

/-- One dictionary table: `count` indexes from `base` with the same subindexes. -/
structure Block where
  base : Nat
  count : Nat
  /-- Mode of the channel in which the subindexes exist (R245); 0: in every mode. -/
  mode : Nat := 0
  /-- FUNC_ID of the function at the first index (R479). -/
  fid : Option Nat := none
  /-- Subindex of clear-tallies; 0 when the table has none. -/
  clearSub : Nat := 0
  /-- Subindex ranges that clear-tallies clears. -/
  clears : List (Nat × Nat) := []
  subs : List Desc
deriving DecidableEq, Repr

def ro (sub : Nat) (ty : Ty) (d : Val) : Desc := { sub := sub, ty := ty, acc := .ro, dflt := d }
def co (sub : Nat) (ty : Ty) (d : Val) : Desc := { sub := sub, ty := ty, acc := .const, dflt := d }
def rw (sub : Nat) (ty : Ty) (d : Val) (r : List (Int × Int)) : Desc :=
  { sub := sub, ty := ty, acc := .rw, dflt := d, range := r }
def wb (sub : Nat) (ty : Ty) (d : Val) (r : List (Int × Int)) : Desc :=
  { sub := sub, ty := ty, acc := .rwb, dflt := d, range := r }
def wo (sub : Nat) (ty : Ty) (d : Val) (r : List (Int × Int)) : Desc :=
  { sub := sub, ty := ty, acc := .wo, dflt := d, range := r }
/-- The row stands for `n` consecutive subindexes. -/
def many (n : Nat) (d : Desc) : Desc := { d with count := n }
/-- The row accepts multiples of `n`. -/
def stepped (n : Nat) (d : Desc) : Desc := { d with step := n }
/-- The row is written only while its function is OFF. -/
def whenOff (d : Desc) : Desc := { d with offOnly := true }

/-- The width in octets of a type of fixed length. -/
def Ty.width : Ty → Option Nat
  | .bool | .u8 => some 1
  | .u16 | .i16 => some 2
  | .u32 | .i32 => some 4
  | .u64 | .i64 | .stamp64 | .phase64 => some 8
  | .stamp128 => some 16
  | .str _ _ | .octets _ _ | .domain _ _ => none

/-- Whether a type is read as two's complement. -/
def Ty.signed : Ty → Bool
  | .i16 | .i32 | .i64 => true
  | _ => false

/-- Whether a type is a DOMAIN. -/
def Ty.isDomain : Ty → Bool
  | .domain _ _ => true
  | _ => false

/-- The greatest length in octets of a value of a type. -/
def Ty.maxLen : Ty → Nat
  | .str _ hi | .octets _ hi | .domain _ hi => hi
  | t => (t.width).getD 0

/-- The octets of a stored value of a type (R423). -/
def Ty.encode (t : Ty) : Val → List Byte
  | .num n => leBytes ((t.width).getD 0) n
  | .oct b => b

/-- The stored value that octets of a type spell. -/
def Ty.decode (t : Ty) (b : List Byte) : Val :=
  match t.width with
  | some _ => .num (leNat b)
  | none => .oct b

/-- The default points of breaker-curve (R526): eight pairs of multiple in 0.01 and time in ms. -/
def breakerCurveDefault : List Byte :=
  [(110, 60000), (125, 20000), (150, 5000), (175, 2000), (200, 1000), (240, 300), (300, 60), (400, 10)].flatMap
    (fun (p : Nat × Nat) => leBytes 2 p.1 ++ leBytes 2 p.2)

/-- The octets of a stored value that is an octet string. -/
def Val.octets : Val → List Byte
  | .num _ => []
  | .oct b => b

/-- The number of a stored value that is a number. -/
def Val.nat : Val → Nat
  | .num n => n
  | .oct _ => 0

end Sys2Proof.Machine
end

