-- ==== Sys2Proof/Machine/DictTables.lean ====
section
/-! DEFINITION. The tables of the object dictionary, one `Block` for each dictionary table of the spec (the rule is named in
each docstring): subindex, type, access code, default, range. Several tables may describe one index range (the channel-config
tables of R280 to R284): the lookup takes the first that populates the subindex in the present mode. -/

namespace Sys2Proof.Machine

/-- R47. -/
def tblR47 : Block where
  base := 0x1400
  count := 1
  subs :=
    [ ro 0x01 .u8 (.num 0),
      ro 0x02 .u8 (.num 0),
      ro 0x03 .stamp128 (.num 0),
      ro 0x04 .u32 (.num 0),
      ro 0x05 .i32 (.num 0),
      ro 0x06 .i64 (.num 0),
      ro 0x07 .stamp64 (.num 0),
      ro 0x08 .i16 (.num 37),
      ro 0x09 .u32 (.num 0),
      ro 0x0A .u32 (.num 0),
      ro 0x0B .bool (.num 0) ]

/-- R48. -/
def tblR48 : Block where
  base := 0x1401
  count := 1
  subs :=
    [ rw 0x01 .u32 (.num 801) [],
      rw 0x02 .u8 (.num 255) [(0, 191), (255, 255)],
      rw 0x03 .u8 (.num 0) [(0, 3)],
      rw 0x04 .u32 (.num 100000) [(1000, 1000000000)],
      rw 0x05 .u32 (.num 100000) [(1000, 500000)],
      rw 0x06 .u32 (.num 500) [(1, 100000)],
      rw 0x07 .bool (.num 1) [],
      rw 0x08 .u16 (.num 2000) [(100, 60000)],
      rw 0x09 .i16 (.num 37) [(0, 100)] ]

/-- R55. -/
def tblR55 : Block where
  base := 0x1410
  count := 1
  subs :=
    [ rw 0x01 .u16 (.num 801) [],
      rw 0x02 .u32 (.num 50000) [(15000, 72000)],
      rw 0x03 .u16 (.num 2000) [(100, 60000)],
      rw 0x04 .bool (.num 0) [],
      rw 0x05 .i32 (.num 0) [(-180000, 180000)],
      rw 0x06 .u16 (.num 100) [(10, 900)] ]

/-- R56. -/
def tblR56 : Block where
  base := 0x1411
  count := 1
  subs :=
    [ ro 0x01 .u8 (.num 0),
      ro 0x02 .u8 (.num 0),
      ro 0x03 .phase64 (.num 0),
      ro 0x04 .u32 (.num 0),
      ro 0x05 .i32 (.num 0),
      ro 0x06 .u16 (.num 0),
      ro 0x07 .i32 (.num 0),
      ro 0x08 .u32 (.num 0) ]

/-- R59. -/
def tblR59 : Block where
  base := 0x1420
  count := 1
  subs :=
    [ wb 0x01 .u8 (.num 0) [(0, 1)],
      wb 0x02 .u8 (.num 4) [(1, 64)],
      stepped 5 (wb 0x03 .u32 (.num 1000000) [(50000, 100000000)]),
      wb 0x04 .u32 (.num 0) [],
      ro 0x05 .u32 (.num 0) ]

/-- R69. -/
def tblR69 : Block where
  base := 0x1450
  count := 1
  subs :=
    [ ro 0x01 .u16 (.num 0),
      ro 0x02 .u32 (.num 0),
      ro 0x03 .u32 (.num 0),
      ro 0x04 .u32 (.num 0),
      wo 0x05 .bool (.num 0) [] ]

/-- R70. -/
def tblR70 : Block where
  base := 0x1480
  count := 256
  subs :=
    [ rw 0x01 .bool (.num 0) [],
      rw 0x02 .u8 (.num 0) [(0, 2)],
      rw 0x03 .u8 (.num 0) [(0, 1)],
      rw 0x04 .stamp64 (.num 0) [],
      rw 0x05 .phase64 (.num 0) [],
      rw 0x06 .u32 (.num 0) [],
      rw 0x07 .u32 (.num 0) [],
      rw 0x08 .u64 (.num 0) [],
      rw 0x09 .u8 (.num 0) [(0, 7)],
      rw 0x0A .u16 (.num 0) [],
      rw 0x0B .u32 (.num 0) [],
      rw 0x0C .u32 (.num 0) [(0, 200000000)] ] ++
    [ rw 0x0D .u8 (.num 0) [(0, 1)],
      ro 0x0E .u8 (.num 0),
      ro 0x0F .stamp128 (.num 0),
      ro 0x10 .u64 (.num 0),
      ro 0x11 .u32 (.num 0),
      rw 0x12 .u32 (.num 0) [] ]

/-- R79. -/
def tblR79 : Block where
  base := 0x1430
  count := 4
  clearSub := 0x07
  clears := [(0x05, 0x05), (0x06, 0x06)]
  subs :=
    [ rw 0x01 .bool (.num 0) [],
      rw 0x02 .u8 (.num 1) [(1, 3)],
      rw 0x03 .i32 (.num 0) [(-1000000, 1000000)],
      ro 0x04 .stamp128 (.num 0),
      ro 0x05 .u32 (.num 0),
      ro 0x06 .u32 (.num 0),
      wo 0x07 .bool (.num 0) [] ]

/-- R80. -/
def tblR80 : Block where
  base := 0x1438
  count := 4
  subs :=
    [ rw 0x01 .u8 (.num 0) [(0, 3)],
      rw 0x02 .u32 (.num 100000000) [(100, 500000000)],
      stepped 5 (rw 0x03 .u32 (.num 1000) [(100, 1000000000)]),
      rw 0x04 .i32 (.num 0) [(-1000000, 1000000)],
      rw 0x05 .bool (.num 0) [] ]

/-- R83. -/
def tblR83 : Block where
  base := 0x1440
  count := 1
  subs :=
    [ ro 0x01 .u64 (.num 0),
      ro 0x02 .u64 (.num 0),
      ro 0x03 .u64 (.num 0),
      ro 0x04 .u32 (.num 0),
      ro 0x05 .stamp128 (.num 0),
      ro 0x06 .u32 (.num 0) ]

/-- R125. -/
def tblR125 : Block where
  base := 0x1600
  count := 1
  subs :=
    [ wo 0x01 .bool (.num 0) [],
      wb 0x02 .u8 (.num 0) [(0, 64)],
      wb 0x03 .u8 (.num 0) [(0, 1)],
      rw 0x04 .u8 (.num 0) [(0, 1)],
      wb 0x05 .u8 (.num 8) [(1, 32)],
      wb 0x06 .u8 (.num 1) [(1, 16)],
      rw 0x07 .u32 (.num 1000) [(100, 100000)],
      rw 0x08 .bool (.num 0) [],
      rw 0x09 .u16 (.num 1000) [(250, 4000)],
      rw 0x0A .u16 (.num 1000) [(10, 10000)] ]

/-- R126. -/
def tblR126 : Block where
  base := 0x1601
  count := 1
  clearSub := 0x14
  clears := [(0x10, 0x13)]
  subs :=
    [ ro 0x01 .u8 (.num 0),
      ro 0x02 .u8 (.num 0),
      ro 0x03 .u8 (.num 0),
      ro 0x04 .u8 (.num 0),
      ro 0x05 .u8 (.num 0),
      ro 0x06 .u64 (.num 0),
      ro 0x07 .u64 (.num 0),
      ro 0x08 (.octets 64 64) (.oct (List.replicate 64 0)),
      ro 0x09 .u32 (.num 0),
      ro 0x0A .u8 (.num 0),
      ro 0x0B .u16 (.num 0),
      ro 0x0C .u8 (.num 0) ] ++
    [ ro 0x0D .stamp64 (.num 0),
      ro 0x0E .u8 (.num 0),
      ro 0x0F .u8 (.num 0),
      ro 0x10 .u32 (.num 0),
      ro 0x11 .u32 (.num 0),
      ro 0x12 .u32 (.num 0),
      ro 0x13 .u32 (.num 0),
      wo 0x14 .bool (.num 0) [] ]

/-- R127. -/
def tblR127 : Block where
  base := 0x1602
  count := 2
  fid := some 0x800
  clearSub := 0x12
  clears := [(0x06, 0x11)]
  subs :=
    [ rw 0x01 .bool (.num 1) [],
      ro 0x02 .u8 (.num 0),
      ro 0x03 .u8 (.num 0),
      rw 0x04 .i32 (.num 0) [(-100000, 100000)],
      ro 0x05 .u32 (.num 0),
      ro 0x06 .u32 (.num 0),
      ro 0x07 .u32 (.num 0),
      ro 0x08 .u32 (.num 0),
      ro 0x09 .u32 (.num 0),
      ro 0x0A .u32 (.num 0),
      ro 0x0B .u32 (.num 0),
      ro 0x0C .u32 (.num 0) ] ++
    [ ro 0x0D .u32 (.num 0),
      ro 0x0E .u32 (.num 0),
      ro 0x0F .u32 (.num 0),
      ro 0x10 .u32 (.num 0),
      ro 0x11 .u32 (.num 0),
      wo 0x12 .bool (.num 0) [] ]

/-- R166. -/
def tblR166 : Block where
  base := 0x1800
  count := 1
  subs :=
    [ rw 0x01 .u16 (.num 40) [(10, 45)],
      rw 0x02 .u16 (.num 2000) [(500, 20000)],
      co 0x03 .u16 (.num 100),
      rw 0x04 .u32 (.num 2000) [(2000, 200000)],
      rw 0x05 .u8 (.num 16) [(1, 255)],
      rw 0x06 .u16 (.num 100) [(10, 10000)],
      rw 0x07 .bool (.num 0) [],
      rw 0x08 .u64 (.num 18446744073709551615) [],
      rw 0x09 .u8 (.num 7) [(0, 7)],
      rw 0x0A .u64 (.num 18446744073709551615) [] ]

/-- R167. -/
def tblR167 : Block where
  base := 0x1801
  count := 1
  clearSub := 0x0E
  clears := [(0x02, 0x07), (0x09, 0x0D)]
  subs :=
    [ ro 0x01 .u32 (.num 0),
      ro 0x02 .u32 (.num 0),
      ro 0x03 .u32 (.num 0),
      ro 0x04 .u32 (.num 0),
      ro 0x05 .u32 (.num 0),
      ro 0x06 .u32 (.num 0),
      ro 0x07 .u32 (.num 0),
      ro 0x08 .u8 (.num 0),
      ro 0x09 .u32 (.num 0),
      ro 0x0A .u32 (.num 0),
      ro 0x0B .u32 (.num 0),
      ro 0x0C .u32 (.num 0) ] ++
    [ ro 0x0D .u32 (.num 0),
      wo 0x0E .bool (.num 0) [],
      wo 0x0F .bool (.num 0) [] ]

/-- R168. DESIGN CHOICE (log entry 98): ordering (06), which R142's list does not name, may be written while the window is not OFF. -/
def tblR168 : Block where
  base := 0x1810
  count := 16
  fid := some 0x600
  clearSub := 0x10
  clears := [(0x0B, 0x0D), (0x0F, 0x0F)]
  subs :=
    [ rw 0x01 .bool (.num 0) [],
      ro 0x02 .u8 (.num 0),
      whenOff (stepped 67108864 (rw 0x03 .u64 (.num 0) [])),
      whenOff (rw 0x04 .u8 (.num 0) [(0, 1)]),
      whenOff (rw 0x05 .u8 (.num 4) [(2, 2), (4, 4), (8, 8)]),
      rw 0x06 .u8 (.num 0) [(0, 1)],
      whenOff (rw 0x07 .u8 (.num 1) [(1, 1), (2, 2), (4, 4), (8, 8)]),
      whenOff (rw 0x08 .u16 (.num 256) [(8, 8), (16, 16), (32, 32), (64, 64), (128, 128), (256, 256), (512, 512), (1024, 1024), (2048, 2048)]),
      whenOff (rw 0x09 .u8 (.num 2) [(2, 2), (5, 5)]),
      rw 0x0A .bool (.num 1) [],
      ro 0x0B .u32 (.num 0),
      ro 0x0C .u32 (.num 0) ] ++
    [ ro 0x0D .u32 (.num 0),
      ro 0x0E .u16 (.num 0),
      ro 0x0F .u32 (.num 0),
      wo 0x10 .bool (.num 0) [] ]

/-- R169. -/
def tblR169 : Block where
  base := 0x1820
  count := 16
  fid := some 0x610
  clearSub := 0x0C
  clears := [(0x09, 0x0B)]
  subs :=
    [ rw 0x01 .bool (.num 0) [],
      ro 0x02 .u8 (.num 0),
      whenOff (rw 0x03 .u64 (.num 0) []),
      whenOff (rw 0x04 .u8 (.num 12) [(12, 36)]),
      whenOff (rw 0x05 .u64 (.num 0) []),
      whenOff (rw 0x06 .u8 (.num 3) [(0, 7)]),
      whenOff (rw 0x07 .u8 (.num 0) [(0, 1)]),
      whenOff (rw 0x08 .u8 (.num 4) [(2, 2), (4, 4), (8, 8)]),
      ro 0x09 .u32 (.num 0),
      ro 0x0A .u32 (.num 0),
      ro 0x0B .u32 (.num 0),
      wo 0x0C .bool (.num 0) [] ]

/-- R198. -/
def tblR198 : Block where
  base := 0x1700
  count := 1
  subs :=
    [ co 0x01 .u16 (.num 2048),
      co 0x02 .u16 (.num 1280),
      co 0x03 .u16 (.num 256),
      co 0x04 .u16 (.num 512),
      co 0x05 .u16 (.num 4096),
      rw 0x06 .u16 (.num 10) [(4, 100)],
      rw 0x07 .u16 (.num 10) [(1, 1000)],
      ro 0x08 .u16 (.num 0) ]

/-- R199. -/
def tblR199 : Block where
  base := 0x1701
  count := 1
  clearSub := 0x0B
  clears := [(0x06, 0x09)]
  subs :=
    [ ro 0x01 .u8 (.num 0),
      ro 0x02 .u32 (.num 0),
      ro 0x03 .u32 (.num 65536),
      ro 0x04 .u32 (.num 0),
      ro 0x05 .u16 (.num 0),
      ro 0x06 .u16 (.num 0),
      ro 0x07 .u32 (.num 0),
      ro 0x08 .u32 (.num 0),
      ro 0x09 .u32 (.num 0),
      ro 0x0A .u32 (.num 0),
      wo 0x0B .bool (.num 0) [] ]

/-- R201. -/
def tblR201 : Block where
  base := 0x1711
  count := 1
  subs :=
    [ rw 0x01 .u16 (.num 0) [(0, 4095)],
      rw 0x02 (.octets 16 16) (.oct (List.replicate 16 0)) [],
      wo 0x03 .bool (.num 0) [],
      wo 0x04 .bool (.num 0) [],
      ro 0x05 .u16 (.num 0) ]

/-- R202. -/
def tblR202 : Block where
  base := 0x1720
  count := 18
  fid := some 0x700
  clearSub := 0x1B
  clears := [(0x0D, 0x1A)]
  subs :=
    [ rw 0x01 .bool (.num 1) [],
      ro 0x02 .u8 (.num 0),
      rw 0x03 .u16 (.num 128) [(65, 8192)],
      many 7 (rw 0x04 .u16 (.num 16384) [(0, 65535)]),
      ro 0x0B .u32 (.num 0),
      ro 0x0C .u16 (.num 0),
      ro 0x0D .u32 (.num 0),
      ro 0x0E .u32 (.num 0),
      ro 0x0F .u32 (.num 0),
      ro 0x10 .u32 (.num 0),
      ro 0x11 .u32 (.num 0),
      ro 0x12 .u32 (.num 0) ] ++
    [ many 8 (ro 0x13 .u32 (.num 0)),
      wo 0x1B .bool (.num 0) [] ]

/-- R240. -/
def tblR240 : Block where
  base := 0x1900
  count := 64
  fid := some 0x500
  clearSub := 0x26
  clears := [(0x1D, 0x25), (0x27, 0x27)]
  subs :=
    [ rw 0x01 .bool (.num 0) [],
      ro 0x02 .u8 (.num 0),
      whenOff (rw 0x03 .u8 (.num 0) [(0, 1)]),
      whenOff (rw 0x04 .u8 (.num 1) [(0, 1)]),
      whenOff (rw 0x05 .u8 (.num 0) [(0, 1)]),
      whenOff (rw 0x06 .u16 (.num 64) [(16, 16), (32, 32), (64, 64), (128, 128), (256, 256), (512, 512), (1024, 1024), (2048, 2048), (4096, 4096)]),
      whenOff (stepped 4096 (rw 0x07 .u64 (.num 0) [])),
      whenOff (stepped 64 (rw 0x08 .u16 (.num 2048) [(64, 4096)])),
      whenOff (rw 0x09 .u16 (.num 0) [(0, 4095)]),
      whenOff (rw 0x0A .u8 (.num 5) [(2, 2), (5, 5)]),
      whenOff (rw 0x0B .u8 (.num 0) [(0, 1)]),
      whenOff (stepped 8 (rw 0x0C .u64 (.num 0) [])) ] ++
    [ rw 0x0D .u16 (.num 8) [],
      rw 0x0E .u16 (.num 20) [(1, 1000)],
      wb 0x0F .u16 (.num 0) [(0, 0), (8, 4096)],
      rw 0x10 .u16 (.num 65535) [],
      rw 0x11 .u16 (.num 65535) [],
      rw 0x12 .u8 (.num 1) [(0, 2)],
      rw 0x13 .u16 (.num 16) [(1, 4096)],
      rw 0x14 .u16 (.num 50) [(1, 10000)],
      rw 0x15 .u8 (.num 0) [],
      rw 0x16 .bool (.num 0) [],
      wo 0x17 .bool (.num 0) [],
      ro 0x18 .u16 (.num 0) ] ++
    [ ro 0x19 .u16 (.num 0),
      ro 0x1A .u64 (.num 0),
      ro 0x1B .u16 (.num 0),
      ro 0x1C .u64 (.num 0),
      ro 0x1D .u32 (.num 0),
      ro 0x1E .u32 (.num 0),
      ro 0x1F .u32 (.num 0),
      ro 0x20 .u32 (.num 0),
      ro 0x21 .u32 (.num 0),
      ro 0x22 .u32 (.num 0),
      ro 0x23 .u32 (.num 0),
      ro 0x24 .u32 (.num 0) ] ++
    [ ro 0x25 .u32 (.num 0),
      wo 0x26 .bool (.num 0) [],
      ro 0x27 .u32 (.num 0) ]

/-- R280. -/
def tblR280 : Block where
  base := 0x2000
  count := 192
  fid := some 0x100
  subs :=
    [ rw 0x01 .bool (.num 0) [],
      whenOff (rw 0x02 .u8 (.num 0) []),
      whenOff (rw 0x03 .u16 (.num 65535) [(0, 4095), (65535, 65535)]),
      whenOff (rw 0x04 .u8 (.num 0) []),
      rw 0x05 .bool (.num 1) [],
      rw 0x06 .u8 (.num 0) [(0, 1)],
      rw 0x07 .bool (.num 1) [],
      rw 0x08 .u32 (.num 101000) [(1000, 1000000)],
      rw 0x09 .u16 (.num 0) [(0, 1800)],
      many 4 (rw 0x0A .i32 (.num 0) []),
      rw 0x0E .u8 (.num 16) [(1, 250)],
      rw 0x0F .bool (.num 0) [] ] ++
    [ rw 0x10 .u8 (.num 25) [(1, 250)],
      wo 0x11 .bool (.num 0) [] ]

/-- R281. -/
def tblR281UART : Block where
  base := 0x2000
  count := 192
  mode := 1
  fid := some 0x100
  subs :=
    [ whenOff (rw 0x20 .u32 (.num 115200) [(300, 12000000)]),
      whenOff (rw 0x21 .u8 (.num 8) [(7, 9)]),
      whenOff (rw 0x22 .u8 (.num 0) [(0, 2)]),
      whenOff (rw 0x23 .u8 (.num 1) [(1, 2)]),
      whenOff (rw 0x24 .u8 (.num 1) [(0, 2)]),
      whenOff (rw 0x25 .u8 (.num 1) [(0, 1)]),
      whenOff (rw 0x26 .bool (.num 0) []),
      whenOff (rw 0x27 .u8 (.num 1) [(0, 254)]),
      whenOff (rw 0x28 .u16 (.num 1024) [(1, 4076)]),
      whenOff (rw 0x29 .u16 (.num 65535) [(0, 511), (65535, 65535)]),
      whenOff (rw 0x2A .u8 (.num 7) [(3, 128)]),
      whenOff (rw 0x2B .u8 (.num 1) [(0, 32)]) ] ++
    [ whenOff (rw 0x2C .u8 (.num 1) [(0, 32)]),
      whenOff (stepped 64 (rw 0x2D .u16 (.num 2048) [(256, 8192)])),
      whenOff (stepped 64 (rw 0x2E .u16 (.num 1024) [(256, 8192)])),
      rw 0x2F .bool (.num 0) [],
      whenOff (rw 0x30 .u8 (.num 0) []),
      whenOff (rw 0x31 .u8 (.num 0) [(0, 64)]) ]

/-- R282. -/
def tblR282BIN : Block where
  base := 0x2000
  count := 192
  mode := 3
  fid := some 0x100
  subs :=
    [ whenOff (rw 0x20 .u8 (.num 0) [(0, 1)]),
      rw 0x21 .u8 (.num 0) [(0, 1)],
      rw 0x22 .u16 (.num 40) [(0, 1000)],
      rw 0x23 .i32 (.num 75000) [],
      rw 0x24 .i32 (.num 50000) [],
      rw 0x25 .u16 (.num 0) [(0, 50000)],
      rw 0x26 .u8 (.num 8) [(0, 0), (2, 32)],
      rw 0x27 .u16 (.num 1000) [(10, 10000)],
      rw 0x28 .u16 (.num 5000) [(10, 60000)],
      rw 0x29 .u16 (.num 0) [(0, 0), (1, 500)] ]

/-- R283. -/
def tblR283BOUT : Block where
  base := 0x2000
  count := 192
  mode := 4
  fid := some 0x100
  subs :=
    [ rw 0x20 .u8 (.num 0) [(0, 2)],
      rw 0x21 .u32 (.num 100) [(1, 60000)],
      whenOff (rw 0x22 .u8 (.num 0) [(0, 32)]),
      rw 0x23 .u8 (.num 0) [(0, 2)],
      rw 0x24 .u16 (.num 0) [(0, 0), (1, 10000)],
      whenOff (rw 0x25 .u8 (.num 1) [(0, 2)]),
      rw 0x26 .u8 (.num 20) [(1, 100)],
      whenOff (rw 0x27 .u8 (.num 0) [(0, 2)]),
      rw 0x28 .u8 (.num 0) [(0, 1)],
      rw 0x29 .u32 (.num 0) [],
      rw 0x2A .u32 (.num 0) [(0, 200000000)],
      rw 0x2B .u8 (.num 0) [(0, 1)] ]

/-- R284. -/
def tblR284PULSE : Block where
  base := 0x2000
  count := 192
  mode := 5
  fid := some 0x100
  subs :=
    [ rw 0x20 .u8 (.num 1) [(1, 3)],
      rw 0x21 .u16 (.num 0) [(0, 1000)],
      rw 0x22 .u32 (.num 1000) [(1, 60000)],
      wo 0x23 .bool (.num 0) [] ]

/-- R284. -/
def tblR284TCODE : Block where
  base := 0x2000
  count := 192
  mode := 6
  fid := some 0x100
  subs :=
    [ whenOff (rw 0x20 .u8 (.num 0) [(0, 2)]),
      rw 0x21 .u8 (.num 4) [(0, 7)],
      rw 0x22 .u16 (.num 2026) [(2000, 2099)],
      rw 0x23 .i16 (.num 0) [(-1440, 1440)],
      rw 0x24 .u32 (.num 100000000) [(100, 500000000)] ]

/-- R284. -/
def tblR284CSTART : Block where
  base := 0x2000
  count := 192
  mode := 7
  fid := some 0x100
  subs :=
    [ stepped 5 (rw 0x20 .u32 (.num 1000) [(20, 100000)]),
      rw 0x21 .u8 (.num 0) [(0, 1)] ]

/-- R285. -/
def tblR285 : Block where
  base := 0x2100
  count := 192
  subs :=
    [ ro 0x01 .u8 (.num 0),
      ro 0x02 .u8 (.num 5),
      ro 0x03 .i32 (.num 0),
      ro 0x04 .bool (.num 0),
      ro 0x05 .u8 (.num 0),
      ro 0x06 .stamp64 (.num 0),
      ro 0x07 .u8 (.num 0),
      ro 0x08 .u32 (.num 0),
      ro 0x09 .u32 (.num 0),
      ro 0x0A .u32 (.num 0),
      ro 0x0B .stamp64 (.num 0),
      ro 0x0C .u16 (.num 0) ] ++
    [ ro 0x0D .u16 (.num 0) ]

/-- R287. -/
def tblR287 : Block where
  base := 0x2500
  count := 1
  subs :=
    [ ro 0x01 .u32 (.num 0),
      ro 0x02 .u32 (.num 0),
      ro 0x03 .u32 (.num 0),
      ro 0x04 .u32 (.num 0),
      ro 0x05 .u32 (.num 0),
      rw 0x06 .u16 (.num 256) [(16, 1024)],
      rw 0x07 .u16 (.num 1000) [(10, 10000)],
      rw 0x08 .u32 (.num 1) [],
      ro 0x09 (.domain 0 65536) (.oct []),
      rw 0x0A .u16 (.num 65535) [(0, 4095), (65535, 65535)],
      wo 0x0B .u32 (.num 0) [],
      ro 0x0C .u8 (.num 0) ] ++
    [ wo 0x0D .bool (.num 0) [] ]

/-- R288. -/
def tblR288 : Block where
  base := 0x2510
  count := 12
  fid := some 0x200
  subs :=
    [ ro 0x01 .u8 (.num 0),
      ro 0x02 .u8 (.num 0),
      ro 0x03 .u16 (.num 61440),
      ro 0x04 .u32 (.num 0) ]

/-- R313. -/
def tblR313 : Block where
  base := 0x2300
  count := 48
  fid := some 0x300
  clearSub := 0x3E
  clears := [(0x29, 0x3D)]
  subs :=
    [ rw 0x01 .bool (.num 0) [],
      ro 0x02 .u8 (.num 0),
      whenOff (rw 0x03 .u16 (.num 65535) [(0, 4095), (65535, 65535)]),
      whenOff (rw 0x04 .u16 (.num 50) [(1, 1024)]),
      whenOff (rw 0x05 .u16 (.num 13) [(2, 256)]),
      whenOff (rw 0x06 .u8 (.num 2) [(1, 128)]),
      whenOff (rw 0x07 .u8 (.num 2) [(1, 128)]),
      whenOff (rw 0x08 .bool (.num 0) []),
      whenOff (rw 0x09 .bool (.num 0) []),
      whenOff (rw 0x0A .u8 (.num 5) [(1, 32)]),
      whenOff (rw 0x0B .u8 (.num 13) [(1, 32)]),
      whenOff (rw 0x0C .u8 (.num 2) [(1, 16)]) ] ++
    [ whenOff (rw 0x0D .u8 (.num 2) [(1, 16)]),
      whenOff (rw 0x0E .u8 (.num 0) [(0, 255)]),
      whenOff (rw 0x0F .bool (.num 0) []),
      whenOff (rw 0x10 .bool (.num 0) []),
      rw 0x11 .u8 (.num 0) [(0, 1)],
      wo 0x12 .bool (.num 0) [],
      whenOff (rw 0x13 .u8 (.num 0) [(0, 1)]),
      whenOff (rw 0x14 .u8 (.num 0) [(0, 1)]),
      rw 0x15 .u32 (.num 0) [(0, 1073741823)],
      rw 0x16 .bool (.num 1) [],
      rw 0x17 .u32 (.num 100000) [(1000, 10000000)],
      rw 0x18 .u8 (.num 3) [(1, 255)] ] ++
    [ rw 0x19 .bool (.num 0) [],
      wo 0x1A .bool (.num 0) [],
      rw 0x1B .u16 (.num 64) [(17, 1000)],
      ro 0x20 .u8 (.num 3),
      ro 0x21 .u8 (.num 0),
      ro 0x22 .u8 (.num 0),
      ro 0x23 .u32 (.num 500000),
      ro 0x24 .u32 (.num 5000000),
      ro 0x25 .u8 (.num 0),
      ro 0x26 .u8 (.num 0),
      ro 0x27 .u64 (.num 0),
      ro 0x28 (.octets 128 128) (.oct (List.replicate 128 0)) ] ++
    [ ro 0x29 .u32 (.num 0),
      ro 0x2A .u32 (.num 0),
      ro 0x2B .u32 (.num 0),
      ro 0x2C .u32 (.num 0),
      ro 0x2D .u32 (.num 0),
      ro 0x2E .u32 (.num 0),
      ro 0x2F .u32 (.num 0),
      ro 0x30 .u32 (.num 0),
      ro 0x31 .u32 (.num 0),
      ro 0x32 .u32 (.num 0),
      ro 0x33 .u32 (.num 0),
      ro 0x34 .u32 (.num 0) ] ++
    [ ro 0x35 .u32 (.num 0),
      ro 0x36 .u32 (.num 0),
      ro 0x37 .u32 (.num 0),
      ro 0x38 .u32 (.num 0),
      ro 0x39 .u32 (.num 0),
      ro 0x3A .u32 (.num 0),
      ro 0x3B .u32 (.num 0),
      ro 0x3C .u32 (.num 0),
      ro 0x3D .u32 (.num 0),
      wo 0x3E .bool (.num 0) [] ]

/-- R341. -/
def tblR341 : Block where
  base := 0x2400
  count := 24
  fid := some 0x400
  clearSub := 0x34
  clears := [(0x27, 0x33)]
  subs :=
    [ rw 0x01 .bool (.num 0) [],
      ro 0x02 .u8 (.num 0),
      whenOff (rw 0x03 (.domain 128 128) (.oct (List.replicate 128 0)) []),
      whenOff (rw 0x04 .u8 (.num 0) [(0, 63)]),
      whenOff (rw 0x05 .bool (.num 0) []),
      whenOff (rw 0x06 .bool (.num 0) []),
      whenOff (rw 0x07 .u32 (.num 256) [(0x100, 0xFFFFFF)]),
      whenOff (rw 0x08 (.octets 16 16) (.oct (List.replicate 16 0)) []),
      whenOff (rw 0x09 .u8 (.num 0) []),
      whenOff (rw 0x0A .u8 (.num 0) []),
      whenOff (rw 0x0B .u8 (.num 0) [(0, 1)]),
      whenOff (rw 0x0C .u8 (.num 1) [(1, 1), (2, 2), (4, 4), (8, 8)]) ] ++
    [ whenOff (rw 0x0D .u8 (.num 0) [(0, 7)]),
      whenOff (rw 0x0E .u8 (.num 0) [(0, 7)]),
      whenOff (rw 0x0F .u8 (.num 255) [(0, 7), (255, 255)]),
      whenOff (rw 0x10 .u8 (.num 0) [(0, 1)]),
      whenOff (rw 0x11 .u8 (.num 0) [(0, 1)]),
      whenOff (rw 0x12 .u8 (.num 32) [(1, 32)]),
      whenOff (rw 0x13 .u8 (.num 8) [(0, 32)]),
      whenOff (rw 0x14 .u16 (.num 0) [(0, 65535)]),
      whenOff (rw 0x15 .u16 (.num 0) [(0, 65535)]),
      whenOff (rw 0x16 .u32 (.num 0) [(0, 16777215)]),
      whenOff (rw 0x17 .u16 (.num 65535) [(0, 4095), (65535, 65535)]),
      whenOff (rw 0x18 .u16 (.num 8) [(1, 1019)]) ] ++
    [ whenOff (rw 0x19 .u16 (.num 0) [(0, 60000)]),
      whenOff (stepped 64 (rw 0x1A .u16 (.num 0) [(0, 0), (256, 8192)])),
      whenOff (stepped 64 (rw 0x1B .u16 (.num 256) [(256, 8192)])),
      rw 0x1C .u32 (.num 0) [(0, 1000000)],
      rw 0x1D .u8 (.num 0) [(0, 63)],
      rw 0x1E .u8 (.num 0) [(0, 1)],
      ro 0x20 .u8 (.num 0),
      ro 0x21 .u8 (.num 0),
      ro 0x22 .u32 (.num 0),
      ro 0x23 .u8 (.num 0),
      ro 0x24 .u16 (.num 0),
      ro 0x25 .u16 (.num 0) ] ++
    [ ro 0x26 .u8 (.num 0),
      ro 0x27 .u32 (.num 0),
      ro 0x28 .u32 (.num 0),
      ro 0x29 .u32 (.num 0),
      ro 0x2A .u32 (.num 0),
      ro 0x2B .u32 (.num 0),
      ro 0x2C .u32 (.num 0),
      ro 0x2D .u32 (.num 0),
      ro 0x2E .u32 (.num 0),
      ro 0x2F .u32 (.num 0),
      ro 0x30 .u32 (.num 0),
      ro 0x31 .u32 (.num 0) ] ++
    [ ro 0x32 .u32 (.num 0),
      ro 0x33 .u32 (.num 0),
      wo 0x34 .bool (.num 0) [] ]

/-- R379. -/
def tblR379 : Block where
  base := 0x2800
  count := 1
  clearSub := 0x11
  clears := [(0x0B, 0x10)]
  subs :=
    [ rw 0x01 .u8 (.num 0) [(0, 2)],
      rw 0x02 .u16 (.num 4000) [(100, 60000)],
      rw 0x03 .u16 (.num 400) [(10, 10000)],
      rw 0x04 .u16 (.num 60) [(1, 3600)],
      rw 0x05 .u16 (.num 2000) [(100, 10000)],
      rw 0x06 .u8 (.num 0) [],
      rw 0x07 .u8 (.num 0) [(0, 1)],
      rw 0x08 .u16 (.num 65535) [(0, 4095), (65535, 65535)],
      rw 0x09 (.domain 512 512) (.oct (List.replicate 512 0)) [],
      ro 0x0A .u16 (.num 0),
      ro 0x0B .u32 (.num 0),
      ro 0x0C .u32 (.num 0) ] ++
    [ ro 0x0D .u32 (.num 0),
      ro 0x0E .u32 (.num 0),
      ro 0x0F .u32 (.num 0),
      ro 0x10 .u32 (.num 0),
      wo 0x11 .bool (.num 0) [] ]

/-- R380. -/
def tblR380 : Block where
  base := 0x2801
  count := 2
  fid := some 0x900
  clearSub := 0x14
  clears := [(0x09, 0x13)]
  subs :=
    [ rw 0x01 .bool (.num 0) [],
      ro 0x02 .u8 (.num 0),
      whenOff (rw 0x03 .u8 (.num 0) []),
      whenOff (rw 0x04 (.octets 6 6) (.oct Config.macBase) []),
      rw 0x05 .bool (.num 0) [],
      rw 0x06 .i32 (.num 0) [(-1000000, 1000000)],
      rw 0x07 .i32 (.num 0) [(-1000000, 1000000)],
      ro 0x08 .u8 (.num 0),
      ro 0x09 .u32 (.num 0),
      ro 0x0A .u32 (.num 0),
      ro 0x0B .u32 (.num 0),
      ro 0x0C .u32 (.num 0) ] ++
    [ ro 0x0D .u32 (.num 0),
      ro 0x0E .u32 (.num 0),
      ro 0x0F .u32 (.num 0),
      ro 0x10 .u32 (.num 0),
      ro 0x11 .u32 (.num 0),
      ro 0x12 .u32 (.num 0),
      ro 0x13 .u32 (.num 0),
      wo 0x14 .bool (.num 0) [] ]

/-- R381. -/
def tblR381 : Block where
  base := 0x2840
  count := 1
  fid := some 0xE
  subs :=
    [ rw 0x01 .bool (.num 0) [],
      ro 0x02 .u8 (.num 0),
      whenOff (rw 0x03 .u8 (.num 0) [(0, 1)]),
      whenOff (rw 0x04 .u8 (.num 0) [(0, 1)]),
      whenOff (rw 0x05 .u8 (.num 3) [(0, 3)]),
      whenOff (rw 0x06 .u8 (.num 0x1_0000) [(0, 255)]),
      rw 0x07 .bool (.num 1) [],
      rw 0x08 .u8 (.num 128) [(0, 255)],
      rw 0x09 .u8 (.num 128) [(0, 255)],
      rw 0x0A .u8 (.num 6) [(6, 254)],
      rw 0x0B .u16 (.num 0x1_0000) [],
      rw 0x0C .u16 (.num 0) [] ] ++
    [ rw 0x0D .u32 (.num 50) [(0, 1000000)],
      rw 0x0E .u8 (.num 3) [(2, 10)] ]

/-- R382. -/
def tblR382 : Block where
  base := 0x2841
  count := 1
  clearSub := 0x10
  clears := [(0x0B, 0x0F)]
  subs :=
    [ ro 0x01 .u8 (.num 3),
      ro 0x02 .u8 (.num 3),
      ro 0x03 (.octets 10 10) (.oct (List.replicate 10 0)),
      ro 0x04 (.octets 8 8) (.oct (List.replicate 8 0)),
      ro 0x05 .u8 (.num 255),
      ro 0x06 .u16 (.num 0),
      ro 0x07 .i64 (.num 0),
      ro 0x08 .u32 (.num 0),
      ro 0x09 .u32 (.num 0),
      ro 0x0A .u32 (.num 4294967295),
      ro 0x0B .u32 (.num 0),
      ro 0x0C .u32 (.num 0) ] ++
    [ ro 0x0D .u32 (.num 0),
      ro 0x0E .u32 (.num 0),
      ro 0x0F .u32 (.num 0),
      wo 0x10 .bool (.num 0) [] ]

/-- R383. -/
def tblR383 : Block where
  base := 0x2880
  count := 1
  clearSub := 0x09
  clears := [(0x02, 0x08)]
  subs :=
    [ rw 0x01 .u16 (.num 2000) [(100, 60000)],
      ro 0x02 .u32 (.num 0),
      ro 0x03 .u32 (.num 0),
      ro 0x04 .u32 (.num 0),
      ro 0x05 .u32 (.num 0),
      ro 0x06 .u32 (.num 0),
      ro 0x07 .u32 (.num 0),
      ro 0x08 .u32 (.num 0),
      wo 0x09 .bool (.num 0) [] ]

/-- R384. -/
def tblR384 : Block where
  base := 0x2900
  count := 128
  fid := some 0xA00
  clearSub := 0x19
  clears := [(0x15, 0x17)]
  subs :=
    [ rw 0x01 .bool (.num 0) [],
      ro 0x02 .u8 (.num 0),
      whenOff (rw 0x03 .u16 (.num 65535) [(0, 4095)]),
      whenOff (rw 0x04 (.octets 6 6) (.oct [0x01, 0x0C, 0xCD, 0x01, 0x00, 0x00]) []),
      whenOff (rw 0x05 .u16 (.num 0) [(0, 16383)]),
      whenOff (rw 0x06 .u16 (.num 32768) []),
      whenOff (rw 0x07 (.str 1 129) (.oct []) []),
      whenOff (rw 0x08 (.str 1 129) (.oct []) []),
      whenOff (rw 0x09 (.str 1 129) (.oct []) []),
      whenOff (rw 0x0A .u32 (.num 1) [(1, 4294967295)]),
      whenOff (rw 0x0B .bool (.num 0) []),
      whenOff (rw 0x0C (.domain 4 256) (.oct []) []) ] ++
    [ rw 0x0D .u32 (.num 1000) [(100, 60000)],
      rw 0x0E .u16 (.num 4) [(1, 1000)],
      rw 0x0F .u8 (.num 2) [(2, 8)],
      rw 0x10 .u8 (.num 2) [(2, 5)],
      whenOff (rw 0x11 .u8 (.num 0) [(0, 32)]),
      ro 0x12 .u32 (.num 0),
      ro 0x13 .u32 (.num 0),
      ro 0x14 .u16 (.num 0),
      ro 0x15 .u32 (.num 0),
      ro 0x16 .u32 (.num 0),
      ro 0x17 .u32 (.num 0),
      ro 0x18 .stamp64 (.num 0) ] ++
    [ wo 0x19 .bool (.num 0) [] ]

/-- R385. -/
def tblR385 : Block where
  base := 0x2A00
  count := 256
  fid := some 0xB00
  clearSub := 0x16
  clears := [(0x11, 0x15)]
  subs :=
    [ rw 0x01 .bool (.num 0) [],
      ro 0x02 .u8 (.num 0),
      whenOff (rw 0x03 .u16 (.num 0) [(0, 16383)]),
      whenOff (rw 0x04 (.octets 6 6) (.oct [0x01, 0x0C, 0xCD, 0x01, 0x00, 0x00]) []),
      whenOff (rw 0x05 (.octets 6 6) (.oct (List.replicate 6 0)) []),
      whenOff (rw 0x06 (.str 1 129) (.oct []) []),
      whenOff (rw 0x07 .u32 (.num 1) []),
      whenOff (rw 0x08 .u8 (.num 1) [(1, 64)]),
      whenOff (rw 0x09 .bool (.num 0) []),
      whenOff (rw 0x0A (.domain 8 512) (.oct []) []),
      whenOff (rw 0x0B .u16 (.num 65535) [(0, 4095), (65535, 65535)]),
      whenOff (rw 0x0C .u8 (.num 0) [(0, 1)]) ] ++
    [ ro 0x0D .u8 (.num 0),
      ro 0x0E .u32 (.num 0),
      ro 0x0F .u32 (.num 0),
      ro 0x10 .u32 (.num 0),
      ro 0x11 .u32 (.num 0),
      ro 0x12 .u32 (.num 0),
      ro 0x13 .u32 (.num 0),
      ro 0x14 .u32 (.num 0),
      ro 0x15 .u32 (.num 0),
      wo 0x16 .bool (.num 0) [] ]

/-- R418. -/
def tblR418 : Block where
  base := 0x3000
  count := 1
  fid := some 0xC
  subs :=
    [ rw 0x01 .bool (.num 0) [],
      ro 0x02 .u8 (.num 0),
      whenOff (rw 0x03 .u8 (.num 1) [(1, 32)]),
      co 0x04 .u8 (.num 0),
      whenOff (rw 0x05 .u8 (.num 0) [(0, 64)]),
      whenOff (rw 0x06 .u32 (.num 2000) [(250, 20000)]),
      whenOff (rw 0x07 .u8 (.num 2) [(1, 16)]),
      whenOff (rw 0x08 .u32 (.num 100) [(10, 1000)]),
      whenOff (rw 0x09 .u8 (.num 3) [(3, 64)]),
      co 0x0A .u8 (.num 10),
      wo 0x0B .bool (.num 0) [],
      wo 0x0C .bool (.num 0) [] ] ++
    [ whenOff (rw 0x0D (.octets 0 512) (.oct []) []),
      whenOff (stepped 4096 (rw 0x0E .u32 (.num 65536) [])),
      whenOff (stepped 4096 (rw 0x0F .u32 (.num 65536) [(16384, 1048576)])),
      whenOff (rw 0x10 .u64 (.num 0) []),
      wo 0x11 .bool (.num 0) [] ]

/-- R419. -/
def tblR419 : Block where
  base := 0x3001
  count := 1
  clearSub := 0x1A
  clears := [(0x0F, 0x19)]
  subs :=
    [ ro 0x01 .u8 (.num 0),
      ro 0x02 .u8 (.num 0),
      ro 0x03 .u32 (.num 0),
      ro 0x04 .u32 (.num 0),
      ro 0x05 .u8 (.num 0),
      ro 0x06 .u8 (.num 0),
      ro 0x07 .u8 (.num 0),
      ro 0x08 .stamp64 (.num 0),
      ro 0x09 .u8 (.num 0),
      ro 0x0A .u32 (.num 0),
      ro 0x0B .u32 (.num 0),
      ro 0x0C .u16 (.num 0) ] ++
    [ ro 0x0D .u8 (.num 0),
      ro 0x0E .stamp64 (.num 0),
      ro 0x0F .u32 (.num 0),
      ro 0x10 .u32 (.num 0),
      ro 0x11 .u32 (.num 0),
      ro 0x12 .u32 (.num 0),
      ro 0x13 .u32 (.num 0),
      ro 0x14 .u32 (.num 0),
      ro 0x15 .u32 (.num 0),
      ro 0x16 .u32 (.num 0),
      ro 0x17 .u32 (.num 0),
      ro 0x18 .u32 (.num 0) ] ++
    [ ro 0x19 .u32 (.num 0),
      wo 0x1A .bool (.num 0) [] ]

/-- R420. -/
def tblR420 : Block where
  base := 0x3002
  count := 1
  subs :=
    [ many 32 (ro 0x01 .u32 (.num 0)),
      wo 0x21 .u8 (.num 0) [(1, 32), (255, 255)] ]

/-- R453. -/
def tblR453 : Block where
  base := 0x1000
  count := 1
  subs :=
    [ co 0x01 (.str 0 8) (.oct (asciiBytes "Teroskom")),
      co 0x02 (.str 0 5) (.oct (asciiBytes "S192H")),
      co 0x03 .u8 (.num 176),
      co 0x04 (.str 0 8) (.oct (asciiBytes "S192H-AQ")),
      co 0x05 (.str 12 12) (.oct Config.serialNumber),
      ro 0x06 .u32 (.num Config.keeperVersion),
      ro 0x07 .u16 (.num 1),
      co 0x08 (.octets 6 6) (.oct Config.macBase),
      ro 0x09 .u64 (.num 0) ]

/-- R454. -/
def tblR454 : Block where
  base := 0x1010
  count := 1
  subs :=
    [ wo 0x01 .bool (.num 0) [],
      wo 0x02 .bool (.num 0) [],
      ro 0x03 .u8 (.num 2),
      ro 0x04 .stamp64 (.num 0),
      ro 0x05 .u32 (.num 0),
      ro 0x06 .u16 (.num 0) ]

/-- R455. -/
def tblR455 : Block where
  base := 0x1100
  count := 1
  subs :=
    [ rw 0x01 .u8 (.num 100) [(0, 255)],
      rw 0x02 .u8 (.num 100) [(0, 255)],
      rw 0x03 .u8 (.num 100) [(0, 255)],
      rw 0x04 .u8 (.num 100) [(0, 255)],
      rw 0x05 .u16 (.num 2000) [(100, 60000)],
      rw 0x06 .u16 (.num 1000) [(100, 10000)],
      co 0x07 .u16 (.num 10),
      rw 0x08 .bool (.num 0) [],
      rw 0x09 .u64 (.num 18446744073709551615) [],
      rw 0x0A .bool (.num 1) [],
      rw 0x0B .bool (.num 0) [],
      rw 0x0C .u16 (.num 1000) [(100, 10000)] ]

/-- R456. -/
def tblR456 : Block where
  base := 0x1101
  count := 1
  clearSub := 0x16
  clears := [(0x09, 0x15)]
  subs :=
    [ ro 0x01 .u8 (.num 0),
      ro 0x02 .u32 (.num 0),
      ro 0x03 (.octets 4 4) (.oct (List.replicate 4 0)),
      ro 0x04 .u32 (.num 0),
      ro 0x05 .stamp64 (.num 0),
      ro 0x06 .u32 (.num 0),
      ro 0x07 .u8 (.num 0),
      ro 0x08 .u8 (.num 0),
      ro 0x09 .u32 (.num 0),
      ro 0x0A .u32 (.num 0),
      ro 0x0B .u32 (.num 0),
      ro 0x0C .u32 (.num 0) ] ++
    [ ro 0x0D .u32 (.num 0),
      ro 0x0E .u32 (.num 0),
      ro 0x0F .u32 (.num 0),
      ro 0x10 .u32 (.num 0),
      ro 0x11 .u32 (.num 0),
      ro 0x12 .u32 (.num 0),
      ro 0x13 .u32 (.num 0),
      ro 0x14 .u32 (.num 0),
      ro 0x15 .u32 (.num 0),
      wo 0x16 .bool (.num 0) [] ]

/-- R457. -/
def tblR457 : Block where
  base := 0x1110
  count := 1
  subs :=
    [ rw 0x01 .bool (.num 0) [],
      rw 0x02 (.octets 4 4) (.oct (List.replicate 4 0)) [],
      rw 0x03 .u16 (.num 50192) [(1024, 65535)],
      rw 0x04 .u16 (.num 65535) [(0, 4095)],
      many 4 (wo 0x05 (.octets 32 32) (.oct (List.replicate 32 0)) []),
      rw 0x09 .u8 (.num 0) [(0, 15)],
      ro 0x0A .u8 (.num 0),
      many 4 (ro 0x0B .u64 (.num 0)) ]

/-- R473. -/
def tblR473 : Block where
  base := 0x3540
  count := 1
  clearSub := 0x0A
  clears := [(0x08, 0x08), (0x09, 0x09)]
  subs :=
    [ rw 0x01 .u8 (.num 32) [(1, 32)],
      rw 0x02 .u32 (.num 79764919) [],
      rw 0x03 .u32 (.num 4294967295) [],
      rw 0x04 .bool (.num 1) [],
      rw 0x05 .bool (.num 1) [],
      rw 0x06 .u32 (.num 4294967295) [],
      ro 0x07 .u32 (.num 3421780262),
      ro 0x08 .u32 (.num 0),
      ro 0x09 .u32 (.num 0),
      wo 0x0A .bool (.num 0) [] ]

/-- R474. -/
def tblR474 : Block where
  base := 0x3541
  count := 4
  fid := some 0xC00
  clearSub := 0x08
  clears := [(0x05, 0x07)]
  subs :=
    [ rw 0x01 .bool (.num 1) [],
      ro 0x02 .u8 (.num 0),
      rw 0x03 (.octets 24 24) (.oct (List.replicate 24 0)) [],
      wo 0x04 .bool (.num 0) [],
      ro 0x05 .u32 (.num 0),
      ro 0x06 .u32 (.num 0),
      ro 0x07 .u32 (.num 0),
      wo 0x08 .bool (.num 0) [] ]

/-- R499. -/
def tblR499 : Block where
  base := 0x1200
  count := 1
  clearSub := 0x05
  clears := [(0x02, 0x02), (0x03, 0x03)]
  subs :=
    [ rw 0x01 .u64 (.num 18446744073709551615) [],
      ro 0x02 .u32 (.num 0),
      ro 0x03 .u32 (.num 0),
      ro 0x04 (.octets 32 32) (.oct (List.replicate 32 0)),
      wo 0x05 .bool (.num 0) [] ]

/-- R500. -/
def tblR500 : Block where
  base := 0x3500
  count := 1
  clearSub := 0x0C
  clears := [(0x07, 0x07), (0x08, 0x08), (0x0A, 0x0A), (0x0B, 0x0B)]
  subs :=
    [ ro 0x01 .bool (.num 0),
      ro 0x02 .u8 (.num 0),
      ro 0x03 .stamp64 (.num 0),
      ro 0x04 .u8 (.num 0),
      ro 0x05 .stamp64 (.num 0),
      wo 0x06 .bool (.num 0) [],
      ro 0x07 .u32 (.num 0),
      ro 0x08 .u32 (.num 0),
      ro 0x09 .u32 (.num 0),
      ro 0x0A .u32 (.num 0),
      ro 0x0B .u32 (.num 0),
      wo 0x0C .bool (.num 0) [] ]

/-- R501. -/
def tblR501 : Block where
  base := 0x3501
  count := 1
  subs :=
    [ ro 0x01 .u32 (.num 16000),
      wo 0x02 .bool (.num 0) [],
      rw 0x03 .bool (.num 0) [],
      co 0x04 .u16 (.num 10),
      co 0x05 .u16 (.num 16) ]

/-- R502. -/
def tblR502 : Block where
  base := 0x3600
  count := 1
  subs :=
    [ wo 0x01 .u16 (.num 0) [],
      ro 0x02 .u32 (.num 0),
      ro 0x03 .u16 (.num 0),
      ro 0x04 .stamp64 (.num 0),
      ro 0x05 .u32 (.num 0) ]

/-- R525. -/
def tblR525 : Block where
  base := 0x3100
  count := 1
  subs :=
    [ rw 0x01 .u8 (.num 0) [(0, 1)],
      rw 0x02 .u16 (.num 20) [(5, 200)],
      rw 0x03 .u32 (.num 16000) [(15000, 70000)],
      rw 0x04 .u32 (.num 77000) [(20000, 78000)],
      rw 0x05 .u16 (.num 10) [(1, 1000)],
      rw 0x06 .u16 (.num 50) [(10, 500)],
      rw 0x07 .u8 (.num 40) [(10, 50)],
      rw 0x08 .u16 (.num 10) [(1, 100)],
      rw 0x09 .u8 (.num 1) [(0, 2)],
      rw 0x0A .u16 (.num 100) [(10, 1000)],
      rw 0x0B .u8 (.num 3) [(2, 4)],
      rw 0x0C .u8 (.num 0) [(0, 7)] ] ++
    [ rw 0x0D .u32 (.num 12000) [(4000, 72000)],
      rw 0x0E .u16 (.num 1000) [(100, 5000)],
      rw 0x0F .u32 (.num 10000) [(500, 100000)],
      rw 0x10 .u16 (.num 0) [(0, 999)],
      rw 0x11 .bool (.num 1) [],
      rw 0x12 .bool (.num 1) [],
      rw 0x13 .u16 (.num 1000) [(100, 10000)],
      rw 0x14 .bool (.num 1) [],
      wo 0x15 .bool (.num 0) [] ]

/-- R526. -/
def tblR526 : Block where
  base := 0x3101
  count := 1
  subs :=
    [ rw 0x01 .bool (.num 1) [],
      rw 0x02 .u16 (.num 100) [(20, 450)],
      rw 0x03 (.octets 32 32) (.oct breakerCurveDefault) [] ]

/-- R527. -/
def tblR527 : Block where
  base := 0x3102
  count := 1
  subs :=
    [ ro 0x01 .u8 (.num 0),
      ro 0x02 .bool (.num 0),
      ro 0x03 .u8 (.num 0),
      ro 0x04 .i32 (.num 0),
      ro 0x05 .i32 (.num 0),
      ro 0x06 .i32 (.num 0),
      ro 0x07 .i32 (.num 0),
      ro 0x08 .i32 (.num 0),
      ro 0x09 .i32 (.num 0),
      ro 0x0A .i32 (.num 0),
      ro 0x0B .u16 (.num 0),
      ro 0x0C .i16 (.num 0) ] ++
    [ ro 0x0D .u16 (.num 0),
      ro 0x0E .u16 (.num 0),
      ro 0x0F .u8 (.num 0),
      ro 0x10 .u8 (.num 0),
      ro 0x11 .u8 (.num 0) ]

/-- R550. -/
def tblR550 : Block where
  base := 0x3200
  count := 1
  subs :=
    [ wo 0x01 .u8 (.num 0) [(0, 4)],
      ro 0x02 .u8 (.num 0),
      rw 0x03 .u8 (.num 0) [(0, 2)],
      rw 0x04 .u16 (.num 10) [(1, 1000)],
      rw 0x05 .bool (.num 0) [],
      ro 0x06 .u8 (.num 0),
      ro 0x07 .u8 (.num 0),
      ro 0x08 .u16 (.num 0),
      ro 0x09 .u32 (.num 0),
      ro 0x0A .u32 (.num 0) ]

/-- R551. -/
def tblR551 : Block where
  base := 0x3201
  count := 1
  subs :=
    [ rw 0x01 .u16 (.num 36) [],
      rw 0x02 .u8 (.num 1) [(1, 3)],
      rw 0x03 .u32 (.num 0) [(0, 0), (10, 4294967295)],
      rw 0x04 (.octets 16 16) (.oct (List.replicate 16 0xFF)) [],
      ro 0x05 .u8 (.num 0),
      ro 0x06 .stamp128 (.num 0),
      ro 0x07 .u32 (.num 0),
      ro 0x08 .u16 (.num 0),
      ro 0x09 .u32 (.num 0) ]

/-- R553. -/
def tblR553 : Block where
  base := 0x3204
  count := 1
  subs :=
    [ rw 0x01 .u16 (.num 0) [(0, 8191)],
      rw 0x02 .u8 (.num 0) [(0, 1)],
      wo 0x03 .u16 (.num 0) [(0, 8191)],
      ro 0x04 .u16 (.num 0) ]

/-- R566. -/
def tblR566 : Block where
  base := 0x3300
  count := 1
  fid := some 0xD
  subs :=
    [ rw 0x01 .bool (.num 1) [],
      ro 0x02 .u8 (.num 0),
      rw 0x03 .bool (.num 1) [],
      rw 0x04 .u8 (.num 7) [(0, 7)],
      rw 0x05 .u16 (.num 3000) [(500, 3000)],
      rw 0x06 .bool (.num 1) [],
      rw 0x07 .u16 (.num 200) [(50, 390)],
      co 0x08 .u8 (.num 10),
      rw 0x09 .u8 (.num 0) [(0, 1)] ]

/-- R567. -/
def tblR567 : Block where
  base := 0x3301
  count := 1
  clearSub := 0x11
  clears := [(0x0A, 0x10)]
  subs :=
    [ ro 0x01 .u8 (.num 0),
      ro 0x02 .u8 (.num 0),
      ro 0x03 .bool (.num 0),
      ro 0x04 .u16 (.num 0),
      ro 0x05 .u16 (.num 0),
      ro 0x06 .u8 (.num 0),
      ro 0x07 (.octets 8 8) (.oct (List.replicate 8 0)),
      ro 0x08 .u8 (.num 0),
      ro 0x09 (.octets 0 28) (.oct []),
      ro 0x0A .u32 (.num 0),
      ro 0x0B .u32 (.num 0),
      ro 0x0C .u32 (.num 0) ] ++
    [ ro 0x0D .u32 (.num 0),
      ro 0x0E .u32 (.num 0),
      ro 0x0F .u32 (.num 0),
      ro 0x10 .u32 (.num 0),
      wo 0x11 .bool (.num 0) [] ]

/-- R588. -/
def tblR588 : Block where
  base := 0x3400
  count := 1
  clearSub := 0x13
  clears := [(0x0F, 0x12)]
  subs :=
    [ ro 0x01 .u32 (.num 0),
      ro 0x02 (.octets 20 20) (.oct (List.replicate 20 0)),
      ro 0x03 .u8 (.num 0),
      ro 0x04 .u32 (.num 0),
      ro 0x05 .bool (.num 0),
      ro 0x06 .u32 (.num 0),
      ro 0x07 .u8 (.num 0),
      ro 0x08 .u8 (.num 0),
      ro 0x09 .u8 (.num 0),
      ro 0x0A .u32 (.num 0),
      ro 0x0B .u8 (.num 0),
      ro 0x0C .u8 (.num 255) ] ++
    [ ro 0x0D .u16 (.num Config.configFormat),
      ro 0x0E .u8 (.num 0),
      ro 0x0F .u32 (.num 0),
      ro 0x10 .u32 (.num 0),
      ro 0x11 .u32 (.num 0),
      ro 0x12 .u32 (.num 0),
      wo 0x13 .bool (.num 0) [] ]

/-- R589. -/
def tblR589 : Block where
  base := 0x3401
  count := 1
  subs :=
    [ wo 0x01 .bool (.num 0) [],
      wo 0x02 .bool (.num 0) [],
      wo 0x03 .bool (.num 0) [],
      wo 0x04 .bool (.num 0) [],
      wo 0x05 .bool (.num 0) [],
      wo 0x06 .bool (.num 0) [],
      wo 0x07 .u8 (.num 0) [(1, 5)],
      rw 0x08 .u16 (.num 30) [(1, 1440)],
      rw 0x09 .u8 (.num 0) [(0, 3)],
      rw 0x0A .bool (.num 0) [] ]

/-- R591. -/
def tblR591 : Block where
  base := 0x3403
  count := 1
  subs :=
    [ stepped 4096 (rw 0x01 .u32 (.num 1048576) []),
      stepped 4096 (rw 0x02 .u32 (.num 262144) [(4096, 1048576)]),
      wo 0x03 (.octets 8 8) (.oct (List.replicate 8 0)) [],
      ro 0x04 .u32 (.num 0) ]

/-- R592. -/
def tblR592 : Block where
  base := 0x3404
  count := 1
  subs :=
    [ ro 0x01 .u8 (.num Config.keySlotsValid),
      ro 0x02 .u8 (.num Config.keySlotsRevoked),
      ro 0x03 (.octets 128 128) (.oct Config.keyDigests),
      wo 0x04 .u8 (.num 0) [(0, 3)] ]

/-- R620. -/
def tblR620 : Block where
  base := 0x3510
  count := 1
  subs :=
    [ ro 0x01 .u8 (.num 2),
      ro 0x02 .u8 (.num 1),
      ro 0x03 .u32 (.num 0),
      ro 0x04 .u32 (.num 0),
      ro 0x05 .u32 (.num 0),
      ro 0x06 .u16 (.num 0),
      ro 0x07 .u8 (.num 0) ]

/-- R286, channel-tallies. -/
def tblR286 : Block where
  base := 0x2200
  count := 192
  clearSub := 0x19
  clears := [(0x01, 0x18)]
  subs := [ many 24 (ro 0x01 .u32 (.num 0)),
      wo 0x19 .bool (.num 0) [] ]

/-- R528, power-tallies. -/
def tblR528 : Block where
  base := 0x3103
  count := 1
  clearSub := 0x0E
  clears := [(0x01, 0x0D)]
  subs := [ many 13 (ro 0x01 .u32 (.num 0)),
      wo 0x0E .bool (.num 0) [] ]

/-- R552, holder-refusals. -/
def tblR552r : Block where
  base := 0x3202
  count := 1
  clearSub := 0x21
  clears := [(0x01, 0x05), (0x10, 0x1B)]
  subs := [ many 5 (ro 0x01 .u32 (.num 0)),
      many 12 (ro 0x10 .u32 (.num 0)),
      wo 0x21 .bool (.num 0) [] ]

/-- R552, holder-aborts. -/
def tblR552a : Block where
  base := 0x3203
  count := 1
  clearSub := 0x21
  clears := [(0x01, 0x05), (0x10, 0x1B), (0x20, 0x20)]
  subs := [ many 5 (ro 0x01 .u32 (.num 0)),
      many 12 (ro 0x10 .u32 (.num 0)),
      ro 0x20 .u32 (.num 0),
      wo 0x21 .bool (.num 0) [] ]

/-- R200, forwarding-table. -/
def tblR200 : Block where
  base := 0x1710
  count := 1
  subs := [ rw 0x01 (.domain 65536 65536) (.oct []) [] ]

/-- R314, can-schedule. -/
def tblR314 : Block where
  base := 0x2340
  count := 48
  subs := [ wb 0x01 (.domain 1552 1552) (.oct (List.replicate 1552 0)) [] ]

/-- R529, power-log. -/
def tblR529 : Block where
  base := 0x3104
  count := 1
  subs := [ ro 0x01 (.domain 0 512) (.oct []) ]

/-- R590, staging-data. -/
def tblR590 : Block where
  base := 0x3402
  count := 1
  subs := [ wo 0x01 (.domain 0 3735552) (.oct []) [] ]

/-- Every table of the dictionary, in parts. -/
def allBlocks : List Block :=
  [ tblR47, tblR48, tblR55, tblR56, tblR59, tblR69, tblR70, tblR79, tblR80, tblR83, tblR125, tblR126, tblR127, tblR166, tblR167, tblR168, tblR169, tblR198, tblR199, tblR201, tblR202, tblR240, tblR280, tblR281UART ] ++
  [ tblR282BIN, tblR283BOUT, tblR284PULSE, tblR284TCODE, tblR284CSTART, tblR285, tblR287, tblR288, tblR313, tblR341, tblR379, tblR380, tblR381, tblR382, tblR383, tblR384, tblR385, tblR418, tblR419, tblR420, tblR453, tblR454, tblR455, tblR456 ] ++
  [ tblR457, tblR473, tblR474, tblR499, tblR500, tblR501, tblR502, tblR525, tblR526, tblR527, tblR550, tblR551, tblR553, tblR566, tblR567, tblR588, tblR589, tblR591, tblR592, tblR620, tblR286, tblR528, tblR552r, tblR552a ] ++
  [ tblR200, tblR314, tblR529, tblR590 ]

end Sys2Proof.Machine
end

