-- ==== Sys2Proof/Machine/Obj.lean ====
section
/-! DEFINITION. Keys of the object dictionary: `index * 256 + subindex`, one definition for each object of the spec, named as the
spec names it. Mode subindexes of a channel carry the mode in bits [27:24] (R245: they hold the defaults of the new mode after a
write of ch-mode). -/

namespace Sys2Proof.Machine.Obj

/-- 0x1400:01, sync-state (R47). -/
def syncState : Nat := 0x140001
/-- 0x1400:02, time-source (R47). -/
def timeSource : Nat := 0x140002
/-- 0x1400:03, station-time (R47). -/
def stationTime : Nat := 0x140003
/-- 0x1400:04, uncertainty (R47). -/
def uncertainty : Nat := 0x140004
/-- 0x1400:05, map-rate (R47). -/
def mapRate : Nat := 0x140005
/-- 0x1400:06, last-step (R47). -/
def lastStep : Nat := 0x140006
/-- 0x1400:07, holdover-since (R47). -/
def holdoverSince : Nat := 0x140007
/-- 0x1400:08, utc-offset (R47). -/
def utcOffset : Nat := 0x140008
/-- 0x1400:09, step-tally (R47). -/
def stepTally : Nat := 0x140009
/-- 0x1400:0A, source-loss-tally (R47). -/
def sourceLossTally : Nat := 0x14000A
/-- 0x1400:0B, utc-offset-known (R47). -/
def utcOffsetKnown : Nat := 0x14000B
/-- 0x1401:01, source-priority (R48). -/
def sourcePriority : Nat := 0x140101
/-- 0x1401:02, tcode-channel (R48). -/
def tcodeChannel : Nat := 0x140102
/-- 0x1401:03, tcap-pps-pin (R48). -/
def tcapPpsPin : Nat := 0x140103
/-- 0x1401:04, step-limit (R48). -/
def stepLimit : Nat := 0x140104
/-- 0x1401:05, slew-limit (R48). -/
def slewLimit : Nat := 0x140105
/-- 0x1401:06, holdover-drift (R48). -/
def holdoverDrift : Nat := 0x140106
/-- 0x1401:07, revert (R48). -/
def revert : Nat := 0x140107
/-- 0x1401:08, qualify-time (R48). -/
def qualifyTime : Nat := 0x140108
/-- 0x1401:09, utc-offset-default (R48). -/
def utcOffsetDefault : Nat := 0x140109
/-- 0x1410:01, phc-source-list (R55). -/
def phcSourceList : Nat := 0x141001
/-- 0x1410:02, nominal-frequency (R55). -/
def nominalFrequency : Nat := 0x141002
/-- 0x1410:03, coast-limit (R55). -/
def coastLimit : Nat := 0x141003
/-- 0x1410:04, phase-master (R55). -/
def phaseMaster : Nat := 0x141004
/-- 0x1410:05, reference-offset (R55). -/
def referenceOffset : Nat := 0x141005
/-- 0x1410:06, min-amplitude (R55). -/
def minAmplitude : Nat := 0x141006
/-- 0x1411:01, phc-state (R56). -/
def phcState : Nat := 0x141101
/-- 0x1411:02, phc-source (R56). -/
def phcSource : Nat := 0x141102
/-- 0x1411:03, phase (R56). -/
def phase : Nat := 0x141103
/-- 0x1411:04, frequency (R56). -/
def phcStFrequency : Nat := 0x141104
/-- 0x1411:05, rocof (R56). -/
def rocof : Nat := 0x141105
/-- 0x1411:06, amplitude (R56). -/
def amplitude : Nat := 0x141106
/-- 0x1411:07, last-phase-step (R56). -/
def lastPhaseStep : Nat := 0x141107
/-- 0x1411:08, phase-master-conflicts (R56). -/
def phaseMasterConflicts : Nat := 0x141108
/-- 0x1420:01, cc-mode (R59). -/
def ccMode : Nat := 0x142001
/-- 0x1420:02, cc-slices (R59). -/
def ccSlices : Nat := 0x142002
/-- 0x1420:03, cc-period (R59). -/
def ccPeriod : Nat := 0x142003
/-- 0x1420:04, cc-offset (R59). -/
def ccOffset : Nat := 0x142004
/-- 0x1420:05, cc-number (R59). -/
def ccNumber : Nat := 0x142005
/-- 0x1450:01, entries-armed (R69). -/
def entriesArmed : Nat := 0x145001
/-- 0x1450:02, fired-tally (R69). -/
def firedTally : Nat := 0x145002
/-- 0x1450:03, missed-tally (R69). -/
def missedTally : Nat := 0x145003
/-- 0x1450:04, late-tally (R69). -/
def lateTally : Nat := 0x145004
/-- 0x1450:05, disarm-all (R69). -/
def disarmAll : Nat := 0x145005
/-- 0x1480+i:01, trig-enable (R70). -/
def trigEnable (i : Nat) : Nat := 0x148001 + i * 256
/-- 0x1480+i:02, trig-basis (R70). -/
def trigBasis (i : Nat) : Nat := 0x148002 + i * 256
/-- 0x1480+i:03, trig-shape (R70). -/
def trigShape (i : Nat) : Nat := 0x148003 + i * 256
/-- 0x1480+i:04, target-st (R70). -/
def targetSt (i : Nat) : Nat := 0x148004 + i * 256
/-- 0x1480+i:05, target-phase (R70). -/
def targetPhase (i : Nat) : Nat := 0x148005 + i * 256
/-- 0x1480+i:06, target-cycle (R70). -/
def targetCycle (i : Nat) : Nat := 0x148006 + i * 256
/-- 0x1480+i:07, cycle-offset (R70). -/
def cycleOffset (i : Nat) : Nat := 0x148007 + i * 256
/-- 0x1480+i:08, period (R70). -/
def period (i : Nat) : Nat := 0x148008 + i * 256
/-- 0x1480+i:09, action (R70). -/
def action (i : Nat) : Nat := 0x148009 + i * 256
/-- 0x1480+i:0A, action-target (R70). -/
def actionTarget (i : Nat) : Nat := 0x14800A + i * 256
/-- 0x1480+i:0B, action-arg (R70). -/
def actionArg (i : Nat) : Nat := 0x14800B + i * 256
/-- 0x1480+i:0C, operate-time (R70). -/
def operateTime (i : Nat) : Nat := 0x14800C + i * 256
/-- 0x1480+i:0D, late-policy (R70). -/
def latePolicy (i : Nat) : Nat := 0x14800D + i * 256
/-- 0x1480+i:0E, trig-state (R70). -/
def trigState (i : Nat) : Nat := 0x14800E + i * 256
/-- 0x1480+i:0F, last-fire (R70). -/
def lastFire (i : Nat) : Nat := 0x14800F + i * 256
/-- 0x1480+i:10, last-fire-ltc (R70). -/
def lastFireLtc (i : Nat) : Nat := 0x148010 + i * 256
/-- 0x1480+i:11, fire-count (R70). -/
def fireCount (i : Nat) : Nat := 0x148011 + i * 256
/-- 0x1480+i:12, repeat-count (R70). -/
def repeatCount (i : Nat) : Nat := 0x148012 + i * 256
/-- 0x1430+i:01, tcap-enable (R79). -/
def tcapEnable (i : Nat) : Nat := 0x143001 + i * 256
/-- 0x1430+i:02, tcap-edge (R79). -/
def tcapEdge (i : Nat) : Nat := 0x143002 + i * 256
/-- 0x1430+i:03, tcap-delay (R79). -/
def tcapDelay (i : Nat) : Nat := 0x143003 + i * 256
/-- 0x1430+i:04, last-capture (R79). -/
def lastCapture (i : Nat) : Nat := 0x143004 + i * 256
/-- 0x1430+i:05, tcap-count (R79). -/
def tcapCount (i : Nat) : Nat := 0x143005 + i * 256
/-- 0x1430+i:06, tcap-overflows (R79). -/
def tcapOverflows (i : Nat) : Nat := 0x143006 + i * 256
/-- 0x1430+i:07, clear-tallies (R79). -/
def tcapClearTallies (i : Nat) : Nat := 0x143007 + i * 256
/-- 0x1438+i:01, tout-mode (R80). -/
def toutMode (i : Nat) : Nat := 0x143801 + i * 256
/-- 0x1438+i:02, tout-pulse-width (R80). -/
def toutPulseWidth (i : Nat) : Nat := 0x143802 + i * 256
/-- 0x1438+i:03, tout-clock-period (R80). -/
def toutClockPeriod (i : Nat) : Nat := 0x143803 + i * 256
/-- 0x1438+i:04, tout-delay (R80). -/
def toutDelay (i : Nat) : Nat := 0x143804 + i * 256
/-- 0x1438+i:05, tout-idle (R80). -/
def toutIdle (i : Nat) : Nat := 0x143805 + i * 256
/-- 0x1440:01, rtc-elapsed (R83). -/
def rtcElapsed : Nat := 0x144001
/-- 0x1440:02, ltc-before (R83). -/
def ltcBefore : Nat := 0x144002
/-- 0x1440:03, ltc-after (R83). -/
def ltcAfter : Nat := 0x144003
/-- 0x1440:04, sleep-uncertainty (R83). -/
def sleepUncertainty : Nat := 0x144004
/-- 0x1440:05, wake-time (R83). -/
def wakeTime : Nat := 0x144005
/-- 0x1440:06, wake-count (R83). -/
def sleepWakeCount : Nat := 0x144006
/-- 0x1600:01, rejoin (R125). -/
def rejoin : Nat := 0x160001
/-- 0x1600:02, node-id (R125). -/
def nodeId : Nat := 0x160002
/-- 0x1600:03, ring-rate (R125). -/
def ringRate : Nat := 0x160003
/-- 0x1600:04, path-policy (R125). -/
def pathPolicy : Nat := 0x160004
/-- 0x1600:05, class01-rate (R125). -/
def class01Rate : Nat := 0x160005
/-- 0x1600:06, insertion-weight (R125). -/
def insertionWeight : Nat := 0x160006
/-- 0x1600:07, link-qualify (R125). -/
def linkQualify : Nat := 0x160007
/-- 0x1600:08, ring-time-candidate (R125). -/
def ringTimeCandidate : Nat := 0x160008
/-- 0x1600:09, time-interval (R125). -/
def timeInterval : Nat := 0x160009
/-- 0x1600:0A, window-age (R125). -/
def windowAge : Nat := 0x16000A
/-- 0x1601:01, node-id-in-use (R126). -/
def nodeIdInUse : Nat := 0x160101
/-- 0x1601:02, id-source (R126). -/
def idSource : Nat := 0x160102
/-- 0x1601:03, join-state (R126). -/
def joinState : Nat := 0x160103
/-- 0x1601:04, refuse-reason (R126). -/
def refuseReason : Nat := 0x160104
/-- 0x1601:05, steward-id (R126). -/
def stewardId : Nat := 0x160105
/-- 0x1601:06, member-map (R126). -/
def memberMap : Nat := 0x160106
/-- 0x1601:07, break-map (R126). -/
def breakMap : Nat := 0x160107
/-- 0x1601:08, ring-order (R126). -/
def ringOrder : Nat := 0x160108
/-- 0x1601:09, ordering-epoch (R126). -/
def orderingEpoch : Nat := 0x160109
/-- 0x1601:0A, granted-class01-rate (R126). -/
def grantedClass01Rate : Nat := 0x16010A
/-- 0x1601:0B, ring-class01-sum (R126). -/
def ringClass01Sum : Nat := 0x16010B
/-- 0x1601:0C, time-master-id (R126). -/
def timeMasterId : Nat := 0x16010C
/-- 0x1601:0D, last-reroute (R126). -/
def lastReroute : Nat := 0x16010D
/-- 0x1601:0E, neighbour-e (R126). -/
def neighbourE : Nat := 0x16010E
/-- 0x1601:0F, neighbour-w (R126). -/
def neighbourW : Nat := 0x16010F
/-- 0x1601:10, unreachable-drops (R126). -/
def unreachableDrops : Nat := 0x160110
/-- 0x1601:11, duplicate-discards (R126). -/
def duplicateDiscards : Nat := 0x160111
/-- 0x1601:12, stale-discards (R126). -/
def staleDiscards : Nat := 0x160112
/-- 0x1601:13, seq-gaps (R126). -/
def seqGaps : Nat := 0x160113
/-- 0x1601:14, clear-tallies (R126). -/
def ringStClearTallies : Nat := 0x160114
/-- 0x1602+i:01, port-enable (R127). -/
def rportPortEnable (i : Nat) : Nat := 0x160201 + i * 256
/-- 0x1602+i:02, function-state (R127). -/
def rportFunctionState (i : Nat) : Nat := 0x160202 + i * 256
/-- 0x1602+i:03, link-state (R127). -/
def rportLinkState (i : Nat) : Nat := 0x160203 + i * 256
/-- 0x1602+i:04, asymmetry (R127). -/
def asymmetry (i : Nat) : Nat := 0x160204 + i * 256
/-- 0x1602+i:05, link-delay (R127). -/
def linkDelay (i : Nat) : Nat := 0x160205 + i * 256
/-- 0x1602+i:06, link-loss-tally (R127). -/
def linkLossTally (i : Nat) : Nat := 0x160206 + i * 256
/-- 0x1602+i:07, frames-rx (R127). -/
def rportFramesRx (i : Nat) : Nat := 0x160207 + i * 256
/-- 0x1602+i:08, frames-tx (R127). -/
def rportFramesTx (i : Nat) : Nat := 0x160208 + i * 256
/-- 0x1602+i:09, transit-frames (R127). -/
def transitFrames (i : Nat) : Nat := 0x160209 + i * 256
/-- 0x1602+i:0A, crc-errors (R127). -/
def rportCrcErrors (i : Nat) : Nat := 0x16020A + i * 256
/-- 0x1602+i:0B, crc-stomped (R127). -/
def crcStomped (i : Nat) : Nat := 0x16020B + i * 256
/-- 0x1602+i:0C, header-errors (R127). -/
def headerErrors (i : Nat) : Nat := 0x16020C + i * 256
/-- 0x1602+i:0D, aborted-frames (R127). -/
def abortedFrames (i : Nat) : Nat := 0x16020D + i * 256
/-- 0x1602+i:0E, orphan-bursts (R127). -/
def orphanBursts (i : Nat) : Nat := 0x16020E + i * 256
/-- 0x1602+i:0F, orphan-bytes (R127). -/
def orphanBytes (i : Nat) : Nat := 0x16020F + i * 256
/-- 0x1602+i:10, hop-limit-drops (R127). -/
def hopLimitDrops (i : Nat) : Nat := 0x160210 + i * 256
/-- 0x1602+i:11, credit-waits (R127). -/
def creditWaits (i : Nat) : Nat := 0x160211 + i * 256
/-- 0x1602+i:12, clear-tallies (R127). -/
def rportClearTallies (i : Nat) : Nat := 0x160212 + i * 256
/-- 0x1800:01, read-budget (R166). -/
def readBudget : Nat := 0x180001
/-- 0x1800:02, rdx-retry-interval (R166). -/
def rdxRetryInterval : Nat := 0x180002
/-- 0x1800:03, fetch-hold (R166). -/
def fetchHold : Nat := 0x180003
/-- 0x1800:04, lock-watchdog (R166). -/
def lockWatchdog : Nat := 0x180004
/-- 0x1800:05, lock-retries (R166). -/
def lockRetries : Nat := 0x180005
/-- 0x1800:06, fence-timeout (R166). -/
def fenceTimeout : Nat := 0x180006
/-- 0x1800:07, fence-notice (R166). -/
def fenceNotice : Nat := 0x180007
/-- 0x1800:08, sram-sources (R166). -/
def sramSources : Nat := 0x180008
/-- 0x1800:09, sram-access (R166). -/
def sramAccess : Nat := 0x180009
/-- 0x1800:0A, register-sources (R166). -/
def registerSources : Nat := 0x18000A
/-- 0x1801:01, fault-log-count (R167). -/
def faultLogCount : Nat := 0x180101
/-- 0x1801:02, fault-log-overwritten (R167). -/
def faultLogOverwritten : Nat := 0x180102
/-- 0x1801:03, wnak-received (R167). -/
def wnakReceived : Nat := 0x180103
/-- 0x1801:04, wnak-sent (R167). -/
def wnakSent : Nat := 0x180104
/-- 0x1801:05, rdx-sent (R167). -/
def rdxSent : Nat := 0x180105
/-- 0x1801:06, fetch-expired (R167). -/
def fetchExpired : Nat := 0x180106
/-- 0x1801:07, fetch-busy (R167). -/
def fetchBusy : Nat := 0x180107
/-- 0x1801:08, fetch-buffers-held (R167). -/
def fetchBuffersHeld : Nat := 0x180108
/-- 0x1801:09, read-budget-aborts (R167). -/
def readBudgetAborts : Nat := 0x180109
/-- 0x1801:0A, lock-grants (R167). -/
def lockGrants : Nat := 0x18010A
/-- 0x1801:0B, lkrt-sent (R167). -/
def lkrtSent : Nat := 0x18010B
/-- 0x1801:0C, lkrt-received (R167). -/
def lkrtReceived : Nat := 0x18010C
/-- 0x1801:0D, lock-watchdog-aborts (R167). -/
def lockWatchdogAborts : Nat := 0x18010D
/-- 0x1801:0E, clear-tallies (R167). -/
def bridgeStClearTallies : Nat := 0x18010E
/-- 0x1801:0F, clear-fault-log (R167). -/
def clearFaultLog : Nat := 0x18010F
/-- 0x1810+i:01, win-enable (R168). -/
def winEnable (i : Nat) : Nat := 0x181001 + i * 256
/-- 0x1810+i:02, function-state (R168). -/
def winFunctionState (i : Nat) : Nat := 0x181002 + i * 256
/-- 0x1810+i:03, ring-base (R168). -/
def ringBase (i : Nat) : Nat := 0x181003 + i * 256
/-- 0x1810+i:04, byte-lane (R168). -/
def byteLane (i : Nat) : Nat := 0x181004 + i * 256
/-- 0x1810+i:05, di-unit (R168). -/
def diUnit (i : Nat) : Nat := 0x181005 + i * 256
/-- 0x1810+i:06, ordering (R168). -/
def ordering (i : Nat) : Nat := 0x181006 + i * 256
/-- 0x1810+i:07, access-min (R168). -/
def accessMin (i : Nat) : Nat := 0x181007 + i * 256
/-- 0x1810+i:08, access-max (R168). -/
def accessMax (i : Nat) : Nat := 0x181008 + i * 256
/-- 0x1810+i:09, write-class (R168). -/
def writeClass (i : Nat) : Nat := 0x181009 + i * 256
/-- 0x1810+i:0A, atomic-enable (R168). -/
def atomicEnable (i : Nat) : Nat := 0x18100A + i * 256
/-- 0x1810+i:0B, writes-issued (R168). -/
def writesIssued (i : Nat) : Nat := 0x18100B + i * 256
/-- 0x1810+i:0C, reads-issued (R168). -/
def readsIssued (i : Nat) : Nat := 0x18100C + i * 256
/-- 0x1810+i:0D, writes-faulted (R168). -/
def writesFaulted (i : Nat) : Nat := 0x18100D + i * 256
/-- 0x1810+i:0E, faulted-since-fence (R168). -/
def faultedSinceFence (i : Nat) : Nat := 0x18100E + i * 256
/-- 0x1810+i:0F, refused-accesses (R168). -/
def refusedAccesses (i : Nat) : Nat := 0x18100F + i * 256
/-- 0x1810+i:10, clear-tallies (R168). -/
def winClearTallies (i : Nat) : Nat := 0x181010 + i * 256
/-- 0x1820+i:01, ap-enable (R169). -/
def apEnable (i : Nat) : Nat := 0x182001 + i * 256
/-- 0x1820+i:02, function-state (R169). -/
def apFunctionState (i : Nat) : Nat := 0x182002 + i * 256
/-- 0x1820+i:03, host-base (R169). -/
def hostBase (i : Nat) : Nat := 0x182003 + i * 256
/-- 0x1820+i:04, ap-size (R169). -/
def apSize (i : Nat) : Nat := 0x182004 + i * 256
/-- 0x1820+i:05, ap-sources (R169). -/
def apSources (i : Nat) : Nat := 0x182005 + i * 256
/-- 0x1820+i:06, ap-access (R169). -/
def apAccess (i : Nat) : Nat := 0x182006 + i * 256
/-- 0x1820+i:07, ap-byte-lane (R169). -/
def apByteLane (i : Nat) : Nat := 0x182007 + i * 256
/-- 0x1820+i:08, ap-di-unit (R169). -/
def apDiUnit (i : Nat) : Nat := 0x182008 + i * 256
/-- 0x1820+i:09, reads-served (R169). -/
def readsServed (i : Nat) : Nat := 0x182009 + i * 256
/-- 0x1820+i:0A, writes-served (R169). -/
def writesServed (i : Nat) : Nat := 0x18200A + i * 256
/-- 0x1820+i:0B, denied (R169). -/
def denied (i : Nat) : Nat := 0x18200B + i * 256
/-- 0x1820+i:0C, clear-tallies (R169). -/
def apClearTallies (i : Nat) : Nat := 0x18200C + i * 256
/-- 0x1700:01, class0-reserve (R198). -/
def class0Reserve : Nat := 0x170001
/-- 0x1700:02, class0-route-budget (R198). -/
def class0RouteBudget : Nat := 0x170002
/-- 0x1700:03, class0-unrouted (R198). -/
def class0Unrouted : Nat := 0x170003
/-- 0x1700:04, class0-extraction (R198). -/
def class0Extraction : Nat := 0x170004
/-- 0x1700:05, min-shared (R198). -/
def minShared : Nat := 0x170005
/-- 0x1700:06, ct-stall-limit (R198). -/
def ctStallLimit : Nat := 0x170006
/-- 0x1700:07, drop-notice-interval (R198). -/
def dropNoticeInterval : Nat := 0x170007
/-- 0x1700:08, class0-budget-used (R198). -/
def class0BudgetUsed : Nat := 0x170008
/-- 0x1701:01, fwd-epoch (R199). -/
def fwdEpoch : Nat := 0x170101
/-- 0x1701:02, drain-count (R199). -/
def drainCount : Nat := 0x170102
/-- 0x1701:03, cells-free (R199). -/
def cellsFree : Nat := 0x170103
/-- 0x1701:04, shared-in-use (R199). -/
def sharedInUse : Nat := 0x170104
/-- 0x1701:05, class0-in-use (R199). -/
def class0InUse : Nat := 0x170105
/-- 0x1701:06, class0-peak (R199). -/
def class0Peak : Nat := 0x170106
/-- 0x1701:07, ecc-corrected (R199). -/
def eccCorrected : Nat := 0x170107
/-- 0x1701:08, ecc-uncorrectable (R199). -/
def eccUncorrectable : Nat := 0x170108
/-- 0x1701:09, busy-refusals (R199). -/
def swStBusyRefusals : Nat := 0x170109
/-- 0x1701:0A, flips (R199). -/
def flips : Nat := 0x17010A
/-- 0x1701:0B, clear-tallies (R199). -/
def swStClearTallies : Nat := 0x17010B
/-- 0x1711:01, route-index (R201). -/
def routeIndex : Nat := 0x171101
/-- 0x1711:02, route-entry (R201). -/
def routeEntry : Nat := 0x171102
/-- 0x1711:03, commit (R201). -/
def commit : Nat := 0x171103
/-- 0x1711:04, discard (R201). -/
def discard : Nat := 0x171104
/-- 0x1711:05, staged-count (R201). -/
def stagedCount : Nat := 0x171105
/-- 0x1720+i:01, port-enable (R202). -/
def portPortEnable (i : Nat) : Nat := 0x172001 + i * 256
/-- 0x1720+i:02, function-state (R202). -/
def portFunctionState (i : Nat) : Nat := 0x172002 + i * 256
/-- 0x1720+i:03, port-reserve (R202). -/
def portReserve (i : Nat) : Nat := 0x172003 + i * 256
/-- 0x1720+i:04, threshold-class (R202). -/
def thresholdClass (i j : Nat) : Nat := 0x172004 + i * 256 + j
/-- 0x1720+i:0B, cells-queued (R202). -/
def cellsQueued (i : Nat) : Nat := 0x17200B + i * 256
/-- 0x1720+i:0C, reserve-in-use (R202). -/
def reserveInUse (i : Nat) : Nat := 0x17200C + i * 256
/-- 0x1720+i:0D, frames-in (R202). -/
def framesIn (i : Nat) : Nat := 0x17200D + i * 256
/-- 0x1720+i:0E, frames-out (R202). -/
def framesOut (i : Nat) : Nat := 0x17200E + i * 256
/-- 0x1720+i:0F, no-route-drops (R202). -/
def noRouteDrops (i : Nat) : Nat := 0x17200F + i * 256
/-- 0x1720+i:10, no-port-drops (R202). -/
def noPortDrops (i : Nat) : Nat := 0x172010 + i * 256
/-- 0x1720+i:11, err-terminated (R202). -/
def portErrTerminated (i : Nat) : Nat := 0x172011 + i * 256
/-- 0x1720+i:12, ct-stalls (R202). -/
def ctStalls (i : Nat) : Nat := 0x172012 + i * 256
/-- 0x1720+i:13, tail-drops-class (R202). -/
def tailDropsClass (i j : Nat) : Nat := 0x172013 + i * 256 + j
/-- 0x1720+i:1B, clear-tallies (R202). -/
def portClearTallies (i : Nat) : Nat := 0x17201B + i * 256
/-- 0x1900+i:01, q-enable (R240). -/
def qEnable (i : Nat) : Nat := 0x190001 + i * 256
/-- 0x1900+i:02, function-state (R240). -/
def qFunctionState (i : Nat) : Nat := 0x190002 + i * 256
/-- 0x1900+i:03, q-direction (R240). -/
def qDirection (i : Nat) : Nat := 0x190003 + i * 256
/-- 0x1900+i:04, q-mode (R240). -/
def qMode (i : Nat) : Nat := 0x190004 + i * 256
/-- 0x1900+i:05, q-kind (R240). -/
def qKind (i : Nat) : Nat := 0x190005 + i * 256
/-- 0x1900+i:06, q-depth (R240). -/
def qDepth (i : Nat) : Nat := 0x190006 + i * 256
/-- 0x1900+i:07, desc-base (R240). -/
def descBase (i : Nat) : Nat := 0x190007 + i * 256
/-- 0x1900+i:08, buffer-size (R240). -/
def bufferSize (i : Nat) : Nat := 0x190008 + i * 256
/-- 0x1900+i:09, route (R240). -/
def qRoute (i : Nat) : Nat := 0x190009 + i * 256
/-- 0x1900+i:0A, bulk-class (R240). -/
def bulkClass (i : Nat) : Nat := 0x19000A + i * 256
/-- 0x1900+i:0B, credit-mode (R240). -/
def creditMode (i : Nat) : Nat := 0x19000B + i * 256
/-- 0x1900+i:0C, credit-word (R240). -/
def creditWord (i : Nat) : Nat := 0x19000C + i * 256
/-- 0x1900+i:0D, credit-batch (R240). -/
def creditBatch (i : Nat) : Nat := 0x19000D + i * 256
/-- 0x1900+i:0E, credit-holdoff (R240). -/
def creditHoldoff (i : Nat) : Nat := 0x19000E + i * 256
/-- 0x1900+i:0F, ct-thresh (R240). -/
def ctThresh (i : Nat) : Nat := 0x19000F + i * 256
/-- 0x1900+i:10, wm-high (R240). -/
def wmHigh (i : Nat) : Nat := 0x190010 + i * 256
/-- 0x1900+i:11, wm-low (R240). -/
def wmLow (i : Nat) : Nat := 0x190011 + i * 256
/-- 0x1900+i:12, irq-mode (R240). -/
def irqMode (i : Nat) : Nat := 0x190012 + i * 256
/-- 0x1900+i:13, irq-batch (R240). -/
def irqBatch (i : Nat) : Nat := 0x190013 + i * 256
/-- 0x1900+i:14, irq-holdoff (R240). -/
def irqHoldoff (i : Nat) : Nat := 0x190014 + i * 256
/-- 0x1900+i:15, crc-profile (R240). -/
def crcProfile (i : Nat) : Nat := 0x190015 + i * 256
/-- 0x1900+i:16, mirror (R240). -/
def mirror (i : Nat) : Nat := 0x190016 + i * 256
/-- 0x1900+i:17, flush (R240). -/
def flush (i : Nat) : Nat := 0x190017 + i * 256
/-- 0x1900+i:18, level (R240). -/
def level (i : Nat) : Nat := 0x190018 + i * 256
/-- 0x1900+i:19, wm-high-level (R240). -/
def wmHighLevel (i : Nat) : Nat := 0x190019 + i * 256
/-- 0x1900+i:1A, wm-high-ltc (R240). -/
def wmHighLtc (i : Nat) : Nat := 0x19001A + i * 256
/-- 0x1900+i:1B, wm-low-level (R240). -/
def wmLowLevel (i : Nat) : Nat := 0x19001B + i * 256
/-- 0x1900+i:1C, wm-low-ltc (R240). -/
def wmLowLtc (i : Nat) : Nat := 0x19001C + i * 256
/-- 0x1900+i:1D, items-in (R240). -/
def itemsIn (i : Nat) : Nat := 0x19001D + i * 256
/-- 0x1900+i:1E, items-out (R240). -/
def itemsOut (i : Nat) : Nat := 0x19001E + i * 256
/-- 0x1900+i:1F, credit-violations (R240). -/
def creditViolations (i : Nat) : Nat := 0x19001F + i * 256
/-- 0x1900+i:20, ptr-faults (R240). -/
def ptrFaults (i : Nat) : Nat := 0x190020 + i * 256
/-- 0x1900+i:21, items-lost (R240). -/
def itemsLost (i : Nat) : Nat := 0x190021 + i * 256
/-- 0x1900+i:22, flush-discards (R240). -/
def flushDiscards (i : Nat) : Nat := 0x190022 + i * 256
/-- 0x1900+i:23, oversize (R240). -/
def oversize (i : Nat) : Nat := 0x190023 + i * 256
/-- 0x1900+i:24, malformed (R240). -/
def qMalformed (i : Nat) : Nat := 0x190024 + i * 256
/-- 0x1900+i:25, err-terminated (R240). -/
def qErrTerminated (i : Nat) : Nat := 0x190025 + i * 256
/-- 0x1900+i:26, clear-tallies (R240). -/
def qClearTallies (i : Nat) : Nat := 0x190026 + i * 256
/-- 0x1900+i:27, refused-writes (R240). -/
def refusedWrites (i : Nat) : Nat := 0x190027 + i * 256
/-- 0x2000+i:01, ch-enable (R280). -/
def chEnable (i : Nat) : Nat := 0x200001 + i * 256
/-- 0x2000+i:02, ch-mode (R280). -/
def chMode (i : Nat) : Nat := 0x200002 + i * 256
/-- 0x2000+i:03, route (R280). -/
def chRoute (i : Nat) : Nat := 0x200003 + i * 256
/-- 0x2000+i:04, pin-pull (R280). -/
def pinPull (i : Nat) : Nat := 0x200004 + i * 256
/-- 0x2000+i:05, ledger-enable (R280). -/
def ledgerEnable (i : Nat) : Nat := 0x200005 + i * 256
/-- 0x2000+i:06, line-fault-action (R280). -/
def lineFaultAction (mode i : Nat) : Nat := mode * 0x1000000 + 0x200006 + i * 256
/-- 0x2000+i:07, ls-enable (R280). -/
def lsEnable (i : Nat) : Nat := 0x200007 + i * 256
/-- 0x2000+i:08, sense-ratio (R280). -/
def senseRatio (i : Nat) : Nat := 0x200008 + i * 256
/-- 0x2000+i:09, sense-offset (R280). -/
def senseOffset (i : Nat) : Nat := 0x200009 + i * 256
/-- 0x2000+i:0A, ls-t (R280). -/
def lsT (mode i j : Nat) : Nat := mode * 0x1000000 + 0x20000A + i * 256 + j
/-- 0x2000+i:0E, ls-confirm (R280). -/
def lsConfirm (i : Nat) : Nat := 0x20000E + i * 256
/-- 0x2000+i:0F, ls-auto-recover (R280). -/
def lsAutoRecover (i : Nat) : Nat := 0x20000F + i * 256
/-- 0x2000+i:10, ls-recover-cycles (R280). -/
def lsRecoverCycles (i : Nat) : Nat := 0x200010 + i * 256
/-- 0x2000+i:11, ls-rearm (R280). -/
def lsRearm (i : Nat) : Nat := 0x200011 + i * 256
/-- 0x2000+i:20, uart-rate (R281). -/
def uartRate (i : Nat) : Nat := 0x1200020 + i * 256
/-- 0x2000+i:21, uart-data-bits (R281). -/
def uartDataBits (i : Nat) : Nat := 0x1200021 + i * 256
/-- 0x2000+i:22, uart-parity (R281). -/
def uartParity (i : Nat) : Nat := 0x1200022 + i * 256
/-- 0x2000+i:23, uart-stop-bits (R281). -/
def uartStopBits (i : Nat) : Nat := 0x1200023 + i * 256
/-- 0x2000+i:24, uart-c-function (R281). -/
def uartCFunction (i : Nat) : Nat := 0x1200024 + i * 256
/-- 0x2000+i:25, uart-duplex (R281). -/
def uartDuplex (i : Nat) : Nat := 0x1200025 + i * 256
/-- 0x2000+i:26, uart-address-mode (R281). -/
def uartAddressMode (i : Nat) : Nat := 0x1200026 + i * 256
/-- 0x2000+i:27, uart-address (R281). -/
def uartAddress (i : Nat) : Nat := 0x1200027 + i * 256
/-- 0x2000+i:28, uart-max-count (R281). -/
def uartMaxCount (i : Nat) : Nat := 0x1200028 + i * 256
/-- 0x2000+i:29, uart-end-char (R281). -/
def uartEndChar (i : Nat) : Nat := 0x1200029 + i * 256
/-- 0x2000+i:2A, uart-gap (R281). -/
def uartGap (i : Nat) : Nat := 0x120002A + i * 256
/-- 0x2000+i:2B, uart-de-lead (R281). -/
def uartDeLead (i : Nat) : Nat := 0x120002B + i * 256
/-- 0x2000+i:2C, uart-de-lag (R281). -/
def uartDeLag (i : Nat) : Nat := 0x120002C + i * 256
/-- 0x2000+i:2D, uart-rx-buffer (R281). -/
def uartRxBuffer (i : Nat) : Nat := 0x120002D + i * 256
/-- 0x2000+i:2E, uart-tx-buffer (R281). -/
def uartTxBuffer (i : Nat) : Nat := 0x120002E + i * 256
/-- 0x2000+i:2F, uart-gap-notice (R281). -/
def uartGapNotice (i : Nat) : Nat := 0x120002F + i * 256
/-- 0x2000+i:30, uart-crc-profile (R281). -/
def uartCrcProfile (i : Nat) : Nat := 0x1200030 + i * 256
/-- 0x2000+i:31, uart-tx-gap (R281). -/
def uartTxGap (i : Nat) : Nat := 0x1200031 + i * 256
/-- 0x2000+i:20, bin-source (R282). -/
def binSource (i : Nat) : Nat := 0x3200020 + i * 256
/-- 0x2000+i:21, bin-polarity (R282). -/
def binPolarity (i : Nat) : Nat := 0x3200021 + i * 256
/-- 0x2000+i:22, bin-debounce (R282). -/
def binDebounce (i : Nat) : Nat := 0x3200022 + i * 256
/-- 0x2000+i:23, bin-on-level (R282). -/
def binOnLevel (i : Nat) : Nat := 0x3200023 + i * 256
/-- 0x2000+i:24, bin-off-level (R282). -/
def binOffLevel (i : Nat) : Nat := 0x3200024 + i * 256
/-- 0x2000+i:25, bin-filter-delay (R282). -/
def binFilterDelay (i : Nat) : Nat := 0x3200025 + i * 256
/-- 0x2000+i:26, chatter-count (R282). -/
def chatterCount (i : Nat) : Nat := 0x3200026 + i * 256
/-- 0x2000+i:27, chatter-window (R282). -/
def chatterWindow (i : Nat) : Nat := 0x3200027 + i * 256
/-- 0x2000+i:28, chatter-quiet (R282). -/
def chatterQuiet (i : Nat) : Nat := 0x3200028 + i * 256
/-- 0x2000+i:29, wet-pulse (R282). -/
def wetPulse (i : Nat) : Nat := 0x3200029 + i * 256
/-- 0x2000+i:20, bout-shape (R283). -/
def boutShape (i : Nat) : Nat := 0x4200020 + i * 256
/-- 0x2000+i:21, bout-pulse-width (R283). -/
def boutPulseWidth (i : Nat) : Nat := 0x4200021 + i * 256
/-- 0x2000+i:22, bout-group (R283). -/
def boutGroup (i : Nat) : Nat := 0x4200022 + i * 256
/-- 0x2000+i:23, bout-safe-state (R283). -/
def boutSafeState (i : Nat) : Nat := 0x4200023 + i * 256
/-- 0x2000+i:24, bout-claim-hold (R283). -/
def boutClaimHold (i : Nat) : Nat := 0x4200024 + i * 256
/-- 0x2000+i:25, bout-readback (R283). -/
def boutReadback (i : Nat) : Nat := 0x4200025 + i * 256
/-- 0x2000+i:26, bout-rb-window (R283). -/
def boutRbWindow (i : Nat) : Nat := 0x4200026 + i * 256
/-- 0x2000+i:27, bout-coil-sense (R283). -/
def boutCoilSense (i : Nat) : Nat := 0x4200027 + i * 256
/-- 0x2000+i:28, bout-mismatch-action (R283). -/
def boutMismatchAction (i : Nat) : Nat := 0x4200028 + i * 256
/-- 0x2000+i:29, bout-angle (R283). -/
def boutAngle (i : Nat) : Nat := 0x4200029 + i * 256
/-- 0x2000+i:2A, bout-operate-time (R283). -/
def boutOperateTime (i : Nat) : Nat := 0x420002A + i * 256
/-- 0x2000+i:2B, bout-angle-fallback (R283). -/
def boutAngleFallback (i : Nat) : Nat := 0x420002B + i * 256
/-- 0x2000+i:20, pulse-edge (R284). -/
def pulseEdge (i : Nat) : Nat := 0x5200020 + i * 256
/-- 0x2000+i:21, pulse-filter (R284). -/
def pulseFilter (i : Nat) : Nat := 0x5200021 + i * 256
/-- 0x2000+i:22, pulse-gate (R284). -/
def pulseGate (i : Nat) : Nat := 0x5200022 + i * 256
/-- 0x2000+i:23, pulse-count-reset (R284). -/
def pulseCountReset (i : Nat) : Nat := 0x5200023 + i * 256
/-- 0x2000+i:20, tcode-function (R284). -/
def tcodeFunction (i : Nat) : Nat := 0x6200020 + i * 256
/-- 0x2000+i:21, tcode-format (R284). -/
def tcodeFormat (i : Nat) : Nat := 0x6200021 + i * 256
/-- 0x2000+i:22, tcode-year (R284). -/
def tcodeYear (i : Nat) : Nat := 0x6200022 + i * 256
/-- 0x2000+i:23, tcode-local-offset (R284). -/
def tcodeLocalOffset (i : Nat) : Nat := 0x6200023 + i * 256
/-- 0x2000+i:24, tcode-pps-width (R284). -/
def tcodePpsWidth (i : Nat) : Nat := 0x6200024 + i * 256
/-- 0x2000+i:20, cstart-width (R284). -/
def cstartWidth (i : Nat) : Nat := 0x7200020 + i * 256
/-- 0x2000+i:21, cstart-polarity (R284). -/
def cstartPolarity (i : Nat) : Nat := 0x7200021 + i * 256
/-- 0x2100+i:01, function-state (R285). -/
def chStFunctionState (i : Nat) : Nat := 0x210001 + i * 256
/-- 0x2100+i:02, line-state (R285). -/
def lineState (i : Nat) : Nat := 0x210002 + i * 256
/-- 0x2100+i:03, field-voltage (R285). -/
def fieldVoltage (i : Nat) : Nat := 0x210003 + i * 256
/-- 0x2100+i:04, input-state (R285). -/
def inputState (i : Nat) : Nat := 0x210004 + i * 256
/-- 0x2100+i:05, quality (R285). -/
def quality (i : Nat) : Nat := 0x210005 + i * 256
/-- 0x2100+i:06, last-change (R285). -/
def chStLastChange (i : Nat) : Nat := 0x210006 + i * 256
/-- 0x2100+i:07, output-command (R285). -/
def outputCommand (i : Nat) : Nat := 0x210007 + i * 256
/-- 0x2100+i:08, output-claim (R285). -/
def outputClaim (i : Nat) : Nat := 0x210008 + i * 256
/-- 0x2100+i:09, pulse-count (R285). -/
def pulseCount (i : Nat) : Nat := 0x210009 + i * 256
/-- 0x2100+i:0A, frequency (R285). -/
def chStFrequency (i : Nat) : Nat := 0x21000A + i * 256
/-- 0x2100+i:0B, tcode-last (R285). -/
def tcodeLast (i : Nat) : Nat := 0x21000B + i * 256
/-- 0x2100+i:0C, rx-level (R285). -/
def rxLevel (i : Nat) : Nat := 0x21000C + i * 256
/-- 0x2100+i:0D, tx-level (R285). -/
def txLevel (i : Nat) : Nat := 0x21000D + i * 256
/-- 0x2500:01, ledger-newest (R287). -/
def ledgerNewest : Nat := 0x250001
/-- 0x2500:02, ledger-oldest-sram (R287). -/
def ledgerOldestSram : Nat := 0x250002
/-- 0x2500:03, ledger-oldest-store (R287). -/
def ledgerOldestStore : Nat := 0x250003
/-- 0x2500:04, ledger-lost (R287). -/
def ledgerLost : Nat := 0x250004
/-- 0x2500:05, unmirrored (R287). -/
def unmirrored : Nat := 0x250005
/-- 0x2500:06, mirror-batch (R287). -/
def mirrorBatch : Nat := 0x250006
/-- 0x2500:07, mirror-interval (R287). -/
def mirrorInterval : Nat := 0x250007
/-- 0x2500:08, read-from (R287). -/
def readFrom : Nat := 0x250008
/-- 0x2500:09, ledger-range (R287). -/
def ledgerRange : Nat := 0x250009
/-- 0x2500:0A, export-route (R287). -/
def exportRoute : Nat := 0x25000A
/-- 0x2500:0B, export-from (R287). -/
def exportFrom : Nat := 0x25000B
/-- 0x2500:0C, export-state (R287). -/
def exportState : Nat := 0x25000C
/-- 0x2500:0D, clear-ledger (R287). -/
def clearLedger : Nat := 0x25000D
/-- 0x2510+i:01, function-state (R288). -/
def clusterFunctionState (i : Nat) : Nat := 0x251001 + i * 256
/-- 0x2510+i:02, bank-voltage (R288). -/
def bankVoltage (i : Nat) : Nat := 0x251002 + i * 256
/-- 0x2510+i:03, packet-area-free (R288). -/
def packetAreaFree (i : Nat) : Nat := 0x251003 + i * 256
/-- 0x2510+i:04, ls-samples (R288). -/
def lsSamples (i : Nat) : Nat := 0x251004 + i * 256
/-- 0x2300+i:01, can-enable (R313). -/
def canEnable (i : Nat) : Nat := 0x230001 + i * 256
/-- 0x2300+i:02, function-state (R313). -/
def canFunctionState (i : Nat) : Nat := 0x230002 + i * 256
/-- 0x2300+i:03, can-route (R313). -/
def canRoute (i : Nat) : Nat := 0x230003 + i * 256
/-- 0x2300+i:04, nom-prescaler (R313). -/
def nomPrescaler (i : Nat) : Nat := 0x230004 + i * 256
/-- 0x2300+i:05, nom-tseg1 (R313). -/
def nomTseg1 (i : Nat) : Nat := 0x230005 + i * 256
/-- 0x2300+i:06, nom-tseg2 (R313). -/
def nomTseg2 (i : Nat) : Nat := 0x230006 + i * 256
/-- 0x2300+i:07, nom-sjw (R313). -/
def nomSjw (i : Nat) : Nat := 0x230007 + i * 256
/-- 0x2300+i:08, triple-sample (R313). -/
def tripleSample (i : Nat) : Nat := 0x230008 + i * 256
/-- 0x2300+i:09, fd-enable (R313). -/
def fdEnable (i : Nat) : Nat := 0x230009 + i * 256
/-- 0x2300+i:0A, data-prescaler (R313). -/
def dataPrescaler (i : Nat) : Nat := 0x23000A + i * 256
/-- 0x2300+i:0B, data-tseg1 (R313). -/
def dataTseg1 (i : Nat) : Nat := 0x23000B + i * 256
/-- 0x2300+i:0C, data-tseg2 (R313). -/
def dataTseg2 (i : Nat) : Nat := 0x23000C + i * 256
/-- 0x2300+i:0D, data-sjw (R313). -/
def dataSjw (i : Nat) : Nat := 0x23000D + i * 256
/-- 0x2300+i:0E, tdc-offset (R313). -/
def tdcOffset (i : Nat) : Nat := 0x23000E + i * 256
/-- 0x2300+i:0F, listen-only (R313). -/
def listenOnly (i : Nat) : Nat := 0x23000F + i * 256
/-- 0x2300+i:10, own-frames (R313). -/
def ownFrames (i : Nat) : Nat := 0x230010 + i * 256
/-- 0x2300+i:11, bus-off-recovery (R313). -/
def busOffRecovery (i : Nat) : Nat := 0x230011 + i * 256
/-- 0x2300+i:12, bus-off-restart (R313). -/
def busOffRestart (i : Nat) : Nat := 0x230012 + i * 256
/-- 0x2300+i:13, schedule-mode (R313). -/
def scheduleMode (i : Nat) : Nat := 0x230013 + i * 256
/-- 0x2300+i:14, matrix-start (R313). -/
def matrixStart (i : Nat) : Nat := 0x230014 + i * 256
/-- 0x2300+i:15, ref-id (R313). -/
def refId (i : Nat) : Nat := 0x230015 + i * 256
/-- 0x2300+i:16, ref-cycle-in-data (R313). -/
def refCycleInData (i : Nat) : Nat := 0x230016 + i * 256
/-- 0x2300+i:17, ref-tolerance (R313). -/
def refTolerance (i : Nat) : Nat := 0x230017 + i * 256
/-- 0x2300+i:18, ref-miss-limit (R313). -/
def refMissLimit (i : Nat) : Nat := 0x230018 + i * 256
/-- 0x2300+i:19, tx-report (R313). -/
def txReport (i : Nat) : Nat := 0x230019 + i * 256
/-- 0x2300+i:1A, matrix-stop (R313). -/
def matrixStop (i : Nat) : Nat := 0x23001A + i * 256
/-- 0x2300+i:1B, dominant-timeout (R313). -/
def dominantTimeout (i : Nat) : Nat := 0x23001B + i * 256
/-- 0x2300+i:20, bus-state (R313). -/
def busState (i : Nat) : Nat := 0x230020 + i * 256
/-- 0x2300+i:21, tec (R313). -/
def tec (i : Nat) : Nat := 0x230021 + i * 256
/-- 0x2300+i:22, rec (R313). -/
def rec (i : Nat) : Nat := 0x230022 + i * 256
/-- 0x2300+i:23, nominal-rate (R313). -/
def nominalRate (i : Nat) : Nat := 0x230023 + i * 256
/-- 0x2300+i:24, data-rate (R313). -/
def dataRate (i : Nat) : Nat := 0x230024 + i * 256
/-- 0x2300+i:25, matrix-state (R313). -/
def matrixState (i : Nat) : Nat := 0x230025 + i * 256
/-- 0x2300+i:26, basic-cycle (R313). -/
def basicCycle (i : Nat) : Nat := 0x230026 + i * 256
/-- 0x2300+i:27, cycle-start-ltc (R313). -/
def cycleStartLtc (i : Nat) : Nat := 0x230027 + i * 256
/-- 0x2300+i:28, buffer-duration (R313). -/
def bufferDuration (i : Nat) : Nat := 0x230028 + i * 256
/-- 0x2300+i:29, frames-rx (R313). -/
def canFramesRx (i : Nat) : Nat := 0x230029 + i * 256
/-- 0x2300+i:2A, frames-tx (R313). -/
def canFramesTx (i : Nat) : Nat := 0x23002A + i * 256
/-- 0x2300+i:2B, pitches-sent (R313). -/
def pitchesSent (i : Nat) : Nat := 0x23002B + i * 256
/-- 0x2300+i:2C, pitches-missed (R313). -/
def pitchesMissed (i : Nat) : Nat := 0x23002C + i * 256
/-- 0x2300+i:2D, arbitration-lost (R313). -/
def arbitrationLost (i : Nat) : Nat := 0x23002D + i * 256
/-- 0x2300+i:2E, tx-errors (R313). -/
def txErrors (i : Nat) : Nat := 0x23002E + i * 256
/-- 0x2300+i:2F, retries-free (R313). -/
def retriesFree (i : Nat) : Nat := 0x23002F + i * 256
/-- 0x2300+i:30, no-data (R313). -/
def noData (i : Nat) : Nat := 0x230030 + i * 256
/-- 0x2300+i:31, bit-errors (R313). -/
def bitErrors (i : Nat) : Nat := 0x230031 + i * 256
/-- 0x2300+i:32, stuff-errors (R313). -/
def stuffErrors (i : Nat) : Nat := 0x230032 + i * 256
/-- 0x2300+i:33, crc-errors (R313). -/
def canCrcErrors (i : Nat) : Nat := 0x230033 + i * 256
/-- 0x2300+i:34, form-errors (R313). -/
def formErrors (i : Nat) : Nat := 0x230034 + i * 256
/-- 0x2300+i:35, ack-errors (R313). -/
def ackErrors (i : Nat) : Nat := 0x230035 + i * 256
/-- 0x2300+i:36, overload-frames (R313). -/
def overloadFrames (i : Nat) : Nat := 0x230036 + i * 256
/-- 0x2300+i:37, error-passive-entries (R313). -/
def errorPassiveEntries (i : Nat) : Nat := 0x230037 + i * 256
/-- 0x2300+i:38, bus-off-entries (R313). -/
def busOffEntries (i : Nat) : Nat := 0x230038 + i * 256
/-- 0x2300+i:39, rx-overrun (R313). -/
def rxOverrun (i : Nat) : Nat := 0x230039 + i * 256
/-- 0x2300+i:3A, ref-missed (R313). -/
def refMissed (i : Nat) : Nat := 0x23003A + i * 256
/-- 0x2300+i:3B, ref-invalid (R313). -/
def refInvalid (i : Nat) : Nat := 0x23003B + i * 256
/-- 0x2300+i:3C, dominant-stuck (R313). -/
def dominantStuck (i : Nat) : Nat := 0x23003C + i * 256
/-- 0x2300+i:3D, malformed (R313). -/
def canMalformed (i : Nat) : Nat := 0x23003D + i * 256
/-- 0x2300+i:3E, clear-tallies (R313). -/
def canClearTallies (i : Nat) : Nat := 0x23003E + i * 256
/-- 0x2400+i:01, seq-enable (R341). -/
def seqEnable (i : Nat) : Nat := 0x240001 + i * 256
/-- 0x2400+i:02, function-state (R341). -/
def seqFunctionState (i : Nat) : Nat := 0x240002 + i * 256
/-- 0x2400+i:03, program (R341). -/
def program (i : Nat) : Nat := 0x240003 + i * 256
/-- 0x2400+i:04, seq-start-address (R341). -/
def seqStartAddress (i : Nat) : Nat := 0x240004 + i * 256
/-- 0x2400+i:05, seq-autostart (R341). -/
def seqAutostart (i : Nat) : Nat := 0x240005 + i * 256
/-- 0x2400+i:06, seq-keep-shifter (R341). -/
def seqKeepShifter (i : Nat) : Nat := 0x240006 + i * 256
/-- 0x2400+i:07, seq-divider (R341). -/
def seqDivider (i : Nat) : Nat := 0x240007 + i * 256
/-- 0x2400+i:08, seq-pin-map (R341). -/
def seqPinMap (i : Nat) : Nat := 0x240008 + i * 256
/-- 0x2400+i:09, seq-group0-mask (R341). -/
def seqGroup0Mask (i : Nat) : Nat := 0x240009 + i * 256
/-- 0x2400+i:0A, seq-group1-mask (R341). -/
def seqGroup1Mask (i : Nat) : Nat := 0x24000A + i * 256
/-- 0x2400+i:0B, seq-shift-dir (R341). -/
def seqShiftDir (i : Nat) : Nat := 0x24000B + i * 256
/-- 0x2400+i:0C, seq-shift-width (R341). -/
def seqShiftWidth (i : Nat) : Nat := 0x24000C + i * 256
/-- 0x2400+i:0D, seq-in-base (R341). -/
def seqInBase (i : Nat) : Nat := 0x24000D + i * 256
/-- 0x2400+i:0E, seq-out-base (R341). -/
def seqOutBase (i : Nat) : Nat := 0x24000E + i * 256
/-- 0x2400+i:0F, seq-clock-pin (R341). -/
def seqClockPin (i : Nat) : Nat := 0x24000F + i * 256
/-- 0x2400+i:10, seq-clock-idle (R341). -/
def seqClockIdle (i : Nat) : Nat := 0x240010 + i * 256
/-- 0x2400+i:11, seq-sample-edge (R341). -/
def seqSampleEdge (i : Nat) : Nat := 0x240011 + i * 256
/-- 0x2400+i:12, seq-word-bits (R341). -/
def seqWordBits (i : Nat) : Nat := 0x240012 + i * 256
/-- 0x2400+i:13, seq-match-count (R341). -/
def seqMatchCount (i : Nat) : Nat := 0x240013 + i * 256
/-- 0x2400+i:14, seq-ca-reload (R341). -/
def seqCaReload (i : Nat) : Nat := 0x240014 + i * 256
/-- 0x2400+i:15, seq-cb-reload (R341). -/
def seqCbReload (i : Nat) : Nat := 0x240015 + i * 256
/-- 0x2400+i:16, seq-signal-mask (R341). -/
def seqSignalMask (i : Nat) : Nat := 0x240016 + i * 256
/-- 0x2400+i:17, seq-route (R341). -/
def seqRoute (i : Nat) : Nat := 0x240017 + i * 256
/-- 0x2400+i:18, seq-rx-words (R341). -/
def seqRxWords (i : Nat) : Nat := 0x240018 + i * 256
/-- 0x2400+i:19, seq-rx-gap (R341). -/
def seqRxGap (i : Nat) : Nat := 0x240019 + i * 256
/-- 0x2400+i:1A, seq-tx-buffer (R341). -/
def seqTxBuffer (i : Nat) : Nat := 0x24001A + i * 256
/-- 0x2400+i:1B, seq-rx-buffer (R341). -/
def seqRxBuffer (i : Nat) : Nat := 0x24001B + i * 256
/-- 0x2400+i:1C, seq-wd-limit (R341). -/
def seqWdLimit (i : Nat) : Nat := 0x24001C + i * 256
/-- 0x2400+i:1D, seq-wd-address (R341). -/
def seqWdAddress (i : Nat) : Nat := 0x24001D + i * 256
/-- 0x2400+i:1E, seq-wd-action (R341). -/
def seqWdAction (i : Nat) : Nat := 0x24001E + i * 256
/-- 0x2400+i:20, run-state (R341). -/
def runState (i : Nat) : Nat := 0x240020 + i * 256
/-- 0x2400+i:21, pc (R341). -/
def pc (i : Nat) : Nat := 0x240021 + i * 256
/-- 0x2400+i:22, shifter (R341). -/
def shifter (i : Nat) : Nat := 0x240022 + i * 256
/-- 0x2400+i:23, bit-count (R341). -/
def bitCount (i : Nat) : Nat := 0x240023 + i * 256
/-- 0x2400+i:24, ca (R341). -/
def ca (i : Nat) : Nat := 0x240024 + i * 256
/-- 0x2400+i:25, cb (R341). -/
def cb (i : Nat) : Nat := 0x240025 + i * 256
/-- 0x2400+i:26, flags (R341). -/
def flags (i : Nat) : Nat := 0x240026 + i * 256
/-- 0x2400+i:27, prog-busy-refusals (R341). -/
def progBusyRefusals (i : Nat) : Nat := 0x240027 + i * 256
/-- 0x2400+i:28, go-ignored (R341). -/
def seqGoIgnored (i : Nat) : Nat := 0x240028 + i * 256
/-- 0x2400+i:29, stale-loads (R341). -/
def staleLoads (i : Nat) : Nat := 0x240029 + i * 256
/-- 0x2400+i:2A, rx-drops (R341). -/
def rxDrops (i : Nat) : Nat := 0x24002A + i * 256
/-- 0x2400+i:2B, emit-underruns (R341). -/
def emitUnderruns (i : Nat) : Nat := 0x24002B + i * 256
/-- 0x2400+i:2C, sample-overflows (R341). -/
def sampleOverflows (i : Nat) : Nat := 0x24002C + i * 256
/-- 0x2400+i:2D, events-merged (R341). -/
def eventsMerged (i : Nat) : Nat := 0x24002D + i * 256
/-- 0x2400+i:2E, signals-merged (R341). -/
def signalsMerged (i : Nat) : Nat := 0x24002E + i * 256
/-- 0x2400+i:2F, watchdog-expiries (R341). -/
def watchdogExpiries (i : Nat) : Nat := 0x24002F + i * 256
/-- 0x2400+i:30, records-sent (R341). -/
def recordsSent (i : Nat) : Nat := 0x240030 + i * 256
/-- 0x2400+i:31, malformed (R341). -/
def seqMalformed (i : Nat) : Nat := 0x240031 + i * 256
/-- 0x2400+i:32, tx-discards (R341). -/
def seqTxDiscards (i : Nat) : Nat := 0x240032 + i * 256
/-- 0x2400+i:33, words-in (R341). -/
def wordsIn (i : Nat) : Nat := 0x240033 + i * 256
/-- 0x2400+i:34, clear-tallies (R341). -/
def seqClearTallies (i : Nat) : Nat := 0x240034 + i * 256
/-- 0x2800:01, sta-redundancy (R379). -/
def staRedundancy : Nat := 0x280001
/-- 0x2800:02, lan-silent-time (R379). -/
def lanSilentTime : Nat := 0x280002
/-- 0x2800:03, entry-forget-time (R379). -/
def entryForgetTime : Nat := 0x280003
/-- 0x2800:04, node-forget-time (R379). -/
def nodeForgetTime : Nat := 0x280004
/-- 0x2800:05, life-check-interval (R379). -/
def lifeCheckInterval : Nat := 0x280005
/-- 0x2800:06, supervision-address (R379). -/
def supervisionAddress : Nat := 0x280006
/-- 0x2800:07, duplicate-mode (R379). -/
def duplicateMode : Nat := 0x280007
/-- 0x2800:08, default-route (R379). -/
def defaultRoute : Nat := 0x280008
/-- 0x2800:09, rx-rules (R379). -/
def rxRules : Nat := 0x280009
/-- 0x2800:0A, node-count (R379). -/
def nodeCount : Nat := 0x28000A
/-- 0x2800:0B, duplicates-discarded (R379). -/
def duplicatesDiscarded : Nat := 0x28000B
/-- 0x2800:0C, dd-table-overflows (R379). -/
def ddTableOverflows : Nat := 0x28000C
/-- 0x2800:0D, node-table-overflows (R379). -/
def nodeTableOverflows : Nat := 0x28000D
/-- 0x2800:0E, hsr-forwarded (R379). -/
def hsrForwarded : Nat := 0x28000E
/-- 0x2800:0F, hsr-own-removed (R379). -/
def hsrOwnRemoved : Nat := 0x28000F
/-- 0x2800:10, no-rule-drops (R379). -/
def noRuleDrops : Nat := 0x280010
/-- 0x2800:11, clear-tallies (R379). -/
def staClearTallies : Nat := 0x280011
/-- 0x2801+i:01, port-enable (R380). -/
def staPortPortEnable (i : Nat) : Nat := 0x280101 + i * 256
/-- 0x2801+i:02, function-state (R380). -/
def staPortFunctionState (i : Nat) : Nat := 0x280102 + i * 256
/-- 0x2801+i:03, port-rate (R380). -/
def portRate (i : Nat) : Nat := 0x280103 + i * 256
/-- 0x2801+i:04, mac-address (R380). -/
def macAddress (i : Nat) : Nat := 0x280104 + i * 256
/-- 0x2801+i:05, promiscuous (R380). -/
def promiscuous (i : Nat) : Nat := 0x280105 + i * 256
/-- 0x2801+i:06, tx-delay (R380). -/
def txDelay (i : Nat) : Nat := 0x280106 + i * 256
/-- 0x2801+i:07, rx-delay (R380). -/
def rxDelay (i : Nat) : Nat := 0x280107 + i * 256
/-- 0x2801+i:08, link-state (R380). -/
def staPortLinkState (i : Nat) : Nat := 0x280108 + i * 256
/-- 0x2801+i:09, frames-rx (R380). -/
def staPortFramesRx (i : Nat) : Nat := 0x280109 + i * 256
/-- 0x2801+i:0A, frames-tx (R380). -/
def staPortFramesTx (i : Nat) : Nat := 0x28010A + i * 256
/-- 0x2801+i:0B, fcs-errors (R380). -/
def fcsErrors (i : Nat) : Nat := 0x28010B + i * 256
/-- 0x2801+i:0C, runts (R380). -/
def runts (i : Nat) : Nat := 0x28010C + i * 256
/-- 0x2801+i:0D, oversize-drops (R380). -/
def oversizeDrops (i : Nat) : Nat := 0x28010D + i * 256
/-- 0x2801+i:0E, addr-drops (R380). -/
def addrDrops (i : Nat) : Nat := 0x28010E + i * 256
/-- 0x2801+i:0F, pause-frames (R380). -/
def pauseFrames (i : Nat) : Nat := 0x28010F + i * 256
/-- 0x2801+i:10, tx-discards (R380). -/
def staPortTxDiscards (i : Nat) : Nat := 0x280110 + i * 256
/-- 0x2801+i:11, wrong-lan (R380). -/
def wrongLan (i : Nat) : Nat := 0x280111 + i * 256
/-- 0x2801+i:12, hsr-forward-drops (R380). -/
def hsrForwardDrops (i : Nat) : Nat := 0x280112 + i * 256
/-- 0x2801+i:13, link-losses (R380). -/
def linkLosses (i : Nat) : Nat := 0x280113 + i * 256
/-- 0x2801+i:14, clear-tallies (R380). -/
def staPortClearTallies (i : Nat) : Nat := 0x280114 + i * 256
/-- 0x2840:01, ptp-enable (R381). -/
def ptpEnable : Nat := 0x284001
/-- 0x2840:02, function-state (R381). -/
def ptpFunctionState : Nat := 0x284002
/-- 0x2840:03, ptp-profile (R381). -/
def ptpProfile : Nat := 0x284003
/-- 0x2840:04, ptp-mode (R381). -/
def ptpMode : Nat := 0x284004
/-- 0x2840:05, ptp-port-mask (R381). -/
def ptpPortMask : Nat := 0x284005
/-- 0x2840:06, domain-number (R381). -/
def domainNumber : Nat := 0x284006
/-- 0x2840:07, ptp-slave-only (R381). -/
def ptpSlaveOnly : Nat := 0x284007
/-- 0x2840:08, priority1 (R381). -/
def priority1 : Nat := 0x284008
/-- 0x2840:09, priority2 (R381). -/
def priority2 : Nat := 0x284009
/-- 0x2840:0A, clock-class (R381). -/
def clockClass : Nat := 0x28400A
/-- 0x2840:0B, ptp-vlan (R381). -/
def ptpVlan : Nat := 0x28400B
/-- 0x2840:0C, grandmaster-id (R381). -/
def grandmasterId : Nat := 0x28400C
/-- 0x2840:0D, bc-inaccuracy (R381). -/
def bcInaccuracy : Nat := 0x28400D
/-- 0x2840:0E, announce-timeout (R381). -/
def announceTimeout : Nat := 0x28400E
/-- 0x2841:01, port-state-a (R382). -/
def portStateA : Nat := 0x284101
/-- 0x2841:02, port-state-b (R382). -/
def portStateB : Nat := 0x284102
/-- 0x2841:03, parent-port-identity (R382). -/
def parentPortIdentity : Nat := 0x284103
/-- 0x2841:04, grandmaster-identity (R382). -/
def grandmasterIdentity : Nat := 0x284104
/-- 0x2841:05, gm-clock-class (R382). -/
def gmClockClass : Nat := 0x284105
/-- 0x2841:06, steps-removed (R382). -/
def stepsRemoved : Nat := 0x284106
/-- 0x2841:07, offset-from-master (R382). -/
def offsetFromMaster : Nat := 0x284107
/-- 0x2841:08, link-delay-a (R382). -/
def linkDelayA : Nat := 0x284108
/-- 0x2841:09, link-delay-b (R382). -/
def linkDelayB : Nat := 0x284109
/-- 0x2841:0A, total-time-inaccuracy (R382). -/
def totalTimeInaccuracy : Nat := 0x28410A
/-- 0x2841:0B, sync-rx (R382). -/
def syncRx : Nat := 0x28410B
/-- 0x2841:0C, sync-tx (R382). -/
def syncTx : Nat := 0x28410C
/-- 0x2841:0D, announce-timeouts (R382). -/
def announceTimeouts : Nat := 0x28410D
/-- 0x2841:0E, pdelay-failures (R382). -/
def pdelayFailures : Nat := 0x28410E
/-- 0x2841:0F, residence-max (R382). -/
def residenceMax : Nat := 0x28410F
/-- 0x2841:10, clear-tallies (R382). -/
def ptpStClearTallies : Nat := 0x284110
/-- 0x2880:01, sub-first-wait (R383). -/
def subFirstWait : Nat := 0x288001
/-- 0x2880:02, frames-published (R383). -/
def framesPublished : Nat := 0x288002
/-- 0x2880:03, frames-received (R383). -/
def framesReceived : Nat := 0x288003
/-- 0x2880:04, rx-unmatched (R383). -/
def rxUnmatched : Nat := 0x288004
/-- 0x2880:05, rx-overflow (R383). -/
def rxOverflow : Nat := 0x288005
/-- 0x2880:06, decode-errors (R383). -/
def decodeErrors : Nat := 0x288006
/-- 0x2880:07, signal-records (R383). -/
def signalRecords : Nat := 0x288007
/-- 0x2880:08, max-encode-time (R383). -/
def maxEncodeTime : Nat := 0x288008
/-- 0x2880:09, clear-tallies (R383). -/
def gooseClearTallies : Nat := 0x288009
/-- 0x2900+i:01, gocb-enable (R384). -/
def gocbEnable (i : Nat) : Nat := 0x290001 + i * 256
/-- 0x2900+i:02, function-state (R384). -/
def gocbFunctionState (i : Nat) : Nat := 0x290002 + i * 256
/-- 0x2900+i:03, gocb-route (R384). -/
def gocbRoute (i : Nat) : Nat := 0x290003 + i * 256
/-- 0x2900+i:04, gocb-dest-mac (R384). -/
def gocbDestMac (i : Nat) : Nat := 0x290004 + i * 256
/-- 0x2900+i:05, gocb-appid (R384). -/
def gocbAppid (i : Nat) : Nat := 0x290005 + i * 256
/-- 0x2900+i:06, gocb-vlan (R384). -/
def gocbVlan (i : Nat) : Nat := 0x290006 + i * 256
/-- 0x2900+i:07, gocb-ref (R384). -/
def gocbRef (i : Nat) : Nat := 0x290007 + i * 256
/-- 0x2900+i:08, gocb-dataset (R384). -/
def gocbDataset (i : Nat) : Nat := 0x290008 + i * 256
/-- 0x2900+i:09, gocb-id (R384). -/
def gocbId (i : Nat) : Nat := 0x290009 + i * 256
/-- 0x2900+i:0A, gocb-confrev (R384). -/
def gocbConfrev (i : Nat) : Nat := 0x29000A + i * 256
/-- 0x2900+i:0B, gocb-simulation (R384). -/
def gocbSimulation (i : Nat) : Nat := 0x29000B + i * 256
/-- 0x2900+i:0C, gocb-members (R384). -/
def gocbMembers (i : Nat) : Nat := 0x29000C + i * 256
/-- 0x2900+i:0D, gocb-t0 (R384). -/
def gocbT0 (i : Nat) : Nat := 0x29000D + i * 256
/-- 0x2900+i:0E, gocb-t1 (R384). -/
def gocbT1 (i : Nat) : Nat := 0x29000E + i * 256
/-- 0x2900+i:0F, gocb-backoff (R384). -/
def gocbBackoff (i : Nat) : Nat := 0x29000F + i * 256
/-- 0x2900+i:10, gocb-tal-factor (R384). -/
def gocbTalFactor (i : Nat) : Nat := 0x290010 + i * 256
/-- 0x2900+i:11, gocb-duplex-group (R384). -/
def gocbDuplexGroup (i : Nat) : Nat := 0x290011 + i * 256
/-- 0x2900+i:12, st-num (R384). -/
def stNum (i : Nat) : Nat := 0x290012 + i * 256
/-- 0x2900+i:13, sq-num (R384). -/
def sqNum (i : Nat) : Nat := 0x290013 + i * 256
/-- 0x2900+i:14, frame-length (R384). -/
def frameLength (i : Nat) : Nat := 0x290014 + i * 256
/-- 0x2900+i:15, frames-sent (R384). -/
def framesSent (i : Nat) : Nat := 0x290015 + i * 256
/-- 0x2900+i:16, state-changes (R384). -/
def stateChanges (i : Nat) : Nat := 0x290016 + i * 256
/-- 0x2900+i:17, merged-changes (R384). -/
def mergedChanges (i : Nat) : Nat := 0x290017 + i * 256
/-- 0x2900+i:18, last-change (R384). -/
def gocbLastChange (i : Nat) : Nat := 0x290018 + i * 256
/-- 0x2900+i:19, clear-tallies (R384). -/
def gocbClearTallies (i : Nat) : Nat := 0x290019 + i * 256
/-- 0x2A00+i:01, sub-enable (R385). -/
def subEnable (i : Nat) : Nat := 0x2A0001 + i * 256
/-- 0x2A00+i:02, function-state (R385). -/
def subFunctionState (i : Nat) : Nat := 0x2A0002 + i * 256
/-- 0x2A00+i:03, sub-appid (R385). -/
def subAppid (i : Nat) : Nat := 0x2A0003 + i * 256
/-- 0x2A00+i:04, sub-dest-mac (R385). -/
def subDestMac (i : Nat) : Nat := 0x2A0004 + i * 256
/-- 0x2A00+i:05, sub-src-mac (R385). -/
def subSrcMac (i : Nat) : Nat := 0x2A0005 + i * 256
/-- 0x2A00+i:06, sub-gocb-ref (R385). -/
def subGocbRef (i : Nat) : Nat := 0x2A0006 + i * 256
/-- 0x2A00+i:07, sub-confrev (R385). -/
def subConfrev (i : Nat) : Nat := 0x2A0007 + i * 256
/-- 0x2A00+i:08, sub-entries (R385). -/
def subEntries (i : Nat) : Nat := 0x2A0008 + i * 256
/-- 0x2A00+i:09, sub-accept-simulation (R385). -/
def subAcceptSimulation (i : Nat) : Nat := 0x2A0009 + i * 256
/-- 0x2A00+i:0A, sub-map (R385). -/
def subMap (i : Nat) : Nat := 0x2A000A + i * 256
/-- 0x2A00+i:0B, sub-route (R385). -/
def subRoute (i : Nat) : Nat := 0x2A000B + i * 256
/-- 0x2A00+i:0C, sub-forward (R385). -/
def subForward (i : Nat) : Nat := 0x2A000C + i * 256
/-- 0x2A00+i:0D, sub-state (R385). -/
def subState (i : Nat) : Nat := 0x2A000D + i * 256
/-- 0x2A00+i:0E, last-st-num (R385). -/
def lastStNum (i : Nat) : Nat := 0x2A000E + i * 256
/-- 0x2A00+i:0F, last-sq-num (R385). -/
def lastSqNum (i : Nat) : Nat := 0x2A000F + i * 256
/-- 0x2A00+i:10, last-tal (R385). -/
def lastTal (i : Nat) : Nat := 0x2A0010 + i * 256
/-- 0x2A00+i:11, frames-accepted (R385). -/
def framesAccepted (i : Nat) : Nat := 0x2A0011 + i * 256
/-- 0x2A00+i:12, repeats-discarded (R385). -/
def repeatsDiscarded (i : Nat) : Nat := 0x2A0012 + i * 256
/-- 0x2A00+i:13, confrev-mismatches (R385). -/
def confrevMismatches (i : Nat) : Nat := 0x2A0013 + i * 256
/-- 0x2A00+i:14, tal-expiries (R385). -/
def talExpiries (i : Nat) : Nat := 0x2A0014 + i * 256
/-- 0x2A00+i:15, simulation-ignored (R385). -/
def simulationIgnored (i : Nat) : Nat := 0x2A0015 + i * 256
/-- 0x2A00+i:16, clear-tallies (R385). -/
def subClearTallies (i : Nat) : Nat := 0x2A0016 + i * 256
/-- 0x3000:01, dup-enable (R418). -/
def dupEnable : Nat := 0x300001
/-- 0x3000:02, function-state (R418). -/
def dupFunctionState : Nat := 0x300002
/-- 0x3000:03, dup-group (R418). -/
def dupGroup : Nat := 0x300003
/-- 0x3000:04, dup-unit (R418). -/
def dupUnit : Nat := 0x300004
/-- 0x3000:05, dup-peer-node (R418). -/
def dupPeerNode : Nat := 0x300005
/-- 0x3000:06, dup-compare-window (R418). -/
def dupCompareWindow : Nat := 0x300006
/-- 0x3000:07, dup-mismatch-limit (R418). -/
def dupMismatchLimit : Nat := 0x300007
/-- 0x3000:08, dup-latency (R418). -/
def dupLatency : Nat := 0x300008
/-- 0x3000:09, dup-listen-cycles (R418). -/
def dupListenCycles : Nat := 0x300009
/-- 0x3000:0A, dup-swap-timeout (R418). -/
def dupSwapTimeout : Nat := 0x30000A
/-- 0x3000:0B, dup-swap (R418). -/
def dupSwap : Nat := 0x30000B
/-- 0x3000:0C, dup-rejoin (R418). -/
def dupRejoin : Nat := 0x30000C
/-- 0x3000:0D, mirror-list (R418). -/
def mirrorList : Nat := 0x30000D
/-- 0x3000:0E, mirror-base (R418). -/
def mirrorBase : Nat := 0x30000E
/-- 0x3000:0F, mirror-size (R418). -/
def mirrorSize : Nat := 0x30000F
/-- 0x3000:10, cmd-queues (R418). -/
def cmdQueues : Nat := 0x300010
/-- 0x3000:11, dup-claim-clear (R418). -/
def dupClaimClear : Nat := 0x300011
/-- 0x3001:01, role (R419). -/
def role : Nat := 0x300101
/-- 0x3001:02, swap-state (R419). -/
def swapState : Nat := 0x300102
/-- 0x3001:03, claim (R419). -/
def claim : Nat := 0x300103
/-- 0x3001:04, max-claim-seen (R419). -/
def maxClaimSeen : Nat := 0x300104
/-- 0x3001:05, persisted-role (R419). -/
def persistedRole : Nat := 0x300105
/-- 0x3001:06, peer-node (R419). -/
def peerNode : Nat := 0x300106
/-- 0x3001:07, peer-role (R419). -/
def peerRole : Nat := 0x300107
/-- 0x3001:08, peer-heard (R419). -/
def peerHeard : Nat := 0x300108
/-- 0x3001:09, mirror-state (R419). -/
def mirrorState : Nat := 0x300109
/-- 0x3001:0A, mirror-seq-sent (R419). -/
def mirrorSeqSent : Nat := 0x30010A
/-- 0x3001:0B, mirror-seq-applied (R419). -/
def mirrorSeqApplied : Nat := 0x30010B
/-- 0x3001:0C, mismatched-outputs (R419). -/
def mismatchedOutputs : Nat := 0x30010C
/-- 0x3001:0D, mismatch-run (R419). -/
def mismatchRun : Nat := 0x30010D
/-- 0x3001:0E, last-failover (R419). -/
def lastFailover : Nat := 0x30010E
/-- 0x3001:0F, takeovers (R419). -/
def takeovers : Nat := 0x30010F
/-- 0x3001:10, swaps-done (R419). -/
def swapsDone : Nat := 0x300110
/-- 0x3001:11, swaps-aborted (R419). -/
def swapsAborted : Nat := 0x300111
/-- 0x3001:12, swap-collisions (R419). -/
def swapCollisions : Nat := 0x300112
/-- 0x3001:13, heartbeats-missed (R419). -/
def heartbeatsMissed : Nat := 0x300113
/-- 0x3001:14, mismatch-cycles (R419). -/
def mismatchCycles : Nat := 0x300114
/-- 0x3001:15, compare-overflows (R419). -/
def compareOverflows : Nat := 0x300115
/-- 0x3001:16, foreign-heartbeats (R419). -/
def foreignHeartbeats : Nat := 0x300116
/-- 0x3001:17, mirror-drops (R419). -/
def mirrorDrops : Nat := 0x300117
/-- 0x3001:18, cmd-withheld (R419). -/
def cmdWithheld : Nat := 0x300118
/-- 0x3001:19, cmd-malformed (R419). -/
def cmdMalformed : Nat := 0x300119
/-- 0x3001:1A, clear-tallies (R419). -/
def dupStClearTallies : Nat := 0x30011A
/-- 0x3002:01, recorded-claim (R420). -/
def recordedClaim (j : Nat) : Nat := 0x300201 + j
/-- 0x3002:21, claim-reset (R420). -/
def claimReset : Nat := 0x300221
/-- 0x1000:01, vendor-name (R453). -/
def vendorName : Nat := 0x100001
/-- 0x1000:02, product-name (R453). -/
def productName : Nat := 0x100002
/-- 0x1000:03, chip-revision (R453). -/
def chipRevision : Nat := 0x100003
/-- 0x1000:04, ordering-code (R453). -/
def orderingCode : Nat := 0x100004
/-- 0x1000:05, serial-number (R453). -/
def serialNumber : Nat := 0x100005
/-- 0x1000:06, keeper-version (R453). -/
def keeperVersion : Nat := 0x100006
/-- 0x1000:07, dictionary-layout (R453). -/
def dictionaryLayout : Nat := 0x100007
/-- 0x1000:08, mac-base (R453). -/
def macBase : Nat := 0x100008
/-- 0x1000:09, uptime (R453). -/
def uptime : Nat := 0x100009
/-- 0x1010:01, save-config (R454). -/
def saveConfig : Nat := 0x101001
/-- 0x1010:02, restore-defaults (R454). -/
def restoreDefaults : Nat := 0x101002
/-- 0x1010:03, config-state (R454). -/
def configState : Nat := 0x101003
/-- 0x1010:04, last-save (R454). -/
def lastSave : Nat := 0x101004
/-- 0x1010:05, save-count (R454). -/
def saveCount : Nat := 0x101005
/-- 0x1010:06, load-refusals (R454). -/
def loadRefusals : Nat := 0x101006
/-- 0x1100:01, weight-pcie (R455). -/
def weightPcie : Nat := 0x110001
/-- 0x1100:02, weight-ring (R455). -/
def weightRing : Nat := 0x110002
/-- 0x1100:03, weight-station (R455). -/
def weightStation : Nat := 0x110003
/-- 0x1100:04, weight-service (R455). -/
def weightService : Nat := 0x110004
/-- 0x1100:05, lease-time (R455). -/
def leaseTime : Nat := 0x110005
/-- 0x1100:06, handover-window (R455). -/
def handoverWindow : Nat := 0x110006
/-- 0x1100:07, election-window (R455). -/
def electionWindow : Nat := 0x110007
/-- 0x1100:08, pcie-override (R455). -/
def pcieOverride : Nat := 0x110008
/-- 0x1100:09, ring-sources (R455). -/
def ringSources : Nat := 0x110009
/-- 0x1100:0A, service-writes (R455). -/
def serviceWrites : Nat := 0x11000A
/-- 0x1100:0B, mbox-notice (R455). -/
def mboxNotice : Nat := 0x11000B
/-- 0x1100:0C, seg-timeout (R455). -/
def segTimeout : Nat := 0x11000C
/-- 0x1101:01, stall-state (R456). -/
def stallState : Nat := 0x110101
/-- 0x1101:02, holder (R456). -/
def holder : Nat := 0x110102
/-- 0x1101:03, holder-ip (R456). -/
def holderIp : Nat := 0x110103
/-- 0x1101:04, lease-remaining (R456). -/
def leaseRemaining : Nat := 0x110104
/-- 0x1101:05, held-since (R456). -/
def heldSince : Nat := 0x110105
/-- 0x1101:06, reserved-for (R456). -/
def reservedFor : Nat := 0x110106
/-- 0x1101:07, open-sessions (R456). -/
def openSessions : Nat := 0x110107
/-- 0x1101:08, queue-level (R456). -/
def queueLevel : Nat := 0x110108
/-- 0x1101:09, requests-served (R456). -/
def requestsServed : Nat := 0x110109
/-- 0x1101:0A, aborts-sent (R456). -/
def abortsSent : Nat := 0x11010A
/-- 0x1101:0B, not-owner-refusals (R456). -/
def notOwnerRefusals : Nat := 0x11010B
/-- 0x1101:0C, auth-failures (R456). -/
def authFailures : Nat := 0x11010C
/-- 0x1101:0D, busy-refusals (R456). -/
def ownStBusyRefusals : Nat := 0x11010D
/-- 0x1101:0E, elections (R456). -/
def elections : Nat := 0x11010E
/-- 0x1101:0F, lapses (R456). -/
def lapses : Nat := 0x11010F
/-- 0x1101:10, handovers (R456). -/
def handovers : Nat := 0x110110
/-- 0x1101:11, mbox-busy (R456). -/
def mboxBusy : Nat := 0x110111
/-- 0x1101:12, mbox-foreign (R456). -/
def mboxForeign : Nat := 0x110112
/-- 0x1101:13, seg-aborts (R456). -/
def segAborts : Nat := 0x110113
/-- 0x1101:14, ring-repeats (R456). -/
def ringRepeats : Nat := 0x110114
/-- 0x1101:15, broadcast-drops (R456). -/
def broadcastDrops : Nat := 0x110115
/-- 0x1101:16, clear-tallies (R456). -/
def ownStClearTallies : Nat := 0x110116
/-- 0x1110:01, sta-access-enable (R457). -/
def staAccessEnable : Nat := 0x111001
/-- 0x1110:02, sta-ip-address (R457). -/
def staIpAddress : Nat := 0x111002
/-- 0x1110:03, dict-udp-port (R457). -/
def dictUdpPort : Nat := 0x111003
/-- 0x1110:04, sta-reply-route (R457). -/
def staReplyRoute : Nat := 0x111004
/-- 0x1110:05, key (R457). -/
def key (j : Nat) : Nat := 0x111005 + j
/-- 0x1110:09, key-rights (R457). -/
def keyRights : Nat := 0x111009
/-- 0x1110:0A, keys-loaded (R457). -/
def keysLoaded : Nat := 0x11100A
/-- 0x1110:0B, counter (R457). -/
def counter (j : Nat) : Nat := 0x11100B + j
/-- 0x3540:01, user-width (R473). -/
def userWidth : Nat := 0x354001
/-- 0x3540:02, user-poly (R473). -/
def userPoly : Nat := 0x354002
/-- 0x3540:03, user-init (R473). -/
def userInit : Nat := 0x354003
/-- 0x3540:04, user-refin (R473). -/
def userRefin : Nat := 0x354004
/-- 0x3540:05, user-refout (R473). -/
def userRefout : Nat := 0x354005
/-- 0x3540:06, user-xorout (R473). -/
def userXorout : Nat := 0x354006
/-- 0x3540:07, user-check (R473). -/
def userCheck : Nat := 0x354007
/-- 0x3540:08, inline-appended (R473). -/
def inlineAppended : Nat := 0x354008
/-- 0x3540:09, inline-check-failures (R473). -/
def inlineCheckFailures : Nat := 0x354009
/-- 0x3540:0A, clear-tallies (R473). -/
def checkClearTallies : Nat := 0x35400A
/-- 0x3541+i:01, scan-enable (R474). -/
def scanEnable (i : Nat) : Nat := 0x354101 + i * 256
/-- 0x3541+i:02, function-state (R474). -/
def scanFunctionState (i : Nat) : Nat := 0x354102 + i * 256
/-- 0x3541+i:03, scan-job (R474). -/
def scanJob (i : Nat) : Nat := 0x354103 + i * 256
/-- 0x3541+i:04, scan-stop (R474). -/
def scanStop (i : Nat) : Nat := 0x354104 + i * 256
/-- 0x3541+i:05, jobs-done (R474). -/
def jobsDone (i : Nat) : Nat := 0x354105 + i * 256
/-- 0x3541+i:06, jobs-failed (R474). -/
def jobsFailed (i : Nat) : Nat := 0x354106 + i * 256
/-- 0x3541+i:07, go-ignored (R474). -/
def scanGoIgnored (i : Nat) : Nat := 0x354107 + i * 256
/-- 0x3541+i:08, clear-tallies (R474). -/
def scanClearTallies (i : Nat) : Nat := 0x354108 + i * 256
/-- 0x1200:01, class-mask (R499). -/
def classMask : Nat := 0x120001
/-- 0x1200:02, notices-raised (R499). -/
def noticesRaised : Nat := 0x120002
/-- 0x1200:03, notices-suppressed (R499). -/
def noticesSuppressed : Nat := 0x120003
/-- 0x1200:04, newest-notice (R499). -/
def newestNotice : Nat := 0x120004
/-- 0x1200:05, clear-tallies (R499). -/
def noticeClearTallies : Nat := 0x120005
/-- 0x3500:01, hub-fault (R500). -/
def hubFault : Nat := 0x350001
/-- 0x3500:02, hub-fault-cause (R500). -/
def hubFaultCause : Nat := 0x350002
/-- 0x3500:03, hub-fault-stamp (R500). -/
def hubFaultStamp : Nat := 0x350003
/-- 0x3500:04, persisted-fault-cause (R500). -/
def persistedFaultCause : Nat := 0x350004
/-- 0x3500:05, persisted-fault-stamp (R500). -/
def persistedFaultStamp : Nat := 0x350005
/-- 0x3500:06, fault-record-clear (R500). -/
def faultRecordClear : Nat := 0x350006
/-- 0x3500:07, ecc-corrected-total (R500). -/
def eccCorrectedTotal : Nat := 0x350007
/-- 0x3500:08, ecc-uncorrectable-total (R500). -/
def eccUncorrectableTotal : Nat := 0x350008
/-- 0x3500:09, scrub-passes (R500). -/
def scrubPasses : Nat := 0x350009
/-- 0x3500:0A, config-repairs (R500). -/
def configRepairs : Nat := 0x35000A
/-- 0x3500:0B, supply-events (R500). -/
def supplyEvents : Nat := 0x35000B
/-- 0x3500:0C, clear-tallies (R500). -/
def safeClearTallies : Nat := 0x35000C
/-- 0x3501:01, safety-detection-time (R501). -/
def safetyDetectionTime : Nat := 0x350101
/-- 0x3501:02, fault-test (R501). -/
def faultTest : Nat := 0x350102
/-- 0x3501:03, ecc-escalate (R501). -/
def eccEscalate : Nat := 0x350103
/-- 0x3501:04, keeper-watchdog (R501). -/
def keeperWatchdog : Nat := 0x350104
/-- 0x3501:05, scrub-period (R501). -/
def scrubPeriod : Nat := 0x350105
/-- 0x3600:01, freset (R502). -/
def freset : Nat := 0x360001
/-- 0x3600:02, reset-count (R502). -/
def resetCount : Nat := 0x360002
/-- 0x3600:03, last-func (R502). -/
def lastFunc : Nat := 0x360003
/-- 0x3600:04, last-reset (R502). -/
def lastReset : Nat := 0x360004
/-- 0x3600:05, reset-ignored (R502). -/
def resetIgnored : Nat := 0x360005
/-- 0x3100:01, combine-mode (R525). -/
def combineMode : Nat := 0x310001
/-- 0x3100:02, dead-time (R525). -/
def deadTime : Nat := 0x310002
/-- 0x3100:03, feed-uv (R525). -/
def feedUv : Nat := 0x310003
/-- 0x3100:04, feed-ov (R525). -/
def feedOv : Nat := 0x310004
/-- 0x3100:05, feed-qualify (R525). -/
def feedQualify : Nat := 0x310005
/-- 0x3100:06, seat-debounce (R525). -/
def seatDebounce : Nat := 0x310006
/-- 0x3100:07, current-limit (R525). -/
def currentLimit : Nat := 0x310007
/-- 0x3100:08, fault-timer (R525). -/
def faultTimer : Nat := 0x310008
/-- 0x3100:09, gate-current (R525). -/
def gateCurrent : Nat := 0x310009
/-- 0x3100:0A, ramp-timeout (R525). -/
def rampTimeout : Nat := 0x31000A
/-- 0x3100:0B, fast-trip (R525). -/
def fastTrip : Nat := 0x31000B
/-- 0x3100:0C, retry-count (R525). -/
def retryCount : Nat := 0x31000C
/-- 0x3100:0D, pg-threshold (R525). -/
def pgThreshold : Nat := 0x31000D
/-- 0x3100:0E, pg-hysteresis (R525). -/
def pgHysteresis : Nat := 0x31000E
/-- 0x3100:0F, sense-resistance (R525). -/
def senseResistance : Nat := 0x31000F
/-- 0x3100:10, fet-ntc-trip (R525). -/
def fetNtcTrip : Nat := 0x310010
/-- 0x3100:11, gate-check-enable (R525). -/
def gateCheckEnable : Nat := 0x310011
/-- 0x3100:12, output-check-enable (R525). -/
def outputCheckEnable : Nat := 0x310012
/-- 0x3100:13, discharge-time (R525). -/
def dischargeTime : Nat := 0x310013
/-- 0x3100:14, service-feed-enable (R525). -/
def serviceFeedEnable : Nat := 0x310014
/-- 0x3100:15, fet-fault-clear (R525). -/
def fetFaultClear : Nat := 0x310015
/-- 0x3101:01, breaker-enable (R526). -/
def breakerEnable : Nat := 0x310101
/-- 0x3101:02, breaker-rating (R526). -/
def breakerRating : Nat := 0x310102
/-- 0x3101:03, breaker-curve (R526). -/
def breakerCurve : Nat := 0x310103
/-- 0x3102:01, pp-state (R527). -/
def ppState : Nat := 0x310201
/-- 0x3102:02, pg (R527). -/
def pg : Nat := 0x310202
/-- 0x3102:03, active-feed (R527). -/
def activeFeed : Nat := 0x310203
/-- 0x3102:04, feed-a (R527). -/
def feedA : Nat := 0x310204
/-- 0x3102:05, feed-b (R527). -/
def feedB : Nat := 0x310205
/-- 0x3102:06, vbus (R527). -/
def vbus : Nat := 0x310206
/-- 0x3102:07, common (R527). -/
def common : Nat := 0x310207
/-- 0x3102:08, vout (R527). -/
def vout : Nat := 0x310208
/-- 0x3102:09, load-current (R527). -/
def loadCurrent : Nat := 0x310209
/-- 0x3102:0A, gate-source (R527). -/
def gateSource : Nat := 0x31020A
/-- 0x3102:0B, fet-ntc (R527). -/
def fetNtc : Nat := 0x31020B
/-- 0x3102:0C, sentinel-temperature (R527). -/
def sentinelTemperature : Nat := 0x31020C
/-- 0x3102:0D, fault-timer-level (R527). -/
def faultTimerLevel : Nat := 0x31020D
/-- 0x3102:0E, breaker-level (R527). -/
def breakerLevel : Nat := 0x31020E
/-- 0x3102:0F, retries-left (R527). -/
def retriesLeft : Nat := 0x31020F
/-- 0x3102:10, last-trip-cause (R527). -/
def lastTripCause : Nat := 0x310210
/-- 0x3102:11, fet-fault-cause (R527). -/
def fetFaultCause : Nat := 0x310211
/-- 0x3200:01, pwr-mode-request (R550). -/
def pwrModeRequest : Nat := 0x320001
/-- 0x3200:02, pwr-mode (R550). -/
def pwrMode : Nat := 0x320002
/-- 0x3200:03, wake-mode (R550). -/
def wakeMode : Nat := 0x320003
/-- 0x3200:04, entry-wait (R550). -/
def entryWait : Nat := 0x320004
/-- 0x3200:05, dormant-ring-yield (R550). -/
def dormantRingYield : Nat := 0x320005
/-- 0x3200:06, last-refuser (R550). -/
def lastRefuser : Nat := 0x320006
/-- 0x3200:07, last-abort-cause (R550). -/
def lastAbortCause : Nat := 0x320007
/-- 0x3200:08, nap-map (R550). -/
def napMap : Nat := 0x320008
/-- 0x3200:09, entries (R550). -/
def entries : Nat := 0x320009
/-- 0x3200:0A, rest-discards (R550). -/
def restDiscards : Nat := 0x32000A
/-- 0x3201:01, wake-enable (R551). -/
def wakeEnable : Nat := 0x320101
/-- 0x3201:02, wake-pin-mode (R551). -/
def wakePinMode : Nat := 0x320102
/-- 0x3201:03, wake-after (R551). -/
def wakeAfter : Nat := 0x320103
/-- 0x3201:04, wake-channels (R551). -/
def wakeChannels : Nat := 0x320104
/-- 0x3201:05, last-wake-source (R551). -/
def lastWakeSource : Nat := 0x320105
/-- 0x3201:06, last-wake-stamp (R551). -/
def lastWakeStamp : Nat := 0x320106
/-- 0x3201:07, last-wake-detail (R551). -/
def lastWakeDetail : Nat := 0x320107
/-- 0x3201:08, wake-pending (R551). -/
def wakePending : Nat := 0x320108
/-- 0x3201:09, wake-count (R551). -/
def wakeWakeCount : Nat := 0x320109
/-- 0x3204:01, eaves-mode (R553). -/
def eavesMode : Nat := 0x320401
/-- 0x3204:02, eaves-release-policy (R553). -/
def eavesReleasePolicy : Nat := 0x320402
/-- 0x3204:03, eaves-release (R553). -/
def eavesRelease : Nat := 0x320403
/-- 0x3204:04, eaves-held (R553). -/
def eavesHeld : Nat := 0x320404
/-- 0x3300:01, svc-enable (R566). -/
def svcEnable : Nat := 0x330001
/-- 0x3300:02, function-state (R566). -/
def svcFunctionState : Nat := 0x330002
/-- 0x3300:03, source-enable (R566). -/
def sourceEnable : Nat := 0x330003
/-- 0x3300:04, sink-voltages (R566). -/
def sinkVoltages : Nat := 0x330004
/-- 0x3300:05, sink-max-current (R566). -/
def sinkMaxCurrent : Nat := 0x330005
/-- 0x3300:06, moisture-enable (R566). -/
def moistureEnable : Nat := 0x330006
/-- 0x3300:07, moisture-threshold (R566). -/
def moistureThreshold : Nat := 0x330007
/-- 0x3300:08, moisture-interval (R566). -/
def moistureInterval : Nat := 0x330008
/-- 0x3300:09, usb-speed (R566). -/
def usbSpeed : Nat := 0x330009
/-- 0x3301:01, attach-state (R567). -/
def attachState : Nat := 0x330101
/-- 0x3301:02, data-role (R567). -/
def dataRole : Nat := 0x330102
/-- 0x3301:03, dry-wait (R567). -/
def dryWait : Nat := 0x330103
/-- 0x3301:04, contract-voltage (R567). -/
def contractVoltage : Nat := 0x330104
/-- 0x3301:05, contract-current (R567). -/
def contractCurrent : Nat := 0x330105
/-- 0x3301:06, pd-state (R567). -/
def pdState : Nat := 0x330106
/-- 0x3301:07, moisture-last (R567). -/
def moistureLast : Nat := 0x330107
/-- 0x3301:08, usb-state (R567). -/
def usbState : Nat := 0x330108
/-- 0x3301:09, partner-sources (R567). -/
def partnerSources : Nat := 0x330109
/-- 0x3301:0A, attaches (R567). -/
def attaches : Nat := 0x33010A
/-- 0x3301:0B, contracts (R567). -/
def contracts : Nat := 0x33010B
/-- 0x3301:0C, moisture-detections (R567). -/
def moistureDetections : Nat := 0x33010C
/-- 0x3301:0D, goodcrc-retries (R567). -/
def goodcrcRetries : Nat := 0x33010D
/-- 0x3301:0E, retry-exhausted (R567). -/
def retryExhausted : Nat := 0x33010E
/-- 0x3301:0F, hard-resets (R567). -/
def hardResets : Nat := 0x33010F
/-- 0x3301:10, source-faults (R567). -/
def sourceFaults : Nat := 0x330110
/-- 0x3301:11, clear-tallies (R567). -/
def svcStClearTallies : Nat := 0x330111
/-- 0x3400:01, active-set-version (R588). -/
def activeSetVersion : Nat := 0x340001
/-- 0x3400:02, active-part-versions (R588). -/
def activePartVersions : Nat := 0x340002
/-- 0x3400:03, active-part-sources (R588). -/
def activePartSources : Nat := 0x340003
/-- 0x3400:04, fallback-set-version (R588). -/
def fallbackSetVersion : Nat := 0x340004
/-- 0x3400:05, fallback-usable (R588). -/
def fallbackUsable : Nat := 0x340005
/-- 0x3400:06, staging-set-version (R588). -/
def stagingSetVersion : Nat := 0x340006
/-- 0x3400:07, staging-state (R588). -/
def stagingState : Nat := 0x340007
/-- 0x3400:08, verify-result (R588). -/
def verifyResult : Nat := 0x340008
/-- 0x3400:09, journal-state (R588). -/
def journalState : Nat := 0x340009
/-- 0x3400:0A, trial-remaining (R588). -/
def trialRemaining : Nat := 0x34000A
/-- 0x3400:0B, active-config (R588). -/
def activeConfig : Nat := 0x34000B
/-- 0x3400:0C, frozen-config (R588). -/
def frozenConfig : Nat := 0x34000C
/-- 0x3400:0D, config-format (R588). -/
def configFormat : Nat := 0x34000D
/-- 0x3400:0E, last-start-action (R588). -/
def lastStartAction : Nat := 0x34000E
/-- 0x3400:0F, activations (R588). -/
def activations : Nat := 0x34000F
/-- 0x3400:10, reverts (R588). -/
def reverts : Nat := 0x340010
/-- 0x3400:11, verify-failures (R588). -/
def verifyFailures : Nat := 0x340011
/-- 0x3400:12, store-write-faults (R588). -/
def storeWriteFaults : Nat := 0x340012
/-- 0x3400:13, clear-tallies (R588). -/
def upStClearTallies : Nat := 0x340013
/-- 0x3401:01, staging-erase (R589). -/
def stagingErase : Nat := 0x340101
/-- 0x3401:02, staging-verify (R589). -/
def stagingVerify : Nat := 0x340102
/-- 0x3401:03, update-arm (R589). -/
def updateArm : Nat := 0x340103
/-- 0x3401:04, update-disarm (R589). -/
def updateDisarm : Nat := 0x340104
/-- 0x3401:05, update-restart (R589). -/
def updateRestart : Nat := 0x340105
/-- 0x3401:06, update-confirm (R589). -/
def updateConfirm : Nat := 0x340106
/-- 0x3401:07, fallback-part (R589). -/
def fallbackPart : Nat := 0x340107
/-- 0x3401:08, confirm-window (R589). -/
def confirmWindow : Nat := 0x340108
/-- 0x3401:09, trial-restarts (R589). -/
def trialRestarts : Nat := 0x340109
/-- 0x3401:0A, update-force (R589). -/
def updateForce : Nat := 0x34010A
/-- 0x3403:01, window-base (R591). -/
def windowBase : Nat := 0x340301
/-- 0x3403:02, window-size (R591). -/
def windowSize : Nat := 0x340302
/-- 0x3403:03, window-commit (R591). -/
def windowCommit : Nat := 0x340303
/-- 0x3403:04, window-committed (R591). -/
def windowCommitted : Nat := 0x340304
/-- 0x3404:01, key-slots-valid (R592). -/
def keySlotsValid : Nat := 0x340401
/-- 0x3404:02, key-slots-revoked (R592). -/
def keySlotsRevoked : Nat := 0x340402
/-- 0x3404:03, key-digests (R592). -/
def keyDigests : Nat := 0x340403
/-- 0x3404:04, key-revoke (R592). -/
def keyRevoke : Nat := 0x340404
/-- 0x3510:01, start-state (R620). -/
def startState : Nat := 0x351001
/-- 0x3510:02, last-reset-cause (R620). -/
def lastResetCause : Nat := 0x351002
/-- 0x3510:03, start-count (R620). -/
def startCount : Nat := 0x351003
/-- 0x3510:04, por-to-keeper-ready (R620). -/
def porToKeeperReady : Nat := 0x351004
/-- 0x3510:05, keeper-ready-to-ready (R620). -/
def keeperReadyToReady : Nat := 0x351005
/-- 0x3510:06, straps (R620). -/
def straps : Nat := 0x351006
/-- 0x3510:07, boot-path (R620). -/
def bootPath : Nat := 0x351007
/-- 0x2200+i:01 (R286). -/
def changesAccepted (i : Nat) : Nat := 0x220001 + i * 256
/-- 0x2200+i:02 (R286). -/
def chatterBlocks (i : Nat) : Nat := 0x220002 + i * 256
/-- 0x2200+i:03 (R286). -/
def packetsRx (i : Nat) : Nat := 0x220003 + i * 256
/-- 0x2200+i:04 (R286). -/
def packetsTx (i : Nat) : Nat := 0x220004 + i * 256
/-- 0x2200+i:05 (R286). -/
def gapClosed (i : Nat) : Nat := 0x220005 + i * 256
/-- 0x2200+i:06 (R286). -/
def parityErrors (i : Nat) : Nat := 0x220006 + i * 256
/-- 0x2200+i:07 (R286). -/
def framingErrors (i : Nat) : Nat := 0x220007 + i * 256
/-- 0x2200+i:08 (R286). -/
def overrunBytes (i : Nat) : Nat := 0x220008 + i * 256
/-- 0x2200+i:09 (R286). -/
def chCrcErrors (i : Nat) : Nat := 0x220009 + i * 256
/-- 0x2200+i:0A (R286). -/
def chTxDiscards (i : Nat) : Nat := 0x22000A + i * 256
/-- 0x2200+i:0B (R286). -/
def claimRefused (i : Nat) : Nat := 0x22000B + i * 256
/-- 0x2200+i:0C (R286). -/
def readbackMismatches (i : Nat) : Nat := 0x22000C + i * 256
/-- 0x2200+i:0D (R286). -/
def coilFaults (i : Nat) : Nat := 0x22000D + i * 256
/-- 0x2200+i:0E (R286). -/
def safeStatesApplied (i : Nat) : Nat := 0x22000E + i * 256
/-- 0x2200+i:0F (R286). -/
def lsShortGnd (i : Nat) : Nat := 0x22000F + i * 256
/-- 0x2200+i:10 (R286). -/
def lsShortSupply (i : Nat) : Nat := 0x220010 + i * 256
/-- 0x2200+i:11 (R286). -/
def lsOpen (i : Nat) : Nat := 0x220011 + i * 256
/-- 0x2200+i:12 (R286). -/
def lsReversed (i : Nat) : Nat := 0x220012 + i * 256
/-- 0x2200+i:13 (R286). -/
def tcodeValid (i : Nat) : Nat := 0x220013 + i * 256
/-- 0x2200+i:14 (R286). -/
def tcodeInvalid (i : Nat) : Nat := 0x220014 + i * 256
/-- 0x2200+i:15 (R286). -/
def cstartPulses (i : Nat) : Nat := 0x220015 + i * 256
/-- 0x2200+i:16 (R286). -/
def cstartOverlaps (i : Nat) : Nat := 0x220016 + i * 256
/-- 0x2200+i:17 (R286). -/
def chMalformed (i : Nat) : Nat := 0x220017 + i * 256
/-- 0x2200+i:18 (R286). -/
def angleRefused (i : Nat) : Nat := 0x220018 + i * 256
/-- 0x2200+i:19 (R286). -/
def chClearTallies (i : Nat) : Nat := 0x220019 + i * 256
/-- 0x3103:01 (R528). -/
def tripsTimer : Nat := 0x310301
/-- 0x3103:02 (R528). -/
def tripsBreaker : Nat := 0x310302
/-- 0x3103:03 (R528). -/
def tripsFast : Nat := 0x310303
/-- 0x3103:04 (R528). -/
def tripsTemperature : Nat := 0x310304
/-- 0x3103:05 (R528). -/
def retries : Nat := 0x310305
/-- 0x3103:06 (R528). -/
def latchOffs : Nat := 0x310306
/-- 0x3103:07 (R528). -/
def extractions : Nat := 0x310307
/-- 0x3103:08 (R528). -/
def feedALosses : Nat := 0x310308
/-- 0x3103:09 (R528). -/
def feedBLosses : Nat := 0x310309
/-- 0x3103:0A (R528). -/
def switchovers : Nat := 0x31030A
/-- 0x3103:0B (R528). -/
def pgWithdrawals : Nat := 0x31030B
/-- 0x3103:0C (R528). -/
def fetFaults : Nat := 0x31030C
/-- 0x3103:0D (R528). -/
def logOverflows : Nat := 0x31030D
/-- 0x3202: the refusal tally of holder `id` (R552). -/
def holderRefusals (id : Nat) : Nat := 0x320200 + id
/-- 0x3203: the abort tally of holder `id`; id 0x20 counts aborts by a wake source or hub fault (R552). -/
def holderAborts (id : Nat) : Nat := 0x320300 + id
/-- 0x1710:01, forwarding-table (R200). -/
def forwardingTable : Nat := 0x171001
/-- 0x2340+i:01, can-schedule (R314). -/
def canSchedule (i : Nat) : Nat := 0x234001 + i * 256
/-- 0x3104:01, power-log (R529). -/
def powerLog : Nat := 0x310401
/-- 0x3402:01, staging-data (R590). -/
def stagingData : Nat := 0x340201

end Sys2Proof.Machine.Obj
end

