-- ==== Sys2Proof/Machine/Objects.lean ====
section
/-!
DEFINITION. Reading and writing the objects of the dictionary inside the hub: descriptions by key, default values, the values in
force, counters that saturate (R477) and counters that wrap.
-/
namespace Sys2Proof.Machine

/-- The row of a list of rows that populates a subindex. -/
def findRow (sub : Nat) : List Desc → Option Desc
  | [] => none
  | d :: ds => if d.sub ≤ sub ∧ sub < d.sub + d.count then some d else findRow sub ds

/-- Whether a table covers an index in a channel mode. -/
def Block.covers (b : Block) (mode idx : Nat) : Bool :=
  decide (b.base ≤ idx ∧ idx < b.base + b.count) && (b.mode == 0 || b.mode == mode)

/-- The table and row of an index and subindex, for a channel in `mode` (0 where no mode applies). -/
def findDesc (mode idx sub : Nat) : List Block → Option (Block × Desc)
  | [] => none
  | b :: bs =>
    if b.covers mode idx then
      match findRow sub b.subs with
      | some d => some (b, d)
      | none => findDesc mode idx sub bs
    else findDesc mode idx sub bs

/-- Whether an index is populated (R3, R425). -/
def populated (idx : Nat) : Bool := allBlocks.any (fun b => decide (b.base ≤ idx ∧ idx < b.base + b.count))

/-- The highest subindex an index populates (R422). -/
def highestSub (mode idx : Nat) : Nat :=
  (allBlocks.filter (fun b => b.covers mode idx)).foldl
    (fun m b => b.subs.foldl (fun m d => max m (d.sub + d.count - 1)) m) 0

/-- The mode tag, index and subindex of a key. -/
def keyParts (key : Nat) : Nat × Nat × Nat := (key / 0x1000000, key / 256 % 0x10000, key % 256)

/-- The default thresholds and line-fault-action of a channel mode (R272), by subindex. -/
def lineSenseDefault (mode sub : Nat) : Nat :=
  let t : List Int :=
    match mode with
    | 1 => [400, 2100, 2550, 4200]
    | 2 => [400, 1800, 3200, 4500]
    | 3 | 4 => [-8000, 8000, 100000, 160000]
    | 5 | 6 | 7 | 8 => [300, 1000, 2000, 3900]
    | _ => []
  if sub = 6 then (if mode = 1 ∨ mode = 2 then 1 else 0) else ofSigned 32 (t.getD (sub - 0x0A) 0)

/-- Whether a key is one of the line-sense objects of a channel whose defaults follow the mode (R245, R272). -/
def isLineSenseKey (idx sub : Nat) : Bool :=
  decide (0x2000 ≤ idx ∧ idx < 0x20C0) && (sub == 6 || decide (0x0A ≤ sub ∧ sub ≤ 0x0D))

/-- The default of STA-B's mac-address: the MAC base + 1 (R380). -/
def macPlusOne (mac : List Byte) : List Byte := beBytes 6 (beNat mac + 1)

/-- What an object holds until it is written. -/
def dictDefault (key : Nat) : Val :=
  let (mode, idx, sub) := keyParts key
  if isLineSenseKey idx sub then .num (lineSenseDefault mode sub)
  else if key = Obj.macAddress 1 then .oct (macPlusOne Config.macBase)
  else if key = Obj.forwardingTable then .oct []
  else
    match findDesc mode idx sub allBlocks with
    | some (_, d) => d.dflt
    | none => .num 0

/-- The value of an object in force. -/
def Hub.obj (h : Hub) (key : Nat) : Val := SMap.get dictDefault h.dict key

/-- Store a value of an object. -/
def Hub.setObj (h : Hub) (key : Nat) (v : Val) : Hub := { h with dict := SMap.set dictDefault h.dict key v }

/-- The number an object holds (the raw word of a signed type). -/
def Hub.num (h : Hub) (key : Nat) : Nat := (h.obj key).nat

/-- The octets an object holds. -/
def Hub.oct (h : Hub) (key : Nat) : List Byte := (h.obj key).octets

/-- A BOOL object. -/
def Hub.flag (h : Hub) (key : Nat) : Bool := h.num key != 0

/-- An I32 object. -/
def Hub.int (h : Hub) (key : Nat) : Int := toSigned 32 (h.num key)

/-- Store the number of an object. -/
def Hub.setNum (h : Hub) (key n : Nat) : Hub := h.setObj key (.num n)

/-- Store a BOOL object. -/
def Hub.setFlag (h : Hub) (key : Nat) (b : Bool) : Hub := h.setNum key (b2n b)

/-- Store an I32 object. -/
def Hub.setInt (h : Hub) (key : Nat) (i : Int) : Hub := h.setNum key (ofSigned 32 i)

/-- Store the octets of an object. -/
def Hub.setOct (h : Hub) (key : Nat) (b : List Byte) : Hub := h.setObj key (.oct b)

/-- Add to a tally, which saturates at 32 bits (R477). -/
def Hub.countN (h : Hub) (key n : Nat) : Hub := h.setNum key (satAdd (maxWord 32) (h.num key) n)

/-- Count one event in a tally. -/
def Hub.count (h : Hub) (key : Nat) : Hub := h.countN key 1

/-- Add to a counter that wraps at 32 bits. -/
def Hub.wrapAdd (h : Hub) (key n : Nat) : Hub := h.setNum key ((h.num key + n) % 2 ^ 32)

/-- Raise a register to a value when the value is greater. -/
def Hub.maxNum (h : Hub) (key n : Nat) : Hub := if h.num key < n then h.setNum key n else h

/-- The most recently accepted value of an object: a pending RWB value counts (R424, R450). -/
def Hub.accepted (h : Hub) (key : Nat) : Val :=
  match h.rwb.find? (fun p => p.1 == key) with
  | some (_, v) => v
  | none => h.obj key

/-- The life cycle of a function. -/
def Hub.func (h : Hub) (fid : Nat) : FState := SMap.get (fun _ => {}) h.funcs fid

/-- Store the life cycle of a function. -/
def Hub.setFunc (h : Hub) (fid : Nat) (f : FState) : Hub := { h with funcs := SMap.set (fun _ => {}) h.funcs fid f }

/-- Whether a function is ON. -/
def Hub.isOn (h : Hub) (fid : Nat) : Bool := decide ((h.func fid).life = .on)

/-- Whether a function is OFF. -/
def Hub.isOff (h : Hub) (fid : Nat) : Bool := decide ((h.func fid).life = .off)

/-- Whether a function still sends what it holds: it is ON, or it drains in STOPPING after a disable (R31, R33). -/
def Hub.sends (h : Hub) (fid : Nat) : Bool :=
  let f := h.func fid
  decide (f.life = .on ∨ (f.life = .stopping ∧ f.inReset = false))

/-- FSTATE (R30). -/
def FState.byte (f : FState) : Nat :=
  (match f.life with | .off => 0 | .starting => 1 | .on => 2 | .stopping => 3) + 4 * b2n f.pendingEn + 8 * b2n f.fault

/-! FUNC_IDs (R479). -/

def fidHub : Nat := 0x0001
def fidKeeper : Nat := 0x0002
def fidTime : Nat := 0x0003
def fidBridge : Nat := 0x0004
def fidSwitch : Nat := 0x0005
def fidDict : Nat := 0x0006
def fidLedger : Nat := 0x0007
def fidPower : Nat := 0x0008
def fidPowerStates : Nat := 0x0009
def fidUpdate : Nat := 0x000A
def fidGoose : Nat := 0x000B
def fidDuplex : Nat := 0x000C
def fidService : Nat := 0x000D
def fidPtp : Nat := 0x000E
def fidChannel (c : Nat) : Nat := 0x0100 + c
def fidCluster (k : Nat) : Nat := 0x0200 + k
def fidCan (n : Nat) : Nat := 0x0300 + n
def fidSeq (s : Nat) : Nat := 0x0400 + s
def fidQueue (q : Nat) : Nat := 0x0500 + q
def fidWindow (w : Nat) : Nat := 0x0600 + w
def fidAperture (a : Nat) : Nat := 0x0610 + a
def fidPort (p : Nat) : Nat := 0x0700 + p
def fidRingPort (p : Nat) : Nat := 0x0800 + p
def fidStation (p : Nat) : Nat := 0x0900 + p
def fidGocb (g : Nat) : Nat := 0x0A00 + g
def fidSub (u : Nat) : Nat := 0x0B00 + u
def fidScan (e : Nat) : Nat := 0x0C00 + e

/-- The bit of nap-map (R549) of the unit behind a switch port: its cluster, STA-A or STA-B. -/
def napBit (p : Nat) : Option Nat := if p < 12 then some p else if p = 14 then some 12 else if p = 15 then some 13 else none

/-- Whether a switch port counts as ON (R186): in NAP the port of a unit that is off does not (R533). -/
def Hub.portOn (h : Hub) (p : Nat) : Bool :=
  h.isOn (fidPort p) && !(match napBit p with | some i => (h.num Obj.napMap).testBit i | none => false)

/-- Whether a FUNC_ID is assigned to a resettable function (R479). -/
def resettable (fid : Nat) : Bool :=
  decide (fid = 0xC ∨ fid = 0xD ∨ fid = 0xE ∨ (0x100 ≤ fid ∧ fid < 0x1C0) ∨ (0x200 ≤ fid ∧ fid < 0x20C)
    ∨ (0x300 ≤ fid ∧ fid < 0x330) ∨ (0x400 ≤ fid ∧ fid < 0x418) ∨ (0x500 ≤ fid ∧ fid < 0x540)
    ∨ (0x600 ≤ fid ∧ fid < 0x620) ∨ (0x700 ≤ fid ∧ fid < 0x712) ∨ fid = 0x800 ∨ fid = 0x801
    ∨ fid = 0x900 ∨ fid = 0x901 ∨ (0xA00 ≤ fid ∧ fid < 0xA80) ∨ (0xB00 ≤ fid ∧ fid < 0xC00)
    ∨ (0xC00 ≤ fid ∧ fid < 0xC03))

end Sys2Proof.Machine
end

