-- ==== Sys2Proof/Machine/Check.lean ====
section
/-!
DEFINITION. Check-value profiles and in-line stages (R459 to R464): the parametric model of a cyclic redundancy check, its running and
finalised values, and the octets a stage appends or strips.
-/
namespace Sys2Proof.Machine

/-- The six parameters of a profile (R459). -/
structure Profile where
  w : Nat
  poly : Nat
  init : Nat
  refin : Bool
  refout : Bool
  xorout : Nat
deriving DecidableEq, Repr

/-- A profile by its code; none for 0 and for the codes that name no profile (R459). -/
def Hub.profile (h : Hub) (code : Nat) : Option Profile :=
  match code with
  | 1 => some ⟨32, 0x04C11DB7, 0xFFFFFFFF, true, true, 0xFFFFFFFF⟩
  | 2 => some ⟨32, 0x1EDC6F41, 0xFFFFFFFF, true, true, 0xFFFFFFFF⟩
  | 3 => some ⟨16, 0x1021, 0xFFFF, false, false, 0⟩
  | 4 => some ⟨16, 0x1021, 0, true, true, 0⟩
  | 5 => some ⟨16, 0x8005, 0xFFFF, true, true, 0⟩
  | 6 => some ⟨8, 0x07, 0, false, false, 0⟩
  | 7 => some ⟨8, 0x2F, 0xFF, false, false, 0xFF⟩
  | 8 => some ⟨h.num Obj.userWidth, h.num Obj.userPoly, h.num Obj.userInit, h.flag Obj.userRefin, h.flag Obj.userRefout,
      h.num Obj.userXorout⟩
  | _ => none

/-- The low `n` bits of a number in reverse order. -/
def revBits : Nat → Nat → Nat
  | 0, _ => 0
  | n + 1, v => v % 2 * 2 ^ n + revBits n (v / 2)

/-- One bit into the register, most significant bit first (R461). -/
def Profile.bitStep (p : Profile) (r : Nat) (b : Bool) : Nat :=
  let top := (r.testBit (p.w - 1)) != b
  let r := r * 2 % 2 ^ p.w
  if top then Nat.xor r p.poly else r

/-- One octet into the register (R461). -/
def Profile.byteStep (p : Profile) (r : Nat) (b : Byte) : Nat :=
  let v := if p.refin then revBits 8 b.toNat else b.toNat
  [7, 6, 5, 4, 3, 2, 1, 0].foldl (fun r i => p.bitStep r (v.testBit i)) r

/-- The running value after octets, from a running value (R461). -/
def Profile.run (p : Profile) (r : Nat) (bs : List Byte) : Nat := bs.foldl p.byteStep r

/-- The finalised result of a running value (R461). -/
def Profile.finish (p : Profile) (r : Nat) : Nat := Nat.xor (if p.refout then revBits p.w r else r) p.xorout

/-- The check value of octets. -/
def Profile.value (p : Profile) (bs : List Byte) : Nat := p.finish (p.run p.init bs)

/-- Octets an appended check value takes (R462). -/
def Profile.size (p : Profile) : Nat := (p.w + 7) / 8

/-- The octets appended after data (R462): least significant first with reflect-out, else most significant first. -/
def Profile.octets (p : Profile) (bs : List Byte) : List Byte :=
  if p.refout then leBytes p.size (p.value bs) else beBytes p.size (p.value bs)

/-- Check and strip (R462): whether the check holds, and the data without the check value. -/
def Profile.check (p : Profile) (bs : List Byte) : Bool × List Byte :=
  let d := bs.take (bs.length - p.size)
  (decide (p.size < bs.length) && decide (bs.drop (bs.length - p.size) = p.octets d), d)

/-- Octets a profile code adds to data; 0 for none. -/
def Hub.checkSize (h : Hub) (code : Nat) : Nat := ((h.profile code).map Profile.size).getD 0

end Sys2Proof.Machine
end

