-- ==== Sys2Proof/Machine/NoticeCodes.lean ====
section
/-! DEFINITION. The notice codes (R497): class × 0x100 plus the ordinal of the notice in its block's table. -/

namespace Sys2Proof.Machine.N

def functionStartFailed : Nat := 0x0001
def functionFaultOff : Nat := 0x0002
def functionResetDone : Nat := 0x0003
def hubFault : Nat := 0x0004
def hubFaultPrevious : Nat := 0x0005
def timeSourceLost : Nat := 0x0101
def timeSourceChanged : Nat := 0x0102
def timeStep : Nat := 0x0103
def timeDiscontinuity : Nat := 0x0104
def phcCoasting : Nat := 0x0105
def phcSourceChanged : Nat := 0x0106
def phcInvalid : Nat := 0x0107
def triggerMissed : Nat := 0x0108
def triggerLate : Nat := 0x0109
def tcapOverflow : Nat := 0x010A
def controlCycle : Nat := 0x010B
def ringLinkLost : Nat := 0x0201
def ringLinkUp : Nat := 0x0202
def ringBreak : Nat := 0x0203
def ringRestored : Nat := 0x0204
def nodeIdInvalid : Nat := 0x0205
def nodeIdDuplicate : Nat := 0x0206
def ringJoinFailed : Nat := 0x0207
def ringClass01Limited : Nat := 0x0208
def ringStewardChanged : Nat := 0x0209
def ringTimeMasterChanged : Nat := 0x020A
def bridgeFault : Nat := 0x0301
def fenceDone : Nat := 0x0302
def switchTailDrop : Nat := 0x0401
def switchClass0Drop : Nat := 0x0402
def switchEccError : Nat := 0x0403
def fwdTableFlipped : Nat := 0x0404
def creditViolation : Nat := 0x0501
def queuePtrFault : Nat := 0x0502
def queueFlushed : Nat := 0x0503
def queueWmHigh : Nat := 0x0504
def queueWmLow : Nat := 0x0505
def queueDmaError : Nat := 0x0506
def noticeOverflow : Nat := 0x0507
def lineFault : Nat := 0x0601
def lineClear : Nat := 0x0602
def chatterBlocked : Nat := 0x0603
def chatterReleased : Nat := 0x0604
def gapClosed : Nat := 0x0605
def uartOverrun : Nat := 0x0606
def readbackMismatch : Nat := 0x0607
def coilFault : Nat := 0x0608
def safeStateApplied : Nat := 0x0609
def angleRefused : Nat := 0x060A
def tcodeInvalid : Nat := 0x060B
def ledgerLost : Nat := 0x060C
def canErrorPassive : Nat := 0x0701
def canBusOff : Nat := 0x0702
def canBusOn : Nat := 0x0703
def canRxOverrun : Nat := 0x0704
def canStuckDominant : Nat := 0x0705
def canMatrixStarted : Nat := 0x0706
def canRefLost : Nat := 0x0707
def seqWatchdog : Nat := 0x0801
def seqSignal : Nat := 0x0802
def seqRxDrop : Nat := 0x0803
def staLinkDown : Nat := 0x0901
def staLinkUp : Nat := 0x0902
def staLanSilent : Nat := 0x0903
def ptpStateChanged : Nat := 0x0904
def ptpGmChanged : Nat := 0x0905
def gooseSubLost : Nat := 0x0A01
def gooseSubRestored : Nat := 0x0A02
def gooseSubMismatch : Nat := 0x0A03
def gooseRxOverflow : Nat := 0x0A04
def duplexRole : Nat := 0x0B01
def duplexTakeover : Nat := 0x0B02
def duplexDeposed : Nat := 0x0B03
def duplexPeerLost : Nat := 0x0B04
def duplexSwapDone : Nat := 0x0B05
def duplexSwapAborted : Nat := 0x0B06
def swapCollision : Nat := 0x0B07
def duplexConfigMismatch : Nat := 0x0B08
def duplexMirrorUnsynced : Nat := 0x0B09
def duplexCompareOverflow : Nat := 0x0B0A
def duplexForeign : Nat := 0x0B0B
def duplexStoreFault : Nat := 0x0B0C
def duplexClaimExhausted : Nat := 0x0B0D
def stallChanged : Nat := 0x0C01
def dictAuthFailed : Nat := 0x0C02
def mboxDone : Nat := 0x0C03
def dictLoadRefused : Nat := 0x0C04
def powerFeedLost : Nat := 0x0E01
def powerFeedRestored : Nat := 0x0E02
def powerSwitchover : Nat := 0x0E03
def powerTrip : Nat := 0x0E04
def powerLatchedOff : Nat := 0x0E05
def fetFault : Nat := 0x0E06
def powerPgLost : Nat := 0x0E07
def powerLogOverflow : Nat := 0x0E08
def powerModeChanged : Nat := 0x0F01
def powerEntryRefused : Nat := 0x0F02
def powerEntryAborted : Nat := 0x0F03
def powerWake : Nat := 0x0F04
def serviceAttached : Nat := 0x1001
def serviceDetached : Nat := 0x1002
def serviceContract : Nat := 0x1003
def serviceMoisture : Nat := 0x1004
def servicePdRetryExhausted : Nat := 0x1005
def serviceSourceFault : Nat := 0x1006
def updateStaged : Nat := 0x1101
def updateVerifyFailed : Nat := 0x1102
def updateActivated : Nat := 0x1103
def updateConfirmed : Nat := 0x1104
def updateConfirmExpired : Nat := 0x1105
def updateReverted : Nat := 0x1106
def updateKeyRevoked : Nat := 0x1107
def storeWriteFault : Nat := 0x1108
def scanDone : Nat := 0x0D01
def scanFailed : Nat := 0x0D02
def eccUncorrectable : Nat := 0x0D10
def configScrubRepair : Nat := 0x0D11

end Sys2Proof.Machine.N
end

