-- ==== Sys2Proof/Machine/Time.lean ====
section
/-!
DEFINITION. Station time, stamps and the phase clock as functions of the state (R7 to R12, R25, R41 to R58): what an LTC value
converts to, which class and uncertainty a stamp carries, and what the phase clock reads. The commands of the time unit are in
Machine/TimeUnit.lean and Machine/Triggers.lean.
-/
namespace Sys2Proof.Machine

/-- Units of station time in one nanosecond (`Segment.st0` counts 2.5e-9 ns). -/
def stPerNs : Nat := 400000000

/-- The LTC as a number. -/
def Hub.now (h : Hub) : Nat := h.time.ltc.toNat

/-- Whether an interval has passed since an instant that is kept plus 1; 0 none kept (R12). -/
def Hub.dueAgain (h : Hub) (mark interval : Nat) : Bool := mark == 0 || decide (interval ≤ ticksBetween (mark - 1) h.now)

def timeCode : TimeSource → Nat
  | .ptp => 1 | .ring => 2 | .tcode => 3

def phaseCode : PhaseSource → Nat
  | .localMains => 1 | .ring => 2 | .nominal => 3

/-- SYNC_STATE codes (R10). -/
def syncNever : Nat := 0
def syncHoldover : Nat := 4
def syncHoldoverSleep : Nat := 5

/-- Station time of a tick within a segment, in units of 2.5e-9 ns (R25); ticks differ as R12 says. -/
def Segment.at (g : Segment) (l : Nat) : Nat :=
  ((g.st0 : Int) + later64 l g.l0 * (1000000000 + g.rate)).toNat

/-- The newest segment that had started at a tick (R25: the segment in force at the stamp's LTC; R12). -/
def segmentFor (segs : List Segment) (l : Nat) : Option Segment := segs.find? (fun g => reached l g.l0)

/-- Station time of a tick, in units of 2.5e-9 ns. With no segment ST counts from 0 at the rate of the LTC (R46); a tick older than
every kept segment reads at the oldest one's rate, and its stamp is class X. -/
def Hub.stAt (h : Hub) (l : Nat) : Nat :=
  match segmentFor h.time.segs l with
  | some g => g.at l
  | none =>
    match h.time.segs.getLast? with
    | some g => g.at l
    | none => l * 1000000000

/-- Whether a tick converts through a kept segment (R25). -/
def Hub.mapped (h : Hub) (l : Nat) : Bool := h.time.segs.isEmpty || (segmentFor h.time.segs l).isSome

/-- Station time of a tick in whole ns. -/
def Hub.stNs (h : Hub) (l : Nat) : Nat := h.stAt l / stPerNs

/-- The state of the time unit now. -/
def Hub.timeMark (h : Hub) : TimeMark :=
  { l0 := h.now, sync := h.num Obj.syncState, lastLocked := h.time.lastLocked, sleepUnc := h.time.sleepUnc }

/-- The state of the time unit at a tick (R26): that of the newest mark that had been set; the present one where none is kept. -/
def Hub.markAt (h : Hub) (l : Nat) : TimeMark := (h.time.marks.find? (fun m => reached l m.l0)).getD h.timeMark

/-- The hub with every segment and mark that it has had (R25): what a unit that converts a stamp as it latches it has converted with. -/
def Hub.latched (h : Hub) : Hub :=
  { h with time := { h.time with segs := h.time.segs ++ h.time.segsPast, marks := h.time.marks ++ h.time.marksPast } }

/-- The LTC `n` ticks before now (R12). -/
def Hub.ago (h : Hub) (n : Nat) : Nat := (h.now + 2 ^ 64 - n) % 2 ^ 64

/-- The uncertainty U in ns at a tick in a state of the time unit (R45); none: unknown. -/
def Hub.uncertaintyIn (h : Hub) (m : TimeMark) (l : Nat) : Option Nat :=
  let drift := h.num Obj.holdoverDrift * (ticksBetween m.lastLocked l * 5 / 2) / 1000000000
  if m.sync = syncNever then none
  else if m.sync = syncHoldover then some (20 + drift)
  else if m.sync = syncHoldoverSleep then some (20 + drift + m.sleepUnc)
  else some 20

/-- The uncertainty U now (R45). -/
def Hub.uncertaintyU (h : Hub) : Option Nat := h.uncertaintyIn h.timeMark h.now

/-- The stamp classes (R9). -/
inductive Class where
  | H | E | S | X
deriving DecidableEq, Repr

def Class.code : Class → Nat
  | .H => 0 | .E => 1 | .S => 2 | .X => 3

/-- The bound of a stamping point's class in ns (R9, R45). -/
def Class.bound : Class → Nat
  | .H => 50 | .E => 1000 | .S => 20000 | .X => 0xFFFFFF

/-- UNCERT of a stamp taken at a tick at a point of a class (R45). -/
def Hub.uncert (h : Hub) (c : Class) (l : Nat) : Nat :=
  match h.uncertaintyIn (h.markAt l) l with
  | none => 0xFFFFFF
  | some u => min 0xFFFFFF (max u c.bound)

/-- CLASS of a stamp taken at a tick at a point of a class (R25, R26, R45), by the time unit's state at the stamp: the first class, not above the
point's own, whose bound covers UNCERT; S counts as ±1 ms. -/
def Hub.stampClass (h : Hub) (c : Class) (l : Nat) : Class :=
  if (h.markAt l).sync = syncNever ∨ h.mapped l = false ∨ c = .X then .X
  else
    let u := h.uncert c l
    if c = .H ∧ u ≤ 50 then .H
    else if (c = .H ∨ c = .E) ∧ u ≤ 1000 then .E
    else if u ≤ 1000000 then .S
    else .X

/-- A STAMP64 word of ns of ST and a class (R7). -/
def stamp64 (ns : Nat) (c : Class) : Nat :=
  (ns / 1000000000 % 2 ^ 32) * 2 ^ 32 + (ns % 1000000000) * 4 + c.code

/-- The STAMP64 of a tick at a stamping point of a class (R7, R25, R45). -/
def Hub.stampAt (h : Hub) (c : Class) (l : Nat) : Nat := stamp64 (h.stNs l) (h.stampClass c l)

/-- The STAMP64 of an instant `frac5` fifths after a tick (R39). -/
def Hub.stampFine (h : Hub) (c : Class) (l frac5 : Nat) : Nat := stamp64 ((h.stAt l + frac5 * 200000000) / stPerNs) (h.stampClass c l)

/-- The STAMP64 of now. -/
def Hub.stamp (h : Hub) (c : Class) : Nat := h.stampAt c h.now

/-- The STAMP128 of a tick, with `frac5` fifths of a tick added (R8, R39). -/
def Hub.stamp128At (h : Hub) (c : Class) (l frac5 : Nat) : Nat :=
  let u := h.stAt l + frac5 * 200000000
  let ns := u / stPerNs
  let cls := h.stampClass c l
  (ns / 1000000000 % 2 ^ 48) * 2 ^ 80 + (ns % 1000000000) * 2 ^ 48
    + (u % stPerNs * 65536 / stPerNs) * 2 ^ 32 + ((h.markAt l).sync % 16) * 2 ^ 28
    + cls.code * 2 ^ 26 + h.uncert c l

/-! ### Phase clock -/

def phcInvalid : Nat := 0
def phcAcquiring : Nat := 1
def phcLocked : Nat := 2
def phcCoasting : Nat := 3

/-- Advance of a clock of `f` µHz over `ticks` ticks, in 2^-32 cycle. -/
def phaseAdvance (f ticks : Nat) : Nat := f * ticks * 2 ^ 32 / 400000000000000

/-- Advance of a clock of `f` µHz over fifths of a tick (R39), in 2^-32 cycle. -/
def phaseFifths (f frac5 : Nat) : Nat := f * frac5 * 2 ^ 32 / 2000000000000000

/-- Ticks a clock of `f` µHz takes over a phase advance, rounded up. -/
def phaseTicks (f adv : Nat) : Nat := if f = 0 then 0 else (adv * 400000000000000 + f * 2 ^ 32 - 1) / (f * 2 ^ 32)

/-- Ticks a clock of `f` µHz takes over a phase difference. -/
def ticksOfPhase (f : Nat) (d : Int) : Int := if 0 ≤ d then (phaseTicks f d.toNat : Int) else -(phaseTicks f (-d).toNat : Int)

/-- Ticks a clock of `f` µHz whose frequency changes by `rho` µHz/s takes over a phase difference (R62): what ½·ρ·t² adds over the time at constant
frequency is taken off the difference (log entry 95: to second order). -/
def ticksWithRocof (f : Nat) (rho d : Int) : Int :=
  let t := ticksOfPhase f d
  ticksOfPhase f (d - rho * (t * t) * 4294967296 / 320000000000000000000000)

/-- An angle in millidegrees as a signed fraction of a cycle: round(θ / 360 × 2^32) (R11). -/
def fractionOf (mdeg : Int) : Int := roundDiv (mdeg * 4294967296) 360000

/-- NOMINAL phase at a tick for a frequency in mHz: ST × frequency, in 2^-32 cycle (R50). -/
def Hub.nominalPhaseOf (h : Hub) (f l : Nat) : Nat := h.stAt l * f * 2 ^ 32 / (stPerNs * 1000000000000)

/-- NOMINAL phase at a tick: ST × nominal-frequency (R50). -/
def Hub.nominalPhase (h : Hub) (l : Nat) : Nat := h.nominalPhaseOf (h.num Obj.nominalFrequency) l

/-- The line the phase clock runs on now. -/
def Hub.phaseLine (h : Hub) : PhaseLine :=
  { l0 := h.time.phcL0, base := h.time.phcBase, rate := ((h.time.phcFreq : Int) + h.time.phcTrim).toNat, nominal := h.time.phcNominal }

/-- The line in force at a tick (R26: a stamp keeps the phase of its own instant); the present one where none is kept. -/
def Hub.lineAt (h : Hub) (l : Nat) : PhaseLine :=
  ((h.phaseLine :: h.time.phcPast).find? (fun p => reached l p.l0)).getD h.phaseLine

/-- The phase on a line at a tick, as an unwrapped count of 2^-32 cycles. -/
def Hub.phaseOn (h : Hub) (p : PhaseLine) (l : Nat) : Nat :=
  match p.nominal with
  | some k => ((h.nominalPhaseOf (p.rate / 1000) l : Int) + k).toNat
  | none =>
    if reached l p.l0 then p.base + phaseAdvance p.rate (ticksBetween p.l0 l)
    else p.base - phaseAdvance p.rate (ticksBetween l p.l0)

/-- The phase clock at a tick, as an unwrapped count of 2^-32 cycles. -/
def Hub.phaseRaw (h : Hub) (l : Nat) : Nat := h.phaseOn (h.lineAt l) l

/-- PHASE64 at a tick (R11). -/
def Hub.phaseAt (h : Hub) (l : Nat) : Nat := h.phaseRaw l % 2 ^ 64

/-- The phase of the followed ring master at a tick, from its last frame on (R123). -/
def Hub.ringPhaseAt (h : Hub) (l : Nat) : Nat := h.time.ringPhase + phaseAdvance h.time.ringFreq (ticksBetween h.time.ringL0 l)

/-- Whether the phase clock is LOCKED or COASTING now. -/
def Hub.phaseUsable (h : Hub) : Bool := h.num Obj.phcState == phcLocked || h.num Obj.phcState == phcCoasting

/-- Whether it was at a tick (R275). -/
def Hub.usableAt (h : Hub) (l : Nat) : Bool :=
  if l = h.now then h.phaseUsable else ((h.time.usable.find? (fun m => reached l m.1)).map (·.2)).getD h.phaseUsable

/-- Note at the end of a cycle whether the phase clock is usable, when that has changed. -/
def Hub.markUsable (h : Hub) : Hub :=
  if (h.time.usable.head?.map (·.2)) = some h.phaseUsable then h
  else { h with time := { h.time with usable := ((h.now, h.phaseUsable) :: h.time.usable).take 64 } }

/-! ### Control cycle -/

/-- The control-cycle number that holds at a tick (R57, R58). -/
def Hub.ccAt (h : Hub) (l : Nat) : Nat :=
  let off := h.num Obj.ccOffset
  if h.num Obj.ccMode = 0 then
    (((h.stNs l : Int) - off) / (h.num Obj.ccPeriod : Int) % 4294967296).toNat
  else
    let ph := if h.num Obj.phcState = phcInvalid then h.nominalPhase l else h.phaseRaw l
    let sl := h.num Obj.ccSlices
    let w := 2 ^ 32 / sl
    let shifted := (ph + 2 ^ 96 - off)
    let c' := shifted / 2 ^ 32
    (c' * sl + min (sl - 1) (shifted % 2 ^ 32 / w)) % 2 ^ 32

/-- UTC offset in use: TAI − UTC in s (R41, R47). -/
def Hub.utcOffsetInUse (h : Hub) : Int :=
  if h.flag Obj.utcOffsetKnown then toSigned 16 (h.num Obj.utcOffset) else toSigned 16 (h.num Obj.utcOffsetDefault)

end Sys2Proof.Machine
end

