-- ==== Sys2Proof/Machine/QueueCore.lean ====
section
/-!
DEFINITION. The parts of the hardware queues that notices stand on: the state of a queue, MSI-X messages (R207, R235), LEVEL
(R233), and putting a packet into a D2H queue (R220, R221, R229). Watermark crossings are answered to the caller, which raises
the notices.
-/
namespace Sys2Proof.Machine

/-- The state of queue `q`. -/
def Hub.queue (h : Hub) (q : Nat) : QState := SMap.get (fun _ => {}) h.host.queues q

/-- Store the state of queue `q`. -/
def Hub.setQueue (h : Hub) (q : Nat) (s : QState) : Hub :=
  { h with host := { h.host with queues := SMap.set (fun _ => {}) h.host.queues q s } }

/-- Whether a queue runs: it is ON, and no hub fault has stopped it; queue 63 goes on (R488). -/
def Hub.qOn (h : Hub) (q : Nat) : Bool := h.isOn (fidQueue q) && (q == 63 || !h.flag Obj.hubFault)

/-- Whether a queue still processes what it has taken: it runs, or drains after a disable (R33). -/
def Hub.qSends (h : Hub) (q : Nat) : Bool := h.sends (fidQueue q) && (q == 63 || !h.flag Obj.hubFault)

/-- Direction D2H; queue 63 is always D2H PACKET (R216, R240). -/
def Hub.isD2H (h : Hub) (q : Nat) : Bool := q == 63 || h.num (Obj.qDirection q) == 1
/-- Mode WORD. -/
def Hub.isWord (h : Hub) (q : Nat) : Bool := h.num (Obj.qMode q) == 1
/-- Kind BULK. -/
def Hub.isBulk (h : Hub) (q : Nat) : Bool := q != 63 && h.num (Obj.qKind q) == 1

/-! Error reporting of the endpoint (R209). The bits are those of the PCI Express specification (log entry 94). -/

def aerPoisoned : Nat := 12
def aerTimeout : Nat := 14
def aerAbort : Nat := 15
def aerUnsupported : Nat := 20

/-- Words of configuration space that a write may change (R204, R205, R209), with their value after reset and the bits a write takes; places, and
values after reset, are those of the PCI Express specification (log entry 94). -/
def configRw : List (Nat × Nat × Nat) :=
  [(0x04, 0, 0x542), (0x10, 0x4, 0xFF000000), (0x14, 0, 0xFFFFFFFF), (0x18, 0xC, 0xC0000000), (0x1C, 0, 0xFFFFFFFF), (0x20, 0xC, 0xFFE00000),
   (0x24, 0, 0xFFFFFFFF), (0x44, 0, 3), (0x58, 0x2810, 0x79FF), (0x108, 0x400000, 0x7FFF030), (0x10C, 0x462030, 0x7FFF030),
   (0x114, 0xE000, 0xF1C1), (0x118, 0xA0, 0x140)]

/-- A writable word of configuration space as it stands. -/
def Hub.configReg (h : Hub) (off : Nat) : Nat :=
  match configRw.find? (fun r => r.1 == off) with
  | some r => SMap.get (fun _ => r.2.1) h.host.config off
  | none => 0

/-- The endpoint is in D0, not in D3hot (R204). -/
def Hub.inD0 (h : Hub) : Bool := h.configReg 0x44 % 4 != 3

/-- The hub may act as requester (R204, R207): Bus Master Enable is set, in D0. -/
def Hub.canRequest (h : Hub) : Bool := h.host.busMaster && h.inD0

/-- An error is recorded in the AER status registers, an advisory one in both; the first one that is not masked is logged with its header (R209). -/
def Hub.aer (h : Hub) (bit : Nat) (advisory : Bool) : Hub :=
  let first := h.host.aerUncor == 0 && !(h.configReg 0x108).testBit bit && !(advisory && (h.configReg 0x114).testBit 13)
  { h with host := { h.host with
    aerUncor := setBit h.host.aerUncor bit, aerCor := if advisory then setBit h.host.aerCor 13 else h.host.aerCor
    firstError := if first then bit else h.host.firstError, headers := h.host.headers + b2n first } }

/-- Complete a host request with Completer Abort (R141, R157, R209). -/
def Hub.completerAbort (h : Hub) : Hub := (h.aer aerAbort true).emit .hostAbort

/-- Answer a host request outside what the endpoint serves with Unsupported Request (R209). -/
def Hub.unsupported (h : Hub) : Hub := (h.aer aerUnsupported true).emit .hostUnsupported

/-- Send a request to the host, or keep it while Bus Master Enable is clear (R207, R208). -/
def Hub.emitHost (h : Hub) (o : Out) : Hub :=
  if h.canRequest then h.emit o else { h with host := { h.host with deferred := h.host.deferred ++ [o] } }

/-- Read host memory (R204, R207): at most 256 reads are outstanding, and a further one waits. -/
def Hub.askHost (h : Hub) (addr len : Nat) : Hub :=
  if h.canRequest = false then { h with host := { h.host with deferred := h.host.deferred ++ [.hostRead addr len] } }
  else if h.host.outstanding < 256 then
    ({ h with host := { h.host with outstanding := h.host.outstanding + 1 } }).emit (.hostRead addr len)
  else { h with host := { h.host with readQueue := h.host.readQueue ++ [(addr, len)] } }

/-- A read of the hub has ended (R204): the oldest that waits takes its place. -/
def Hub.readEnded (h : Hub) : Hub :=
  let h := { h with host := { h.host with outstanding := h.host.outstanding - 1 } }
  match h.host.readQueue with
  | [] => h
  | (a, n) :: rs => ({ h with host := { h.host with readQueue := rs } }).askHost a n

/-- A read of the hub has ended, perhaps badly (R209): how, as the endpoint reports it. -/
def Hub.readFault (h : Hub) (r : ReadEnd) : Hub :=
  (match r with
   | .data => h
   | .poisoned => h.aer aerPoisoned false
   | .unsupported => { h with host := { h.host with pciStatus := setBit h.host.pciStatus 13 } }
   | .aborted => { h with host := { h.host with pciStatus := setBit h.host.pciStatus 12 } }).readEnded

/-- A word of the MSI-X table (R211, R212): 0 and 1 address, 2 data, 3 vector control with the vector's mask. -/
def Hub.msixWord (h : Hub) (v k : Nat) : Nat :=
  if k = 3 then b2n (h.host.vectorMask.contains v) else SMap.get (fun _ => 0) h.host.msixTable (4 * v + k)

/-- The message of a vector. -/
def Hub.msixMessage (h : Hub) (v : Nat) : Out := .msix v (h.msixWord v 0 + h.msixWord v 1 * 2 ^ 32) (h.msixWord v 2)

/-- Send a vector, or record it in the pending bit array (R207); behind writes that wait for Bus Master Enable (R208). -/
def Hub.vector (h : Hub) (v : Nat) : Hub :=
  if h.host.msixEnable && !h.host.functionMask && !h.host.vectorMask.contains v then
    if h.host.deferred.isEmpty || h.canRequest then h.emit (h.msixMessage v)
    else { h with host := { h.host with deferred := h.host.deferred ++ [h.msixMessage v] } }
  else if h.host.pba.contains v then h
  else { h with host := { h.host with pba := v :: h.host.pba } }

/-- An event of queue `q` under irq-mode (R235); `now_` marks a completion with IRQ set, which sends its message at once. -/
def Hub.queueEvent (h : Hub) (q : Nat) (now_ : Bool) : Hub :=
  let m := h.num (Obj.irqMode q)
  let s := h.queue q
  if m = 0 then h
  else if m = 1 then h.vector q
  else if now_ || s.irqGathered + 1 ≥ h.num (Obj.irqBatch q) then (h.setQueue q { s with irqGathered := 0 }).vector q
  else h.setQueue q { s with irqGathered := s.irqGathered + 1 }

/-- LEVEL of queue `q` (R233). -/
def Hub.qLevel (h : Hub) (q : Nat) : Nat :=
  let s := h.queue q
  if h.isD2H q then
    if h.isWord q then s.items.length else (s.pidxAcc + 65536 - s.cidx) % 65536
  else (s.posted + 2 ^ 32 - s.released) % 2 ^ 32

/-- After a change of LEVEL from `old`: store level, latch the first crossing of each mark, and answer which marks latched
(R233: high, low). -/
def Hub.crossings (h : Hub) (q old : Nat) : Hub × Bool × Bool :=
  let new := h.qLevel q
  let hi := h.num (Obj.wmHigh q)
  let lo := h.num (Obj.wmLow q)
  let s := h.queue q
  let hiX := decide (hi ≠ 0xFFFF ∧ old < hi ∧ hi ≤ new) && !s.wmHighSticky
  let loX := decide (lo ≠ 0xFFFF ∧ lo < old ∧ new ≤ lo) && !s.wmLowSticky
  let h := h.setNum (Obj.level q) new
  let h := if hiX then (((h.setNum (Obj.wmHighLevel q) new).setNum (Obj.wmHighLtc q) h.now).setQueue q
      { h.queue q with wmHighSticky := true }) else h
  let h := if loX then (((h.setNum (Obj.wmLowLevel q) new).setNum (Obj.wmLowLtc q) h.now).setQueue q
      { h.queue q with wmLowSticky := true }) else h
  (h, hiX, loX)

/-- The 64-bit word of an item (R224). -/
def QItem.word (i : QItem) : Nat :=
  2 ^ 63 + b2n i.sop * 2 ^ 62 + b2n i.eop * 2 ^ 61 + b2n i.err * 2 ^ 60
    + (if i.eop then i.data.length * 2 ^ 56 else 0) + leNat i.data

/-- Items a D2H word queue still has room for. -/
def Hub.wordRoom (h : Hub) (q : Nat) : Nat := h.num (Obj.qDepth q) - (h.queue q).items.length

/-- The objects of a key list that hold a pending RWB value take it (R23, R424). -/
def Hub.applyRwb (h : Hub) (keys : List Nat) : Hub :=
  let take := h.rwb.filter (fun p => keys.contains p.1)
  let h := { h with rwb := h.rwb.filter (fun p => !keys.contains p.1) }
  take.foldl (fun h p => h.setObj p.1 p.2) h

/-! ### Pointers (R231) -/

/-- Advance the write pointer: the true and the inverted copy each by itself. -/
def QState.post (s : QState) (n : Nat) : QState :=
  { s with posted := (s.posted + n) % 2 ^ 32, invPosted := (s.invPosted + 2 ^ 32 - n % 2 ^ 32) % 2 ^ 32 }

/-- Advance the read pointer. -/
def QState.take (s : QState) (n : Nat) : QState :=
  { s with released := (s.released + n) % 2 ^ 32, invReleased := (s.invReleased + 2 ^ 32 - n % 2 ^ 32) % 2 ^ 32 }

/-- Whether both copies of both pointers agree. -/
def QState.copiesAgree (s : QState) : Bool :=
  s.posted + s.invPosted == 2 ^ 32 - 1 && s.released + s.invReleased == 2 ^ 32 - 1

/-- The inbox of the command dispatcher. -/
def inboxCmd : Nat := 0x400

/-- Write the credit word now (R228): an event of the queue (R235). -/
def Hub.creditWordNow (h : Hub) (q : Nat) : Hub :=
  if h.num (Obj.creditMode q) = 1 ∧ h.isD2H q = false then
    let h := h.emitHost (.hostWrite (h.num (Obj.creditWord q)) (leBytes 8 (h.queue q).released))
    (h.setQueue q { h.queue q with creditDue := 0 }).queueEvent q false
  else h

/-- Packets of a queue that wait at switch port 16 or for the command dispatcher, taken out, with the others left in order. -/
def Hub.dropWaiting (h : Hub) (q : Nat) : List SwPacket × Hub :=
  let l := SMap.get (fun _ => []) h.sw.inputs 16
  let c := SMap.get (fun _ => []) h.sw.delivered inboxCmd
  (l.filter (fun p => p.queue == q + 1)
    ++ (c.filter (fun d => d.queue == q + 1)).map (fun d => { data := d.data, queue := d.queue, credits := d.credits, descs := d.descs }),
   { h with sw := { h.sw with
      inputs := SMap.set (fun _ => []) h.sw.inputs 16 (l.filter (fun p => p.queue != q + 1))
      delivered := SMap.set (fun _ => []) h.sw.delivered inboxCmd (c.filter (fun d => d.queue != q + 1)) } })

/-- The items that a mismatch of a queue's pointer copies loses, and whether the count is exact (R231 step 4). -/
def Hub.ptrLost (h : Hub) (q : Nat) : Nat × Bool :=
  let s := h.queue q
  let diff := (s.posted + 2 ^ 32 - s.released) % 2 ^ 32
  if diff ≤ h.num (Obj.qDepth q) then (diff, true) else (h.num (Obj.qDepth q), false)

/-- A mismatch of the two copies of a pointer empties the queue (R231), but for the notice; at port 16 only an H2D queue's packets wait. -/
def Hub.ptrClear (h : Hub) (q : Nat) : Hub :=
  let s := h.queue q
  let lost := (h.ptrLost q).1
  let h := if h.isD2H q then h else (h.dropWaiting q).2
  let h := h.setQueue q { s with
    items := [], held := 0, rest := none, openData := [], openN := 0, isOpen := false, ctOut := false, oversized := false,
    descs := [], bufs := [], cidx := s.pidxAcc, fetchIdx := s.pidxAcc, reqIdx := s.pidxAcc, openIdx := [], fetchOpen := false,
    staleFetch := s.staleFetch + (s.reqIdx + 65536 - s.fetchIdx) % 65536, reads := s.reads.map (fun _ => 65536),
    released := s.posted, invPosted := 2 ^ 32 - 1 - s.posted, invReleased := 2 ^ 32 - 1 - s.posted,
    dropToEop := s.isOpen || s.fetchOpen || s.dropToEop || (match s.rest with | some r => !r.ended | none => false),
    flushing := false, flushCount := 0, ptrFault := true, mid := false, bulkMarkers := [], bulkResent := false }
  ((h.countN (Obj.itemsLost q) lost).count (Obj.ptrFaults q)).creditWordNow q

/-! ### D2H: a packet arrives (R220, R221, R229, R230) -/

/-- Write the completion of a D2H buffer (R221): bytes 16 to 31 of the slot. -/
def Hub.completeD2H (h : Hub) (q idx : Nat) (sop eop err : Bool) (stamp : Option Nat) (status bytes inPort route : Nat) : Hub :=
  let slot := h.num (Obj.descBase q) + 32 * (idx % h.num (Obj.qDepth q))
  let w := 2 ^ 31 + b2n sop * 2 ^ 30 + b2n eop * 2 ^ 29 + b2n err * 2 ^ 28 + b2n stamp.isSome * 2 ^ 27 + status * 65536
    + bytes % 65536
  let h := h.emitHost (.hostWrite (slot + 16)
    (leBytes 8 (stamp.getD 0) ++ leBytes 4 w ++ leBytes 4 (inPort * 65536 + route)))
  (h.setQueue q { (h.queue q).take 1 with cidx := (idx + 1) % 65536 }).count (Obj.itemsOut q)

/-- Complete the grants at the head that carry a failure STATUS (R221): they hold no data. -/
def Hub.badGrants (h : Hub) (q : Nat) : Nat → Hub
  | 0 => h
  | fuel + 1 =>
    match (h.queue q).bufs with
    | (idx, none, st) :: bs =>
      ((h.setQueue q { h.queue q with bufs := bs }).completeD2H q idx false false false none st 0 0 0).badGrants q fuel
    | _ => h

/-- Whether what is left of a packet fills a place of `n` octets that is not its last one (R229): octets beyond it are there, or are known to follow. -/
def QRest.fills (r : QRest) (hold n left : Nat) : Bool := decide (n < left) || (n == left && r.more && hold == 0)

/-- Fill granted buffers with the packet that is being placed, while data and buffers last (R220, R229); `fuel` bounds the number of
buffers. A buffer is completed when it is full or the packet has ended. -/
def Hub.fillBuffers (h : Hub) (q hold : Nat) : Nat → Hub
  | 0 => h
  | fuel + 1 =>
    let h := h.badGrants q ((h.queue q).bufs.length)
    let s := h.queue q
    match s.rest, s.bufs with
    | some r, (idx, some addr, _) :: bs =>
      let n := h.num (Obj.bufferSize q)
      let left := r.data.length - (if r.ended then 0 else hold) - r.placed
      if !r.avail then h
      else if r.fills hold n left then
        let h := h.emitHost (.hostWrite addr (slice r.data r.placed n))
        let h := h.completeD2H q idx (r.placed == 0) false false (if r.placed = 0 then r.stamp else none) 0 n r.inPort r.route
        (h.setQueue q { h.queue q with bufs := bs, rest := some { r with placed := r.placed + n } }).fillBuffers q hold fuel
      else if r.ended then
        let h := h.emitHost (.hostWrite addr (slice r.data r.placed left))
        let h := h.completeD2H q idx (r.placed == 0) true r.err (if r.placed = 0 then r.stamp else none) 0 left r.inPort r.route
        (h.setQueue q { h.queue q with bufs := bs, rest := none }).queueEvent q false
      else h
    | _, _ => h

/-- Append an item to a D2H word queue. -/
def Hub.pushItem (h : Hub) (q : Nat) (i : QItem) : Hub :=
  (h.setQueue q { (h.queue q).post 1 with items := (h.queue q).items ++ [i], held := (h.queue q).held + 1 }).count (Obj.itemsIn q)

/-- Turn the packet being placed into items of seven octets (R224); the last one carries EOP. -/
def Hub.placeItems (h : Hub) (q hold : Nat) : Nat → Hub
  | 0 => h
  | fuel + 1 =>
    match (h.queue q).rest with
    | none => h
    | some r =>
      let left := r.data.length - (if r.ended then 0 else hold) - r.placed
      if r.fills hold 7 left then
        let h := h.pushItem q { sop := r.placed == 0, eop := false, err := false, data := slice r.data r.placed 7 }
        (h.setQueue q { h.queue q with rest := some { r with placed := r.placed + 7 } }).placeItems q hold fuel
      else if r.ended then
        let e := r.err || left == 0
        let h := h.pushItem q { sop := r.placed == 0, eop := true, err := e, data := slice r.data r.placed left }
        h.setQueue q { h.queue q with rest := none }
      else h

/-- A packet starts at a D2H queue (R229: a new ct-thresh applies from here). -/
def Hub.d2hStart (h : Hub) (q inPort route : Nat) (stamp : Option Nat) : Hub :=
  let h := h.applyRwb [Obj.ctThresh q]
  h.setQueue q { h.queue q with
    rest := some { data := [], ct := h.num (Obj.ctThresh q), stamp := stamp, inPort := inPort, route := route } }

/-- The check profile of a D2H queue; queue 63 carries no check (R463). -/
def Hub.d2hProfile (h : Hub) (q : Nat) : Option Profile := if q = 63 then none else h.profile (h.num (Obj.crcProfile q))

/-- The packet being received grows, or ends (R229, R230, R463, R464). An error before the packet has become available discards it
whole; the octets of the check value are held back until the end, and stripped. `more`: further octets are known to follow; `pre`: the packet is
available by what waits at port 16 (R220). -/
def Hub.d2hData (h : Hub) (q : Nat) (data : List Byte) (ended err more pre : Bool) : Hub :=
  match (h.queue q).rest with
  | none => h
  | some r =>
    let all := r.data ++ data
    let hold := ((h.d2hProfile q).map Profile.size).getD 0
    let (bad, all) := if ended && !err then
        match h.d2hProfile q with
        | some p => let (ok, d) := p.check all; (!ok, d)
        | none => (false, all)
      else (false, all)
    let h := h.when bad (fun h => h.count Obj.inlineCheckFailures)
    let err := err || bad
    let h := h.when (ended && err) (fun h => h.count (Obj.qErrTerminated q))
    let ct := decide (r.ct ≠ 0 ∧ r.ct ≤ all.length)
    let avail := r.avail || ct || pre || (ended && !err)
    if ended && err && !avail then
      let s := h.queue q
      h.setQueue q { s.take s.held with items := s.items.take (s.items.length - s.held), held := 0, rest := none }
    else
      let h := h.setQueue q { h.queue q with rest := some { r with data := all, ended := ended, err := err, avail := avail, more := more } }
      if h.isWord q then
        let h := h.placeItems q hold (all.length + 1)
        if avail then
          let h := h.setQueue q { h.queue q with held := 0 }
          h.when (!r.avail) (fun h => h.queueEvent q false)
        else h
      else h.fillBuffers q hold ((h.queue q).bufs.length + 1)

/-- Put a whole packet into a D2H queue. -/
def Hub.putPacket (h : Hub) (q : Nat) (data : List Byte) (err : Bool) (stamp : Option Nat) (inPort route : Nat) : Hub :=
  (h.d2hStart q inPort route stamp).d2hData q data true err false false

/-- Whether a D2H queue can take a packet now (R228): free items for all of it, or one free granted buffer and no packet waiting. -/
def Hub.canTake (h : Hub) (q len : Nat) : Bool :=
  if h.isWord q then decide ((len + 6) / 7 ≤ h.wordRoom q) else !(h.queue q).bufs.isEmpty && (h.queue q).rest.isNone

end Sys2Proof.Machine
end

