-- ==== Sys2Proof/Machine/Notices.lean ====
section
/-!
DEFINITION. Raising a notice (R236 to R238, R497, R499, R596, R621): the record, its sequence number, queue 63, the pending bits and
their MSI-X vectors, the records that are lost, and those the keeper holds at start.
-/
namespace Sys2Proof.Machine

/-- An argument word of a notice: unsigned, saturating at 0xFFFF_FFFF (R621). -/
def argSat (n : Nat) : Nat := min n 0xFFFFFFFF

/-- A signed argument word. -/
def argInt (i : Int) : Nat := ofSigned 32 i

/-- A 64-bit argument: two words, low first (R621). -/
def arg64 (n : Nat) : List Nat := [n % 2 ^ 32, n / 2 ^ 32 % 2 ^ 32]

/-- The 32 octets of a record (R236). -/
def noticeRecord (n : Notice) (seq nodeId : Nat) : List Byte :=
  leBytes 4 (n.code * 65536 + n.code / 256 % 256 * 256 + n.args.length) ++ leBytes 4 seq
    ++ leBytes 4 (nodeId * 2 ^ 24 + n.fid) ++ leBytes 8 n.stamp
    ++ leBytes 4 (n.args.getD 0 0) ++ leBytes 4 (n.args.getD 1 0) ++ leBytes 4 (n.args.getD 2 0)

/-- Set PEND of a class; a bit that goes from 0 to 1 sends vector 64 + class (R238). -/
def Hub.pend (h : Hub) (cls : Nat) : Hub :=
  if h.host.npend.testBit cls then h
  else ({ h with host := { h.host with npend := setBit h.host.npend cls } }).vector (64 + cls)

/-- Write one record into queue 63 with its number, and set PEND; the marks of queue 63 that latch with it (R233). -/
def Hub.recordCore (h : Hub) (n : Notice) (seq : Nat) : Hub × Bool × Bool :=
  let rec_ := noticeRecord n seq (h.num Obj.nodeIdInUse)
  let old := h.qLevel 63
  let h := h.putPacket 63 rec_ false none 16 0
  let h := { h with host := { h.host with nseq := seq } }
  let h := h.setOct Obj.newestNotice rec_
  let r := h.crossings 63 old
  (r.1.pend (n.code / 256), r.2)

/-- Whether queue 63 is ON and has room for one record. -/
def Hub.noticeRoom (h : Hub) : Bool := h.isOn (fidQueue 63) && h.canTake 63 32

/-- Queue 63 is ON in DESCRIPTOR mode and cannot fetch its grants, for Bus Master Enable is clear: nothing counts as lost (R207). -/
def Hub.noticeWaits (h : Hub) : Bool := h.isOn (fidQueue 63) && !h.isWord 63 && !h.canRequest

/-- A record is written by `w`, waits for Bus Master Enable (R207), or is lost; PEND is set when it is written or lost (R238). -/
def Hub.deliverBy (h : Hub) (w : Hub → Hub) (n : Notice) (seq : Nat) : Hub :=
  if h.host.backlog.isEmpty && h.noticeRoom then w h
  else if h.noticeWaits || (!h.host.backlog.isEmpty && h.isOn (fidQueue 63)) then
    { h with host := { h.host with backlog := h.host.backlog ++ [(n, seq)] } }
  else
    ({ h with host := { h.host with nlost := satAdd (maxWord 32) h.host.nlost 1, lostRun := h.host.lostRun + 1 } }).pend
      (n.code / 256)

/-- A notice that the writing of a record into queue 63 itself raises (R231, R233, R239): numbered, and written behind it. -/
def Hub.ownNotice (h : Hub) (code : Nat) (args : List Nat) : Hub :=
  if !(h.num Obj.classMask).testBit (code / 256) then h.count Obj.noticesSuppressed
  else
    let n : Notice := { code := code, fid := fidQueue 63, args := args, stamp := h.stamp .H }
    let seq := h.host.nextSeq % 2 ^ 32
    let h := (h.count Obj.noticesRaised)
    ({ h with host := { h.host with nextSeq := h.host.nextSeq + 1 } }).deliverBy (fun h => (h.recordCore n seq).1) n seq

/-- Write one record into queue 63 (R236): the marks that latch are told, and the pointer copies compared (R231, R233). -/
def Hub.writeRecord (h : Hub) (n : Notice) (seq : Nat) : Hub :=
  let r := h.recordCore n seq
  let h := r.1.when r.2.1 (fun h => h.ownNotice N.queueWmHigh [63, h.num (Obj.wmHighLevel 63)])
  let h := h.when r.2.2 (fun h => h.ownNotice N.queueWmLow [63, h.num (Obj.wmLowLevel 63)])
  if (h.queue 63).copiesAgree then h
  else
    let l := h.ptrLost 63
    (h.ptrClear 63).ownNotice N.queuePtrFault [63, l.1, b2n l.2]

/-- Write records that waited for Bus Master Enable while queue 63 has room, oldest first. -/
def Hub.flushBacklog (h : Hub) : Nat → Hub
  | 0 => h
  | fuel + 1 =>
    match h.host.backlog with
    | [] => h
    | (n, seq) :: l =>
      if h.noticeRoom then (({ h with host := { h.host with backlog := l } }).writeRecord n seq).flushBacklog fuel else h

/-- When queue 63 has room again, the records that wait are written, and the first record after a loss is NOTICE_OVERFLOW with the number lost
(R207, R238). -/
def Hub.overflowNow (h : Hub) : Hub :=
  let h := h.flushBacklog h.host.backlog.length
  if h.host.lostRun ≠ 0 && h.noticeRoom then
    let o : Notice := { code := N.noticeOverflow, fid := fidQueue 63, args := [argSat h.host.lostRun], stamp := h.stamp .H }
    let seq := h.host.nextSeq % 2 ^ 32
    let h := { h with host := { h.host with lostRun := 0, nextSeq := h.host.nextSeq + 1 } }
    h.writeRecord o seq
  else h

/-- Write a record with its number, or lose it (R238). -/
def Hub.deliverNotice (h : Hub) (n : Notice) (seq : Nat) : Hub := h.deliverBy (fun h => h.writeRecord n seq) n seq

/-- Give a record the next number and write it, after the record that reports those lost before it (R236, R238). -/
def Hub.numberNotice (h : Hub) (n : Notice) : Hub :=
  let h := h.overflowNow
  let seq := h.host.nextSeq % 2 ^ 32
  ({ h with host := { h.host with nextSeq := h.host.nextSeq + 1 } }).deliverNotice n seq

/-- Whether a notice is held until queue 63 first enters ON (R596): HUB_FAULT_PREVIOUS and classes 14, 16 and 17. -/
def Hub.holds (h : Hub) (code : Nat) : Bool :=
  !h.host.heldDone && (code == N.hubFaultPrevious || code / 256 == 14 || code / 256 == 16 || code / 256 == 17)

/-- Hold a notice; at most 64 are held, a further one is lost (R596). -/
def Hub.holdNotice (h : Hub) (n : Notice) : Hub :=
  if h.host.held.length < 64 then { h with host := { h.host with held := h.host.held ++ [n] } }
  else { h with host := { h.host with nlost := satAdd (maxWord 32) h.host.nlost 1, lostRun := h.host.lostRun + 1 } }

/-- Hold a notice, or give it its number and write it. -/
def Hub.placeNotice (h : Hub) (n : Notice) : Hub := if h.holds n.code then h.holdNotice n else h.numberNotice n

/-- Raise a notice with a stamp: masked classes are counted and go no further (R499). -/
def Hub.noticeStamped (h : Hub) (code fid stamp : Nat) (args : List Nat) : Hub :=
  if !(h.num Obj.classMask).testBit (code / 256) then h.count Obj.noticesSuppressed
  else
    let h := h.count Obj.noticesRaised
    let n : Notice := { code := code, fid := fid, args := args, stamp := stamp }
    match h.host.batch with
    | some l => { h with host := { h.host with batch := some (l ++ [n]) } }
    | none => h.placeNotice n

/-- The place of a notice in its cycle (R236): CLASS, then FUNC_ID. -/
def Notice.rank (n : Notice) : Nat := n.code / 256 * 65536 + n.fid

/-- A notice put behind those of its cycle that rank no higher (R236). -/
def insertNotice (n : Notice) : List Notice → List Notice
  | [] => [n]
  | m :: l => if n.rank < m.rank then n :: m :: l else m :: insertNotice n l

/-- What happens in one cycle, its notices written in ascending CLASS, then ascending FUNC_ID (R236). -/
def Hub.inOrder (h : Hub) (f : Hub → Hub) : Hub :=
  match h.host.batch with
  | some _ => f h
  | none =>
    let h := f { h with host := { h.host with batch := some [] } }
    let l := (h.host.batch.getD []).foldl (fun l n => insertNotice n l) []
    l.foldl Hub.placeNotice { h with host := { h.host with batch := none } }

/-- Raise a notice of hardware, with a class-H stamp of now. -/
def Hub.notice (h : Hub) (code fid : Nat) (args : List Nat) : Hub := h.noticeStamped code fid (h.stamp .H) args

/-- Raise a notice of keeper firmware, with a class-S stamp of now. -/
def Hub.noticeS (h : Hub) (code fid : Nat) (args : List Nat) : Hub := h.noticeStamped code fid (h.stamp .S) args

/-- Write the held records, oldest first, each taking its number as it is written (R596). -/
def Hub.releaseHeldList (h : Hub) : List Notice → Hub
  | [] => h
  | n :: ns => (h.numberNotice n).releaseHeldList ns

/-- Release every held record. -/
def Hub.releaseHeld (h : Hub) : Hub :=
  ({ h with host := { h.host with held := [], heldDone := true } }).releaseHeldList h.host.held

/-- The notices of the marks that latched at a change of LEVEL (R233, R239). -/
def Hub.afterLevel (h : Hub) (q old : Nat) : Hub :=
  let (h, hi, lo) := h.crossings q old
  let h := h.when hi (fun h => h.notice N.queueWmHigh (fidQueue q) [q, h.num (Obj.wmHighLevel q)])
  h.when lo (fun h => h.notice N.queueWmLow (fidQueue q) [q, h.num (Obj.wmLowLevel q)])

end Sys2Proof.Machine
end

