-- ==== Sys2Proof/Machine/QueueDone.lean ====
section
/-!
DEFINITION. The hardware queues' credits, pointer protection and descriptor completions (R221, R227, R228, R231): what a fence that ends
and a packet that leaves both need.
-/
namespace Sys2Proof.Machine

/-! ### Credits and pointers -/

/-- A mismatch of the two copies of a pointer (R231), and its notice. -/
def Hub.ptrFault (h : Hub) (q : Nat) : Hub :=
  let old := h.qLevel q
  let l := h.ptrLost q
  ((h.ptrClear q).notice N.queuePtrFault (fidQueue q) [q, l.1, b2n l.2]).afterLevel q old

/-- The comparison at every update of a pointer of a queue that is ON (R231). -/
def Hub.checkPtr (h : Hub) (q : Nat) : Hub :=
  if h.qOn q && !(h.queue q).copiesAgree then h.ptrFault q else h

/-- Release credits of an H2D queue (R227, R228). -/
def Hub.release (h : Hub) (q n : Nat) : Hub :=
  if n = 0 then h
  else
    let old := h.qLevel q
    let h := h.setQueue q { (h.queue q).take n with creditDue := (h.queue q).creditDue + n }
    let h := h.when (decide (h.num (Obj.creditBatch q) ≤ (h.queue q).creditDue)) (fun h => h.creditWordNow q)
    (h.afterLevel q old).checkPtr q

/-! ### Descriptors -/

/-- The descriptors of a list are done, with a STATUS and BYTES; `drainDescs` completes them in order. -/
def markDone (status bytes : QDesc → Nat) (noEcho : Bool) (ids : List Nat) (ds : List QDesc) : List QDesc :=
  ds.map (fun d => if ids.contains d.idx && d.done.isNone then
    { d with done := some (status d, bytes d), echo := if noEcho && d.echo.isNone then some 3 else d.echo } else d)

/-- REPORT of a descriptor with FENCE (R221, R223, R153). -/
def Hub.fenceReport (h : Hub) (q : Nat) : Nat :=
  let s := h.queue q
  if h.isBulk q then
    b2n s.bulkInc * 2 ^ 22 + b2n (s.bulkEpoch != h.num Obj.orderingEpoch) * 2 ^ 21 + min 0xFFFF s.bulkFaulted
  else min 0xFFFF s.admDrops

/-- Write the completion of an H2D descriptor (R208, R221, R235): bytes 24 to 31, and bytes 16 to 23 with ECHO. -/
def Hub.completeH2D (h : Hub) (q : Nat) (d : QDesc) (status bytes : Nat) : Hub :=
  let slot := h.num (Obj.descBase q) + 32 * (d.idx % h.num (Obj.qDepth q))
  let fence := d.flags.testBit 2
  let tail := leBytes 4 (2 ^ 31 + status * 65536 + bytes % 65536) ++ leBytes 4 (if fence then h.fenceReport q else 0)
  let h := if d.flags.testBit 5 && !h.isBulk q then h.emitHost (.hostWrite (slot + 16) (leBytes 8 (d.echo.getD 3) ++ tail))
    else h.emitHost (.hostWrite (slot + 24) tail)
  let h := h.setQueue q { h.queue q with cidx := (d.idx + 1) % 65536 }
  let h := h.when fence (fun h => h.setQueue q { h.queue q with
    admDrops := 0, bulkFaulted := 0, bulkEpoch := h.num Obj.orderingEpoch, bulkInc := false })
  ((h.count (Obj.itemsOut q)).release q 1).when (d.flags.testBit 6) (fun h => h.queueEvent q true)

/-- Complete the descriptors at the head that are done, in index order (R221); ECHO waits for the departure (R357), a BULK fence for its
markers (R223). -/
def Hub.drainDescs (h : Hub) (q : Nat) : Nat → Hub
  | 0 => h
  | fuel + 1 =>
    match (h.queue q).descs with
    | [] => h
    | d :: ds =>
      match d.done with
      | none => h
      | some (st, n) =>
        if (d.flags.testBit 5 && !h.isBulk q && d.echo.isNone && st == 0) || d.fence != 0 then h
        else ((h.setQueue q { h.queue q with descs := ds }).completeH2D q d st n).drainDescs q fuel

def Hub.drain (h : Hub) (q : Nat) : Hub := h.drainDescs q ((h.queue q).descs.length)

/-- Mark descriptors as done with a status and drain. -/
def Hub.finishDescs (h : Hub) (q : Nat) (ids : List Nat) (status : Nat) (sent noEcho : Bool) : Hub :=
  (h.setQueue q { h.queue q with
    descs := markDone (fun _ => status) (fun d => if sent then d.len else 0) noEcho ids (h.queue q).descs }).drain q

end Sys2Proof.Machine
end

