-- ==== Sys2Proof/Machine/Wire.lean ====
section
/-!
DEFINITION. A ring frame on the wire (R88, R89, R92, R93): the header's bits, the trailer and its check, and the blocks of a lane.
-/
namespace Sys2Proof

open Sys2Proof.Machine

/-- The result of the trailer check of a received ring frame (R92, R93): it matches; it equals the inverse of the computed value; or
it fails otherwise. -/
inductive Crc where
  | ok | stomped | bad
deriving DecidableEq, Repr

/-- The 128 bits of the header, bit 127 the most significant bit of byte 0 (R89). -/
def RingFrame.headerBits (f : RingFrame) : Nat :=
  f.dst % 128 * 2 ^ 121 + f.src % 128 * 2 ^ 114 + f.cls % 8 * 2 ^ 111 + f.path % 4 * 2 ^ 109 + f.hops % 128 * 2 ^ 102 + f.type % 64 * 2 ^ 96
    + f.epoch % 4 * 2 ^ 94 + b2n f.stamp * 2 ^ 93 + f.payload.length % 8192 * 2 ^ 80 + f.seq % 65536 * 2 ^ 64 + f.tag % 65536 * 2 ^ 48
    + f.claim % 2 ^ 32 * 2 ^ 16 + b2n f.wrap * 2 ^ 15

/-- The 16 octets of the header, big-endian (R16, R89). -/
def RingFrame.header (f : RingFrame) : List Byte := beBytes 16 f.headerBits

/-- A frame from the 16 octets of a header and its payload. -/
def RingFrame.ofHeader (hd payload : List Byte) : RingFrame :=
  let n := beNat hd
  { dst := bits n 127 121, src := bits n 120 114, cls := bits n 113 111, path := bits n 110 109, hops := bits n 108 102, type := bits n 101 96,
    epoch := bits n 95 94, stamp := n.testBit 93, seq := bits n 79 64, tag := bits n 63 48, claim := bits n 47 16, wrap := n.testBit 15,
    payload := payload }

/-- The CRC-32C of R92, one of the profiles of R459. -/
def crc32c : Profile := ⟨32, 0x1EDC6F41, 0xFFFFFFFF, true, true, 0xFFFFFFFF⟩

/-- The trailer of header and payload (R92). -/
def RingFrame.trailerOf (f : RingFrame) : Nat := crc32c.value (f.header ++ f.payload)

/-- The bitwise inverse of a trailer (R93). -/
def stompedTrailer (t : Nat) : Nat := 0xFFFFFFFF - t % 2 ^ 32

/-- The check of a received frame's trailer (R92, R93). -/
def RingFrame.crc (f : RingFrame) : Crc :=
  if f.trailer = f.trailerOf then .ok else if f.trailer = stompedTrailer f.trailerOf then .stomped else .bad

/-- Whether a frame came whole: not aborted, with a good trailer. -/
def RingFrame.intact (f : RingFrame) : Bool := !f.aborted && decide (f.crc = .ok)

/-- A frame as it leaves: with its trailer, inverted where the frame came with a failed one (R92, R93), and nothing of the hub's own marks. -/
def RingFrame.sealed (f : RingFrame) : RingFrame :=
  { f with trailer := if f.stomp then stompedTrailer f.trailerOf else f.trailerOf, stomp := false, waited := false, rxAt := 0, frac := 0, rxStamp := none }

/-- A block of a lane (R88). -/
inductive WireBlock where
  /-- The Start control block and its seven data octets. -/
  | start (octets : List Byte)
  | data (octets : List Byte)
  /-- The Terminate control block and the octets that stand before the end. -/
  | terminate (octets : List Byte)
  | idle
deriving DecidableEq, Repr

/-- The octets of a frame as blocks of eight; the Terminate block takes what is left, seven octets at most. -/
def bodyBlocks : Nat → List Byte → List WireBlock
  | 0, bs => [.terminate bs]
  | n + 1, bs => .data (bs.take 8) :: bodyBlocks n (bs.drop 8)

/-- The octets of a frame: header, payload, and the trailer, byte 0 of which carries bits 7 to 0 (R88, R92). -/
def RingFrame.octets (f : RingFrame) : List Byte := f.header ++ f.payload ++ leBytes 4 f.trailer

/-- A frame on the wire, with the Idle block that follows it at least (R88). -/
def RingFrame.blocks (f : RingFrame) : List WireBlock :=
  .start [0x55, 0x55, 0x55, 0x55, 0x55, 0x55, 0xE5] :: bodyBlocks (f.octets.length / 8) f.octets ++ [.idle]

/-- Lane occupancy of a frame in octets: eight for each of its blocks (R88). -/
def RingFrame.occupancy (f : RingFrame) : Nat := 8 * (2 + (f.payload.length + 20 + 1 + 7) / 8)

end Sys2Proof
end

