-- ==== Sys2Proof/Machine/RingCore.lean ====
section
/-!
DEFINITION. The ring interface's shared operations (R85 to R118): directions and the ordering epoch, sequence numbers and windows,
sending a frame into a transmit lane, and the checks and forwarding every received frame meets.
-/
namespace Sys2Proof.Machine

/-! Frame types (R90). -/

def tBcn : Nat := 0x00
def tBrk : Nat := 0x01
def tMgmt : Nat := 0x02
def tTime : Nat := 0x03
def tPhase : Nat := 0x04
def tClaim : Nat := 0x05
def tCmd : Nat := 0x06
def tData : Nat := 0x07
def tRd : Nat := 0x10
def tRdr : Nat := 0x11
def tRdx : Nat := 0x12
def tWrp : Nat := 0x13
def tWrn : Nat := 0x14
def tWack : Nat := 0x15
def tWnak : Nat := 0x16
def tLkrd : Nat := 0x17
def tWrul : Nat := 0x18
def tLkrt : Nat := 0x19

/-- The broadcast id. -/
def broadcastId : Nat := 127

def joinDown : Nat := 0
def joinJoining : Nat := 1
def joinMember : Nat := 2
def joinTransit : Nat := 3

def linkDown : Nat := 0
def linkQualifying : Nat := 1
def linkUp : Nat := 2
def linkRemoteFault : Nat := 3

/-- Index of a ring port's objects: 0 RING-E, 1 RING-W. -/
def portIx (west : Bool) : Nat := b2n west

def Hub.lane (h : Hub) (west : Bool) : Lane := if west then h.ring.laneW else h.ring.laneE

def Hub.setLane (h : Hub) (west : Bool) (l : Lane) : Hub :=
  if west then { h with ring := { h.ring with laneW := l } } else { h with ring := { h.ring with laneE := l } }

/-- The hub's own node id; 0 when it has none. -/
def Hub.self (h : Hub) : Nat := h.num Obj.nodeIdInUse

/-- Whether the hub is a member of the ring. -/
def Hub.isMember (h : Hub) : Bool := h.num Obj.joinState == joinMember

/-- Whether a node is in the member map. -/
def Hub.memberOf (h : Hub) (id : Nat) : Bool := decide (1 ≤ id ∧ id ≤ 64) && (h.num Obj.memberMap).testBit (id - 1)

/-- The members eastward from the steward, without the 0 fill (R102). -/
def Hub.order (h : Hub) : List Nat := ((h.oct Obj.ringOrder).map BitVec.toNat).takeWhile (· != 0)

/-- The members from `a` eastward up to but not including `b`, around the ring; none when either is not listed. -/
def arc (order : List Nat) (a b : Nat) : Option (List Nat) :=
  if order.contains a && order.contains b then
    let rot := order.dropWhile (· != a) ++ order.takeWhile (· != a)
    some (rot.takeWhile (· != b))
  else none

/-- Whether the spans eastward of every member listed are whole. -/
def wholeSpans (breaks : Nat) (ms : List Nat) : Bool := ms.all (fun m => !breaks.testBit (m - 1))

/-- CRC-16 with polynomial 0x1021, initial value 0xFFFF, no reflection, no final XOR (R107). -/
def crc16 (bytes : List Byte) : Nat :=
  bytes.foldl (fun c b =>
    (List.range 8).foldl (fun c _ => if c.testBit 15 then Nat.xor (c * 2 % 65536) 0x1021 else c * 2 % 65536)
      (Nat.xor c (b.toNat * 256))) 0xFFFF

/-- The flow hash (R107). -/
def flowHash (src dst cls label : Nat) : Nat :=
  crc16 [BitVec.ofNat 8 src, BitVec.ofNat 8 dst, BitVec.ofNat 8 cls, BitVec.ofNat 8 (label / 256), BitVec.ofNat 8 label]

/-- What decides directions toward a node: whether each direction reaches it without crossing a broken span, and the span counts. -/
def Hub.reach (h : Hub) (dst : Nat) : Bool × Bool × Nat × Nat :=
  let e := (arc h.order h.self dst).getD []
  let w := (arc h.order dst h.self).getD []
  (wholeSpans (h.num Obj.breakMap) e, wholeSpans (h.num Obj.breakMap) w, e.length, w.length)

/-- The direction of a flow to a node by its hash bit (R107, R108): true west; none when the node is absent or no direction reaches it, or the hub has no id.
DESIGN CHOICE (log entry 96): a hub that joins again with its id (R99) goes on to insert under it. -/
def Hub.directionBy (h : Hub) (dst : Nat) (hash : Bool) : Option Bool :=
  if h.self = 0 then none
  else if dst = broadcastId then some hash
  else if !h.memberOf dst then none
  else
    let (e, w, ne, nw) := h.reach dst
    if e && w then
      if h.ring.policy = 1 && ne != nw then some (decide (nw < ne)) else some hash
    else if e then some false
    else if w then some true
    else none

/-- The direction of a single-path flow (R107). -/
def Hub.direction (h : Hub) (dst cls label : Nat) : Option Bool := h.directionBy dst ((flowHash h.self dst cls label).testBit 0)

/-- Whether a frame to a node leaves at all (R108): it is a broadcast, or a member that some direction reaches. -/
def Hub.reachable (h : Hub) (dst : Nat) : Bool := (h.directionBy dst false).isSome

/-- Whether no break separates the hub from a node's frames: one direction round the ring is whole (R41). A hub that is not listed in the ring order has
no broken span of its own. -/
def Hub.reaches (h : Hub) (dst : Nat) : Bool := (h.reach dst).1 || (h.reach dst).2.1

/-- Ticks of the 10 ms within which a time master's SYNC must have come (R119). -/
def syncAlive : Nat := 4000000

/-- The senders of a kind of frame that are heard of within a number of ticks, lowest id first. -/
def aliveIds (seen : SMap Nat) (now within : Nat) : List Nat :=
  (seen.filter (fun p => p.2 != 0 && decide (ticksBetween (p.2 - 1) now ≤ within))).map (·.1)

/-- The lowest-id time master that has reported LOCK_PTP or LOCK_TCODE within the last 10 ms and that no break separates from the hub (R41, R119);
0 none. -/
def Hub.lowestMaster (h : Hub) : Nat := ((aliveIds h.ring.syncSeen h.now syncAlive).filter h.reaches).headD 0

/-- Follow the lowest-id master (R119, R126, R128); with none, RING cannot qualify, and its loss is declared (R41). -/
def Hub.followMaster (h : Hub) : Hub :=
  let m := h.num Obj.timeMasterId
  let n := h.lowestMaster
  if m = n then h
  else (h.setNum Obj.timeMasterId n).notice N.ringTimeMasterChanged (fidRingPort 0) [m, n]

/-- Whether a direction changed between two states of a hub, toward a node that is a member in both (R110 to R112; log entry 96: a member that comes
or goes alters no direction of the others by that alone). -/
def Hub.redirected (old new : Hub) : Bool :=
  (List.range 64).any (fun i => old.memberOf (i + 1) && new.memberOf (i + 1)
    && ((old.directionBy (i + 1) false != new.directionBy (i + 1) false) || (old.directionBy (i + 1) true != new.directionBy (i + 1) true)))

/-- Ticks that a recompute takes at most, 0.2 µs (R110). -/
def recomputeTicks : Nat := 80

/-- A recompute after a change of break map, member map or ring order (R107, R110 to R112): it takes path-policy, and advances the ordering epoch when any
direction changed; changes that arrive within one recompute share its step. Where the maps and the order stay as they were there is none. -/
def Hub.recompute (old new : Hub) : Hub :=
  if new.num Obj.breakMap = old.num Obj.breakMap ∧ new.num Obj.memberMap = old.num Obj.memberMap ∧ new.oct Obj.ringOrder = old.oct Obj.ringOrder then new
  else
  let new := { new with ring := { new.ring with policy := new.num Obj.pathPolicy } }
  if old.redirected new = false ∨ new.dueAgain new.ring.stepAt recomputeTicks = false then new
  else
    let new := { new with ring := { new.ring with stepAt := new.now + 1 } }
    (new.setNum Obj.orderingEpoch ((new.num Obj.orderingEpoch + 1) % 2 ^ 32)).setNum Obj.lastReroute (new.stamp .H)

/-! ### Sequence numbers and windows -/

/-- Take the next SEQ for a destination and class (R105). -/
def Hub.takeSeq (h : Hub) (dst cls : Nat) : Nat × Hub :=
  if cls = 0 then (h.ring.seq0, { h with ring := { h.ring with seq0 := (h.ring.seq0 + 1) % 65536 } })
  else if cls = 1 then (h.ring.seq1, { h with ring := { h.ring with seq1 := (h.ring.seq1 + 1) % 65536 } })
  else
    let k := dst * 8 + cls
    let v := SMap.get (fun _ => 0) h.ring.seqN k
    (v, { h with ring := { h.ring with seqN := SMap.set (fun _ => 0) h.ring.seqN k ((v + 1) % 65536) } })

/-- The verdict of a sequence window on a SEQ, and the window after it (R106). -/
inductive Verdict where
  | accept | duplicate | stale
deriving DecidableEq, Repr

def SeqWindow.test (w : SeqWindow) (s : Nat) : Verdict × SeqWindow :=
  if !w.valid then (.accept, { valid := true, high := s, map := 1 })
  else
    let d := toSigned 16 (s + 65536 - w.high)
    if 0 < d then
      (.accept, { valid := true, high := s, map := (w.map * 2 ^ d.toNat + 1) % 2 ^ 64 })
    else if -63 ≤ d then
      let i := (-d).toNat
      if w.map.testBit i then (.duplicate, w) else (.accept, { w with map := setBit w.map i })
    else (.stale, w)

/-- The window of a source and class. -/
def Hub.window (h : Hub) (src cls : Nat) : SeqWindow := SMap.get (fun _ => {}) h.ring.windows (src * 2 + cls)

def Hub.setWindow (h : Hub) (src cls : Nat) (w : SeqWindow) : Hub :=
  { h with ring := { h.ring with windows := SMap.set (fun _ => {}) h.ring.windows (src * 2 + cls) w } }

/-- Pass a class-0 or class-1 frame through its window, counting what is discarded (R106). -/
def Hub.windowPass (h : Hub) (f : RingFrame) : Bool × Hub :=
  match (h.window f.src f.cls).test f.seq with
  | (.accept, w) => (true, h.setWindow f.src f.cls w)
  | (.duplicate, _) => (false, h.count Obj.duplicateDiscards)
  | (.stale, _) => (false, h.count Obj.staleDiscards)

/-- Count SEQ gaps in classes 4 and 5, except across an EPOCH change (R105); a source's broadcasts and its unicasts to this hub are counted apart, as
the sender numbers them. -/
def Hub.seqGap (h : Hub) (f : RingFrame) : Hub :=
  let k := (f.src * 2 + b2n (f.dst == broadcastId)) * 8 + f.cls
  let last := SMap.get (fun _ => 0) h.ring.rxSeq k
  let ep := SMap.get (fun _ => 0) h.ring.rxEpoch k
  let gap := decide (last ≠ 0 ∧ ep = f.epoch ∧ last % 65536 ≠ f.seq)
  let h := { h with ring := { h.ring with
    rxSeq := SMap.set (fun _ => 0) h.ring.rxSeq k (f.seq + 1), rxEpoch := SMap.set (fun _ => 0) h.ring.rxEpoch k f.epoch } }
  h.when gap (fun h => h.count Obj.seqGaps)

/-! ### Sending -/

/-- Give a frame the hub originates its SRC, EPOCH and SEQ (R89, R105, R112). -/
def Hub.seal (h : Hub) (f : RingFrame) : RingFrame × Hub :=
  let (s, h) := h.takeSeq f.dst f.cls
  ({ f with src := h.self, seq := s, epoch := h.num Obj.orderingEpoch % 4 }, h)

/-- Whether a ring port is UP. -/
def Hub.portUp (h : Hub) (west : Bool) : Bool := h.num (Obj.rportLinkState (portIx west)) == linkUp

/-- Whether a frame is one of the operations that no ridge path forwards: HELLO, DELAY_REQ, DELAY_RESP (R101, R120). -/
def neighbourOnly (f : RingFrame) : Bool :=
  (f.type == tMgmt && byteAt f.payload 0 == 0x84) || (f.type == tTime && (byteAt f.payload 0 == 1 || byteAt f.payload 0 == 2))

/-- What becomes of a frame that would leave through a port that is not UP (R109): a unicast single-path frame is turned back once, through the
other port; any other has no way. -/
def turnedBack (f : RingFrame) : Option RingFrame :=
  if f.path = 3 ∨ f.dst = broadcastId ∨ f.wrap = true ∨ neighbourOnly f = true then none
  else some { f with wrap := true, path := if f.path = 1 then 2 else 1 }

/-- The port a frame leaves by, and the frame as it leaves there (R109): its own port while that is UP, otherwise the other one; none where the frame
is discarded. A port that has not come UP yet, or is not ON, is met as a lost one (log entry 96). -/
def Hub.wayOut (h : Hub) (west : Bool) (f : RingFrame) : Option (Bool × RingFrame) :=
  if h.portUp west then some (west, f)
  else
    match turnedBack f with
    | some g => if h.portUp (!west) then some (!west, g) else none
    | none => none

/-- Append a local frame to a transmit lane, wrapped where its port is lost (R109). -/
def Hub.toLane (h : Hub) (west : Bool) (f : RingFrame) : Hub :=
  match h.wayOut west f with
  | some (w, g) => h.setLane w { h.lane w with loc := (h.lane w).loc ++ [g] }
  | none => h.count Obj.unreachableDrops

/-- Send a frame of the ring interface itself on both lanes, PATH BOTH, with one SEQ (R104). DESIGN CHOICE (log entry 96): the ring's own class-7
broadcasts (JOIN_ACK, JOIN_REFUSE, LEAVE, BRK), of which no rule gives the PATH, go so too. -/
def Hub.sendBoth (h : Hub) (f : RingFrame) : Hub :=
  let (f, h) := h.seal { f with path := 3 }
  (h.toLane false f).toLane true f

/-- Send a frame of the ring interface itself out of one port, with a SRC that it may say itself (R89, R98, R101). -/
def Hub.sendPortAs (h : Hub) (west : Bool) (src : Nat) (f : RingFrame) : Hub :=
  let (f', h) := h.seal { f with path := if west then 2 else 1 }
  h.toLane west { f' with src := src }

/-- Send a frame of the ring interface itself out of one port. -/
def Hub.sendPort (h : Hub) (west : Bool) (f : RingFrame) : Hub := h.sendPortAs west h.self f

/-! ### Receiving -/

/-- The classes a frame type may travel in (R90). -/
def classesOf (type : Nat) : List Nat :=
  if type = tBcn ∨ type = tBrk then [7]
  else if type = tMgmt then [6, 7]
  else if type = tTime ∨ type = tPhase then [1]
  else if type = tClaim ∨ type = tCmd then [0]
  else if type = tData then [0, 4, 5]
  else if type = tRdr ∨ type = tRdx ∨ type = tWack ∨ type = tWnak ∨ type = tLkrt then [3]
  else if type = tWrp then [2, 5]
  else if type = tWrn then [2, 5]
  else if type = tRd ∨ type = tLkrd ∨ type = tWrul then [2]
  else []

/-- Whether a frame travels in a class that R90 allows it: MGMT by its operation (R102), WRN in class 5 only as a marker, which carries an address and
no data (R132, R148). -/
def classAllowed (f : RingFrame) : Bool :=
  (classesOf f.type).contains f.cls
    && (if f.type = tMgmt then f.cls == (if byteAt f.payload 0 < 0x80 then 6 else 7) else true)
    && (if f.type = tWrn ∧ f.cls = 5 then decide (f.payload.length ≤ 8) else true)

def headerError (f : RingFrame) : Bool :=
  let len := f.payload.length
  decide (len > 4096) || f.path == 0 || !classAllowed f
    || f.dst == 0 || decide (65 ≤ f.dst ∧ f.dst ≤ 126) || decide (f.dst > 127)
    || (f.src == 0 && !(f.type == tMgmt && (byteAt f.payload 0 == 0x80 || byteAt f.payload 0 == 0x84)))
    || (decide (f.cls ≤ 1) && decide (len > 256))

/-- A frame as it is delivered inside the hub (R94): STAMP = 1 on any type but TIME and PHASE has a class H receive stamp attached. -/
def Hub.delivered (h : Hub) (f : RingFrame) : RingFrame :=
  if f.stamp = true ∧ f.type ≠ tTime ∧ f.type ≠ tPhase then { f with rxStamp := some (h.stampFine .H h.now f.frac) } else f

/-- Count a trailer failure at the receiving port (R93). -/
def Hub.countCrc (h : Hub) (west : Bool) : Crc → Hub
  | .ok => h
  | .stomped => h.count (Obj.crcStomped (portIx west))
  | .bad => h.count (Obj.rportCrcErrors (portIx west))

/-- Put a transit frame into the queue of its rank on a lane (R113, R114). -/
def Hub.transit (h : Hub) (out : Bool) (f : RingFrame) : Hub :=
  let l := h.lane out
  if f.cls ≤ 1 ∨ f.type = tBcn ∨ f.type = tBrk then h.setLane out { l with prio := l.prio ++ [f] }
  else h.setLane out { l with bulk := l.bulk ++ [f] }

/-- Queue a transit frame on the lane it leaves by, wrapped where that port is lost (R109). -/
def Hub.transitOut (h : Hub) (out : Bool) (f : RingFrame) : Hub :=
  match h.wayOut out f with
  | some (w, g) => h.transit w g
  | none => h.count Obj.unreachableDrops

/-- Pass a received frame on along the ridge path (R93, R108, R109): a frame received at RING-W leaves at RING-E and the reverse;
HOPS advances; at a lost link a unicast single-path frame is turned back once. A frame that came with a failed trailer (`bad`) leaves with the inverse of
its own. DESIGN CHOICE (log entry 96): transit-frames and hop-limit-drops count at the port that received it (R127). -/
def Hub.passOn (h : Hub) (west bad : Bool) (f : RingFrame) : Hub :=
  if neighbourOnly f then h
  else if f.hops + 1 > 127 then h.count (Obj.hopLimitDrops (portIx west))
  else
    let f' := { f with hops := f.hops + 1, stomp := bad }
    (h.when (h.wayOut (!west) f').isSome (fun h => h.count (Obj.transitFrames (portIx west)))).transitOut (!west) f'

/-- Pass a received frame on as it came. -/
def Hub.ridge (h : Hub) (west : Bool) (f : RingFrame) : Hub := h.passOn west (decide (f.crc ≠ .ok)) f

/-- What every received frame meets at its port (R86, R91, R93): a port that is not UP takes none; frames-rx; the header checks; the trailer, which an
aborted frame does not have (R117). Answers whether the frame goes on. DESIGN CHOICE (log entry 96): frames-rx counts the frame before the checks, and one
with a header error counts in header-errors only, whatever its trailer. -/
def Hub.frameArrives (h : Hub) (west : Bool) (f : RingFrame) : Bool × Hub :=
  if h.num Obj.pwrMode = 4 ∨ h.portUp west = false then (false, h)
  else
    let h := h.count (Obj.rportFramesRx (portIx west))
    if headerError f then (false, h.count (Obj.headerErrors (portIx west)))
    else (true, if f.aborted then h else h.countCrc west f.crc)

/-- Whether the hub extracts a frame of a type at all (R98): a member all of them, a transit-only hub beacons, TIME and PHASE; during its join also the
answers to its request (R96). -/
def Hub.extracts (h : Hub) (f : RingFrame) : Bool :=
  h.isMember || f.type == tBcn || f.type == tTime || f.type == tPhase
    || (f.type == tMgmt && f.cls == 7 && h.num Obj.joinState == joinJoining)

/-- Extraction of a frame that has arrived (R93, R98, R108, R117): whether the hub takes it. In REST only what keeps the ring is taken. Of classes 4 and 5
a frame that ends badly is taken too, and ends with ERR. -/
def Hub.extract (h : Hub) (f : RingFrame) : Bool × Hub :=
  let mine := (f.dst == broadcastId || (f.dst == h.self && h.self != 0)) && h.extracts f
  let kept := f.type == tBcn || f.type == tTime || f.type == tPhase || (f.type == tMgmt && f.cls == 7 && byteAt f.payload 0 == 0x85)
  if h.num Obj.pwrMode = 3 ∧ mine = true ∧ kept = false then (false, h.count Obj.restDiscards)
  else (mine && (f.intact || f.cls == 4 || f.cls == 5), h)

/-- Whether a sender strips a frame that comes back to it (R108, R109): its own one, unless wrapped. -/
def Hub.strips (h : Hub) (f : RingFrame) : Bool := f.src == h.self && h.self != 0 && !f.wrap

/-- What every received frame meets before its own meaning: its arrival, stripping of the sender's own frames (R108), and the copy of a broadcast that
goes on along the ridge path. Answers whether the frame is extracted. -/
def Hub.receive (h : Hub) (west : Bool) (f : RingFrame) : Bool × Hub :=
  let (ok, h) := h.frameArrives west f
  if !ok || (f.src != 0 && f.src == h.self) then (false, h)
  else (h.when (f.dst == broadcastId) (fun h => h.ridge west f)).extract f

end Sys2Proof.Machine
end

