-- ==== Sys2Proof/Machine/Fences.lean ====
section
/-!
DEFINITION. Transactions the bridge sends (R129, R134 to R136, R138, R147) and the fences that follow them (R148 to R153, R223): the frames, the
order of a window behind its AtomicOps, the fence of a window, FENCE_ALL, the FENCE of a BULK descriptor, and fences whose target becomes
unreachable.
-/
namespace Sys2Proof.Machine

/-! ### Sending -/

/-- A packet arrives at an input port of the switch. -/
def Hub.swArrive (h : Hub) (port : Nat) (p : SwPacket) : Hub :=
  { h with sw := { h.sw with
    inputs := SMap.set (fun _ => []) h.sw.inputs port (SMap.get (fun _ => []) h.sw.inputs port ++ [p]) } }

/-- The hub sends a ring frame by fixed delivery from port 16 or 17 (R104, R107, R108, R176): class 0 on both ring ports, other classes
on the port of the flow's direction. Answers whether the frame goes. -/
def Hub.sendRing (h : Hub) (inPort : Nat) (f : RingFrame) (label : Nat) : Bool × Hub :=
  if f.cls = 0 then
    if h.reachable f.dst = false then (false, h.count Obj.unreachableDrops)
    else
      let (f, h) := h.seal { f with path := 3 }
      (true, h.swArrive inPort { fixed := some (f, 14) })
  else
    match h.direction f.dst f.cls label with
    | none => (false, h.count Obj.unreachableDrops)
    | some w =>
      let (f, h) := h.seal { f with path := if w then 2 else 1 }
      (true, h.swArrive inPort { fixed := some (f, 12 + b2n w) })

/-- The node id of a ring address, and the local address (R129). -/
def addrNode (a : Nat) : Nat := a / 2 ^ 41 % 128
def addrLocal (a : Nat) : Nat := a % 2 ^ 41

/-- A transaction frame (R134): address, initiator, byte 7, data, tag. -/
def txn (dst type cls addr init b7 tag : Nat) (data : List Byte) : RingFrame :=
  { dst := dst, cls := cls, type := type, tag := tag, payload := beBytes 6 addr ++ beBytes 1 init ++ beBytes 1 b7 ++ data }

/-- Send a transaction: to the hub's own id it is served inside the hub (R138), otherwise it goes to the ring. -/
def Hub.sendTxn (h : Hub) (f : RingFrame) (label : Nat) : Hub :=
  if f.dst = h.self then { h with bridge := { h.bridge with loop := h.bridge.loop ++ [{ f with src := h.self }] } }
  else (h.sendRing 16 f label).2

/-- Whether a transaction can reach a node (R141). -/
def Hub.canReach (h : Hub) (node cls label : Nat) : Bool :=
  h.self != 0 && (node == h.self || (h.direction node cls label).isSome)

/-- Take a transaction tag. -/
def Hub.takeTag (h : Hub) : Nat × Hub :=
  (h.bridge.nextTag, { h with bridge := { h.bridge with nextTag := (h.bridge.nextTag + 1) % 65536 } })

/-- The writes an initiator has sent to an address under a tag and that are not known to be retired (R137, R149, R158): address and length; (0, 0) none. -/
def Hub.sentWrite (h : Hub) (init tag : Nat) : Nat × Nat := SMap.get (fun _ => (0, 0)) h.bridge.wsent (init * 65536 + tag)

/-- Take a transaction tag for a fence marker of an initiator to an address: one that no unretired write of it to that address bears, for a WNAK names its
transaction by tag and address (R134, R158). -/
def Hub.markerTag (h : Hub) (init addr : Nat) : Nat × Hub :=
  let free := ((List.range (h.bridge.wsent.length + 1)).map (fun i => (h.bridge.nextTag + i) % 65536)).find? (fun t => (h.sentWrite init t).1 != addr)
  ({ h with bridge := { h.bridge with nextTag := free.getD h.bridge.nextTag } }).takeTag

/-- The writes of an initiator that satisfy a test are retired, or refused (R137, R149): their tags name them no more. -/
def Hub.writesRetired (h : Hub) (init : Nat) (p : Nat → Bool) : Hub :=
  { h with bridge := { h.bridge with wsent := h.bridge.wsent.filter (fun x => !(x.1 / 65536 == init && p (x.1 % 65536))) } }

/-- Whether a write tag of an initiator comes before `upto` (R158): it is not one of those taken since. -/
def Hub.tagBefore (h : Hub) (init upto tag : Nat) : Bool :=
  decide ((SMap.get (fun _ => 0) h.bridge.wtags init + 65536 - upto) % 65536 ≤ (tag + 65536 - upto) % 65536)

/-- The host AtomicOp of a window that has not left yet and that a later access of the window follows (R147): the newest one that waits for the slot
for the first time. -/
def Hub.lastUnsent (h : Hub) (w : Nat) : Option AtomicOp := (h.bridge.atomics.filter (fun a => a.w == w && a.lkrts == 0)).getLast?

/-- A transaction of a window leaves in host order (R147): behind an AtomicOp of the window that has not left it waits. -/
def Hub.sendWindow (h : Hub) (w : Nat) (f : RingFrame) (label : Nat) : Hub :=
  match h.lastUnsent w with
  | some a => { h with bridge := { h.bridge with behind := h.bridge.behind ++ [{ after := a.tag, frame := f, label := label }] } }
  | none => h.sendTxn f label

/-- Whether a transaction of a window still waits (R147), by type and tag. -/
def Hub.isBehind (h : Hub) (type tag : Nat) : Bool := h.bridge.behind.any (fun x => x.frame.type == type && x.frame.tag == tag)

/-! ### Fences of the windows -/

def Hub.fence (h : Hub) (w : Nat) : Fence := SMap.get (fun _ => {}) h.bridge.fences w

def Hub.setFence (h : Hub) (w : Nat) (f : Fence) : Hub :=
  { h with bridge := { h.bridge with fences := SMap.set (fun _ => {}) h.bridge.fences w f } }

/-- A window's report register (R153). -/
def Hub.fenceRep (h : Hub) (w : Nat) : Nat :=
  let f := h.fence w
  f.seq * 2 ^ 24 + b2n (f.tag != 0 || f.held) * 2 ^ 23 + b2n f.incomplete * 2 ^ 22 + b2n f.epochChanged * 2 ^ 21 + f.faulted

/-- FENCE_ALL_REP (R153). -/
def Hub.fenceAllRep (h : Hub) : Nat :=
  let b := h.bridge
  b.allSeq * 2 ^ 24 + b2n (b.allRunning || b.allHeld) * 2 ^ 23 + b2n b.allInc * 2 ^ 22 + b2n b.allEpoch * 2 ^ 21 + b.allFaulted

/-- Add a window's part to the report of the running FENCE_ALL (R149). -/
def Hub.addToAll (h : Hub) (w faulted : Nat) (inc ep : Bool) : Hub :=
  { h with bridge := { h.bridge with
    allLeft := h.bridge.allLeft.filter (· != w), allAcc := min 0xFFFF (h.bridge.allAcc + faulted),
    allAccInc := h.bridge.allAccInc || inc, allAccEpoch := h.bridge.allAccEpoch || ep } }

/-- A fence on a window completes (R148, R149, R153, R170): the report, the count reset, the epoch stored, FENCE_DONE with the report word. -/
def Hub.finishFence (h : Hub) (w : Nat) (inc : Bool) : Hub :=
  let f := h.fence w
  let h := h.when (f.tag != 0 && !inc) (fun h => h.writesRetired w (h.tagBefore w f.upto))
  let faulted := h.num (Obj.faultedSinceFence w)
  let ep := decide (f.epoch ≠ h.num Obj.orderingEpoch)
  let h := h.setFence w { f with
    tag := 0, resent := false, forAll := false, epoch := h.num Obj.orderingEpoch, seq := (f.seq + 1) % 256,
    incomplete := inc, epochChanged := ep, faulted := faulted }
  let h := h.setNum (Obj.faultedSinceFence w) 0
  let h := h.when (h.flag Obj.fenceNotice) (fun h => h.notice N.fenceDone fidBridge [w, h.fenceRep w])
  h.when f.forAll (fun h => h.addToAll w faulted inc ep)

/-- Begin a fence on a window whose fence is not running (R148 steps 1, 5 and 6). What the window writes from here on is for its next fence. -/
def Hub.beginFence (h : Hub) (w : Nat) : Hub :=
  let wrote := (h.fence w).wrote
  let h := h.setFence w { h.fence w with forAll := h.bridge.allLeft.contains w, wrote := false }
  let base := h.num (Obj.ringBase w)
  let cls := h.num (Obj.writeClass w)
  if !wrote then h.finishFence w false
  else if !h.canReach (addrNode base) cls (0x100 + w) then h.finishFence w true
  else
    let (tag, h) := h.markerTag w base
    let h := h.setFence w { h.fence w with tag := tag + 1, upto := SMap.get (fun _ => 0) h.bridge.wtags w }
    h.sendWindow w (txn (addrNode base) tWrn cls base w 0 tag []) (0x100 + w)

/-- A window that FENCE_ALL does not fence adds its count and its epoch flag to the report, and both start anew (R149). -/
def Hub.reportRest (h : Hub) (w : Nat) : Hub :=
  let f := h.fence w
  let h := h.addToAll w (h.num (Obj.faultedSinceFence w)) false (decide (f.epoch ≠ h.num Obj.orderingEpoch))
  (h.setFence w { f with epoch := h.num Obj.orderingEpoch }).setNum (Obj.faultedSinceFence w) 0

/-- FENCE_ALL completes when no window is left (R148, R149, R170). -/
def Hub.finishAll (h : Hub) : Hub :=
  if h.bridge.allRunning && h.bridge.allLeft.isEmpty then
    let h := h.bridge.allRest.foldl Hub.reportRest h
    let b := h.bridge
    let h := { h with bridge := { b with
      allRunning := false, allRest := [], allSeq := (b.allSeq + 1) % 256, allFaulted := b.allAcc, allInc := b.allAccInc,
      allEpoch := b.allAccEpoch } }
    h.when (h.flag Obj.fenceNotice) (fun h => h.notice N.fenceDone fidBridge [0xFF, h.fenceAllRep])
  else h

/-- A request for a fence on one window: run, or held behind the running one (R150). -/
def Hub.fenceOrHold (h : Hub) (w : Nat) : Hub :=
  if (h.fence w).tag ≠ 0 then h.setFence w { h.fence w with held := true } else h.beginFence w

/-- Start FENCE_ALL: every window that has issued a write its fences have not confirmed (R148). -/
def Hub.startAll (h : Hub) : Hub :=
  let due := fun w => (h.fence w).wrote || (h.fence w).tag != 0
  let ws := (List.range 16).filter due
  let h := { h with bridge := { h.bridge with
    allRunning := true, allHeld := false, allLeft := ws, allRest := (List.range 16).filter (fun w => !due w), allAcc := 0,
    allAccInc := false, allAccEpoch := false } }
  (ws.foldl Hub.fenceOrHold h).finishAll

/-- FENCE_ALL completes if it can, and a held one starts (R150). -/
def Hub.settleAll (h : Hub) : Hub :=
  let wasAll := h.bridge.allRunning
  let h := h.finishAll
  if wasAll && !h.bridge.allRunning && h.bridge.allHeld then h.startAll else h

/-- A write of FENCE_W (R150). -/
def Hub.requestFence (h : Hub) (w : Nat) : Hub := (h.fenceOrHold w).settleAll

/-- A request for FENCE_ALL: run, or held (R150). -/
def Hub.requestAll (h : Hub) : Hub :=
  if h.bridge.allRunning then { h with bridge := { h.bridge with allHeld := true } } else h.startAll

/-- After a fence completes: the held fence of the window starts, and FENCE_ALL may complete (R150). -/
def Hub.afterFence (h : Hub) (w : Nat) : Hub :=
  (if (h.fence w).held then (h.setFence w { h.fence w with held := false }).beginFence w else h).settleAll

/-- The window whose marker has a tag. -/
def Hub.fenceOf (h : Hub) (tag : Nat) : Option Nat :=
  (List.range 16).find? (fun w => (h.fence w).tag == tag + 1)

/-- fence-timeout passes for a window: one more marker, or completion with INCOMPLETE (R148 step 4). -/
def Hub.fenceTimeout (h : Hub) (w : Nat) : Hub :=
  let f := h.fence w
  if f.tag = 0 then h
  else if f.resent then (h.finishFence w true).afterFence w
  else
    let base := h.num (Obj.ringBase w)
    let h := h.setFence w { f with resent := true }
    h.sendWindow w (txn (addrNode base) tWrn (h.num (Obj.writeClass w)) base w 0 (f.tag - 1) []) (0x100 + w)

/-! ### The FENCE of a BULK descriptor (R151, R223) -/

/-- The flow of the bulk DMA engine (R136). -/
def bulkLabel : Nat := 0x121

/-- A fence marker of a BULK queue to a node. -/
def Hub.sendMarker (h : Hub) (q : Nat) (m : Nat × Nat) : Hub :=
  h.sendTxn (txn m.2 tWrn (h.num (Obj.bulkClass q)) (m.2 * 2 ^ 41) 0x11 0 m.1 []) bulkLabel

/-- Send the fence markers of the first BULK descriptor that waits for them (R223): one WRN to every node written since the previous
FENCE; a node that cannot be reached cannot confirm its writes (R148 step 5). -/
def Hub.bulkFence (h : Hub) (q : Nat) : Hub :=
  let s := h.queue q
  match s.descs.find? (fun d => d.fence == 1) with
  | none => h
  | some d =>
    if !s.bulkMarkers.isEmpty then h
    else
      let cls := h.num (Obj.bulkClass q)
      let h := h.setQueue q { s with bulkNodes := [], bulkResent := false, bulkUpto := SMap.get (fun _ => 0) h.bridge.wtags 0x11 }
      let h := s.bulkNodes.foldl (fun h n =>
        if h.canReach n cls bulkLabel then
          let (tag, h) := h.markerTag 0x11 (n * 2 ^ 41)
          (h.setQueue q { h.queue q with bulkMarkers := (h.queue q).bulkMarkers ++ [(tag, n)] }).sendMarker q (tag, n)
        else h.setQueue q { h.queue q with bulkInc := true }) h
      let st := if (h.queue q).bulkMarkers.isEmpty then 0 else 2
      (h.setQueue q { h.queue q with
        descs := (h.queue q).descs.map (fun (x : QDesc) => if x.idx = d.idx then { x with fence := st } else x) }).drain q

/-- Markers of a BULK fence are done, answered or given up: with the last one the descriptor completes, and a further fence may run (R223). -/
def Hub.bulkSettle (h : Hub) (q : Nat) (left : List (Nat × Nat)) (inc : Bool) : Hub :=
  let s := h.queue q
  let h := h.setQueue q { s with bulkMarkers := left, bulkInc := s.bulkInc || inc }
  if !left.isEmpty then h
  else
    let h := h.when (!(h.queue q).bulkInc) (fun h => h.writesRetired 0x11 (fun t =>
      SMap.get (fun _ => 0) h.host.bulkOwner t == q + 1 && h.tagBefore 0x11 s.bulkUpto t))
    let h := h.setQueue q { h.queue q with
      descs := (h.queue q).descs.map (fun (x : QDesc) => if x.fence = 2 then { x with fence := 0 } else x) }
    (h.drain q).bulkFence q

/-- A marker of a BULK fence is answered (R223). -/
def Hub.bulkAnswer (h : Hub) (q tag : Nat) : Hub := h.bulkSettle q ((h.queue q).bulkMarkers.filter (fun m => m.1 != tag)) false

/-- fence-timeout passes for a BULK queue: its markers go once more, or the fence ends with INCOMPLETE (R148 step 4, R151). -/
def Hub.bulkTimeout (h : Hub) (q : Nat) : Hub :=
  let s := h.queue q
  if s.bulkMarkers.isEmpty then h
  else if s.bulkResent then h.bulkSettle q [] true
  else s.bulkMarkers.foldl (fun h m => h.sendMarker q m) (h.setQueue q { s with bulkResent := true })

/-! ### A target becomes unreachable (R148 step 5) -/

/-- A window's running fence completes when its target cannot be reached any more. -/
def Hub.fenceReach (h : Hub) (w : Nat) : Hub :=
  if (h.fence w).tag = 0 || h.canReach (addrNode (h.num (Obj.ringBase w))) (h.num (Obj.writeClass w)) (0x100 + w) then h
  else (h.finishFence w true).afterFence w

/-- The markers of a BULK queue to nodes that cannot be reached any more. -/
def Hub.bulkReach (h : Hub) (q : Nat) : Hub :=
  let s := h.queue q
  let left := s.bulkMarkers.filter (fun m => h.canReach m.2 (h.num (Obj.bulkClass q)) bulkLabel)
  if left.length = s.bulkMarkers.length then h else h.bulkSettle q left true

/-- Every fence looks to its target after a change of the ring's directions. -/
def Hub.fencesReach (h : Hub) : Hub := (List.range 64).foldl Hub.bulkReach ((List.range 16).foldl Hub.fenceReach h)

end Sys2Proof.Machine
end

