-- ==== Sys2Proof/Machine/TimeUnit.lean ====
section
/-!
DEFINITION. The commands of the time unit that stand alone (R38 to R59, R72 to R84): time sources, map updates, the phase clock, control
cycles, captures, snapshots, timed outputs. The trigger table is in Machine/Triggers.lean.
-/
namespace Sys2Proof.Machine

/-- SYNC_STATE of a source's lock (R10). -/
def lockState (c : Nat) : Nat := c

/-- The rank of a source in source-priority; none when it is not listed (R42, R48). -/
def rankIn (list : Nat) (n code : Nat) : Option Nat :=
  let nibs := ((List.range n).map (fun i => bits list (4 * i + 3) (4 * i))).takeWhile (· != 0)
  nibs.findIdx? (· == code)

/-- The sources that are qualified, by code. -/
def Hub.qualifiedCodes (h : Hub) : List Nat := h.time.qualified.map timeCode

/-- The qualified source of highest rank (R42). -/
def Hub.bestSource (h : Hub) : Option Nat :=
  let nibs := ((List.range 8).map (fun i => bits (h.num Obj.sourcePriority) (4 * i + 3) (4 * i))).takeWhile (· != 0)
  nibs.find? (fun c => h.qualifiedCodes.contains c)

/-- The correction that a new segment adds to the tracking rate (R44), in ppb: slew-limit toward the source; in the last segment of a slew what
removes the remainder in the 125 ms that a segment lasts at most (R25; log entry 95). -/
def Hub.slewCorrection (h : Hub) : Int :=
  let lim : Int := h.num Obj.slewLimit
  let s := h.time.slew
  if s.natAbs * 8 ≤ lim.natAbs then s * 8 else if 0 < s then lim else -lim

/-- The rate a new segment runs at (R44). -/
def Hub.slewRate (h : Hub) : Int := h.time.track + h.slewCorrection

/-- Start a segment at now with a station time and a rate, keeping the 64 most recent (R25), and keep the time unit's state with it (R26). -/
def Hub.newSegment (h : Hub) (st0 : Nat) (rate : Int) : Hub :=
  let segs := ({ l0 := h.now, st0 := st0, rate := rate } :: h.time.segs).take 64
  ({ h with time := { h.time with
    segs := segs, marks := (h.timeMark :: h.time.marks).take 64, segsPast := (h.time.segs.drop 63 ++ h.time.segsPast).take 4096,
    marksPast := (h.time.marks.drop 63 ++ h.time.marksPast).take 4096, slewCorr := rate - h.time.track, slewAt := h.now } }).setInt Obj.mapRate rate

/-- The present line of the phase clock joins those that are kept, and the clock runs on from its phase at a frequency in µHz. -/
def Hub.rebase (h : Hub) (freq : Nat) : Hub :=
  let p := h.phaseRaw h.now
  { h with time := { h.time with
    phcPast := (h.phaseLine :: h.time.phcPast).take 64, phcL0 := h.now, phcBase := p, phcFreq := freq, phcTrim := 0, phcNominal := none } }

/-- The difference from a phase fraction to another by the shortest way round: −½ < d ≤ ½ cycle, in 2^-32 cycle (R53). -/
def shortestWay (frm dest : Nat) : Int :=
  let d : Nat := (dest + 2 ^ 32 - frm % 2 ^ 32) % 2 ^ 32
  if d ≤ 2 ^ 31 then d else (d : Int) - 2 ^ 32

/-- Whether a phase difference lies within 1° (R53). -/
def withinDegree (d : Int) : Bool := decide (360 * d.natAbs ≤ 2 ^ 32)

/-- A clock that is LOCKED on NOMINAL follows ST exactly (R54): from now on it reads NOMINAL phase at its present distance. Where it lies behind or
ahead by 1° at most it is tracked (R53): forward at once, backward by running slower for 125 ms (log entry 95). -/
def Hub.trackNominal (h : Hub) : Hub :=
  if h.num Obj.phcState = phcLocked ∧ h.num Obj.phcSource = 3 ∧ h.time.phcSlow = 0 ∧ h.time.phcNominal = none then
    let p := h.phaseRaw h.now
    let n := h.nominalPhase h.now
    let d := shortestWay p n
    let f := h.num Obj.nominalFrequency * 1000
    if withinDegree d = false then h
    else if 0 ≤ d then
      let h := h.rebase f
      { h with time := { h.time with phcBase := p + d.toNat, phcNominal := some ((p : Int) + d - n) } }
    else
      let h := h.rebase f
      { h with time := { h.time with phcTrim := d * 8000000 / 4294967296 } }
  else h

/-- Before ST jumps, a clock that follows NOMINAL leaves it: its phase does not jump with ST (R53). -/
def Hub.leaveNominal (h : Hub) : Hub := if h.time.phcNominal = none then h else h.rebase h.time.phcFreq

/-- Step ST by a signed number of ns in one map update (R44). -/
def Hub.stepTime (h : Hub) (ns : Int) : Hub :=
  let h := h.leaveNominal
  let st := ((h.stAt h.now : Int) + ns * stPerNs).toNat
  let h := { h with time := { h.time with slew := 0, lastLocked := h.now } }
  let h := (h.newSegment st h.time.track)
  let h := (h.setNum Obj.lastStep (ofSigned 64 ns)).count Obj.stepTally
  (h.notice N.timeStep fidTime (arg64 (ofSigned 64 ns))).trackNominal

/-- Remove an offset to a new or followed source: slew up to step-limit, step above it (R44). -/
def Hub.removeOffset (h : Hub) (ns : Int) : Hub :=
  if ns.natAbs ≤ h.num Obj.stepLimit then
    let h := { h with time := { h.time with slew := ns, lastLocked := h.now } }
    h.newSegment (h.stAt h.now) h.slewRate
  else h.stepTime ns

/-- The UTC offset a source supplies becomes the one in use (R41). -/
def Hub.takeUtc (h : Hub) : Option Int → Hub
  | none => h
  | some u => (h.setNum Obj.utcOffset (ofSigned 16 u)).setFlag Obj.utcOffsetKnown true

/-- Select a source: state, code and notice (R43). -/
def Hub.selectSource (h : Hub) (code : Nat) (offset rate : Int) (utc : Option Int) : Hub :=
  let old := h.num Obj.timeSource
  let never := h.num Obj.syncState == syncNever
  let h := { h with time := { h.time with track := rate } }
  let h := ((h.setNum Obj.syncState (lockState code)).setNum Obj.timeSource code).takeUtc utc
  let h := if never then h.stepTime offset else h.removeOffset offset
  h.notice N.timeSourceChanged fidTime [old, code]

/-- Whether TCODE may qualify (R41, R49): its channel is ON in TCODE mode with IRIG_IN, its pin captures, and a 1PPS edge has come. -/
def Hub.tcodeReady (h : Hub) : Bool :=
  let c := h.num Obj.tcodeChannel
  decide (c < 192) && h.isOn (fidChannel c) && h.num (Obj.chMode c) == 6 && h.num (Obj.tcodeFunction c) == 0
    && h.flag (Obj.tcapEnable (h.num Obj.tcapPpsPin)) && h.time.pps.isSome

/-- portState SLAVE of a PTP port (R382). -/
def ptpSlaveState : Nat := 9

/-- Whether the condition of a source can hold (R41): the PTP unit is in SLAVE on a port; a ring time master is followed (R119); TCODE can
qualify. -/
def Hub.sourceHolds (h : Hub) : TimeSource → Bool
  | .ptp => h.num (Obj.portStateA) == ptpSlaveState || h.num (Obj.portStateB) == ptpSlaveState
  | .ring => h.num Obj.timeMasterId != 0
  | .tcode => h.tcodeReady

/-- A source's condition has held for qualify-time (R41 to R43). DESIGN CHOICE (log entry 95): a source of higher rank takes over at this event,
which says that it has been qualified for qualify-time; no further wait is modelled. -/
def Hub.timeSourceQualified (h : Hub) (src : TimeSource) (offset rate : Int) (utc : Option Int) : Hub :=
  if h.sourceHolds src = false then h
  else
    let h := { h with time := { h.time with
      qualified := if h.time.qualified.contains src then h.time.qualified else src :: h.time.qualified } }
    let s := h.num Obj.syncState
    let cur := h.num Obj.timeSource
    let code := timeCode src
    match rankIn (h.num Obj.sourcePriority) 8 code with
    | none => h
    | some r =>
      if s = syncNever ∨ s = syncHoldover ∨ s = syncHoldoverSleep then h.selectSource code offset rate utc
      else if cur = code then (h.takeUtc utc).removeOffset offset
      else
        let rc := rankIn (h.num Obj.sourcePriority) 8 cur
        if h.flag Obj.revert && (rc.isNone || decide (r < rc.getD 0)) then h.selectSource code offset rate utc else h

/-- The ring time master that was followed has fallen silent, or a break separates it (R41, R119, R126, R128): it counts as heard no more, and the lowest-id
one that is left is followed. -/
def Hub.masterSilent (h : Hub) : Hub :=
  ({ h with ring := { h.ring with syncSeen := SMap.set (fun _ => 0) h.ring.syncSeen (h.num Obj.timeMasterId) 0 } }).followMaster

/-- A source is declared lost (R41 to R43, R47); when another is qualified the time unit moves to it, with the offset, rate and UTC
offset that source shows. DESIGN CHOICE (log entry 95): in HOLDOVER the last rate is the tracking rate; a slew in progress is dropped. -/
def Hub.timeSourceLost (h : Hub) (src : TimeSource) (offset rate : Int) (utc : Option Int) : Hub :=
  let h := h.when (src == .ring) Hub.masterSilent
  if !h.time.qualified.contains src then h
  else
    let h := { h with time := { h.time with qualified := h.time.qualified.filter (· != src) } }
    let h := h.count Obj.sourceLossTally
    let code := timeCode src
    if h.num Obj.timeSource ≠ code then h
    else
      let h := h.notice N.timeSourceLost fidTime [code]
      match h.bestSource with
      | some c => h.selectSource c offset rate utc
      | none =>
        let h := (h.setNum Obj.syncState syncHoldover).setNum Obj.timeSource 0
        let h := { h with time := { h.time with slew := 0 } }
        let h := h.newSegment (h.stAt h.now) h.time.track
        h.setNum Obj.holdoverSince (h.stamp .S)

/-- The followed source shows an offset of ST in ns (R44): above step-limit ST steps, otherwise the offset is left to slewing. -/
def Hub.measureOffset (h : Hub) (ns : Int) : Hub :=
  if ns.natAbs ≤ h.num Obj.stepLimit then { h with time := { h.time with slew := ns, slewAt := h.now } } else h.stepTime ns

/-- What the running segment's correction has removed since the offset was measured, in ns (R44). -/
def Hub.slewRemoved (h : Hub) : Int := h.time.slewCorr * ((ticksBetween h.time.slewAt h.now : Nat) : Int) * 5 / 2 / 1000000000

/-- A map update (R25, R44): a new segment with the tracking rate measured and the slew correction; the slew shrinks by what the last
segment removed. In NEVER no source is tracked and ST runs at the rate of the LTC (R46); in holdover the last rate is kept. -/
def Hub.timeMapUpdate (h : Hub) (rate : Int) : Hub :=
  let locked := decide (1 ≤ h.num Obj.syncState ∧ h.num Obj.syncState ≤ 3)
  if h.num Obj.syncState = syncNever then h
  else
    let slew := h.time.slew - h.slewRemoved
    let h := if locked then { h with time := { h.time with track := rate, slew := slew, lastLocked := h.now } }
      else { h with time := { h.time with slew := slew } }
    (h.newSegment (h.stAt h.now) h.slewRate).trackNominal

/-! ### Phase clock -/

/-- A phase difference in millidegrees. -/
def millideg (d : Int) : Int := roundDiv (d * 360000) 4294967296

/-- Align the phase clock to a source that lies `d` ahead (R53): a step forward, or half frequency until the phases meet. Answers whether
the alignment is complete. -/
def Hub.alignBy (h : Hub) (d : Int) (src freq : Nat) : Bool × Hub :=
  let h := h.setInt Obj.lastPhaseStep (millideg d)
  if 0 ≤ d then
    let h := h.rebase freq
    (true, { h with time := { h.time with phcBase := h.time.phcBase + d.toNat } })
  else
    let h := h.rebase (freq / 2)
    (false, { h with time := { h.time with phcSlow := d.natAbs, phcSlowSrc := src, phcSlowFreq := freq } })

/-- The least-squares slope of the last 8 cycle frequencies, newest first, in µHz per cycle, times 42 (R622). -/
def slope42 (fs : List Nat) : Int :=
  (fs.zipIdx).foldl (fun acc p => acc + (7 - 2 * (p.2 : Int)) * p.1) 0

/-- The phase and frequency of a source now (R50): LOCAL as the DPLL shows it with reference-offset added (R11), RING as the followed master's last
frame gives it (R123), NOMINAL as ST × nominal-frequency. -/
def Hub.sourcePhase (h : Hub) (src fraction freq : Nat) : Nat × Nat :=
  if src = 1 then ((((fraction : Int) + fractionOf (h.int Obj.referenceOffset)) % 4294967296).toNat, freq)
  else if src = 2 then (h.ringPhaseAt h.now % 2 ^ 32, h.time.ringFreq)
  else (h.nominalPhase h.now % 2 ^ 32, h.num Obj.nominalFrequency * 1000)

/-- Align the phase clock to a source, by the shortest way (R53). -/
def Hub.alignPhase (h : Hub) (src fraction freq : Nat) : Bool × Hub :=
  h.alignBy (shortestWay (h.phaseRaw h.now) (h.sourcePhase src fraction freq).1) src (h.sourcePhase src fraction freq).2

/-- The rocof of a source (R622): LOCAL the slope over 8 cycle values, RING what the master sends, NOMINAL 0. DESIGN CHOICE (log entry 95): LOCAL reads
0 while fewer than 8 values are held. -/
def Hub.sourceRocof (h : Hub) (src : Nat) : Int :=
  if src = 1 then
    if h.time.cycles.length = 8 then
      roundDiv (slope42 h.time.cycles * ((h.time.cycles.foldl (· + ·) 0 : Nat) / 8)) (84 * 1000000)
    else 0
  else if src = 2 then h.time.ringRocof
  else 0

/-- The frequency of a source in µHz, as last seen. -/
def Hub.sourceFreq (h : Hub) (src : Nat) : Nat :=
  if src = 1 then h.time.cycles.headD h.time.phcFreq else if src = 2 then h.time.ringFreq else h.num Obj.nominalFrequency * 1000

/-- The present phase source of highest rank in phc-source-list. -/
def Hub.bestPhase (h : Hub) : Option Nat :=
  let nibs := ((List.range 4).map (fun i => bits (h.num Obj.phcSourceList) (4 * i + 3) (4 * i))).takeWhile (· != 0)
  nibs.find? (fun c => c == 3 || (h.time.present.map phaseCode).contains c)

/-- The source that takes over from one that the clock runs on or acquires (R52): the present one of highest rank, where it outranks that; 0 none. -/
def Hub.outranking (h : Hub) (src : Nat) : Nat :=
  let rank := rankIn (h.num Obj.phcSourceList) 4
  match h.bestPhase with
  | some c =>
    match rank c, rank src with
    | some a, some b => if a < b then c else 0
    | some _, none => c
    | none, _ => 0
  | none => 0

/-- The source that takes over next is the one that outranks a source now (R52). -/
def Hub.candidateFrom (h : Hub) (src : Nat) : Hub := { h with time := { h.time with phcCand := h.outranking src } }

/-- The phase clock reads LOCKED on a source, with its rocof, and the change is notified (R52, R53, R622); on NOMINAL it follows ST (R54). -/
def Hub.phaseLocked (h : Hub) (src : Nat) : Hub :=
  let h := (h.setNum Obj.phcState phcLocked).setNum Obj.phcSource src
  let h := (h.candidateFrom src).setInt Obj.rocof (h.sourceRocof src)
  (h.notice N.phcSourceChanged fidTime [src, h.num Obj.lastPhaseStep]).trackNominal

/-- Enter ACQUIRING on a source; NOMINAL aligns at once and is LOCKED (R52). -/
def Hub.acquire (h : Hub) (src : Nat) : Hub :=
  let h := (((h.setNum Obj.phcState phcAcquiring).setNum Obj.phcSource src).candidateFrom src).setInt Obj.rocof (h.sourceRocof src)
  if src = 3 then
    let r := h.alignPhase 3 0 0
    if r.1 then r.2.phaseLocked 3 else r.2
  else h

/-- Enter INVALID: the clock advances at a frequency in µHz from its last phase (R52, R53). A listed source that is present is acquired from there in
the next period of CCLK (Hub.tick). -/
def Hub.phaseInvalidAt (h : Hub) (freq : Nat) : Hub :=
  let h := h.rebase freq
  let h := ((h.setNum Obj.phcState phcInvalid).setNum Obj.phcSource 0).setNum Obj.rocof 0
  let h := { h with time := { h.time with phcSlow := 0, phcCand := 0 } }
  h.notice N.phcInvalid fidTime []

/-- Enter INVALID at nominal-frequency. -/
def Hub.phaseInvalid (h : Hub) : Hub := h.phaseInvalidAt (h.num Obj.nominalFrequency * 1000)

/-- nominal-frequency changes (R53): a clock that is INVALID runs on at the new one from its present phase; one that follows NOMINAL leaves its line and
meets the new phase at its next alignment. -/
def Hub.nominalChanged (h : Hub) (mhz : Nat) : Hub :=
  if h.num Obj.phcState = phcInvalid then h.rebase (mhz * 1000) else h.leaveNominal

/-- While the clock is INVALID, the listed source of highest rank that is present is acquired (R52); NOMINAL is always present (R50). -/
def Hub.acquireListed (h : Hub) : Hub :=
  if h.num Obj.phcState = phcInvalid then
    match h.bestPhase with
    | some c => h.acquire c
    | none => h
  else h

/-- Whether the condition of a phase source holds (R50, R51): LOCAL by amplitude and frequency, RING by the followed master's last frame within two
nominal cycles, NOMINAL always. -/
def Hub.phaseHolds (h : Hub) : PhaseSource → Bool
  | .localMains =>
    decide (h.num Obj.minAmplitude ≤ h.num Obj.amplitude)
      && (match h.time.cycles with | f :: _ => decide (15000000 ≤ f ∧ f ≤ 72000000) | [] => false)
  | .ring => h.time.ringGood && decide (ticksBetween h.time.ringL0 h.now ≤ 800000000000 / h.num Obj.nominalFrequency)
  | .nominal => true

/-- A listed phase source becomes present (R50, R52): INVALID acquires in the order of the list; COASTING acquires the source it coasts on; of those that
outrank the source in use, the present one of highest rank is acquired while the clock runs on, or acquires, the lower one. -/
def Hub.phcSourcePresent (h : Hub) (src : PhaseSource) : Hub :=
  if h.phaseHolds src = false then h
  else
    let h := { h with time := { h.time with
      present := if h.time.present.contains src then h.time.present else src :: h.time.present } }
    let code := phaseCode src
    let st := h.num Obj.phcState
    match rankIn (h.num Obj.phcSourceList) 4 code with
    | none => h
    | some _ =>
      if st = phcInvalid then h.acquire (h.bestPhase.getD code)
      else if st = phcCoasting ∧ h.num Obj.phcSource = code then h.acquire code
      else h.candidateFrom (h.num Obj.phcSource)

/-- A run at half frequency toward a source that is lost ends (R52): the clock runs on at the last frequency of the source it keeps. -/
def Hub.endSlowRun (h : Hub) (code : Nat) : Hub :=
  if h.time.phcSlow = 0 ∨ h.time.phcSlowSrc ≠ code then h
  else
    let h := h.rebase (if h.num Obj.phcSource = code then h.time.phcSlowFreq else h.sourceFreq (h.num Obj.phcSource))
    { h with time := { h.time with phcSlow := 0 } }

/-- The phase clock's source is lost (R52). NOMINAL is always present (R50) and is not lost. -/
def Hub.phcSourceLoss (h : Hub) (src : PhaseSource) : Hub :=
  if src = .nominal then h
  else
    let h := { h with time := { h.time with
      present := h.time.present.filter (· != src), cycles := if src = PhaseSource.localMains then [] else h.time.cycles } }
    let code := phaseCode src
    let h := h.endSlowRun code
    let h := h.when (h.time.phcCand == code) (fun h => h.candidateFrom (h.num Obj.phcSource))
    if h.num Obj.phcSource ≠ code then h
    else if h.num Obj.phcState = phcLocked then
      let h := ((h.rebase h.time.phcFreq).setNum Obj.phcState phcCoasting).setNum Obj.rocof 0
      h.notice N.phcCoasting fidTime [code, argSat h.time.phcFreq]
    else if h.num Obj.phcState = phcAcquiring then h.phaseInvalid
    else h

/-- The DPLL has met the lock condition (R52, R53): the clock aligns to the source acquired, or to the returning one. -/
def Hub.phcLockAchieved (h : Hub) (fraction freq : Nat) : Hub :=
  let src := if h.time.phcCand ≠ 0 then h.time.phcCand else h.num Obj.phcSource
  if h.time.phcCand ≠ 0 ∨ h.num Obj.phcState = phcAcquiring then
    let r := h.alignPhase src fraction freq
    if r.1 then r.2.phaseLocked src else r.2
  else h

/-- The half-frequency run meets the source phase (R53). -/
def Hub.phcAlignSlowDone (h : Hub) : Hub :=
  if h.time.phcSlow = 0 then h
  else
    let h := h.rebase h.time.phcSlowFreq
    let src := h.time.phcSlowSrc
    ({ h with time := { h.time with phcSlow := 0 } }).phaseLocked src

/-- The notice of an alignment that is complete (R53). -/
def Hub.realigned (h : Hub) (complete : Bool) : Hub :=
  if complete then h.notice N.phcSourceChanged fidTime [h.num Obj.phcSource, h.num Obj.lastPhaseStep] else h

/-- While LOCKED, a difference above 1° is removed by an alignment on the same source (R53). -/
def Hub.phcRealign (h : Hub) (fraction freq : Nat) : Hub :=
  let src := h.num Obj.phcSource
  if h.num Obj.phcState = phcLocked ∧ withinDegree (shortestWay (h.phaseRaw h.now) (h.sourcePhase src fraction freq).1) = false then
    (((h.alignPhase src fraction freq).2).realigned (h.alignPhase src fraction freq).1).trackNominal
  else h

/-- A clock LOCKED on a source runs at its frequency, and tracks a phase difference of 1° at most: it takes the difference out over the next cycle
(R53; log entry 95). -/
def Hub.followPhase (h : Hub) (fraction freq : Nat) : Hub :=
  let d := shortestWay (h.phaseRaw h.now) fraction
  let h := h.rebase freq
  if withinDegree d then { h with time := { h.time with phcTrim := (freq : Int) * d / 4294967296 } } else h

/-- coast-limit passes in COASTING (R52). -/
def Hub.phcCoastLimit (h : Hub) : Hub :=
  if h.num Obj.phcState = phcCoasting then
    match h.bestPhase with
    | some c => h.acquire c
    | none => h.phaseInvalid
  else h

/-- The payload of a PHASE frame (R123): the phase is inserted at departure (Hub.departing), correction 0. -/
def Hub.phasePayload (h : Hub) : List Byte :=
  beBytes 8 0 ++ beBytes 8 0 ++ beBytes 4 h.time.phcFreq ++ beBytes 4 (h.num Obj.rocof)
    ++ beBytes 1 (h.num Obj.phcState) ++ beBytes 1 (h.num Obj.phcSource)

/-- A phase master sends a PHASE frame on both paths (R51, R104). A transit-only hub inserts none (R98). -/
def Hub.phaseFrameSend (h : Hub) : Hub :=
  if h.flag Obj.phaseMaster && h.isMember && !h.flag Obj.hubFault then
    h.sendBoth { dst := broadcastId, cls := 1, type := tPhase, stamp := true, payload := h.phasePayload }
  else h

/-- A positive-going zero crossing of LOCAL (R50, R622): amplitude, the mean frequency of the cycle just ended, rocof; LOCAL phase is 0 with
reference-offset added, and a clock that is LOCKED on LOCAL follows it. -/
def Hub.mainsZeroCrossing (h : Hub) (freq amplitude : Nat) : Hub :=
  let h := ({ h with time := { h.time with cycles := (freq :: h.time.cycles).take 8 } }).setNum Obj.amplitude (amplitude % 65536)
  if h.num Obj.phcSource = 1 ∧ (h.num Obj.phcState = phcLocked ∨ h.num Obj.phcState = phcAcquiring) then
    let h := if h.num Obj.phcState = phcLocked ∧ h.time.phcSlow = 0 then h.followPhase (h.sourcePhase 1 0 freq).1 freq else h
    h.setInt Obj.rocof (h.sourceRocof 1)
  else h

/-! ### Captures, snapshots, time outputs -/

/-- Take a snapshot (R74, R76, R77). -/
def Hub.snapshot (h : Hub) (src trig : Nat) : Hub :=
  { h with time := { h.time with snap := {
      seq := (h.time.snap.seq + 1) % 256, trig := trig, sync := h.num Obj.syncState, phcState := h.num Obj.phcState,
      src := src, ltc := h.now, st := h.stamp .H, phc := h.phaseAt h.now } } }

/-- A capture on a TCAP pin (R41, R72): corrected by tcap-delay in 0.5 ns steps, rounded down (DESIGN CHOICE, log entry 95), kept while fewer than 4 are
held. A rising edge on the pin of tcap-pps-pin is the 1PPS edge of TCODE. -/
def Hub.tcapEdge (h : Hub) (i : Nat) (rising : Bool) (frac : Nat) : Hub :=
  let sel := h.num (Obj.tcapEdge i)
  if !(h.flag (Obj.tcapEnable i) && (if rising then sel.testBit 0 else sel.testBit 1)) then h
  else
    let t : Int := (h.now * 5 + frac : Nat) - h.int (Obj.tcapDelay i) / 500
    let t := t.toNat
    let h := if rising && h.num Obj.tcapPpsPin == i then { h with time := { h.time with pps := some (t / 5, t % 5) } } else h
    let fifo := SMap.get (fun _ => []) h.time.tcap i
    if fifo.length < 4 then
      let cap : Capture := { ltc := t / 5, frac := t % 5, rising := rising }
      let h := { h with time := { h.time with
        tcap := SMap.set (fun _ => []) h.time.tcap i (fifo ++ [cap]),
        tcapRun := SMap.set (fun _ => false) h.time.tcapRun i false } }
      (h.setNum (Obj.lastCapture i) (h.stamp128At .H cap.ltc cap.frac)).count (Obj.tcapCount i)
    else
      let run := SMap.get (fun _ => false) h.time.tcapRun i
      let ovf := min 0xFFFF (SMap.get (fun _ => 0) h.time.tcapOvf i + 1)
      let h := { h with time := { h.time with
        tcapRun := SMap.set (fun _ => false) h.time.tcapRun i true, tcapOvf := SMap.set (fun _ => 0) h.time.tcapOvf i ovf } }
      let h := h.count (Obj.tcapOverflows i)
      if run then h else h.notice N.tcapOverflow fidTime [i, ovf]

/-- The head capture of a TCAP pin (R77, R78). -/
def Hub.tcapHeadOf (h : Hub) (i : Nat) : Option Capture := (SMap.get (fun _ => []) h.time.tcap i).head?

/-- A read of TCAPi_HI returns and removes the head capture; 0 when none is held (R75). -/
def Hub.tcapTake (h : Hub) (i : Nat) : Nat × Hub :=
  match SMap.get (fun _ => []) h.time.tcap i with
  | [] => (0, h)
  | c :: cs => (c.ltc / 2 ^ 32 % 2 ^ 32, { h with time := { h.time with tcap := SMap.set (fun _ => []) h.time.tcap i cs } })

/-- The read of TCAPi_HI by a path. -/
def Hub.tcapHead (h : Hub) (path : RegPath) (i : Nat) : Hub := (h.tcapTake i).2.emit (.regValue path (h.tcapTake i).1)

def pathCode : RegPath → Nat
  | .pcie => 0 | .keeper => 1 | .ring => 2 | .station => 3 | .service => 4

/-- A read of LTC_NOW_LO returns the low word and latches the high word for the path (R40). -/
def Hub.ltcLatch (h : Hub) (path : RegPath) : Nat × Hub :=
  (h.now % 2 ^ 32,
    { h with time := { h.time with ltcHi := SMap.set (fun _ => 0) h.time.ltcHi (pathCode path) (h.now / 2 ^ 32) } })

/-- The read of LTC_NOW_LO by a path. -/
def Hub.ltcNowRead (h : Hub) (path : RegPath) : Hub := (h.ltcLatch path).2.emit (.regValue path (h.now % 2 ^ 32))

/-- A TOUT pin goes to a level at an LTC. -/
def Hub.setTout (h : Hub) (i : Nat) (level : Bool) (at_ : Nat) : Hub :=
  ({ h with time := { h.time with toutLevel := SMap.set (fun _ => false) h.time.toutLevel i level } }).emit (.tout i level at_)

/-- Drive a TOUT pin for an edge that marks LTC `l`, tout-delay earlier in 2.5 ns steps, rounded down (R73, R80; DESIGN CHOICE, log entry 95). -/
def Hub.driveTout (h : Hub) (i : Nat) (level : Bool) (l : Nat) : Hub := h.setTout i level ((l : Int) - h.int (Obj.toutDelay i) / 2500).toNat

/-- Ticks from now to an instant of ST, given in ns and counted without wrap; rounded up. -/
def Hub.ticksToSt (h : Hub) (ns : Int) : Int :=
  let rate : Int := (match h.time.segs with | g :: _ => 1000000000 + g.rate | [] => 1000000000)
  0 - ((h.stAt h.now : Int) - ns * (stPerNs : Int)) / rate

/-- The instant of ST that a timed edge marks, in ns, the one nearest to a time (R73): PPS rises at every whole second and falls
tout-pulse-width later; CLOCK rises at every multiple of tout-clock-period and falls half a period later. -/
def Hub.toutInstant (h : Hub) (i : Nat) (rising : Bool) (ns : Int) : Int :=
  let pps := h.num (Obj.toutMode i) == 2
  let p : Int := if pps then 1000000000 else (max 1 (h.num (Obj.toutClockPeriod i)) : Nat)
  let o : Int := if rising then 0 else if pps then (h.num (Obj.toutPulseWidth i) : Nat) else p / 2
  o + p * ((2 * (ns - o) + p) / (2 * p))

/-- A PPS or CLOCK edge falls due (R73): it is driven tout-delay earlier than the instant it marks; in NEVER the pin stays at tout-idle. -/
def Hub.toutTimedEdge (h : Hub) (i : Nat) (rising : Bool) : Hub :=
  let m := h.num (Obj.toutMode i)
  if m ≠ 2 ∧ m ≠ 3 then h
  else if h.num Obj.syncState = syncNever then
    { h with time := { h.time with toutLevel := SMap.set (fun _ => false) h.time.toutLevel i (h.flag (Obj.toutIdle i)) } }
  else
    let due := h.toutInstant i rising ((h.stNs h.now : Nat) + h.int (Obj.toutDelay i) / 1000)
    h.driveTout i rising ((h.now : Int) + h.ticksToSt due).toNat

/-! ### The commands -/

def execTimeSourceQualified (src : TimeSource) (offset rate : Int) (utc : Option Int) (s : State) :
    Host.Outcome State Fault Refusal := s.answer (fun h => h.timeSourceQualified src offset rate utc)

def execTimeSourceLossDeclared (src : TimeSource) (offset rate : Int) (utc : Option Int) (s : State) :
    Host.Outcome State Fault Refusal := s.answer (fun h => h.timeSourceLost src offset rate utc)

def execTimeMapUpdate (rate : Int) (s : State) : Host.Outcome State Fault Refusal :=
  s.answer (fun h => h.timeMapUpdate rate)

def execPhcSourcePresent (src : PhaseSource) (s : State) : Host.Outcome State Fault Refusal :=
  s.answer (fun h => h.phcSourcePresent src)

def execPhcSourceLoss (src : PhaseSource) (s : State) : Host.Outcome State Fault Refusal :=
  s.answer (fun h => h.phcSourceLoss src)

def execPhcLockAchieved (fraction : BitVec 32) (freq : Nat) (s : State) : Host.Outcome State Fault Refusal :=
  s.answer (fun h => h.phcLockAchieved fraction.toNat freq)

def execPhcAlignSlowDone (s : State) : Host.Outcome State Fault Refusal := s.answer Hub.phcAlignSlowDone

def execPhcRealign (fraction : BitVec 32) (freq : Nat) (s : State) : Host.Outcome State Fault Refusal :=
  s.answer (fun h => h.phcRealign fraction.toNat freq)

def execPhcCoastLimitExpired (s : State) : Host.Outcome State Fault Refusal := s.answer Hub.phcCoastLimit

def execPhaseFrameSend (s : State) : Host.Outcome State Fault Refusal := s.answer Hub.phaseFrameSend

def execMainsZeroCrossing (freq amplitude : Nat) (s : State) : Host.Outcome State Fault Refusal :=
  s.answer (fun h => h.mainsZeroCrossing freq amplitude)

/-- SNAP (R74). DESIGN CHOICE (log entry 95): SNAP_TRIG, which R76 defines for SNAP_SRC 1 only, reads 0 after a register write. -/
def execSnap (_path : RegPath) (s : State) : Host.Outcome State Fault Refusal := s.answer (fun h => h.snapshot 0 0)

def execTcapEdge (pin : Fin 4) (rising : Bool) (frac : Fin 5) (s : State) : Host.Outcome State Fault Refusal :=
  s.answer (fun h => h.tcapEdge pin.val rising frac.val)

def execTcapHeadRead (path : RegPath) (pin : Fin 4) (s : State) : Host.Outcome State Fault Refusal :=
  s.answer (fun h => h.tcapHead path pin.val)

def execLtcNowRead (path : RegPath) (s : State) : Host.Outcome State Fault Refusal := s.answer (fun h => h.ltcNowRead path)

def execToutTimedEdge (pin : Fin 4) (rising : Bool) (s : State) : Host.Outcome State Fault Refusal :=
  s.answer (fun h => h.toutTimedEdge pin.val rising)

end Sys2Proof.Machine
end

