-- ==== Sys2Proof/Machine/Ring.lean ====
section
/-!
DEFINITION. The commands of the ring interface (R85 to R128): links, joining, the steward, breaks and epochs, transmit lanes, ring time
and phase. Extraction of DATA, CMD, MGMT and transactions is with the blocks that consume them.
-/
namespace Sys2Proof.Machine

def opJoinReq : Nat := 0x80
def opJoinAck : Nat := 0x81
def opJoinRefuse : Nat := 0x82
def opLeave : Nat := 0x83
def opHello : Nat := 0x84

/-- A class-7 MGMT ring operation (R102). -/
def ringOp (dst op id x y nonce : Nat) : RingFrame :=
  { dst := dst, cls := 7, type := tMgmt, payload := [BitVec.ofNat 8 op, BitVec.ofNat 8 id, BitVec.ofNat 8 x, BitVec.ofNat 8 y] ++ beBytes 4 nonce }

/-- A BRK frame (R102): 1 break, 2 restore. -/
def brkFrame (what m breaks : Nat) : RingFrame :=
  { dst := broadcastId, cls := 7, type := tBrk, payload := [BitVec.ofNat 8 what, BitVec.ofNat 8 m] ++ beBytes 8 breaks }

/-- The NODE_ID strap bits (R95, R620). -/
def Hub.strapId (h : Hub) : Nat := bits (h.num Obj.straps) 6 0

/-- Stay transit-only for a reason (R96, R97, R126). -/
def Hub.joinFailed (h : Hub) (reason : Nat) : Hub :=
  let h := ((h.setNum Obj.joinState joinTransit).setNum Obj.refuseReason reason).setNum Obj.nodeIdInUse 0
  let h := ({ h with ring := { h.ring with tries := 0, listening := false } }).fencesReach
  if reason = 1 then h.notice N.nodeIdDuplicate (fidRingPort 0) [h.ring.wantId]
  else h.notice N.ringJoinFailed (fidRingPort 0) [reason]

/-- Begin a join (R95, R96): take the id, and listen for a beacon. A hub without a valid id is transit-only, which ends the join (R126, R128). -/
def Hub.beginJoin (h : Hub) : Hub :=
  let h := h.applyRwb [Obj.nodeId, Obj.class01Rate, Obj.insertionWeight]
  let dictId := h.num Obj.nodeId
  let strap := h.strapId
  let id := if dictId ≠ 0 then dictId else if 1 ≤ strap ∧ strap ≤ 64 then strap else 0
  let h := h.setNum Obj.idSource (b2n (dictId != 0))
  let h := { h with ring := { h.ring with wantId := id, heard := 0, tries := 0, stewardLost := false } }
  if id = 0 then
    (h.notice N.nodeIdInvalid (fidRingPort 0) [strap]).joinFailed 4
  else
    let h := { h with ring := { h.ring with listening := true } }
    h.setNum Obj.joinState joinJoining

/-- The class-0/1 limit on the sum of rates plus 10 (R100). -/
def Hub.class01Limit (h : Hub) : Nat := if h.num Obj.ringRate = 0 then 527 else 211

/-- Σ granted rates plus 10 of the steward's own table. -/
def Hub.grantSum (h : Hub) : Nat := h.ring.grants.foldl (fun (a : Nat) (p : Nat × Nat) => a + p.2) 10

/-- Notices of the bits a break map has lost and gained (R110, R111, R128). -/
def Hub.breakNotices (h : Hub) (before after : Nat) : Hub :=
  (List.range 64).foldl (fun h i =>
    if after.testBit i = before.testBit i then h
    else h.notice (if after.testBit i then N.ringBreak else N.ringRestored) (fidRingPort 0) [i + 1, h.num Obj.orderingEpoch]) h

/-- The hub knows a steward; a change is notified (R99, R128). -/
def Hub.setSteward (h : Hub) (id : Nat) : Hub :=
  let old := h.num Obj.stewardId
  (h.setNum Obj.stewardId id).when (old != id) (fun h => h.notice N.ringStewardChanged (fidRingPort 0) [old, id])

/-- After a change of maps or order: directions and epoch, and the fences whose target is out of reach (R110 to R112, R148 step 5). -/
def Hub.rerouted (old new : Hub) : Hub := (Hub.recompute old new).fencesReach

/-- The member M of R108 for a lost or restored link of this hub: the hub itself for RING-E; for RING-W the nearest member to its west, as its western
neighbour's HELLO names it (R101), or, before one has come, the member that the ring order lists before the hub. -/
def Hub.spanOf (h : Hub) (west : Bool) : Nat :=
  if !west then h.self
  else if h.ring.helloWestW ≠ 0 then h.ring.helloWestW
  else ((h.order.dropWhile (· != h.self)).tail ++ h.order.takeWhile (· != h.self)).getLastD 0

/-- The break map of a hub that becomes steward (R110): what it has merged, and the spans of its own lost links. -/
def Hub.ownBreaks (h : Hub) : Nat :=
  let add := fun (map : Nat) (west : Bool) =>
    let m := h.spanOf west
    if (h.lane west).lost && decide (1 ≤ m ∧ m ≤ 64) then setBit map (m - 1) else map
  add (add (h.num Obj.breakMap) false) true

/-- Become steward with the hub itself as the only member (R96 step 2, R99); the map of breaks goes on (R110). -/
def Hub.becomeSteward (h : Hub) : Hub :=
  let old := h
  let id := h.ring.wantId
  let rate := h.num Obj.class01Rate
  let h := (h.setNum Obj.joinState joinMember).setNum Obj.nodeIdInUse id
  let h := (h.setNum Obj.memberMap (2 ^ (id - 1))).setOct Obj.ringOrder (BitVec.ofNat 8 id :: List.replicate 63 0)
  let h := h.setNum Obj.breakMap h.ownBreaks
  let h := (h.setNum Obj.grantedClass01Rate rate).setNum Obj.refuseReason 0
  let h := { h with ring := { h.ring with
    listening := false, tries := 0, stewardLost := false, weightSum := h.num Obj.insertionWeight,
    grants := [(id, rate)], weights := [(id, h.num Obj.insertionWeight)], place := [], spans := 0 } }
  let h := Hub.rerouted old (h.setNum Obj.ringClass01Sum h.grantSum)
  (h.setSteward id).breakNotices (old.num Obj.breakMap) (h.num Obj.breakMap)

/-- Send JOIN_REQ to the steward on the port its beacon came by, with SRC 0 and a fresh nonce (R96 step 3). -/
def Hub.sendJoinReq (h : Hub) : Hub :=
  let n := Config.free 32 h.freeCtr
  let h := { h.nextFree with ring := { h.ring with nonce := n } }
  h.sendPortAs h.ring.heardWest 0
    (ringOp h.ring.heard opJoinReq h.ring.wantId (h.num Obj.class01Rate) (h.num Obj.insertionWeight) h.ring.nonce.toNat)

/-! ### Links -/

/-- The break map gains or loses a member's bit (R110, R111): directions, epoch, notice. -/
def Hub.mergeBreak (h : Hub) (broken : Bool) (m : Nat) : Hub :=
  if m = 0 ∨ 64 < m ∨ (h.num Obj.breakMap).testBit (m - 1) = broken then h
  else
    let old := h
    let map := if broken then setBit (h.num Obj.breakMap) (m - 1) else clearBit (h.num Obj.breakMap) (m - 1)
    let h := Hub.rerouted old (h.setNum Obj.breakMap map)
    h.notice (if broken then N.ringBreak else N.ringRestored) (fidRingPort 0) [m, h.num Obj.orderingEpoch]

/-- What waits in the lane of a lost port is turned back or discarded (R109): transit frames into the other lane's transit queues, local ones into its
local queue. -/
def Hub.turnBack (h : Hub) (west : Bool) : Hub :=
  let l := h.lane west
  let h := h.setLane west { l with prio := [], bulk := [], loc := [] }
  let h := (l.prio ++ l.bulk).foldl (fun h f => h.transitOut west f) h
  l.loc.foldl (fun h f => h.toLane west f) h

/-- A port declares its link lost (R86, R87, R109, R110): cause 0 block lock, 1 Remote Fault. Wrapping starts, Remote Fault is sent, and a member sends
BRK through its other port. A port that is DOWN counts its link losses and nothing else. `sends`: its transmit lane runs on; that of a port that is
disabled stops. -/
def Hub.loseLink (h : Hub) (west : Bool) (cause : Nat) (sends : Bool) : Hub :=
  let i := portIx west
  let st := h.num (Obj.rportLinkState i)
  if st = linkDown then h.when (cause == 0) (fun h => h.count (Obj.linkLossTally i))
  else if st = linkRemoteFault ∧ cause = 1 then h
  else
    let h := (h.setNum (Obj.rportLinkState i) (if cause = 1 then linkRemoteFault else linkDown)).count (Obj.linkLossTally i)
    let h := h.setLane west { h.lane west with lost := true }
    let h := (h.when sends (fun h => h.emit (.ringControl west .remoteFault))).turnBack west
    let h := h.notice N.ringLinkLost (fidRingPort i) [i, cause]
    let m := h.spanOf west
    if h.isMember && m != 0 then
      let h := h.mergeBreak true m
      h.sendPort (!west) (brkFrame 1 m (h.num Obj.breakMap))
    else h

/-- A port that is ON declares its link lost (R87). -/
def Hub.declareLost (h : Hub) (west : Bool) (cause : Nat) : Hub := h.loseLink west cause true

/-- A port loses block lock (R86, R87): one that is ON declares its link lost. -/
def Hub.lockLost (h : Hub) (west : Bool) : Hub :=
  let h := h.setLane west { h.lane west with lock := false }
  h.when (h.isOn (fidRingPort (portIx west))) (fun h => h.declareLost west 0)

/-- Block lock is gained (R87): a port that is ON and not UP starts its link-qualify timer. -/
def Hub.lockGained (h : Hub) (west : Bool) : Hub :=
  let h := h.setLane west { h.lane west with lock := true }
  h.when (h.isOn (fidRingPort (portIx west)) && !h.portUp west) (fun h => h.setNum (Obj.rportLinkState (portIx west)) linkQualifying)

/-- Whether a port may come UP (R87): it is ON, and its receive lane holds block lock; a partner's Remote Fault has ended by then. -/
def Hub.mayQualify (h : Hub) (west : Bool) : Bool :=
  let st := h.num (Obj.rportLinkState (portIx west))
  h.isOn (fidRingPort (portIx west)) && (st == linkQualifying || (st == linkRemoteFault && (h.lane west).lock))

/-- Whether the steward has refused the hub (R97): it tries again only on rejoin or a restart. -/
def Hub.refused (h : Hub) : Bool := h.num Obj.refuseReason == 1 || h.num Obj.refuseReason == 2

/-- A port's receive lane has held lock for link-qualify (R87, R96, R97, R111). -/
def Hub.linkQualified (h : Hub) (west : Bool) : Hub :=
  let i := portIx west
  if !h.mayQualify west then h
  else
    let wasLost := (h.lane west).lost
    let h := h.setNum (Obj.rportLinkState i) linkUp
    let h := h.notice N.ringLinkUp (fidRingPort i) [i]
    let m := h.spanOf west
    let h :=
      if wasLost && h.isMember && m != 0 then
        let h := h.mergeBreak false m
        h.sendBoth (brkFrame 2 m (h.num Obj.breakMap))
      else h
    let h := h.setLane west { h.lane west with lost := false }
    if h.isMember || h.num Obj.joinState == joinJoining || h.refused then h else h.beginJoin

/-! ### Beacons, joins, HELLO -/

/-- The maps, order, sums and masters of a beacon take effect (R99, R102, R110, R115). DESIGN CHOICE (log entry 96): its break map takes the place of the
hub's own. -/
def Hub.takeBeacon (h : Hub) (f : RingFrame) : Hub :=
  let old := h
  let p := f.payload
  let brk := beAt p 8 8
  let h := ((h.setNum Obj.memberMap (beAt p 0 8)).setNum Obj.breakMap brk).setOct Obj.ringOrder (slice p 16 64)
  let h := h.setNum Obj.ringClass01Sum (beAt p 80 2)
  let h := { h with ring := { h.ring with weightSum := max 1 (beAt p 82 2) } }
  (Hub.rerouted old h).breakNotices (old.num Obj.breakMap) brk

/-- Store a ring order, filled with 0 to 64 octets (R102). -/
def Hub.setOrder (h : Hub) (ord : List Nat) : Hub :=
  h.setOct Obj.ringOrder ((ord ++ List.replicate 64 0).take 64 |>.map (BitVec.ofNat 8))

/-- Insert a member into the ring order by where the steward places it: before the first of the others that lies farther east. -/
def placeIn (key : Nat → Nat) (id : Nat) : List Nat → List Nat
  | [] => [id]
  | m :: ms => if key id < key m then id :: m :: ms else m :: placeIn key id ms

/-- The place of a member that the steward has not placed: 1 + spans east of it, or 2000 less the spans west of it. -/
def placeUnknown (_ : Nat) : Nat := 1000

/-- The eastward key of a place (R101): round a ring of `spans`, so many spans west are the others east; with the ring's size unknown all that lie west come
last. -/
def eastKey (spans place : Nat) : Nat := if 1000 < place ∧ 2000 - place < spans then spans - (2000 - place) + 1 else place

/-- The key of a member. -/
def Ring.key (r : Ring) (id : Nat) : Nat := eastKey r.spans (SMap.get placeUnknown r.place id)

/-- The steward takes a joiner into its ring order (R101; log entry 96). Its JOIN_REQ came HOPS + 1 spans: by RING-E from the east, by RING-W from the west. -/
def Hub.placeJoiner (h : Hub) (west : Bool) (id hops : Nat) : Hub :=
  let h := { h with ring := { h.ring with place := SMap.set placeUnknown h.ring.place id (if west then 2000 - (hops + 1) else hops + 2) } }
  match h.order with
  | [] => h.setOrder [id]
  | first :: rest => h.setOrder (first :: placeIn h.ring.key id rest)

/-- The steward's own beacon has come back round the ring, and with it the number of its spans (R101, R108): the order of the members follows. -/
def Hub.beaconBack (h : Hub) (hops : Nat) : Hub :=
  if h.isMember = false ∨ h.num Obj.stewardId ≠ h.self ∨ h.ring.spans = hops + 1 then h
  else
    let n := { h with ring := { h.ring with spans := hops + 1 } }
    match n.order with
    | [] => n
    | first :: rest => Hub.rerouted h (n.setOrder (first :: rest.foldl (fun ord m => placeIn n.ring.key m ord) []))

/-- A received beacon (R96, R98, R99, R101): a transit-only hub follows the steward it hears. -/
def Hub.bcnRx (h : Hub) (west : Bool) (f : RingFrame) : Hub :=
  let (ok, h) := h.receive west f
  if f.type ≠ tBcn then h
  else if f.src = h.self ∧ f.intact = true ∧ headerError f = false ∧ f.wrap = false ∧ h.portUp west = true then h.beaconBack f.hops
  else if !ok then h
  else if h.num Obj.joinState = joinJoining then
    if h.ring.listening then { h with ring := { h.ring with heard := f.src, heardWest := west } } else h
  else if h.isMember then
    let st := h.num Obj.stewardId
    if f.src = st then
      let h := { h with ring := { h.ring with stewardLost := false } }
      h.takeBeacon f
    else if st = h.self ∧ h.self < f.src then h
    else (h.setSteward f.src).beginJoin
  else (h.setSteward f.src).takeBeacon f

/-- A received BRK (R110, R111); the broadcast copy has gone on along the ridge path. -/
def Hub.brkRx (h : Hub) (west : Bool) (f : RingFrame) : Hub :=
  let (ok, h) := h.receive west f
  if !ok || !h.isMember || f.type != tBrk then h
  else h.mergeBreak (byteAt f.payload 0 == 1) (byteAt f.payload 1)

/-- 30 µs of listening have passed (R96 steps 2 and 3). DESIGN CHOICE (log entry 96): JOIN_REQ goes out now, to the steward last heard. -/
def Hub.joinListenExpired (h : Hub) : Hub :=
  if h.num Obj.joinState = joinJoining ∧ h.ring.listening = true then
    let h := { h with ring := { h.ring with listening := false } }
    if h.ring.heard = 0 then h.becomeSteward
    else
      ({ h with ring := { h.ring with tries := 1 } }).sendJoinReq
  else h

/-- Whether a frame is a MGMT ring operation of a code (R102). -/
def isRingOp (f : RingFrame) (op : Nat) : Bool := f.type == tMgmt && byteAt f.payload 0 == op

/-- The sum of the members' insertion weights that the steward keeps (R102). -/
def Hub.sumWeights (h : Hub) : Hub :=
  { h with ring := { h.ring with weightSum := h.ring.weights.foldl (fun (a : Nat) (p : Nat × Nat) => a + p.2) 0 } }

/-- The steward answers a JOIN_REQ (R97, R100, R102). A request for an id that no node may have, 0 or above 64, is refused as one for a duplicate id
(DESIGN CHOICE, log entry 96). -/
def Hub.joinReqRx (h : Hub) (west : Bool) (f : RingFrame) : Hub :=
  let (ok, h) := h.receive west f
  if !ok || !h.isMember || h.num Obj.stewardId != h.self || !isRingOp f opJoinReq then h
  else
    let id := byteAt f.payload 1
    let want := byteAt f.payload 2
    let nonce := beAt f.payload 4 4
    let grant := min want (h.class01Limit - h.grantSum)
    if h.memberOf id ∨ id = 0 ∨ 64 < id then h.sendBoth (ringOp broadcastId opJoinRefuse id 1 0 nonce)
    else if grant = 0 then h.sendBoth (ringOp broadcastId opJoinRefuse id 2 0 nonce)
    else
      let old := h
      let h := { h with ring := { h.ring with
        grants := SMap.put h.ring.grants id grant, weights := SMap.put h.ring.weights id (byteAt f.payload 3) } }
      let h := (h.sumWeights.setNum Obj.memberMap (setBit (h.num Obj.memberMap) (id - 1))).placeJoiner west id f.hops
      let h := (h.setNum Obj.ringClass01Sum h.grantSum).setWindow id 0 {}
      let h := Hub.rerouted old (h.setWindow id 1 {})
      h.sendBoth (ringOp broadcastId opJoinAck id grant 0 nonce)

/-- A JOIN_ACK (R96, R99, R100, R106): the joiner whose nonce it carries becomes a member; every receiver clears the source's windows. A joiner whose id
is lower than the steward's is steward from now on. -/
def Hub.joinAckRx (h : Hub) (west : Bool) (f : RingFrame) : Hub :=
  let (ok, h) := h.receive west f
  if !ok || !isRingOp f opJoinAck then h
  else
    let id := byteAt f.payload 1
    let h := (h.setWindow id 0 {}).setWindow id 1 {}
    if h.num Obj.joinState = joinJoining ∧ h.ring.tries ≠ 0 ∧ beAt f.payload 4 4 = h.ring.nonce.toNat then
      let granted := byteAt f.payload 2
      let want := h.num Obj.class01Rate
      let h := ((h.setNum Obj.joinState joinMember).setNum Obj.nodeIdInUse id).setSteward f.src
      let h := (h.setNum Obj.grantedClass01Rate granted).setNum Obj.refuseReason 0
      let h := { h with ring := { h.ring with tries := 0 } }
      let h := h.when (decide (granted < want)) (fun h => h.notice N.ringClass01Limited (fidRingPort 0) [want, granted])
      h.when (decide (id < f.src)) Hub.becomeSteward
    else h

/-- A JOIN_REFUSE (R97, R100). -/
def Hub.joinRefuseRx (h : Hub) (west : Bool) (f : RingFrame) : Hub :=
  let (ok, h) := h.receive west f
  if ok && isRingOp f opJoinRefuse && h.num Obj.joinState == joinJoining && h.ring.tries != 0
      && beAt f.payload 4 4 == h.ring.nonce.toNat then h.joinFailed (byteAt f.payload 2)
  else h

/-- No answer within 100 µs (R96 step 5): step 3 again, with a fresh nonce. -/
def Hub.joinTimeout (h : Hub) : Hub :=
  if h.num Obj.joinState = joinJoining ∧ h.ring.tries ≠ 0 then
    if h.ring.tries < 3 then
      ({ h with ring := { h.ring with tries := h.ring.tries + 1 } }).sendJoinReq
    else h.joinFailed 3
  else h

/-- A member leaves (R102): it goes from the maps, the order and the sums. -/
def Hub.leaveRx (h : Hub) (west : Bool) (f : RingFrame) : Hub :=
  let (ok, h) := h.receive west f
  let id := byteAt f.payload 1
  if !ok || !h.isMember || !isRingOp f opLeave || !h.memberOf id then h
  else
    let old := h
    let ord := h.order.filter (· != id)
    let h := (h.setNum Obj.memberMap (clearBit (h.num Obj.memberMap) (id - 1))).setOrder ord
    let h := { h with ring := { h.ring with grants := SMap.erase h.ring.grants id, weights := SMap.erase h.ring.weights id,
                                            place := SMap.set placeUnknown h.ring.place id 1000 } }
    let h := h.when (h.num Obj.stewardId == h.self) (fun h => h.sumWeights.setNum Obj.ringClass01Sum h.grantSum)
    Hub.rerouted old h

/-- The steward places a neighbour in the ring order (R101): its eastern one second, its western one last. -/
def Hub.placeNeighbour (h : Hub) (west : Bool) (nb : Nat) : Hub :=
  if h.isMember && h.num Obj.stewardId == h.self && h.memberOf nb && nb != h.self then
    let rest := (h.order.filter (fun x => x != nb && x != h.self))
    let n := { h with ring := { h.ring with place := SMap.set placeUnknown h.ring.place nb (if west then 2000 else 1) } }
    Hub.rerouted h (n.setOrder (if west then h.self :: rest ++ [nb] else h.self :: nb :: rest))
  else h

/-- A HELLO tells the neighbour, and the nearest member to its west (R91, R101); the steward learns the order. -/
def Hub.helloRx (h : Hub) (west : Bool) (f : RingFrame) : Hub :=
  let (ok, h) := h.frameArrives west f
  if !ok || !f.intact || !isRingOp f opHello then h
  else
    let id := byteAt f.payload 1
    let wm := byteAt f.payload 2
    if west then
      ({ h.setNum Obj.neighbourW id with ring := { h.ring with helloWestW := wm } }).placeNeighbour true (if id = 0 then wm else id)
    else ({ h.setNum Obj.neighbourE id with ring := { h.ring with helloWestE := wm } }).placeNeighbour false id

/-- rejoin written true: LEAVE is sent and the hub joins again (R96, R125). -/
def Hub.doRejoin (h : Hub) : Hub :=
  let h := h.when h.isMember (fun h => h.sendBoth (ringOp broadcastId opLeave h.self 0 0 0))
  h.beginJoin

/-- Whether the hub is a candidate for ring time master and no lower-id candidate has been heard within 10 ms (R119). -/
def Hub.timeCandidate (h : Hub) : Bool :=
  h.flag Obj.ringTimeCandidate && h.isMember && (h.num Obj.syncState == 1 || h.num Obj.syncState == 3)
    && !(aliveIds h.ring.syncSeen h.now syncAlive).any (fun i => decide (i < h.self))

/-- Ticks of two nominal cycles (R51). -/
def Hub.twoCycles (h : Hub) : Nat := 800000000000 / h.num Obj.nominalFrequency

/-- Whether the hub sends PHASE frames as a phase master (R51). -/
def Hub.phaseSender (h : Hub) : Bool := h.flag Obj.phaseMaster && h.isMember

/-- The lowest-id sender of PHASE frames within two nominal cycles (R51); 0 none. -/
def Hub.lowestPhase (h : Hub) : Nat := (aliveIds h.ring.phaseSeen h.now h.twoCycles).headD 0

/-- The payload of a beacon (R102). The steward is itself the time or phase master where it sends SYNC or PHASE and no lower id does. -/
def Hub.bcnPayload (h : Hub) : List Byte :=
  let tm := if h.timeCandidate then h.self else h.num Obj.timeMasterId
  let pm := if h.phaseSender && (h.lowestPhase == 0 || decide (h.self < h.lowestPhase)) then h.self else h.lowestPhase
  beBytes 8 (h.num Obj.memberMap) ++ beBytes 8 (h.num Obj.breakMap)
    ++ (h.oct Obj.ringOrder ++ List.replicate 64 0).take 64
    ++ beBytes 2 h.grantSum ++ beBytes 2 h.ring.weightSum
    ++ beBytes 1 tm ++ beBytes 1 pm ++ beBytes 2 0 ++ beBytes 4 h.ring.beaconCount

/-- The steward's beacon, in both directions (R99). -/
def Hub.bcnSend (h : Hub) : Hub :=
  if h.isMember && h.num Obj.stewardId == h.self && h.self != 0 && !h.flag Obj.hubFault then
    let h := { h with ring := { h.ring with beaconCount := (h.ring.beaconCount + 1) % 2 ^ 32 } }
    h.sendBoth { dst := broadcastId, cls := 7, type := tBcn, payload := h.bcnPayload }
  else h

/-- Three consecutive beacons are missed (R99). -/
def Hub.beaconMissed (h : Hub) : Hub :=
  if h.isMember && h.num Obj.stewardId != h.self then { h with ring := { h.ring with stewardLost := true } } else h

/-- The member's rank wait after the loss of the steward expires: it starts beaconing (R99). -/
def Hub.rankWaitExpired (h : Hub) : Hub :=
  if h.isMember && h.ring.stewardLost then
    ({ h with ring := { h.ring with wantId := h.self } }).becomeSteward
  else h

/-- HELLO on one port, where it is UP (R101). -/
def Hub.helloPort (h : Hub) (west : Bool) : Hub :=
  let id := if h.isMember then h.self else 0
  h.when (h.portUp west) (fun h =>
    h.sendPortAs west id (ringOp broadcastId opHello id (if h.isMember then h.self else h.ring.helloWestW) 0 0))

/-- HELLO on each UP port: the hub's id, and the nearest member to its west (R101). -/
def Hub.helloSend (h : Hub) : Hub := if h.flag Obj.hubFault then h else (h.helloPort false).helloPort true

/-! ### Transmit lanes -/

/-- Insertion credit resets each 10 µs (R115). -/
def Hub.creditPeriod (h : Hub) (west : Bool) : Hub :=
  let p := if h.num Obj.ringRate = 0 then 31250 else 12500
  h.setLane west { h.lane west with credit := p * h.num Obj.insertionWeight / h.ring.weightSum }

/-- The class-0/1 token bucket refills: up to the granted rate (R116). -/
def Hub.tokenRefill (h : Hub) (west : Bool) : Hub :=
  h.setLane west { h.lane west with tokens := h.num Obj.grantedClass01Rate }

/-- The order in which local classes 2 to 7 leave (R113). -/
def classOrder : List Nat := [7, 3, 2, 6, 4, 5]

/-- The octets a lane's BULK queue holds (R114). -/
def bulkBytes (l : Lane) : Nat := l.bulk.foldl (fun a f => a + f.payload.length + 20) 0

/-- The first local frame that satisfies a test, and the rest. -/
def pickLocal (p : RingFrame → Bool) : List RingFrame → Option (RingFrame × List RingFrame)
  | [] => none
  | f :: fs => if p f then some (f, fs) else (pickLocal p fs).map (fun r => (r.1, f :: r.2))

/-- The first local frame of the class that leaves first (R113). -/
def pickClass (loc : List RingFrame) : List Nat → Option (RingFrame × List RingFrame)
  | [] => none
  | c :: cs =>
    match pickLocal (fun f => f.cls == c && f.type != tBcn && f.type != tBrk) loc with
    | some r => some r
    | none => pickClass loc cs

/-- Replace the octets of a payload from an offset on. -/
def patch (p : List Byte) (at_ : Nat) (bs : List Byte) : List Byte := p.take at_ ++ bs ++ p.drop (at_ + bs.length)

/-- ST at a tick and a number of fifths of it, in 2^-16 ns. -/
def Hub.stUnits (h : Hub) (l frac5 : Nat) : Nat := (h.stAt l + frac5 * 200000000) * 65536 / stPerNs

/-- The fraction of now at which a port's transmitting PHY stamps a departure, in fifths of a tick (R39): a free value. -/
def Hub.txFrac (h : Hub) (west : Bool) : Nat := (Config.txFraction west h.now).val

/-- Residence of a frame that came at a tick and a fraction of it and leaves a port now, from PHY to PHY, in 2^-16 ns (R39, R121). -/
def Hub.residence (h : Hub) (west : Bool) (f : RingFrame) : Nat :=
  ticksBetween (f.rxAt - 1) h.now * 163840 + h.txFrac west * 32768 - f.frac * 32768

/-- Where the correction stands in a frame that has one (R120, R123). -/
def correctionAt (f : RingFrame) : Nat := if f.type = tPhase then 8 else 20

/-- What the transmitting PHY puts into a frame as it departs (R39, R94, R120, R121, R123): into SYNC the origin ST, into DELAY_REQ t1, into DELAY_RESP t3, into
PHASE the phase; a SYNC or PHASE frame in transit has its residence time added to its correction instead. -/
def Hub.departing (h : Hub) (west : Bool) (f : RingFrame) : RingFrame :=
  if f.rxAt ≠ 0 then
    let at_ := correctionAt f
    { f with payload := patch f.payload at_ (beBytes 8 (beAt f.payload at_ 8 + h.residence west f)) }
  else if f.stamp = false then f
  else if f.type = tPhase then { f with payload := patch f.payload 0 (beBytes 8 (h.phaseRaw h.now + phaseFifths h.phaseLine.rate (h.txFrac west))) }
  else if f.type = tTime then { f with payload := patch f.payload (if byteAt f.payload 0 = 2 then 20 else 4) (beBytes 16 (h.stamp128At .H h.now (h.txFrac west))) }
  else f

/-- A frame leaves on a lane, sealed with its trailer (R92, R93). One whose body stalled carries Idle and ends with the abort marker (R117). -/
def Hub.laneSend (h : Hub) (west : Bool) (l : Lane) (f : RingFrame) : Hub :=
  let l := if f.type = tTime ∧ byteAt f.payload 0 = 1 then { l with delayT1 := h.stUnits h.now (h.txFrac west) } else l
  let g := (h.departing west f).sealed
  let h := ((h.setLane west l).count (Obj.rportFramesTx (portIx west))).emit (.ringFrame west g)
  h.when f.aborted (fun h => (h.emit (.ringControl west .idle)).emit (.ringControl west .abortMarker))

/-- Whether a local frame spends a token: classes 0 and 1 (R116). -/
def spendsToken (f : RingFrame) : Bool := f.cls == 0 || f.cls == 1

/-- Mark the first frame of a queue that equals one as counted in credit-waits (R115). -/
def markWaited (f : RingFrame) : List RingFrame → List RingFrame
  | [] => []
  | g :: gs => if g = f then { g with waited := true } :: gs else g :: markWaited f gs

/-- At a frame boundary a lane picks its next frame by rank (R113 to R116). A lane whose port is not UP is stopped, or carries Remote Fault alone (R87). In
hub fault the hub inserts nothing of its own (R488). A local frame that must wait for credit counts once in credit-waits (R115). -/
def Hub.txFrameDone (h : Hub) (west : Bool) : Hub :=
  let l := h.lane west
  let loc := if h.flag Obj.hubFault then [] else l.loc
  if h.portUp west = false then h
  else
    match pickLocal (fun f => f.type == tBrk) l.prio with
    | some (f, r) => h.laneSend west { l with prio := r } f
    | none =>
      match pickLocal (fun f => f.type == tBrk) loc with
      | some (f, r) => h.laneSend west { l with loc := r } f
      | none =>
        match l.prio with
        | f :: r => h.laneSend west { l with prio := r } f
        | [] =>
          match pickLocal (fun f => f.type == tBcn || (spendsToken f && decide (0 < l.tokens))) loc with
          | some (f, r) =>
            h.laneSend west { l with loc := r, tokens := if spendsToken f then l.tokens - 1 else l.tokens } f
          | none =>
            let cand := if bulkBytes l > 16384 then none else pickClass loc classOrder
            match l.bulk, cand with
            | [], none => h
            | t :: ts, none => h.laneSend west { l with bulk := ts } t
            | [], some (f, r) => h.laneSend west { l with loc := r } f
            | t :: ts, some (f, r) =>
              if f.occupancy ≤ l.credit then h.laneSend west { l with loc := r, credit := l.credit - f.occupancy } f
              else (h.laneSend west { l with bulk := ts, loc := markWaited f l.loc } t).when (!f.waited)
                (fun h => h.count (Obj.creditWaits (portIx west)))

/-! ### Ring time and phase -/

/-- A port measures its receive span: DELAY_REQ to a neighbour that is a member; t1 is taken at departure (R120, R121). PATH names the port it leaves by: R104 sends every
TIME frame on both, R120 this one to the neighbour only (DESIGN CHOICE, log entry 96). -/
def Hub.linkDelayMeasure (h : Hub) (west : Bool) : Hub :=
  let nb := h.num (if west then Obj.neighbourW else Obj.neighbourE)
  if !h.portUp west || !h.isMember || nb == 0 || h.flag Obj.hubFault then h
  else
    h.sendPort west {
      dst := nb, cls := 1, type := tTime, stamp := true,
      payload := beBytes 4 0x01000000 ++ beBytes 16 0 }

/-- A TIME frame for this hub alone, which no ridge path forwards (R91, R93, R98, R106, R120): whether a member takes it. -/
def Hub.neighbourFrame (h : Hub) (west : Bool) (f : RingFrame) (subtype : Nat) : Bool × Hub :=
  let (ok, h) := h.frameArrives west f
  if !ok || !f.intact || !h.isMember || f.type != tTime || byteAt f.payload 0 != subtype then (false, h) else h.windowPass f

/-- A port answers a neighbour's DELAY_REQ with its receipt; t3 is inserted at departure (R120). PATH as in Hub.linkDelayMeasure. -/
def Hub.delayReqRx (h : Hub) (west : Bool) (f : RingFrame) : Hub :=
  let (ok, h) := h.neighbourFrame west f 1
  if !ok then h
  else
    h.sendPort west {
      dst := f.src, cls := 1, type := tTime, stamp := true,
      payload := beBytes 4 0x02000000 ++ beBytes 16 (h.stamp128At .H h.now f.frac) ++ beBytes 16 0 }

/-- The time a STAMP128 carries, in 2^-16 ns (R8). -/
def stamp128Units (v : Nat) : Nat := ((v / 2 ^ 80) * 1000000000 + v / 2 ^ 48 % 2 ^ 32) * 65536 + v / 2 ^ 32 % 65536

/-- A port computes a link-delay value from a DELAY_RESP: ((t4 − t1) − (t3 − t2)) / 2 + asymmetry, in ps, and link-delay is the mean of
the last 8 (R121). -/
def Hub.delayRespRx (h : Hub) (west : Bool) (f : RingFrame) : Hub :=
  let i := portIx west
  let (ok, h) := h.neighbourFrame west f 2
  if !ok then h
  else
    let t2 : Int := stamp128Units (beAt f.payload 4 16)
    let t3 : Int := stamp128Units (beAt f.payload 20 16)
    let t1 : Int := (h.lane west).delayT1
    let t4 : Int := h.stUnits h.now f.frac
    let d := ((t4 - t1) - (t3 - t2)) * 500 / 65536 + h.int (Obj.asymmetry i)
    let ds := (d :: (h.lane west).delays).take 8
    let h := h.setLane west { h.lane west with delays := ds }
    h.setNum (Obj.linkDelay i) ((ds.foldl (· + ·) (0 : Int)) / (ds.length : Int)).toNat

/-- A candidate sends SYNC; the origin is inserted at departure (R119, R120). -/
def Hub.timeSyncSend (h : Hub) : Hub :=
  let h := h.followMaster
  if h.timeCandidate && !h.flag Obj.hubFault then
    h.sendBoth {
      dst := broadcastId, cls := 1, type := tTime, stamp := true,
      payload := [0x00, BitVec.ofNat 8 (h.num Obj.utcOffsetKnown), 0, 0] ++ beBytes 16 0 ++ beBytes 8 0
        ++ beBytes 1 (h.num Obj.syncState) ++ beBytes 1 (h.num Obj.timeSource) ++ beBytes 2 (h.num Obj.utcOffset)
        ++ beBytes 4 ((h.uncertaintyU).getD 0xFFFFFFFF) }
  else h

/-- The link-delay of a port in 2^-16 ns. -/
def Hub.linkUnits (h : Hub) (west : Bool) : Nat := h.num (Obj.linkDelay (portIx west)) * 65536 / 1000

/-- A SYNC or PHASE frame as it goes on along the ridge path (R121, R123): link-delay of the receive span joins its correction, 5 ns the uncertainty of a
SYNC; its residence time is added as it departs (Hub.departing). -/
def Hub.stampedOn (h : Hub) (west : Bool) (f : RingFrame) : RingFrame :=
  let at_ := correctionAt f
  let p := patch f.payload at_ (beBytes 8 (beAt f.payload at_ 8 + h.linkUnits west))
  { f with rxAt := h.now + 1, payload := if f.type = tPhase then p else patch p 32 (beBytes 4 (min 0xFFFFFFFF (beAt p 32 4 + 5))) }

/-- The checks of a received broadcast whose payload changes on transit; answers whether the hub takes it (R91, R93, R106, R108). -/
def Hub.receiveStamped (h : Hub) (west : Bool) (f : RingFrame) : Bool × Hub :=
  let (ok, h) := h.frameArrives west f
  if !ok || (f.src != 0 && f.src == h.self) then (false, h)
  else
    let h := h.passOn west (decide (f.crc ≠ .ok)) (h.stampedOn west f)
    if f.intact then h.windowPass f else (false, h)

/-- Ring time at receipt, less the hub's own (R121): origin + correction + link-delay of the receive port, in ns. -/
def Hub.syncOffset (h : Hub) (west : Bool) (f : RingFrame) : Int :=
  ((stamp128Units (beAt f.payload 4 16) : Nat) + toSigned 64 (beAt f.payload 20 8) + (h.linkUnits west : Nat)
    - (h.stUnits h.now f.frac : Nat)) / 65536

/-- A received SYNC (R41, R119, R121, R122): the lowest-id master in LOCK_PTP or LOCK_TCODE is followed; its time reaches the time unit. -/
def Hub.timeSyncRx (h : Hub) (west : Bool) (f : RingFrame) : Hub :=
  if f.type ≠ tTime ∨ byteAt f.payload 0 ≠ 0 then h
  else
    let (ok, h) := h.receiveStamped west f
    if !ok then h
    else
      let good := byteAt f.payload 28 == 1 || byteAt f.payload 28 == 3
      let h := { h with ring := { h.ring with syncSeen := SMap.set (fun _ => 0) h.ring.syncSeen f.src (if good then h.now + 1 else 0) } }
      let h := h.followMaster
      if h.num Obj.timeMasterId = f.src ∧ h.num Obj.timeSource = 2 then
        let utc := if byteAt f.payload 1 % 2 = 1 then some (toSigned 16 (beAt f.payload 30 2)) else none
        (h.takeUtc utc).measureOffset (h.syncOffset west f)
      else h

/-- What a followed master's PHASE frame says (R39, R50, R123): its phase at receipt, PHASE64 + (correction + link-delay) × frequency, kept as the phase at
the tick of the receipt stamp; its frequency and rocof; and whether RING phase is present. -/
def Hub.takePhase (h : Hub) (west : Bool) (f : RingFrame) : Hub :=
  let fq := beAt f.payload 16 4
  let st := byteAt f.payload 24
  let delay : Int := toSigned 64 (beAt f.payload 8 8) + (h.linkUnits west : Nat)
  let ph : Int := (beAt f.payload 0 8 : Nat) + delay * (fq : Nat) * 4294967296 / (65536 * 1000000000000000)
  { h with time := { h.time with
    ringL0 := h.now, ringPhase := ((ph - (phaseFifths fq f.frac : Nat)) % 2 ^ 64).toNat, ringFreq := fq, ringRocof := toSigned 32 (beAt f.payload 20 4),
    ringGood := (st == phcLocked || st == phcCoasting) && decide (15000000 ≤ fq ∧ fq ≤ 72000000) } }

/-- The phase clock follows RING (R53, R622): LOCKED it tracks the master's phase and frequency; rocof is the master's in LOCKED and ACQUIRING. -/
def Hub.followRing (h : Hub) : Hub :=
  if h.time.ringGood = false then h
  else
    let h := h.phcSourcePresent .ring
    if h.num Obj.phcSource = 2 ∧ (h.num Obj.phcState = phcLocked ∨ h.num Obj.phcState = phcAcquiring) then
      let h := if h.num Obj.phcState = phcLocked ∧ h.time.phcSlow = 0 then h.followPhase (h.ringPhaseAt h.now % 2 ^ 32) h.time.ringFreq else h
      h.setInt Obj.rocof h.time.ringRocof
    else h

/-- A received PHASE frame (R50, R51, R123): the lowest-id sender that passes the two-cycle test is followed, and a frame of any other sender counts as a
conflict. -/
def Hub.phaseRx (h : Hub) (west : Bool) (f : RingFrame) : Hub :=
  if f.type ≠ tPhase then h
  else
    let (ok, h) := h.receiveStamped west f
    if !ok then h
    else
      let h := { h with ring := { h.ring with phaseSeen := SMap.set (fun _ => 0) h.ring.phaseSeen f.src (h.now + 1) } }
      let h := { h with ring := { h.ring with phaseMasterId := h.lowestPhase } }
      if h.ring.phaseMasterId ≠ f.src then h.count Obj.phaseMasterConflicts
      else (h.takePhase west f).followRing

/-! ### The commands -/

def execRingLinkQualified (west : Bool) (s : State) : Host.Outcome State Fault Refusal :=
  s.answer (fun h => h.linkQualified west)

def execRingBlockLockGained (west : Bool) (s : State) : Host.Outcome State Fault Refusal := s.answer (fun h => h.lockGained west)

def execRemoteFaultRx (west : Bool) (s : State) : Host.Outcome State Fault Refusal :=
  s.answer (fun h => h.when (h.isOn (fidRingPort (portIx west))) (fun h => h.declareLost west 1))

def execRingOrphanBlocks (west : Bool) (bytes : Nat) (s : State) : Host.Outcome State Fault Refusal :=
  s.answer (fun h => h.when (h.portUp west) (fun h => (h.count (Obj.orphanBursts (portIx west))).countN (Obj.orphanBytes (portIx west)) bytes))

def execBcnRx (west : Bool) (f : RingFrame) (s : State) : Host.Outcome State Fault Refusal := s.answer (fun h => h.bcnRx west f)
def execBrkRx (west : Bool) (f : RingFrame) (s : State) : Host.Outcome State Fault Refusal := s.answer (fun h => h.brkRx west f)
def execJoinListenExpired (s : State) : Host.Outcome State Fault Refusal := s.answer Hub.joinListenExpired
def execJoinReqRx (west : Bool) (f : RingFrame) (s : State) : Host.Outcome State Fault Refusal :=
  s.answer (fun h => h.joinReqRx west f)
def execJoinAckRx (west : Bool) (f : RingFrame) (s : State) : Host.Outcome State Fault Refusal :=
  s.answer (fun h => h.joinAckRx west f)
def execJoinRefuseRx (west : Bool) (f : RingFrame) (s : State) : Host.Outcome State Fault Refusal :=
  s.answer (fun h => h.joinRefuseRx west f)
def execJoinAnswerTimeout (s : State) : Host.Outcome State Fault Refusal := s.answer Hub.joinTimeout
def execLeaveRx (west : Bool) (f : RingFrame) (s : State) : Host.Outcome State Fault Refusal := s.answer (fun h => h.leaveRx west f)
def execHelloRx (west : Bool) (f : RingFrame) (s : State) : Host.Outcome State Fault Refusal := s.answer (fun h => h.helloRx west f)
def execBcnSend (s : State) : Host.Outcome State Fault Refusal := s.answer Hub.bcnSend
def execBeaconMissed (s : State) : Host.Outcome State Fault Refusal := s.answer Hub.beaconMissed
def execStewardRankWaitExpired (s : State) : Host.Outcome State Fault Refusal := s.answer Hub.rankWaitExpired
def execHelloSend (s : State) : Host.Outcome State Fault Refusal := s.answer Hub.helloSend
def execInsertionCreditPeriod (west : Bool) (s : State) : Host.Outcome State Fault Refusal :=
  s.answer (fun h => h.creditPeriod west)
def execClass01TokenRefill (west : Bool) (s : State) : Host.Outcome State Fault Refusal := s.answer (fun h => h.tokenRefill west)
def execRingTxFrameDone (west : Bool) (s : State) : Host.Outcome State Fault Refusal := s.answer (fun h => h.txFrameDone west)
def execLinkDelayMeasure (west : Bool) (s : State) : Host.Outcome State Fault Refusal :=
  s.answer (fun h => h.linkDelayMeasure west)
def execTimeSyncSend (s : State) : Host.Outcome State Fault Refusal := s.answer Hub.timeSyncSend
def execTimeSyncRx (west : Bool) (f : RingFrame) (s : State) : Host.Outcome State Fault Refusal :=
  s.answer (fun h => h.timeSyncRx west f)
def execDelayReqRx (west : Bool) (f : RingFrame) (s : State) : Host.Outcome State Fault Refusal :=
  s.answer (fun h => h.delayReqRx west f)
def execDelayRespRx (west : Bool) (f : RingFrame) (s : State) : Host.Outcome State Fault Refusal :=
  s.answer (fun h => h.delayRespRx west f)
def execPhaseRx (west : Bool) (f : RingFrame) (s : State) : Host.Outcome State Fault Refusal := s.answer (fun h => h.phaseRx west f)
def execSeqWindowAgeExpired (src : Fin 128) (cls : Fin 2) (s : State) : Host.Outcome State Fault Refusal :=
  s.answer (fun h => h.setWindow src.val cls.val {})

end Sys2Proof.Machine
end

