-- ==== Sys2Proof/Machine/Switch.lean ====
section
/-!
DEFINITION. The switch core (R171 to R203, R625): routes and the forwarding table, admission and tail drop, the scheduler, outputs
and what they hand to their consumers.
-/
namespace Sys2Proof.Machine

/-! ### Forwarding table -/

/-- The copy of the forwarding table named by an epoch. -/
def Hub.fwdCopy (h : Hub) (epoch : Nat) : SMap Nat := if epoch = 0 then h.sw.fwd0 else h.sw.fwd1

/-- The entry of a route in the active copy, or in the alternate one. -/
def Hub.route (h : Hub) (r : Nat) : Nat := SMap.get (fun _ => 0) (h.fwdCopy (h.num Obj.fwdEpoch)) r
def Hub.altRoute (h : Hub) (r : Nat) : Nat := SMap.get (fun _ => 0) (h.fwdCopy (1 - h.num Obj.fwdEpoch)) r

/-- Store the alternate copy. -/
def Hub.setAlt (h : Hub) (m : SMap Nat) : Hub :=
  if h.num Obj.fwdEpoch = 0 then { h with sw := { h.sw with fwd1 := m } } else { h with sw := { h.sw with fwd0 := m } }

/-! Fields of an entry (R178). -/

def rtValid (e : Nat) : Bool := e.testBit 31
def rtCt (e : Nat) : Bool := e.testBit 30
def rtClass (e : Nat) : Nat := bits e 29 27
def rtRingStamp (e : Nat) : Bool := e.testBit 26
def rtTargets (e : Nat) : Nat := bits e 17 0
def rtHostQ (e : Nat) : Nat := bits e 37 32
def rtRingDst (e : Nat) : Nat := bits e 47 40
def rtLabel (e : Nat) : Nat := bits e 63 48
def rtMaxFrame (e : Nat) : Nat := bits e 76 64
def rtDroute (e : Nat) : Nat := bits e 91 80
def rtSvc (e : Nat) : Nat := bits e 111 96
def rtClDest (e : Nat) : Nat := bits e 119 112
def rtBurst (e : Nat) : Nat := bits e 127 120

/-- Octets a queue's buffer holds (R217). -/
def Hub.queueBuffer (h : Hub) (q : Nat) : Nat :=
  h.num (Obj.qDepth q) * (if h.isWord q then 7 else h.num (Obj.bufferSize q))

/-- Cells of a frame of ring payload `b` (R173). -/
def cellsOf (b : Nat) : Nat := (b + 20 + 63) / 64

/-- The class-0 route budget of a copy of the table (R189). -/
def c0Budget (m : SMap Nat) : Nat :=
  m.foldl (fun (a : Nat) (p : Nat × Nat) =>
    if rtValid p.2 && rtClass p.2 == 0 then a + rtBurst p.2 * ((rtMaxFrame p.2 + 24 + 63) / 64) else a) 0

/-- The checks of R179 on one VALID entry: 0, or the abort code CONFLICT (7) or RANGE (6). -/
def Hub.checkEntry (h : Hub) (e : Nat) : Nat :=
  let t := rtTargets e
  let ringBit := t.testBit 12
  let clusterBit := t % 4096 != 0
  let hostBit := t.testBit 16
  let d := rtClDest e
  if t = 0 ∨ t.testBit 13 = true then 7
  else if rtClass e ≠ 0 ∧ rtClass e ≠ 4 ∧ rtClass e ≠ 5 then 7
  else if clusterBit && decide (15 < d) && d != 0x80 && d != 0x81 then 7
  else if ringBit && (rtRingDst e == 0 || decide (65 ≤ rtRingDst e ∧ rtRingDst e ≤ 126) || decide (127 < rtRingDst e)
      || rtRingDst e == h.self) then 7
  else if ringBit && rtClass e == 0 && decide (252 < rtMaxFrame e) then 7
  else if rtClass e = 0 ∧ rtBurst e = 0 then 7
  else if hostBit && (rtHostQ e == 63 || !h.isD2H (rtHostQ e)) then 7
  else if rtMaxFrame e = 0 ∨ 4092 < rtMaxFrame e then 6
  else if hostBit && !rtCt e && decide (h.queueBuffer (rtHostQ e) < rtMaxFrame e) then 6
  else if decide (d ≤ 15) && (List.range 12).any (fun k => t.testBit k && h.num (Obj.chMode (16 * k + d)) == 1
      && decide (h.num (Obj.uartTxBuffer (16 * k + d)) < rtMaxFrame e)) then 6
  else 0

/-- The checks of a commit on a copy (R179, R184, R189): the first code that is not 0. -/
def Hub.checkFwd (h : Hub) (m : SMap Nat) : Nat :=
  let codes := ((m.filter (fun p => rtValid p.2)).map (fun p => h.checkEntry p.2)).filter (· != 0)
  if codes.contains 7 ∨ 1280 < c0Budget m then 7 else codes.headD 0

/-- Entries of the alternate copy that differ from the active one (R201). -/
def Hub.stagedCount (h : Hub) : Nat :=
  let a := h.fwdCopy (h.num Obj.fwdEpoch)
  let b := h.fwdCopy (1 - h.num Obj.fwdEpoch)
  (a.filter (fun p => SMap.get (fun _ => 0) b p.1 != p.2)).length
    + (b.filter (fun p => SMap.get (fun _ => 0) a p.1 == 0 && p.2 != 0)).length

/-- The frames in the buffer. -/
def Hub.stored (h : Hub) : List SwFrame := h.sw.frames.filterMap (fun p => p.2)

/-- Frames freed within the present cell time: their cells return at its end (R196). -/
def Hub.freedNow (h : Hub) : List (Nat × SwFrame) := h.sw.freed.filter (fun x => x.1 / 4 == h.now / 4)

/-- The frames that hold cells. -/
def Hub.holding (h : Hub) : List SwFrame := h.stored ++ h.freedNow.map (·.2)

/-- Frames holding cells under the epoch that is not active (R183). -/
def Hub.drainCount (h : Hub) : Nat := (h.holding.filter (fun f => f.epoch != h.num Obj.fwdEpoch)).length

/-- Before a staging write: the first one after a flip copies the active table into the alternate (R184). -/
def Hub.openStaging (h : Hub) : Hub :=
  if h.sw.staged then h
  else
    let h := h.setAlt (h.fwdCopy (h.num Obj.fwdEpoch))
    { h with sw := { h.sw with staged := true } }

/-- Stage one entry (R184, R201). -/
def Hub.stageEntry (h : Hub) (r e : Nat) : Hub :=
  let h := h.openStaging
  h.setAlt (SMap.set (fun _ => 0) (h.fwdCopy (1 - h.num Obj.fwdEpoch)) r e)

/-- The whole alternate copy from the 65,536 octets of 0x1710:01 (R200). -/
def Hub.loadTable (h : Hub) (data : List Byte) : Hub :=
  let h := h.openStaging
  h.setAlt ((List.range 4096).foldl (fun m i => SMap.set (fun _ => 0) m i (leAt data (16 * i) 16)) [])

/-- The octets of the active copy (R200). -/
def Hub.tableBytes (h : Hub) : List Byte := (List.range 4096).flatMap (fun r => leBytes 16 (h.route r))

/-- commit written true after its checks have passed: the table flips (R184). -/
def Hub.flip (h : Hub) : Hub :=
  let n := h.stagedCount
  let e := 1 - h.num Obj.fwdEpoch
  let h := (h.setNum Obj.fwdEpoch e).count Obj.flips
  let h := { h with sw := { h.sw with staged := false } }
  let h := h.setNum Obj.class0BudgetUsed (c0Budget (h.fwdCopy e))
  h.notice N.fwdTableFlipped fidSwitch [e, n]

/-- discard written true: the alternate copy is the active one again (R184). -/
def Hub.discardStaging (h : Hub) : Hub := h.setAlt (h.fwdCopy (h.num Obj.fwdEpoch))

/-! ### Accounts -/

/-- Cells of the frames of a list that satisfy a test. -/
def cellsIn (p : SwFrame → Bool) (l : List SwFrame) : Nat := (l.filter p).foldl (fun (a : Nat) (f : SwFrame) => a + f.cells) 0

/-- Cells of the stored frames that satisfy a test. -/
def Hub.cellsWhere (h : Hub) (p : SwFrame → Bool) : Nat := cellsIn p h.stored

/-- Cells that an account pays for. -/
def Hub.cellsPaid (h : Hub) (p : Account → Bool) : Nat :=
  cellsIn (fun f => p f.account) h.holding
    + (h.sw.returned.filter (fun x => x.1 / 4 == h.now / 4 && p x.2.1)).foldl (fun (a : Nat) x => a + x.2.2) 0

/-- cells-free (R199). -/
def Hub.cellsFree (h : Hub) : Nat := 65536 - h.cellsPaid (fun _ => true)

/-- shared-in-use (R199). -/
def Hub.sharedInUse (h : Hub) : Nat := h.cellsPaid (fun a => decide (a = .shared))

/-- Whether an account is a part of the class-0 reserve (R188). -/
def Account.isC0 : Account → Bool
  | .c0Route | .c0Unrouted | .c0Extract => true
  | _ => false

/-- class0-in-use (R199). -/
def Hub.class0InUse (h : Hub) : Nat := h.cellsPaid Account.isC0

/-- Whether a frame has a copy at a port. -/
def SwFrame.at (f : SwFrame) (p : Nat) : Bool := f.copies.any (fun c => c.port == p)

/-- queued(p, x): cells of class-x frames admitted at p and not yet sent by p (R186). -/
def Hub.queuedCells (h : Hub) (p x : Nat) : Nat := h.cellsWhere (fun f => f.cls == x && f.at p)

/-- cells-queued (R202). -/
def Hub.cellsQueued (h : Hub) (p : Nat) : Nat := h.cellsWhere (fun f => f.at p)

/-- reserve-in-use(p) (R187, R202). -/
def Hub.reserveInUse (h : Hub) (p : Nat) : Nat :=
  h.cellsWhere (fun f => f.copies.any (fun c => c.port == p && c.onReserve))

/-- Σ port-reserve over the 18 ports (R190). -/
def Hub.reserveSum (h : Hub) : Nat := ((List.range 18).map (fun p => h.num (Obj.portReserve p))).foldl (· + ·) 0

/-- Free cells of the shared pool (R186). -/
def Hub.sharedFree (h : Hub) : Nat := 65536 - 2048 - h.reserveSum - h.sharedInUse

/-! ### Inputs -/

/-- A packet with a route enters at a port (R175). -/
def Hub.swRouted (h : Hub) (port route : Nat) (data : List Byte) : Hub := h.swArrive port { data := data, route := route }

/-! ### Admission -/

/-- The copies a route asks for (R180): clusters, station ports, host, service; the ring by direction, or both ports in class 0. -/
def Hub.copiesOf (h : Hub) (e : Nat) (p : SwPacket) (cls : Nat) : List SwCopy × Hub :=
  let t := rtTargets e
  let base : List SwCopy := ((List.range 18).filter (fun i => t.testBit i && i != 12 && i != 13)).map
    (fun i => { port := i, clDest := rtClDest e, hostQ := rtHostQ e, svc := rtSvc e,
                ct := rtCt e && (decide (i ≤ 11) || i == 16 || i == 17) })
  if !t.testBit 12 then (base, h)
  else
    let rf : RingFrame := {
      dst := rtRingDst e, cls := rtClass e, type := tData, stamp := rtRingStamp e,
      payload := beBytes 2 (rtDroute e) ++ beBytes 2 0 ++ p.data }
    if cls = 0 ∨ rtClass e = 0 then
      if h.reachable (rtRingDst e) = false then (base, h.count Obj.unreachableDrops)
      else
        let (f, h) := h.seal { rf with path := 3 }
        (base ++ [{ port := 12, frame := some f }, { port := 13, frame := some f }], h)
    else
      match h.direction (rtRingDst e) (rtClass e) (rtLabel e) with
      | none => (base, h.count Obj.unreachableDrops)
      | some w =>
        let (f, h) := h.seal { rf with path := if w then 2 else 1 }
        (base ++ [{ port := 12 + b2n w, frame := some f }], h)

/-- Count a tail drop and notify at most once per drop-notice-interval and port (R191, R203). -/
def Hub.tailDrop (h : Hub) (p cls : Nat) : Hub :=
  let h := h.count (Obj.tailDropsClass p cls)
  let last := SMap.get (fun _ => 0) h.sw.dropNotice p
  if h.dueAgain last (h.num Obj.dropNoticeInterval * 400000) then
    let h := { h with sw := { h.sw with dropNotice := SMap.set (fun _ => 0) h.sw.dropNotice p (h.now + 1) } }
    h.notice N.switchTailDrop fidSwitch [p, cls, h.num (Obj.tailDropsClass p cls)]
  else h

/-- Admit or drop each target of a frame of class x, not 0 (R186): shared, then reserve, then drop. -/
def Hub.admitCopies (h : Hub) (cls n : Nat) : List SwCopy → List SwCopy × Hub
  | [] => ([], h)
  | c :: cs =>
    if !h.portOn c.port then Hub.admitCopies (h.count (Obj.noPortDrops c.port)) cls n cs
    else if h.queuedCells c.port cls + n ≤ h.num (Obj.thresholdClass c.port (cls - 1)) ∧ n ≤ h.sharedFree then
      let (r, h) := h.admitCopies cls n cs
      (c :: r, h)
    else if h.reserveInUse c.port + n ≤ h.num (Obj.portReserve c.port) then
      let (r, h) := h.admitCopies cls n cs
      ({ c with onReserve := true } :: r, h)
    else Hub.admitCopies (h.tailDrop c.port cls) cls n cs

/-- The account of an admitted frame (R187). -/
def accountOf (cs : List SwCopy) : Account :=
  if cs.any (fun c => !c.onReserve) then .shared
  else .reserve ((cs.map (·.port)).foldl min 17)

/-- Store a frame and queue it on every admitted target (R181). -/
def Hub.storeFrame (h : Hub) (f : SwFrame) : Hub :=
  let id := h.sw.nextId
  let voq := f.copies.foldl (fun v c =>
    let k := (f.input * 18 + c.port) * 8 + f.cls
    SMap.set (fun _ => []) v k (SMap.get (fun _ => []) v k ++ [id])) h.sw.voq
  let h := { h with sw := { h.sw with
    frames := SMap.set (fun _ => none) h.sw.frames id (some f), nextId := id + 1, voq := voq } }
  let h := h.maxNum Obj.class0Peak h.class0InUse
  h.count (Obj.framesIn f.input)

/-- Keep only the targets whose ports are ON; the others count in no-port-drops (R186). -/
def Hub.onCopies (h : Hub) (cs : List SwCopy) : List SwCopy × Hub :=
  (cs.filter (fun c => h.portOn c.port),
   (cs.filter (fun c => !h.portOn c.port)).foldl (fun h c => h.count (Obj.noPortDrops c.port)) h)

/-- Remove the first frame that waits at an input. -/
def Hub.dropInput (h : Hub) (port : Nat) : Hub :=
  { h with sw := { h.sw with inputs := SMap.set (fun _ => []) h.sw.inputs port (SMap.get (fun _ => []) h.sw.inputs port).tail } }

/-- A packet of an H2D queue was dropped at admission (R223). -/
def Hub.admissionDrop (h : Hub) (p : SwPacket) : Hub :=
  h.when (p.queue != 0) (fun h => h.setQueue (p.queue - 1)
    { h.queue (p.queue - 1) with admDrops := (h.queue (p.queue - 1)).admDrops + 1 })

/-- Admit a class-0 frame against its part of the reserve (R188). Answers none when the frame waits at its source. -/
def Hub.admitC0 (h : Hub) (part : Account) (n limit : Nat) (f : SwFrame) (wait : Bool) : Option Hub :=
  let used := h.cellsPaid (fun a => decide (a = part))
  let (cs, h') := h.onCopies f.copies
  if used + n ≤ limit then some (if cs.isEmpty then h'.admissionDrop f.pkt else h'.storeFrame { f with copies := cs, account := part })
  else if wait then none
  else
    some (cs.foldl (fun h c =>
      (h.count (Obj.tailDropsClass c.port 0)).notice N.switchClass0Drop fidSwitch [c.port, f.pkt.rxType, f.pkt.rxSrc]) h')

/-- The length a packet presents with its first cell (R173): its own, or MAX_FRAME of its route while its end has not come. -/
def SwPacket.presented (p : SwPacket) (e : Nat) : Nat := if p.ended then p.data.length else max p.data.length (rtMaxFrame e)

/-- The first cell of the frame that waits at an input port: lookup and admission (R180, R186 to R188, R191). -/
def Hub.frameIn (h : Hub) (port : Nat) : Hub :=
  match SMap.get (fun _ => []) h.sw.inputs port with
  | [] => h
  | p :: _ =>
    let p := { p with claim := if p.queue = 0 then p.claim else h.num Obj.claim }
    if !h.portOn port then ((h.dropInput port).count (Obj.noPortDrops port)).admissionDrop p
    else
      match p.fixed with
      | some (f, out) =>
        let n := cellsOf f.payload.length
        let cs : List SwCopy := if out = 14 then [{ port := 12, frame := some f }, { port := 13, frame := some f }]
          else if out ≤ 11 then [{ port := out, clDest := p.route }]
          else [{ port := out, frame := some f }]
        let sf : SwFrame := { pkt := p, input := port, cls := f.cls, cells := n, epoch := h.num Obj.fwdEpoch, copies := cs,
                              account := .c0Unrouted }
        if f.cls = 0 then
          match h.admitC0 .c0Unrouted n 256 sf true with
          | none => h
          | some h => h.dropInput port
        else
          let (cs, h) := (h.dropInput port).admitCopies f.cls n cs
          if cs.isEmpty then h else h.storeFrame { sf with copies := cs, account := accountOf cs }
      | none =>
        let e := h.route p.route
        if !rtValid e then ((h.dropInput port).count (Obj.noRouteDrops port)).admissionDrop p
        else
          let cls := if p.rxClass = 0 then rtClass e else p.rxClass - 1
          let n := cellsOf (p.presented e + 4)
          let held := (h.holding.filter (fun f => f.pkt.route == p.route && decide (f.account = .c0Route))).length
          if cls = 0 ∧ p.rxClass = 0 ∧ rtBurst e ≤ held then h
          else
            let (cs, h1) := h.copiesOf e p cls
            let sf : SwFrame := { pkt := p, input := port, cls := cls, cells := n, epoch := h.num Obj.fwdEpoch, copies := cs,
                                  account := .c0Route }
            if cls = 0 then
              let r := if p.rxClass = 0 then h1.admitC0 .c0Route n 1280 sf true else h1.admitC0 .c0Extract n 512 sf false
              match r with
              | none => h
              | some h => h.dropInput port
            else
              let (cs, h) := (h1.dropInput port).admitCopies cls n cs
              if cs.isEmpty then h.admissionDrop p
              else h.storeFrame { sf with copies := cs, account := accountOf cs }

/-- More data of a cut-through frame arrives, or its end (R194, R195): cells of the presented length that it does not need return (R186). -/
def Hub.appendFrame (h : Hub) (id : Nat) (data : List Byte) (ended err : Bool) : Hub :=
  match SMap.get (fun _ => none) h.sw.frames id with
  | none => h
  | some f =>
    let all := f.pkt.data ++ data
    let n := if ended then cellsOf (all.length + 4) else f.cells
    let g := { f with pkt := { f.pkt with data := all, ended := ended, err := f.pkt.err || err }, cells := n }
    { h with sw := { h.sw with
      frames := SMap.set (fun _ => none) h.sw.frames id (some g)
      returned := if n < f.cells then h.sw.returned.filter (fun x => x.1 / 4 == h.now / 4) ++ [(h.now, f.account, f.cells - n)] else h.sw.returned } }

/-! ### Scheduler -/

/-- The order of classes at an output (R192). -/
def schedOrder : List Nat := [0, 1, 7, 3, 2, 6, 4, 5]

def Hub.swMatch (h : Hub) (out : Nat) : Option SwMatch := SMap.get (fun _ => none) h.sw.matched out

/-- The head of a virtual output queue. -/
def Hub.voqHead (h : Hub) (i o c : Nat) : Option Nat := (SMap.get (fun _ => []) h.sw.voq ((i * 18 + o) * 8 + c)).head?

/-- Whether the transmit buffer of a channel takes a whole packet (R247): UART and CAN channels that are ON. -/
def Hub.chanRoom (h : Hub) (c len : Nat) : Bool :=
  let waiting := (SMap.get (fun _ => []) h.sw.delivered c).foldl (fun (a : Nat) (d : Delivered) => a + d.data.length) 0
  let sending := match (SMap.get (fun _ => {}) h.chans c).tx with | some d => d.length | none => 0
  if !h.isOn (fidChannel c) then true
  else if h.num (Obj.chMode c) = 1 then decide (waiting + sending + len ≤ h.num (Obj.uartTxBuffer c))
  else if h.num (Obj.chMode c) = 2 then decide (waiting + len ≤ 2048)
  else true

/-- Whether the transmit buffer of a sequencer takes a whole packet (R334). -/
def Hub.seqRoom (h : Hub) (s len : Nat) : Bool :=
  let waiting := (SMap.get (fun _ => []) h.sw.delivered (0x100 + s)).foldl (fun (a : Nat) (d : Delivered) => a + d.data.length) 0
  !h.isOn (fidSeq s)
    || decide (waiting + 4 * (SMap.get (fun _ => {}) h.seqs s).txWords.length + len ≤ h.num (Obj.seqTxBuffer s))

/-- Whether the lane of a ring port may take a frame of a class (R113 to R116, R194): classes 0 and 1 with a token for each frame that waits there, the
others while BULK holds no more than 16 KiB and no frame of the class waits there for credit or a frame boundary. -/
def Hub.laneTakes (h : Hub) (west : Bool) (cls : Nat) : Bool :=
  let l := h.lane west
  if !h.portUp west then true
  else if cls ≤ 1 then decide ((l.loc.filter spendsToken).length < l.tokens)
  else decide (bulkBytes l ≤ 16384) && !l.loc.any (fun f => f.cls == cls)

/-- Whether a frame is ready for an output (R194) and the output's consumer can take it (R228). -/
def Hub.frameReady (h : Hub) (id o : Nat) : Bool :=
  match SMap.get (fun _ => none) h.sw.frames id with
  | none => false
  | some f =>
    let ct := f.copies.any (fun c => c.port == o && c.ct)
    ((f.pkt.ended && f.wrote == f.cells) || ct) &&
      (if o = 16 then
        f.copies.any (fun c => c.port == 16 &&
          (!h.qOn c.hostQ
            || (if h.isWord c.hostQ then decide (0 < h.wordRoom c.hostQ) else h.canTake c.hostQ 0 && h.canRequest)))
       else if o ≤ 11 then
        let len := if f.pkt.fixed.isSome then f.pkt.data.length else f.pkt.presented (h.route f.pkt.route)
        f.copies.any (fun c => c.port == o && (if c.clDest ≤ 15 then h.chanRoom (16 * o + c.clDest) len
          else h.seqRoom (2 * o + (c.clDest - 0x80)) len))
       else if o = 12 ∨ o = 13 then h.laneTakes (o == 13) f.cls
       else if o = 14 ∨ o = 15 then (SMap.get (fun _ => []) h.sw.delivered (0x200 + (o - 14))).isEmpty
       else true)

/-- The highest class an input requests at an output, as its rank in `schedOrder`. -/
def Hub.requestRank (h : Hub) (i o : Nat) : Option Nat :=
  schedOrder.findIdx? (fun c => match h.voqHead i o c with | some id => h.frameReady id o | none => false)

/-- The first element at or after a pointer, of those that are smallest by a rank, going round 0 to 17. -/
def roundPick (ptr : Nat) (cand : List (Nat × Nat)) : Option (Nat × Nat) :=
  let best := (cand.map (·.2)).foldl min 99
  let eq := cand.filter (fun p => p.2 == best)
  match eq.find? (fun p => decide (ptr ≤ p.1)) with
  | some p => some p
  | none => eq.head?

/-- One request-grant-accept iteration (R192, R193). -/
def Hub.rga (h : Hub) (first : Bool) : Hub :=
  let freeIn := (List.range 18).filter (fun i => !(h.sw.matched.any (fun p => match p.2 with | some m => m.input == i | none => false)))
  let freeOut := (List.range 18).filter (fun o => (h.swMatch o).isNone)
  let grants : List (Nat × Nat × Nat) := freeOut.filterMap (fun o =>
    (roundPick (SMap.get (fun _ => 0) h.sw.grantPtr o)
      (freeIn.filterMap (fun i => (h.requestRank i o).map (fun r => (i, r))))).map (fun p => (o, p.1, p.2)))
  freeIn.foldl (fun h i =>
    match roundPick (SMap.get (fun _ => 0) h.sw.acceptPtr i)
        ((grants.filter (fun g => g.2.1 == i)).map (fun g => (g.1, g.2.2))) with
    | none => h
    | some (o, r) =>
      let c := schedOrder.getD r 0
      match h.voqHead i o c with
      | none => h
      | some id =>
        let h := { h with sw := { h.sw with
          matched := SMap.set (fun _ => none) h.sw.matched o (some { input := i, cls := c, id := id, moved := 0 }) } }
        if first then
          { h with sw := { h.sw with
            grantPtr := SMap.set (fun _ => 0) h.sw.grantPtr o ((i + 1) % 18),
            acceptPtr := SMap.set (fun _ => 0) h.sw.acceptPtr i ((o + 1) % 18) } }
        else h) h

/-- Octets of a packet that the first `k` cells of its frame carry: the first cell begins with the 16-byte header and the 4-byte DATA
prefix (R173; a log entry names the reading). -/
def cellOctets (k len : Nat) : Nat := min len (64 * k - 20)

/-- Items or descriptors a packet of a queue counts as when it is lost. -/
def Hub.lossOf (h : Hub) (q len : Nat) : Nat := if h.isWord q then (len + 6) / 7 else 1

/-- Items that the octets of a packet from `from_` to `upto` make in a word queue (R224). -/
def itemsBetween (from_ upto : Nat) (ended : Bool) : Nat := (if ended then (upto + 6) / 7 else upto / 7) - from_ / 7

/-- Whether a packet that waits at port 16 for a D2H descriptor queue is available (R220, R229): ct-thresh octets of it are there, or its end without
error. -/
def Hub.waitsAvailable (h : Hub) (q : Nat) (p : SwPacket) : Bool :=
  let ct := ((h.queue q).rest.map (·.ct)).getD (h.num (Obj.ctThresh q))
  (ct != 0 && decide (ct ≤ p.data.length))
    || (p.ended && !p.err && (match h.d2hProfile q with | some f => (f.check p.data).1 | none => true))

/-- The octets of a packet that a D2H queue keeps: without the check value that has proved right (R463), once its end is there. -/
def Hub.keptOctets (h : Hub) (q : Nat) (p : SwPacket) : Nat :=
  match h.d2hProfile q with
  | some f => if p.ended && !p.err && (f.check p.data).1 then p.data.length - f.size else p.data.length
  | none => p.data.length

/-- Octets that a D2H queue has room for (R220, R228): in its free items, or in the granted buffers that are free. -/
def Hub.placeRoom (h : Hub) (q : Nat) : Nat :=
  if h.isWord q then 7 * h.wordRoom q else ((h.queue q).bufs.filter (fun b => b.2.1.isSome)).length * h.num (Obj.bufferSize q)

/-- A packet that is not available yet takes no granted buffer (R220). -/
def Hub.takesNoBuffer (h : Hub) (q : Nat) (p : SwPacket) : Bool :=
  !h.isWord q && !((match (h.queue q).rest with | some r => r.avail | none => false) || h.waitsAvailable q p)

/-- Whether the octets of a packet up to `upto` find room in a D2H queue (R220, R228). -/
def Hub.itemsFit (h : Hub) (q upto : Nat) (p : SwPacket) : Bool :=
  h.takesNoBuffer q p || decide (min upto (h.keptOctets q p) - ((h.queue q).rest.map (·.placed)).getD 0 ≤ h.placeRoom q)

/-- How many octets of a packet that has come to a D2H queue as far as `from_` the queue takes beyond them (R220, R228): the last free item or granted
buffer is filled, and with a check value one octet more shows that it is. -/
def Hub.octetsFit (h : Hub) (q from_ : Nat) (p : SwPacket) : Nat :=
  let hold := ((h.d2hProfile q).map Profile.size).getD 0
  if h.takesNoBuffer q p then p.data.length
  else h.placeRoom q + (if hold = 0 then 0 else hold + 1) - (from_ - ((h.queue q).rest.map (·.placed)).getD 0)

/-- Octets of a packet of length `len` that a matched pair has moved. -/
def SwMatch.octets (m : SwMatch) (len : Nat) : Nat := min len (cellOctets m.moved len + m.part)

/-- The octets of a frame from `from_` to `upto` reach a D2H queue (R229); the first ones start the packet. A queue that is not ON
discards them (R493). -/
def Hub.toQueue (h : Hub) (q : Nat) (f : SwFrame) (from_ upto : Nat) (start ended err : Bool) : Hub :=
  if !h.qOn q then h.when ended (fun h => h.countN (Obj.itemsLost q) (h.lossOf q f.pkt.data.length))
  else
    let old := h.qLevel q
    let h := if start then
        (h.setQueue q { h.queue q with dropToEop := false }).d2hStart q f.input f.pkt.route f.pkt.stamp
      else h
    let s := h.queue q
    if s.dropToEop then
      let n := if h.isWord q then itemsBetween from_ upto ended else 0
      let h := h.when s.flushing (fun h => h.setQueue q { s with flushCount := s.flushCount + n })
      if ended then h.setQueue q { h.queue q with dropToEop := false } else h
    else
      let more := !ended && (!f.pkt.ended || decide (upto < f.pkt.data.length))
      let pre := !h.isWord q && !err && h.waitsAvailable q f.pkt
      let h := h.d2hData q (slice f.pkt.data from_ (upto - from_)) ended err more pre
      let h := h.when (ended && !err && h.flag (Obj.mirror q)) (fun h =>
        { h with duplex := { h.duplex with mirPend := h.duplex.mirPend ++ [(q, f.pkt.data)] } })
      (h.afterLevel q old).checkPtr q

/-- One cell of a matched pair moves, when it is there and its consumer can take it (R192, R194, R228); toward a D2H queue without room for all of it, the
part that fills the free items or the granted buffers (R220). -/
def Hub.moveCell (h : Hub) (o : Nat) (m : SwMatch) : Hub :=
  match SMap.get (fun _ => none) h.sw.frames m.id with
  | none => h
  | some f =>
    let len := f.pkt.data.length
    let a := m.octets len
    let b := cellOctets (m.moved + 1) len
    let there := decide (m.moved < f.wrote) && (f.pkt.ended || decide (64 * (m.moved + 1) - 20 ≤ len))
    let moved := { h with sw := { h.sw with
      matched := SMap.set (fun _ => none) h.sw.matched o (some { m with moved := m.moved + 1, part := 0 }) } }
    if !there then h
    else if o = 16 then
      match f.copies.find? (fun c => c.port == 16) with
      | none => h
      | some c =>
        let n := h.octetsFit c.hostQ a f.pkt
        if h.itemsFit c.hostQ b f.pkt then moved.toQueue c.hostQ f a b (a == 0) false false
        else if n = 0 then h
        else
          ({ h with sw := { h.sw with matched := SMap.set (fun _ => none) h.sw.matched o (some { m with part := m.part + min n (b - a) }) } }).toQueue
            c.hostQ f a (a + min n (b - a)) (a == 0) false false
    else moved

/-- A cell of a frame is written at its input, when its octets are there (R172). -/
def Hub.writeCell (h : Hub) (id : Nat) (f : SwFrame) : Hub :=
  { h with sw := { h.sw with frames := SMap.set (fun _ => none) h.sw.frames id (some { f with wrote := f.wrote + 1 }) } }

/-- Whether the next cell of a frame can be written. -/
def SwFrame.cellThere (f : SwFrame) : Bool :=
  decide (f.wrote < f.cells) && (f.pkt.ended || decide (64 * (f.wrote + 1) - 20 ≤ f.pkt.data.length))

/-- Each input port writes at most one cell (R172): of its oldest frame whose next cell has come. -/
def Hub.writeCells (h : Hub) : Hub :=
  (List.range 18).foldl (fun h i =>
    match h.sw.frames.find? (fun x => match x.2 with | some f => f.input == i && f.cellThere | none => false) with
    | some (id, some f) => h.writeCell id f
    | _ => h) h

/-- A cell time (R172, R192): every input writes a cell; up to three iterations; then every matched pair moves one cell. -/
def Hub.cellTime (h : Hub) : Hub :=
  let h := ((h.writeCells.rga true).rga false).rga false
  h.sw.matched.foldl (fun h p => match p.2 with | some m => h.moveCell p.1 m | none => h) h

/-! ### Outputs -/

/-- Hand a packet to a consumer behind an output. -/
def Hub.deliver (h : Hub) (key : Nat) (d : Delivered) : Hub :=
  { h with sw := { h.sw with
    delivered := SMap.set (fun _ => []) h.sw.delivered key (SMap.get (fun _ => []) h.sw.delivered key ++ [d]) } }

/-- The packets handed to a consumer, oldest first. -/
def Hub.inbox (h : Hub) (key : Nat) : List Delivered := SMap.get (fun _ => []) h.sw.delivered key

/-- Store what is left of a consumer's packets. -/
def Hub.setInbox (h : Hub) (key : Nat) (l : List Delivered) : Hub :=
  { h with sw := { h.sw with delivered := SMap.set (fun _ => []) h.sw.delivered key l } }

/-- Consumers behind outputs. -/
def inboxChannel (c : Nat) : Nat := c
def inboxSeq (s : Nat) : Nat := 0x100 + s
def inboxStation (p : Nat) : Nat := 0x200 + p
def inboxService : Nat := 0x300

/-- A packet reaches the service port (R364, R374): the subscription input holds 64 frames; what is routed to the keeper has no consumer. -/
def Hub.serviceIn (h : Hub) (d : Delivered) : Hub :=
  if d.target = 0xFFFF then h
  else if d.target = 0x100 ∧ 64 ≤ ((h.inbox inboxService).filter (fun x => x.target == 0x100)).length then
    let h := h.count Obj.rxOverflow
    if h.dueAgain h.goose.ovAt 400000000 then
      ({ h with goose := { h.goose with ovAt := h.now + 1 } }).notice N.gooseRxOverflow fidGoose [h.num Obj.rxOverflow]
    else h
  else h.deliver inboxService d

/-- The last cell of a frame has left an output for its consumer (R174, R181, R195, R625). -/
def Hub.output (h : Hub) (p : Nat) (c : SwCopy) (f : SwFrame) (m : SwMatch) (err : Bool) : Hub :=
  let h := h.count (Obj.framesOut p)
  let h := h.when err (fun h => h.count (Obj.portErrTerminated p))
  let d : Delivered := { target := c.svc, data := f.pkt.data, inPort := f.input, route := f.pkt.route, stamp := f.pkt.stamp,
                         insOff := f.pkt.insOff, echo := f.pkt.echo, claim := f.pkt.claim, cls := f.cls }
  if p = 12 ∨ p = 13 then
    match c.frame with
    | some rf =>
      if err then h.emit (.ringControl (p == 13) .abortMarker)
      else h.toLane (p == 13) (if f.pkt.fixed.isSome then rf else { rf with payload := rf.payload.take 4 ++ f.pkt.data })
    | none => h
  else if p = 16 then
    let len := f.pkt.data.length
    h.toQueue c.hostQ f (m.octets len) len (m.octets len == 0) true err
  else if err then (if p = 14 ∨ p = 15 then h.emit (.stationAbort (p == 15)) else h)
  else if p ≤ 11 then
    if c.clDest ≤ 15 then h.deliver (inboxChannel (16 * p + c.clDest)) d
    else h.deliver (inboxSeq (2 * p + (c.clDest - 0x80))) d
  else if p = 17 then h.serviceIn d
  else h.deliver (inboxStation (p - 14)) d

/-- An output is done with a frame: its copy goes, and the cells return when no copy is left (R181), at the end of the cell time (R196). -/
def Hub.releaseCopy (h : Hub) (p id : Nat) : Hub :=
  match SMap.get (fun _ => none) h.sw.frames id with
  | none => h
  | some f =>
    let cs := f.copies.filter (fun c => c.port != p)
    let k := (f.input * 18 + p) * 8 + f.cls
    { h with sw := { h.sw with
      frames := SMap.set (fun _ => none) h.sw.frames id (if cs.isEmpty then none else some { f with copies := cs }),
      freed := if cs.isEmpty then h.freedNow ++ [(h.now, f)] else h.sw.freed,
      voq := SMap.set (fun _ => []) h.sw.voq k ((SMap.get (fun _ => []) h.sw.voq k).filter (· != id)),
      matched := SMap.set (fun _ => none) h.sw.matched p none } }

/-- The last cell of the frame an output sends has left (R181); `ecc` 1: a single-bit error was corrected when a cell was read, 2: an
uncorrectable error ends the frame with ERR (R174). A frame for a word queue without free items stays. -/
def Hub.frameOutDone (h : Hub) (p ecc cell : Nat) : Hub :=
  match h.swMatch p with
  | none => h
  | some m =>
    match SMap.get (fun _ => none) h.sw.frames m.id with
    | none => { h with sw := { h.sw with matched := SMap.set (fun _ => none) h.sw.matched p none } }
    | some f =>
      match f.copies.find? (fun c => c.port == p) with
      | none => { h with sw := { h.sw with matched := SMap.set (fun _ => none) h.sw.matched p none } }
      | some c =>
        if !((f.pkt.ended && f.wrote == f.cells) || ecc == 2)
            || (p == 16 && h.qOn c.hostQ && !h.itemsFit c.hostQ f.pkt.data.length f.pkt) then h
        else
          let h := h.when (ecc == 1) (fun h => h.count Obj.eccCorrected)
          let h := h.when (ecc == 2) (fun h => (h.count Obj.eccUncorrectable).notice N.switchEccError fidSwitch [p, cell])
          (h.output p c f m (f.pkt.err || ecc == 2)).releaseCopy p m.id

/-- ct-stall-limit passes at an output without a cell (R195). -/
def Hub.ctStall (h : Hub) (p : Nat) : Hub :=
  match h.swMatch p with
  | none => h
  | some m =>
    match SMap.get (fun _ => none) h.sw.frames m.id with
    | none => h
    | some f =>
      if f.pkt.ended then h
      else
        match f.copies.find? (fun c => c.port == p) with
        | none => h
        | some c => ((h.count (Obj.ctStalls p)).output p c f m true).releaseCopy p m.id

/-- A switch port gives up what it holds (R33, R493): a frame in progress ends with ERR; its queued frames go, and each counts in no-port-drops. -/
def Hub.portAbort (h : Hub) (p : Nat) : Hub :=
  let h : Hub := match h.swMatch p with
    | none => h
    | some m =>
      match SMap.get (fun _ => none) h.sw.frames m.id with
      | none => h
      | some f =>
        match f.copies.find? (fun c => c.port == p) with
        | none => h
        | some c => (h.output p c f m true).releaseCopy p m.id
  let ids := (h.sw.frames.filter (fun x => match x.2 with | some f => f.at p | none => false)).map (·.1)
  ids.foldl (fun h id => (h.releaseCopy p id).count (Obj.noPortDrops p)) h

/-! ### Fixed deliveries into the hub (R176) -/

/-- A frame of one step crosses the core from an input port to the consumer behind an output (R171, R176, R186, R191; log entry 98): both ports are
counted and asked, and admission may drop it. -/
def Hub.crossCore (h : Hub) (inPort outPort : Nat) (f : RingFrame) : Bool × Hub :=
  let n := cellsOf f.payload.length
  if !h.portOn inPort then (false, h.count (Obj.noPortDrops inPort))
  else if !h.portOn outPort then (false, h.count (Obj.noPortDrops outPort))
  else if f.cls = 0 then
    if h.cellsPaid (fun a => decide (a = .c0Extract)) + n ≤ 512 then
      (true, (h.count (Obj.framesIn inPort)).count (Obj.framesOut outPort))
    else
      (false, (h.count (Obj.tailDropsClass outPort 0)).notice N.switchClass0Drop fidSwitch [outPort, f.type, f.src])
  else
    let (cs, h) := h.admitCopies f.cls n [{ port := outPort }]
    if cs.isEmpty then (false, h) else (true, (h.count (Obj.framesIn inPort)).count (Obj.framesOut outPort))

/-! ### The commands -/

/-- An extracted DATA frame enters the switch at its ring port under DROUTE (R93, R94, R106, R175, R177). One of class 4 or 5 that was aborted or
failed its trailer ends with ERR. -/
def Hub.dataIn (h : Hub) (west : Bool) (f : RingFrame) : Hub :=
  let (ok, h) := h.receive west f
  if !ok || !h.isMember || f.type != tData then h
  else
    let pkt : SwPacket := {
      data := f.payload.drop 4, route := beAt f.payload 0 2 % 4096, rxClass := f.cls + 1, rxSrc := f.src, rxType := tData,
      stamp := if f.stamp then some (h.stampFine .H h.now f.frac) else none, err := !f.intact }
    if f.cls = 0 then
      let (pass, h) := h.windowPass f
      if pass then h.swArrive (12 + portIx west) pkt else h
    else (h.seqGap f).swArrive (12 + portIx west) pkt

/-- A frame ends with an abort marker (R117): it is counted; on the ridge path it goes on aborted, with Idle in its place, and of classes 4 and 5 the hub
takes what has come, with ERR. -/
def Hub.abortedIn (h : Hub) (west : Bool) (f : RingFrame) : Hub :=
  if h.portUp west = false then h
  else
    let f := { f with aborted := true }
    let h := h.count (Obj.abortedFrames (portIx west))
    if f.dst = broadcastId ∨ f.dst = h.self then h.dataIn west f
    else
      let (ok, h) := h.frameArrives west f
      if !ok || h.strips f then h else h.ridge west f

/-- DATA_RX (R93). -/
def execDataRx (west : Bool) (f : RingFrame) (s : State) : Host.Outcome State Fault Refusal := s.answer (fun h => h.dataIn west f)

/-- The body timer expires (R117). -/
def execRingBodyTimeout (west : Bool) (f : RingFrame) (s : State) : Host.Outcome State Fault Refusal := s.answer (fun h => h.abortedIn west f)

/-- A port loses block lock (R87); a frame whose body was still coming is aborted at once (R117). -/
def execRingLockLoss (loss : LockLoss) (s : State) : Host.Outcome State Fault Refusal :=
  s.answer (fun h => (match loss.mid with | some f => h.abortedIn loss.west f | none => h).lockLost loss.west)

end Sys2Proof.Machine
end

