-- ==== Sys2Proof/Machine/BridgeCore.lean ====
section
/-!
DEFINITION. The initiating side of the bridge (R134 to R165): byte lanes, the fault log, windows, reads and AtomicOps. The frames themselves and
the fences are in Machine/Fences.lean, what a target does in Machine/Bridge.lean.
-/
namespace Sys2Proof.Machine

/-! Status and reason codes (R135). -/

def stOk : Nat := 0
def stNodeAbsent : Nat := 1
def stDenied : Nat := 2
def stEcc : Nat := 3
def stLockTimeout : Nat := 4
def stFuncReset : Nat := 5
def stBudget : Nat := 6
def stAccessSize : Nat := 7
def stWindowOff : Nat := 8

/-- Fields of a transaction payload (R134). -/
def txAddr (f : RingFrame) : Nat := beAt f.payload 0 6
def txInit (f : RingFrame) : Nat := byteAt f.payload 6
def txB7 (f : RingFrame) : Nat := byteAt f.payload 7
def txData (f : RingFrame) : List Byte := f.payload.drop 8

/-- Reverse octets within groups of `n` (R140). -/
def swapUnits (n : Nat) (bs : List Byte) : List Byte :=
  if n ≤ 1 then bs else (chunks n (bs.length / n + 1) bs).flatMap List.reverse

/-- A window's byte-lane rule (R140). -/
def Hub.winLane (h : Hub) (w : Nat) (bs : List Byte) : List Byte :=
  if h.num (Obj.byteLane w) = 1 then swapUnits (h.num (Obj.diUnit w)) bs else bs

/-! ### Fault log -/

/-- Write a fault-log entry and notify (R159 to R161, R170): kind 0 posted write, 1 read, 2 AtomicOp, 3 fence marker. -/
def Hub.logFault (h : Hub) (reason init kind tag addr len : Nat) : Hub :=
  let slot := (h.bridge.logSlot + 1) % 64
  let seq := h.bridge.logSeq + 1
  let st := h.stamp .H
  let words := [reason * 2 ^ 24 + init * 2 ^ 16 + kind * 2 ^ 8, tag * 65536 + addr / 2 ^ 32 % 65536, addr % 2 ^ 32, len * 65536,
    h.num Obj.orderingEpoch, st % 2 ^ 32, st / 2 ^ 32, seq]
  let full := SMap.get (fun _ => []) h.bridge.log slot != []
  let h := { h with bridge := { h.bridge with
    log := SMap.set (fun _ => []) h.bridge.log slot words, logSlot := slot, logSeq := seq } }
  let h := h.setNum Obj.faultLogCount seq
  let h := h.when full (fun h => h.count Obj.faultLogOverwritten)
  h.notice N.bridgeFault fidBridge [seq, reason, init]

/-- clear-fault-log written true: the log is empty and LOG_SEQ restarts at 1 (R167). -/
def Hub.clearLog (h : Hub) : Hub :=
  ({ h with bridge := { h.bridge with log := [], logSlot := 63, logSeq := 0 } }).setNum Obj.faultLogCount 0

/-! ### Windows -/

/-- A posted write of a window counts as faulted (R149). -/
def Hub.faultWrite (h : Hub) (w n : Nat) : Hub :=
  (h.countN (Obj.writesFaulted w) n).setNum (Obj.faultedSinceFence w) (min 0xFFFF (h.num (Obj.faultedSinceFence w) + n))

/-- Why an access is refused before anything is sent (R139, R141); 0 none. -/
def Hub.refusal (h : Hub) (w offset len : Nat) (whole : Bool) (cls label : Nat) : Nat :=
  let di := h.num (Obj.byteLane w) == 1
  let u := h.num (Obj.diUnit w)
  if !h.isOn (fidWindow w) then stWindowOff
  else if len < h.num (Obj.accessMin w) || (di && (offset % u != 0 || (offset + len) % u != 0 || !whole)) then stAccessSize
  else if !h.canReach (addrNode (h.num (Obj.ringBase w))) cls label then stNodeAbsent
  else 0

/-- Split an access into parts within access-max-aligned blocks, ascending (R139): offset and length of each. -/
def splitAccess (max_ : Nat) : Nat → Nat → Nat → List (Nat × Nat)
  | 0, _, _ => []
  | fuel + 1, off, len =>
    if len = 0 then []
    else
      let n := min len (max_ - off % max_)
      (off, n) :: splitAccess max_ fuel (off + n) (len - n)

/-- One posted write of an initiator (R147, R158). -/
def Hub.postWrite (h : Hub) (init cls label addr : Nat) (data : List Byte) : Hub :=
  let tag := SMap.get (fun _ => 0) h.bridge.wtags init
  let h := { h with bridge := { h.bridge with
    wtags := SMap.set (fun _ => 0) h.bridge.wtags init ((tag + 1) % 65536),
    wsent := SMap.set (fun _ => (0, 0)) h.bridge.wsent (init * 65536 + tag) (addr, data.length) } }
  let f := txn (addrNode addr) tWrp cls addr init 0 tag data
  if init < 16 then h.sendWindow init f label else h.sendTxn f label

/-- A host write through a window (R138 to R141, R158). -/
def Hub.windowWrite (h : Hub) (w offset : Nat) (data : List Byte) (whole : Bool) : Hub :=
  let cls := h.num (Obj.writeClass w)
  let label := 0x100 + w
  let base := h.num (Obj.ringBase w)
  let r := h.refusal w offset data.length whole cls label
  if r ≠ 0 then
    let h := ((h.count (Obj.refusedAccesses w)).faultWrite w 1)
    h.logFault r w 0 0 (base + offset) data.length
  else
    let ring := h.winLane w data
    let h := h.setFence w { h.fence w with wrote := true }
    (splitAccess (h.num (Obj.accessMax w)) (data.length + 1) offset data.length).foldl (fun h p =>
      (h.count (Obj.writesIssued w)).postWrite w cls label (base + p.1) (slice ring (p.1 - offset) p.2)) h

/-- The flow label of a window's reads (R136, R147). -/
def Hub.readLabel (h : Hub) (w : Nat) : Nat := if h.num (Obj.ordering w) = 1 then 0x100 + w else 0x110 + w

/-- Issue the RD of a part (R134, R147, R156). -/
def Hub.issueRead (h : Hub) (p : ReadPart) : Hub :=
  h.sendWindow p.w (txn (addrNode p.addr) tRd 2 p.addr p.w 0 p.tag (beBytes 2 p.len ++ beBytes 2 p.retry)) (h.readLabel p.w)

/-- A host read through a window (R138, R139, R141). -/
def Hub.windowRead (h : Hub) (w offset len : Nat) (whole : Bool) : Hub :=
  let base := h.num (Obj.ringBase w)
  let r := h.refusal w offset len whole 2 (h.readLabel w)
  if r ≠ 0 then ((h.count (Obj.refusedAccesses w)).logFault r w 1 0 (base + offset) len).completerAbort
  else
    let host := h.bridge.nextHost
    let h := { h with bridge := { h.bridge with nextHost := host + 1 } }
    (splitAccess (h.num (Obj.accessMax w)) (len + 1) offset len).foldl (fun h p =>
      let (tag, h) := h.takeTag
      let part : ReadPart := { tag := tag, host := host, w := w, addr := base + p.1, len := p.2 }
      let h := { h with bridge := { h.bridge with parts := h.bridge.parts ++ [part] } }
      (h.count (Obj.readsIssued w)).issueRead part) h

/-- Replace the part of a tag. -/
def Hub.setPart (h : Hub) (p : ReadPart) : Hub :=
  { h with bridge := { h.bridge with parts := h.bridge.parts.map (fun q => if q.tag = p.tag then p else q) } }

/-- A host read ends: its parts go, and an RD that has not left does not leave. -/
def Hub.dropRead (h : Hub) (host : Nat) : Hub :=
  let tags := (h.bridge.parts.filter (fun q => q.host == host)).map (·.tag)
  { h with bridge := { h.bridge with
    parts := h.bridge.parts.filter (fun q => q.host != host)
    behind := h.bridge.behind.filter (fun x => !(x.frame.type == tRd && tags.contains x.frame.tag)) } }

/-- A host read fails as one Completer Abort, logged with a reason (R139, R157). -/
def Hub.failRead (h : Hub) (p : ReadPart) (reason : Nat) : Hub :=
  ((h.dropRead p.host).logFault reason p.w 1 p.tag p.addr p.len).completerAbort

/-! ### AtomicOps -/

/-- Operand size in bytes. -/
def AtomicOp.size (a : AtomicOp) : Nat := if a.wide then 8 else 4

/-- Ring address of an AtomicOp. -/
def Hub.atomicAddr (h : Hub) (a : AtomicOp) : Nat := h.num (Obj.ringBase a.w) + a.offset

/-- What waits behind an AtomicOp of its window goes (R147): to the ring, or behind the one that waits before it. -/
def Hub.sendBehind (h : Hub) (a : AtomicOp) : Hub :=
  let mine := h.bridge.behind.filter (fun x => x.after == a.tag)
  let h := { h with bridge := { h.bridge with behind := h.bridge.behind.filter (fun x => x.after != a.tag) } }
  match ((h.bridge.atomics.takeWhile (fun b => b.tag != a.tag)).filter (fun b => b.w == a.w && b.lkrts == 0)).getLast? with
  | some b => { h with bridge := { h.bridge with behind := mine.map (fun x => { x with after := b.tag }) ++ h.bridge.behind } }
  | none => mine.foldl (fun h x => h.sendTxn x.frame x.label) h

/-- Take the outbound lock slot and send LKRD (R162 steps 1 and 2); what the window holds behind it follows (R147). -/
def Hub.startLock (h : Hub) (a : AtomicOp) : Hub :=
  let addr := h.atomicAddr a
  let h := { h with bridge := { h.bridge with
    slot := some { a with phase := 1 }, atomics := h.bridge.atomics.filter (fun b => b.tag != a.tag) } }
  (h.sendTxn (txn (addrNode addr) tLkrd 2 addr a.w a.size a.tag []) (0x100 + a.w)).sendBehind a

/-- The slot is free: the next host AtomicOp takes it. -/
def Hub.nextAtomic (h : Hub) : Hub :=
  match h.bridge.atomics with
  | [] => { h with bridge := { h.bridge with slot := none } }
  | a :: _ => ({ h with bridge := { h.bridge with slot := none } }).startLock a

/-- A host AtomicOp through a window (R141, R162). DESIGN CHOICE (log entry 98): with atomic-enable false it is refused as ACCESS_SIZE, with Completer Abort. -/
def Hub.hostAtomic (h : Hub) (a : AtomicOp) : Hub :=
  let base := h.num (Obj.ringBase a.w)
  let r := h.refusal a.w a.offset a.size true 2 (0x100 + a.w)
  let r := if r = 0 ∧ h.flag (Obj.atomicEnable a.w) = false then stAccessSize else r
  if r ≠ 0 then ((h.count (Obj.refusedAccesses a.w)).logFault r a.w 2 0 (base + a.offset) a.size).completerAbort
  else
    let (tag, h) := h.takeTag
    let a := { a with tag := tag }
    if h.bridge.slot.isNone then h.startLock a
    else { h with bridge := { h.bridge with atomics := h.bridge.atomics ++ [a] } }

/-- An AtomicOp completes as Completer Abort, logged. -/
def Hub.abortAtomic (h : Hub) (a : AtomicOp) (reason : Nat) : Hub :=
  (h.logFault reason a.w 2 a.tag (h.atomicAddr a) a.size).completerAbort

/-- The AtomicOp in the slot fails (R157, R164, R165). -/
def Hub.failAtomic (h : Hub) (a : AtomicOp) (reason : Nat) : Hub := (h.abortAtomic a reason).nextAtomic

/-- An AtomicOp that waits, for the slot or to retry, fails (R157): what stands behind it goes. -/
def Hub.failWaiting (h : Hub) (a : AtomicOp) (reason : Nat) : Hub :=
  let h := h.sendBehind a
  ({ h with bridge := { h.bridge with
    atomics := h.bridge.atomics.filter (fun b => b.tag != a.tag)
    retrying := h.bridge.retrying.filter (fun b => b.tag != a.tag) } }).abortAtomic a reason

/-- The operand rule of a window: reversed by its own size in a DI window (R140). -/
def Hub.operandLane (h : Hub) (w : Nat) (bs : List Byte) : List Byte :=
  if h.num (Obj.byteLane w) = 1 then bs.reverse else bs

/-- The old value has come: compute in host order and send WRUL (R162 steps 4 and 5). -/
def Hub.lockValue (h : Hub) (a : AtomicOp) (ring : List Byte) : Hub :=
  let old := h.operandLane a.w ring
  let o := leNat old
  let new := match a.kind with
    | .fetchAdd => (o + a.operand) % 2 ^ (8 * a.size)
    | .swap | .cas => a.operand % 2 ^ (8 * a.size)
  let nowrite := decide (a.kind = .cas) && o != a.compare % 2 ^ (8 * a.size)
  let addr := h.atomicAddr a
  let h := { h with bridge := { h.bridge with slot := some { a with phase := 2, old := old } } }
  h.sendTxn (txn (addrNode addr) tWrul 2 addr a.w (b2n nowrite) a.tag
    (if nowrite then [] else h.operandLane a.w (leBytes a.size new))) (0x100 + a.w)

/-! ### Responses to the initiator -/

/-- RDR: data or a failure status for a read part or the lock step (R157, R162). -/
def Hub.takeRdr (h : Hub) (f : RingFrame) : Hub :=
  match h.bridge.parts.find? (fun p => p.tag == f.tag && p.w == txInit f) with
  | some p =>
    if txB7 f ≠ stOk then h.failRead p (txB7 f)
    else
      let h := h.setPart { p with data := some (txData f), waits := false }
      let mine := h.bridge.parts.filter (fun q => q.host == p.host)
      if mine.all (fun q => q.data.isSome) then
        let ring := mine.flatMap (fun q => q.data.getD [])
        (h.dropRead p.host).emit (.hostData (h.winLane p.w ring))
      else h
  | none =>
    match h.bridge.slot with
    | some a =>
      if a.phase = 1 ∧ a.tag = f.tag then
        if txB7 f ≠ stOk then h.failAtomic a (txB7 f) else h.lockValue a (txData f)
      else h
    | none => h

/-- RDX: the part waits for rdx-retry-interval with the retry tag, or tag 0 after NO_BUFFER (R156). -/
def Hub.takeRdx (h : Hub) (f : RingFrame) : Hub :=
  match h.bridge.parts.find? (fun p => p.tag == f.tag && p.w == txInit f) with
  | none => h
  | some p => h.setPart { p with retry := if txB7 f = 0 then beAt f.payload 8 2 else 0, waits := true }

/-- rdx-retry-interval passes: the RD goes again (R156). -/
def Hub.retryRead (h : Hub) (tag : Nat) : Hub :=
  match h.bridge.parts.find? (fun p => p.tag == tag && p.waits) with
  | none => h
  | some p =>
    let p := { p with waits := false }
    (h.setPart p).issueRead p

/-- 10 µs pass after an issue without RDR or RDX: the RD goes again with the tag last received (R156). -/
def Hub.readTimeout (h : Hub) (tag : Nat) : Hub :=
  match h.bridge.parts.find? (fun p => p.tag == tag && p.data.isNone && !p.waits && !h.isBehind tRd tag) with
  | none => h
  | some p => h.issueRead p

/-- The AtomicOp with a tag, among those in the slot, waiting, and retrying. -/
def Hub.atomicOf (h : Hub) (tag : Nat) : Option AtomicOp :=
  (h.bridge.slot.toList ++ h.bridge.atomics ++ h.bridge.retrying).find? (fun a => a.tag == tag)

/-- read-budget passes (R157). -/
def Hub.budgetExpired (h : Hub) (tag : Nat) : Hub :=
  match h.bridge.parts.find? (fun p => p.tag == tag) with
  | some p => (h.count Obj.readBudgetAborts).failRead p stBudget
  | none =>
    match h.atomicOf tag with
    | none => h
    | some a =>
      let h := h.count Obj.readBudgetAborts
      if h.bridge.slot = some a then h.failAtomic a stBudget else h.failWaiting a stBudget

/-- LKRT: the slot is free for others, the AtomicOp waits node id × 1 µs, or fails after lock-retries (R165). -/
def Hub.takeLkrt (h : Hub) (f : RingFrame) : Hub :=
  match h.bridge.slot with
  | some a =>
    if a.phase = 1 ∧ a.tag = f.tag then
      let h := h.count Obj.lkrtReceived
      let a := { a with lkrts := a.lkrts + 1, phase := 3 }
      if h.num Obj.lockRetries ≤ a.lkrts then h.failAtomic a stLockTimeout
      else ({ h with bridge := { h.bridge with retrying := h.bridge.retrying ++ [a] } }).nextAtomic
    else h
  | none => h

/-- The wait of the AtomicOp that got its LKRT first ends: it takes the slot and LKRD goes again, or it waits for the slot (R165). -/
def Hub.lockRetry (h : Hub) : Hub :=
  match h.bridge.retrying with
  | [] => h
  | a :: as =>
    let h := { h with bridge := { h.bridge with retrying := as } }
    if h.bridge.slot.isNone then h.startLock a
    else { h with bridge := { h.bridge with atomics := h.bridge.atomics ++ [{ a with phase := 0 }] } }

/-! ### Reset of a window -/

/-- A function reset of a window (R493): posted writes that have not left count as faulted; reads and AtomicOps in progress complete as Completer
Abort logged WINDOW_OFF; a held lock is given back with NOWRITE; its fences complete with INCOMPLETE. -/
def Hub.windowReset (h : Hub) (w : Nat) : Hub :=
  let ops := (h.bridge.atomics ++ h.bridge.retrying).filter (fun a => a.w == w)
  let tags := ops.map (·.tag)
  let unsent := h.bridge.behind.filter (fun x => tags.contains x.after)
  let h := { h with bridge := { h.bridge with
    behind := h.bridge.behind.filter (fun x => !tags.contains x.after)
    atomics := h.bridge.atomics.filter (fun a => a.w != w)
    retrying := h.bridge.retrying.filter (fun a => a.w != w) } }
  let h := h.faultWrite w (unsent.filter (fun x => x.frame.type == tWrp)).length
  let hosts := ((h.bridge.parts.filter (fun p => p.w == w)).map (·.host)).eraseDups
  let h := hosts.foldl (fun h i =>
    match h.bridge.parts.find? (fun p => p.host == i) with
    | some p => h.failRead p stWindowOff
    | none => h) h
  let h := ops.foldl (fun h a => h.abortAtomic a stWindowOff) h
  let h := match h.bridge.slot with
    | some a =>
      if a.w = w then
        let h := h.when (a.phase == 1) (fun h =>
          h.sendTxn (txn (addrNode (h.atomicAddr a)) tWrul 2 (h.atomicAddr a) w 1 a.tag []) (0x100 + w))
        h.failAtomic a stWindowOff
      else h
    | none => h
  let h := h.when ((h.fence w).tag != 0) (fun h => h.finishFence w true)
  let h := h.when (h.fence w).held (fun h =>
    (h.setFence w { h.fence w with held := false, forAll := h.bridge.allLeft.contains w }).finishFence w true)
  h.settleAll

/-! ### What a target answers (R134 to R136) -/

/-- A response to a transaction: class 3, the initiator's flow, TAG echoed. -/
def Hub.respondTxn (h : Hub) (f : RingFrame) (type b7 : Nat) (data : List Byte) : Hub :=
  h.sendTxn (txn f.src type 3 (txAddr f) (txInit f) b7 f.tag data) (0x200 + txInit f)

/-- Refuse a transaction as a whole (R143): RDR with the status for a read, WNAK with the reason otherwise. -/
def Hub.refuseTxn (h : Hub) (f : RingFrame) (status : Nat) : Hub :=
  if f.type = tRd ∨ f.type = tLkrd then h.respondTxn f tRdr status []
  else (h.respondTxn f tWnak status []).count Obj.wnakSent

/-- The inbound aperture of a local address (R130). -/
def apertureOf (a : Nat) : Option Nat :=
  if 2 ^ 40 ≤ addrLocal a ∧ addrLocal a < 2 ^ 40 + 2 ^ 40 then some ((addrLocal a - 2 ^ 40) / 2 ^ 36) else none

/-- A granule number (R162): the 64-octet granule of a local address. -/
def granuleOf (a : Nat) : Nat := addrLocal a / 64

/-- An aperture leaves ON without draining (R493): the fetch buffers held for it are counted in fetch-expired, its granule locks go, and
what waited for them is refused. -/
def Hub.apertureStop (h : Hub) (a : Nat) : Hub :=
  let mine := fun (x : Nat) => apertureOf x == some a
  let waits := fun (w : Waiting) => match w with | .ring f => mine (txAddr f) | _ => false
  let gone := h.bridge.fetches.filter (fun b => mine b.addr)
  let refused := h.bridge.waiting.filter waits
  let h := { h with bridge := { h.bridge with
    fetches := h.bridge.fetches.filter (fun b => !mine b.addr)
    locks := h.bridge.locks.filter (fun l => !mine l.addr)
    waiting := h.bridge.waiting.filter (fun w => !waits w)
    flushes := h.bridge.flushes.filter (fun f => !mine (txAddr f)) } }
  let h := (h.countN Obj.fetchExpired gone.length).setNum Obj.fetchBuffersHeld h.bridge.fetches.length
  refused.foldl (fun h w => match w with | .ring f => h.refuseTxn f stFuncReset | _ => h) h

end Sys2Proof.Machine
end

