-- ==== Sys2Proof/Machine/MirrorCore.lean ====
section
/-!
DEFINITION. Mirroring, the sending side (R400 to R403): records into the STANDBY's post SRAM, resynchronisation, and when mirror-state
becomes UNSYNCED.
-/
namespace Sys2Proof.Machine

/-! Roles (R398 byte 3). -/
def roleOff : Nat := 0
def roleListening : Nat := 1
def roleContending : Nat := 2
def roleStandby : Nat := 3
def roleActive : Nat := 4
def roleHandover : Nat := 5
def roleOut : Nat := 6

/-! mirror-state (R419). -/
def mirOff : Nat := 0
def mirSynced : Nat := 1
def mirBehind : Nat := 2
def mirUnsynced : Nat := 3

/-- The channel mode that populates the subindexes of an index (R245). -/
def Hub.modeOf (h : Hub) (idx : Nat) : Nat := if 0x2000 ≤ idx ∧ idx < 0x20C0 then h.num (Obj.chMode (idx - 0x2000)) else 0

/-- The key of an object in the dictionary store: objects that exist for one channel mode carry the mode. -/
def Hub.keyOf (h : Hub) (idx sub : Nat) : Nat :=
  (if 0x2000 ≤ idx ∧ idx < 0x20C0 ∧ (0x20 ≤ sub ∨ isLineSenseKey idx sub = true) then h.modeOf idx * 0x1000000 else 0)
    + idx * 256 + sub

/-- mirror-state becomes UNSYNCED (R403): the notice with its cause, and a resynchronisation is due. -/
def Hub.unsync (h : Hub) (cause : Nat) : Hub :=
  if h.num Obj.mirrorState = mirUnsynced then { h with duplex := { h.duplex with resync := true } }
  else
    let h := (h.setNum Obj.mirrorState mirUnsynced).notice N.duplexMirrorUnsynced fidDuplex [cause]
    { h with duplex := { h.duplex with resync := true } }

/-- Octets of the circular area that are in use (R402). -/
def Hub.mirInUse (h : Hub) : Nat := h.duplex.mirUse.foldl (fun (a : Nat) (p : Nat × Nat) => a + p.2) 0

/-- A mirror record (R402). -/
def mirrorRecord (kind seq idx sub : Nat) (data : List Byte) : List Byte :=
  [BitVec.ofNat 8 kind, 0] ++ leBytes 2 data.length ++ leBytes 4 seq ++ leBytes 2 idx ++ [BitVec.ofNat 8 sub, 0, 0, 0, 0, 0]
    ++ data ++ List.replicate ((8 - data.length % 8) % 8) 0

/-- Write octets into the STANDBY's area as WRN frames of class 2 under the keeper's initiator code and flow (R134, R136, R402); no frame
crosses a 4 KiB block nor carries more than 4,088 octets. -/
def Hub.mirrorWrite (h : Hub) (pos : Nat) (data : List Byte) : Hub :=
  let node := h.num Obj.peerNode
  let base := node * 2 ^ 41 + 0x10000000 * 16 + h.num Obj.mirrorBase + pos
  ((splitAccess 4096 (data.length + 1) base data.length).flatMap (fun p =>
      if p.2 ≤ 4088 then [p] else [(p.1, 4088), (p.1 + 4088, p.2 - 4088)])).foldl (fun h p =>
    let (tag, h) := h.takeTag
    let h := { h with duplex := { h.duplex with mirTags := h.duplex.mirTags ++ [tag] } }
    h.sendTxn (txn node tWrn 2 p.1 0x10 0 tag (slice data (p.1 - base) p.2)) 0x120) h

/-- The sender of mirror records stands at a new offset; `used`: what the last record takes of the area (R402). -/
def Hub.mirMoved (h : Hub) (pos : Nat) (used : List (Nat × Nat)) : Hub :=
  { h with duplex := { h.duplex with mirPos := pos, mirUse := h.duplex.mirUse ++ used } }

/-- Send one record, after a pad to the area's end when it would wrap (R402); no room: UNSYNCED, and a packet counts in mirror-drops
(R403). -/
def Hub.mirrorSend (h : Hub) (kind idx sub : Nat) (data : List Byte) : Hub :=
  let size := h.num Obj.mirrorSize
  let seq := h.num Obj.mirrorSeqSent + 1
  let rec_ := mirrorRecord kind seq idx sub data
  let pad := if size < h.duplex.mirPos + rec_.length then size - h.duplex.mirPos else 0
  if size < h.mirInUse + pad + rec_.length then
    (h.when (kind == 2) (fun h => h.count Obj.mirrorDrops)).unsync 1
  else
    let h := h.when (pad != 0) (fun h =>
      (h.mirrorWrite h.duplex.mirPos ((mirrorRecord 0 (seq - 1) 0 0 []).take pad)).mirMoved 0 [])
    let h := (h.mirrorWrite h.duplex.mirPos rec_).mirMoved ((h.duplex.mirPos + rec_.length) % size) [(seq, pad + rec_.length)]
    let h := h.setNum Obj.mirrorSeqSent seq
    if h.num Obj.mirrorState = mirSynced then h.setNum Obj.mirrorState mirBehind else h

/-- The subindexes an entry of mirror-list names (R401): 0xFF every one that exists. -/
def Hub.mirrorSubs (h : Hub) (idx sub : Nat) : List Nat :=
  if sub ≠ 0xFF then [sub] else (List.range 255).filter (fun s => (findDesc (h.modeOf idx) idx s allBlocks).isSome)

/-- The entries of mirror-list (R401): index and subindex. -/
def Hub.mirrorEntries (h : Hub) : List (Nat × Nat) :=
  let l := h.oct Obj.mirrorList
  (List.range (l.length / 4)).map (fun i => (leAt l (4 * i) 2, byteAt l (4 * i + 2)))

/-- The octets of an object as a READ returns its accepted value. -/
def Hub.encoded (h : Hub) (idx sub : Nat) : List Byte :=
  match findDesc (h.modeOf idx) idx sub allBlocks with
  | some (_, d) => d.ty.encode (h.accepted (h.keyOf idx sub))
  | none => []

/-- Resynchronisation (R403): a start record with sequence 1 at the head of the area, then every object of mirror-list. -/
def Hub.resynchronise (h : Hub) : Hub :=
  let h := { h with duplex := { h.duplex with resync := false, mirPos := 0, mirUse := [], mirTags := [] } }
  let h := (h.setNum Obj.mirrorSeqSent 0).setNum Obj.mirrorSeqApplied 0
  let h := h.mirrorSend 3 0 0 []
  let h := h.mirrorEntries.foldl (fun h e => (h.mirrorSubs e.1 e.2).foldl (fun h s => h.mirrorSend 1 e.1 s (h.encoded e.1 s)) h) h
  { h with duplex := { h.duplex with mirUntil := h.num Obj.mirrorSeqSent + 1 } }

/-- Whether this unit mirrors (R400): ACTIVE with a STANDBY to mirror to. -/
def Hub.mirrors (h : Hub) : Bool := h.num Obj.role == roleActive && h.num Obj.mirrorState != mirOff

/-- The keeper's mirror work (R400, R403): an ordering epoch that changed with writes unacknowledged, a resynchronisation that is due, the
packets that passed mirrored queues. -/
def Hub.mirrorPump (h : Hub) : Hub :=
  let d := h.duplex
  if !h.mirrors then
    if d.mirPend.isEmpty then h else { h with duplex := { d with mirPend := [] } }
  else
    let changed := d.mirEpoch != h.num Obj.orderingEpoch
    let h := h.when (changed && !d.mirTags.isEmpty) (fun h => h.unsync 3)
    let h := h.when changed (fun h => { h with duplex := { h.duplex with mirEpoch := h.num Obj.orderingEpoch } })
    let h := h.when h.duplex.resync Hub.resynchronise
    let ps := h.duplex.mirPend
    let h := h.when (!ps.isEmpty) (fun h => { h with duplex := { h.duplex with mirPend := [] } })
    ps.foldl (fun h p => h.mirrorSend 2 p.1 0 p.2) h

/-- An accepted write of an object named in mirror-list is mirrored (R400). -/
def Hub.mirrorObject (h : Hub) (idx sub : Nat) : Hub :=
  if h.mirrors && h.mirrorEntries.any (fun e => e.1 == idx && (e.2 == sub || e.2 == 0xFF)) then
    h.mirrorSend 1 idx sub (h.encoded idx sub)
  else h

/-- A packet passes a mirrored queue (R400). -/
def Hub.mirrorPacket (h : Hub) (q : Nat) (data : List Byte) : Hub :=
  if h.flag (Obj.mirror q) then { h with duplex := { h.duplex with mirPend := h.duplex.mirPend ++ [(q, data)] } } else h

end Sys2Proof.Machine
end

