-- ==== Sys2Proof/Machine/Queues.lean ====
section
/-!
DEFINITION. The hardware queues (R204 to R240, R462 to R464): credits, word ports, descriptors, bulk transfers, pointer protection,
flush, interrupts; and the commands of the switch core, whose inputs and outputs the queues share.
-/
namespace Sys2Proof.Machine

/-- Remove the first `n` items of a word queue. -/
def Hub.leaveItems (h : Hub) (q n : Nat) : Hub := h.setQueue q { h.queue q with items := (h.queue q).items.drop n }

/-- Remove the last `n` items of a word queue. -/
def Hub.dropItems (h : Hub) (q n : Nat) : Hub :=
  h.setQueue q { h.queue q with items := (h.queue q).items.take ((h.queue q).items.length - n) }

/-- The credit limit is exceeded by `n` items or descriptors (R227). -/
def Hub.creditViolation (h : Hub) (q n : Nat) : Hub :=
  let h := (h.countN (Obj.creditViolations q) n).setQueue q { h.queue q with creditViol := true }
  h.notice N.creditViolation (fidQueue q) [q, n, (h.queue q).pidxAcc]

/-! ### H2D packets -/

/-- Whether the command dispatcher consumes a queue (R397). -/
def Hub.isCmdQueue (h : Hub) (q : Nat) : Bool := (h.num Obj.cmdQueues).testBit q

/-- MAX_FRAME of a queue's route; none when the route is not valid or the dispatcher consumes the queue (R218, R191). -/
def Hub.queueMax (h : Hub) (q : Nat) : Option Nat :=
  let e := h.route (h.num (Obj.qRoute q))
  if h.isCmdQueue q || !rtValid e then none else some (rtMaxFrame e)

/-- A packet has been taken from port 16 by the switch, or dropped there: its items leave the queue, or its descriptors are done.
`stored`: some copy was admitted. -/
def Hub.packetTaken (h : Hub) (p : SwPacket) (stored : Bool) : Hub :=
  if p.queue = 0 then h
  else
    let q := p.queue - 1
    if h.isWord q then ((h.leaveItems q p.credits).countN (Obj.itemsOut q) p.credits).release q p.credits
    else if p.ended then h.finishDescs q p.descs 0 true (!stored)
    else h

/-- Offer more of the open packet to the switch (R194, R229): to the frame that waits at port 16, or to the stored one, whose items leave
the queue at once. -/
def Hub.feedOpen (h : Hub) (q n : Nat) (descs : List Nat) (data : List Byte) (ended err : Bool) : Hub :=
  let l := SMap.get (fun _ => []) h.sw.inputs 16
  if l.any (fun p => p.queue == q + 1 && !p.ended) then
    let l' := l.map (fun (p : SwPacket) => if p.queue == q + 1 && !p.ended then
      { p with data := p.data ++ data, ended := ended, err := p.err || err, credits := p.credits + n, descs := p.descs ++ descs } else p)
    { h with sw := { h.sw with inputs := SMap.set (fun _ => []) h.sw.inputs 16 l' } }
  else
    let h : Hub := match h.sw.frames.find? (fun x => match x.2 with | some f => f.pkt.queue == q + 1 && !f.pkt.ended | none => false) with
      | some x => h.appendFrame x.1 data ended err
      | none => h
    if h.isWord q then ((h.leaveItems q n).countN (Obj.itemsOut q) n).release q n
    else if ended then h.finishDescs q descs 0 true false
    else h

/-- What TS_INSERT and ECHO ask of a packet of a queue that is already offered to the switch (R356, R357). -/
def Hub.askOpen (h : Hub) (q : Nat) (ins : Option Nat) (echo : Option (Nat × Nat)) : Hub :=
  let mark := fun (p : SwPacket) => if p.queue == q + 1 && !p.ended then { p with insOff := ins, echo := echo } else p
  { h with sw := { h.sw with
    inputs := SMap.set (fun _ => []) h.sw.inputs 16 ((SMap.get (fun _ => []) h.sw.inputs 16).map mark)
    frames := h.sw.frames.map (fun x => (x.1, x.2.map (fun f => { f with pkt := mark f.pkt }))) } }

/-- Clear the open packet of an H2D queue. -/
def QState.closed (s : QState) : QState :=
  { s with isOpen := false, openData := [], openN := 0, ctOut := false, oversized := false, openIdx := [] }

/-- The open packet of an H2D queue ends in error (R230): a packet the switch already has ends with ERR, another one is discarded whole.
Both count in err-terminated. `n`: its items that are not yet counted in the frame, and `last` their octets (R226); `closed`: it is closed under R221 or
R226, and its descriptors complete with BYTES 0. -/
def Hub.closeError (h : Hub) (q n : Nat) (closed : Bool) (last : List Byte) : Hub :=
  let s := h.queue q
  let h := (h.count (Obj.qErrTerminated q)).setQueue q s.closed
  if h.isWord q then if s.ctOut then h.feedOpen q n [] last true true else (h.dropItems q s.openN).release q s.openN
  else
    let h := h.finishDescs q s.openIdx 0 (s.ctOut && !closed) true
    if s.ctOut then h.feedOpen q 0 [] [] true true else h

/-- Descriptors of the newest fetched packet, from its SOP on (R221). -/
def tailDescs (ds : List QDesc) : List QDesc :=
  let r := ds.reverse
  ((r.takeWhile (fun d => !d.flags.testBit 0)) ++ (r.dropWhile (fun d => !d.flags.testBit 0)).take 1).filter (fun d => d.done.isNone)

/-- The packet that the fetched descriptors leave open is closed in error (R221, R230). -/
def Hub.closeTail (h : Hub) (q : Nat) : Hub :=
  let s := h.queue q
  let tail := (tailDescs s.descs).map (·.idx)
  let h := h.setQueue q { s with fetchOpen := false }
  let h := if s.isOpen && s.openIdx.any tail.contains then h.closeError q 0 true [] else h.count (Obj.qErrTerminated q)
  h.finishDescs q tail 0 false true

/-- The rest of a packet that ended in error before its last descriptor: its fetched descriptors are orphans (R221). -/
def Hub.orphanRest (h : Hub) (q : Nat) : Hub :=
  let s := h.queue q
  let todo := s.descs.filter (fun d => !d.got && d.done.isNone)
  let rest := todo.takeWhile (fun d => !d.flags.testBit 0)
  let whole := decide (rest.length = todo.length) && !(rest.any (fun d => d.flags.testBit 1))
  let ids := ((rest.takeWhile (fun d => !d.flags.testBit 1)) ++ (rest.dropWhile (fun d => !d.flags.testBit 1)).take 1).map (·.idx)
  ((h.setQueue q { s with fetchOpen := s.fetchOpen && !whole }).countN (Obj.qMalformed q) ids.length).finishDescs q ids 1 false true

/-- The open packet is longer than MAX_FRAME (R218): it is discarded up to its end. -/
def Hub.oversizePacket (h : Hub) (q : Nat) : Hub :=
  let s := h.queue q
  let h := h.count (Obj.oversize q)
  let h := h.when s.ctOut (fun h => h.feedOpen q 0 [] [] true true)
  let h := h.setQueue q { h.queue q with oversized := true, ctOut := false, openN := 0, openData := [] }
  if h.isWord q then (h.dropItems q (if s.ctOut then 0 else s.openN)).release q (if s.ctOut then 0 else s.openN) else h

/-- The check value appended to a packet of an H2D queue (R463): none for a queue the dispatcher consumes. -/
def Hub.appendCheck (h : Hub) (q : Nat) (on : Bool) (data : List Byte) : List Byte × Hub :=
  match h.profile (h.num (Obj.crcProfile q)) with
  | some p => if on && !h.isCmdQueue q then (p.octets data, h.count Obj.inlineAppended) else ([], h)
  | none => ([], h)

/-- The open packet of an H2D queue is complete: it goes to port 16 under the queue's route, or to the command dispatcher (R176, R229,
R397). `ids` are its descriptors, `ins` and `echo` what TS_INSERT and ECHO ask. -/
def Hub.closePacket (h : Hub) (q n : Nat) (ids : List Nat) (last : List Byte) (crc : Bool) (ins : Option Nat) (echo : Option (Nat × Nat)) :
    Hub :=
  let s := h.queue q
  let (tail, h) := h.appendCheck q crc s.openData
  let h := h.mirrorPacket q s.openData
  let h := h.setQueue q s.closed
  if h.isCmdQueue q then
    h.deliver inboxCmd {
      target := 0, data := s.openData, inPort := 16, route := 0, queue := q + 1, credits := s.openN, descs := ids,
      claim := h.num Obj.claim }
  else if s.ctOut then (h.askOpen q ins echo).feedOpen q n ids (last ++ tail) true false
  else h.swArrive 16 {
    data := s.openData ++ tail, route := h.num (Obj.qRoute q), queue := q + 1, credits := s.openN, descs := ids,
    insOff := ins, echo := echo }

/-- Data of the open packet has come: it may exceed MAX_FRAME (R218, R464), or become available at ct-thresh (R229). `extra`: octets the
check value will add. -/
def Hub.openMore (h : Hub) (q n extra : Nat) (ids : List Nat) (new : List Byte) (ended : Bool) : Hub :=
  let s := h.queue q
  let big := match h.queueMax q with | some m => decide (m < s.openData.length + extra) | none => false
  if big && !s.oversized then h.oversizePacket q
  else if ended || s.oversized || h.isCmdQueue q then h
  else if s.ctOut then h.feedOpen q n ids new false false
  else if s.ctUse ≠ 0 ∧ s.ctUse ≤ s.openData.length then
    (h.setQueue q { s with ctOut := true }).swArrive 16
      { data := s.openData, route := h.num (Obj.qRoute q), queue := q + 1, credits := s.openN, descs := ids, ended := false }
  else h

/-! ### QPORT(q) -/

/-- An item that the credit limit admits enters an H2D word queue (R226, R229, R230, R232). -/
def Hub.acceptItem (h : Hub) (q : Nat) (i : QItem) (bad : Bool) : Hub :=
  let s := h.queue q
  if s.dropToEop && !i.sop then
    let h := h.setQueue q { s with
      dropToEop := !i.eop, flushCount := if s.flushing then s.flushCount + 1 else s.flushCount }
    h.release q 1
  else if !i.sop && !s.isOpen then ((h.count (Obj.qMalformed q)).release q 1)
  else
    let h := h.when (i.sop && s.isOpen) (fun h => h.closeError q 0 true [])
    let h := h.when i.sop (fun h =>
      let h := h.applyRwb [Obj.ctThresh q]
      h.setQueue q { (h.queue q).closed with isOpen := true, ctUse := h.num (Obj.ctThresh q), dropToEop := false })
    let s := h.queue q
    let h := h.when bad (fun h => h.count (Obj.qMalformed q))
    let err := i.err || bad
    if s.oversized then
      let h := h.when i.eop (fun h => h.setQueue q (h.queue q).closed)
      h.release q 1
    else
      let data := if bad then [] else i.data
      let h := h.setQueue q { s with items := s.items ++ [i], openN := s.openN + 1, openData := s.openData ++ data }
      if i.eop && err then h.closeError q 1 false data
      else
        let h := h.openMore q 1 (h.checkSize (h.num (Obj.crcProfile q))) [] data i.eop
        if (h.queue q).oversized then
          let h := h.when s.ctOut (fun h => (h.dropItems q 1).release q 1)
          h.when i.eop (fun h => h.setQueue q (h.queue q).closed)
        else if i.eop then h.closePacket q 1 [] data true none none
        else h

/-- A write of QDB(q), CREDIT(q) or QPORT(q) that finds the queue not ON or in reset (R34, R226): refused and counted; from the ring the bridge answers
the transaction of a queue in reset with WNAK, and nothing is counted here. -/
def Hub.portRefused (h : Hub) (path : RegPath) (q : Nat) : Hub :=
  if path = .ring ∧ (h.func (fidQueue q)).inReset = true then h else h.count (Obj.refusedWrites q)

/-- A write of QPORT(q) (R226, R227, R234). An item without VALID takes a credit and gives it back. -/
def Hub.qportWrite (h : Hub) (path : RegPath) (q : Nat) (w : Nat) (unit8 : Bool) : Hub :=
  let s := h.queue q
  if !h.qOn q || (h.func (fidQueue q)).inReset then h.portRefused path q
  else if h.isD2H q || !h.isWord q || !unit8 then h.count (Obj.qMalformed q)
  else if h.num (Obj.qDepth q) ≤ (s.posted + 2 ^ 32 - s.released) % 2 ^ 32 then h.creditViolation q 1
  else
    let old := h.qLevel q
    let eop := w.testBit 61
    let err := w.testBit 60
    let bcnt := bits w 59 56
    let bad := eop && (decide (7 < bcnt) || (bcnt == 0 && !err))
    let data := (leBytes 7 w).take (if eop then (if bad then 0 else bcnt) else 7)
    let i : QItem := { sop := w.testBit 62, eop := eop, err := eop && err, data := data }
    let valid := w.testBit 63
    let h := h.setQueue q { s.post 1 with pidxAcc := (s.pidxAcc + 1) % 65536 }
    let h := h.when valid (fun h => h.count (Obj.itemsIn q))
    if !(s.post 1).copiesAgree then (h.ptrFault q).afterLevel q old
    else
      let h := h.afterLevel q old
      if valid then h.acceptItem q i bad else (h.count (Obj.qMalformed q)).release q 1

/-- A read of QPORT(q): the value, and what it removes (R225). -/
def Hub.qportRead (h : Hub) (q : Nat) (unit8 : Bool) : Nat × Hub :=
  let s := h.queue q
  if !unit8 || !h.isD2H q || !h.isWord q || !h.qOn q then (0, h)
  else
    match s.items with
    | [] => (0, h)
    | i :: is =>
      if s.items.length ≤ s.held then (min 65535 s.held, h)
      else
        let old := h.qLevel q
        let h := (h.setQueue q { s.take 1 with items := is, mid := !i.eop }).count (Obj.itemsOut q)
        let h := (h.afterLevel q old).checkPtr q
        (i.word, h.when (q == 63) Hub.overflowNow)

/-! ### Descriptors -/

/-- Ask host memory for the descriptors that a doorbell covers (R208); nothing while Bus Master Enable is clear (R207). -/
def Hub.requestDescs (h : Hub) (q : Nat) : Hub :=
  let s := h.queue q
  if !h.canRequest || h.isWord q then h
  else
    let n := (s.pidxAcc + 65536 - s.reqIdx) % 65536
    let h := (List.range n).foldl (fun h i =>
      h.askHost (h.num (Obj.descBase q) + 32 * ((s.reqIdx + i) % 65536 % h.num (Obj.qDepth q))) 32) h
    h.setQueue q { h.queue q with reqIdx := s.pidxAcc }

/-- A write of QDB(q) (R222, R227). -/
def Hub.doorbell (h : Hub) (path : RegPath) (q pidx : Nat) : Hub :=
  let s := h.queue q
  if !h.qOn q || (h.func (fidQueue q)).inReset then h.portRefused path q
  else if h.isWord q then h
  else
    let d := toSigned 16 (pidx + 65536 - s.pidxAcc)
    if d ≤ 0 then h
    else
      let old := h.qLevel q
      let room := h.num (Obj.qDepth q) - (s.posted + 2 ^ 32 - s.released) % 2 ^ 32
      let n := if h.isD2H q then d.toNat else min d.toNat room
      let h := h.setQueue q { s.post n with pidxAcc := (s.pidxAcc + n) % 65536 }
      let h := (h.countN (Obj.itemsIn q) n).checkPtr q
      let h := h.when (decide (n < d.toNat)) (fun h => h.creditViolation q (d.toNat - n))
      (h.afterLevel q old).requestDescs q

/-- QUEUE_DMA_ERROR (R239): the spec gives no coding of the AER cause; it is a free value. -/
def Hub.dmaError (h : Hub) (q idx : Nat) : Hub :=
  let c : BitVec 32 := Config.free 32 h.freeCtr
  h.nextFree.notice N.queueDmaError (fidQueue q) [q, idx, c.toNat]

/-- A fetched D2H descriptor: a granted buffer, or a grant that completes with a failure STATUS (R220, R221). -/
def Hub.grant (h : Hub) (q idx : Nat) (ok : Bool) (b : List Byte) : Hub :=
  let old := h.qLevel q
  let bad := !(slice b 10 6).all (· == 0) || decide (leAt b 8 2 < h.num (Obj.bufferSize q))
  let e : Nat × Option Nat × Nat :=
    if !ok then (idx, none, 3) else if bad then (idx, none, 1) else (idx, some (leAt b 0 8), 0)
  let h := h.when (!ok) (fun h => h.dmaError q idx)
  let h := h.setQueue q { h.queue q with bufs := (h.queue q).bufs ++ [e] }
  let h := h.badGrants q (if (h.queue q).rest.isNone ∧ (h.queue q).bufs.length = 1 then 1 else 0)
  let hold := ((h.d2hProfile q).map Profile.size).getD 0
  let h := ((h.fillBuffers q hold ((h.queue q).bufs.length + 1)).afterLevel q old).checkPtr q
  h.when (q == 63) Hub.overflowNow

/-- Whether a route targets a station port (R356). -/
def Hub.toStation (h : Hub) (q : Nat) : Bool :=
  let t := rtTargets (h.route (h.num (Obj.qRoute q)))
  t.testBit 14 || t.testBit 15

/-- An H2D PACKET descriptor fails: it is completed with a STATUS, in order. -/
def Hub.failDesc (h : Hub) (q : Nat) (d : QDesc) (status : Nat) : Hub :=
  (h.setQueue q { h.queue q with descs := (h.queue q).descs ++ [{ d with got := true, done := some (status, 0) }] }).drain q

/-- A descriptor's data is read from host memory (R209). -/
def Hub.askData (h : Hub) (q : Nat) (d : QDesc) : Hub :=
  let s := h.queue q
  (h.setQueue q { s with descs := s.descs ++ [d], reads := s.reads ++ [d.idx] }).askHost d.addr d.len

/-- A fetched H2D descriptor of a PACKET queue (R219, R221, R232, R356, R464). -/
def Hub.packetDesc (h : Hub) (q : Nat) (d : QDesc) (resv : Bool) : Hub :=
  let s := h.queue q
  let sop := d.flags.testBit 0
  let eop := d.flags.testBit 1
  let flushed := decide (s.flushTo ≠ 0 ∧ (d.idx + 65536 - (s.flushTo - 1)) % 65536 ≥ 32768)
  if s.dropToEop && !sop then
    let h := h.setQueue q { s with dropToEop := !eop, flushCount := if s.flushing then s.flushCount + 1 else s.flushCount }
    h.failDesc q d 4
  else if flushed && sop then
    let h := h.setQueue q { s with dropToEop := !eop, flushCount := s.flushCount + 1 }
    h.failDesc q d 4
  else if resv || d.len = 0 then h.failDesc q d 1
  else if sop && d.flags.testBit 3 && (h.profile (h.num (Obj.crcProfile q))).isNone then h.failDesc q d 1
  else if sop && eop && d.flags.testBit 4 && h.toStation q && decide (d.len < d.target + 10) then h.failDesc q d 1
  else if !sop && !s.fetchOpen then (h.count (Obj.qMalformed q)).failDesc q d 1
  else
    let h := h.when (sop && s.fetchOpen) (fun h => h.closeTail q)
    let h := h.setQueue q { h.queue q with fetchOpen := !eop, dropToEop := (h.queue q).dropToEop && !sop }
    h.askData q d

/-- The next descriptor of a queue has been read from host memory, or the read has failed (R209, R219 to R223). -/
def Hub.descFetched (h : Hub) (q : Nat) (ok : Bool) (b : List Byte) : Hub :=
  let s := h.queue q
  if s.staleFetch ≠ 0 then h.setQueue q { s with staleFetch := s.staleFetch - 1 }
  else if !h.qSends q || h.isWord q || s.fetchIdx == s.reqIdx then h
  else
    let idx := s.fetchIdx
    let h := h.setQueue q { s with fetchIdx := (idx + 1) % 65536 }
    if h.isD2H q then h.grant q idx ok b
    else
      let d : QDesc := {
        idx := idx, addr := leAt b 0 8, len := leAt b 8 2, flags := leAt b 10 2,
        target := if h.isBulk q then leAt b 12 6 else leAt b 12 2 }
      if !ok then
        let h := (h.dmaError q idx).when (h.queue q).fetchOpen (fun h => h.closeTail q)
        h.failDesc q { d with flags := 0 } 3
      else
        let resv := decide (128 ≤ d.flags) || !(slice b 18 6).all (· == 0) || (!h.isBulk q && !(slice b 14 4).all (· == 0))
        if h.isBulk q then
          let flushed := decide (s.flushTo ≠ 0 ∧ (idx + 65536 - (s.flushTo - 1)) % 65536 ≥ 32768)
          if flushed then (h.setQueue q { h.queue q with flushCount := (h.queue q).flushCount + 1 }).failDesc q d 4
          else if resv || d.len = 0 then h.failDesc q d 1
          else h.askData q d
        else h.packetDesc q d resv

/-- Data of a BULK descriptor: WRP frames that cross no 4 KiB boundary of ring address (R223, R158); the descriptor is done with a STATUS. -/
def Hub.bulkData (h : Hub) (q : Nat) (d : QDesc) (data : List Byte) (status : Nat) : Hub :=
  let cls := h.num (Obj.bulkClass q)
  let node := addrNode d.target
  let parts := (splitAccess 4096 (data.length + 1) d.target data.length).flatMap (fun p =>
    if p.2 ≤ 4088 then [p] else [(p.1, 4088), (p.1 + 4088, p.2 - 4088)])
  let reach := h.canReach node cls bulkLabel
  let h := if reach then
      let h := parts.foldl (fun h p =>
        let tag := SMap.get (fun _ => 0) h.bridge.wtags 0x11
        let h := { h with host := { h.host with bulkOwner := SMap.set (fun _ => 0) h.host.bulkOwner tag (q + 1) } }
        h.postWrite 0x11 cls bulkLabel p.1 (slice data (p.1 - d.target) p.2)) h
      let s := h.queue q
      h.setQueue q { s with bulkNodes := if s.bulkNodes.contains node then s.bulkNodes else s.bulkNodes ++ [node] }
    else h.setQueue q { h.queue q with bulkFaulted := (h.queue q).bulkFaulted + parts.length }
  let fence := if d.flags.testBit 2 then 1 else 0
  let h := h.setQueue q { h.queue q with
    descs := (h.queue q).descs.map (fun (x : QDesc) => if x.idx = d.idx then
      { x with got := true, fence := fence, done := some (if reach then (status, data.length) else (5, 0)) } else x) }
  (h.bulkFence q).drain q

/-- A change of one descriptor of a queue. -/
def Hub.setDesc (h : Hub) (q idx : Nat) (f : QDesc → QDesc) : Hub :=
  h.setQueue q { h.queue q with descs := (h.queue q).descs.map (fun (x : QDesc) => if x.idx = idx then f x else x) }

/-- The data read of a descriptor has failed (R209, R221, R230). A BULK transfer stops at the failing read: what came before it is sent. -/
def Hub.dataFailed (h : Hub) (q : Nat) (d : QDesc) (before : List Byte) : Hub :=
  let h := h.dmaError q d.idx
  if h.isBulk q then h.bulkData q d before 3
  else
    let h := h.setDesc q d.idx (fun x => { x with got := true, done := some (3, 0), echo := some 3 })
    let h := if (h.queue q).isOpen && !d.flags.testBit 0 then h.closeError q 0 false [] else h.count (Obj.qErrTerminated q)
    (if d.flags.testBit 1 then h else h.orphanRest q).drain q

/-- The descriptors of a packet are complete and the packet ends: it leaves, or the TS_INSERT of a descriptor does not fit (R221, R356). -/
def Hub.packetEnd (h : Hub) (q : Nat) (ids : List Nat) (ds : List QDesc) (crc : Bool) (new : List Byte) : Hub :=
  let echo := (ds.find? (fun x => ids.contains x.idx && x.flags.testBit 5)).map (fun e => (q, e.idx))
  match (ds.find? (fun x => ids.contains x.idx && x.flags.testBit 4)).filter (fun _ => h.toStation q) with
  | some x =>
    if (h.queue q).openData.length < x.target + 10 then
      (h.setQueue q { h.queue q with descs := markDone (fun _ => 1) (fun _ => 0) true [x.idx] (h.queue q).descs }).closeError q 0 false []
    else h.closePacket q 0 ids new crc (some x.target) echo
  | none => h.closePacket q 0 ids new crc none echo

/-- Data of a descriptor that belongs to the open packet (R218, R221, R464). -/
def Hub.packetPart (h : Hub) (q : Nat) (d : QDesc) (new : List Byte) : Hub :=
  let s := h.queue q
  let eop := d.flags.testBit 1
  let ids := s.openIdx ++ [d.idx]
  let crc := ((s.descs.find? (fun x => ids.contains x.idx && x.flags.testBit 0)).getD d).flags.testBit 3
  let h := h.setQueue q { s with openData := s.openData ++ new, openIdx := ids }
  let h := h.openMore q 0 (if crc then h.checkSize (h.num (Obj.crcProfile q)) else 0) (if s.ctOut then [] else ids) new eop
  if (h.queue q).oversized then
    (h.finishDescs q ids 2 false true).when eop (fun h => h.setQueue q (h.queue q).closed)
  else h.when eop (fun h => h.packetEnd q ids s.descs crc new)

/-- The data of a descriptor of a PACKET queue has come (R221, R229). -/
def Hub.packetData (h : Hub) (q : Nat) (d : QDesc) (new : List Byte) : Hub :=
  let h := h.setDesc q d.idx (fun x => { x with got := true })
  let h := h.when (d.flags.testBit 0) (fun h =>
    let h := h.applyRwb [Obj.ctThresh q]
    h.setQueue q { (h.queue q).closed with isOpen := true, ctUse := h.num (Obj.ctThresh q) })
  if (h.queue q).oversized then
    (h.finishDescs q [d.idx] 2 false true).when (d.flags.testBit 1) (fun h => h.setQueue q (h.queue q).closed)
  else h.packetPart q d new

/-- The oldest data read of a queue has ended (R209, R221, R230). -/
def Hub.dataRead (h : Hub) (q : Nat) (ok : Bool) (data : List Byte) : Hub :=
  let i := (h.queue q).reads.headD 65536
  let h := h.setQueue q { h.queue q with reads := (h.queue q).reads.drop 1 }
  match (h.queue q).descs.find? (fun d => d.idx == i && !d.got && d.done.isNone) with
  | none => h
  | some d =>
    if !ok then h.dataFailed q d (data.take d.len)
    else if h.isBulk q then h.bulkData q d (data.take d.len) 0
    else h.packetData q d (data.take d.len)

/-- The stamp of a packet that asked for ECHO, in the descriptor that names it and in those behind it that are of the same packet. -/
def stampEcho (stamp : Nat) : Bool → Nat → List QDesc → List QDesc
  | _, _, [] => []
  | on, idx, d :: ds =>
    let on := (on && !d.flags.testBit 0) || d.idx == idx
    (if on then { d with echo := some stamp } else d) :: stampEcho stamp (on && !d.flags.testBit 1) idx ds

/-- A frame that asked for ECHO has left a station port, or was dropped (R357): the stamp of its descriptors. -/
def Hub.echoStamp (h : Hub) (q idx stamp : Nat) : Hub :=
  (h.setQueue q { h.queue q with descs := stampEcho stamp false idx (h.queue q).descs }).drain q

/-! ### Flush and reset -/

/-- flush written true on a queue that is ON (R232). -/
def Hub.flushQueue (h : Hub) (q : Nat) : Hub :=
  let s := h.queue q
  if s.flushing then h
  else if h.isD2H q then
    if h.isWord q then
      let keep := if s.mid then
          let a := s.items.takeWhile (fun i => !i.eop)
          s.items.take (a.length + 1)
        else []
      let openMid := s.mid && !(keep.any (·.eop))
      let n := s.items.length - keep.length
      let old := h.qLevel q
      let h := h.setQueue q { (s.take n) with
        items := keep, flushing := true, flushCount := n, held := if openMid then s.held else 0,
        rest := if openMid then s.rest else none, dropToEop := s.rest.isSome && !openMid }
      (h.afterLevel q old).checkPtr q
    else
      let started := match s.rest with | some r => r.avail | none => false
      h.setQueue q { s with
        flushing := true, flushCount := 0, rest := if started then s.rest else none,
        dropToEop := match s.rest with | some r => !r.ended && !started | none => false }
  else
    let (gone, h) := h.dropWaiting q
    let open_ := s.isOpen && !(s.ctOut && !(gone.any (fun p => !p.ended)))
    if h.isWord q then
      let n := (gone.map (·.credits)).foldl (· + ·) 0 + (if open_ && !s.ctOut then s.openN else 0)
      let h := h.setQueue q { (if open_ then s.closed else s) with
        flushing := true, flushCount := n, dropToEop := open_ || s.dropToEop,
        items := if open_ then [] else s.items.drop ((gone.map (·.credits)).foldl (· + ·) 0) }
      h.release q n
    else
      let cont := s.isOpen && !open_
      let todo := s.descs.filter (fun d => !d.got && d.done.isNone)
      let body := if cont then todo.takeWhile (fun d => !d.flags.testBit 0) else []
      let keep := (body.takeWhile (fun d => !d.flags.testBit 1)) ++ (body.dropWhile (fun d => !d.flags.testBit 1)).take 1
      let ids := gone.flatMap (·.descs) ++ (if open_ then s.openIdx else []) ++ (todo.drop keep.length).map (·.idx)
      let cut := s.fetchOpen && !(cont && keep.length = todo.length)
      let h := h.setQueue q { (if open_ then s.closed else s) with
        flushing := true, flushCount := ids.length, fetchOpen := s.fetchOpen && !cut, dropToEop := cut || s.dropToEop,
        flushTo := s.pidxAcc + 1 }
      h.finishDescs q ids 4 false true

/-- Whether a flush has reached its end (R232). -/
def Hub.flushDone (h : Hub) (q : Nat) : Bool :=
  let s := h.queue q
  s.flushing && !s.dropToEop && !s.mid
    && (if h.isD2H q then (h.isWord q || s.rest.isNone)
        else !(s.isOpen && s.ctOut) && (h.isWord q || s.flushTo == 0 || (s.fetchIdx + 65536 - (s.flushTo - 1)) % 65536 < 32768))

/-- The consumer reaches the packet boundary (R232). -/
def Hub.flushComplete (h : Hub) (q : Nat) : Hub :=
  if h.flushDone q then
    let n := (h.queue q).flushCount
    let h := h.setQueue q { h.queue q with flushing := false, flushCount := 0, flushTo := 0 }
    (h.countN (Obj.flushDiscards q) n).notice N.queueFlushed (fidQueue q) [q, n]
  else h

/-- A queue afresh: host reads still under way end for nothing, and the sticky bits of QACK stay until they are cleared (R233). -/
def QState.stale (s : QState) : QState :=
  { wmHighSticky := s.wmHighSticky, wmLowSticky := s.wmLowSticky, creditViol := s.creditViol, ptrFault := s.ptrFault, staleFetch := s.staleFetch + (s.reqIdx + 65536 - s.fetchIdx) % 65536, reads := s.reads.map (fun _ => 65536) }

/-- What is in a queue that leaves ON without draining (R33, R493): packets at port 16 go, and what is lost is counted in items-lost. -/
def Hub.queueAbort (h : Hub) (q : Nat) : Hub :=
  let s := h.queue q
  let lost := if h.isD2H q && !h.isWord q then b2n s.rest.isSome else h.qLevel q
  let h := (h.dropWaiting q).2
  let h := h.when (s.isOpen && s.ctOut) (fun h => h.feedOpen q 0 [] [] true true)
  let h := (h.setQueue q s.stale).countN (Obj.itemsLost q) lost |>.setNum (Obj.level q) 0
  h.when (q == 63) (fun h => { h with host := { h.host with
    backlog := [], nlost := satAdd (maxWord 32) h.host.nlost h.host.backlog.length, lostRun := h.host.lostRun + h.host.backlog.length } })

/-- A queue enters ON (R227, R228, R231): both pointers afresh, credits granted, the credit word written. -/
def Hub.queueStart (h : Hub) (q : Nat) : Hub :=
  let h := h.setQueue q { (h.queue q).stale with bulkEpoch := h.num Obj.orderingEpoch }
  let h := h.setNum (Obj.level q) 0
  h.creditWordNow q

/-! ### Interrupts and the endpoint -/

/-- The live state of MSI-X changes: what was recorded and may go now is sent (R207). -/
def Hub.setMsix (h : Hub) (enable functionMask : Bool) (masked : List Nat) : Hub :=
  let h := { h with host := { h.host with msixEnable := enable, functionMask := functionMask, vectorMask := masked } }
  if enable && !functionMask then
    let go := h.host.pba.filter (fun v => !masked.contains v)
    let h := { h with host := { h.host with pba := h.host.pba.filter (fun v => masked.contains v) } }
    go.reverse.foldl (fun h v => h.vector v) h
  else h

/-- A write of a word of the MSI-X table by the PCIe path (R211, R212): address, data, or the mask of the vector. Any other offset takes nothing. -/
def Hub.msixWrite (h : Hub) (off v : Nat) : Hub :=
  let k := (off - 0x20000) / 16
  let w := off % 16 / 4
  if off < 0x20000 ∨ 0x20800 ≤ off then h
  else if w < 3 then { h with host := { h.host with msixTable := SMap.set (fun _ => 0) h.host.msixTable (4 * k + w) (v % 2 ^ 32) } }
  else
    let others := h.host.vectorMask.filter (· != k)
    h.setMsix h.host.msixEnable h.host.functionMask (if v.testBit 0 then k :: others else others)

/-- The hub may act as requester again (R207): what waits goes in order, and fetches resume. -/
def Hub.resumeHost (h : Hub) : Hub :=
  if h.canRequest then
    let d := h.host.deferred
    let h := { h with host := { h.host with deferred := [] } }
    let h := d.foldl (fun h o => match o with | .msix v _ _ => h.vector v | .hostRead a n => h.askHost a n | _ => h.emit o) h
    (List.range 64).foldl (fun h q => if h.qOn q then h.requestDescs q else h) h
  else h

/-- Bus Master Enable changes (R207). -/
def Hub.setBusMaster (h : Hub) (on : Bool) : Hub := ({ h with host := { h.host with busMaster := on } }).resumeHost

/-- A configuration write of up to four octets within a word (R204, R205, R207, R209): the bits a word takes, Bus Master Enable, the power state,
MSI-X Enable and Function Mask, and the status bits that a 1 clears. -/
def Hub.configWrite (h : Hub) (offset : Nat) (data : List Byte) : Hub :=
  let off := offset / 4 * 4
  let sh := 8 * (offset % 4)
  let m := (2 ^ (8 * data.length) - 1) * 2 ^ sh % 2 ^ 32
  let v := leNat data * 2 ^ sh % 2 ^ 32
  let cut (x bits : Nat) := x - Nat.land x bits
  let d0 := h.inD0
  let h := match configRw.find? (fun r => r.1 == off) with
    | some r =>
      let w := Nat.land m r.2.2
      { h with host := { h.host with config := SMap.set (fun _ => r.2.1) h.host.config off (Nat.lor (cut (h.configReg off) w) (Nat.land v w)) } }
    | none => h
  if off = 0x04 then
    let h := { h with host := { h.host with pciStatus := cut h.host.pciStatus (v / 65536) } }
    if m.testBit 2 then h.setBusMaster (v.testBit 2) else h
  else if off = 0x44 then (if d0 then h else h.resumeHost)
  else if off = 0x60 then
    (if m.testBit 31 then h.setMsix (v.testBit 31) (v.testBit 30) h.host.vectorMask else h)
  else if off = 0x104 then { h with host := { h.host with aerUncor := cut h.host.aerUncor v } }
  else if off = 0x110 then { h with host := { h.host with aerCor := cut h.host.aerCor v } }
  else h

/-- Bits written to QACK(q) clear (R233, R234); a mark that stands crossed is not taken afresh by the clearing itself. -/
def Hub.qackClear (h : Hub) (q m : Nat) : Hub :=
  let s := h.queue q
  h.setQueue q { s with
    wmHighSticky := s.wmHighSticky && !m.testBit 4, wmLowSticky := s.wmLowSticky && !m.testBit 3,
    creditViol := s.creditViol && !m.testBit 2, ptrFault := s.ptrFault && !m.testBit 1 }

/-- Bits written to NPEND clear (R238). -/
def Hub.npendClear (h : Hub) (m : Nat) : Hub :=
  let n := (List.range 64).foldl (fun n i => if m.testBit i then clearBit n i else n) h.host.npend
  ({ h with host := { h.host with npend := n } }).overflowNow

/-! ### The commands -/

/-- QUEUE_DOORBELL (R222). -/
def execQueueDoorbell (path : RegPath) (q : Fin 64) (pidx : BitVec 16) (s : State) : Host.Outcome State Fault Refusal :=
  s.answer (fun h => h.doorbell path q.val pidx.toNat)
/-- DESCRIPTOR_FETCH_DONE (R209, R221). -/
def execDescriptorFetchDone (q : Fin 64) (r : ReadEnd) (data : List Byte) (s : State) : Host.Outcome State Fault Refusal :=
  s.answer (fun h => (h.readFault r).descFetched q.val (decide (r = .data)) data)
/-- H2D_DATA_READ_DONE (R209, R221). -/
def execH2dDataReadDone (q : Fin 64) (r : ReadEnd) (data : List Byte) (s : State) : Host.Outcome State Fault Refusal :=
  s.answer (fun h => (h.readFault r).dataRead q.val (decide (r = .data)) data)
/-- QPORT_WRITE (R226). -/
def execQportWrite (path : RegPath) (q : Fin 64) (item : BitVec 64) (unit8 : Bool) (s : State) : Host.Outcome State Fault Refusal :=
  s.answer (fun h => (h.qportWrite path q.val item.toNat unit8).mirrorPump)
/-- QPORT_READ (R225). -/
def execQportRead (path : RegPath) (q : Fin 64) (unit8 : Bool) (s : State) : Host.Outcome State Fault Refusal :=
  s.answer (fun h => let (v, h) := h.qportRead q.val unit8; h.emit (.regValue path v))

/-- A write of CREDIT(q) with its SYNC bit (R226, R228, R234): refused while the queue is not ON. -/
def Hub.creditSync (h : Hub) (path : RegPath) (q : Nat) (sync : Bool) : Hub :=
  if !h.qOn q || (h.func (fidQueue q)).inReset then h.portRefused path q else h.when sync (fun h => h.creditWordNow q)

/-- CREDIT_SYNC (R228). -/
def execCreditSync (path : RegPath) (q : Fin 64) (s : State) : Host.Outcome State Fault Refusal :=
  s.answer (fun h => h.creditSync path q.val true)
/-- credit-holdoff after the first release not yet written (R228). -/
def execCreditHoldoffExpired (q : Fin 64) (s : State) : Host.Outcome State Fault Refusal :=
  s.answer (fun h => if h.qOn q.val && (h.queue q.val).creditDue != 0 then h.creditWordNow q.val else h)
/-- QUEUE_FLUSH_COMPLETE (R232). -/
def execQueueFlushComplete (q : Fin 64) (s : State) : Host.Outcome State Fault Refusal := s.answer (fun h => h.flushComplete q.val)
/-- QACK_CLEAR (R233); a ring write to a queue in reset is answered with WNAK and does nothing here (R34). -/
def execQackClear (path : RegPath) (q : Fin 64) (mask : BitVec 32) (s : State) : Host.Outcome State Fault Refusal :=
  s.answer (fun h => if path = .ring ∧ (h.func (fidQueue q.val)).inReset = true then h else h.qackClear q.val mask.toNat)
/-- NOTICE_PEND_CLEAR (R238). -/
def execNoticePendClear (_path : RegPath) (mask : BitVec 64) (s : State) : Host.Outcome State Fault Refusal :=
  s.answer (fun h => h.npendClear mask.toNat)
/-- irq-holdoff after the first event not yet signalled (R235). -/
def execIrqHoldoffExpired (q : Fin 64) (s : State) : Host.Outcome State Fault Refusal :=
  s.answer (fun h => if h.num (Obj.irqMode q.val) = 2 ∧ (h.queue q.val).irqGathered ≠ 0 then
    (h.setQueue q.val { h.queue q.val with irqGathered := 0 }).vector q.val else h)
/-- BUS_MASTER_ENABLE_CHANGE (R207). -/
def execBusMasterEnableChange (on : Bool) (s : State) : Host.Outcome State Fault Refusal := s.answer (fun h => h.setBusMaster on)
/-- MSIX_UNMASK (R207). -/
def execMsixUnmask (enable functionMask : Bool) (masked : List Nat) (s : State) : Host.Outcome State Fault Refusal :=
  s.answer (fun h => h.setMsix enable functionMask masked)

/-- The first cell of the frame that waits at an input (R186); a frame of an H2D queue that is taken releases its credits or descriptors
(R227). -/
def Hub.switchFrameIn (h : Hub) (port : Nat) : Hub :=
  match SMap.get (fun _ => []) h.sw.inputs port with
  | [] => h
  | p :: l =>
    let id := h.sw.nextId
    let h' := h.frameIn port
    if (SMap.get (fun _ => []) h'.sw.inputs port).length = l.length then h'.packetTaken p (h'.sw.nextId != id) else h'

/-- SWITCH_FRAME_OUT_DONE (R181). -/
def execSwitchFrameOutDone (port : Fin 18) (ecc : Fin 3) (cell : BitVec 16) (s : State) : Host.Outcome State Fault Refusal :=
  s.answer (fun h => (h.frameOutDone port.val ecc.val cell.toNat).mirrorPump)
/-- CT_STALL_EXPIRED (R195). -/
def execCtStallExpired (port : Fin 18) (s : State) : Host.Outcome State Fault Refusal := s.answer (fun h => h.ctStall port.val)
/-- SWITCH_CELL_TIME (R192). -/
def execSwitchCellTime (s : State) : Host.Outcome State Fault Refusal := s.answer Hub.cellTime

end Sys2Proof.Machine
end

