-- ==== Sys2Proof/Machine/DupCore.lean ====
section
/-!
DEFINITION. What output commands meet before their stage (R28, R262, R392 to R397, R404, R405): claim records, the claim the hub's
supervisor holds, CMD frames, the comparator; and a fault reaction that disables a function (R31).
-/
namespace Sys2Proof.Machine

/-- The recorded claim of a group; 0 for group 0 (R393). -/
def Hub.recorded (h : Hub) (g : Nat) : Nat := if g = 0 ∨ 32 < g then 0 else h.num (Obj.recordedClaim (g - 1))

/-- Raise the record of a group (R393). -/
def Hub.raiseRecord (h : Hub) (g c : Nat) : Hub := if g = 0 ∨ 32 < g then h else h.maxNum (Obj.recordedClaim (g - 1)) c

/-- Whether the supervisor runs and a group is its own. -/
def Hub.inGroup (h : Hub) (g : Nat) : Bool := h.num Obj.role != roleOff && g != 0 && g == h.num Obj.dupGroup

/-- The claim the hub writes into a command it originates for a group (R262). -/
def Hub.ownClaim (h : Hub) (g : Nat) : Nat := if h.inGroup g then h.num Obj.claim else 0

/-! Fields of a command record (R261). -/
def recClaim (r : List Byte) : Nat := leAt r 0 4
def recGroup (r : List Byte) : Nat := byteAt r 4
def recCmd (r : List Byte) : Nat := byteAt r 5
def recChannel (r : List Byte) : Nat := byteAt r 6
def recSource (r : List Byte) : Nat := byteAt r 7
def recPulse (r : List Byte) : Nat := leAt r 8 4

/-- A command record (R261). -/
def cmdRecord (claim group cmd channel source pulse : Nat) : List Byte :=
  leBytes 4 claim ++ [BitVec.ofNat 8 group, BitVec.ofNat 8 cmd, BitVec.ofNat 8 channel, BitVec.ofNat 8 source] ++ leBytes 4 pulse
    ++ leBytes 4 0

/-- Send a CMD frame to a node (R396): class 0, both ports. -/
def Hub.sendCmd (h : Hub) (node : Nat) (r : List Byte) : Hub :=
  (h.sendRing 16 { dst := node, cls := 0, type := tCmd, claim := recClaim r, payload := r ++ leBytes 4 h.time.ccNumber } 0).2

/-- A CMD for a local output crosses the core by fixed delivery to the cluster port of its channel (R176, R188); it comes from an input port. -/
def Hub.localCmd (h : Hub) (inPort : Nat) (r : List Byte) : Hub :=
  let c := recChannel r
  h.swArrive inPort {
    data := r, route := c % 16
    fixed := some ({ dst := h.self, cls := 0, type := tCmd, claim := recClaim r, payload := r ++ leBytes 4 h.time.ccNumber }, c / 16) }

/-! ### The comparator (R404, R405) -/

def Hub.dupOut (h : Hub) (k : Nat) : DupOut := SMap.get (fun _ => {}) h.duplex.outs k

/-- Store an output's values; mismatched-outputs follows (R419). -/
def Hub.setDupOut (h : Hub) (k : Nat) (o : DupOut) : Hub :=
  let h := { h with duplex := { h.duplex with outs := SMap.set (fun _ => {}) h.duplex.outs k o } }
  h.setNum Obj.mismatchedOutputs ((h.duplex.outs.filter (fun p => p.2.mismatched)).length)

/-- A or S of an output changes (R404, R405): the window opens, or the output agrees. An output beyond 256 is not compared; while the peer's
digest differs the values are kept and nothing is compared (R389). -/
def Hub.compareCmd (h : Hub) (active : Bool) (node : Nat) (r : List Byte) : Hub :=
  if h.num Obj.role ≠ roleStandby then h
  else
    let k := node * 256 + recChannel r
    if h.duplex.outs.all (fun p => p.1 != k) && decide (256 ≤ h.duplex.outs.length) then
      let h := h.count Obj.compareOverflows
      if h.duplex.overflowRaised then h
      else ({ h with duplex := { h.duplex with overflowRaised := true } }).notice N.duplexCompareOverflow fidDuplex
        [node, recChannel r]
    else
      let v := some (recCmd r, recPulse r)
      let o := h.dupOut k
      let same := (if active then o.a else o.s) == v
      let o := if active then { o with a := v } else { o with s := v, sRec := r }
      h.setDupOut k (if o.a = o.s ∨ h.duplex.digestDiffers = true then { o with win := false, mismatched := false } else { o with win := o.win || !same })

/-- A command record the hub originates (R395): whether it goes to the local stage, and what the supervisor does with it. `node` 0 is this
hub. -/
def Hub.issueCmd (h : Hub) (node : Nat) (r : List Byte) : Bool × Hub :=
  let loc := node = 0 ∨ node = h.self
  if !h.inGroup (recGroup r) then
    if loc then (true, h) else (false, h.when (!h.flag Obj.hubFault) (fun h => h.sendCmd node r))
  else if h.flag Obj.hubFault then (false, h.count Obj.cmdWithheld)
  else if h.num Obj.role = roleActive then
    if loc then (true, h.when (h.self != 0) (fun h => h.sendCmd h.self r)) else (false, h.sendCmd node r)
  else if h.num Obj.role = roleStandby then (false, h.compareCmd false (if node = 0 then h.self else node) r)
  else (false, h.count Obj.cmdWithheld)

/-! ### Fault reactions -/

/-- A fault reaction disables a function (R31, R34, R498): OFF with FAULT, and the notice with the CODE that raised it. -/
def Hub.faultOff (h : Hub) (fid code : Nat) : Hub :=
  if h.isOff fid then h
  else
    let h := { h with safety := { h.safety with faultAt := SMap.set (fun _ => 0) h.safety.faultAt fid (h.now + 1) } }
    (h.setFunc fid { life := .off, fault := true }).notice N.functionFaultOff fid [fid, code]

end Sys2Proof.Machine
end

