-- ==== Sys2Proof/Machine/ChanCore.lean ====
section
/-!
DEFINITION. A universal channel as the blocks behind it see it (R241 to R245): its state, its modes, whether it is ON in one of them.
-/
namespace Sys2Proof.Machine

def Hub.chan (h : Hub) (c : Nat) : Chan := SMap.get (fun _ => {}) h.chans c
def Hub.setChan (h : Hub) (c : Nat) (x : Chan) : Hub := { h with chans := SMap.set (fun _ => {}) h.chans c x }

/-- Whether a channel is ON in a mode (R244). -/
def Hub.chanIn (h : Hub) (c mode : Nat) : Bool := h.isOn (fidChannel c) && h.num (Obj.chMode c) == mode

def modeUart : Nat := 1
def modeCan : Nat := 2
def modeBin : Nat := 3
def modeBout : Nat := 4
def modePulse : Nat := 5
def modeTcode : Nat := 6
def modeCstart : Nat := 7
def modeSeq : Nat := 8

/-- The eaves cells of a channel's cluster hold its pads (R544). -/
def Hub.eavesHolds (h : Hub) (c : Nat) : Bool := (h.num Obj.eavesHeld).testBit (c / 16)

/-- Drive a pin of a channel: 0 A, 1 B, 2 C. While its pads are held the change does not reach them (R545). -/
def Hub.drive (h : Hub) (c pin : Nat) (level : Bool) : Hub :=
  let x := h.chan c
  let old := if pin = 0 then x.pinA else if pin = 1 then x.pinB else x.pinC
  if old = some level then h
  else
    let x := if pin = 0 then { x with pinA := some level } else if pin = 1 then { x with pinB := some level } else { x with pinC := some level }
    (h.setChan c x).when (!h.eavesHolds c) (fun h => h.emit (.pin c pin level))

/-- Leave a pin at high impedance. -/
def Hub.floatPin (h : Hub) (c pin : Nat) : Hub :=
  let x := h.chan c
  h.setChan c (if pin = 0 then { x with pinA := none } else if pin = 1 then { x with pinB := none } else { x with pinC := none })

/-- A channel in a mode that sends what it holds: ON, or draining after a disable (R33). -/
def Hub.chanSends (h : Hub) (c mode : Nat) : Bool := h.sends (fidChannel c) && h.num (Obj.chMode c) == mode

/-- A channel goes OFF: its pins at high impedance (R241), its latches and timers cleared, line-state NOT_TESTED (R493), and quality with it (R285). -/
def Hub.chanClear (h : Hub) (c : Nat) : Hub :=
  let x := h.chan c
  (h.setChan c { recSeq := x.recSeq, newest := x.newest, inA := x.inA, inB := x.inB, inC := x.inC, gapNotice := x.gapNotice }).setNum
    (Obj.lineState c) 5 |>.setNum (Obj.quality c) 1

/-- Whether a channel of a cluster is ON or starts (R243). -/
def Hub.clusterUsed (h : Hub) (k : Nat) : Bool :=
  (List.range 16).any (fun i => decide ((h.func (fidChannel (16 * k + i))).life = .on ∨ (h.func (fidChannel (16 * k + i))).life = .starting))

/-- The cluster stops when the last of its channels leaves ON (R243). -/
def Hub.clusterFollow (h : Hub) (k : Nat) : Hub :=
  let f := h.func (fidCluster k)
  if h.clusterUsed k then h
  else if f.life = .on ∨ f.life = .starting then h.setFunc (fidCluster k) { f with life := .stopping }
  else if f.life = .stopping then h.setFunc (fidCluster k) { f with pendingEn := false }
  else h

end Sys2Proof.Machine
end

