-- ==== Sys2Proof/Machine/Can.lean ====
section
/-!
DEFINITION. The CAN controllers (R290 to R316): bit timing and the checks of an enable, receive and bus-event records, error states, transmit
buffers, and the schedule matrix with its pitches and free windows.
-/
namespace Sys2Proof.Machine

def Hub.can (h : Hub) (n : Nat) : Can := SMap.get (fun _ => {}) h.cans n
def Hub.setCan (h : Hub) (n : Nat) (x : Can) : Hub := { h with cans := SMap.set (fun _ => {}) h.cans n x }

/-! Codes of bus-state and matrix-state (R313). -/
def canActive : Nat := 0
def canPassive : Nat := 1
def canOff : Nat := 2
def canIntegrating : Nat := 3
def matStopped : Nat := 0
def matWait : Nat := 1
def matRunning : Nat := 2

/-- schedule-mode MATRIX. -/
def Hub.canMatrix (h : Hub) (n : Nat) : Bool := h.num (Obj.scheduleMode n) == 1

/-! ### Bit timing and durations (R293 to R295, R305) -/

/-- CCLK cycles of a nominal bit, and of a data-phase bit. -/
def Hub.nomBit (h : Hub) (n : Nat) : Nat := h.num (Obj.nomPrescaler n) * (1 + h.num (Obj.nomTseg1 n) + h.num (Obj.nomTseg2 n))
def Hub.dataBit (h : Hub) (n : Nat) : Nat := h.num (Obj.dataPrescaler n) * (1 + h.num (Obj.dataTseg1 n) + h.num (Obj.dataTseg2 n))

/-- nominal-rate and data-rate. -/
def Hub.nomRate (h : Hub) (n : Nat) : Nat := 400000000 / h.nomBit n
def Hub.dataRate (h : Hub) (n : Nat) : Nat := 400000000 / h.dataBit n

/-- Octets a DLC codes, classical or FD. -/
def dlcLen (fdf : Bool) (dlc : Nat) : Nat :=
  if dlc ≤ 8 then dlc else if fdf then [12, 16, 20, 24, 32, 48, 64].getD (dlc - 9) 64 else 8

/-! Fields of a buffer of the matrix (R303). -/
def bufWord (m : List Byte) (b : Nat) : Nat := leAt m (272 + 8 * b) 4
def bufValid (m : List Byte) (b : Nat) : Bool := (bufWord m b).testBit 31
def bufRtr (m : List Byte) (b : Nat) : Bool := (bufWord m b).testBit 30
def bufIde (m : List Byte) (b : Nat) : Bool := (bufWord m b).testBit 29
def bufId (m : List Byte) (b : Nat) : Nat := bits (bufWord m b) 28 0
def bufFlags (m : List Byte) (b : Nat) : Nat := byteAt m (276 + 8 * b)
def bufFreeOk (m : List Byte) (b : Nat) : Bool := (bufFlags m b).testBit 7
def bufRetry (m : List Byte) (b : Nat) : Bool := (bufFlags m b).testBit 6
def bufBrs (m : List Byte) (b : Nat) : Bool := (bufFlags m b).testBit 5
def bufFdf (m : List Byte) (b : Nat) : Bool := (bufFlags m b).testBit 4
def bufDlc (m : List Byte) (b : Nat) : Nat := bits (bufFlags m b) 3 0
def bufEvent (m : List Byte) (b : Nat) : Bool := (byteAt m (277 + 8 * b)).testBit 0

/-! Fields of the matrix (R303). -/
def matCycles (m : List Byte) : Nat := byteAt m 1
def matPitches (m : List Byte) : Nat := byteAt m 2
def matCycleLen (m : List Byte) : Nat := leAt m 4 4
def matFlashing (m : List Byte) : Nat := leAt m 8 4
def pitchStart (m : List Byte) (j : Nat) : Nat := leAt m (16 + 8 * j) 4
def pitchLen (m : List Byte) (j : Nat) : Nat := leAt m (20 + 8 * j) 4
def cellOf (m : List Byte) (i j : Nat) : Nat := leAt m (528 + 2 * (32 * i + j)) 2
def cellKind (m : List Byte) (i j : Nat) : Nat := bits (cellOf m i j) 15 14
def cellBuf (m : List Byte) (i j : Nat) : Nat := bits (cellOf m i j) 4 0

/-- Worst-case CCLK cycles of a classical frame of `d` octets (R305). -/
def Hub.classicalCycles (h : Hub) (n : Nat) (ide : Bool) (d : Nat) : Nat :=
  h.nomBit n * (if ide then 8 * d + 67 + (54 + 8 * d - 1) / 4 else 8 * d + 47 + (34 + 8 * d - 1) / 4)

/-- Worst-case CCLK cycles of an FD frame of `d` octets, each phase at its own rate (R305): the arbitration part of 17 or 36 bits to BRS; the data
phase, which BRS ends with its sample point, of ESI, DLC, data, fixed stuff bits, stuff count, CRC and its delimiter, and of a stuff bit after BRS; ACK, its delimiter, 7 end-of-frame and 3 intermission bits at the
nominal rate. Stuff bits fall as early as they can. The bit counts are ISO 11898-1's (PRESUMED: a log entry). -/
def Hub.fdCycles (h : Hub) (n : Nat) (ide brs : Bool) (d : Nat) : Nat :=
  let arb := if ide then 36 else 17
  let dat := 5 + 8 * d
  let tail := if d ≤ 16 then 4 + 17 + 6 + 1 else 4 + 21 + 7 + 1
  let stuffA := (arb - 2) / 4
  let stuffD := (arb + dat - 1) / 4 - stuffA
  let db := if brs then h.dataBit n else h.nomBit n
  h.nomBit n * (arb + stuffA + 12) + db * (dat + stuffD + tail)

/-- Worst-case duration of a buffer's frame in ns (R305); 0 without VALID. -/
def Hub.bufDuration (h : Hub) (n : Nat) (m : List Byte) (b : Nat) : Nat :=
  if !bufValid m b then 0
  else
    let cycles := if bufFdf m b then h.fdCycles n (bufIde m b) (bufBrs m b) (dlcLen true (bufDlc m b))
      else h.classicalCycles n (bufIde m b) (if bufRtr m b then 0 else dlcLen false (bufDlc m b))
    (cycles * 5 + 1) / 2

/-- buffer-duration (R305, R313). -/
def Hub.bufferDurations (h : Hub) (n : Nat) : List Byte :=
  (List.range 32).flatMap (fun b => leBytes 4 (h.bufDuration n (h.oct (Obj.canSchedule n)) b))

/-! ### Checks (R290, R291, R293, R294, R298, R304) -/

/-- The checks of the buffer table (R304): 0, or CONFLICT (7). -/
def Hub.bufferChecks (h : Hub) (n : Nat) (m : List Byte) (free : Bool) : Nat :=
  if (List.range 32).any (fun b =>
      bits (byteAt m (277 + 8 * b)) 7 1 != 0 || leAt m (278 + 8 * b) 2 != 0
      || (bufFdf m b && !h.flag (Obj.fdEnable n)) || (bufRtr m b && bufFdf m b) || (bufBrs m b && !bufFdf m b)
      || (!free && (bufFreeOk m b || bufRetry m b))) then 7 else 0

/-- The checks of a matrix (R304) under a schedule-mode: 0, RANGE (6) or CONFLICT (7). -/
def Hub.matrixCheck (h : Hub) (n : Nat) (m : List Byte) : Nat :=
  if !h.canMatrix n then h.bufferChecks n m true
  else
    let cs := matCycles m
    let ps := matPitches m
    let fl := matFlashing m
    let cells := (List.range 16).flatMap (fun i => (List.range 32).map (fun j => (i, j)))
    let used := cells.filter (fun c => decide (c.1 < cs ∧ c.2 < ps))
    if byteAt m 0 ≠ 1 ∨ cs = 0 ∨ 16 < cs ∨ ps = 0 ∨ 32 < ps ∨ matCycleLen m < 50000 ∨ 100000000 < matCycleLen m ∨ 1000000 < fl then 6
    else if (List.range ps).any (fun j => decide (pitchLen m j ≤ fl ∨ matCycleLen m < pitchStart m j + pitchLen m j)) then 6
    else if used.any (fun c => cellKind m c.1 c.2 == 1 && decide (pitchLen m c.2 - fl < h.bufDuration n m (cellBuf m c.1 c.2))) then 6
    else if (List.range (ps - 1)).any (fun j => decide (pitchStart m (j + 1) < pitchStart m j + pitchLen m j)) then 7
    else if byteAt m 3 ≠ 0 ∨ leAt m 12 4 ≠ 0 then 7
    else if (List.range 32).any (fun j => decide (ps ≤ j) && leAt m (16 + 8 * j) 8 != 0) then 7
    else if cells.any (fun c => decide (cs ≤ c.1 ∨ ps ≤ c.2) && cellOf m c.1 c.2 != 0) then 7
    else if used.any (fun c => cellKind m c.1 c.2 == 3 || bits (cellOf m c.1 c.2) 13 5 != 0
        || (cellKind m c.1 c.2 == 1 && !bufValid m (cellBuf m c.1 c.2))) then 7
    else h.bufferChecks n m (used.any (fun c => cellKind m c.1 c.2 == 2))

/-- The checks of can-enable as it is written true (R291, R293, R294, R298): 0, RANGE (6) or CONFLICT (7). -/
def Hub.canEnableCheck (h : Hub) (n : Nat) : Nat :=
  let fd := h.flag (Obj.fdEnable n)
  let route := h.num (Obj.canRoute n)
  if h.nomRate n < 10000 ∨ 1000000 < h.nomRate n ∨ h.num (Obj.nomTseg2 n) < h.num (Obj.nomSjw n)
      ∨ h.num (Obj.dataTseg2 n) < h.num (Obj.dataSjw n) then 6
  else if fd && decide (h.dataRate n < h.nomRate n ∨ 8000000 < h.dataRate n) then 6
  else if route ≠ 0xFFFF ∧ rtMaxFrame (h.route route) < (if fd then 96 else 40) then 6
  else if h.flag (Obj.tripleSample n) && decide (125000 < h.nomRate n ∨ h.num (Obj.nomTseg1 n) < 3) then 7
  else if h.flag (Obj.listenOnly n) && h.canMatrix n then 7
  else 0

/-- The checks as the controller starts (R290, R304), of the matrix in force and of one that waits for its boundary (R306): 0 or the abort code. -/
def Hub.canStartCheck (h : Hub) (n : Nat) : Nat :=
  if !h.chanIn n modeCan then 7
  else if h.matrixCheck n (h.oct (Obj.canSchedule n)) ≠ 0 then h.matrixCheck n (h.oct (Obj.canSchedule n))
  else h.matrixCheck n (h.accepted (Obj.canSchedule n)).octets

/-! ### Records (R297, R298) -/

/-- Octets of the controller's records in the cluster packet area. -/
def Hub.canHeld (h : Hub) (n : Nat) : Nat :=
  (((SMap.get (fun _ => []) h.sw.inputs (n / 16)).filter (fun p => p.owner == fidCan n + 1)).map (fun p => p.data.length)).foldl (· + ·) 0

/-- Send a record on can-route; one that finds no room is lost (R298). -/
def Hub.canRecord (h : Hub) (n type flags ltc : Nat) (data : List Byte) : Hub :=
  let route := h.num (Obj.canRoute n)
  if route = 0xFFFF then h
  else
    let x := h.can n
    if 2048 < h.canHeld n + 16 + data.length then
      let h := (h.setCan n { x with lost := true }).count (Obj.rxOverrun n)
      if h.dueAgain x.ovrAt 400000000 then
        (h.setCan n { h.can n with ovrAt := h.now + 1 }).notice N.canRxOverrun (fidCan n) [n, h.num (Obj.rxOverrun n)]
      else h
    else
      let hdr := [BitVec.ofNat 8 type, BitVec.ofNat 8 n] ++ leBytes 2 flags ++ leBytes 2 data.length ++ leBytes 2 x.recSeq
        ++ leBytes 8 (h.stampAt .H ltc)
      let h := h.setCan n { x with recSeq := (x.recSeq + 1) % 65536, lost := x.lost && type != 0x20 }
      h.swArrive (n / 16) { data := hdr ++ data, route := route, owner := fidCan n + 1 }

/-- A bus-event record (R297). -/
def Hub.busEvent (h : Hub) (n event error : Nat) (dataPhase : Bool) (ltc : Nat) : Hub :=
  h.canRecord n 0x21 0 ltc (leBytes 8 ltc ++ [BitVec.ofNat 8 event, BitVec.ofNat 8 error, BitVec.ofNat 8 (h.num (Obj.tec n)),
    BitVec.ofNat 8 (h.num (Obj.rec n)), BitVec.ofNat 8 (b2n dataPhase), 0, 0, 0])

/-- A transmit report (R297): the start of frame for outcome 0, else the latest start where there is one. -/
def Hub.txReport (h : Hub) (n : Nat) (t : CanTx) (outcome : Nat) : Hub :=
  let ltc := if outcome = 0 ∨ t.latest = 0 then t.start else t.latest
  h.when (h.flag (Obj.txReport n)) (fun h => h.canRecord n 0x22 0 ltc (leBytes 8 ltc ++ [BitVec.ofNat 8 t.buf, BitVec.ofNat 8 outcome,
    BitVec.ofNat 8 (if t.kind = 0 then t.cycle else 0xFF), BitVec.ofNat 8 (if t.kind = 0 then t.pitch else 0xFF)]))

/-! ### Matrix time -/

/-- The present basic cycle. -/
def Hub.cycleNow (h : Hub) (n : Nat) : CanCycle :=
  { cycle := h.num (Obj.basicCycle n), began := h.num (Obj.cycleStartLtc n), matrix := h.oct (Obj.canSchedule n) }

/-- The basic cycle that a tick falls into (R297): the present one, or one that has ended. -/
def Hub.cycleAt (h : Hub) (n ltc : Nat) : Option CanCycle :=
  if h.num (Obj.matrixState n) = matRunning ∧ reached ltc (h.num (Obj.cycleStartLtc n)) = true then some (h.cycleNow n)
  else (h.can n).cycles.find? (fun k => reached ltc k.began && !reached ltc k.ended)

/-- The basic cycle in progress ends at a tick. -/
def Hub.cycleEnds (h : Hub) (n ltc : Nat) : Hub :=
  h.when (h.num (Obj.matrixState n) == matRunning) (fun h => h.setCan n { h.can n with
    cycles := ({ h.cycleNow n with ended := ltc } :: (h.can n).cycles).take 2048 })

/-- The pitch that a tick falls into while the matrix runs (R297, R303): basic cycle and pitch, 0xFF outside. -/
def Hub.pitchAt (h : Hub) (n ltc : Nat) : Nat × Nat :=
  match h.cycleAt n ltc with
  | none => (0xFF, 0xFF)
  | some k =>
    let m := k.matrix
    let off := ticksBetween k.began ltc * 5 / 2
    match (List.range (matPitches m)).find? (fun j => decide (pitchStart m j ≤ off ∧ off < pitchStart m j + pitchLen m j)) with
    | some j => (k.cycle, j)
    | none => (0xFF, 0xFF)

/-- LTC of the latest start of a buffer in a pitch of the present basic cycle (R307, R12); of a frame longer than the pitch and what precedes it in the
cycle, one before the cycle. -/
def Hub.latestStart (h : Hub) (n j b : Nat) : Nat :=
  let m := h.oct (Obj.canSchedule n)
  (((h.num (Obj.cycleStartLtc n) : Int) + ((pitchStart m j + pitchLen m j : Int) - h.bufDuration n m b) * 2 / 5) % 2 ^ 64).toNat

/-- A basic cycle begins at a tick (R306, R311): the cycle and the pitch in progress end; a pending matrix applies before basic cycle 0; from WAIT_START the
matrix runs. `source` 0 TRIGGER, 1 REFERENCE. -/
def Hub.canBegin (h : Hub) (n i ltc source : Nat) : Hub :=
  let h := h.cycleEnds n ltc
  let h := h.when (i == 0) (fun h => h.applyRwb [Obj.canSchedule n])
  let h := (h.setNum (Obj.basicCycle n) i).setNum (Obj.cycleStartLtc n) ltc
  let h := h.setCan n { h.can n with waiting := none, window := none }
  if h.num (Obj.matrixState n) = matRunning then h
  else (h.setNum (Obj.matrixState n) matRunning).notice N.canMatrixStarted (fidCan n) [n, i, source]

/-- Whether the matrix waits for a start or runs. -/
def Hub.matLive (h : Hub) (n : Nat) : Bool := h.isOn (fidCan n) && h.canMatrix n && h.num (Obj.matrixState n) != matStopped

/-- Basic cycles of the matrix in force as basic cycle `i` begins: of one that waits for its boundary, where `i` is 0 (R306, R311). -/
def Hub.cyclesFor (h : Hub) (n i : Nat) : Nat :=
  matCycles (if i = 0 then (h.accepted (Obj.canSchedule n)).octets else h.oct (Obj.canSchedule n))

/-- A CAN_START action fires at an LTC (R311): under matrix-start REFERENCE it starts no matrix, but acts on one that runs. -/
def Hub.canStartFire (h : Hub) (n arg ltc : Nat) : Hub :=
  if !h.matLive n || (h.num (Obj.matrixStart n) != 0 && h.num (Obj.matrixState n) != matRunning) then h
  else if h.cyclesFor n arg ≤ arg then h.count (Obj.refInvalid n)
  else h.canBegin n arg ltc 0

/-- The next basic cycle begins at its expected start (R311, R312). -/
def Hub.canNextCycle (h : Hub) (n source : Nat) : Hub :=
  let m := h.oct (Obj.canSchedule n)
  let i := (h.num (Obj.basicCycle n) + 1) % matCycles m
  let at_ := h.num (Obj.cycleStartLtc n) + matCycleLen m * 2 / 5
  h.canBegin n i at_ source

/-- A frame that matches ref-id (R312). -/
def Hub.canReference (h : Hub) (n : Nat) (data : List Byte) (ltc : Nat) : Hub :=
  if !h.matLive n || h.num (Obj.matrixStart n) != 1 then h
  else
    let cs := matCycles (h.oct (Obj.canSchedule n))
    let i := if h.flag (Obj.refCycleInData n) then byteAt data 0 % 16
      else if h.num (Obj.matrixState n) = matRunning then (h.num (Obj.basicCycle n) + 1) % cs else 0
    if h.flag (Obj.refCycleInData n) && (data.isEmpty || decide (cs ≤ i)) then h.count (Obj.refInvalid n)
    else
      let h := h.setCan n { h.can n with misses := 0 }
      h.canBegin n i ltc 1

/-! ### Sending -/

/-- Whether the controller may send: ON, or draining after a disable (R33) while its channel holds the pins; on the bus, its driver enabled, not
listen-only, and no wait for recessive bits after a stuck RXD (R299). -/
def Hub.canSends (h : Hub) (n : Nat) : Bool :=
  h.sends (fidCan n) && !h.isOff (fidChannel n) && decide (h.num (Obj.busState n) ≤ canPassive) && !(h.chan n).driverOff
    && !h.flag (Obj.listenOnly n) && !(h.can n).stuck && !(h.can n).settling

/-- Arbitration order of a buffer: a base identifier compares as its 11 bits followed by 18 zeros (R309); at equality the base frame is first. -/
def arbKey (m : List Byte) (b : Nat) : Nat := if bufIde m b then bufId m b * 2 + 1 else bufId m b % 2048 * 2 ^ 19

/-- The first of a list of buffers in arbitration order. -/
def lowestId (m : List Byte) : List Nat → Option Nat
  | [] => none
  | b :: bs =>
    match lowestId m bs with
    | none => some b
    | some c => if arbKey m b ≤ arbKey m c then some b else some c

/-- The data of a buffer. -/
def Can.bufData (x : Can) (b : Nat) : Option (List Byte) := SMap.get (fun _ => none) x.data b

/-- A buffer as a latch in this cycle finds it (R302): its data, whether an update is pending, and whether one has come in this cycle, which goes into the
next sending. -/
def Can.atLatch (x : Can) (now b : Nat) : Option (List Byte) × Bool × Bool :=
  match SMap.get (fun _ => none) x.fresh b with
  | some u => if u.ltc = now then (u.before, u.pended, true) else (x.bufData b, x.pend.contains b, false)
  | none => (x.bufData b, x.pend.contains b, false)

/-- Buffers that may be offered now (R309, R310). -/
def Hub.canCandidates (h : Hub) (n : Nat) : List Nat :=
  let x := h.can n
  let m := h.oct (Obj.canSchedule n)
  if !h.canMatrix n then (List.range 32).filter (fun b => bufValid m b && bufFreeOk m b && (x.atLatch h.now b).2.1)
  else match x.window with
    | none => []
    | some j => (List.range 32).filter (fun b => bufValid m b
        && (x.retries.contains b || (bufFreeOk m b && bufEvent m b && (x.atLatch h.now b).2.1))
        && reached (h.latestStart n j b) h.now)

/-- A frame starts (R306, R307). -/
def Hub.canSend (h : Hub) (n : Nat) (t : CanTx) : Hub :=
  (h.setCan n { h.can n with cur := some { t with start := h.now }, waiting := none }).emit (.canFrame n t.buf t.data)

/-- The bus is idle: a frame that waits starts, or the first candidate is offered (R307, R309, R310). -/
def Hub.canIdle (h : Hub) (n : Nat) : Hub :=
  let x := h.can n
  let m := h.oct (Obj.canSchedule n)
  if !h.canSends n || x.cur.isSome then h
  else match x.waiting with
    | some t => if reached t.latest h.now then h.canSend n t else h
    | none =>
      match lowestId m (h.canCandidates n) with
      | none => h
      | some b => h.canSend n {
          buf := b, data := ((x.atLatch h.now b).1).getD [], kind := if h.canMatrix n then 1 else 2, retry := x.retries.contains b,
          updated := (x.atLatch h.now b).2.2
          latest := match x.window with | some j => h.latestStart n j b | none => 0 }

/-- A frame on the bus fails (R308 to R310): with RETRY_FREE a scheduled one waits for a free window; in a free window and in EVENT mode it
stays a candidate. -/
def Hub.canFail (h : Hub) (n outcome : Nat) : Hub :=
  let x := h.can n
  match x.cur with
  | none => h
  | some t =>
    let again := t.kind = 0 ∧ bufRetry (h.oct (Obj.canSchedule n)) t.buf = true ∧ x.retries.contains t.buf = false
    let h := h.setCan n { x with cur := none, retries := if again then x.retries ++ [t.buf] else x.retries }
    h.txReport n t outcome

/-- A line fault disables the driver (R273, R292): a frame on the bus is cut off and counted in tx-discards, and the controller will integrate again. No
event of R297 stands for that change of bus-state: no record is sent (log entry 103). -/
def Hub.canCut (h : Hub) (n : Nat) : Hub :=
  if !h.sends (fidCan n) then h
  else
    let h := (h.when (h.can n).cur.isSome (fun h => h.count (Obj.chTxDiscards n))).canFail n 5
    if h.num (Obj.busState n) = canOff then h else h.setNum (Obj.busState n) canIntegrating

/-! ### Error states (R299, R300) -/

/-- Bring TEC and REC to new values; the error state follows (R300). -/
def Hub.canCounters (h : Hub) (n tec rec_ ltc : Nat) : Hub :=
  let old := h.num (Obj.busState n)
  let h := (h.setNum (Obj.tec n) (min 255 tec)).setNum (Obj.rec n) (min 255 rec_)
  if old = canOff ∨ old = canIntegrating then h
  else if 255 < tec then
    let h := (h.setNum (Obj.busState n) canOff).count (Obj.busOffEntries n)
    let h := (h.notice N.canBusOff (fidCan n) [n, h.num (Obj.tec n)]).busEvent n 4 0 false ltc
    let x := h.can n
    h.setCan n { x with cur := none, recover := false, pend := if h.canMatrix n then x.pend else [] }
  else if 127 < tec ∨ 127 < rec_ then
    if old = canPassive then h
    else
      let h := (h.setNum (Obj.busState n) canPassive).count (Obj.errorPassiveEntries n)
      (h.notice N.canErrorPassive (fidCan n) [n, h.num (Obj.tec n), h.num (Obj.rec n)]).busEvent n 2 0 false ltc
  else if old = canActive then h
  else (h.setNum (Obj.busState n) canActive).busEvent n 3 0 false ltc

/-- What an error adds to TEC and REC by the rules of ISO 11898-1 (R300; PRESUMED, log entry 103): 8 to the TEC of a sender, unless the standard exempts the
error; 1 to the REC of a receiver, and 8 more for a dominant bit right after its error flag; 8 for each run of 8 dominant bits that follows. -/
def errorCounts (sending special : Bool) (runs : Nat) : Nat × Nat :=
  if sending then ((if special then 0 else 8) + 8 * runs, 0) else (0, (if special then 9 else 1) + 8 * runs)

/-- An error frame (R296, R299, R300). -/
def Hub.canError (h : Hub) (n error : Nat) (dataPhase : Bool) (ltc : Nat) (special : Bool) (runs : Nat) : Hub :=
  if !h.sends (fidCan n) || decide (canOff ≤ h.num (Obj.busState n)) then h
  else
    let h := h.when (error != 0) (fun h => h.count ([Obj.bitErrors n, Obj.stuffErrors n, Obj.canCrcErrors n, Obj.formErrors n,
      Obj.ackErrors n].getD (error - 1) (Obj.bitErrors n)))
    let up := errorCounts (h.can n).cur.isSome special runs
    let h := h.when (h.can n).cur.isSome (fun h => (h.count (Obj.txErrors n)).canFail n 3)
    let tec := h.num (Obj.tec n) + up.1
    let rec_ := h.num (Obj.rec n) + up.2
    let h := (h.setNum (Obj.tec n) (min 255 tec)).setNum (Obj.rec n) (min 255 rec_)
    let h := h.busEvent n 0 error dataPhase ltc
    (h.canCounters n tec rec_ ltc).canIdle n

/-- REC after a frame received without error (ISO 11898-1, through R300): one less; from above 127 to a value between 119 and 127. -/
def Hub.recAfter (h : Hub) (n : Nat) : Nat × Hub :=
  let r := h.num (Obj.rec n)
  if r ≤ 127 then (r - 1, h) else (119 + (Config.free 8 h.freeCtr).toNat % 9, h.nextFree)

/-- Whether a frame matches ref-id (R312). -/
def Hub.isReference (h : Hub) (n : Nat) (ide : Bool) (id : Nat) : Bool :=
  bits (h.num (Obj.refId n)) 28 0 == id && (h.num (Obj.refId n)).testBit 29 == ide

/-- The receive record of a frame (R296, R297). -/
def Hub.canReceive (h : Hub) (n : Nat) (f : CanFrame) (own : Bool) (ltc : Nat) : Hub :=
  let flags := b2n own + 2 * b2n (h.isReference n f.ide f.id.toNat) + 4 * b2n (h.can n).lost
  let (cyc, pit) := h.pitchAt n ltc
  let pad := List.replicate ((4 - f.data.length % 4) % 4) (0 : Byte)
  h.canRecord n 0x20 flags ltc (leBytes 8 ltc ++ leBytes 4 (b2n f.rtr * 2 ^ 30 + b2n f.ide * 2 ^ 29 + f.id.toNat)
    ++ [BitVec.ofNat 8 (64 * b2n f.esi + 32 * b2n f.brs + 16 * b2n f.fdf + f.dlc.toNat), BitVec.ofNat 8 f.data.length,
        BitVec.ofNat 8 cyc, BitVec.ofNat 8 pit] ++ f.data ++ pad)

/-- A frame of another node completes (R291, R296, R312); an FD frame is a form error while fd-enable is false. -/
def Hub.canRx (h : Hub) (n : Nat) (f : CanFrame) (ltc : Nat) : Hub :=
  if !h.isOn (fidCan n) || decide (canOff ≤ h.num (Obj.busState n)) || (h.can n).stuck || (h.can n).settling then h
  else if f.fdf && !h.flag (Obj.fdEnable n) then h.canError n 4 false ltc false 0
  else
    let h := h.count (Obj.canFramesRx n)
    let (r, h) := h.recAfter n
    let h := h.canCounters n (h.num (Obj.tec n)) r h.now
    let h := h.canReceive n f false ltc
    let h := h.when (h.isReference n f.ide f.id.toNat) (fun h => h.canReference n f.data ltc)
    h.canIdle n

/-- A frame the controller sends ends (R296, R297, R301, R309, R312). -/
def Hub.canTxEnd (h : Hub) (n : Nat) : Hub :=
  let x := h.can n
  match x.cur with
  | none => h
  | some t =>
    let m := h.oct (Obj.canSchedule n)
    let f : CanFrame := {
      ide := bufIde m t.buf, id := BitVec.ofNat 29 (if bufIde m t.buf then bufId m t.buf else bufId m t.buf % 2048), rtr := bufRtr m t.buf,
      fdf := bufFdf m t.buf, brs := bufBrs m t.buf, esi := bufFdf m t.buf && h.num (Obj.busState n) == canPassive,
      dlc := BitVec.ofNat 4 (bufDlc m t.buf), data := if bufRtr m t.buf then [] else t.data }
    let keep := t.updated || (t.kind == 0 && !bufEvent m t.buf)
    let h := h.setCan n { x with
      cur := none
      pend := if keep then x.pend else x.pend.filter (· != t.buf)
      retries := if t.retry then x.retries.filter (· != t.buf) else x.retries }
    let h := h.count (Obj.canFramesTx n)
    let h := h.when (t.kind == 0) (fun h => h.count (Obj.pitchesSent n))
    let h := h.when t.retry (fun h => h.count (Obj.retriesFree n))
    let h := h.canCounters n (h.num (Obj.tec n) - 1) (h.num (Obj.rec n)) h.now
    let h := h.txReport n t 0
    let h := h.when (h.flag (Obj.ownFrames n)) (fun h => h.canReceive n f true t.start)
    let h := h.when (h.isReference n f.ide f.id.toNat) (fun h => h.canReference n f.data t.start)
    h.canIdle n

/-- 11 recessive bits have been seen after the start (R290), after a driver was enabled again (R292) or after a stuck RXD (R299); the change of bus-state is
delivered (R296). -/
def Hub.canIntegrate (h : Hub) (n : Nat) : Hub :=
  let settled := fun (h : Hub) => h.setCan n { h.can n with settling := false }
  if !h.isOn (fidCan n) || (h.chan n).driverOff || (h.can n).stuck then h
  else if h.num (Obj.busState n) ≠ canIntegrating then (if (h.can n).settling then (settled h).canIdle n else h)
  else
    let h := settled h
    let s := if 127 < h.num (Obj.tec n) ∨ 127 < h.num (Obj.rec n) then canPassive else canActive
    ((h.setNum (Obj.busState n) s).busEvent n (if s = canPassive then 2 else 3) 0 false h.now).canIdle n

/-- 128 occurrences of 11 recessive bits in bus-off (R300); with the driver disabled the controller will integrate first (R292). -/
def Hub.canRecovery (h : Hub) (n : Nat) : Hub :=
  let mode := h.num (Obj.busOffRecovery n)
  if !h.isOn (fidCan n) || h.num (Obj.busState n) != canOff || (mode == 1 && !(h.can n).recover) then h
  else
    let h := ((h.setNum (Obj.tec n) 0).setNum (Obj.rec n) 0).setNum (Obj.busState n) (if (h.chan n).driverOff then canIntegrating else canActive)
    let h := h.setCan n { h.can n with recover := false }
    ((h.notice N.canBusOn (fidCan n) [n, mode]).busEvent n 5 0 false h.now).canIdle n

/-- bus-off-restart written true (R300). -/
def Hub.canRestart (h : Hub) (n : Nat) : Hub :=
  if h.isOn (fidCan n) && h.num (Obj.busState n) == canOff && h.num (Obj.busOffRecovery n) == 1 then
    h.setCan n { h.can n with recover := true }
  else h

/-! ### Pitches (R301, R302, R307 to R309) -/

/-- What a buffer has before an update: as the first update of the cycle found it (R302). -/
def Can.beforeUpdate (x : Can) (now b : Nat) : CanUpdate :=
  match SMap.get (fun _ => none) x.fresh b with
  | some u => if u.ltc = now then u else { ltc := now, before := x.bufData b, pended := x.pend.contains b }
  | none => { ltc := now, before := x.bufData b, pended := x.pend.contains b }

/-- A transmit update arrives (R301, R302): one that finds the bus idle is offered in the next cycle; while the driver is disabled it is discarded and counted
(R273). -/
def Hub.canUpdate (h : Hub) (n : Nat) (idle : Bool) : Hub :=
  match h.inbox (inboxChannel n) with
  | [] => h
  | d :: ds =>
    if !h.chanIn n modeCan then h
    else
      let h := h.setInbox (inboxChannel n) ds
      if !h.isOn (fidCan n) || (h.chan n).driverOff then h.count (Obj.chTxDiscards n)
      else
        let m := h.oct (Obj.canSchedule n)
        let b := byteAt d.data 0
        let body := d.data.drop 4
        if d.data.length < 4 ∨ 32 ≤ b ∨ bufValid m b = false ∨ leAt d.data 1 3 ≠ 0 ∨ body.length ≠ dlcLen (bufFdf m b) (bufDlc m b) then
          h.count (Obj.canMalformed n)
        else
          let x := h.can n
          let mark : Option CanTx → Option CanTx := fun o => o.map (fun t => if t.buf = b then { t with updated := true } else t)
          h.setCan n { x with
            data := SMap.set (fun _ => none) x.data b (some body)
            fresh := SMap.set (fun _ => none) x.fresh b (some (x.beforeUpdate h.now b))
            offer := x.offer || idle
            pend := if x.pend.contains b then x.pend else x.pend ++ [b]
            cur := mark x.cur, waiting := mark x.waiting }

/-- Updates of the cycle that ends which found their bus idle are offered (R302). -/
def Hub.canOffers (h : Hub) : Hub :=
  ((h.cans.filter (fun p => p.2.offer)).map (·.1)).foldl (fun h n => (h.setCan n { h.can n with offer := false }).canIdle n) h

/-- A buffer pitch that waits for the bus is missed (R307): bus busy, or bus-off or a line fault (R292, R300). -/
def Hub.canMiss (h : Hub) (n : Nat) : Hub :=
  let x := h.can n
  match x.waiting with
  | none => h
  | some t =>
    ((h.setCan n { x with waiting := none }).count (Obj.pitchesMissed n)).txReport n t
      (if h.num (Obj.busState n) = canOff ∨ (h.chan n).driverOff = true then 5 else 1)

/-- A pitch's flashing ends (R301, R302, R307, R308): the buffer's data is latched, and the frame starts when the bus is idle. -/
def Hub.canFlashing (h : Hub) (n j : Nat) (idle : Bool) : Hub :=
  if !h.isOn (fidCan n) || h.num (Obj.matrixState n) != matRunning then h
  else
    let m := h.oct (Obj.canSchedule n)
    let i := h.num (Obj.basicCycle n)
    let h := h.canMiss n
    let h := h.setCan n { h.can n with window := none }
    if matPitches m ≤ j ∨ cellKind m i j ≠ 1 then h
    else
      let b := cellBuf m i j
      let x := h.can n
      let h := h.setCan n { x with retries := x.retries.filter (· != b) }
      let t : CanTx := {
        buf := b, data := ((x.atLatch h.now b).1).getD [], kind := 0, cycle := i, pitch := j, latest := h.latestStart n j b,
        updated := (x.atLatch h.now b).2.2 }
      let onBus := match x.cur with | some k => k.buf == b && !k.updated | none => false
      if h.num (Obj.busState n) = canOff ∨ (h.chan n).driverOff = true then (h.count (Obj.pitchesMissed n)).txReport n t 5
      else if ((x.atLatch h.now b).1).isNone ∨ (bufEvent m b = true ∧ ((x.atLatch h.now b).2.1 = false ∨ onBus = true)) then (h.count (Obj.noData n)).txReport n t 4
      else
        let h := h.setCan n { h.can n with waiting := some t }
        if idle then h.canIdle n else h

/-- A free window begins (R309). -/
def Hub.canWindow (h : Hub) (n j : Nat) (idle : Bool) : Hub :=
  let m := h.oct (Obj.canSchedule n)
  if !h.isOn (fidCan n) || h.num (Obj.matrixState n) != matRunning || decide (matPitches m ≤ j)
      || cellKind m (h.num (Obj.basicCycle n)) j != 2 then h
  else
    let h := h.canMiss n
    let h := h.setCan n { h.can n with window := some j }
    if idle then h.canIdle n else h

/-- A scheduled frame loses arbitration (R308, R309). -/
def Hub.canArbLost (h : Hub) (n : Nat) : Hub :=
  if (h.can n).cur.isNone then h else (h.count (Obj.arbitrationLost n)).canFail n 2

/-- No reference by the expected start plus ref-tolerance (R311, R312). -/
def Hub.canRefMiss (h : Hub) (n : Nat) : Hub :=
  if !h.matLive n || h.num (Obj.matrixState n) != matRunning || h.num (Obj.matrixStart n) != 1 then h
  else
    let h := h.count (Obj.refMissed n)
    let x := h.can n
    if h.num (Obj.refMissLimit n) ≤ x.misses + 1 then
      let h := h.cycleEnds n h.now
      let h := h.setCan n { h.can n with misses := 0, waiting := none, window := none }
      (h.setNum (Obj.matrixState n) matWait).notice N.canRefLost (fidCan n) [n, h.num (Obj.refMissed n)]
    else (h.setCan n { x with misses := x.misses + 1 }).canNextCycle n 1

/-- The matrix stops (R311). -/
def Hub.matrixStop (h : Hub) (n : Nat) : Hub :=
  let h := h.cycleEnds n h.now
  (h.setCan n { h.can n with waiting := none, window := none, misses := 0 }).setNum (Obj.matrixState n) matStopped

/-! ### Life cycle (R290, R311) -/

/-- The controller enters ON. -/
def Hub.canStart (h : Hub) (n : Nat) : Hub :=
  let x := h.can n
  let h := h.setCan n { recSeq := x.recSeq, ovrAt := x.ovrAt }
  let h := ((h.setNum (Obj.tec n) 0).setNum (Obj.rec n) 0).setNum (Obj.busState n) canIntegrating
  h.setNum (Obj.matrixState n) (if h.canMatrix n then matWait else matStopped)

/-- Frames and updates that the controller holds and has not sent: the one on the bus, and the pending updates of buffers that send each update once. -/
def Hub.canUnsent (h : Hub) (n : Nat) : Nat :=
  let x := h.can n
  let m := h.oct (Obj.canSchedule n)
  let onBus := x.cur.map (·.buf)
  (x.pend.filter (fun b => (!h.canMatrix n || bufEvent m b) && decide (onBus ≠ some b))).length + b2n x.cur.isSome

/-- The controller gives up what it has not sent, counted in the channel's tx-discards (R33), and its state with it. -/
def Hub.canStop (h : Hub) (n : Nat) : Hub :=
  let x := h.can n
  let h := h.countN (Obj.chTxDiscards n) (h.canUnsent n)
  let h := h.setCan n { recSeq := x.recSeq, ovrAt := x.ovrAt }
  (h.setNum (Obj.busState n) canIntegrating).setNum (Obj.matrixState n) matStopped

/-- CANSTAT(n) (R315). -/
def Hub.canStat (h : Hub) (n : Nat) : Nat :=
  let off := h.isOff (fidCan n)
  (h.func (fidCan n)).byte * 2 ^ 24 + h.num (Obj.tec n) * 2 ^ 16 + h.num (Obj.rec n) * 256
    + (if off then 3 else h.num (Obj.busState n)) * 64 + h.num (Obj.matrixState n) * 16 + h.num (Obj.basicCycle n) % 16

/-! ### The commands -/

/-- CAN_INTEGRATED: a started controller has seen 11 recessive bits (R290). -/
def execCanIntegrated (n : Fin 48) (s : State) : Host.Outcome State Fault Refusal := s.answer (fun h => h.canIntegrate n.val)
/-- CAN_FRAME_RX (R296). -/
def execCanFrameRx (n : Fin 48) (f : CanFrame) (start : BitVec 64) (s : State) : Host.Outcome State Fault Refusal :=
  s.answer (fun h => h.canRx n.val f start.toNat)
/-- CAN_ERROR_FRAME (R300). -/
def execCanErrorFrame (n : Fin 48) (error : Fin 6) (dataPhase : Bool) (start : BitVec 64) (special : Bool) (runs : BitVec 8) (s : State) :
    Host.Outcome State Fault Refusal :=
  s.answer (fun h => h.canError n.val error.val dataPhase start.toNat special runs.toNat)
/-- CAN_OVERLOAD_FRAME (R296). -/
def execCanOverloadFrame (n : Fin 48) (start : BitVec 64) (s : State) : Host.Outcome State Fault Refusal :=
  s.answer (fun h => if h.isOn (fidCan n.val) && decide (h.num (Obj.busState n.val) < canOff) then
    (h.count (Obj.overloadFrames n.val)).busEvent n.val 1 0 false start.toNat else h)
/-- CAN_BUS_OFF_RECOVERY (R300). -/
def execCanBusOffRecovery (n : Fin 48) (s : State) : Host.Outcome State Fault Refusal := s.answer (fun h => h.canRecovery n.val)
/-- CAN_DOMINANT_TIMEOUT (R299). -/
def execCanDominantTimeout (n : Fin 48) (s : State) : Host.Outcome State Fault Refusal :=
  s.answer (fun h => if h.isOn (fidCan n.val) && !(h.can n.val).stuck then
    let h := (h.setCan n.val { h.can n.val with stuck := true }).count (Obj.dominantStuck n.val)
    (h.busEvent n.val 6 0 false h.now).notice N.canStuckDominant (fidCan n.val) [n.val] else h)
/-- CAN_STUCK_RELEASED (R299). -/
def execCanStuckReleased (n : Fin 48) (s : State) : Host.Outcome State Fault Refusal :=
  s.answer (fun h => if h.isOn (fidCan n.val) && (h.can n.val).stuck then
    (h.setCan n.val { h.can n.val with stuck := false, settling := true }).busEvent n.val 7 0 false h.now else h)
/-- CAN_TX_UPDATE (R301). -/
def execCanTxUpdate (n : Fin 48) (idle : Bool) (s : State) : Host.Outcome State Fault Refusal := s.answer (fun h => h.canUpdate n.val idle)
/-- CAN_BASIC_CYCLE_START (R311): under matrix-start REFERENCE a reference or its miss begins the cycle (R312). -/
def execCanBasicCycleStart (n : Fin 48) (s : State) : Host.Outcome State Fault Refusal :=
  s.answer (fun h => if h.matLive n.val && h.num (Obj.matrixState n.val) == matRunning && h.num (Obj.matrixStart n.val) == 0 then
    h.canNextCycle n.val 0 else h)
/-- CAN_FLASHING_END (R307). -/
def execCanFlashingEnd (n : Fin 48) (pitch : Fin 32) (idle : Bool) (s : State) : Host.Outcome State Fault Refusal :=
  s.answer (fun h => h.canFlashing n.val pitch.val idle)
/-- CAN_LATEST_START_PASSED (R307). -/
def execCanLatestStartPassed (n : Fin 48) (s : State) : Host.Outcome State Fault Refusal := s.answer (fun h => h.canMiss n.val)
/-- CAN_TX_END (R297). -/
def execCanTxEnd (n : Fin 48) (s : State) : Host.Outcome State Fault Refusal := s.answer (fun h => h.canTxEnd n.val)
/-- CAN_ARBITRATION_LOST (R308). -/
def execCanArbitrationLost (n : Fin 48) (s : State) : Host.Outcome State Fault Refusal := s.answer (fun h => h.canArbLost n.val)
/-- CAN_FREE_WINDOW_START (R309). -/
def execCanFreeWindowStart (n : Fin 48) (pitch : Fin 32) (idle : Bool) (s : State) : Host.Outcome State Fault Refusal :=
  s.answer (fun h => h.canWindow n.val pitch.val idle)
/-- CAN_REF_MISSED (R312). -/
def execCanRefMissed (n : Fin 48) (s : State) : Host.Outcome State Fault Refusal := s.answer (fun h => h.canRefMiss n.val)

end Sys2Proof.Machine
end

