-- ==== Sys2Proof/Machine/Seq.lean ====
section
/-!
DEFINITION. The pin sequencers (R317 to R342): their pins, shifter, FIFOs and records, the meaning of each instruction, start and stop.
-/
namespace Sys2Proof.Machine

def Hub.sq (h : Hub) (s : Nat) : SeqState := SMap.get (fun _ => {}) h.seqs s
def Hub.setSq (h : Hub) (s : Nat) (x : SeqState) : Hub := { h with seqs := SMap.set (fun _ => {}) h.seqs s x }

def seqIdle : Nat := 0
def seqRunning : Nat := 1
def seqStalled : Nat := 2

/-! ### Pins (R318, R319) -/

/-- Entry `p` of the pin map. -/
def Hub.pinEntry (h : Hub) (s p : Nat) : Nat := leAt (h.oct (Obj.seqPinMap s)) (2 * p) 2
def pinValid (e : Nat) : Bool := e.testBit 15
def pinDir (e : Nat) : Nat := bits e 14 13
def pinRest (e : Nat) : Nat := bits e 12 11
def pinPin (e : Nat) : Nat := bits e 5 4
/-- A VALID entry that drives its pin. -/
def pinDrives (e : Nat) : Bool := pinValid e && (pinDir e == 1 || pinDir e == 2)
/-- Channel of an entry. -/
def pinChan (s e : Nat) : Nat := 16 * (s / 2) + bits e 3 0

/-- The level the hub drives on the pin of an entry; none: it drives nothing there. -/
def Hub.pinLevel (h : Hub) (s e : Nat) : Option Bool :=
  let x := h.chan (pinChan s e)
  if pinPin e = 0 then x.pinA else if pinPin e = 1 then x.pinB else x.pinC

/-- Bring the pin of an entry to the level the sequencer gives it: push-pull, or open drain; a disabled driver stays as it is (R319). -/
def Hub.applyPin (h : Hub) (s p : Nat) : Hub :=
  let e := h.pinEntry s p
  let c := pinChan s e
  if !pinDrives e || (h.chan c).driverOff || !h.chanIn c modeSeq then h
  else match SMap.get (fun _ => none) (h.sq s).lev p with
    | none => h.floatPin c (pinPin e)
    | some l => if pinDir e = 2 ∧ l = true then h.floatPin c (pinPin e) else h.drive c (pinPin e) l

/-- Give a pin a level. -/
def Hub.seqDrive (h : Hub) (s p : Nat) (l : Option Bool) : Hub :=
  (h.setSq s { h.sq s with lev := SMap.set (fun _ => none) (h.sq s).lev p l }).applyPin s p

/-- The level a sequencer reads at a pin: what the hub drives there, else the pad's (R318). -/
def Hub.readPin (h : Hub) (s p : Nat) (pad : Bool) : Bool := (h.pinLevel s (h.pinEntry s p)).getD pad

/-- An output pin takes its REST level (R328, R332). -/
def Hub.restPin (h : Hub) (s p : Nat) : Hub :=
  let e := h.pinEntry s p
  if pinDrives e then h.seqDrive s p (if pinRest e = 0 then some false else if pinRest e = 1 then some true else none) else h

/-- The output pins take their REST levels (R332). -/
def Hub.seqRest (h : Hub) (s : Nat) : Hub := (List.range 8).foldl (fun h p => h.restPin s p) h

/-- The level a sequencer finds on an output pin it keeps (R328): what the pin drives, or what it was last given while its driver is disabled. -/
def Hub.heldLevel (h : Hub) (s p : Nat) : Option Bool :=
  let e := h.pinEntry s p
  if (h.chan (pinChan s e)).driverOff then SMap.get (fun _ => none) (h.sq s).lev p
  else if pinDir e = 2 then some ((h.pinLevel s e).getD true)
  else h.pinLevel s e

/-- An output pin as the sequencer enters ON (R328): REST on the first start after its channel entered ON, later the level it held. -/
def Hub.startPin (h : Hub) (s p : Nat) : Hub :=
  let e := h.pinEntry s p
  let c := pinChan s e
  if !pinDrives e then h
  else if (h.chan c).rested.testBit (pinPin e) then
    h.setSq s { h.sq s with lev := SMap.set (fun _ => none) (h.sq s).lev p (h.heldLevel s p) }
  else (h.setChan c { h.chan c with rested := setBit (h.chan c).rested (pinPin e) }).restPin s p

/-- A map of a sequencer of a cluster has been written (R318): a pin of a SEQ channel that no entry of the two maps drives now is left at high impedance. -/
def Hub.unmapPins (h : Hub) (k : Nat) : Hub :=
  let driven := fun (c p : Nat) => [2 * k, 2 * k + 1].any (fun s => (List.range 8).any (fun j =>
    pinDrives (h.pinEntry s j) && pinChan s (h.pinEntry s j) == c && pinPin (h.pinEntry s j) == p))
  (List.range 16).foldl (fun h i => (List.range 3).foldl (fun h p =>
    if h.chanIn (16 * k + i) modeSeq && !driven (16 * k + i) p then h.floatPin (16 * k + i) p else h) h) h

/-- The pins of a channel take the sequencers' levels again when its driver is enabled (R319, R274). -/
def Hub.seqPinsOf (h : Hub) (c : Nat) : Hub :=
  [2 * (c / 16), 2 * (c / 16) + 1].foldl (fun h s =>
    (List.range 8).foldl (fun h p => if pinValid (h.pinEntry s p) && pinChan s (h.pinEntry s p) == c then h.applyPin s p else h) h) h

/-- A line fault sets the mapped output pins of a channel to high impedance (R319). -/
def Hub.seqFloat (h : Hub) (c : Nat) : Hub :=
  [2 * (c / 16), 2 * (c / 16) + 1].foldl (fun h s =>
    (List.range 8).foldl (fun h p =>
      let e := h.pinEntry s p
      if pinDrives e && pinChan s e == c then h.floatPin c (pinPin e) else h) h) h

/-! ### Program (R321, R325) and the checks of an enable (R319, R335) -/

/-- Instruction at an address. -/
def insAt (prog : List Byte) (a : Nat) : Nat := leAt prog (2 * a) 2
def insOp (i : Nat) : Nat := bits i 15 12
def insLinger (i : Nat) : Nat := bits i 11 9
def insN (i : Nat) : Nat := bits i 5 0
def insClk (i : Nat) : Bool := i.testBit 8

/-- Whether an instruction word is legal (R325). -/
def insLegal (i : Nat) : Bool :=
  match insOp i with
  | 0 => bits i 8 0 == 0
  | 1 => true
  | 2 | 3 => bits i 7 6 == 0 && insN i != 0 && decide (insN i ≤ 32)
  | 4 | 5 => bits i 7 0 == 0
  | 6 => true
  | 7 => bits i 6 3 == 0
  | 8 => decide (bits i 8 6 ≤ 4) && bits i 5 3 == 0
  | 9 => decide (bits i 7 6 ≤ 1)
  | 10 | 11 => true
  | 12 => decide (bits i 8 6 ≤ 3)
  | 13 => true
  | _ => false

/-- The check of a program write (R325): 0 or CONFLICT (7). -/
def programCheck (prog : List Byte) : Nat := if (List.range 64).all (fun a => insLegal (insAt prog a)) then 0 else 7

/-- The checks of an enable that give CONFLICT (R319): 0 or 7. -/
def Hub.seqStartCheck (h : Hub) (s : Nat) : Nat :=
  let es := (List.range 8).map (fun p => h.pinEntry s p)
  let other := 2 * (s / 2) + (1 - s % 2)
  let theirs := (List.range 8).map (fun p => h.pinEntry other p)
  let w := h.num (Obj.seqShiftWidth s)
  let outs := (List.range w).map (fun j => h.num (Obj.seqOutBase s) + j)
  let ins := (List.range w).map (fun j => h.num (Obj.seqInBase s) + j)
  let clk := h.num (Obj.seqClockPin s)
  let prog := (List.range 64).map (fun a => insAt (h.oct (Obj.program s)) a)
  let emits := prog.any (fun i => insOp i == 3)
  let samples := prog.any (fun i => insOp i == 2)
  let clocked := prog.any (fun i => (insOp i == 2 || insOp i == 3) && insClk i)
  let drives := fun p => pinDrives (es.getD p 0)
  let same := fun (a b : Nat) => bits a 5 0 == bits b 5 0
  let bad :=
    es.any (fun e => pinValid e && (pinDir e == 3 || pinPin e == 3 || bits e 10 6 != 0 || (pinDir e != 0 && pinRest e == 3)
      || !h.chanIn (pinChan s e) modeSeq))
    || (List.range 8).any (fun p => (List.range p).any (fun q =>
        pinValid (es.getD p 0) && pinValid (es.getD q 0) && same (es.getD p 0) (es.getD q 0)))
    || es.any (fun e => pinDrives e && theirs.any (fun f => pinDrives f && same e f))
    || (List.range 8).any (fun p => ((h.num (Obj.seqGroup0Mask s)).testBit p || (h.num (Obj.seqGroup1Mask s)).testBit p) && !drives p)
    || (emits && !outs.all drives)
    || (samples && !ins.all (fun p => pinValid (es.getD p 0)))
    || (clocked && (clk == 255 || !drives clk))
    || (clocked && emits && outs.contains clk)
    || prog.any (fun i =>
        (insOp i == 8 && decide (bits i 8 6 ≤ 2) && !pinValid (es.getD (bits i 2 0) 0))
        || ((insOp i == 10 || insOp i == 11) && !pinValid (es.getD (bits i 8 6) 0)))
    || prog.any (fun i => (insOp i == 2 || insOp i == 3) && insN i % w != 0)
  if bad then 7 else 0

/-- The checks of R335 for a table: 0 or RANGE (6). -/
def Hub.seqRouteCheck (h : Hub) (s : Nat) (table : SMap Nat) : Nat :=
  let need := 16 + 4 * h.num (Obj.seqRxWords s)
  let r := h.num (Obj.seqRoute s)
  if r ≠ 0xFFFF ∧ rtMaxFrame (SMap.get (fun _ => 0) table r) < need then 6
  else if table.any (fun p => rtValid p.2 && (rtTargets p.2).testBit (s / 2) && rtClDest p.2 == 0x80 + s % 2
      && decide (h.num (Obj.seqTxBuffer s) < rtMaxFrame p.2)) then 6
  else 0

/-- The check of seq-enable as it is written true (R335): 0 or RANGE (6). -/
def Hub.seqEnableCheck (h : Hub) (s : Nat) : Nat :=
  if h.num (Obj.seqRxBuffer s) < 16 + 4 * h.num (Obj.seqRxWords s) then 6
  else h.seqRouteCheck s (h.fwdCopy (h.num Obj.fwdEpoch))

/-! ### FIFOs and records (R333, R334) -/

/-- Words of the transmit buffer pass into the transmit FIFO as it frees. -/
def SeqState.fill (x : SeqState) : SeqState :=
  let n := 8 - x.tx.length
  { x with tx := x.tx ++ x.txWords.take n, txWords := x.txWords.drop n }

/-- Octets of a sequencer's records that wait for the switch. -/
def Hub.seqHeld (h : Hub) (s : Nat) : Nat :=
  (((SMap.get (fun _ => []) h.sw.inputs (s / 2)).filter (fun p => p.owner == fidSeq s + 1)).map (fun p => p.data.length)).foldl (· + ·) 0

/-- Close the open record (R333): `flag` 1 COUNT, 2 GAP, 4 STOPPED. -/
def Hub.seqClose (h : Hub) (s flag : Nat) : Hub :=
  let x := h.sq s
  if x.words.isEmpty then h
  else
    let body := x.words.flatMap (leBytes 4)
    let hdr := [0x30, BitVec.ofNat 8 (0xC0 + s)] ++ leBytes 2 (flag + 8 * b2n x.lost) ++ leBytes 2 body.length ++ leBytes 2 x.recSeq
      ++ leBytes 8 x.first
    let h := h.setSq s { x with words := [], lost := false, recSeq := (x.recSeq + 1) % 65536 }
    (h.count (Obj.recordsSent s)).swArrive (s / 2) { data := hdr ++ body, route := h.num (Obj.seqRoute s), owner := fidSeq s + 1 }

/-- seq-rx-gap passes in this cycle since the last word of the open record (R333). -/
def Hub.gapNow (h : Hub) (s : Nat) : Bool :=
  let x := h.sq s
  !x.words.isEmpty && h.num (Obj.seqRxGap s) != 0 && ticksBetween (x.joined - 1) h.now == h.num (Obj.seqRxGap s) * 400

/-- Words of the receive FIFO move into the open record while seq-rx-buffer has room (R333). A word that fills the record in the cycle in which its gap
passes joins it, and it closes with GAP (R338). -/
def Hub.seqPump (h : Hub) (s : Nat) : Nat → Hub
  | 0 => h
  | fuel + 1 =>
    let x := h.sq s
    match x.rx with
    | [] => h
    | (w, at_) :: rest =>
      let held := h.seqHeld s + (if x.words.isEmpty then 16 else 16 + 4 * x.words.length)
      if h.num (Obj.seqRoute s) = 0xFFFF ∨ h.num (Obj.seqRxBuffer s) < held + 4 then h
      else
        let gap := h.gapNow s
        let h := h.setSq s { x with
          rx := rest, words := x.words ++ [w], first := if x.words.isEmpty then at_ else x.first, joined := h.now + 1 }
        let h := if h.num (Obj.seqRxWords s) ≤ x.words.length + 1 then h.seqClose s (if gap then 2 else 1) else h
        h.seqPump s fuel

/-! ### Execution (R320 to R324) -/

/-- Ticks of the divider that have begun up to a cycle after its restart (R320). -/
def Hub.ticksBy (h : Hub) (s l : Nat) : Nat :=
  let d := h.num (Obj.seqDivider s)
  if d = 0 then 0 else (ticksBetween (h.sq s).divAt l * 256 + d - 1) / d

/-- Execute the instruction at PC when the sequencer is ON and RUNNING and the instruction is of the kind named; the watchdog restarts when
the instruction at seq-wd-address begins (R336). -/
def Hub.seqDo (h : Hub) (s : Nat) (kind : Nat → Bool) (f : Hub → Nat → Hub) : Hub :=
  let x := h.sq s
  let i := insAt (h.oct (Obj.program s)) x.pc
  if !h.isOn (fidSeq s) || x.run != seqRunning || !kind i then h
  else f (if x.pc = h.num (Obj.seqWdAddress s) then h.setSq s { x with kick := h.now } else h) i

/-- An instruction completes after `t` ticks and its linger; the next one is at `target`, or follows. -/
def Hub.seqNext (h : Hub) (s i t : Nat) (target : Option Nat) : Hub :=
  let x := h.sq s
  h.setSq s { x with run := seqRunning, pc := target.getD ((x.pc + 1) % 64), ticks := x.ticks + t + insLinger i }

/-- The shifter under MSB_FIRST or LSB_FIRST after a group of `w` bits enters (R323). -/
def shiftIn (lsb : Bool) (w sh g : Nat) : Nat :=
  if lsb then sh / 2 ^ w + g % 2 ^ w * 2 ^ (32 - w) else (sh * 2 ^ w + g % 2 ^ w) % 2 ^ 32

/-- The group of `w` bits that leaves next; bits beyond the count are zeros (R323). -/
def groupOut (lsb : Bool) (w sh cnt : Nat) : Nat :=
  if lsb then sh % 2 ^ (min w cnt) else sh / 2 ^ (32 - w) / 2 ^ (w - cnt) * 2 ^ (w - cnt)

/-- The clock pin takes its idle level, or the opposite one (R323). -/
def Hub.seqClock (h : Hub) (s : Nat) (clk idle : Bool) : Hub :=
  if clk then h.seqDrive s (h.num (Obj.seqClockPin s)) (some ((h.num (Obj.seqClockIdle s) == 1) == idle)) else h

/-- One step of SAMPLE with the levels of the pads (R323). -/
def Hub.sampleStep (h : Hub) (s : Nat) (clk : Bool) (pads : Nat) : Hub :=
  let w := h.num (Obj.seqShiftWidth s)
  let trailing := clk && h.num (Obj.seqSampleEdge s) == 1
  let take := fun (h : Hub) =>
    let g := (List.range w).foldl (fun (a : Nat) j => a + b2n (h.readPin s (h.num (Obj.seqInBase s) + j) (pads.testBit j)) * 2 ^ j) 0
    let x := h.sq s
    h.setSq s { x with shifter := shiftIn (h.num (Obj.seqShiftDir s) == 1) w x.shifter g, bitCount := min 32 (x.bitCount + w) }
  let h := (h.seqClock s clk true).seqClock s clk false
  if trailing then take (h.seqClock s clk true) else (take h).seqClock s clk true

/-- The steps of SAMPLE. -/
def Hub.sampleSteps (h : Hub) (s : Nat) (clk : Bool) : Nat → List Nat → Hub
  | 0, _ => h
  | m + 1, pads => (h.sampleStep s clk (pads.headD 0)).sampleSteps s clk m pads.tail

/-- One step of EMIT (R323). -/
def Hub.emitStep (h : Hub) (s : Nat) (clk : Bool) : Hub :=
  let w := h.num (Obj.seqShiftWidth s)
  let lsb := h.num (Obj.seqShiftDir s) == 1
  let x := h.sq s
  let g := groupOut lsb w x.shifter x.bitCount
  let h := h.seqClock s clk true
  let h := (List.range w).foldl (fun h j => h.seqDrive s (h.num (Obj.seqOutBase s) + j) (some (g.testBit j))) h
  let x := h.sq s
  let h := h.setSq s { x with
    shifter := if lsb then x.shifter / 2 ^ w else x.shifter * 2 ^ w % 2 ^ 32, bitCount := x.bitCount - w }
  (h.seqClock s clk false).seqClock s clk true

/-- The steps of EMIT. -/
def Hub.emitSteps (h : Hub) (s : Nat) (clk : Bool) : Nat → Hub
  | 0 => h
  | m + 1 => (h.emitStep s clk).emitSteps s clk m

/-- Ticks of SAMPLE and EMIT (R321). -/
def moveTicks (clk : Bool) (m : Nat) : Nat := if clk then 2 * m + 1 else m

/-- SAMPLE (R322, R323). -/
def Hub.seqSample (h : Hub) (s : Nat) (pads : List Nat) : Hub :=
  h.seqDo s (fun i => insOp i == 2) (fun h i =>
    let m := insN i / h.num (Obj.seqShiftWidth s)
    let excess := decide (32 < (h.sq s).bitCount + m * h.num (Obj.seqShiftWidth s))
    let h := h.sampleSteps s (insClk i) m pads
    (h.when excess (fun h => h.count (Obj.sampleOverflows s))).seqNext s i (moveTicks (insClk i) m) none)

/-- EMIT (R322, R323). -/
def Hub.seqEmit (h : Hub) (s : Nat) : Hub :=
  h.seqDo s (fun i => insOp i == 3) (fun h i =>
    let m := insN i / h.num (Obj.seqShiftWidth s)
    let under := decide ((h.sq s).bitCount < m * h.num (Obj.seqShiftWidth s))
    let h := h.emitSteps s (insClk i) m
    (h.when under (fun h => h.count (Obj.emitUnderruns s))).seqNext s i (moveTicks (insClk i) m) none)

/-- A word into the shifter (R324). -/
def Hub.loadWord (h : Hub) (s w : Nat) : Hub :=
  let b := h.num (Obj.seqWordBits s)
  let x := h.sq s
  h.setSq s { x with
    shifter := if h.num (Obj.seqShiftDir s) = 1 then w % 2 ^ b else w % 2 ^ b * 2 ^ (32 - b), bitCount := b, last := w }

/-- The head word of the transmit FIFO into the shifter (R324); `none` when the FIFO is empty. -/
def Hub.takeWord (h : Hub) (s : Nat) : Option Hub :=
  let x := h.sq s
  match x.tx with
  | [] => none
  | w :: ws => some ((h.setSq s ({ x with tx := ws } : SeqState).fill).loadWord s w)

/-- LOAD (R324). -/
def Hub.seqLoad (h : Hub) (s : Nat) (nb : Bool) : Hub :=
  h.seqDo s (fun i => insOp i == 4 && insClk i == nb) (fun h i =>
    match h.takeWord s with
    | some h => h.seqNext s i 1 none
    | none =>
      if nb then ((h.loadWord s (h.sq s).last).count (Obj.staleLoads s)).seqNext s i 1 none
      else h.setSq s { h.sq s with run := seqStalled })

/-- The bits last sampled, right-aligned (R324). -/
def Hub.storeValue (h : Hub) (s : Nat) : Nat :=
  let x := h.sq s
  if h.num (Obj.seqShiftDir s) = 1 then x.shifter / 2 ^ (32 - x.bitCount) else x.shifter % 2 ^ x.bitCount

/-- A word into the receive FIFO; `none` when it is full (R324). -/
def Hub.putWord (h : Hub) (s : Nat) : Option Hub :=
  let x := h.sq s
  if 8 ≤ x.rx.length then none
  else
    let w := h.storeValue s
    let h := h.setSq s { x with rx := x.rx ++ [(w, h.stamp .E)], shifter := 0, bitCount := 0 }
    some (h.seqPump s 9)

/-- STORE (R324). -/
def Hub.seqStore (h : Hub) (s : Nat) (nb : Bool) : Hub :=
  h.seqDo s (fun i => insOp i == 5 && insClk i == nb) (fun h i =>
    match h.putWord s with
    | some h => h.seqNext s i 1 none
    | none =>
      if nb then
        let x := h.sq s
        let h := (h.setSq s { x with shifter := 0, bitCount := 0, lost := true }).count (Obj.rxDrops s)
        let h := if h.dueAgain x.dropAt 400000000 then
            (h.setSq s { h.sq s with dropAt := h.now + 1 }).notice N.seqRxDrop (fidSeq s) [s, h.num (Obj.rxDrops s)]
          else h
        h.seqNext s i 1 none
      else h.setSq s { h.sq s with run := seqStalled })

/-- A stalled LOAD.b gets a word, or a stalled STORE.b gets room (R324); the linger begins when the stall ends (R321). -/
def Hub.seqStallEnd (h : Hub) (s : Nat) : Hub :=
  let x := h.sq s
  let i := insAt (h.oct (Obj.program s)) x.pc
  if !h.isOn (fidSeq s) || x.run != seqStalled then h
  else
    let t := h.ticksBy s h.now + 1 - x.ticks
    if insOp i = 4 then
      match h.takeWord s with
      | some h => h.seqNext s i t none
      | none => h
    else if insOp i = 5 then
      match (h.seqPump s 9).putWord s with
      | some h => h.seqNext s i t none
      | none => h
    else h

/-- A counter of an instruction. -/
def SeqState.ctr (x : SeqState) (i : Nat) : Nat := if insClk i then x.cb else x.ca
def SeqState.setCtr (x : SeqState) (i v : Nat) : SeqState := if insClk i then { x with cb := v } else { x with ca := v }

/-- COUNT (R322): `op` 0 IMM, 1 reload, 2 shifter, 3 decrement. -/
def Hub.seqCount (h : Hub) (s op : Nat) : Hub :=
  h.seqDo s (fun i => insOp i == 6 && bits i 7 6 == op) (fun h i =>
    let x := h.sq s
    let v := match op with
      | 0 => insN i
      | 1 => h.num (if insClk i then Obj.seqCbReload s else Obj.seqCaReload s)
      | 2 => x.shifter % 65536
      | _ => (x.ctr i + 65535) % 65536
    (h.setSq s (x.setCtr i v)).seqNext s i 1 none)

/-- Set or clear a flag. -/
def Hub.seqFlag (h : Hub) (s f : Nat) (on : Bool) : Hub :=
  let x := h.sq s
  h.setSq s { x with flags := if on then setBit x.flags f else clearBit x.flags f }

/-- SEQ_SIGNAL, at most one in 100 µs (R337). -/
def Hub.seqSignal (h : Hub) (s f : Nat) : Hub :=
  let x := h.sq s
  if h.dueAgain x.sigAt 40000 then
    (h.setSq s { x with sigAt := h.now + 1 }).notice N.seqSignal (fidSeq s) [s, f, x.pc]
  else h.count (Obj.signalsMerged s)

/-- FLAG (R322): `op` 0 set, 1 clear, 2 signal, 3 broadcast. -/
def Hub.seqFlagOp (h : Hub) (s op : Nat) : Hub :=
  h.seqDo s (fun i => insOp i == 7 && bits i 8 7 == op) (fun h i =>
    let f := bits i 2 0
    let h := match op with
      | 0 => h.seqFlag s f true
      | 1 => h.seqFlag s f false
      | 2 => h.seqSignal s f
      | _ => (List.range 24).foldl (fun h t => if (h.num (Obj.seqSignalMask s)).testBit t then h.seqFlag t f true else h) h
    h.seqNext s i 1 none)

/-- HOLD begins (R326). -/
def Hub.seqHold (h : Hub) (s : Nat) : Hub :=
  h.seqDo s (fun i => insOp i == 8) (fun h _ => h.setSq s { h.sq s with run := seqStalled })

/-- The awaited condition of HOLD occurs (R326): the divider restarts, and the next instruction's first tick falls in the following cycle. -/
def Hub.seqRelease (h : Hub) (s : Nat) (rising : Bool) : Hub :=
  let x := h.sq s
  let i := insAt (h.oct (Obj.program s)) x.pc
  let k := bits i 8 6
  let ix := bits i 2 0
  let met := if k = 0 then rising else if k = 1 then !rising else if k = 2 then true else if k = 3 then x.events.testBit ix
    else x.flags.testBit ix
  if !h.isOn (fidSeq s) || x.run != seqStalled || insOp i != 8 || !met then h
  else
    let x := { x with events := if k = 3 then clearBit x.events ix else x.events, divAt := h.now + 1, ticks := 0 }
    (h.setSq s x).seqNext s i 0 none

/-- BRANCH on a condition of the sequencer (R322). -/
def Hub.seqBranch (h : Hub) (s : Nat) (kind : Nat → Bool) (taken : Hub → Nat → Bool) : Hub :=
  h.seqDo s kind (fun h i => h.seqNext s i 1 (if taken h i then some (insN i) else none))

/-- BRANCH counter DEC_NZ (R322). -/
def Hub.seqDecNz (h : Hub) (s : Nat) : Hub :=
  h.seqDo s (fun i => insOp i == 9 && bits i 7 6 == 1) (fun h i =>
    let x := h.sq s
    let v := (x.ctr i + 65535) % 65536
    (h.setSq s (x.setCtr i v)).seqNext s i 1 (if v ≠ 0 then some (insN i) else none))

/-- The condition of BRANCH shifter (R322). -/
def Hub.shifterCond (h : Hub) (s i : Nat) : Bool :=
  let n := (h.sq s).bitCount
  match bits i 8 6 with
  | 0 => n == 32
  | 1 => n == 0
  | 2 => n == h.num (Obj.seqMatchCount s)
  | _ => true

/-! ### Start, stop, events (R327 to R332, R336) -/

/-- The sequencer enters STARTING (R328). -/
def Hub.seqLoadStart (h : Hub) (s : Nat) : Hub :=
  let x := h.sq s
  let keep := h.flag (Obj.seqKeepShifter s)
  h.setSq s { x with
    run := seqIdle, pc := h.num (Obj.seqStartAddress s), ca := h.num (Obj.seqCaReload s), cb := h.num (Obj.seqCbReload s), flags := 0,
    events := 0, last := 0, wdExpired := false, shifter := if keep then x.shifter else 0, bitCount := if keep then x.bitCount else 0 }

/-- An IDLE sequencer starts at a cycle (R329). -/
def Hub.seqRunAt (h : Hub) (s at_ : Nat) : Hub :=
  h.setSq s { h.sq s with run := seqRunning, divAt := at_, ticks := 0, kick := at_ }

/-- The sequencer enters ON (R328). -/
def Hub.seqStart (h : Hub) (s : Nat) : Hub :=
  let h := (List.range 8).foldl (fun h p => h.startPin s p) h
  if h.flag (Obj.seqAutostart s) then h.seqRunAt s h.now else h

/-- A write of SEQGO (R329). -/
def Hub.seqGo (h : Hub) (go : Nat) : Hub :=
  (List.range 24).foldl (fun h s =>
    if !go.testBit s then h
    else if h.isOn (fidSeq s) && (h.sq s).run == seqIdle && !h.flag Obj.hubFault then h.seqRunAt s (h.now + 4)
    else h.count (Obj.seqGoIgnored s)) h

/-- The sequencer halts as its enable goes false, or a mapped channel leaves ON (R330, R332): pins, shifter, counters and transmit FIFO keep what
they hold; the receive record closes with STOPPED. A bit of SEQGO in the same cycle gives way and counts (R338). -/
def Hub.seqHalt (h : Hub) (s : Nat) : Hub :=
  let h := h.when ((h.sq s).run == seqRunning && (h.sq s).divAt == h.now + 4) (fun h => h.count (Obj.seqGoIgnored s))
  let h := h.seqPump s 9
  (h.setSq s { h.sq s with run := seqIdle }).seqClose s 4

/-- Words and packets of a sequencer that an abort discards count (R33, R492): received words in rx-drops, packets for it in tx-discards. -/
def Hub.seqLost (h : Hub) (s : Nat) : Hub :=
  let n := (h.sq s).rx.length + (h.sq s).words.length
  let h := h.setSq s { h.sq s with lost := (h.sq s).lost || n != 0 }
  (h.countN (Obj.rxDrops s) n).countN (Obj.seqTxDiscards s) (h.inbox (inboxSeq s)).length

/-- What a sequencer has not drained at the drain limit is discarded and counted (R33, R330): received words; its transmit FIFO keeps its contents. -/
def Hub.seqUndrained (h : Hub) (s : Nat) : Hub :=
  let h := h.seqLost s
  (h.setSq s { h.sq s with rx := [], words := [] }).setInbox (inboxSeq s) []

/-- An abort (R332, R492): the output pins take REST; FIFOs, buffers and the open record are discarded and counted; the shifter is cleared. -/
def Hub.seqAbort (h : Hub) (s : Nat) : Hub :=
  let h := (h.seqRest s).seqLost s
  (h.setSq s { h.sq s with
    run := seqIdle, tx := [], txWords := [], rx := [], words := [], shifter := 0, bitCount := 0 }).setInbox (inboxSeq s) []

/-- A SEQ_EVENT action (R327). -/
def Hub.seqEvent (h : Hub) (s e : Nat) : Hub :=
  let x := h.sq s
  if x.events.testBit e then h.count (Obj.eventsMerged s) else h.setSq s { x with events := setBit x.events e }

/-- The watchdog expires (R336); a kick in the same cycle wins. -/
def Hub.seqWatchdog (h : Hub) (s : Nat) : Hub :=
  let x := h.sq s
  if !h.isOn (fidSeq s) || x.run == seqIdle || h.num (Obj.seqWdLimit s) == 0 || x.kick == h.now then h
  else
    let h := (h.setSq s { x with wdExpired := true, kick := h.now }).count (Obj.watchdogExpiries s)
    let h := h.notice N.seqWatchdog (fidSeq s) [s, x.pc, x.run]
    if h.num (Obj.seqWdAction s) = 1 then (h.seqAbort s).faultOff (fidSeq s) N.seqWatchdog else h

/-- A packet from the switch becomes words (R334). -/
def Hub.seqPacket (h : Hub) (s : Nat) : Hub :=
  match h.inbox (inboxSeq s) with
  | [] => h
  | d :: ds =>
    let h := h.setInbox (inboxSeq s) ds
    let n := d.data.length
    if !h.isOn (fidSeq s) then h.count (Obj.seqTxDiscards s)
    else if n = 0 ∨ n % 4 ≠ 0 ∨ 4092 < n then h.count (Obj.seqMalformed s)
    else
      let ws := (List.range (n / 4)).map (fun i => leAt d.data (4 * i) 4)
      let x := h.sq s
      (h.setSq s ({ x with txWords := x.txWords ++ ws } : SeqState).fill).countN (Obj.wordsIn s) (n / 4)

/-- SEQSTAT(s), SEQSHIFT(s), SEQCNT(s) and SEQFLG(s) by word (R340). -/
def Hub.seqReg (h : Hub) (s w : Nat) : Nat :=
  let x := h.sq s
  match w with
  | 0 => (h.func (fidSeq s)).byte * 2 ^ 24 + x.run * 2 ^ 22 + b2n x.progBusy * 2 ^ 21 + b2n x.wdExpired * 2 ^ 20 + x.tx.length * 2 ^ 16
      + x.rx.length * 2 ^ 12 + x.pc * 64 + x.bitCount
  | 1 => x.shifter
  | 2 => x.cb * 65536 + x.ca
  | 3 => x.events * 256 + x.flags
  | _ => 0

/-! ### The commands -/

/-- SEQ_NOP (R321). -/
def execSeqNop (q : Fin 24) (s : State) : Host.Outcome State Fault Refusal :=
  s.answer (fun h => h.seqDo q.val (fun i => insOp i == 0) (fun h i => h.seqNext q.val i 1 none))
/-- SEQ_DRIVE (R322): each pin in the mask of the group takes its bit of IMM. -/
def execSeqDrive (q : Fin 24) (s : State) : Host.Outcome State Fault Refusal :=
  s.answer (fun h => h.seqDo q.val (fun i => insOp i == 1) (fun h i =>
    let mask := h.num (if insClk i then Obj.seqGroup1Mask q.val else Obj.seqGroup0Mask q.val)
    let h := (List.range 8).foldl (fun h p => if mask.testBit p then h.seqDrive q.val p (some (i.testBit p)) else h) h
    h.seqNext q.val i 1 none))
/-- SEQ_SAMPLE (R323). -/
def execSeqSample (q : Fin 24) (pads : List (BitVec 8)) (s : State) : Host.Outcome State Fault Refusal :=
  s.answer (fun h => h.seqSample q.val (pads.map (·.toNat)))
/-- SEQ_EMIT (R323). -/
def execSeqEmit (q : Fin 24) (s : State) : Host.Outcome State Fault Refusal := s.answer (fun h => h.seqEmit q.val)
/-- SEQ_LOAD_B (R324). -/
def execSeqLoadB (q : Fin 24) (s : State) : Host.Outcome State Fault Refusal := s.answer (fun h => h.seqLoad q.val false)
/-- SEQ_LOAD_NB (R324). -/
def execSeqLoadNb (q : Fin 24) (s : State) : Host.Outcome State Fault Refusal := s.answer (fun h => h.seqLoad q.val true)
/-- SEQ_STORE_B (R324). -/
def execSeqStoreB (q : Fin 24) (s : State) : Host.Outcome State Fault Refusal := s.answer (fun h => h.seqStore q.val false)
/-- SEQ_STORE_NB (R324). -/
def execSeqStoreNb (q : Fin 24) (s : State) : Host.Outcome State Fault Refusal := s.answer (fun h => h.seqStore q.val true)
/-- SEQ_COUNT_IMM (R322). -/
def execSeqCountImm (q : Fin 24) (s : State) : Host.Outcome State Fault Refusal := s.answer (fun h => h.seqCount q.val 0)
/-- SEQ_COUNT_RELOAD (R322). -/
def execSeqCountReload (q : Fin 24) (s : State) : Host.Outcome State Fault Refusal := s.answer (fun h => h.seqCount q.val 1)
/-- SEQ_COUNT_SHIFTER (R322). -/
def execSeqCountShifter (q : Fin 24) (s : State) : Host.Outcome State Fault Refusal := s.answer (fun h => h.seqCount q.val 2)
/-- SEQ_COUNT_DEC (R322). -/
def execSeqCountDec (q : Fin 24) (s : State) : Host.Outcome State Fault Refusal := s.answer (fun h => h.seqCount q.val 3)
/-- SEQ_FLAG_SET (R322). -/
def execSeqFlagSet (q : Fin 24) (s : State) : Host.Outcome State Fault Refusal := s.answer (fun h => h.seqFlagOp q.val 0)
/-- SEQ_FLAG_CLEAR (R322). -/
def execSeqFlagClear (q : Fin 24) (s : State) : Host.Outcome State Fault Refusal := s.answer (fun h => h.seqFlagOp q.val 1)
/-- SEQ_FLAG_SIGNAL (R337). -/
def execSeqFlagSignal (q : Fin 24) (s : State) : Host.Outcome State Fault Refusal := s.answer (fun h => h.seqFlagOp q.val 2)
/-- SEQ_FLAG_BROADCAST (R322). -/
def execSeqFlagBroadcast (q : Fin 24) (s : State) : Host.Outcome State Fault Refusal := s.answer (fun h => h.seqFlagOp q.val 3)
/-- SEQ_HOLD (R326). -/
def execSeqHold (q : Fin 24) (s : State) : Host.Outcome State Fault Refusal := s.answer (fun h => h.seqHold q.val)
/-- SEQ_HOLD_RELEASE (R326). -/
def execSeqHoldRelease (q : Fin 24) (rising : Bool) (s : State) : Host.Outcome State Fault Refusal :=
  s.answer (fun h => h.seqRelease q.val rising)
/-- SEQ_BRANCH_ZERO (R322). -/
def execSeqBranchZero (q : Fin 24) (s : State) : Host.Outcome State Fault Refusal :=
  s.answer (fun h => h.seqBranch q.val (fun i => insOp i == 9 && bits i 7 6 == 0) (fun h i => (h.sq q.val).ctr i == 0))
/-- SEQ_BRANCH_DEC_NZ (R322). -/
def execSeqBranchDecNz (q : Fin 24) (s : State) : Host.Outcome State Fault Refusal := s.answer (fun h => h.seqDecNz q.val)
/-- SEQ_BRANCH_PIN_HIGH (R322). -/
def execSeqBranchPinHigh (q : Fin 24) (pad : Bool) (s : State) : Host.Outcome State Fault Refusal :=
  s.answer (fun h => h.seqBranch q.val (fun i => insOp i == 10) (fun h i => h.readPin q.val (bits i 8 6) pad))
/-- SEQ_BRANCH_PIN_LOW (R322). -/
def execSeqBranchPinLow (q : Fin 24) (pad : Bool) (s : State) : Host.Outcome State Fault Refusal :=
  s.answer (fun h => h.seqBranch q.val (fun i => insOp i == 11) (fun h i => !h.readPin q.val (bits i 8 6) pad))
/-- SEQ_BRANCH_SHIFTER (R322). -/
def execSeqBranchShifter (q : Fin 24) (s : State) : Host.Outcome State Fault Refusal :=
  s.answer (fun h => h.seqBranch q.val (fun i => insOp i == 12) (fun h i => h.shifterCond q.val i))
/-- SEQ_BRANCH_FLAG (R322). -/
def execSeqBranchFlag (q : Fin 24) (s : State) : Host.Outcome State Fault Refusal :=
  s.answer (fun h => h.seqBranch q.val (fun i => insOp i == 13) (fun h i => (h.sq q.val).flags.testBit (bits i 8 6)))
/-- SEQ_STALL_END (R324). -/
def execSeqStallEnd (q : Fin 24) (s : State) : Host.Outcome State Fault Refusal := s.answer (fun h => h.seqStallEnd q.val)
/-- SEQ_WATCHDOG_EXPIRED (R336). -/
def execSeqWatchdogExpired (q : Fin 24) (s : State) : Host.Outcome State Fault Refusal := s.answer (fun h => h.seqWatchdog q.val)
/-- SEQ_RX_GAP_EXPIRED (R333). -/
def execSeqRxGapExpired (q : Fin 24) (s : State) : Host.Outcome State Fault Refusal :=
  s.answer (fun h => if h.num (Obj.seqRxGap q.val) = 0 then h else h.seqClose q.val 2)
/-- SEQ_TX_PACKET (R334). -/
def execSeqTxPacket (q : Fin 24) (s : State) : Host.Outcome State Fault Refusal := s.answer (fun h => h.seqPacket q.val)

end Sys2Proof.Machine
end

