-- ==== Sys2Proof/Machine/StoreCore.lean ====
section
/-!
DEFINITION. The store (R569 to R571): who waits for its bursts, in what order they are served, and what a write that is not confirmed
brings.
-/
namespace Sys2Proof.Machine

/-! Ranks of R570; 4 + e are the scan engines. -/
def rankFlush : Nat := 0
def rankPersist : Nat := 1
def rankKeeper : Nat := 2
def rankBatch : Nat := 3

/-- Partition codes of R466, and those of R593. -/
def partLedger : Nat := 5
def partPersist : Nat := 6
def partJournal : Nat := 7

/-- A master asks for octets of a partition, in bursts of 64. -/
def Hub.storeRequest (h : Hub) (rank part offset octets : Nat) : Hub :=
  let j : StoreJob := { rank := rank, part := part, offset := offset, left := (octets + 63) / 64 }
  if j.left = 0 then h
  else
    match h.store.cur with
    | none => { h with store := { h.store with cur := some j } }
    | some _ => { h with store := { h.store with waiting := h.store.waiting ++ [j] } }

/-- The keeper writes PERSIST. -/
def Hub.persist (h : Hub) (octets : Nat) : Hub := h.storeRequest rankPersist partPersist 0 octets

/-- The order among waiting masters: rank; scan engines in rotation after the one served last (R570). -/
def storeOrder (turn : Nat) (j : StoreJob) : Nat := if j.rank < 4 then j.rank else 4 + (j.rank + 3 - turn) % 4

/-- The first waiting master in that order. -/
def pickStore (turn : Nat) : List StoreJob → Option StoreJob
  | [] => none
  | j :: js =>
    match pickStore turn js with
    | none => some j
    | some k => if storeOrder turn k < storeOrder turn j then some k else some j

/-- The next burst goes to the waiting master of highest rank. -/
def Hub.storeNext (h : Hub) : Hub :=
  match pickStore h.store.turn h.store.waiting with
  | none => { h with store := { h.store with cur := none } }
  | some j =>
    { h with
      store := { h.store with
        cur := some j
        waiting := h.store.waiting.erase j
        turn := if j.rank < 4 then h.store.turn else j.rank - 4 } }

/-- A scan engine reads no more. -/
def Hub.storeDrop (h : Hub) (rank : Nat) : Hub :=
  let h := { h with store := { h.store with waiting := h.store.waiting.filter (fun j => j.rank != rank) } }
  match h.store.cur with
  | some j => if j.rank = rank then h.storeNext else h
  | none => h

/-- STORE_BURST_COMPLETE (R570, R571): a burst that the store does not confirm is retried twice; then the write has failed. -/
def execStoreBurstComplete (ok : Bool) (s : State) : Host.Outcome State Fault Refusal :=
  s.answer (fun h =>
    match h.store.cur with
    | none => h
    | some j =>
      if ok then
        let h := { h with store := { h.store with tries := 0, bad := h.store.bad && decide (4 ≤ j.rank) } }
        let h := h.when (decide (1 < j.left)) (fun h => { h with store := { h.store with
          waiting := { j with left := j.left - 1, offset := j.offset + 64 } :: h.store.waiting } })
        h.storeNext
      else if h.store.tries < 2 then { h with store := { h.store with tries := h.store.tries + 1 } }
      else
        let h := { h with store := { h.store with tries := 0 } }
        let h := h.when (decide (j.rank < 4)) (fun h =>
          let h := { h with store := { h.store with bad := true } }
          (h.count Obj.storeWriteFaults).noticeS N.storeWriteFault fidUpdate [j.part, j.offset])
        h.storeNext)

end Sys2Proof.Machine
end

