-- ==== Sys2Proof/Machine/TimeCode.lean ====
section
/-!
DEFINITION. The contents of an IRIG-B frame that a time-code output sends (R268, R269): which element says what. The spec names the frame by its standard
only; the places of the fields are those of IRIG Standard 200 and of the IEEE 1344 extension (PRESUMED: log entry 100).
-/
namespace Sys2Proof.Machine

/-- Days from 1970-01-01 to January 1 of a year (proleptic Gregorian). -/
def daysToYear (y : Nat) : Nat := (y - 1970) * 365 + (y - 1969) / 4 - (y - 1901) / 100 + (y - 1601) / 400

/-- The year a day since 1970-01-01 lies in, of the 256 from 1970 on. -/
def yearOfDay (d : Nat) : Nat := 1970 + ((List.range 255).filter (fun k => decide (daysToYear (1971 + k) ≤ d))).length

/-- A number at an element, least significant bit first. -/
def placed (at_ n : Nat) : Nat := n * 2 ^ at_

/-- The binary-coded decimal of 0 to 399: units at an element, tens five elements on, hundreds ten on. -/
def placedBcd (at_ n : Nat) : Nat := placed at_ (n % 10) + placed (at_ + 5) (n / 10 % 10) + placed (at_ + 10) (n / 100)

/-- The control functions of the IEEE 1344 extension, elements 60 to 75: the offset of local time in hours and a half, the time quality, and the odd
parity of the elements before it. -/
def irigControl (base : Nat) (off : Int) (quality : Nat) : Nat :=
  let m := off.natAbs
  let w := base + placed 64 (b2n (decide (off < 0))) + placed 65 (m / 60 % 16) + placed 70 (b2n (decide (30 ≤ m % 60))) + placed 71 (quality % 16)
  let ones := ((List.range 75).filter (fun i => w.testBit i)).length
  w + placed 75 (b2n (ones % 2 == 0))

/-- The bits of a frame of format B00x by element (R268), for the second of UTC, or of local time, that it tells: the time of day and the day of the year;
with x from 4 on the year; with x of 0, 1, 4 and 5 the control functions; with x of 0, 3, 4 and 7 the seconds of the day in binary. -/
def irigFrame (x secs : Nat) (off : Int) (quality : Nat) : Nat :=
  let d := secs / 86400
  let y := yearOfDay d
  let sod := secs % 86400
  let time := placedBcd 1 (sod % 60) + placedBcd 10 (sod / 60 % 60) + placedBcd 20 (sod / 3600) + placedBcd 30 (d - daysToYear y + 1)
  let year := if 4 ≤ x then placedBcd 50 (y % 100) else 0
  let sbs := if x = 0 ∨ x = 3 ∨ x = 4 ∨ x = 7 then placed 80 (sod % 512) + placed 90 (sod / 512) else 0
  (if x = 0 ∨ x = 1 ∨ x = 4 ∨ x = 5 then irigControl (time + year) off quality else time + year) + sbs

/-- The width in ms of an element (R268): 8 of the reference marker and of a position identifier, 5 of a one, 2 of a zero. -/
def irigWidth (frame i : Nat) : Nat := if i = 0 ∨ i % 10 = 9 then 8 else if frame.testBit i then 5 else 2

end Sys2Proof.Machine
end

