-- ==== Sys2Proof/Machine/Channels.lean ====
section
/-!
DEFINITION. The universal channels (R241 to R274): records, UART, binary inputs and outputs, pulse, time-code and converter-start
channels, line sense; and the ledger (R275 to R279).
-/
namespace Sys2Proof.Machine

/-! ### Records (R248) -/

/-- Send a record on a route from a cluster port. -/
def Hub.recordOn (h : Hub) (c route type flags stamp : Nat) (data : List Byte) : Hub :=
  if route = 0xFFFF then h
  else
    let x := h.chan c
    let hdr := [BitVec.ofNat 8 type, BitVec.ofNat 8 c] ++ leBytes 2 flags ++ leBytes 2 data.length ++ leBytes 2 x.recSeq ++ leBytes 8 stamp
    let h := h.setChan c { x with recSeq := (x.recSeq + 1) % 65536 }
    h.swArrive (c / 16) { data := hdr ++ data, route := route, owner := fidChannel c + 1 }

/-- Send a record on the channel's own route; 0xFFFF sends none. -/
def Hub.record (h : Hub) (c type flags stamp : Nat) (data : List Byte) : Hub :=
  h.recordOn c (h.num (Obj.chRoute c)) type flags stamp data

/-! ### The ledger (R275 to R279) -/

/-- The 16 octets of an entry (R275). -/
def LEntry.octets (e : LEntry) : List Byte :=
  leBytes 8 e.stamp ++ leBytes 4 e.phase ++ leBytes 2 e.seq ++ [BitVec.ofNat 8 e.ch, BitVec.ofNat 8 e.flags]

/-- Whether a ledger sequence number is another one or follows it, in the 32 bits it has (R276): the nearer of the two ways round. -/
def seqReached (a b : Nat) : Bool := decide ((a + 2 ^ 32 - b % 2 ^ 32) % 2 ^ 32 < 2 ^ 31)

/-- An entry that is not mirrored yet (R277). -/
def Ledger.unmirrored (l : Ledger) (e : LEntry) : Bool := seqReached e.seq (l.mirrored + 1)

/-- The objects of the ledger that follow its contents (R287). -/
def Hub.ledgerObjects (h : Hub) : Hub :=
  let l := h.ledger
  let h := h.setNum Obj.ledgerNewest ((l.nextSeq + 2 ^ 32 - 1) % 2 ^ 32)
  let h := h.setNum Obj.ledgerOldestSram ((l.sram.getLast?.map (·.seq)).getD 0)
  let h := h.setNum Obj.ledgerOldestStore ((l.store.getLast?.map (·.seq)).getD 0)
  h.setNum Obj.unmirrored ((l.sram.filter l.unmirrored).length)

/-- Largest entries in one export record (R279). -/
def Hub.exportMax (h : Hub) : Nat := min 64 ((rtMaxFrame (h.route (h.num Obj.exportRoute)) - 16) / 16)

/-- Entries from a sequence number on, oldest first: from SRAM, or from the store where SRAM no longer has them. -/
def Ledger.from_ (l : Ledger) (n : Nat) : List LEntry :=
  let s := (l.sram.filter (fun e => seqReached e.seq n)).reverse
  let lo := (l.sram.getLast?.map (·.seq)).getD l.nextSeq
  (l.store.filter (fun e => seqReached e.seq n && !seqReached e.seq lo)).reverse ++ s

/-- Groups of at most `n` entries. -/
def groups (n : Nat) : Nat → List LEntry → List (List LEntry)
  | 0, _ => []
  | f + 1, l => if l.isEmpty ∨ n = 0 then [] else l.take n :: groups n f (l.drop n)

/-- Send the entries that an export still has to send (R279). -/
def Hub.exportPump (h : Hub) : Hub :=
  let route := h.num Obj.exportRoute
  if h.ledger.exportNext = 0 ∨ route = 0xFFFF then h
  else
    let es := h.ledger.from_ (h.ledger.exportNext - 1)
    let h := (groups h.exportMax (es.length + 1) es).foldl (fun h g =>
      h.recordOn ((g.head?.map (·.ch)).getD 0) route 0x02 0 (h.stamp .E) (g.flatMap LEntry.octets)) h
    let n := if seqReached h.ledger.nextSeq (h.ledger.exportNext - 1) then h.ledger.nextSeq + 1 else h.ledger.exportNext
    let h := { h with ledger := { h.ledger with exportNext := n } }
    h.setNum Obj.exportState 2

/-- Accept an entry (R276, R277): number it, keep the newest 65,536 in SRAM, count what is lost before mirroring, send the channel's own
record, and feed a running export. `usable`: the phase clock was usable at the stamp (R275). -/
def Hub.ledgerAdd (h : Hub) (c stamp phase : Nat) (usable state : Bool) (flags : Nat) : Hub :=
  let l := h.ledger
  let seq := l.nextSeq
  let f := b2n state * 128 + (if usable then 64 else 0) + flags + (if h.num (Obj.lineState c) = 0 then 0 else 2)
  let e : LEntry := { seq := seq, stamp := stamp, phase := phase, ch := c, flags := f }
  let full := decide (65536 ≤ l.sram.length)
  let oldest := l.sram.getLast?
  let lost := full && (match oldest with | some o => l.unmirrored o | none => false)
  let h := { h with ledger := { l with
    sram := e :: (if full then l.sram.dropLast else l.sram), nextSeq := (seq + 1) % 2 ^ 32, gap := l.gap || lost } }
  let h := h.when lost (fun h => (h.count Obj.ledgerLost).notice N.ledgerLost fidLedger [1])
  let h := h.setChan c { h.chan c with newest := seq % 2 ^ 32 }
  let h := h.ledgerObjects
  let h := h.record c 0x02 0 stamp e.octets
  h.exportPump

/-- Copy unmirrored entries to the store, oldest first, at most `n` (R277); GAP on the first entry after a loss. -/
def Hub.mirrorEntriesToStore (h : Hub) (rank n : Nat) : Hub :=
  let l := h.ledger
  let es := ((l.sram.filter l.unmirrored).reverse).take n
  match es with
  | [] => h
  | e :: _ =>
    let es' := es.map (fun (x : LEntry) => if l.gap && x.seq == e.seq then { x with flags := x.flags - x.flags % 2 + 1 } else x)
    let top := (es.getLast?.map (·.seq)).getD l.mirrored
    ({ h with ledger := { l with
      store := (es'.reverse ++ l.store).take 131072, mirrored := top, gap := false } }).ledgerObjects.storeRequest rank partLedger
      (16 * (e.seq % 131072)) (16 * es.length)

/-- The next entries for a dictionary read (R278): at most 4,096 from read-from, which advances; GAP when it lies before the oldest. -/
def Hub.ledgerRead (h : Hub) : List Byte × Hub :=
  let n := h.num Obj.readFrom
  let es := (h.ledger.from_ n).take 4096
  match es with
  | [] => ([], h)
  | e :: _ =>
    let es' := es.map (fun (x : LEntry) => if !seqReached n e.seq && x.seq == e.seq then { x with flags := x.flags - x.flags % 2 + 1 } else x)
    (es'.flatMap LEntry.octets, h.setNum Obj.readFrom (((es.getLast?.map (·.seq)).getD n + 1) % 2 ^ 32))

/-- export-from written (R279). -/
def Hub.exportStart (h : Hub) (n : Nat) : Hub :=
  if h.num Obj.exportRoute = 0xFFFF then h
  else (({ h with ledger := { h.ledger with exportNext := n + 1 } }).setNum Obj.exportState 1).exportPump

/-- clear-ledger written true (R276, R287). -/
def Hub.ledgerClear (h : Hub) : Hub :=
  (({ h with ledger := {} }).ledgerObjects).setNum Obj.exportState 0

/-! ### UART (R249 to R254) -/

/-- Octets of a channel in its receive buffer: the open record, and the records that wait at the cluster port (R247, R251). -/
def Hub.rxHeld (h : Hub) (c : Nat) : Nat :=
  let x := h.chan c
  let w := (SMap.get (fun _ => []) h.sw.inputs (c / 16)).filter (fun p => p.owner == fidChannel c + 1)
  (if x.rxOpen then 16 + x.rx.length else 0) + (w.map (fun p => p.data.length)).foldl (· + ·) 0

/-- Octets of a channel in its transmit buffer. -/
def Hub.txHeld (h : Hub) (c : Nat) : Nat :=
  ((h.inbox (inboxChannel c)).map (fun d => d.data.length)).foldl (· + ·) 0 + (match (h.chan c).tx with | some d => d.length | none => 0)

/-- RTS on the C pin (R253): inactive below 64 octets free, active again at 256. A line fault's DISABLE holds it inactive (R273). -/
def Hub.rts (h : Hub) (c : Nat) : Hub :=
  if h.num (Obj.uartCFunction c) ≠ 2 ∨ (h.chan c).driverOff = true then h
  else
    let free := h.num (Obj.uartRxBuffer c) - h.rxHeld c
    if free < 64 then h.drive c 2 false else if 256 ≤ free then h.drive c 2 true else h

def flGap : Nat := 1
def flEnd : Nat := 2
def flCount : Nat := 4
def flAddress : Nat := 8
def flStopped : Nat := 16

/-- Close the open packet (R250, R251, R254) and send its record. -/
def Hub.uartClose (h : Hub) (c closer : Nat) : Hub :=
  let x := h.chan c
  if !x.rxOpen then h
  else
    let (bad, data) := match h.profile (h.num (Obj.uartCrcProfile c)) with
      | some p => let (ok, d) := p.check x.rx; (!ok, d)
      | none => (false, x.rx)
    let flags := x.rxFlags + closer + (if bad then 512 else 0)
    let h := h.when bad (fun h => (h.count (Obj.chCrcErrors c)).count Obj.inlineCheckFailures)
    let h := h.setChan c { x with rxOpen := false, rx := [], rxFlags := 0, rxLost := 0 }
    let h := h.record c 0x01 flags x.rxStamp data
    let h := h.count (Obj.packetsRx c)
    let h := h.when (closer == flGap) (fun h => h.count (Obj.gapClosed c))
    let due := h.dueAgain (h.chan c).gapNotice 400000000
    let h := if closer = flGap ∧ h.flag (Obj.uartGapNotice c) = true ∧ due then
        (h.setChan c { h.chan c with gapNotice := h.now + 1 }).notice N.gapClosed (fidChannel c) [c, data.length]
      else h
    h.rts c

/-- Open a packet. -/
def Hub.uartOpen (h : Hub) (c stamp flags : Nat) : Hub :=
  h.setChan c { h.chan c with rxOpen := true, rx := [], rxStamp := stamp, rxFlags := flags, rxLost := 0 }

/-- Store octets of a character, or lose them when the receive buffer is full (R251), which raises UART_OVERRUN each time (R289). -/
def Hub.uartStore (h : Hub) (c : Nat) (bs : List Byte) : Hub :=
  let x := h.chan c
  if h.rxHeld c + bs.length ≤ h.num (Obj.uartRxBuffer c) then h.setChan c { x with rx := x.rx ++ bs }
  else
    let h := (h.countN (Obj.overrunBytes c) bs.length).setChan c { x with
      rxLost := x.rxLost + bs.length, rxFlags := if x.rxFlags.testBit 8 then x.rxFlags else x.rxFlags + 256 }
    h.notice N.uartOverrun (fidChannel c) [c, bs.length]

/-- Data octets at which COUNT closes a packet (R250). -/
def Hub.uartCount (h : Hub) (c : Nat) : Nat :=
  let r := h.num (Obj.chRoute c)
  if r = 0xFFFF then h.num (Obj.uartMaxCount c) else min (h.num (Obj.uartMaxCount c)) (rtMaxFrame (h.route r) - 16)

/-- In HALF duplex the receiver ignores RXD while DE is active (R253). -/
def Hub.uartDeaf (h : Hub) (c : Nat) : Bool :=
  h.num (Obj.uartDuplex c) == 1 && h.num (Obj.uartCFunction c) == 1 && (h.chan c).tx.isSome

/-- The packet a character joins: the open one, or a new one; its stamp is that of the first character, also where a break has opened it (R250, R251). -/
def Hub.uartBegin (h : Hub) (c start flags : Nat) : Hub :=
  let x := h.chan c
  if !x.rxOpen then h.uartOpen c (h.stampAt .E start) flags
  else h.when (x.rx.isEmpty && x.rxLost == 0) (fun h => h.setChan c { x with rxStamp := h.stampAt .E start })

/-- A received character (R249 to R252). -/
def Hub.uartChar (h : Hub) (c ch start : Nat) (perr ferr : Bool) : Hub :=
  if !h.chanIn c modeUart || h.uartDeaf c then h
  else
    let amode := h.flag (Obj.uartAddressMode c)
    let nine := h.num (Obj.uartDataBits c) == 9
    let isAddr := amode && ch.testBit 8
    let hit := ch % 256 == h.num (Obj.uartAddress c) || ch % 256 == 255
    let h := h.when isAddr (fun h => h.uartClose c flAddress)
    let h := h.when isAddr (fun h => h.setChan c { h.chan c with rxSkip := !hit })
    if (h.chan c).rxSkip then h
    else
      let h := h.uartBegin c start (if isAddr then 1024 else 0)
      let h := h.uartStore c (if nine && !amode then [BitVec.ofNat 8 ch, BitVec.ofNat 8 (ch / 256)] else [BitVec.ofNat 8 ch])
      let y := h.chan c
      let fl := if perr && !y.rxFlags.testBit 5 then y.rxFlags + 32 else y.rxFlags
      let fl := if ferr && !fl.testBit 6 then fl + 64 else fl
      let h := h.setChan c { y with rxFlags := fl }
      let h := h.when perr (fun h => h.count (Obj.parityErrors c))
      let h := h.when ferr (fun h => h.count (Obj.framingErrors c))
      let ec := h.num (Obj.uartEndChar c)
      if ec ≠ 0xFFFF ∧ ec = ch then h.uartClose c flEnd
      else if h.uartCount c ≤ (h.chan c).rx.length then h.uartClose c flCount
      else h.rts c

/-- A break (R251): the flag of the open packet, or of a new one that holds no data. -/
def Hub.uartBreak (h : Hub) (c : Nat) : Hub :=
  if !h.chanIn c modeUart || h.uartDeaf c then h
  else
    let h := h.when (!(h.chan c).rxOpen) (fun h => h.uartOpen c (h.stamp .E) 0)
    let x := h.chan c
    h.setChan c { x with rxFlags := if x.rxFlags.testBit 7 then x.rxFlags else x.rxFlags + 128 }

/-- The characters of a packet on the line (R249, R253). -/
def Hub.uartChars (h : Hub) (c : Nat) (data : List Byte) : List Nat :=
  if h.flag (Obj.uartAddressMode c) then (data.zipIdx).map (fun p => p.1.toNat + (if p.2 = 0 then 256 else 0))
  else if h.num (Obj.uartDataBits c) = 9 then (chunks 2 (data.length + 1) data).map (fun p => byteAt p 0 + byteAt p 1 % 2 * 256)
  else if h.num (Obj.uartDataBits c) = 7 then data.map (fun b => b.toNat % 128)
  else data.map (fun b => b.toNat)

/-- A transmit packet from the switch starts (R253, R254, R273). -/
def Hub.uartTx (h : Hub) (c : Nat) : Hub :=
  match h.inbox (inboxChannel c) with
  | [] => h
  | d :: ds =>
    let x := h.chan c
    if !h.chanSends c modeUart || x.driverOff then (h.setInbox (inboxChannel c) ds).count (Obj.chTxDiscards c)
    else if x.tx.isSome || (h.num (Obj.uartDuplex c) == 1 && x.rxOpen) then h
    else
      let h := h.setInbox (inboxChannel c) ds
      let (tail, h) := match h.profile (h.num (Obj.uartCrcProfile c)) with
        | some p => (p.octets d.data, h.count Obj.inlineAppended)
        | none => ([], h)
      let h := h.setChan c { h.chan c with tx := some (d.data ++ tail) }
      let h := h.when (h.num (Obj.uartCFunction c) == 1) (fun h => h.drive c 2 true)
      h.emit (.uart c (h.uartChars c (d.data ++ tail)))

/-- The last stop bit of a transmit packet leaves (R253). -/
def Hub.uartSent (h : Hub) (c : Nat) : Hub :=
  if (h.chan c).tx.isNone then h
  else
    let h := (h.setChan c { h.chan c with tx := none }).count (Obj.packetsTx c)
    h.when (h.num (Obj.uartCFunction c) == 1) (fun h => h.drive c 2 false)

/-! ### Binary inputs (R255 to R259) -/

/-- Quality of a channel as its object shows it (R285): bits [3:1] of byte 15. -/
def Hub.setQuality (h : Hub) (c flags : Nat) : Hub :=
  h.setNum (Obj.quality c) ((flags + (if h.num (Obj.lineState c) = 0 then 0 else 2)) / 2 % 8)

/-- The input state a raw level means (R255, R282). -/
def Hub.binClosed (h : Hub) (c : Nat) (level : Bool) : Bool :=
  if h.num (Obj.binSource c) = 0 then level != (h.num (Obj.binPolarity c) == 1) else level

/-- LTC of an input's edge that is seen now, compensated (R256). -/
def Hub.binLtc (h : Hub) (c : Nat) : Nat :=
  h.ago (h.num (Obj.binFilterDelay c) * 2 / 5 + (if h.num (Obj.binSource c) = 1 then 160 else 0))

/-- An edge of a binary input (R256, R258). -/
def Hub.binEdge (h : Hub) (c : Nat) (level : Bool) : Hub :=
  let h := h.setChan c { h.chan c with inA := level }
  if !h.chanIn c modeBin then h
  else
    let l := h.binLtc c
    let x : Chan := { h.chan c with rawStamp := h.stampAt .E l, rawPhase := h.phaseAt l % 2 ^ 32, rawValid := h.usableAt l }
    let closed := h.binClosed c level
    if closed ≠ x.deb ∧ x.depart.isNone then h.setChan c { x with depart := some (l, h.phaseAt l % 2 ^ 32) }
    else h.setChan c x

/-- The input has held its state for bin-debounce (R256 to R258). -/
def Hub.binDebounce (h : Hub) (c : Nat) : Hub :=
  let x := h.chan c
  if !h.chanIn c modeBin then h
  else
    match x.depart with
    | none => h
    | some (l, ph) =>
      let closed := h.binClosed c x.inA
      if closed = x.deb then h.setChan c { x with depart := none }
      else
        let win := h.num (Obj.chatterWindow c) * 400000
        let changes := (x.changes.filter (fun t => decide (ticksBetween t h.now ≤ win))) ++ [h.now]
        let n := h.num (Obj.chatterCount c)
        let block := decide (n ≠ 0 ∧ n < changes.length) && !x.blocked
        let stamp := h.stampAt .E l
        let h := h.setChan c { x with depart := none, deb := closed, changes := changes, blocked := x.blocked || block }
        let h := h.count (Obj.changesAccepted c)
        let h := if h.num (Obj.binSource c) = 1 ∧ h.num (Obj.wetPulse c) ≠ 0 ∧ closed = true ∧ (h.chan c).driverOff = false then
            (h.setChan c { h.chan c with wet := true, wetLow := 0, wetSum := 0 }).drive c 2 true
          else h
        if x.blocked then h
        else
          let h := (h.setFlag (Obj.inputState c) closed).setNum (Obj.chStLastChange c) stamp
          let h := h.setQuality c (if block then 4 else 0)
          let h := h.when (h.flag (Obj.ledgerEnable c)) (fun h => h.ledgerAdd c stamp ph (h.usableAt l) closed (if block then 4 else 0))
          h.when block (fun h => (h.count (Obj.chatterBlocks c)).notice N.chatterBlocked (fidChannel c) [c, b2n closed])

/-- No departure for chatter-quiet lifts the block (R258). -/
def Hub.chatterQuiet (h : Hub) (c : Nat) : Hub :=
  let x := h.chan c
  if !h.chanIn c modeBin || !x.blocked then h
  else
    let h := h.setChan c { x with blocked := false, changes := [] }
    let h := (h.setFlag (Obj.inputState c) x.deb).setNum (Obj.chStLastChange c) x.rawStamp
    let h := h.setQuality c 8
    let h := h.when (h.flag (Obj.ledgerEnable c)) (fun h => h.ledgerAdd c x.rawStamp x.rawPhase x.rawValid x.deb 8)
    h.notice N.chatterReleased (fidChannel c) [c, b2n x.deb]

/-- The wetting pulse ends (R257). -/
def Hub.wetEnd (h : Hub) (c : Nat) : Hub :=
  if (h.chan c).wet then (h.setChan c { h.chan c with wet := false }).drive c 2 false else h

/-! ### Binary outputs (R260 to R266) -/

/-- The commanded state of an output. -/
def Hub.commanded (h : Hub) (c : Nat) : Bool := h.num (Obj.outputCommand c) == 1

/-- Drive A of an output; the readback and coil windows of R266 open when it changes. A disabled driver leaves A floating (R273). -/
def Hub.boutDrive (h : Hub) (c : Nat) (high : Bool) : Hub :=
  let change := h.commanded c != high
  let h := h.setNum (Obj.outputCommand c) (b2n high)
  let h := h.when change (fun h => h.setChan c { h.chan c with
    rbWin := h.num (Obj.boutReadback c) != 0, coilWin := h.num (Obj.boutCoilSense c) != 0 })
  if (h.chan c).driverOff then h else h.drive c 0 high

/-- The safe state of an output (R265), with its cause for the notice; `none` applies it without one. -/
def Hub.boutSafe (h : Hub) (c : Nat) (cause : Option Nat) : Hub :=
  let h := h.setChan c { h.chan c with pulse := false, angle := none }
  let s := h.num (Obj.boutSafeState c)
  let h := if s = 0 then h.boutDrive c false else if s = 1 then h.boutDrive c true else h
  match cause with
  | none => h
  | some k => (h.count (Obj.safeStatesApplied c)).notice N.safeStateApplied (fidChannel c) [c, k]

/-- An accepted command acts at once (R263): a pulse has the width of its record, or bout-pulse-width where that is 0 (R261). -/
def Hub.boutAct (h : Hub) (c cmd ms : Nat) : Hub :=
  let h := h.setChan c { h.chan c with angle := none }
  let pulsed : Chan := { h.chan c with pulse := true, pulseMs := if ms = 0 then h.num (Obj.boutPulseWidth c) else ms }
  if cmd = 0 then (h.setChan c { h.chan c with pulse := false }).boutDrive c false
  else if cmd = 1 then
    if h.num (Obj.boutShape c) = 1 then (h.setChan c pulsed).boutDrive c true
    else (h.setChan c { h.chan c with pulse := false }).boutDrive c true
  else if cmd = 2 then (h.setChan c pulsed).boutDrive c true
  else h.boutSafe c none

/-- The phase advance over a time in ns at the present frequency and rate of change, in 2^-32 cycle (R71). -/
def Hub.phaseLead (h : Hub) (ns : Nat) : Nat :=
  let f : Int := h.time.phcFreq
  let lin := f * ns * 2 ^ 32 / 1000000000000000
  let quad := h.int Obj.rocof * ns * ns * 2 ^ 32 / 2 / 1000000000000000000000000
  (lin + quad).toNat

/-- The LTC at which an ANGLE command acts (R264): the next occurrence of the angle, advanced, at least 50 µs from now, fixed by the present phase,
frequency and rocof (R62). -/
def Hub.angleInstant (h : Hub) (c : Nat) : Nat :=
  let target := (h.num (Obj.boutAngle c) + 2 ^ 64 - h.phaseLead (h.num (Obj.boutOperateTime c)) % 2 ^ 32) % 2 ^ 32
  let soon := h.phaseLead 50000
  let p := h.phaseRaw h.now + soon
  let d : Nat := soon + (target + 2 ^ 32 - p % 2 ^ 32) % 2 ^ 32
  (h.now + max 20000 (ticksWithRocof h.time.phcFreq (h.int Obj.rocof) (d : Int)).toNat) % 2 ^ 64

/-- Whether a command yields to one that the stage has already taken in the same cycle (R29, R36): of equal claims both count as applied, in the order of
their sources, so the one of the later source stands. (One with a lower claim than that has been refused by the record.) -/
def Hub.boutYields (h : Hub) (c : Nat) (r : List Byte) : Bool :=
  match (h.chan c).lastCmd with
  | some (l, k, src) => l == h.now && k == recClaim r && decide (recSource r < src)
  | none => false

/-- Whether a command meets one of a higher claim in the same cycle (R29): the stage applies that one only. -/
def Hub.boutOutranked (h : Hub) (c : Nat) (r : List Byte) : Bool :=
  match (h.chan c).lastCmd with
  | some (l, k, _) => l == h.now && decide (recClaim r < k)
  | none => false

/-- Take back what a command of a lower claim has done in this cycle (R29): the output is as the first command of the cycle found it. -/
def Hub.boutUndo (h : Hub) (c : Nat) : Hub :=
  let x := h.chan c
  let w := x.was
  let h := (h.setChan c { x with pulse := w.pulse, pulseMs := w.pulseMs, angle := w.angle, rbWin := w.rbWin, coilWin := w.coilWin }).setNum
    (Obj.outputCommand c) w.command
  if x.driverOff then h else h.drive c 0 (w.command == 1)

/-- Before a command acts (R29): the first one of a cycle notes the output as it is; one of a higher claim than an earlier one of the cycle undoes that. -/
def Hub.boutOnly (h : Hub) (c : Nat) (r : List Byte) : Hub :=
  let x := h.chan c
  let first := h.setChan c { x with was := {
    command := h.num (Obj.outputCommand c), pulse := x.pulse, pulseMs := x.pulseMs, angle := x.angle, rbWin := x.rbWin, coilWin := x.coilWin } }
  match x.lastCmd with
  | some (l, k, _) => if l ≠ h.now then first else if k < recClaim r then h.boutUndo c else h
  | none => first

/-- A command record reaches the output stage (R28, R29, R261 to R265): malformed records are counted, the claim filter decides, an accepted
command restarts the hold timer and acts as the shape gives. -/
def Hub.boutCommand (h : Hub) (c : Nat) (r : List Byte) : Hub :=
  let g := h.num (Obj.boutGroup c)
  if r.length ≠ 16 ∨ recChannel r ≠ c ∨ recGroup r ≠ g ∨ 3 < recCmd r ∨ leAt r 12 4 ≠ 0 ∨ 60000 < recPulse r then
    h.count (Obj.chMalformed c)
  else if !h.chanIn c modeBout then h
  else if h.flag Obj.hubFault then h.count (Obj.claimRefused c)
  else if recClaim r < h.recorded g then h.count (Obj.claimRefused c)
  else if h.boutOutranked c r then h
  else
    let timed := h.num (Obj.boutShape c) == 2 && recSource r != 1 && recCmd r != 3
    let usable := h.num Obj.phcState == phcLocked || h.num Obj.phcState == phcCoasting
    if timed && !usable && h.num (Obj.boutAngleFallback c) == 1 then
      (h.count (Obj.angleRefused c)).notice N.angleRefused (fidChannel c) [c, h.num Obj.phcState]
    else
      let h := (h.boutOnly c r).raiseRecord g (recClaim r)
      let h := h.setNum (Obj.outputClaim c) (recClaim r)
      let yields := h.boutYields c r
      let h := h.setChan c { h.chan c with
        hold := h.num (Obj.boutClaimHold c) != 0,
        lastCmd := if yields then (h.chan c).lastCmd else some (h.now, recClaim r, recSource r) }
      if yields then h
      else if timed && usable then h.setChan c { h.chan c with angle := some (recCmd r, recPulse r, recClaim r, h.angleInstant c) }
      else h.boutAct c (recCmd r) (recPulse r)

/-- The record a packet at the cluster port stands for (R262): the hub writes CLAIM, GROUP and SOURCE of a packet from a host queue; other
records carry their own. -/
def Hub.stageRecord (h : Hub) (c : Nat) (d : Delivered) : List Byte :=
  if d.inPort = 16 ∧ d.data.length = 16 then
    let g := h.num (Obj.boutGroup c)
    leBytes 4 (if h.inGroup g then d.claim else 0) ++ [BitVec.ofNat 8 g] ++ slice d.data 5 2 ++ [2] ++ d.data.drop 8
  else d.data

/-- The output stage takes the record at the head of its cluster port when its CMD is `cmd` (R263); what can be no command is discarded and
counted first (R261). A record of a host queue passes the supervisor (R395). -/
def Hub.boutTake (h : Hub) (c cmd : Nat) : Hub :=
  match h.inbox (inboxChannel c) with
  | [] => h
  | d :: ds =>
    let r := h.stageRecord c d
    if r.length ≠ 16 ∨ 3 < recCmd r then (h.setInbox (inboxChannel c) ds).count (Obj.chMalformed c)
    else if recCmd r ≠ cmd then h
    else
      let h := h.setInbox (inboxChannel c) ds
      if d.inPort = 16 then
        let (loc, h) := h.issueCmd 0 r
        if loc then h.boutCommand c r else h
      else h.boutCommand c r

/-- The pulse width expires (R263). -/
def Hub.boutPulseEnd (h : Hub) (c : Nat) : Hub :=
  if (h.chan c).pulse && h.chanIn c modeBout then (h.setChan c { h.chan c with pulse := false }).boutDrive c false else h

/-- A pending ANGLE command reaches its instant (R264). -/
def Hub.boutAngle (h : Hub) (c : Nat) : Hub :=
  match (h.chan c).angle with
  | some (cmd, ms, _, _) => if h.chanIn c modeBout then h.boutAct c cmd ms else h
  | none => h

/-- A command for an output has been accepted in this cycle. -/
def Hub.commandedNow (h : Hub) (c : Nat) : Bool :=
  match (h.chan c).lastCmd with
  | some (l, _, _) => l == h.now
  | none => false

/-- bout-claim-hold passes without an accepted command (R265); a command in the cycle of the expiry wins. -/
def Hub.claimHold (h : Hub) (c : Nat) : Hub :=
  if (h.chan c).hold && h.chanIn c modeBout && !h.commandedNow c then (h.setChan c { h.chan c with hold := false }).boutSafe c (some 2) else h

/-- A channel leaves ON through a fault reaction (R31, R266): its pins float once its safe state is applied by the caller. -/
def Hub.chanFaultOff (h : Hub) (c code : Nat) : Hub :=
  ((h.faultOff (fidChannel c) code).chanClear c).clusterFollow (c / 16)

/-- A readback or coil sense is not as commanded (R266). -/
def Hub.readbackFail (h : Hub) (c : Nat) (coil : Bool) : Hub :=
  let x := h.chan c
  let h := if coil then (h.count (Obj.coilFaults c)).notice N.coilFault (fidChannel c) [c, b2n (h.commanded c)]
    else (h.count (Obj.readbackMismatches c)).notice N.readbackMismatch (fidChannel c) [c, b2n (h.commanded c), b2n x.rb]
  if h.num (Obj.boutMismatchAction c) = 1 then
    (h.boutSafe c (some 4)).chanFaultOff c (if coil then N.coilFault else N.readbackMismatch)
  else h

/-- A filtered readback or coil-sense level changes (R260, R266); the stamp is that of the edge, the 200 µs of the filter taken off (R9). The readback must stay as commanded while A is steady; the coil sense is tested in its
window only. -/
def Hub.readbackChange (h : Hub) (c : Nat) (coil level : Bool) : Hub :=
  let x := h.chan c
  if !h.chanIn c modeBout then
    h.setChan c (if coil then { x with inC := level } else { x with inB := level })
  else
    let cfg := if coil then h.num (Obj.boutCoilSense c) else h.num (Obj.boutReadback c)
    let v := if cfg = 2 then !level else level
    let h := h.setChan c (if coil then { x with inC := level, coil := v } else { x with inB := level, rb := v })
    if cfg = 0 then h
    else
      let l := h.ago 80000
      let stamp := h.stampAt .E l
      let h := if coil then h else
        let h := ((h.setFlag (Obj.inputState c) v).setNum (Obj.chStLastChange c) stamp).setQuality c 0
        h.when (h.flag (Obj.ledgerEnable c)) (fun h => h.ledgerAdd c stamp (h.phaseAt l % 2 ^ 32) (h.usableAt l) v 32)
      if !coil && !x.rbWin && v != h.commanded c then h.readbackFail c coil else h

/-- bout-rb-window passes after a change of A (R266). -/
def Hub.readbackWindow (h : Hub) (c : Nat) (coil : Bool) : Hub :=
  let x := h.chan c
  if !h.chanIn c modeBout || !(if coil then x.coilWin else x.rbWin) then h
  else
    let h := h.setChan c (if coil then { x with coilWin := false } else { x with rbWin := false })
    if (if coil then x.coil else x.rb) != h.commanded c then h.readbackFail c coil else h

/-! ### Pulse, time code, converter start (R267 to R270) -/

/-- An edge of a PULSE channel after its glitch filter (R267). -/
def Hub.pulseEdge (h : Hub) (c : Nat) (rising : Bool) : Hub :=
  let sel := h.num (Obj.pulseEdge c)
  let h := h.setChan c { h.chan c with inA := rising }
  let x := h.chan c
  if !h.chanIn c modePulse || !(sel == 3 || (sel == 1 && rising) || (sel == 2 && !rising)) then h
  else
    (h.wrapAdd (Obj.pulseCount c) 1).setChan c { x with
      gateEdges := x.gateEdges + 1, gateFirst := if x.gateEdges = 0 then h.stNs h.now else x.gateFirst, gateLast := h.stNs h.now,
      period := if x.lastEdge = 0 then 0 else ticksBetween (x.lastEdge - 1) h.now, lastEdge := h.now + 1 }

/-- The end of pulse-gate: the pulse report (R267), its frequency over the difference of the stamps of the gate's first and last edge. -/
def Hub.pulseGateEnd (h : Hub) (c : Nat) : Hub :=
  let x := h.chan c
  if !h.chanIn c modePulse then h
  else
    let dt := x.gateLast - x.gateFirst
    let f := if x.gateEdges < 2 ∨ dt = 0 then 0 else (x.gateEdges - 1) * 1000000000000 / dt
    let h := h.setChan c { x with gateEdges := 0, gateFirst := 0, gateLast := 0 }
    let h := h.setNum (Obj.chStFrequency c) f
    h.record c 0x03 0 (h.stamp .E)
      (leBytes 4 (h.num (Obj.pulseCount c)) ++ leBytes 4 x.gateEdges ++ leBytes 4 f ++ leBytes 4 (x.period * 5 / 2))

/-- Whether a received time-code frame is valid (R268). -/
def tcodeValid (f : TcodeFrame) : Bool := f.bitsOk && f.widthsOk && f.markersOk && f.bcdOk && f.parityOk

/-- The TCODE source (R41): a valid frame on its channel, while TCODE is selected, supplies the utc-offset where it has one, and its second, as TAI, is that
of the last 1PPS edge. -/
def Hub.tcodeTime (h : Hub) (c : Nat) (f : TcodeFrame) (utc : Int) : Hub :=
  if h.num Obj.timeSource ≠ 3 ∨ h.num Obj.tcodeChannel ≠ c then h
  else
    let h := h.takeUtc f.utc
    match h.time.pps with
    | none => h
    | some (l, frac) => h.measureOffset ((utc + h.utcOffsetInUse) * 1000000000 - ((h.stAt l + frac * 200000000) / stPerNs : Nat))

/-- A received IRIG-B frame (R268): the record, stamped with the leading edge of the reference marker, converted when the unit latched it (R25), the last decoded time, and the notice at the first invalid one after a valid one. -/
def Hub.tcodeFrame (h : Hub) (c : Nat) (f : TcodeFrame) : Hub :=
  if !h.chanIn c modeTcode || h.num (Obj.tcodeFunction c) != 0 then h
  else
    let x := h.chan c
    let ok := tcodeValid f
    let year := f.year.getD (h.num (Obj.tcodeYear c))
    let utc : Int := ((daysToYear year + f.day - 1) * 86400 + f.secs : Nat) - toSigned 16 (h.num (Obj.tcodeLocalOffset c)) * 60
    let h := if ok then h.tcodeTime c f utc else h
    let st := stamp64 ((utc + h.utcOffsetInUse).toNat * 1000000000) .E
    let h := h.setChan c { x with tcodeOk := ok }
    let h := if ok then (h.count (Obj.tcodeValid c)).setNum (Obj.tcodeLast c) st else h.count (Obj.tcodeInvalid c)
    let h := h.record c 0x04 (b2n !ok) (h.latched.stampAt .E f.start.toNat)
      (leBytes 8 st ++ leBytes 2 year ++ leBytes 2 f.day ++ leBytes 4 f.secs ++ leBytes 4 f.control)
    h.when (x.tcodeOk && !ok) (fun h => h.notice N.tcodeInvalid (fidChannel c) [c])

/-- The time-quality bits of the extension (R269): 0 while locked, else the first power of ten, from 1 ns as 1, that covers the uncertainty. -/
def Hub.tcodeQuality (h : Hub) : Nat :=
  match h.uncertaintyU with
  | none => 15
  | some u =>
    if h.num Obj.syncState ≠ syncHoldover ∧ h.num Obj.syncState ≠ syncHoldoverSleep then 0
    else 1 + ((List.range 10).filter (fun k => decide (10 ^ k < u))).length

/-- The element of the frame that an on-time edge of IRIG_OUT begins (R268): its number, 100 in a second, and its width in ms. The frame tells the second
whose first edge is its reference marker, in UTC with tcode-local-offset added. -/
def Hub.tcodeElement (h : Hub) (c : Nat) : Nat × Nat :=
  let n := (h.stNs h.now + 5000000) / 10000000
  let off := toSigned 16 (h.num (Obj.tcodeLocalOffset c))
  let utc : Int := (n / 100 : Nat) - h.utcOffsetInUse + off * 60
  (n % 100, irigWidth (irigFrame (h.num (Obj.tcodeFormat c)) utc.toNat off h.tcodeQuality) (n % 100))

/-- An on-time edge of a time-code output, or the end of its pulse (R268, R269): held low while SYNC_STATE is NEVER. -/
def Hub.tcodeEdge (h : Hub) (c : Nat) (rising : Bool) : Hub :=
  if !h.chanIn c modeTcode || h.num (Obj.tcodeFunction c) == 0 || (h.chan c).driverOff then h
  else if !rising || h.num Obj.syncState == syncNever then h.drive c 0 false
  else
    let e := h.tcodeElement c
    (h.drive c 0 true).when (h.num (Obj.tcodeFunction c) == 1) (fun h => h.emit (.timeCode c e.1 e.2))

/-- A CSTART action (R270). -/
def Hub.cstartFire (h : Hub) (c : Nat) : Hub :=
  if !h.chanIn c modeCstart then h
  else if (h.chan c).cstart then h.count (Obj.cstartOverlaps c)
  else
    let h := (h.setChan c { h.chan c with cstart := true }).count (Obj.cstartPulses c)
    h.when (!(h.chan c).driverOff) (fun h => h.drive c 0 (h.num (Obj.cstartPolarity c) == 0))

/-- cstart-width passes (R270). -/
def Hub.cstartEnd (h : Hub) (c : Nat) : Hub :=
  if (h.chan c).cstart then
    let h := h.setChan c { h.chan c with cstart := false }
    h.when (!(h.chan c).driverOff) (fun h => h.drive c 0 (h.num (Obj.cstartPolarity c) == 1))
  else h

/-! ### Line sense (R271 to R274) -/

/-- Line-state codes (R285). -/
def lsOk : Nat := 0
def lsShortGnd : Nat := 1
def lsShortSupply : Nat := 2
def lsOpen : Nat := 3
def lsReversed : Nat := 4
def lsNotTested : Nat := 5

/-- Field voltage in mV of a converter code (R271), to the nearest mV. -/
def Hub.fieldMv (h : Hub) (c code : Nat) : Int :=
  roundDiv (((code * 1800 : Nat) - (h.num (Obj.senseOffset c) * 4096 : Nat) : Int) * h.num (Obj.senseRatio c)) 4096000

/-- The verdict of a band in a mode (R272). -/
def verdictOf (mode band : Nat) : Nat :=
  if band = 4 then lsShortSupply
  else if mode = modeUart then [lsShortGnd, lsReversed, lsOpen, lsOk].getD band lsOk
  else if mode = modeCan then [lsShortGnd, lsReversed, lsOk, lsReversed].getD band lsOk
  else if mode = modeBin ∨ mode = modeBout then [lsReversed, lsOpen, lsOk, lsOk].getD band lsOk
  else [lsShortGnd, lsOk, lsOk, lsOk].getD band lsOk

/-- The threshold Tj, j from 0, of a channel in its mode. -/
def Hub.lsThreshold (h : Hub) (c j : Nat) : Int := h.int (Obj.lsT (h.num (Obj.chMode c)) c j)

/-- The band of a field voltage (R272). -/
def Hub.lsBand (h : Hub) (c : Nat) (mv : Int) : Nat := ((List.range 4).filter (fun j => decide (h.lsThreshold c j ≤ mv))).length

/-- The tally of a verdict. -/
def lsTally (c v : Nat) : Nat :=
  if v = lsShortGnd then Obj.lsShortGnd c else if v = lsShortSupply then Obj.lsShortSupply c else if v = lsOpen then Obj.lsOpen c
  else Obj.lsReversed c

/-- Disable the driver of a channel (R273 step 4): a packet in progress is cut off. -/
def Hub.disableDriver (h : Hub) (c : Nat) : Hub :=
  let mode := h.num (Obj.chMode c)
  let h := h.setChan c { h.chan c with driverOff := true }
  let h := h.floatPin c 0
  let h := if mode = modeUart then h.drive c 2 false else if mode = modeCan then h.drive c 2 true else h.when (h.chan c).wet (fun h => h.wetEnd c)
  let h := h.when (mode == modeCan) (fun h => h.canCut c)
  let h := h.when (mode == modeSeq) (fun h => h.seqFloat c)
  h.when (h.chan c).tx.isSome (fun h => (h.setChan c { h.chan c with tx := none }).count (Obj.chTxDiscards c))

/-- Enable the driver again (R274). -/
def Hub.enableDriver (h : Hub) (c : Nat) : Hub :=
  if !(h.chan c).driverOff then h
  else
    let h := h.setChan c { h.chan c with driverOff := false }
    let mode := h.num (Obj.chMode c)
    if mode = modeUart then (h.drive c 0 true).rts c
    else if mode = modeBout then h.drive c 0 (h.commanded c)
    else if mode = modeCan then (h.drive c 0 true).drive c 2 false
    else if mode = modeTcode then h.when (h.num (Obj.tcodeFunction c) != 0) (fun h => h.drive c 0 false)
    else if mode = modeSeq then h.seqPinsOf c
    else if mode = modeCstart then h.drive c 0 ((h.num (Obj.cstartPolarity c) == 0) == (h.chan c).cstart)
    else h

/-- A line fault is declared (R273). -/
def Hub.lineFault (h : Hub) (c v : Nat) (mean : Int) : Hub :=
  let h := (h.setNum (Obj.lineState c) v).count (lsTally c v)
  let h := h.setChan c { h.chan c with cleanRun := 0 }
  let h := h.setNum (Obj.quality c) (h.num (Obj.quality c) / 2 * 2 + 1)
  let h := h.notice N.lineFault (fidChannel c) [c, v, argInt mean]
  let h := h.record c 0x05 v (h.stamp .E) (leBytes 4 (ofSigned 32 mean))
  h.when (h.num (Obj.lineFaultAction (h.num (Obj.chMode c)) c) == 1) (fun h => h.disableDriver c)

/-- Whether the state of the channel lets a sample count (R272). -/
def Hub.lsQuiet (h : Hub) (c : Nat) : Bool :=
  let x := h.chan c
  if h.num (Obj.chMode c) = modeUart ∨ h.num (Obj.chMode c) = modeCan then x.tx.isNone && (h.can c).cur.isNone
  else if h.num (Obj.chMode c) = modeBout then !h.commanded c && (h.num (Obj.boutReadback c) == 0 || !x.rb)
  else true

/-- A line-sense sample (R257, R271 to R273). -/
def Hub.lsSample (h : Hub) (c code : Nat) (quiet : Bool) : Hub :=
  if !h.isOn (fidChannel c) || !h.flag (Obj.lsEnable c) then h
  else
    let h := h.wrapAdd (Obj.lsSamples (c / 16)) 1
    if !quiet || !h.lsQuiet c then h
    else
      let mv := h.fieldMv c code
      let x := h.chan c
      let low := x.wet && decide (mv < h.int (Obj.binOffLevel c))
      let x : Chan := { x with wetLow := if low then x.wetLow + 1 else 0, wetSum := if low then x.wetSum + mv else 0 }
      let band := h.lsBand c mv
      let v := verdictOf (h.num (Obj.chMode c)) band
      let bad := v != lsOk
      let n := if bad ∧ band = x.lsBand then x.lsRun + 1 else 1
      let sum := if bad ∧ band = x.lsBand then x.lsSum + mv else mv
      let need := h.num (Obj.lsConfirm c)
      let h := h.setChan c { x with
        lsBand := band, lsRun := n, lsSum := sum, cycN := x.cycN + 1, cycSum := x.cycSum + mv, cycFault := x.cycFault || bad }
      if bad && n == need && h.num (Obj.lineState c) != v then h.lineFault c v (roundDiv sum n)
      else if low && x.wetLow == need && h.num (Obj.lineState c) != lsOpen then h.lineFault c lsOpen (roundDiv x.wetSum need)
      else h

/-- A diagnosis cycle ends (R271, R274); one without enough valid samples neither counts as clean nor breaks a run of clean ones. -/
def Hub.lsCycleEnd (h : Hub) (c : Nat) : Hub :=
  if !h.isOn (fidChannel c) || !h.flag (Obj.lsEnable c) then h
  else
    let x := h.chan c
    let mean := if x.cycN = 0 then h.int (Obj.fieldVoltage c) else roundDiv x.cycSum x.cycN
    let h := h.setInt (Obj.fieldVoltage c) mean
    let clean := !x.cycFault && decide (h.num (Obj.lsConfirm c) ≤ x.cycN)
    let run := if clean then x.cleanRun + 1 else if x.cycN < h.num (Obj.lsConfirm c) then x.cleanRun else 0
    let h := h.setChan c { x with cycN := 0, cycSum := 0, cycFault := false, cleanRun := run }
    let st := h.num (Obj.lineState c)
    if st = lsNotTested ∧ clean = true then
      (h.setNum (Obj.lineState c) lsOk).setNum (Obj.quality c) (h.num (Obj.quality c) / 2 * 2)
    else if st ≠ lsOk ∧ st ≠ lsNotTested ∧ clean = true ∧ h.num (Obj.lsRecoverCycles c) ≤ run then
      let h := (h.setNum (Obj.lineState c) lsOk).setNum (Obj.quality c) (h.num (Obj.quality c) / 2 * 2)
      let h := h.notice N.lineClear (fidChannel c) [c, st, h.num (Obj.lsRecoverCycles c)]
      let h := h.record c 0x05 0 (h.stamp .E) (leBytes 4 (ofSigned 32 mean))
      h.when (h.flag (Obj.lsAutoRecover c)) (fun h => h.enableDriver c)
    else h

/-! ### Room at a cluster port -/

/-- A cluster port has taken a record (R247): a UART channel may have room again (R253), and words of a sequencer join its open record (R333). -/
def Hub.inputFreed (h : Hub) (k : Nat) : Hub :=
  let h := (List.range 16).foldl (fun h i => h.when (h.chanIn (16 * k + i) modeUart) (fun h => h.rts (16 * k + i))) h
  (h.seqPump (2 * k) 9).seqPump (2 * k + 1) 9

/-! ### Start, stop, reset of a channel -/

/-- A channel enters ON (R241, R259, R265). -/
def Hub.chanStart (h : Hub) (c : Nat) : Hub :=
  let x := h.chan c
  let keep : Chan := { recSeq := x.recSeq, newest := x.newest, inA := x.inA, inB := x.inB, inC := x.inC, gapNotice := x.gapNotice }
  let h := (h.setChan c keep).setQuality c 0
  let mode := h.num (Obj.chMode c)
  if mode = modeUart then
    let h := h.setChan c { h.chan c with rxSkip := h.flag (Obj.uartAddressMode c) }
    let h := h.drive c 0 true
    if h.num (Obj.uartCFunction c) = 1 then h.drive c 2 false else h.rts c
  else if mode = modeCan then (h.drive c 0 true).drive c 2 false
  else if mode = modeBin then
    let s := h.binClosed c x.inA
    let h := h.setChan c { h.chan c with deb := s }
    let st := h.stamp .E
    let h := (h.setFlag (Obj.inputState c) s).setNum (Obj.chStLastChange c) st
    let h := h.when (h.num (Obj.wetPulse c) != 0) (fun h => h.drive c 2 false)
    h.when (h.flag (Obj.ledgerEnable c)) (fun h => h.ledgerAdd c st (h.phaseAt h.now % 2 ^ 32) h.phaseUsable s 16)
  else if mode = modeBout then
    let rbv := if h.num (Obj.boutReadback c) = 2 then !x.inB else x.inB
    let coilv := if h.num (Obj.boutCoilSense c) = 2 then !x.inC else x.inC
    let high := h.num (Obj.boutSafeState c) == 1
    let h := h.setChan c { h.chan c with
      rb := rbv, coil := coilv, rbWin := h.num (Obj.boutReadback c) != 0, coilWin := h.num (Obj.boutCoilSense c) != 0 }
    let h := (h.setNum (Obj.outputCommand c) (b2n high)).setFlag (Obj.inputState c) (h.num (Obj.boutReadback c) != 0 && rbv)
    h.drive c 0 high
  else if mode = modeTcode then (if h.num (Obj.tcodeFunction c) = 0 then h else h.drive c 0 false)
  else if mode = modeCstart then h.drive c 0 (h.num (Obj.cstartPolarity c) == 1)
  else h

/-- A channel leaves ON: pins at high impedance (R241); buffers, latches and timers are cleared; an open UART packet closes with STOPPED
(R250, R493); transmit packets and command records that wait count in tx-discards (R33). -/
def Hub.chanStop (h : Hub) (c : Nat) : Hub :=
  let h := h.when (h.num (Obj.chMode c) == modeUart) (fun h => h.uartClose c flStopped)
  let x := h.chan c
  let n := (h.inbox (inboxChannel c)).length + b2n x.tx.isSome
  let h := (h.setInbox (inboxChannel c) []).countN (Obj.chTxDiscards c) n
  h.chanClear c

/-! ### The commands -/

/-- SWITCH_FRAME_IN (R186): at a cluster port what it takes makes room (R247). -/
def execSwitchFrameIn (port : Fin 18) (s : State) : Host.Outcome State Fault Refusal :=
  s.answer (fun h => (h.switchFrameIn port.val).when (decide (port.val < 12)) (fun h => h.inputFreed port.val))

def execUartCharRx (c : Fin 192) (char : BitVec 9) (start : BitVec 64) (parityErr framingErr : Bool) (s : State) :
    Host.Outcome State Fault Refusal := s.answer (fun h => h.uartChar c.val char.toNat start.toNat parityErr framingErr)
def execUartGapExpired (c : Fin 192) (s : State) : Host.Outcome State Fault Refusal :=
  s.answer (fun h => if h.chanIn c.val modeUart then h.uartClose c.val flGap else h)
def execUartBreak (c : Fin 192) (s : State) : Host.Outcome State Fault Refusal := s.answer (fun h => h.uartBreak c.val)
def execUartTxPacket (c : Fin 192) (s : State) : Host.Outcome State Fault Refusal := s.answer (fun h => h.uartTx c.val)
def execUartTxPacketSent (c : Fin 192) (s : State) : Host.Outcome State Fault Refusal := s.answer (fun h => h.uartSent c.val)
def execBinEdge (c : Fin 192) (level : Bool) (s : State) : Host.Outcome State Fault Refusal := s.answer (fun h => h.binEdge c.val level)
def execBinDebounceExpired (c : Fin 192) (s : State) : Host.Outcome State Fault Refusal := s.answer (fun h => h.binDebounce c.val)
def execChatterQuietExpired (c : Fin 192) (s : State) : Host.Outcome State Fault Refusal := s.answer (fun h => h.chatterQuiet c.val)
def execWetPulseEnd (c : Fin 192) (s : State) : Host.Outcome State Fault Refusal := s.answer (fun h => h.wetEnd c.val)
def execBoutCmdOpen (c : Fin 192) (s : State) : Host.Outcome State Fault Refusal := s.answer (fun h => h.boutTake c.val 0)
def execBoutCmdClose (c : Fin 192) (s : State) : Host.Outcome State Fault Refusal := s.answer (fun h => h.boutTake c.val 1)
def execBoutCmdPulse (c : Fin 192) (s : State) : Host.Outcome State Fault Refusal := s.answer (fun h => h.boutTake c.val 2)
def execBoutCmdSafe (c : Fin 192) (s : State) : Host.Outcome State Fault Refusal := s.answer (fun h => h.boutTake c.val 3)
def execBoutPulseEnd (c : Fin 192) (s : State) : Host.Outcome State Fault Refusal := s.answer (fun h => h.boutPulseEnd c.val)
def execBoutAngleInstant (c : Fin 192) (s : State) : Host.Outcome State Fault Refusal := s.answer (fun h => h.boutAngle c.val)
def execClaimHoldExpired (c : Fin 192) (s : State) : Host.Outcome State Fault Refusal := s.answer (fun h => h.claimHold c.val)
def execBoutReadbackChange (c : Fin 192) (coil level : Bool) (s : State) : Host.Outcome State Fault Refusal :=
  s.answer (fun h => h.readbackChange c.val coil level)
def execReadbackWindowExpired (c : Fin 192) (coil : Bool) (s : State) : Host.Outcome State Fault Refusal :=
  s.answer (fun h => h.readbackWindow c.val coil)
def execPulseEdge (c : Fin 192) (rising : Bool) (s : State) : Host.Outcome State Fault Refusal :=
  s.answer (fun h => h.pulseEdge c.val rising)
def execPulseGateEnd (c : Fin 192) (s : State) : Host.Outcome State Fault Refusal := s.answer (fun h => h.pulseGateEnd c.val)
def execTcodeFrameRx (c : Fin 192) (f : TcodeFrame) (s : State) : Host.Outcome State Fault Refusal :=
  s.answer (fun h => h.tcodeFrame c.val f)
def execTcodeOutputEdge (c : Fin 192) (rising : Bool) (s : State) : Host.Outcome State Fault Refusal :=
  s.answer (fun h => h.tcodeEdge c.val rising)
def execCstartPulseEnd (c : Fin 192) (s : State) : Host.Outcome State Fault Refusal := s.answer (fun h => h.cstartEnd c.val)
def execLsSample (c : Fin 192) (code : BitVec 12) (quiet : Bool) (s : State) : Host.Outcome State Fault Refusal :=
  s.answer (fun h => h.lsSample c.val code.toNat quiet)
def execLsDiagnosisCycleEnd (c : Fin 192) (s : State) : Host.Outcome State Fault Refusal := s.answer (fun h => h.lsCycleEnd c.val)
/-- mirror-batch entries are unmirrored (R277). -/
def execLedgerMirrorBatch (s : State) : Host.Outcome State Fault Refusal :=
  s.answer (fun h => if h.num Obj.mirrorBatch ≤ h.num Obj.unmirrored then h.mirrorEntriesToStore rankBatch (h.num Obj.mirrorBatch) else h)
/-- mirror-interval after the oldest unmirrored entry (R277). -/
def execLedgerMirrorIntervalExpired (s : State) : Host.Outcome State Fault Refusal :=
  s.answer (fun h => h.mirrorEntriesToStore rankBatch (h.num Obj.mirrorBatch))
/-- PG_OUT is withdrawn: all unmirrored entries are written at once (R277). -/
def execLedgerFlush (s : State) : Host.Outcome State Fault Refusal := s.answer (fun h => h.mirrorEntriesToStore rankFlush 65536)

end Sys2Proof.Machine
end

