-- ==== Sys2Proof/Machine/Station.lean ====
section
/-!
DEFINITION. The station ports (R343 to R357): transmit queues, stamps, PRP and HSR tags, duplicate and node tables, classification rules. What a
PTP message does is in Machine/Ptp.lean, with the receive path that uses it.
-/
namespace Sys2Proof.Machine

/-- Redundancy codes (R350). -/
def redNone : Nat := 0
def redPrp : Nat := 1
def redHsr : Nat := 2

def Hub.red (h : Hub) : Nat := h.num Obj.staRedundancy

/-- Port number of a link: 0 STA-A, 1 STA-B. -/
def staIx (b : Bool) : Nat := b2n b

/-- The address of a link (R350): with redundancy both use STA-A's. -/
def Hub.staMac (h : Hub) (p : Nat) : List Byte := h.oct (Obj.macAddress (if h.red = redNone then p else 0))

/-- Whether a link is UP on a port that is ON. -/
def Hub.staUp (h : Hub) (p : Nat) : Bool := h.isOn (fidStation p) && h.num (Obj.staPortLinkState p) == 1

/-! ### Frames -/

/-- Whether octets carry an 802.1Q tag. -/
def ethTagged (f : List Byte) : Bool := beAt f 12 2 == 0x8100
/-- Offset of the EtherType after any tag, and the EtherType. -/
def ethOff (f : List Byte) : Nat := if ethTagged f then 16 else 12
def ethType (f : List Byte) : Nat := beAt f (ethOff f) 2
def ethDst (f : List Byte) : List Byte := f.take 6
def ethSrc (f : List Byte) : Nat := beAt f 6 6

/-- LSDUsize of a frame: the octets after its EtherType, and 6 (IEC 62439-3, through R351 and R353). -/
def lsduSize (f : List Byte) : Nat := f.length - (ethOff f + 2) + 6

/-- Append an RCT for a link (R351). -/
def withRct (f : List Byte) (seq p : Nat) : List Byte :=
  f ++ beBytes 2 seq ++ beBytes 2 ((0xA + p) * 4096 + lsduSize f % 4096) ++ beBytes 2 0x88FB

/-- The RCT at a frame's end, when it is valid (R352): SeqNr and LanId. -/
def rctOf (f : List Byte) : Option (Nat × Nat) :=
  let n := f.length
  if n < 20 ∨ beAt f (n - 2) 2 ≠ 0x88FB ∨ beAt f (n - 4) 2 % 4096 ≠ lsduSize (f.take (n - 6)) % 4096 then none
  else some (beAt f (n - 6) 2, beAt f (n - 4) 2 / 4096)

/-- Insert an HSR tag (R353). -/
def withHsr (f : List Byte) (seq : Nat) : List Byte :=
  let o := ethOff f
  f.take o ++ beBytes 2 0x892F ++ beBytes 2 (lsduSize f % 4096) ++ beBytes 2 seq ++ f.drop o

/-- The HSR tag of a frame: its sequence number, and the frame without the tag. -/
def hsrOf (f : List Byte) : Option (Nat × List Byte) :=
  if ethType f ≠ 0x892F then none else some (beAt f (ethOff f + 4) 2, f.take (ethOff f) ++ f.drop (ethOff f + 6))

/-- Pad to 60 octets (R348). -/
def padFrame (f : List Byte) : List Byte := f ++ List.replicate (60 - f.length) 0

/-- The FCS of a frame (R348): CRC-32 of IEEE 802.3, profile 1 of R459. -/
def fcsOf (f : List Byte) : List Byte := (⟨32, 0x04C11DB7, 0xFFFFFFFF, true, true, 0xFFFFFFFF⟩ : Profile).octets f

/-! ### Stamps (R355, R356) -/

/-- Station time of a start-of-frame delimiter given in fifths of a tick (R39), in units of 2.5e-9 ns, corrected by the port's delay in ps. -/
def Hub.staTime (h : Hub) (l : Nat) (ps : Int) : Nat := ((h.stAt (l / 5) : Int) + (l % 5 : Nat) * 200000000 + ps * 400000).toNat

/-- Receive time, and departure time (R355). -/
def Hub.rxTime (h : Hub) (p l : Nat) : Nat := h.staTime l (-(h.int (Obj.rxDelay p)))
def Hub.txTime (h : Hub) (p l : Nat) : Nat := h.staTime l (h.int (Obj.txDelay p))

/-- The class H STAMP64 of such a time. -/
def Hub.staStamp (h : Hub) (l t : Nat) : Nat := stamp64 (t / stPerNs) (h.stampClass .H (l / 5))

/-- A time in ns × 2^16. -/
def scaledNs (t : Nat) : Int := (t * 65536 / stPerNs : Nat)

/-- A PTP Timestamp of ns. -/
def ptpStamp (ns : Nat) : List Byte := beBytes 6 (ns / 1000000000) ++ beBytes 4 (ns % 1000000000)

/-- Replace octets of a frame from an offset. -/
def overwrite (f : List Byte) (o : Nat) (d : List Byte) : List Byte := f.take o ++ d ++ f.drop (o + d.length)

/-- The one's-complement sum of octets taken as big-endian 16-bit words. -/
def onesSum : List Byte → Nat
  | [] => 0
  | [a] => a.toNat * 256
  | a :: b :: r =>
    let s := a.toNat * 256 + b.toNat + onesSum r
    s % 65536 + s / 65536

/-- Insert a departure time at an offset (R356): a UDP checksum over IPv4 becomes 0; over IPv6 the last two octets of the UDP payload keep it
valid. -/
def tsInsert (f : List Byte) (o ns : Nat) : List Byte :=
  let g := overwrite f o (ptpStamp ns)
  let ip := ethOff f + 2
  if ethType f = 0x0800 ∧ byteAt f (ip + 9) = 17 then overwrite g (ip + byteAt f ip % 16 * 4 + 6) [0, 0]
  else if ethType f = 0x86DD ∧ byteAt f (ip + 6) = 17 then
    let u := ip + 40
    let len := beAt f (u + 4) 2
    let zero := overwrite g (u + len - 2) [0, 0]
    let s0 := onesSum (slice f u len)
    let s1 := onesSum (slice zero u len)
    let x := (s0 + 65535 - s1) % 65535
    overwrite g (u + len - 2) (if len % 2 = 0 then beBytes 2 x else leBytes 2 x)
  else g

/-! ### Transmit (R348, R349, R351, R353) -/

def Hub.staTx (h : Hub) (p : Nat) : List StaTx := SMap.get (fun _ => []) h.sta.tx p
def Hub.setStaTx (h : Hub) (p : Nat) (l : List StaTx) : Hub :=
  { h with sta := { h.sta with tx := SMap.set (fun _ => []) h.sta.tx p l } }

/-- Queue a frame at a link. -/
def Hub.staQueue (h : Hub) (p : Nat) (t : StaTx) : Hub := h.setStaTx p (h.staTx p ++ [t])

/-- Octets in a link's HSR transit queue (R349). -/
def Hub.transitHeld (h : Hub) (p : Nat) : Nat :=
  (((h.staTx p).filter (fun t => t.tag == 3 && t.rank == 2)).map (fun t => t.frame.length)).foldl (· + ·) 0

/-- The next number of the sequence counter (R351). -/
def Hub.takeRedSeq (h : Hub) : Nat × Hub := (h.sta.seq, { h with sta := { h.sta with seq := (h.sta.seq + 1) % 65536 } })

/-- A packet that will not leave completes its ECHO with class X and value 0 (R357). -/
def Hub.echoLost (h : Hub) (e : Option (Nat × Nat)) : Hub :=
  match e with
  | some (q, idx) => h.echoStamp q idx 3
  | none => h

/-- A copy with the same ECHO may still leave on a link (R357): it waits at the link, at its switch port, or in the switch. -/
def Hub.echoWaits (h : Hub) (p : Nat) (e : Nat × Nat) : Bool :=
  let port := if h.red = redNone then p else 0
  (h.staTx p).any (fun t => t.echo == some e) || (h.inbox (inboxStation port)).any (fun d => d.echo == some e)
    || h.stored.any (fun f => f.pkt.echo == some e && f.at (14 + port))

/-- A copy that will not leave (R357): the ECHO takes the stamp of the copy that has left on STA-B, waits for the copy that may still leave, or is lost. -/
def Hub.copyLost (h : Hub) (p : Nat) (e : Option (Nat × Nat)) : Hub :=
  match e with
  | none => h
  | some x =>
    match h.sta.echoes.find? (fun r => r.1 == x) with
    | some r => ({ h with sta := { h.sta with echoes := h.sta.echoes.erase r } }).echoStamp x.1 x.2 r.2
    | none => if h.echoWaits (1 - p) x then h else h.echoLost e

/-- A copy with ECHO has left a link (R357): the stamp is that of STA-A, or of STA-B if STA-A does not send it. -/
def Hub.copyLeft (h : Hub) (p stamp : Nat) (x : Nat × Nat) : Hub :=
  if p = 1 ∧ h.echoWaits 0 x = true then { h with sta := { h.sta with echoes := (x, stamp) :: h.sta.echoes } }
  else
    let h := h.setStaTx (1 - p) ((h.staTx (1 - p)).map (fun t => if t.echo = some x then { t with echo := none } else t))
    ({ h with sta := { h.sta with echoes := h.sta.echoes.filter (fun r => r.1 != x) } }).echoStamp x.1 x.2 stamp

/-- The packets of a list of descriptors whose data has gone and whose ECHO is open, each by the first of its descriptors that asks for it. -/
def openEchoes : Option Nat → List QDesc → List Nat
  | _, [] => []
  | first, d :: ds =>
    let first := if d.flags.testBit 0 then none else first
    let first := if d.flags.testBit 5 then some (first.getD d.idx) else first
    let l := openEchoes first ds
    match first, d.done with
    | some i, some (0, _) => if d.flags.testBit 5 && d.echo.isNone then i :: l else l
    | _, _ => l

/-- At the end of a cycle, a packet with ECHO of which no copy can leave any more completes (R357): with the stamp of STA-B when that copy left, otherwise
with class X and value 0. -/
def Hub.settleEchoes (h : Hub) : Hub :=
  h.host.queues.foldl (fun h p =>
    if h.isBulk p.1 then h
    else (openEchoes none p.2.descs).foldl (fun h i =>
      if h.echoWaits 0 (p.1, i) || h.echoWaits 1 (p.1, i) then h else h.copyLost 0 (some (p.1, i))) h) h

/-- Send a frame of the hub on the links of the redundancy entity, or on one link; frames of the PTP unit carry no RCT and go per link. -/
def Hub.staSendBoth (h : Hub) (t : StaTx) : Hub :=
  if h.red = redNone then h
  else
    let (n, h) := h.takeRedSeq
    let t := { t with tag := h.red, seq := n }
    let h := h.when (h.staUp 0) (fun h => h.staQueue 0 t)
    h.when (h.staUp 1) (fun h => h.staQueue 1 t)

/-- The packet at the head of switch port 14 or 15 (R348, R350, R357). -/
def Hub.staPacket (h : Hub) (b : Bool) : Hub :=
  let p := staIx b
  match h.inbox (inboxStation p) with
  | [] => h
  | d :: ds =>
    let h := h.setInbox (inboxStation p) ds
    let n := d.data.length
    let t : StaTx := { rank := if d.cls = 0 then 2 else 3, frame := padFrame d.data, ins := d.insOff, echo := d.echo }
    if n < 14 ∨ 1518 < n then (h.count (Obj.staPortTxDiscards p)).echoLost d.echo
    else if h.red = redNone then
      if h.staUp p then h.staQueue p t else (h.count (Obj.staPortTxDiscards p)).echoLost d.echo
    else if b then h
    else
      let h := h.when (!h.staUp 0) (fun h => h.count (Obj.staPortTxDiscards 0))
      let h := h.when (!h.staUp 1) (fun h => h.count (Obj.staPortTxDiscards 1))
      let h := h.when (!h.staUp 0 && !h.staUp 1) (fun h => h.echoLost d.echo)
      h.staSendBoth t

/-- The frame a transmitter sends next: the first of the lowest rank (R349). -/
def nextTx (l : List StaTx) : Option StaTx :=
  let r := (l.map (·.rank)).foldl min 9
  l.find? (fun t => t.rank == r)

/-- Drop what waits at a link whose port stops or loses its link; the frames count in tx-discards. -/
def Hub.staFlush (h : Hub) (p : Nat) : Hub :=
  let l := h.staTx p
  let h := (h.setStaTx p []).countN (Obj.staPortTxDiscards p) l.length
  l.foldl (fun h t => h.copyLost p t.echo) h

/-! ### Supervision and duplicates (R351, R352) -/

/-- The supervision address (R351). -/
def Hub.supAddr (h : Hub) : List Byte := [0x01, 0x15, 0x4E, 0x00, 0x01, BitVec.ofNat 8 (h.num Obj.supervisionAddress)]

/-- A supervision frame (IEC 62439-3, through R351): TLV 20 for PRP, 23 for HSR, with the hub's address. -/
def Hub.supFrame (h : Hub) : List Byte :=
  let mac := h.oct (Obj.macAddress 0)
  padFrame (h.supAddr ++ mac ++ beBytes 2 0x88FB ++ beBytes 2 1 ++ beBytes 2 h.sta.supSeq
    ++ [if h.red = redPrp then 20 else 23, 6] ++ mac ++ [0, 0])

/-- life-check-interval has passed (R351). -/
def Hub.supSend (h : Hub) : Hub :=
  if h.red = redNone then h
  else
    let f := h.supFrame
    ({ h with sta := { h.sta with supSeq := (h.sta.supSeq + 1) % 65536 } }).staSendBoth { rank := 1, frame := f }

/-- A supervision frame enters its node in the node table (R351). -/
def Hub.supReceive (h : Hub) (f : List Byte) : Hub :=
  let mac := beAt f (ethOff f + 8) 6
  if h.sta.nodes.contains mac then h
  else if 256 ≤ h.sta.nodes.length then h.count Obj.nodeTableOverflows
  else
    let h := { h with sta := { h.sta with nodes := h.sta.nodes ++ [mac] } }
    h.setNum Obj.nodeCount h.sta.nodes.length

/-- A node has not been heard for node-forget-time. -/
def Hub.nodeAgeOut (h : Hub) (mac : Nat) : Hub :=
  let h := { h with sta := { h.sta with nodes := h.sta.nodes.filter (· != mac) } }
  h.setNum Obj.nodeCount h.sta.nodes.length

/-- The duplicate check of a pair (R352): whether the copy is delivered. -/
def Hub.dupCheck (h : Hub) (src seq : Nat) : Bool × Hub :=
  if h.num Obj.duplicateMode = 1 then (true, h)
  else if h.sta.dups.contains (src, seq) then (false, h.count Obj.duplicatesDiscarded)
  else
    let full := decide (2048 ≤ h.sta.dups.length)
    let ds := if full then h.sta.dups.tail else h.sta.dups
    let h := h.when full (fun h => h.count Obj.ddTableOverflows)
    (true, { h with sta := { h.sta with dups := ds ++ [(src, seq)] } })

/-! ### Classification (R344 to R347) -/

/-- Rule `i` of rx-rules. -/
def Hub.rule (h : Hub) (i : Nat) : List Byte := slice (h.oct Obj.rxRules) (16 * i) 16

/-- Whether a frame matches a VALID rule (R346). -/
def ruleMatches (r f : List Byte) : Bool :=
  let m := byteAt r 14
  m.testBit 7
    && !(m.testBit 4 && ethTagged f)
    && !(m.testBit 3 && !(ethTagged f && beAt f 14 2 % 4096 == leAt r 10 2 % 4096))
    && !(m.testBit 2 && beAt f (ethOff f + 2) 2 != leAt r 8 2)
    && !(m.testBit 1 && ethType f != leAt r 6 2)
    && !(m.testBit 0 && ethDst f != r.take 6)

/-- Whether a port accepts a destination (R344). -/
def Hub.staAccepts (h : Hub) (p : Nat) (f : List Byte) : Bool :=
  let d := beNat (ethDst f)
  h.flag (Obj.promiscuous p) || ethDst f == h.staMac p || d == 0xFFFFFFFFFFFF
    || (h.isOn fidPtp && (d == 0x011B19000000 || d == 0x0180C200000E))
    || (h.red != redNone && ethDst f == h.supAddr)
    || (List.range 32).any (fun i => (byteAt (h.rule i) 14).testBit 7 && (byteAt (h.rule i) 14).testBit 0 && ethDst f == (h.rule i).take 6)

/-- Whether a frame is unicast to the hub. -/
def Hub.staOwn (h : Hub) (p : Nat) (f : List Byte) : Bool := ethDst f == h.staMac p

/-- An accepted frame that is neither PTP nor supervision enters the switch (R345, R347); `flags` RCT_REMOVED or HSR_TAG_REMOVED. -/
def Hub.staRoute (h : Hub) (p l flags : Nat) (f : List Byte) : Hub :=
  let route : Nat := match (List.range 32).find? (fun i => ruleMatches (h.rule i) f) with
    | some i => leAt (h.rule i) 12 2 % 4096
    | none => h.num Obj.defaultRoute
  if route = 0xFFFF then h.count Obj.noRuleDrops
  else
    let st := h.staStamp l (h.rxTime p l)
    let n := SMap.get (fun _ => 0) h.sta.recSeq p
    let hdr := [0x40, BitVec.ofNat 8 (0xE0 + p)] ++ leBytes 2 (b2n (ethTagged f) + flags + 8 * b2n (ethType f == 0x88F7))
      ++ leBytes 2 f.length ++ leBytes 2 n ++ leBytes 8 st
    let h := { h with sta := { h.sta with recSeq := SMap.set (fun _ => 0) h.sta.recSeq p ((n + 1) % 65536) } }
    h.swArrive (if h.red = redNone then 14 + p else 14) { data := hdr ++ f, route := route, stamp := some st }

/-! ### Links (R343, R354) -/

/-- A link is not heard for lan-silent-time while the other one is (R354). -/
def Hub.lanSilent (h : Hub) (p : Nat) : Hub :=
  if h.red = redNone ∨ SMap.get (fun _ => false) h.sta.silent p = true then h
  else ({ h with sta := { h.sta with silent := SMap.set (fun _ => false) h.sta.silent p true } }).notice N.staLanSilent (fidStation p) [p, 1]

/-- A frame is heard on a link (R354). -/
def Hub.lanHeard (h : Hub) (p : Nat) : Hub :=
  if SMap.get (fun _ => false) h.sta.silent p then
    ({ h with sta := { h.sta with silent := SMap.set (fun _ => false) h.sta.silent p false } }).notice N.staLanSilent (fidStation p) [p, 0]
  else h

/-- The check of port-enable as the port starts (R350): 0 or CONFLICT (7). -/
def Hub.staStartCheck (h : Hub) : Nat :=
  if h.red = redHsr ∧ h.num (Obj.portRate 0) ≠ h.num (Obj.portRate 1) then 7 else 0

/-- The conditions R347 and R350 put on a table: 0, RANGE (6) or CONFLICT (7). -/
def Hub.staTableCheck (h : Hub) (m : SMap Nat) : Nat :=
  let ent := fun r => SMap.get (fun _ => 0) m r
  let short := fun r => rtValid (ent r) && decide (rtMaxFrame (ent r) < 1534)
  if h.red ≠ redNone ∧ m.any (fun p => rtValid p.2 && (rtTargets p.2).testBit 15) = true then 7
  else if (h.num Obj.defaultRoute != 0xFFFF && short (h.num Obj.defaultRoute))
      || (List.range 32).any (fun i => (byteAt (h.rule i) 14).testBit 7 && short (leAt (h.rule i) 12 2 % 4096)) then 6
  else 0

/-! ### The commands -/

/-- STA_TX_PACKET (R348). -/
def execStaTxPacket (b : Bool) (s : State) : Host.Outcome State Fault Refusal := s.answer (fun h => h.staPacket b)
/-- PRP_SUPERVISION_SEND (R351). -/
def execPrpSupervisionSend (s : State) : Host.Outcome State Fault Refusal := s.answer Hub.supSend
/-- NODE_TABLE_AGE_OUT (R351). -/
def execNodeTableAgeOut (mac : BitVec 48) (s : State) : Host.Outcome State Fault Refusal := s.answer (fun h => h.nodeAgeOut mac.toNat)
/-- DUPLICATE_ENTRY_FORGET (R352). -/
def execDuplicateEntryForget (src : BitVec 48) (seq : BitVec 16) (s : State) : Host.Outcome State Fault Refusal :=
  s.answer (fun h => { h with sta := { h.sta with
    dups := h.sta.dups.filter (· != (src.toNat, seq.toNat)), fwd := h.sta.fwd.filter (· != (src.toNat, seq.toNat)) } })
/-- LAN_SILENT_TIMEOUT (R354). -/
def execLanSilentTimeout (b : Bool) (s : State) : Host.Outcome State Fault Refusal := s.answer (fun h => h.lanSilent (staIx b))

end Sys2Proof.Machine
end

