-- ==== Sys2Proof/Machine/Ptp.lean ====
section
/-!
DEFINITION. The PTP unit (R358 to R362), and the receive and departure paths of the station ports that serve it (R344, R345, R349, R352, R353,
R356, R357). Message layouts, the data set comparison and the state decisions are those of IEEE 1588-2019, which R358 and R359 name (PRESUMED: a
log entry says which).
-/
namespace Sys2Proof.Machine

def Hub.ptpPort (h : Hub) (p : Nat) : PtpPort := SMap.get (fun _ => {}) h.ptp p
def Hub.setPtpPort (h : Hub) (p : Nat) (x : PtpPort) : Hub := { h with ptp := SMap.set (fun _ => {}) h.ptp p x }

/-! portState codes (R382). -/
def psDisabled : Nat := 3
def psListening : Nat := 4
def psPreMaster : Nat := 5
def psMaster : Nat := 6
def psPassive : Nat := 7
def psUncalibrated : Nat := 8
def psSlave : Nat := 9

def Hub.ptpState (h : Hub) (p : Nat) : Nat := h.num (Obj.portStateA + p)

/-- ptp-mode TC. -/
def Hub.ptpTc (h : Hub) : Bool := h.num Obj.ptpMode == 1
/-- domain-number and ptp-vlan, "per profile" until written (R358, R381). -/
def Hub.ptpDomain (h : Hub) : Nat :=
  if h.num Obj.domainNumber = 0x10000 then (if h.num Obj.ptpProfile = 0 then 0 else 254) else h.num Obj.domainNumber
def Hub.ptpTag (h : Hub) : Nat :=
  if h.num Obj.ptpVlan = 0x10000 then (if h.num Obj.ptpProfile = 0 then 0xFFFF else 0x8000) else h.num Obj.ptpVlan

/-- Whether the PTP unit serves a port (R345). -/
def Hub.ptpServes (h : Hub) (p : Nat) : Bool := h.isOn fidPtp && (h.num Obj.ptpPortMask).testBit p

/-- clockIdentity: the EUI-64 of STA-A's address. -/
def Hub.clockId (h : Hub) : List Byte := (h.oct (Obj.macAddress 0)).take 3 ++ [0xFF, 0xFE] ++ (h.oct (Obj.macAddress 0)).drop 3
/-- portIdentity of a PTP port. -/
def Hub.portId (h : Hub) (p : Nat) : List Byte := h.clockId ++ beBytes 2 (p + 1)

/-! ### Messages -/

def ptSync : Nat := 0
def ptPdelayReq : Nat := 2
def ptPdelayResp : Nat := 3
def ptFollowUp : Nat := 8
def ptPdelayRespFu : Nat := 10
def ptAnnounce : Nat := 11

/-- A message: header and body. -/
def Hub.ptpMsg (h : Hub) (p type seq flags : Nat) (body : List Byte) : List Byte :=
  [BitVec.ofNat 8 type, 0x12] ++ beBytes 2 (34 + body.length) ++ [BitVec.ofNat 8 h.ptpDomain, 0] ++ beBytes 2 flags ++ beBytes 8 0
    ++ beBytes 4 0 ++ h.portId p ++ beBytes 2 seq
    ++ [if type = ptSync then 0 else if type = ptFollowUp then 2 else 5, if type = ptPdelayResp then 0x7F else 0] ++ body

/-- Send a message of the unit from a port, at rank 1 (R349). -/
def Hub.ptpSend (h : Hub) (p : Nat) (msg : List Byte) (peer : Bool) (kind : Nat) (ref : Int) : Hub :=
  let tag := if h.ptpTag = 0xFFFF then [] else beBytes 2 0x8100 ++ beBytes 2 h.ptpTag
  let f := beBytes 6 (if peer then 0x0180C200000E else 0x011B19000000) ++ h.staMac p ++ tag ++ beBytes 2 0x88F7 ++ msg
  h.staQueue p { rank := 1, frame := padFrame f, ptp := kind, ref := ref }

/-- Offset of the PTP header in a frame that may carry an HSR tag. -/
def ptpOff (f : List Byte) : Nat := if ethType f = 0x892F then ethOff f + 8 else ethOff f + 2
/-- Whether a frame is a PTP message. -/
def isPtp (f : List Byte) : Bool := ethType f == 0x88F7 || (ethType f == 0x892F && beAt f (ethOff f + 6) 2 == 0x88F7)

def msgCorr (m : List Byte) : Int := toSigned 64 (beAt m 8 8)
def msgTwoStep (m : List Byte) : Bool := (byteAt m 6).testBit 1
def msgSrc (m : List Byte) : Nat := beAt m 20 10
def msgSeq (m : List Byte) : Nat := beAt m 30 2
/-- A Timestamp of a message, in ns × 2^16. -/
def msgTime (m : List Byte) (o : Nat) : Int := ((beAt m o 6 * 1000000000 + beAt m (o + 6) 4) * 65536 : Nat)

/-! ### Best master (R359, R361) -/

/-- Lexicographic order of lists of equal length. -/
def lexLt : List Nat → List Nat → Bool
  | a :: as, b :: bs => decide (a < b) || (a == b && lexLt as bs)
  | _, _ => false

/-- Whether data set `a` is better than `b`. -/
def Foreign.better (a b : Foreign) : Bool :=
  if a.gm = b.gm then lexLt [a.steps, a.id] [b.steps, b.id]
  else lexLt [a.prio1, a.cls, a.acc, a.var, a.prio2, a.gm] [b.prio1, b.cls, b.acc, b.var, b.prio2, b.gm]

/-- The best of a list. -/
def bestOf : List (Nat × Foreign) → Option (Nat × Foreign)
  | [] => none
  | x :: xs =>
    match bestOf xs with
    | none => some x
    | some y => if y.2.better x.2 then some y else some x

/-- Slave-only: set, or a transparent clock's own clock (R359, R362). -/
def Hub.slaveOnly (h : Hub) : Bool := h.flag Obj.ptpSlaveOnly || h.ptpTc

/-- clockClass and timeSource the hub announces (R361); under LOCK_PTP, which R361 does not list, clock-class and timeSource PTP. -/
def Hub.ownClass (h : Hub) : Nat × Nat :=
  let s := h.num Obj.syncState
  let (c, t) : Nat × Nat := if s = syncNever then (248, 0xA0) else if s = syncHoldover ∨ s = syncHoldoverSleep then (187, 0xA0)
    else (h.num Obj.clockClass, if s = 3 then 0x20 else if s = 2 then 0x90 else 0x40)
  (if h.slaveOnly then 255 else c, t)

/-- clockAccuracy (R361). -/
def Hub.ownAccuracy (h : Hub) : Nat :=
  match h.uncertaintyU with
  | none => 0xFE
  | some u => if u ≤ 25 then 0x20 else if u ≤ 100 then 0x21 else if u ≤ 250 then 0x22 else if u ≤ 1000 then 0x23 else if u ≤ 2500 then 0x24
      else if u ≤ 10000 then 0x25 else 0xFE

/-- The hub's own data set. -/
def Hub.ownSet (h : Hub) : Foreign := {
  id := beNat (h.clockId ++ [0, 0]), prio1 := h.num Obj.priority1, cls := h.ownClass.1, acc := h.ownAccuracy, var := 0xFFFF,
  prio2 := h.num Obj.priority2, gm := beNat h.clockId, steps := 0, source := h.ownClass.2, utc := ofSigned 16 h.utcOffsetInUse,
  inacc := h.uncertaintyU.getD 0xFFFFFFFF, tlvId := h.num Obj.grandmasterId }

/-- Whether a PTP port takes part. -/
def Hub.ptpLive (h : Hub) (p : Nat) : Bool := h.ptpServes p && h.staUp p

/-- The qualified foreign masters of a port: two Announce messages heard. -/
def Hub.qualified (h : Hub) (p : Nat) : List (Nat × Foreign) :=
  if h.ptpLive p then (((h.ptpPort p).foreign).filter (fun f => decide (2 ≤ f.n))).map (fun f => (p, f)) else []

/-- The best foreign master of all ports. -/
def Hub.ptpBest (h : Hub) : Option (Nat × Foreign) := bestOf (h.qualified 0 ++ h.qualified 1)

/-- The parent: the best master, while a port follows it. -/
def Hub.ptpParent (h : Hub) : Option Foreign :=
  match h.ptpBest with
  | some (p, f) => if h.ptpState p = psSlave ∨ h.ptpState p = psUncalibrated then some f else none
  | none => none

/-- Change a port's state (R386). In PRE_MASTER it waits one Announce interval more than the steps to the grandmaster. -/
def Hub.setPortState (h : Hub) (p s : Nat) : Hub :=
  let old := h.ptpState p
  if old = s then h
  else
    let h := h.setPtpPort p { h.ptpPort p with syncWait := none, qualify := h.num Obj.stepsRemoved + 1 }
    (h.setNum (Obj.portStateA + p) s).notice N.ptpStateChanged fidPtp [p, old, s]

/-- The objects that follow the parent (R382); a new grandmaster is reported (R386). -/
def Hub.setParent (h : Hub) (f : Foreign) (own : Bool) : Hub :=
  let old := h.oct Obj.grandmasterIdentity
  let gm := beBytes 8 f.gm
  let h := ((h.setOct Obj.parentPortIdentity (beBytes 10 f.id)).setOct Obj.grandmasterIdentity gm).setNum Obj.gmClockClass f.cls
  let h := (h.setNum Obj.stepsRemoved (if own then 0 else f.steps + 1)).setNum Obj.totalTimeInaccuracy (if own then 0xFFFFFFFF else f.inacc)
  if old = gm then h else h.notice N.ptpGmChanged fidPtp (arg64 f.gm ++ [f.cls])

/-- The state decision of one port; `timeout`: its announce timeout has expired (R358, R359). A port of a clock that follows a master on its other port
becomes MASTER through PRE_MASTER. -/
def Hub.decidePort (h : Hub) (p : Nat) (timeout : Bool) : Nat :=
  let own := h.ownSet
  let mine := (bestOf (h.qualified p)).map (·.2)
  let st := h.ptpState p
  let idle := if st = psListening ∧ timeout = false then psListening else psMaster
  let follow := if st = psSlave then psSlave else psUncalibrated
  if !h.ptpLive p then psDisabled
  else
    match h.ptpBest with
    | none => if h.slaveOnly then psListening else idle
    | some (q, best) =>
      if h.slaveOnly then (if q = p then follow else if mine.isSome then psPassive else psListening)
      else if own.cls ≤ 127 then
        match mine with
        | none => idle
        | some m => if own.better m then psMaster else psPassive
      else if own.better best then psMaster
      else if q = p then follow
      else
        let pre := if st = psMaster then psMaster else psPreMaster
        match mine with
        | none => if st = psListening then idle else pre
        | some m => if m.gm = best.gm then psPassive else pre

/-- Decide the states of both ports, and bring the parent's objects up to date. -/
def Hub.ptpDecide (h : Hub) (timeout : Option Nat) : Hub :=
  let s0 := h.decidePort 0 (timeout == some 0)
  let s1 := h.decidePort 1 (timeout == some 1)
  let h := (h.setPortState 0 s0).setPortState 1 s1
  if !h.isOn fidPtp then h
  else match h.ptpParent with
    | some f => h.setParent f false
    | none => if s0 = psMaster ∨ s1 = psMaster then h.setParent h.ownSet true else h

/-! ### Receiving (R360, R362) -/

/-- A measured offset of a port in SLAVE (R359, R382), in ns × 2^16; while PTP is the selected source, ST follows it (R44). -/
def Hub.ptpMeasured (h : Hub) (p : Nat) (off : Int) : Hub :=
  let h := h.setNum Obj.offsetFromMaster (ofSigned 64 (off / 65536))
  let h := if h.num Obj.timeSource = 1 ∧ h.ptpState p = psSlave then h.measureOffset (-off / 65536) else h
  if h.ptpState p = psUncalibrated then h.setPortState p psSlave else h

/-- A measured link delay (R382). -/
def Hub.ptpDelay (h : Hub) (p : Nat) (d : Int) : Hub :=
  (h.setPtpPort p { h.ptpPort p with delay := d, pdWait := false, pdResp := none }).setNum (Obj.linkDelayA + p) (d * 1000 / 65536).toNat

/-- Forward a message of the transparent clock to the other link (R353, R362). -/
def Hub.tcForward (h : Hub) (p : Nat) (f : List Byte) (kind : Nat) (ref : Int) : Hub :=
  h.when (h.ptpTc && h.staUp (1 - p)) (fun h => h.staQueue (1 - p) { rank := 1, frame := f, tag := 3, ptp := kind, ref := ref })

/-- What an Announce says. -/
def announceSet (m : List Byte) : Foreign := {
  id := msgSrc m, prio1 := byteAt m 47, cls := byteAt m 48, acc := byteAt m 49, var := beAt m 50 2, prio2 := byteAt m 52,
  gm := beAt m 53 8, steps := beAt m 61 2, source := byteAt m 63, utc := beAt m 44 2, utcValid := (byteAt m 7).testBit 2,
  inacc := if beAt m 64 2 = 3 ∧ beAt m 68 3 = 0x1C129D then beAt m 80 4 else 0xFFFFFFFF, tlvId := beAt m 74 2 }

/-- The utc-offset in use follows the parent's Announce while PTP is the selected source and the Announce says that it is valid (R41). -/
def Hub.parentUtc (h : Hub) : Hub :=
  match h.ptpParent with
  | some f => if h.num Obj.timeSource = 1 ∧ f.utcValid = true then h.takeUtc (some (toSigned 16 f.utc)) else h
  | none => h

/-- An Announce is heard (R358, R359). -/
def Hub.ptpAnnounce (h : Hub) (p : Nat) (m : List Byte) : Hub :=
  let f := announceSet m
  if f.id / 65536 = beNat h.clockId ∨ 255 ≤ f.steps then h
  else
    let x := h.ptpPort p
    let n := match x.foreign.find? (fun g => g.id == f.id) with | some g => g.n + 1 | none => 1
    let fs := { f with n := n } :: x.foreign.filter (fun g => g.id != f.id)
    ((h.setPtpPort p { x with foreign := fs.take 5 }).ptpDecide none).parentUtc

/-- A PTP message reaches the unit (R345, R353, R358 to R362): port, its start in fifths of a tick, the frame. The transparent clock forwards every message
but those of peer delay, which concern one link; it corrects Syncs of any domain. -/
def Hub.ptpMessage (h : Hub) (p l : Nat) (f : List Byte) : Hub :=
  let m := f.drop (ptpOff f)
  let t := scaledNs (h.rxTime p l)
  let type := byteAt m 0 % 16
  let x := h.ptpPort p
  let slave := (h.ptpState p == psSlave || h.ptpState p == psUncalibrated) && h.ptpParent.map (·.id) == some (msgSrc m)
  if byteAt m 4 ≠ h.ptpDomain then
    (if type = ptSync then h.tcForward p f 4 (t - x.delay) else if type = ptFollowUp then h.tcForward p f 5 0
     else if type = ptPdelayReq ∨ type = ptPdelayResp ∨ type = ptPdelayRespFu then h else h.tcForward p f 0 0)
  else if type = ptSync then
    let h := h.tcForward p f 4 (t - x.delay)
    if !slave then h
    else
      let h := h.count Obj.syncRx
      let at_ := t - msgCorr m - x.delay
      if msgTwoStep m then h.setPtpPort p { h.ptpPort p with syncWait := some (msgSrc m, msgSeq m, at_) }
      else h.ptpMeasured p (at_ - msgTime m 34)
  else if type = ptFollowUp then
    let h := h.tcForward p f 5 0
    match x.syncWait with
    | some (src, seq, at_) =>
      if slave && src == msgSrc m && seq == msgSeq m then
        (h.setPtpPort p { h.ptpPort p with syncWait := none }).ptpMeasured p (at_ - msgCorr m - msgTime m 34)
      else h
    | none => h
  else if type = ptPdelayReq then
    h.ptpSend p (h.ptpMsg p ptPdelayResp (msgSeq m) 0 (beBytes 10 0 ++ slice m 20 10)) true 2 (t - msgCorr m)
  else if type = ptPdelayResp then
    if !x.pdWait || msgSeq m != x.pdSeq || slice m 44 10 != h.portId p then h
    else if msgTwoStep m then h.setPtpPort p { x with pdResp := some (t - msgCorr m, msgTime m 34) }
    else h.ptpDelay p ((t - x.t1 - msgCorr m) / 2)
  else if type = ptPdelayRespFu then
    match x.pdResp with
    | some (t4, t2) =>
      if x.pdWait && msgSeq m == x.pdSeq && slice m 44 10 == h.portId p then
        h.ptpDelay p ((t4 - x.t1 - (msgTime m 34 - t2) - msgCorr m) / 2)
      else h
    | none => h
  else if type = ptAnnounce then (h.tcForward p f 0 0).ptpAnnounce p m
  else h.tcForward p f 0 0

/-! ### Sending (R358, R360, R361) -/

/-- The Announce of a port. -/
def Hub.announceMsg (h : Hub) (p : Nat) : List Byte :=
  let own := h.ownSet
  let s : Foreign := match h.ptpParent with
    | some f => { f with steps := f.steps + 1, inacc := min 0xFFFFFFFF (f.inacc + h.num Obj.bcInaccuracy) }
    | none => own
  let tlv := if h.num Obj.ptpProfile = 0 then [] else
    beBytes 2 3 ++ beBytes 2 18 ++ beBytes 3 0x1C129D ++ beBytes 3 2 ++ beBytes 2 s.tlvId ++ beBytes 4 0 ++ beBytes 4 s.inacc ++ beBytes 2 0
  h.ptpMsg p ptAnnounce (h.ptpPort p).annSeq (8 + 4 * b2n (h.flag Obj.utcOffsetKnown))
    (beBytes 10 0 ++ beBytes 2 s.utc ++ [0, BitVec.ofNat 8 s.prio1, BitVec.ofNat 8 s.cls, BitVec.ofNat 8 s.acc] ++ beBytes 2 s.var
      ++ [BitVec.ofNat 8 s.prio2] ++ beBytes 8 s.gm ++ beBytes 2 s.steps ++ [BitVec.ofNat 8 s.source] ++ tlv)

/-- A message interval elapses (R358). -/
def Hub.ptpInterval (h : Hub) (p : Nat) (k : PtpKind) : Hub :=
  let x := h.ptpPort p
  if !h.ptpLive p then h
  else match k with
    | .sync =>
      if h.ptpState p = psMaster then
        (h.setPtpPort p { x with syncSeq := (x.syncSeq + 1) % 65536 }).ptpSend p (h.ptpMsg p ptSync x.syncSeq 0 (beBytes 10 0)) false 1 0
      else h
    | .announce =>
      if h.ptpState p = psMaster then
        (h.setPtpPort p { x with annSeq := (x.annSeq + 1) % 65536 }).ptpSend p (h.announceMsg p) false 0 0
      else if h.ptpState p = psPreMaster then
        if x.qualify ≤ 1 then h.setPortState p psMaster else h.setPtpPort p { x with qualify := x.qualify - 1 }
      else h
    | .pdelayReq =>
      let h := h.when x.pdWait (fun h => h.count Obj.pdelayFailures)
      let n := (x.pdSeq + 1) % 65536
      (h.setPtpPort p { x with pdSeq := n, pdWait := false, pdResp := none }).ptpSend p
        (h.ptpMsg p ptPdelayReq n 0 (beBytes 20 0)) true 3 0

/-- announceReceiptTimeout expires on a port (R358). -/
def Hub.ptpTimeout (h : Hub) (p : Nat) : Hub :=
  if !h.ptpLive p then h
  else
    let h := h.count Obj.announceTimeouts
    (h.setPtpPort p { h.ptpPort p with foreign := [] }).ptpDecide (some p)

/-! ### Frames at the ports -/

/-- Forward a frame in HSR (R353): unless it is unicast to the hub, or its pair has been forwarded; a full transit queue drops it (R349). -/
def Hub.hsrForward (h : Hub) (p : Nat) (f : List Byte) (seq : Option Nat) : Hub :=
  let pair := (ethSrc f, seq.getD 0)
  let q := 1 - p
  if h.staOwn p f || (seq.isSome && h.sta.fwd.contains pair) || !h.staUp q then h
  else
    if 32768 < h.transitHeld q + f.length then h.count (Obj.hsrForwardDrops q)
    else
      let h : Hub := if seq.isSome then
          { h with sta := { h.sta with fwd := (if 2048 ≤ h.sta.fwd.length then h.sta.fwd.tail else h.sta.fwd) ++ [pair] } }
        else h
      (h.staQueue q { rank := 2, frame := f, tag := 3 }).count Obj.hsrForwarded

/-- A frame that passed the checks of R344 (R345, R352, R353). -/
def Hub.staClassify (h : Hub) (p l : Nat) (f : List Byte) : Hub :=
  if isPtp f && h.ptpServes p then h.ptpMessage p l f
  else if h.red = redPrp then
    match rctOf f with
    | some (seq, lan) =>
      let g := f.take (f.length - 6)
      let h := h.when (lan != 0xA + p) (fun h => h.count (Obj.wrongLan p))
      if ethType g = 0x88FB then h.supReceive g
      else
        let (ok, h) := h.dupCheck (ethSrc g) seq
        if ok then h.staRoute p l 2 g else h
    | none => if ethType f = 0x88FB then h.supReceive f else h.staRoute p l 0 f
  else if h.red = redHsr then
    match hsrOf f with
    | some (seq, g) =>
      if ethType g = 0x88FB then h.supReceive g
      else
        let (ok, h) := h.dupCheck (ethSrc g) seq
        if ok then h.staRoute p l 4 g else h
    | none => if ethType f = 0x88FB then h.supReceive f else h.staRoute p l 0 f
  else h.staRoute p l 0 f

/-- A frame arrives at a station port (R344, R345, R353); `l` its start in fifths of a tick. -/
def Hub.staReceive (h : Hub) (b : Bool) (f : List Byte) (l : Nat) (fcsOk : Bool) : Hub :=
  let p := staIx b
  let n := f.length + 4
  if !h.staUp p then h
  else
    let h := (h.count (Obj.staPortFramesRx p)).lanHeard p
    if !fcsOk then h.count (Obj.fcsErrors p)
    else if n < 64 then h.count (Obj.runts p)
    else if (if h.red = redNone then 1522 else 1528) < n then h.count (Obj.oversizeDrops p)
    else if ethType f = 0x8808 ∧ beAt f (ethOff f + 2) 2 = 1 then h.count (Obj.pauseFrames p)
    else if h.red = redHsr then
      if ethSrc f = beNat (h.staMac p) then h.count Obj.hsrOwnRemoved
      else
        let h := h.when (!(isPtp f && h.ptpServes p)) (fun h => h.hsrForward p f ((hsrOf f).map (·.1)))
        if h.staAccepts p f then h.staClassify p l f else h
    else if !h.staAccepts p f then h.count (Obj.addrDrops p)
    else h.staClassify p l f

/-- What the Follow_Up of a forwarded two-step Sync gains (R362), and its entry taken out: by the port the Sync was received on. -/
def Hub.residenceOf (h : Hub) (p : Nat) (m : List Byte) : Int :=
  (((h.ptpPort p).residence.find? (fun r => r.1 == msgSrc m && r.2.1 == msgSeq m)).map (·.2.2)).getD 0
def Hub.residenceDone (h : Hub) (p : Nat) (m : List Byte) : Hub :=
  h.setPtpPort p { h.ptpPort p with residence := (h.ptpPort p).residence.filter (fun r => !(r.1 == msgSrc m && r.2.1 == msgSeq m)) }

/-- A frame departs, its start given in fifths of a tick (R349, R355 to R357, R360, R362). -/
def Hub.staDepart (h : Hub) (b : Bool) (l : Nat) : Hub :=
  let p := staIx b
  match nextTx ((h.staTx p).filter (fun t => t.tag == 3 || !h.flag Obj.hubFault)) with
  | none => h
  | some t =>
    if !(h.sends (fidStation p) && h.num (Obj.staPortLinkState p) == 1) then h
    else
      let h := h.setStaTx p ((h.staTx p).erase t)
      let dep := h.txTime p l
      let ns := dep / stPerNs
      let o := ptpOff t.frame
      let corr := toSigned 64 (beAt t.frame (o + 8) 8)
      let gain := scaledNs dep - t.ref
      let two := (byteAt t.frame (o + 6)).testBit 1
      let f := match t.ins with | some i => tsInsert t.frame i ns | none => t.frame
      let f := if t.ptp = 1 then overwrite (overwrite f (o + 34) (ptpStamp ns)) (o + 8) (beBytes 8 (dep % stPerNs * 65536 / stPerNs))
        else if t.ptp = 2 ∨ (t.ptp = 4 ∧ two = false) then overwrite f (o + 8) (beBytes 8 (ofSigned 64 (corr + gain)))
        else if t.ptp = 5 then overwrite f (o + 8) (beBytes 8 (ofSigned 64 (corr + h.residenceOf (1 - p) (f.drop o))))
        else f
      let h := h.when (t.ptp == 5) (fun h => h.residenceDone (1 - p) (f.drop o))
      let h := h.when (t.ptp == 1) (fun h => h.count Obj.syncTx)
      let h := h.when (t.ptp == 3) (fun h => h.setPtpPort p { h.ptpPort p with pdWait := true, t1 := scaledNs dep })
      let h := h.when (t.ptp == 4) (fun h =>
        let m := f.drop o
        let r := h.ptpPort (1 - p)
        let h := h.when two (fun h => h.setPtpPort (1 - p) { r with residence := ((msgSrc m, msgSeq m, gain) :: r.residence).take 8 })
        h.maxNum Obj.residenceMax ((gain - r.delay) / 65536).toNat)
      let f := if t.tag = 1 then withRct f t.seq p else if t.tag = 2 then withHsr f t.seq else f
      let h := (h.emit (.station b (f ++ fcsOf f))).count (Obj.staPortFramesTx p)
      match t.echo with
      | some x => h.copyLeft p (h.staStamp l dep) x
      | none => h

/-- A link comes up (R343, R359, R386). -/
def Hub.staLinkUp (h : Hub) (p : Nat) : Hub :=
  if !h.isOn (fidStation p) || h.num (Obj.staPortLinkState p) == 1 then h
  else
    let h := (h.setNum (Obj.staPortLinkState p) 1).notice N.staLinkUp (fidStation p) [p, h.num (Obj.portRate p)]
    if h.ptpLive p then h.setPortState p psListening else h

/-- A link goes down. -/
def Hub.staLinkDown (h : Hub) (p : Nat) (loss : Bool) : Hub :=
  if h.num (Obj.staPortLinkState p) = 0 then h
  else
    let h := h.when loss (fun h => h.count (Obj.linkLosses p))
    let h := ((h.setNum (Obj.staPortLinkState p) 0).notice N.staLinkDown (fidStation p) [p]).staFlush p
    h.when (h.isOn fidPtp) (fun h => (h.setPtpPort p { h.ptpPort p with foreign := [], pdWait := false, pdResp := none }).ptpDecide none)

/-! ### Life cycle of the PTP unit -/

/-- The checks of ptp-enable (R359): 0 or CONFLICT (7). -/
def Hub.ptpEnableCheck (h : Hub) : Nat := if h.ptpTc == (h.red == redHsr) then 0 else 7

/-- The PTP unit enters ON: its ports listen. -/
def Hub.ptpStart (h : Hub) : Hub :=
  let h := { h with ptp := [] }
  [0, 1].foldl (fun h p => if h.ptpLive p then h.setPortState p psListening else h) h

/-- The PTP unit leaves ON. -/
def Hub.ptpStop (h : Hub) : Hub := ({ h with ptp := [] }.setPortState 0 psDisabled).setPortState 1 psDisabled

/-- An instant of a PHY in units of 0.5 ns, five to a tick (R39). -/
def phyFifths (p : PhyStamp) : Nat := p.tick.toNat * 5 + p.frac.val

/-! ### The commands -/

/-- STA_FRAME_RX (R345). -/
def execStaFrameRx (b : Bool) (frame : List Byte) (start : PhyStamp) (fcsOk : Bool) (s : State) : Host.Outcome State Fault Refusal :=
  s.answer (fun h => h.staReceive b frame (phyFifths start) fcsOk)
/-- PTP_MESSAGE_RX (R358). -/
def execPtpMessageRx (b : Bool) (frame : List Byte) (start : PhyStamp) (s : State) : Host.Outcome State Fault Refusal :=
  s.answer (fun h => if isPtp frame then h.staReceive b frame (phyFifths start) true else h)
/-- PRP_SUPERVISION_RX (R351). -/
def execPrpSupervisionRx (b : Bool) (frame : List Byte) (start : PhyStamp) (s : State) : Host.Outcome State Fault Refusal :=
  s.answer (fun h => if isPtp frame || h.red == redNone then h else h.staReceive b frame (phyFifths start) true)
/-- STA_FRAME_DEPARTED (R357). -/
def execStaFrameDeparted (b : Bool) (start : PhyStamp) (s : State) : Host.Outcome State Fault Refusal :=
  s.answer (fun h => h.staDepart b (phyFifths start))
/-- STA_LINK_GAINED (R343). -/
def execStaLinkGained (b : Bool) (s : State) : Host.Outcome State Fault Refusal := s.answer (fun h => h.staLinkUp (staIx b))
/-- STA_LINK_LOSS (R343). -/
def execStaLinkLoss (b : Bool) (s : State) : Host.Outcome State Fault Refusal := s.answer (fun h => h.staLinkDown (staIx b) true)
/-- PTP_MESSAGE_INTERVAL (R358). -/
def execPtpMessageInterval (b : Bool) (kind : PtpKind) (s : State) : Host.Outcome State Fault Refusal :=
  s.answer (fun h => h.ptpInterval (staIx b) kind)
/-- PTP_ANNOUNCE_TIMEOUT (R358). -/
def execPtpAnnounceTimeout (b : Bool) (s : State) : Host.Outcome State Fault Refusal := s.answer (fun h => h.ptpTimeout (staIx b))

end Sys2Proof.Machine
end

