-- ==== Sys2Proof/Machine/Goose.lean ====
section
/-!
DEFINITION. The GOOSE engine (R364 to R378): signal slots, members and their encodings, published frames and their schedule, subscriptions.
-/
namespace Sys2Proof.Machine

/-! ### Encoding (R367, R369) -/

/-- Octets of an unsigned number, most significant first, without leading zeros. -/
def minOctets : Nat → Nat → List Byte
  | 0, _ => []
  | f + 1, n => if n = 0 then [] else minOctets f (n / 256) ++ [BitVec.ofNat 8 n]

/-- A value with its tag and length (R367): short form below 128, one length octet below 256, two otherwise. -/
def berTlv (tag : Nat) (d : List Byte) : List Byte :=
  [BitVec.ofNat 8 tag] ++ (if d.length < 128 then [BitVec.ofNat 8 d.length] else if d.length < 256 then [0x81, BitVec.ofNat 8 d.length]
    else 0x82 :: beBytes 2 d.length) ++ d

/-- An integer in its minimal BER length (R367). -/
def berInt (tag n : Nat) : List Byte :=
  let b := minOctets 9 n
  berTlv tag (if b.isEmpty then [0] else if 128 ≤ byteAt b 0 then 0 :: b else b)

/-- UtcTime of a STAMP64 (R369). -/
def Hub.utcTime (h : Hub) (st : Nat) : List Byte :=
  let cls := st % 4
  let q := 128 * b2n (h.flag Obj.utcOffsetKnown) + 64 * b2n (h.num Obj.syncState == syncNever) + 32 * b2n (cls == 3)
    + (if cls = 0 then 24 else if cls = 1 then 20
       else if cls = 2 then (match h.uncertaintyU with | some u => if u ≤ 20000 then 15 else 10 | none => 10) else 31)
  beBytes 4 (ofSigned 32 ((st / 2 ^ 32 : Nat) - h.utcOffsetInUse)) ++ beBytes 3 (st / 4 % 2 ^ 30 * 2 ^ 24 / 1000000000) ++ [BitVec.ofNat 8 q]

/-- QUALITY of a ledger entry's byte 15 (R369). -/
def qualityOf (flags : Nat) : List Byte := if flags.testBit 1 then [0x42, 0] else if flags.testBit 2 then [0xC4, 0] else [0, 0]

/-- The two quality octets of bits [12:0], bit 0 of the bit string first (R365). -/
def qualityBits (q : Nat) : List Byte := beBytes 2 (revBits 13 q * 8)

/-- Member entry `i` of a block. -/
def Hub.member (h : Hub) (g i : Nat) : List Byte := slice (h.oct (Obj.gocbMembers g)) (4 * i) 4

/-- The last entry of a channel at a slot. -/
def Hub.signal (h : Hub) (slot c : Nat) : Option (Nat × Nat) := SMap.get (fun _ => none) h.goose.sig (slot * 256 + c)
/-- A host value. -/
def Hub.hostVal (h : Hub) (v : Nat) : Option (Nat × Nat × Nat) := SMap.get (fun _ => none) h.goose.vals v

/-- A TIMESTAMP member (R369). -/
def Hub.stampMember (h : Hub) (st : Option Nat) : List Byte :=
  [0x91, 8] ++ (match st with | some s => h.utcTime s | none => List.replicate 7 0 ++ [0x3F])

/-- The encoding of a member (R368, R369). -/
def Hub.encodeMember (h : Hub) (m : List Byte) : List Byte :=
  let s := h.signal (byteAt m 1) (byteAt m 2)
  let v := h.hostVal (byteAt m 2)
  match byteAt m 0 with
  | 1 => [0x83, 1, match s with | some x => if x.2.testBit 7 then 1 else 0 | none => 0]
  | 2 => [0x84, 3, 3] ++ (match s with | some x => qualityOf x.2 | none => [0x41, 0])
  | 3 => h.stampMember (s.map (·.1))
  | 4 =>
    match s, h.signal (byteAt m 1) (byteAt m 3) with
    | some a, some b => [0x84, 2, 6, if a.2.testBit 7 then (if b.2.testBit 7 then 0xC0 else 0x80) else if b.2.testBit 7 then 0x40 else 0]
    | _, _ => [0x84, 2, 6, 0]
  | 5 => [0x83, 1, match v with | some x => if x.1 % 2 = 1 then 1 else 0 | none => 0]
  | 6 => [0x87, 5, 8] ++ beBytes 4 ((v.map (·.1)).getD 0)
  | 7 => [0x84, 3, 3] ++ (match v with | some x => qualityBits x.2.1 | none => [0x41, 0])
  | _ => h.stampMember (v.map (·.2.2))

/-- Members of a block. -/
def Hub.memberCount (h : Hub) (g : Nat) : Nat := (h.oct (Obj.gocbMembers g)).length / 4

/-- The members of a block as they would be encoded now; `named` tells those that a record updates, the others keep what they hold (R368). -/
def Hub.encodings (h : Hub) (g : Nat) (named : List Byte → Bool) : List (List Byte) :=
  let old := SMap.get (fun _ => []) h.goose.enc g
  (List.range (h.memberCount g)).map (fun i =>
    let m := h.member g i
    if named m then h.encodeMember m else old.getD i (h.encodeMember m))

/-- allData of a block. -/
def Hub.allData (h : Hub) (g : Nat) : List Byte := (h.encodings g (fun _ => true)).flatten

/-- Whether a member takes its value from a channel at a slot, or from a host value (R368). -/
def namesChannel (slot c : Nat) (m : List Byte) : Bool :=
  decide (byteAt m 0 ≤ 4) && byteAt m 1 == slot && (byteAt m 2 == c || (byteAt m 0 == 4 && byteAt m 3 == c))
def namesValue (v : Nat) (m : List Byte) : Bool := decide (5 ≤ byteAt m 0) && byteAt m 2 == v

/-- A published frame (R366, R367). -/
def Hub.gooseFrame (h : Hub) (g tal st sq t : Nat) (all : List Byte) : List Byte :=
  let sim := h.flag (Obj.gocbSimulation g)
  let body := berTlv 0x80 (h.oct (Obj.gocbRef g)) ++ berInt 0x81 tal ++ berTlv 0x82 (h.oct (Obj.gocbDataset g))
    ++ berTlv 0x83 (h.oct (Obj.gocbId g)) ++ [0x84, 8] ++ h.utcTime t ++ berInt 0x85 st ++ berInt 0x86 sq
    ++ [0x87, 1, BitVec.ofNat 8 (b2n sim)] ++ berInt 0x88 (h.num (Obj.gocbConfrev g)) ++ [0x89, 1, 0] ++ berInt 0x8A (h.memberCount g)
    ++ [0xAB, 0x82] ++ beBytes 2 all.length ++ all
  let apdu := [0x61, 0x82] ++ beBytes 2 body.length ++ body
  let vlan := h.num (Obj.gocbVlan g)
  h.oct (Obj.gocbDestMac g) ++ h.oct (Obj.macAddress 0) ++ (if vlan = 0xFFFF then [] else beBytes 2 0x8100 ++ beBytes 2 vlan)
    ++ beBytes 2 0x88B8 ++ beBytes 2 (h.num (Obj.gocbAppid g)) ++ beBytes 2 (8 + apdu.length) ++ beBytes 2 (32768 * b2n sim) ++ [0, 0] ++ apdu

/-- The checks of gocb-enable (R372): 0, CONFLICT (7) or RANGE (6). -/
def Hub.gocbCheck (h : Hub) (g : Nat) : Nat :=
  let r := h.num (Obj.gocbRoute g)
  let e := h.route r
  let n := h.memberCount g
  let strs := [h.oct (Obj.gocbRef g), h.oct (Obj.gocbDataset g), h.oct (Obj.gocbId g)]
  if 4096 ≤ r ∨ rtValid e = false ∨ rtClass e ≠ 0 ∨ rtTargets e % 2 ^ 14 ≠ 0 ∨ rtTargets e / 2 ^ 16 ≠ 0 then 7
  else if n = 0 ∨ 64 < n ∨ (h.oct (Obj.gocbMembers g)).length % 4 ≠ 0 then 7
  else if (List.range n).any (fun i =>
      let m := h.member g i
      let k := byteAt m 0
      k == 0 || decide (8 < k) || (decide (k ≤ 4) && (decide (63 < byteAt m 1) || decide (191 < byteAt m 2)))
        || (k == 4 && decide (191 < byteAt m 3))) then 7
  else if strs.any (fun s => s.isEmpty || decide (129 < s.length)) then 7
  else if 0x3FFF < h.num (Obj.gocbAppid g) ∨ (byteAt (h.oct (Obj.gocbDestMac g)) 0) % 2 = 0 then 7
  else
    let big := (h.gooseFrame g (h.num (Obj.gocbTalFactor g) * h.num (Obj.gocbT0 g)) 0xFFFFFFFF 0xFFFFFFFF 0 (h.allData g)).length
    if 1518 < big ∨ rtMaxFrame e < big then 6 else 0

/-! ### Publishing (R370 to R372) -/

/-- Whether a block may send (R372): its group is none, or the supervisor is ACTIVE in it. -/
def Hub.gocbSends (h : Hub) (g : Nat) : Bool :=
  let grp := h.num (Obj.gocbDuplexGroup g)
  !h.flag Obj.hubFault && (grp == 0 || (h.num Obj.role == roleActive && h.num Obj.dupGroup == grp))

/-- Next value of stNum and sqNum (R370). -/
def nextNum (n : Nat) : Nat := if n < 0xFFFFFFFF then n + 1 else 1

/-- Hand a frame to switch port 17. The time its encoding took, within 4.0 µs (R373), is a free value; max-encode-time keeps the greatest (R383). -/
def Hub.gocbHand (h : Hub) (g : Nat) (newState : Bool) : Hub :=
  let enc : BitVec 32 := Config.free 32 h.freeCtr
  let h := h.nextFree.maxNum Obj.maxEncodeTime (enc.toNat % 4001)
  let iv := SMap.get (fun _ => 0) h.goose.interval g
  let f := h.gooseFrame g (h.num (Obj.gocbTalFactor g) * iv) (h.num (Obj.stNum g)) (h.num (Obj.sqNum g)) (h.num (Obj.gocbLastChange g))
    (SMap.get (fun _ => []) h.goose.enc g).flatten
  let h := h.swArrive 17 { data := f, route := h.num (Obj.gocbRoute g), owner := fidGocb g + 1, newState := newState }
  ((h.setNum (Obj.frameLength g) f.length).count (Obj.framesSent g)).count Obj.framesPublished

/-- Whether a new-state frame of a block still waits to be handed over at port 17 (R370). -/
def Hub.gocbWaiting (h : Hub) (g : Nat) : Bool :=
  (SMap.get (fun _ => []) h.sw.inputs 17).any (fun p => p.owner == fidGocb g + 1 && p.newState)

/-- A new-state frame (R370, R371): sqNum 0, the schedule restarts; it goes when the block may send. -/
def Hub.gocbNewState (h : Hub) (g st t : Nat) : Hub :=
  let h := ((h.setNum (Obj.stNum g) st).setNum (Obj.sqNum g) 0).setNum (Obj.gocbLastChange g) t
  let h := { h with goose := { h.goose with
    interval := SMap.set (fun _ => 0) h.goose.interval g (h.num (Obj.gocbT1 g))
    newAt := SMap.set (fun _ => 0) h.goose.newAt g (h.now + 1) } }
  h.when (h.gocbSends g) (fun h => h.gocbHand g true)

/-- The waiting new-state frame takes a further change (R370). -/
def Hub.gocbMerge (h : Hub) (g t : Nat) : Hub :=
  let h := (h.setNum (Obj.gocbLastChange g) t).count (Obj.mergedChanges g)
  let f := h.gooseFrame g (h.num (Obj.gocbTalFactor g) * h.num (Obj.gocbT1 g)) (h.num (Obj.stNum g)) 0 t (SMap.get (fun _ => []) h.goose.enc g).flatten
  let q := (SMap.get (fun _ => []) h.sw.inputs 17).map (fun p => if p.owner = fidGocb g + 1 ∧ p.newState = true then { p with data := f } else p)
  ({ h with sw := { h.sw with inputs := SMap.set (fun _ => []) h.sw.inputs 17 q } }).setNum (Obj.frameLength g) f.length

/-- The members of a block that a record names may have changed (R370): `t` is its STAMP. -/
def Hub.gocbUpdate (h : Hub) (g t : Nat) (named : List Byte → Bool) : Hub :=
  if !h.isOn (fidGocb g) then h
  else
    let all := h.encodings g named
    if all = SMap.get (fun _ => []) h.goose.enc g then h
    else
      let h := { h with goose := { h.goose with enc := SMap.set (fun _ => []) h.goose.enc g all } }
      if h.gocbWaiting g then h.gocbMerge g t
      else (h.count (Obj.stateChanges g)).gocbNewState g (nextNum (h.num (Obj.stNum g))) t

/-- Every block that is ON looks at the members a record names. -/
def Hub.gocbUpdateAll (h : Hub) (t : Nat) (named : List Byte → Bool) : Hub := (List.range 128).foldl (fun h g => h.gocbUpdate g t named) h

/-- The interval to the next frame passes (R370, R371); a change in the same cycle replaces the retransmission. -/
def Hub.gocbRetransmit (h : Hub) (g : Nat) : Hub :=
  if !h.isOn (fidGocb g) || !h.gocbSends g || SMap.get (fun _ => 0) h.goose.newAt g == h.now + 1 then h
  else
    let iv := min (SMap.get (fun _ => 0) h.goose.interval g * h.num (Obj.gocbBackoff g)) (h.num (Obj.gocbT0 g))
    let h := { h with goose := { h.goose with interval := SMap.set (fun _ => 0) h.goose.interval g iv } }
    (h.setNum (Obj.sqNum g) (nextNum (h.num (Obj.sqNum g)))).gocbHand g false

/-- A block enters ON (R370). -/
def Hub.gocbStart (h : Hub) (g : Nat) : Hub :=
  ({ h with goose := { h.goose with enc := SMap.set (fun _ => []) h.goose.enc g (h.encodings g (fun _ => true)) } }).gocbNewState g 1 (h.stamp .H)

/-- The supervisor becomes ACTIVE in a group (R372): a new-state frame, with a new stNum and the time of now. -/
def Hub.gocbActive (h : Hub) : Hub :=
  (List.range 128).foldl (fun h g =>
    if h.isOn (fidGocb g) && h.num (Obj.gocbDuplexGroup g) != 0 && h.gocbSends g then
      h.gocbNewState g (nextNum (h.num (Obj.stNum g))) (h.stamp .H)
    else h) h

/-! ### Records at the signal slots (R364, R365, R368) -/

/-- Take the first packet that waits at the service port and passes a test. -/
def Hub.takeService (h : Hub) (p : Delivered → Bool) : Option (Delivered × Hub) :=
  let l := h.inbox inboxService
  match l.find? p with
  | none => none
  | some d => some (d, h.setInbox inboxService (l.erase d))

/-- A ledger record at a signal slot: its entries apply in order. A record of another type counts in decode-errors. -/
def Hub.gooseLedger (h : Hub) : Hub :=
  match h.takeService (fun d => decide (d.target < 64) && byteAt d.data 0 != 0x42) with
  | none => h
  | some (d, h) =>
    let n := d.data.length - 16
    if d.data.length < 16 ∨ byteAt d.data 0 ≠ 0x02 ∨ n % 16 ≠ 0 ∨ leAt d.data 4 2 ≠ n then h.count Obj.decodeErrors
    else
      (List.range (n / 16)).foldl (fun h i =>
        let e := slice d.data (16 + 16 * i) 16
        let st := leAt e 0 8
        let h := { h with goose := { h.goose with
          sig := SMap.set (fun _ => none) h.goose.sig (d.target * 256 + byteAt e 14) (some (st, byteAt e 15)) } }
        h.gocbUpdateAll st (namesChannel d.target (byteAt e 14))) (h.count Obj.signalRecords)

/-- A host value record (R365). -/
def Hub.gooseValue (h : Hub) : Hub :=
  match h.takeService (fun d => decide (d.target < 64) && byteAt d.data 0 == 0x42) with
  | none => h
  | some (d, h) =>
    if d.data.length ≠ 24 ∨ leAt d.data 4 2 ≠ 8 then h.count Obj.decodeErrors
    else
      let h := { (h.count Obj.signalRecords) with goose := { h.goose with
        vals := SMap.set (fun _ => none) h.goose.vals (byteAt d.data 1) (some (leAt d.data 16 4, leAt d.data 20 2 % 8192, leAt d.data 8 8)) } }
      h.gocbUpdateAll (leAt d.data 8 8) (namesValue (byteAt d.data 1))

/-! ### Subscriptions (R374 to R378) -/

/-- Octets that one element takes, in any length form, or, with `inner`, those of the elements before the end marker of an indefinite length; none when it
does not decode. The fuel bounds their number. -/
def berLen : Nat → Bool → List Byte → Option Nat
  | 0, _, _ => none
  | fuel + 1, true, b =>
    if b.length < 2 then none
    else if beAt b 0 2 = 0 then some 0
    else match berLen fuel false b with
      | none => none
      | some n => (berLen fuel true (b.drop n)).map (· + n)
  | fuel + 1, false, b =>
    let l := byteAt b 1
    let k := if l < 128 then 0 else l - 128
    let n := if l < 128 then l else beAt b 2 k
    if b.length < 2 ∨ l = 255 then none
    else if l = 128 then (if (byteAt b 0).testBit 5 then (berLen fuel true (b.drop 2)).map (· + 4) else none)
    else if b.length < 2 + k + n then none
    else some (2 + k + n)

/-- One tag, length and value, and what follows; any length form (R374). -/
def berNext (b : List Byte) : Option (Nat × List Byte × List Byte) :=
  match berLen (b.length + 2) false b with
  | none => none
  | some n =>
    let l := byteAt b 1
    let k := if l < 128 then 0 else l - 128
    some (byteAt b 0, slice b (2 + k) (n - 2 - k - (if l = 128 then 2 else 0)), b.drop n)

/-- The values of a sequence, with fuel for their number; none when it does not decode. -/
def berSeq : Nat → List Byte → Option (List (Nat × List Byte))
  | 0, b => if b.isEmpty then some [] else none
  | f + 1, b =>
    if b.isEmpty then some []
    else match berNext b with
      | none => none
      | some (t, v, r) => (berSeq f r).map (fun l => (t, v) :: l)

/-- The value of a tag. -/
def berGet (l : List (Nat × List Byte)) (t : Nat) : List Byte := ((l.find? (fun p => p.1 == t)).map (·.2)).getD []

/-- A frame of a publisher: addresses, APPID, the fields of its goosePdu and the values of allData; `whole` when all of it decodes. -/
structure GoosePdu where
  dst : List Byte
  src : Nat
  appid : Nat
  fields : List (Nat × List Byte)
  all : List Byte
  items : List (Nat × List Byte)
  whole : Bool
deriving DecidableEq, Repr

/-- Decode the frame of a station record. -/
def decodeGoose (f : List Byte) : GoosePdu :=
  let o := ethOff f + 2
  let body := match berNext (f.drop (o + 8)) with
    | some (t, v, _) => if t = 0x61 then some v else none
    | none => none
  let fields := (body.bind (fun b => berSeq 16 b)).getD []
  let first := match body.bind berNext with | some (t, v, _) => [(t, v)] | none => []
  let all := berGet fields 0xAB
  let items := berSeq 1024 all
  let need := [0x80, 0x81, 0x82, 0x84, 0x85, 0x86, 0x87, 0x88, 0x89, 0x8A, 0xAB]
  { dst := ethDst f, src := ethSrc f, appid := beAt f o 2, fields := if fields.isEmpty then first else fields, all := all,
    items := items.getD [],
    whole := ethType f == 0x88B8 && items.isSome && need.all (fun t => fields.any (fun p => p.1 == t)) && (berGet fields 0x84).length == 8 }

def GoosePdu.int (p : GoosePdu) (t : Nat) : Nat := beNat (berGet p.fields t)
def GoosePdu.bool (p : GoosePdu) (t : Nat) : Bool := beNat (berGet p.fields t) != 0

/-- Whether a value is a BOOLEAN, a DBPOS, or a 13-bit bit string. -/
def isBoolVal (v : Nat × List Byte) : Bool := v.1 == 0x83 && v.2.length == 1
def isDbpos (v : Nat × List Byte) : Bool := v.1 == 0x84 && v.2.length == 2 && byteAt v.2 0 == 6
def isQual (v : Nat × List Byte) : Bool := v.1 == 0x84 && v.2.length == 3 && byteAt v.2 0 == 3

/-- Entries of sub-map. -/
def Hub.subEntry (h : Hub) (u i : Nat) : List Byte := slice (h.oct (Obj.subMap u)) (8 * i) 8
def Hub.subCount (h : Hub) (u : Nat) : Nat := (h.oct (Obj.subMap u)).length / 8

/-- Whether a frame is for a subscription (R374). -/
def Hub.subMatches (h : Hub) (u : Nat) (p : GoosePdu) : Bool :=
  h.isOn (fidSub u) && h.oct (Obj.subDestMac u) == p.dst && h.num (Obj.subAppid u) == p.appid
    && h.oct (Obj.subGocbRef u) == berGet p.fields 0x80
    && (beNat (h.oct (Obj.subSrcMac u)) == 0 || beNat (h.oct (Obj.subSrcMac u)) == p.src)

/-- The cause for which a frame is refused (R374, R376), 0 none. -/
def Hub.subCause (h : Hub) (u : Nat) (p : GoosePdu) : Nat :=
  if !p.whole then 4
  else if p.int 0x88 ≠ h.num (Obj.subConfrev u) then 1
  else if p.int 0x8A ≠ h.num (Obj.subEntries u) then 2
  else if p.bool 0x89 then 3
  else if (List.range (h.subCount u)).any (fun i =>
      let e := h.subEntry u i
      let v := p.items.getD (byteAt e 0) (0, [])
      let q := p.items.getD (byteAt e 1) (0, [])
      !(isBoolVal v || isDbpos v) || (byteAt e 1 != 0xFF && !isQual q)) then 4
  else if p.int 0x81 = 0 then 4
  else 0

/-- Issue a command of a subscription member (R377). -/
def Hub.subCommand (h : Hub) (e : List Byte) (cmd : Nat) : Hub :=
  let grp := byteAt e 6
  let rec_ := cmdRecord (h.ownClaim grp) grp cmd (byteAt e 5) 4 0
  let (loc, h) := h.issueCmd (byteAt e 4) rec_
  if loc && decide (byteAt e 5 < 192) then h.localCmd 17 rec_ else h

/-- The DEFAULT of a member (R377): 3 HOLD sends nothing. -/
def Hub.subDefault (h : Hub) (e : List Byte) : Hub :=
  match byteAt e 3 with
  | 0 => h.subCommand e 0
  | 1 => h.subCommand e 1
  | 2 => h.subCommand e 3
  | _ => h

/-- The entries of a map in ascending POSITION (R377), with their index. -/
def Hub.subOrder (h : Hub) (u : Nat) : List (Nat × List Byte) :=
  let es := (List.range (h.subCount u)).map (fun i => (i, h.subEntry u i))
  (List.range 64).flatMap (fun p => es.filter (fun e => byteAt e.2 0 == p))

/-- Apply the defaults of a subscription (R376). -/
def Hub.subDefaults (h : Hub) (u : Nat) : Hub :=
  (h.subOrder u).foldl (fun h e => if byteAt e.2 2 = 0 then h else h.subDefault e.2) h

/-- The value of a member: none when its DEFAULT applies (R377). -/
def memberValue (p : GoosePdu) (e : List Byte) : Option Bool :=
  let v := p.items.getD (byteAt e 0) (0, [])
  let q := p.items.getD (byteAt e 1) (0, [])
  if byteAt e 1 ≠ 0xFF ∧ byteAt q.2 1 / 64 = 1 then none
  else if isBoolVal v then some (byteAt v.2 0 != 0)
  else
    let d := byteAt v.2 1 / 64
    if d = 2 then some true else if d = 1 then some false else none

/-- Apply the members of an accepted frame (R377). -/
def Hub.subApply (h : Hub) (u : Nat) (p : GoosePdu) : Hub :=
  (h.subOrder u).foldl (fun h e =>
    let k := u * 64 + e.1
    let old := SMap.get (fun _ => 0) h.goose.prev k
    let val := memberValue p e.2
    let h := { h with goose := { h.goose with
      prev := SMap.set (fun _ => 0) h.goose.prev k (match val with | some true => 2 | some false => 1 | none => 0) } }
    match byteAt e.2 2, val with
    | 0, _ => h
    | _, none => h.subDefault e.2
    | 1, some v => h.subCommand e.2 (if v then 1 else 0)
    | 2, some v => h.subCommand e.2 (if v then 0 else 1)
    | _, some v => if v && old == 1 then h.subCommand e.2 2 else h) h

/-- STAMP64 of a received UtcTime (R378). -/
def Hub.utcStamp (h : Hub) (t : List Byte) : Nat :=
  let q := byteAt t 7
  let a := q % 32
  let cls : Class := if q.testBit 5 then .X else if 24 ≤ a then .H else if 20 ≤ a then .E else if 10 ≤ a then .S else .X
  stamp64 ((((beAt t 0 4 : Nat) : Int) + h.utcOffsetInUse).toNat * 1000000000 + beAt t 4 3 * 1000000000 / 2 ^ 24) cls

/-- Forward a record of a subscription (R378). -/
def Hub.subRecord (h : Hub) (u flags : Nat) (all : List Byte) : Hub :=
  let route := h.num (Obj.subRoute u)
  if route = 0xFFFF then h
  else
    let n := SMap.get (fun _ => 0) h.goose.recSeq u
    let body := leBytes 4 (h.num (Obj.lastStNum u)) ++ leBytes 4 (h.num (Obj.lastSqNum u)) ++ leBytes 4 (h.num (Obj.lastTal u))
      ++ leBytes 8 (SMap.get (fun _ => 0) h.goose.subRx u) ++ all
    let hdr := [0x43, BitVec.ofNat 8 u] ++ leBytes 2 flags ++ leBytes 2 body.length ++ leBytes 2 n
      ++ leBytes 8 (SMap.get (fun _ => 0) h.goose.subT u)
    ({ h with goose := { h.goose with recSeq := SMap.set (fun _ => 0) h.goose.recSeq u ((n + 1) % 65536) } }).swRouted 17 route (hdr ++ body)

/-- sub-state codes (R385). -/
def subWaiting : Nat := 0
def subValid : Nat := 1
def subLost : Nat := 2
def subMismatch : Nat := 3

/-- A subscription enters LOST (R376, R378). -/
def Hub.subLose (h : Hub) (u : Nat) : Hub :=
  let h := (h.setNum (Obj.subState u) subLost).notice N.gooseSubLost (fidSub u) [u, h.num (Obj.lastStNum u)]
  (h.subDefaults u).subRecord u 1 []

/-- A frame for one subscription (R374 to R378). -/
def Hub.subFrame (h : Hub) (u rx : Nat) (p : GoosePdu) : Hub :=
  let st := h.num (Obj.subState u)
  let sim := p.bool 0x87
  if sim && !h.flag (Obj.subAcceptSimulation u) then h.count (Obj.simulationIgnored u)
  else
    let c := h.subCause u p
    if c ≠ 0 then
      let h := h.when (c == 1) (fun h => h.count (Obj.confrevMismatches u))
      if st = subMismatch then h else (h.setNum (Obj.subState u) subMismatch).notice N.gooseSubMismatch (fidSub u) [u, c]
    else
      let s := p.int 0x85
      let q := p.int 0x86
      let newSt := s != h.num (Obj.lastStNum u)
      if st = subValid ∧ newSt = false ∧ toSigned 32 (q + 2 ^ 32 - h.num (Obj.lastSqNum u)) ≤ 0 then h.count (Obj.repeatsDiscarded u)
      else
        let h := h.when (st == subLost || st == subMismatch) (fun h => h.notice N.gooseSubRestored (fidSub u) [u, s])
        let h := (((h.setNum (Obj.subState u) subValid).setNum (Obj.lastStNum u) s).setNum (Obj.lastSqNum u) q).setNum (Obj.lastTal u) (p.int 0x81)
        let h := h.count (Obj.framesAccepted u)
        let t := h.utcStamp (berGet p.fields 0x84)
        let h := { h with goose := { h.goose with
          subT := SMap.set (fun _ => 0) h.goose.subT u t, subRx := SMap.set (fun _ => 0) h.goose.subRx u rx,
          subAt := SMap.set (fun _ => 0) h.goose.subAt u (h.now + 1) } }
        let h := h.subApply u p
        h.when (h.num (Obj.subForward u) == 1 || newSt) (fun h => h.subRecord u (2 * b2n sim) p.all)

/-- A record at the subscription input (R364, R374): every matching subscription handles it. -/
def Hub.gooseSubIn (h : Hub) : Hub :=
  match h.takeService (fun d => d.target == 0x100) with
  | none => h
  | some (d, h) =>
    if d.data.length < 16 ∨ byteAt d.data 0 ≠ 0x40 then h.count Obj.decodeErrors
    else
      let p := decodeGoose (d.data.drop 16)
      let us := (List.range 256).filter (fun u => h.subMatches u p)
      let h := h.count Obj.framesReceived
      if us.isEmpty then h.count Obj.rxUnmatched else us.foldl (fun h u => h.subFrame u (leAt d.data 8 8) p) h

/-- The supervision timer of a subscription expires (R376); a frame accepted in the same cycle wins. -/
def Hub.subTal (h : Hub) (u : Nat) : Hub :=
  if h.isOn (fidSub u) && h.num (Obj.subState u) == subValid && SMap.get (fun _ => 0) h.goose.subAt u != h.now + 1 then (h.count (Obj.talExpiries u)).subLose u else h

/-- No frame within sub-first-wait (R376). -/
def Hub.subFirst (h : Hub) (u : Nat) : Hub := if h.isOn (fidSub u) && h.num (Obj.subState u) == subWaiting then h.subLose u else h

/-- The checks of sub-enable (R377, R378): 0, CONFLICT (7) or RANGE (6). -/
def Hub.subCheck (h : Hub) (u : Nat) : Nat :=
  if (List.range (h.subCount u)).any (fun i =>
      let e := h.subEntry u i
      (byteAt e 4 == 0 || byteAt e 4 == h.self) && decide (byteAt e 5 < 192) && byteAt e 6 != h.num (Obj.boutGroup (byteAt e 5))) then 7
  else if h.num (Obj.subRoute u) ≠ 0xFFFF ∧ rtMaxFrame (h.route (h.num (Obj.subRoute u))) < 1534 then 6
  else 0

/-- A subscription enters ON. -/
def Hub.subStart (h : Hub) (u : Nat) : Hub :=
  { (h.setNum (Obj.subState u) subWaiting) with goose := { h.goose with prev := h.goose.prev.filter (fun p => p.1 / 64 != u) } }

/-! ### The commands -/

/-- GOOSE_LEDGER_RECORD (R368). -/
def execGooseLedgerRecord (s : State) : Host.Outcome State Fault Refusal := s.answer Hub.gooseLedger
/-- GOOSE_HOST_VALUE_RECORD (R365). -/
def execGooseHostValueRecord (s : State) : Host.Outcome State Fault Refusal := s.answer Hub.gooseValue
/-- GOOSE_RETRANSMIT (R371). -/
def execGooseRetransmit (g : Fin 128) (s : State) : Host.Outcome State Fault Refusal := s.answer (fun h => h.gocbRetransmit g.val)
/-- GOOSE_SUB_FRAME_RX (R374). -/
def execGooseSubFrameRx (s : State) : Host.Outcome State Fault Refusal := s.answer Hub.gooseSubIn
/-- GOOSE_SUB_TAL_EXPIRED (R376). -/
def execGooseSubTalExpired (u : Fin 256) (s : State) : Host.Outcome State Fault Refusal := s.answer (fun h => h.subTal u.val)
/-- GOOSE_SUB_FIRST_WAIT_EXPIRED (R376). -/
def execGooseSubFirstWaitExpired (u : Fin 256) (s : State) : Host.Outcome State Fault Refusal := s.answer (fun h => h.subFirst u.val)

end Sys2Proof.Machine
end

