-- ==== Sys2Proof/Machine/Duplex.lean ====
section
/-!
DEFINITION. The duplex supervisor (R388 to R421): CLAIM frames, roles, claims and their persistence, the comparator, take-over, the
planned swap, CMD frames that arrive or pass, and the command dispatcher. What a mirror record does at a STANDBY is with the
dictionary service.
-/
namespace Sys2Proof.Machine

/-! swap-state (R419). -/
def swapIdle : Nat := 0
def swapPrepare : Nat := 1
def swapPrepared : Nat := 2
def swapHandover : Nat := 3

/-! GAINED (R398); the last code marks a unit that resumes its own claim after a swap timeout (R413). -/
def gainedStart : Nat := 0
def gainedTakeover : Nat := 1
def gainedSwap : Nat := 2
def gainedResume : Nat := 3

/-- The configuration digest (R389): CRC-32C over the settings. -/
def Hub.dupDigest (h : Hub) : Nat :=
  match h.profile 2 with
  | some p => p.value
    (leBytes 1 (h.num Obj.dupGroup) ++ leBytes 1 (h.num Obj.ccMode) ++ leBytes 1 (h.num Obj.ccSlices)
      ++ leBytes 4 (h.num Obj.ccPeriod) ++ leBytes 4 (h.num Obj.ccOffset) ++ leBytes 4 (h.num Obj.dupCompareWindow)
      ++ leBytes 1 (h.num Obj.dupMismatchLimit) ++ leBytes 4 (h.num Obj.dupLatency))
  | none => 0

/-- The highest claim held or seen for the group (R392). -/
def Hub.highestClaim (h : Hub) : Nat := max (max (h.num Obj.claim) (h.num Obj.maxClaimSeen)) h.duplex.persisted

/-- The payload of a CLAIM frame (R398). -/
def Hub.claimPayload (h : Hub) (sub arg : Nat) : List Byte :=
  let role := h.num Obj.role
  [BitVec.ofNat 8 sub, BitVec.ofNat 8 (h.num Obj.dupGroup), BitVec.ofNat 8 (h.num Obj.dupUnit), BitVec.ofNat 8 role]
    ++ beBytes 4 h.time.ccNumber ++ beBytes 4 h.dupDigest ++ beBytes 4 h.highestClaim
    ++ beBytes 4 (h.num (if role = roleStandby then Obj.mirrorSeqApplied else Obj.mirrorSeqSent)) ++ beBytes 4 arg

/-- Send a CLAIM frame (R398): class 0, both ports. -/
def Hub.sendClaim (h : Hub) (dst sub arg claim : Nat) : Hub :=
  (h.sendRing 16 { dst := dst, cls := 0, type := tClaim, claim := claim, payload := h.claimPayload sub arg } 0).2

/-- Send a swap frame to the peer. -/
def Hub.sendSwap (h : Hub) (sub arg : Nat) : Hub := h.sendClaim (h.num Obj.peerNode) sub arg (h.num Obj.claim)

/-- The HEARTBEAT of a unit that is not OFF or LISTENING (R398, R399). -/
def Hub.heartbeat (h : Hub) : Hub :=
  let r := h.num Obj.role
  if r = roleOff ∨ r = roleListening ∨ h.flag Obj.hubFault = true then h
  else if r = roleContending then h.sendClaim broadcastId 0 (h.num Obj.persistedRole) h.duplex.persisted
  else h.sendClaim broadcastId 0 (if r = roleActive then h.duplex.gained else 0) (h.num Obj.claim)

/-! ### Claims -/

/-- Take the next claim (R392): it goes to the store first. A claim that would pass 0xFFFF_FFFF is not taken. -/
def Hub.takeClaim (h : Hub) (why : Persist) : Option Nat × Hub :=
  let c := max h.highestClaim h.duplex.peerPersisted + 1
  if 0xFFFFFFFF < c then (none, h.notice N.duplexClaimExhausted fidDuplex [])
  else (some c, ({ h with duplex := { h.duplex with persisting := some (why, c) } }).persist 64)

/-- A write of a claim that is under way is no longer wanted. -/
def Hub.dropPersisting (h : Hub) : Hub :=
  { h with duplex := { h.duplex with
    persisting := h.duplex.persisting.map (fun p => (Persist.dropped, p.2)), ready := none } }

/-- A swap's claim is no longer wanted (R413); a take-over that has been declared goes on (R408). -/
def Hub.dropSwap (h : Hub) : Hub :=
  { h with duplex := { h.duplex with
    persisting := h.duplex.persisting.map (fun p => (if p.1 = .swap then .dropped else p.1, p.2))
    ready := h.duplex.ready.filter (fun p => p.2 != gainedSwap) } }

/-- A confirmed claim that the unit has held or seen by the time it would take it is not taken (R392). -/
def Hub.claimUsed (h : Hub) (c : Nat) : Bool := decide (c ≤ max (h.num Obj.claim) (h.num Obj.maxClaimSeen))

/-- The next claim in the place of one that has been seen meanwhile (R392). -/
def Hub.takeAgain (h : Hub) (gained : Nat) : Hub :=
  (({ h with duplex := { h.duplex with ready := none } }).takeClaim (if gained = gainedSwap then .swap else .takeover)).2

/-- The comparator is emptied (R404). -/
def Hub.clearCompare (h : Hub) : Hub :=
  ((({ h with duplex := { h.duplex with outs := [] } }).setNum Obj.mismatchedOutputs 0).setNum Obj.mismatchRun 0)

/-- No swap is in progress (R413). -/
def Hub.endSwap (h : Hub) : Hub :=
  ({ h with duplex := { h.duplex with swapK := 0, requested := false, prepareSeq := 0 } }).setNum Obj.swapState swapIdle

/-- The role that PERSIST holds (R392): a role that differs is written to the store. -/
def Hub.persistRole (h : Hub) (r : Nat) : Hub :=
  if h.num Obj.persistedRole = r then h else (h.setNum Obj.persistedRole r).persist 64

/-- The unit becomes OUT_OF_SERVICE (R391, R392): it mirrors nothing. -/
def Hub.toOut (h : Hub) : Hub := (h.endSwap.setNum Obj.role roleOut).setNum Obj.mirrorState mirOff

/-- The unit becomes STANDBY (R391, R392, R403). -/
def Hub.toStandby (h : Hub) : Hub :=
  let h := (h.dropPersisting.clearCompare.endSwap.setNum Obj.role roleStandby).persistRole roleStandby
  let h := { h with duplex := { h.duplex with
    mirRead := 0, mirUse := [], mirTags := [], mirPend := [], resync := false, mirUntil := 0 } }
  let h := (h.setNum Obj.mirrorSeqApplied 0).setNum Obj.mirrorState mirUnsynced
  h.notice N.duplexMirrorUnsynced fidDuplex [4]

/-- The unit becomes CONTENDING (R391); `c` is the claim of a CONTENDING peer. -/
def Hub.toContending (h : Hub) (c : Nat) : Hub :=
  ({ h with duplex := { h.duplex with peerPersisted := c } }).setNum Obj.role roleContending

/-- Re-issue, with the new claim, the S value of every output whose last command was OPEN or CLOSE (R408). -/
def Hub.reissue (h : Hub) : Hub :=
  let outs := h.duplex.outs
  let h := h.clearCompare
  outs.foldl (fun (h : Hub) (x : Nat × DupOut) =>
    match x.2.s with
    | some (cmd, _) =>
      if cmd = 0 ∨ cmd = 1 then
        let r := leBytes 4 (h.num Obj.claim) ++ x.2.sRec.drop 4
        let (loc, h) := h.issueCmd (x.1 / 256) r
        if loc && decide (x.1 % 256 < 192) then h.localCmd 17 r else h
      else h
    | none => h) h

/-- The unit becomes ACTIVE with a confirmed claim (R391, R408, R412, R415), or resumes its own (R413). The heartbeat is the caller's. -/
def Hub.becomeActive (h : Hub) (c gained : Nat) : Hub :=
  let resume := gained == gainedResume
  let h := (((h.setNum Obj.claim c).maxNum Obj.maxClaimSeen c).setNum Obj.persistedRole roleActive).setNum Obj.role roleActive
  let h := { h with duplex := { h.duplex with ready := none, gained := if resume then h.duplex.gained else gained } }
  let h := (h.setNum Obj.mismatchRun 0).endSwap
  let h := h.when (!resume) (fun h => h.setNum Obj.mirrorState mirOff)
  let h := h.when (gained == gainedStart) (fun h => h.notice N.duplexRole fidDuplex [c, gained])
  let h := h.when (gained == gainedSwap) (fun h => (h.count Obj.swapsDone).notice N.duplexSwapDone fidDuplex [roleActive, c])
  h.gocbActive

/-- The heartbeat of a unit that has become ACTIVE by take-over or swap, then the re-issue (R408, R412). -/
def Hub.afterActive (h : Hub) : Hub := h.heartbeat.reissue

/-- A failure has been declared, or a swap's claim is being taken (R408, R412). -/
def Hub.claiming (h : Hub) : Bool :=
  h.duplex.ready.isSome || (match h.duplex.persisting with | some (.dropped, _) | none => false | _ => true)

/-- A STANDBY declares failure (R408): cause 1 MISMATCH, 2 HEARTBEAT. -/
def Hub.declareFailure (h : Hub) (cause : Nat) : Hub :=
  if h.num Obj.role ≠ roleStandby ∨ h.claiming = true then h
  else
    match h.takeClaim .takeover with
    | (none, h) => h
    | (some c, h) =>
      ((h.endSwap.count Obj.takeovers).setNum Obj.lastFailover (h.stamp .H)).notice N.duplexTakeover fidDuplex [cause, c]

/-- The store confirms a new claim, or the write has failed (R392). A claim that has been seen meanwhile is not taken: the next one is. A
unit that starts is ACTIVE from here; its first heartbeat follows the next boundary (R399). -/
def Hub.claimPersisted (h : Hub) (ok : Bool) : Hub :=
  match h.duplex.persisting with
  | none => h
  | some (why, c) =>
    let h := { h with duplex := { h.duplex with persisting := none } }
    if !ok then
      if why = .dropped then h
      else h.toOut.notice N.duplexStoreFault fidDuplex [c]
    else
      let h := { h with duplex := { h.duplex with persisted := max h.duplex.persisted c } }
      if why ≠ .dropped ∧ h.claimUsed c = true then (h.takeClaim why).2
      else match why with
      | .start => h.becomeActive c gainedStart
      | .takeover => { h with duplex := { h.duplex with ready := some (c, gainedTakeover) } }
      | .swap => { h.setNum Obj.persistedRole roleActive with
          duplex := { (h.setNum Obj.persistedRole roleActive).duplex with ready := some (c, gainedSwap) } }
      | .dropped => h

/-! ### The planned swap (R410 to R414) -/

/-- Control cycles in 2 × dup-latency, rounded up (R412): by the period in FIXED mode, else by the phase clock and cc-slices. -/
def Hub.latencyCycles (h : Hub) : Nat :=
  let us := 2 * h.num Obj.dupLatency
  if h.num Obj.ccMode = 0 then (us * 1000 + h.num Obj.ccPeriod - 1) / h.num Obj.ccPeriod
  else
    let f := if h.num Obj.phcState = phcInvalid then h.num Obj.nominalFrequency * 1000 else h.time.phcFreq
    (us * f * h.num Obj.ccSlices + 999999999999) / 1000000000000

/-- The ACTIVE starts the swap (R412 PREPARE). -/
def Hub.startSwap (h : Hub) : Hub := (h.setNum Obj.swapState swapPrepare).sendSwap 2 (h.num Obj.mirrorSeqSent)

/-- A swap of the ACTIVE ends by abort (R412, R413): it keeps its role and claim. -/
def Hub.abortSwap (h : Hub) (reason : Nat) : Hub :=
  (((h.sendSwap 5 0).endSwap).count Obj.swapsAborted).notice N.duplexSwapAborted fidDuplex [1, reason]

/-- dup-swap written true (R410): the abort code, 0 none (STATE 8, CONFLICT 7), and the effect. A failure declared on the STANDBY refuses
it (R417); an ACTIVE whose swap a request of this cycle has started refuses that request (R411). -/
def Hub.dupSwapWrite (h : Hub) : Nat × Hub :=
  let r := h.num Obj.role
  if r = roleActive ∧ h.duplex.askedAt = h.now + 1 then
    (0, ({ h with duplex := { h.duplex with askedAt := 0 } }).sendSwap 6 1)
  else if r = roleStandby ∧ h.claiming = true then (8, h)
  else if (r ≠ roleActive ∧ r ≠ roleStandby) ∨ h.num Obj.swapState ≠ swapIdle then (8, h)
  else if h.duplex.digestDiffers then (7, h)
  else if r = roleActive then (0, h.startSwap)
  else (0, { h.sendSwap 1 0 with duplex := { (h.sendSwap 1 0).duplex with requested := true } })

/-- A STANDBY whose PREPARE waits acknowledges once it is synced up to the sequence and no output is mismatched (R412); a mirror that is
UNSYNCED is NOT_READY, a peer's digest that differs by now is CONFIG. -/
def Hub.tryAck (h : Hub) : Hub :=
  if h.duplex.prepareSeq = 0 ∨ h.num Obj.role ≠ roleStandby then h
  else
    let done := { h with duplex := { h.duplex with prepareSeq := 0 } }
    if h.duplex.digestDiffers then done.sendSwap 6 3
    else if h.num Obj.mirrorState = mirUnsynced then done.sendSwap 6 2
    else if h.duplex.prepareSeq ≤ h.num Obj.mirrorSeqApplied + 1 ∧ h.num Obj.mismatchedOutputs = 0 then
      (done.setNum Obj.swapState swapPrepared).sendSwap 3 0
    else h

/-- A STANDBY's request loses to the ACTIVE's (R411). -/
def Hub.swapCollides (h : Hub) : Hub :=
  if h.duplex.requested then
    (({ h with duplex := { h.duplex with requested := false } }).count Obj.swapCollisions).notice N.swapCollision fidDuplex
      [h.num Obj.peerNode]
  else h

/-- SWAP_HANDOVER at a STANDBY (R391, R412): it takes over by swap at boundary k. A claim that a declared failure is taking serves the swap
(R417). -/
def Hub.handover (h : Hub) (k : Nat) : Hub :=
  let taking := h.claiming
  let h := { h with duplex := { h.duplex with
    swapK := k + 1
    persisting := h.duplex.persisting.map (fun (p : Persist × Nat) => (if p.1 = Persist.takeover then Persist.swap else p.1, p.2))
    ready := h.duplex.ready.map (fun (p : Nat × Nat) => (p.1, if p.2 = gainedTakeover then gainedSwap else p.2)) } }
  if taking then h.setNum Obj.swapState swapHandover
  else match h.takeClaim .swap with
    | (none, h) => h.endSwap
    | (some _, h) => h.setNum Obj.swapState swapHandover

/-- What each swap frame from the peer does (R410 to R413). -/
def Hub.swapFrame (h : Hub) (sub arg : Nat) : Hub :=
  let r := h.num Obj.role
  let st := h.num Obj.swapState
  match sub with
  | 1 =>
    if r ≠ roleActive then h
    else if st ≠ swapIdle then h.sendSwap 6 1
    else if h.duplex.digestDiffers then h.sendSwap 6 3
    else { h.startSwap with duplex := { h.startSwap.duplex with askedAt := h.now + 1 } }
  | 2 =>
    if r ≠ roleStandby then h
    else
      let h := h.swapCollides
      if h.duplex.digestDiffers then h.sendSwap 6 3
      else ({ h with duplex := { h.duplex with prepareSeq := arg + 1 } }).tryAck
  | 3 =>
    if r ≠ roleActive ∨ st ≠ swapPrepare then h
    else
      let k := (h.time.ccNumber + 2 + h.latencyCycles) % 2 ^ 32
      (({ h with duplex := { h.duplex with swapK := k + 1 } }).setNum Obj.swapState swapHandover).sendSwap 4 k
  | 4 => if r = roleStandby then h.handover arg else h
  | 5 => if r = roleStandby then h.dropSwap.endSwap.persistRole roleStandby else h
  | 6 =>
    if r = roleStandby then (if arg = 1 then h.swapCollides else { h with duplex := { h.duplex with requested := false } })
    else if r = roleActive ∧ st = swapPrepare then h.abortSwap arg
    else h
  | _ => h

/-- Control cycles from boundary k of the swap to the present one (R412); none without a swap that has a boundary. -/
def Hub.sinceK (h : Hub) : Option Int :=
  if h.duplex.swapK = 0 then none else some (toSigned 32 (h.time.ccNumber + 2 ^ 32 - (h.duplex.swapK - 1)))

/-- Boundary k of the swap is at hand (R412): the heartbeat of this boundary goes out with what the unit is from it (R399). -/
def Hub.atK (h : Hub) : Bool := h.sinceK == some 0 && (h.num Obj.role == roleActive || h.num Obj.role == roleStandby)

/-- A STANDBY whose swap claim the store has confirmed becomes ACTIVE, unless the claim has been seen meanwhile (R392, R412). -/
def Hub.takeOver (h : Hub) (c g : Nat) : Hub :=
  if h.claimUsed c then (h.takeAgain g).heartbeat else (h.becomeActive c g).afterActive

/-- Boundary k has come (R412): the old ACTIVE stops emitting, the STANDBY whose claim the store has confirmed becomes ACTIVE. The one
heartbeat of that boundary goes out here (R399). -/
def Hub.boundaryK (h : Hub) : Hub :=
  if h.atK = false then h
  else if h.num Obj.role = roleActive then (h.setNum Obj.role roleHandover).heartbeat
  else
    match h.duplex.ready with
    | some (c, g) => if g = gainedSwap then h.takeOver c g else h.heartbeat.tryAck
    | none => h.heartbeat.tryAck

/-- The swap timeout (R413). The spec codes no reason for a timeout in the notice: that argument is a free value. -/
def Hub.swapTimeout (h : Hub) : Hub :=
  let reason : BitVec 32 := Config.free 32 h.freeCtr
  if h.num Obj.role = roleActive ∧ h.num Obj.swapState = swapPrepare then h.nextFree.abortSwap reason.toNat
  else if h.num Obj.role = roleHandover then
    let h := { h.nextFree with duplex := { h.duplex with ready := some (h.num Obj.claim, gainedResume) } }
    (h.count Obj.swapsAborted).notice N.duplexSwapAborted fidDuplex [3, reason.toNat]
  else h

/-! ### CLAIM frames -/

/-- Whether a frame's CONTENDING sender outranks this unit (R416). -/
def Hub.outranked (h : Hub) (prole claim unit node : Nat) : Bool :=
  let mine := h.num Obj.persistedRole == roleActive
  let its := prole == roleActive
  if its != mine then its
  else if claim ≠ h.duplex.persisted then decide (h.duplex.persisted < claim)
  else if (unit == 0) != (h.num Obj.dupUnit == 0) then unit == 0
  else decide (node < h.self)

/-- The ACTIVE learns what its STANDBY has applied (R402, R403); a STANDBY that has just entered STANDBY has to be resynchronised. -/
def Hub.mirrorReport (h : Hub) (fresh : Bool) (applied : Nat) : Hub :=
  if fresh || decide (applied < h.num Obj.mirrorSeqApplied) then
    (h.when (h.num Obj.mirrorState == mirOff) (fun h => h.setNum Obj.mirrorState mirBehind)).unsync 4
  else if h.num Obj.mirrorSeqSent < applied then h
  else
    let h := h.setNum Obj.mirrorSeqApplied applied
    let h := { h with duplex := { h.duplex with mirUse := h.duplex.mirUse.filter (fun p => decide (applied < p.1)) } }
    let st := if applied = h.num Obj.mirrorSeqSent then mirSynced else mirBehind
    if h.num Obj.mirrorState ≠ mirUnsynced then h.setNum Obj.mirrorState st
    else if h.duplex.resync = false ∧ h.duplex.mirUntil ≠ 0 ∧ h.duplex.mirUntil ≤ applied + 1 then
      ({ h with duplex := { h.duplex with mirUntil := 0 } }).setNum Obj.mirrorState st
    else h

/-- A STANDBY compares what it has applied with the last record its ACTIVE has sent (R403). -/
def Hub.mirrorFollow (h : Hub) (sent : Nat) : Hub :=
  if h.num Obj.mirrorSeqApplied = 0 then h
  else h.setNum Obj.mirrorState (if h.num Obj.mirrorSeqApplied = sent then mirSynced else mirBehind)

/-- A HEARTBEAT from the peer (R391, R406, R416). -/
def Hub.heard (h : Hub) (src claim : Nat) (p : List Byte) : Hub :=
  let r := h.num Obj.role
  let prole := byteAt p 3
  let arg := beAt p 20 4
  let was := h.num Obj.peerRole
  let h := (h.setNum Obj.peerRole prole).setNum Obj.peerHeard (h.stamp .H)
  if r = roleListening then (if prole = roleContending then h.toContending claim else h.toStandby)
  else if r = roleContending then
    if prole ≠ roleContending then h.toStandby
    else
      let h := { h with duplex := { h.duplex with peerPersisted := max h.duplex.peerPersisted claim } }
      if h.outranked arg claim (byteAt p 2) src then h.toStandby else h
  else if r = roleActive then
    if prole = roleActive ∧ h.num Obj.claim < claim then
      let new := if arg = gainedTakeover then roleOut else roleStandby
      let h := h.notice N.duplexDeposed fidDuplex [new, claim]
      if new = roleStandby then h.toStandby
      else h.toOut.persistRole roleStandby
    else if prole = roleStandby then h.mirrorReport (was != roleStandby || h.num Obj.mirrorState == mirOff) (beAt p 16 4)
    else h.setNum Obj.mirrorState mirOff
  else if r = roleHandover then
    if prole = roleActive ∧ h.num Obj.claim < claim then
      (h.toStandby.count Obj.swapsDone).notice N.duplexSwapDone fidDuplex [roleStandby, claim]
    else h
  else if r = roleStandby ∧ (prole = roleActive ∨ prole = roleHandover) then (h.mirrorFollow (beAt p 16 4)).tryAck
  else h

/-- Nothing is compared (R389): no window runs, no output is mismatched; A and S of each output are kept (R404). -/
def Hub.compareNothing (h : Hub) : Hub :=
  let outs := h.duplex.outs.map (fun p => (p.1, { p.2 with win := false, mismatched := false }))
  (({ h with duplex := { h.duplex with outs := outs } }).setNum Obj.mismatchedOutputs 0).setNum Obj.mismatchRun 0

/-- The digest of the peer (R389): the notice once while it differs; a differing digest suspends every comparison. -/
def Hub.peerDigest (h : Hub) (d : Nat) : Hub :=
  let own := h.dupDigest
  let bad := decide (d ≠ own)
  let h := h.when (bad && !h.duplex.mismatchRaised) (fun h => h.notice N.duplexConfigMismatch fidDuplex [own, d])
  let h := { h with duplex := { h.duplex with digestDiffers := bad, mismatchRaised := bad } }
  h.when bad Hub.compareNothing

/-- A HEARTBEAT of role ACTIVE or HANDOVER raises the record of its group (R393); the highest of a cycle is noted for R417. -/
def Hub.heartbeatRaises (h : Hub) (g claim : Nat) : Hub :=
  let x := SMap.get (fun _ => (0, 0)) h.duplex.raisedAt g
  let c := if x.1 = h.now + 1 then max x.2 claim else claim
  ({ h with duplex := { h.duplex with raisedAt := SMap.set (fun _ => (0, 0)) h.duplex.raisedAt g (h.now + 1, c) } }).raiseRecord g claim

/-- A CLAIM frame of a subtype (R388, R391, R393): the sequence window, the claim record, the peer, then the supervisor. -/
def Hub.claimRx (h : Hub) (west : Bool) (f : RingFrame) (sub : Nat) : Hub :=
  let (ok, h) := h.receive west f
  if !ok || !h.isMember || f.type != tClaim || f.payload.length != 24 || byteAt f.payload 0 != sub then h
  else
    let (pass, h) := h.windowPass f
    if !pass then h
    else
      let g := byteAt f.payload 1
      let prole := byteAt f.payload 3
      let h := h.when (sub == 0 && (prole == roleActive || prole == roleHandover)) (fun h => h.heartbeatRaises g f.claim)
      if !h.inGroup g then h
      else
        let h := h.when (h.num Obj.peerNode == 0) (fun h => h.setNum Obj.peerNode f.src)
        if f.src ≠ h.num Obj.peerNode then
          let h := h.count Obj.foreignHeartbeats
          if h.dueAgain h.duplex.foreignAt 400000000 then
            ({ h with duplex := { h.duplex with foreignAt := h.now + 1 } }).notice N.duplexForeign fidDuplex [f.src]
          else h
        else
          let h := (h.maxNum Obj.maxClaimSeen f.claim).maxNum Obj.maxClaimSeen (beAt f.payload 12 4)
          let h := h.peerDigest (beAt f.payload 8 4)
          if sub = 0 then h.heard f.src f.claim f.payload else h.swapFrame sub (beAt f.payload 20 4)

/-! ### Time -/

/-- A control-cycle boundary at the supervisor (R399, R405, R408, R412, R413): a closing cycle is counted, a confirmed claim takes effect,
then the heartbeat and what follows it. Boundary k of a swap is DUPLEX_SWAP_BOUNDARY_K's. -/
def Hub.dupBoundary (h : Hub) : Hub :=
  if h.num Obj.role = roleOff ∨ h.flag Obj.hubFault = true then h
  else
    let h := if h.num Obj.role ≠ roleStandby then h
      else if h.duplex.digestDiffers = true ∨ h.num Obj.mismatchedOutputs = 0 then h.setNum Obj.mismatchRun 0
      else (h.setNum Obj.mismatchRun (min 255 (h.num Obj.mismatchRun + 1))).count Obj.mismatchCycles
    let late := match h.sinceK with
      | some d => decide (0 < d)
      | none => false
    if h.atK then h
    else match h.duplex.ready with
    | some (c, g) =>
      if g = gainedResume then (h.becomeActive c g).heartbeat
      else if g = gainedTakeover ∨ late = true then h.takeOver c g
      else h.heartbeat.tryAck
    | none => if late && h.num Obj.role == roleActive then (h.setNum Obj.role roleHandover).heartbeat else h.heartbeat.tryAck

/-- dup-listen-cycles boundaries have passed with nothing heard (R415). -/
def Hub.listenExpired (h : Hub) : Hub := if h.num Obj.role = roleListening then h.toContending 0 else h

/-- The third boundary in CONTENDING has passed (R415): a claim is taken; the unit is ACTIVE once the store confirms it. -/
def Hub.contendExpired (h : Hub) : Hub :=
  if h.num Obj.role = roleContending ∧ (match h.duplex.persisting with | some (.start, _) => true | _ => false) = false then
    (h.takeClaim .start).2
  else h

/-- No heartbeat for twice the control cycle and dup-latency (R406). -/
def Hub.heartbeatTimeout (h : Hub) : Hub :=
  if h.num Obj.role = roleStandby then (h.count Obj.heartbeatsMissed).declareFailure 2
  else if h.num Obj.role = roleActive then
    (h.count Obj.heartbeatsMissed).notice N.duplexPeerLost fidDuplex [h.num Obj.peerNode]
  else h

/-- The compare window of an output expires (R405). -/
def Hub.compareExpired (h : Hub) (k : Nat) : Hub :=
  let o := h.dupOut k
  if o.win then h.setDupOut k { o with win := false, mismatched := decide (o.a ≠ o.s) } else h

/-! ### Life cycle -/

/-- The checks at enable (R390, R401): 0 or CONFLICT (7). -/
def Hub.dupStartCheck (h : Hub) : Nat :=
  let need := if h.num Obj.ccMode = 0 then (100000 + h.num Obj.ccPeriod - 1) / h.num Obj.ccPeriod + 1
    else (72 * h.num Obj.ccSlices + 9999) / 10000 + 1
  let bad := h.mirrorEntries.any (fun e =>
    decide (e.1 = 0x1000 ∨ e.1 = 0x1100 ∨ e.1 = 0x1600 ∨ (0x3000 ≤ e.1 ∧ e.1 ≤ 0x3002)) || !populated e.1
      || (h.mirrorSubs e.1 e.2).any (fun s => match findDesc (h.modeOf e.1) e.1 s allBlocks with
          | none => true
          | some (_, d) => decide (d.acc ≠ .rw ∧ d.acc ≠ .rwb) || (d.ty.isDomain && decide (4096 < d.ty.maxLen))))
  if h.num Obj.dupPeerNode ≠ 0 ∧ h.num Obj.dupPeerNode = h.self then 7
  else if h.num Obj.grantedClass01Rate < need ∨ bad = true then 7
  else 0

/-- The supervisor's start is complete: LISTENING (R391, R415). -/
def Hub.dupStart (h : Hub) : Hub :=
  let h := { h with duplex := { h.duplex with
    outs := [], overflowRaised := false, mismatchRaised := false, foreignAt := 0, digestDiffers := false, peerPersisted := 0,
    gained := 0 } }
  let h := (h.dropPersisting.clearCompare.endSwap.setNum Obj.role roleListening).setNum Obj.claim 0
  (((h.maxNum Obj.maxClaimSeen h.duplex.persisted).setNum Obj.peerNode (h.num Obj.dupPeerNode)).setNum Obj.peerRole 0).setNum
    Obj.mirrorState mirOff

/-- The supervisor goes OFF (R391). -/
def Hub.dupStop (h : Hub) : Hub :=
  let h := { h with duplex := { h.duplex with resync := false, mirUse := [], mirTags := [], mirUntil := 0, mirPend := [], mirRead := 0 } }
  (h.dropPersisting.clearCompare.endSwap.setNum Obj.role roleOff).setNum Obj.mirrorState mirOff

/-- dup-rejoin written true (R391). -/
def Hub.dupRejoinWrite (h : Hub) : Hub := if h.num Obj.role = roleOut then h.setNum Obj.role roleListening else h

/-- dup-claim-clear written true (R418). -/
def Hub.dupClaimClearWrite (h : Hub) : Hub :=
  (({ h with duplex := { h.duplex with persisted := 0 } }).setNum Obj.persistedRole 0).persist 64

/-- The claim a record has after a claim-reset (R393, R417): a heartbeat of the same cycle raises it again. -/
def Hub.claimAfterReset (h : Hub) (i : Nat) : Nat :=
  let x := SMap.get (fun _ => (0, 0)) h.duplex.raisedAt (i + 1)
  if x.1 = h.now + 1 then x.2 else 0

/-- claim-reset written (R393, R420): one group, or all. -/
def Hub.claimResetWrite (h : Hub) (g : Nat) : Hub :=
  if g = 0xFF then (List.range 32).foldl (fun h i => h.setNum (Obj.recordedClaim i) (h.claimAfterReset i)) h
  else if 1 ≤ g ∧ g ≤ 32 then h.setNum (Obj.recordedClaim (g - 1)) (h.claimAfterReset (g - 1))
  else h

/-! ### CMD frames and the dispatcher -/

/-- A STANDBY sees a command of its ACTIVE unit (R404). -/
def Hub.snoop (h : Hub) (f : RingFrame) : Hub :=
  if f.src = h.num Obj.peerNode ∧ f.payload.length = 20 ∧ h.inGroup (recGroup f.payload) = true then
    (h.compareCmd true f.dst (f.payload.take 16)).tryAck
  else h

/-- A frame that is not for the hub passes on (R86, R93, R108, R109): its own unwrapped frames are stripped, neighbour frames never pass; a STANDBY
compares the commands of its ACTIVE unit as they pass (R404). -/
def Hub.ridgePass (h : Hub) (west : Bool) (f : RingFrame) : Hub :=
  let (ok, h) := h.frameArrives west f
  if !ok || h.strips f then h
  else
    let h := h.ridge west f
    if f.type = tCmd ∧ f.intact = true ∧ h.num Obj.role = roleStandby ∧ f.src = h.num Obj.peerNode then
      let (pass, h) := h.windowPass f
      if pass then h.snoop f else h
    else h

/-- A CMD frame for this hub crosses the core to the cluster port of its channel and reaches the output stage with SOURCE 3 (R176, R188, R396). -/
def Hub.applyCmd (h : Hub) (west : Bool) (f : RingFrame) : Hub :=
  let r := f.payload.take 16
  let c := recChannel r
  if 192 ≤ c then h
  else if f.payload.length ≠ 20 ∨ recClaim r ≠ f.claim then h.count (Obj.chMalformed c)
  else
    let (pass, h) := h.crossCore (12 + portIx west) (c / 16) f
    if pass then h.boutCommand c (r.take 7 ++ [3] ++ r.drop 8) else h

/-- A CMD frame (R396, R404). -/
def Hub.cmdFrame (h : Hub) (west : Bool) (f : RingFrame) : Hub :=
  if f.dst ≠ h.self ∧ f.dst ≠ broadcastId then h.ridgePass west f
  else
    let (ok, h) := h.receive west f
    if !ok || !h.isMember || f.type != tCmd then h
    else
      let (pass, h) := h.windowPass f
      if pass then (h.applyCmd west (h.delivered f)).snoop f else h

/-- The dispatcher takes the packet at its head (R397). -/
def Hub.dispatchCmd (h : Hub) : Hub :=
  match h.inbox inboxCmd with
  | [] => h
  | d :: ds =>
    let h := (h.setInbox inboxCmd ds).packetTaken
      { data := d.data, queue := d.queue, credits := d.credits, descs := d.descs } true
    let node := byteAt d.data 16
    if d.data.length ≠ 20 ∨ leAt d.data 17 3 ≠ 0 ∨ 64 < node then h.count Obj.cmdMalformed
    else
      let c := recChannel d.data
      let loc := node = 0 ∨ node = h.self
      let g := if loc ∧ c < 192 then h.num (Obj.boutGroup c) else recGroup d.data
      let r := leBytes 4 (if h.inGroup g then d.claim else 0) ++ [BitVec.ofNat 8 g] ++ slice d.data 5 2 ++ [2] ++ slice d.data 8 8
      let (here, h) := h.issueCmd node r
      if here = false ∨ 192 ≤ c then h else h.localCmd 16 r

/-! ### The commands -/

/-- HEARTBEAT_RX (R391). -/
def execHeartbeatRx (west : Bool) (f : RingFrame) (s : State) : Host.Outcome State Fault Refusal :=
  s.answer (fun h => h.claimRx west f 0)
/-- SWAP_REQUEST_RX (R410, R411). -/
def execSwapRequestRx (west : Bool) (f : RingFrame) (s : State) : Host.Outcome State Fault Refusal :=
  s.answer (fun h => h.claimRx west f 1)
/-- SWAP_PREPARE_RX (R412). -/
def execSwapPrepareRx (west : Bool) (f : RingFrame) (s : State) : Host.Outcome State Fault Refusal :=
  s.answer (fun h => h.claimRx west f 2)
/-- SWAP_ACK_RX (R412). -/
def execSwapAckRx (west : Bool) (f : RingFrame) (s : State) : Host.Outcome State Fault Refusal :=
  s.answer (fun h => h.claimRx west f 3)
/-- SWAP_HANDOVER_RX (R412). -/
def execSwapHandoverRx (west : Bool) (f : RingFrame) (s : State) : Host.Outcome State Fault Refusal :=
  s.answer (fun h => h.claimRx west f 4)
/-- SWAP_ABORT_RX (R413). -/
def execSwapAbortRx (west : Bool) (f : RingFrame) (s : State) : Host.Outcome State Fault Refusal :=
  s.answer (fun h => h.claimRx west f 5)
/-- SWAP_REFUSE_RX (R412). -/
def execSwapRefuseRx (west : Bool) (f : RingFrame) (s : State) : Host.Outcome State Fault Refusal :=
  s.answer (fun h => h.claimRx west f 6)
/-- DUPLEX_LISTEN_EXPIRED (R415). -/
def execDuplexListenExpired (s : State) : Host.Outcome State Fault Refusal := s.answer Hub.listenExpired
/-- DUPLEX_CONTEND_EXPIRED (R415). -/
def execDuplexContendExpired (s : State) : Host.Outcome State Fault Refusal := s.answer Hub.contendExpired
/-- DUPLEX_HEARTBEAT_TIMEOUT (R406). -/
def execDuplexHeartbeatTimeout (s : State) : Host.Outcome State Fault Refusal := s.answer Hub.heartbeatTimeout
/-- DUPLEX_MISMATCH_LIMIT (R406): mismatch-run has reached dup-mismatch-limit; a unit whose peer's digest differs declares failure only by
heartbeat. -/
def execDuplexMismatchLimit (s : State) : Host.Outcome State Fault Refusal :=
  s.answer (fun h =>
    if h.duplex.digestDiffers = true ∨ h.num Obj.mismatchRun < h.num Obj.dupMismatchLimit then h else h.declareFailure 1)
/-- DUPLEX_COMPARE_WINDOW_EXPIRED (R405). -/
def execDuplexCompareWindowExpired (node : Fin 128) (c : BitVec 8) (s : State) : Host.Outcome State Fault Refusal :=
  s.answer (fun h => h.compareExpired (node.val * 256 + c.toNat))
/-- DUPLEX_CLAIM_PERSISTED (R392). -/
def execDuplexClaimPersisted (ok : Bool) (s : State) : Host.Outcome State Fault Refusal := s.answer (fun h => h.claimPersisted ok)
/-- DUPLEX_SWAP_BOUNDARY_K (R412). -/
def execDuplexSwapBoundaryK (s : State) : Host.Outcome State Fault Refusal := s.answer Hub.boundaryK
/-- DUPLEX_SWAP_TIMEOUT (R413). -/
def execDuplexSwapTimeout (s : State) : Host.Outcome State Fault Refusal := s.answer Hub.swapTimeout
/-- CMD_DISPATCH_PACKET (R397). -/
def execCmdDispatchPacket (s : State) : Host.Outcome State Fault Refusal := s.answer Hub.dispatchCmd
/-- RIDGE_PASS (R93, R108, R404). -/
def execRidgePass (west : Bool) (f : RingFrame) (s : State) : Host.Outcome State Fault Refusal := s.answer (fun h => h.ridgePass west f)
/-- CMD_RX (R396). -/
def execCmdRx (west : Bool) (f : RingFrame) (s : State) : Host.Outcome State Fault Refusal := s.answer (fun h => h.cmdFrame west f)

end Sys2Proof.Machine
end

