-- ==== Sys2Proof/Machine/Scan.lean ====
section
/-!
DEFINITION. Scan engines (R465 to R475): jobs, their results, halts and failures. The octets a job covers are given by the caller; the
commands are with the registers.
-/
namespace Sys2Proof.Machine

/-! RUN (R472). -/
def scanIdle : Nat := 0
def scanRunning : Nat := 1
def scanDone : Nat := 2
def scanFailed : Nat := 3

def Hub.scan (h : Hub) (e : Nat) : Scan := SMap.get (fun _ => {}) h.scans e

def Hub.setScan (h : Hub) (e : Nat) (x : Scan) : Hub := { h with scans := SMap.set (fun _ => {}) h.scans e x }

/-! Fields of a job (R466). -/
def jobSource (j : List Byte) : Nat := byteAt j 0
def jobProfile (j : List Byte) : Nat := byteAt j 1
def jobContinue (j : List Byte) : Bool := (byteAt j 2).testBit 0
def jobFinal (j : List Byte) : Bool := (byteAt j 2).testBit 1
def jobNotice (j : List Byte) : Bool := (byteAt j 2).testBit 2
def jobPartition (j : List Byte) : Nat := byteAt j 3
def jobAddress (j : List Byte) : Nat := leAt j 4 8
def jobLength (j : List Byte) : Nat := leAt j 12 4
def jobValue (j : List Byte) : Nat := leAt j 16 4

/-- The job an engine runs. -/
def Hub.job (h : Hub) (e : Nat) : List Byte := (h.scan e).job

/-- scan-job was written in this cycle. -/
def Hub.jobLands (h : Hub) (e : Nat) : Bool := (h.scan e).jobAt == h.now + 1

/-- The job a GO starts, and whether there is one: as it was in the cycle before (R467, R469). -/
def Hub.goJob (h : Hub) (e : Nat) : List Byte := if h.jobLands e then (h.scan e).jobWas else h.oct (Obj.scanJob e)
def Hub.goHasJob (h : Hub) (e : Nat) : Bool := if h.jobLands e then (h.scan e).hadJob else (h.scan e).hasJob

/-- A write of scan-job is accepted: what an engine had before it is kept for a GO of the same cycle (R469). -/
def Hub.jobWritten (h : Hub) (e : Nat) : Hub :=
  let x := h.scan e
  h.setScan e (if h.jobLands e then { x with hasJob := true }
    else { x with hasJob := true, jobAt := h.now + 1, jobWas := h.oct (Obj.scanJob e), hadJob := x.hasJob })

/-- Size of a store partition by its code (R466, R569). -/
def partitionSize (code : Nat) : Nat :=
  match code with
  | 0 | 1 | 2 => 0x400000
  | 3 | 4 => 0x80000
  | 5 => 0x200000
  | _ => 0

/-- Whether a range lies in one of the local ranges a scan may read (R130, R466). -/
def localScannable (a n : Nat) : Bool :=
  let inside (lo hi : Nat) := decide (lo ≤ a ∧ a + n ≤ hi)
  inside 0x100000000 0x100200000 || inside 0x1000000000 0x10000C0000 || inside 0x1000100000 0x1000104000
    || inside 0x1000110000 0x1000128000 || inside 0x1000130000 0x1000130C00

/-- The checks of a write of scan-job (R466): 0 or an abort code. -/
def Hub.scanJobCheck (h : Hub) (e : Nat) (j : List Byte) : Nat :=
  let a := jobAddress j
  let n := jobLength j
  let outside := match jobSource j with
    | 0 => decide (0x200000 < a + n)
    | 1 => !localScannable a n
    | 2 => decide (2 ^ 64 < a + n)
    | 3 => decide (partitionSize (jobPartition j) < a + n)
    | _ => true
  let width := match h.profile (jobProfile j) with | some p => p.w | none => 0
  if n = 0 ∨ outside = true ∨ jobProfile j = 0 ∨ 8 < jobProfile j ∨ 2 ^ width ≤ jobValue j then 6
  else if (h.scan e).run = scanRunning then 8
  else if 8 ≤ byteAt j 2 ∨ leAt j 20 4 ≠ 0 ∨ (jobSource j ≠ 3 ∧ jobPartition j ≠ 0) ∨ (jobContinue j = false ∧ jobValue j ≠ 0) then 7
  else 0

/-- The running value of a job after octets (R461). -/
def Hub.scanValue (h : Hub) (j bs : List Byte) : Nat :=
  match h.profile (jobProfile j) with
  | some p => p.run (if jobContinue j then jobValue j else p.init) bs
  | none => 0

/-- What SCANRES takes (R467). -/
def Hub.scanResult (h : Hub) (j : List Byte) (v : Nat) : Nat :=
  match h.profile (jobProfile j) with
  | some p => if jobFinal j then p.finish v else v
  | none => v

/-- A job ends as DONE with a status, a running value over `n` octets (R467, R468). -/
def Hub.scanEnd (h : Hub) (e status n v : Nat) : Hub :=
  let j := h.job e
  let x := h.scan e
  let res := h.scanResult j v
  let sq := (x.jobSeq + 1) % 256
  let h := h.storeDrop (4 + e)
  let h := (h.setScan e { x with run := scanDone, status := status, jobSeq := sq, done := n, val := v, res := res }).count (Obj.jobsDone e)
  h.when (jobNotice j) (fun h => h.notice N.scanDone (fidScan e) [e, sq, res])

/-- A job over host memory that runs is over: its read has ended (R204). -/
def Hub.scanReadEnds (h : Hub) (e : Nat) : Hub :=
  h.when ((h.scan e).run == scanRunning && jobSource (h.job e) == 2) Hub.readEnded

/-- scan-stop written true (R468): the engine halts after the word in progress. How far it has come is a matter of time: the count of
octets is a free value, but for a job that started in this cycle, which stops after its first word (R469); so is the value over octets the hub's
state does not hold. A scan-stop that meets no RUNNING engine is noted for a GO of this cycle. -/
def Hub.scanHalt (h : Hub) (e : Nat) (bytes : Option (List Byte)) : Hub :=
  let x := h.scan e
  if x.run ≠ scanRunning then h.setScan e { x with stopAt := h.now + 1 }
  else
    let j := h.job e
    let k : BitVec 32 := Config.free 32 h.freeCtr
    let first := x.startedAt == h.now + 1 || x.startedAt == x.stopAt
    let n := min (jobLength j) (if first then 8 else 8 * (1 + k.toNat % ((jobLength j + 7) / 8)))
    let v : BitVec 32 := Config.free 32 (h.freeCtr + 1)
    let w := match h.profile (jobProfile j) with | some p => p.w | none => 0
    match bytes with
    | some bs => h.nextFree.scanEnd e 1 n (h.scanValue j (bs.take n))
    | none => (h.scanReadEnds e).nextFree.nextFree.scanEnd e 1 n (v.toNat % 2 ^ w)

/-- A read of a job fails (R468): 2 ECC, 3 DMA_ERROR, 4 STORE_FAULT. The job ends (R467) with what the good words of eight octets give. -/
def Hub.scanFail (h : Hub) (e status : Nat) (bs : List Byte) : Hub :=
  let x := h.scan e
  if x.run ≠ scanRunning then h
  else
    let h := h.storeDrop (4 + e)
    let good := bs.take (bs.length / 8 * 8)
    let v := h.scanValue (h.job e) good
    let h := (h.setScan e { x with
      run := scanFailed, status := status, jobSeq := (x.jobSeq + 1) % 256, done := good.length, val := v
      res := h.scanResult (h.job e) v }).count (Obj.jobsFailed e)
    h.notice N.scanFailed (fidScan e) [e, status, good.length]

/-- A GO bit of an engine (R467); with Bus Master Enable clear, the first read of a HOST job fails (R468). -/
def Hub.scanGo (h : Hub) (e : Nat) : Hub :=
  let x := h.scan e
  if e = 3 ∨ h.isOn (fidScan e) = false ∨ (h.func (fidScan e)).inReset = true ∨ x.run = scanRunning ∨ h.goHasJob e = false then
    h.count (Obj.scanGoIgnored e)
  else
    let j := h.goJob e
    let h := h.setScan e { x with run := scanRunning, status := 0, done := 0, job := j, startedAt := h.now + 1 }
    if jobSource j = 2 then
      if h.canRequest then h.askHost (jobAddress j) (jobLength j) else h.scanFail e 3 []
    else h.when (jobSource j == 3) (fun h => h.storeRequest (4 + e) (jobPartition j) (jobAddress j) (jobLength j))

/-- A function reset, or the end of ON, ends the job (R493): scan-job stays. -/
def Hub.scanAbort (h : Hub) (e : Nat) : Hub :=
  let h := (h.scanReadEnds e).storeDrop (4 + e)
  h.setScan e { h.scan e with run := scanIdle, status := 0, done := 0, val := 0, res := 0 }

/-- user-check after the user profile has been accepted (R459, R460). -/
def Hub.userCheckNow (h : Hub) : Hub :=
  match h.profile 8 with
  | some p => h.setNum Obj.userCheck (p.value (asciiBytes "123456789"))
  | none => h

/-- Whether the user profile may be written (R460). -/
def Hub.userFree (h : Hub) : Bool :=
  ((List.range 4).all (fun e => !((h.scan e).run == scanRunning && jobProfile (h.job e) == 8)))
    && ((List.range 64).all (fun q => h.isOff (fidQueue q) || h.num (Obj.crcProfile q) != 8))
    && ((List.range 192).all (fun c => h.isOff (fidChannel c) || h.num (Obj.chMode c) != 1 || h.num (Obj.uartCrcProfile c) != 8))

end Sys2Proof.Machine
end

