-- ==== Sys2Proof/Machine/Stall.lean ====
section
/-!
DEFINITION. The stall and the sessions of segmented transfers (R427, R430 to R432, R442 to R445): who holds it, how it is granted and
how it becomes vacant. The requests themselves are in Machine/DictService.lean.
-/
namespace Sys2Proof.Machine

/-- Ticks of the LTC in a millisecond. -/
def ticksPerMs : Nat := 400000

/-- The code of a path in an identity (R427). -/
def stallPathCode : Path → Nat
  | .pcie => 1 | .ring => 2 | .station => 3 | .service => 4

/-- The holder identity of a requester (R427). -/
def identityOf (r : Requester) : Nat := stallPathCode r.path * 2 ^ 24 + r.unit % 256 * 2 ^ 16

/-- The weight of a path (R455). -/
def Hub.weight (h : Hub) : Path → Nat
  | .pcie => h.num Obj.weightPcie
  | .ring => h.num Obj.weightRing
  | .station => h.num Obj.weightStation
  | .service => h.num Obj.weightService

/-- Whether a requester holds the stall. -/
def Hub.holdsStall (h : Hub) (r : Requester) : Bool := decide (h.keeper.holder = some r)

/-- The session of a requester (R432: at most one). -/
def Hub.session (h : Hub) (r : Requester) : Option Session := h.keeper.sessions.find? (fun s => s.by_ == r)

/-- Whether a session loads STAGING (R576). -/
def Session.staging (s : Session) : Bool := s.write && s.idx == 0x3402

/-- Close sessions; one that loads STAGING closes without LAST, and LOADING becomes INVALID (R577). -/
def Hub.dropSessions (h : Hub) (gone : Session → Bool) : Hub :=
  let cut := h.keeper.sessions.any (fun s => gone s && s.staging)
  let h := { h with keeper := { h.keeper with sessions := h.keeper.sessions.filter (fun s => !gone s) } }
  h.when (cut && h.num Obj.stagingState == 1) (fun h => h.setNum Obj.stagingState 5)

/-- Close the session of a requester. -/
def Hub.closeSession (h : Hub) (r : Requester) : Hub := h.dropSessions (fun s => s.by_ == r)

/-- Close the write session of a requester (R443). -/
def Hub.closeWriteSession (h : Hub) (r : Requester) : Hub := h.dropSessions (fun s => s.by_ == r && s.write)

/-- Close every session of a path. -/
def Hub.closePathSessions (h : Hub) (p : Path) : Hub := h.dropSessions (fun s => s.by_.path == p)

/-- STALL_CHANGED (R458). -/
def Hub.stallNotice (h : Hub) (old new cause : Nat) : Hub := h.noticeS N.stallChanged fidDict [old, new, cause]

/-- The identity of the holder; 0 when there is none. -/
def Hub.holderId (h : Hub) : Nat := (h.keeper.holder.map identityOf).getD 0

/-- Restart the lease (R443). -/
def Hub.renewLease (h : Hub) : Hub :=
  { h with keeper := { h.keeper with leaseEnd := h.now + h.num Obj.leaseTime * ticksPerMs } }

/-- The stall has no holder: `state` is 0 VACANT or 3 RESERVED. -/
def Hub.clearHolder (h : Hub) (state : Nat) : Hub :=
  let h := { h with keeper := { h.keeper with holder := none } }
  (((h.setNum Obj.stallState state).setNum Obj.holder 0).setOct Obj.holderIp (List.replicate 4 0)).setNum Obj.heldSince 0

/-- Grant the stall to a requester (R442, R444, R445), with the cause of the notice. -/
def Hub.grantStall (h : Hub) (r : Requester) (cause : Nat) : Hub :=
  let old := h.holderId
  let h := match h.keeper.holder with
    | some o => h.closeWriteSession o
    | none => h
  let h := { h with keeper := { h.keeper with holder := some r } }
  let h := (h.setNum Obj.stallState 2).setNum Obj.holder (identityOf r)
  let h := h.setOct Obj.holderIp (if r.path = .station then beBytes 4 r.ip else List.replicate 4 0)
  let h := (h.setNum Obj.heldSince (h.stamp .S)).setNum Obj.reservedFor 0
  h.renewLease.stallNotice old (identityOf r) cause

/-- The stall becomes vacant with a cause; the holder's write session closes (R443, R445). -/
def Hub.vacateStall (h : Hub) (cause : Nat) : Hub :=
  match h.keeper.holder with
  | none => h
  | some r => ((h.closeWriteSession r).clearHolder 0).stallNotice (identityOf r) 0 cause

/-- The holder's path goes away (R445): vacate when the holder meets a condition. -/
def Hub.stallPathGone (h : Hub) (gone : Requester → Bool) : Hub :=
  match h.keeper.holder with
  | none => h
  | some r => h.when (gone r) (fun h => h.vacateStall 5)

/-- The USB device disconnects (R563): its sessions close, its waiting requests and their responses are discarded (R564), and the
stall it holds becomes vacant (R445). -/
def Hub.usbDisconnect (h : Hub) : Hub :=
  if h.svc.usb then
    let h := ({ h with svc := { h.svc with usb := false } }).setNum Obj.usbState 0
    let k := h.keeper
    let h := { h with
      keeper := { k with
        waiting := k.waiting.filter (fun q => q.by_.path != Path.service)
        election := k.election.filter (fun q => q.by_.path != Path.service) } }
    (h.stallPathGone (fun r => r.path == Path.service)).closePathSessions .service
  else h

end Sys2Proof.Machine
end

