-- ==== Sys2Proof/Machine/Power.lean ====
section
/-!
DEFINITION. The feed power path on the sentinel (R503 to R530): feeds and their combination, the hot-swap path's states, trips, power
good, the pass-FET checks, and the events the keeper fetches.
-/
namespace Sys2Proof.Machine

/-- A setting the sentinel runs with (R17, R504). -/
def Hub.pset (h : Hub) (key : Nat) : Nat := (SMap.get dictDefault h.power.settings key).nat

/-- Whether an index is one the sentinel's settings belong to (R525, R526, R566). -/
def sentinelIndex (idx : Nat) : Bool := idx == 0x3100 || idx == 0x3101 || idx == 0x3300

/-- pp-state (R527). -/
def ppWaitSupply : Nat := 0
def ppWaitSeat : Nat := 1
def ppRamp : Nat := 2
def ppOn : Nat := 3
def ppCool : Nat := 4
def ppLatched : Nat := 5
def ppFetFault : Nat := 6

def Hub.pp (h : Hub) : Nat := h.num Obj.ppState

/-- GATE_HS is driven (R510). -/
def Hub.gateHs (h : Hub) : Bool := h.pp == ppRamp || h.pp == ppOn

/-- At least one feed is valid (R510). -/
def Hub.supply (h : Hub) : Bool := h.power.validA || h.power.validB || h.power.validS

/-- FLT_OUT asserted (R490): from feed arrival until the keeper is ready, a hub fault, or FET_FAULT. -/
def Hub.fltOut (h : Hub) : Bool := h.safety.fltStart || h.flag Obj.hubFault || h.pp == ppFetFault

/-- active-feed: the gates that are on (R527). -/
def Hub.showFeeds (h : Hub) : Hub :=
  h.setNum Obj.activeFeed (b2n (h.power.gateA && !h.power.revA) + 2 * b2n (h.power.gateB && !h.power.revB)
    + 4 * b2n h.power.validS)

/-- A reverse comparator lets go once its feed leads COMMON again (R507). -/
def Power.leads (p : Power) (m : PowerSample) : Power :=
  { p with
    revA := p.revA && !decide (m.common.toInt < m.feedA.toInt)
    revB := p.revB && !decide (m.common.toInt < m.feedB.toInt)
    sense := m.sense.toNat }

/-- The round's values reach power-status (R505, R527). -/
def Hub.measure (h : Hub) (m : PowerSample) : Hub :=
  let h := { h with power := h.power.leads m }
  let h := (h.setNum Obj.feedA m.feedA.toNat).setNum Obj.feedB m.feedB.toNat
  let h := ((h.setNum Obj.vbus m.vbus.toNat).setNum Obj.common m.common.toNat).setNum Obj.vout m.vout.toNat
  let h := h.setInt Obj.loadCurrent ((m.sense.toInt * 10000).tdiv (h.pset Obj.senseResistance))
  let h := (h.setNum Obj.gateSource m.gateSource.toNat).setNum Obj.fetNtc m.ntc.toNat
  let h := (h.setNum Obj.sentinelTemperature m.temperature.toNat).setNum Obj.faultTimerLevel m.timer.toNat
  (h.setNum Obj.breakerLevel m.breaker.toNat).showFeeds

/-- Events of R524 among those not fetched. -/
def Power.unfetched (p : Power) : Nat := (p.events.filter (fun e => e.event != 0)).length

/-- Record an event with the notice it brings (R523); one that finds the buffer full is dropped and counted. `event` 0: a notice of
the service port, which brings no log entry. -/
def Hub.powerEvent (h : Hub) (event arg : Nat) (notice : Option (Nat × List Nat)) : Hub :=
  if event ≠ 0 ∧ 32 ≤ h.power.unfetched then
    ({ h with power := { h.power with dropped := true } }).count Obj.logOverflows
  else
    let e : PowerEvent :=
      { event := event, arg := arg, vout := h.num Obj.vout / 10 % 2 ^ 16, sense := h.power.sense, at_ := h.now, notice := notice }
    { h with power := { h.power with events := h.power.events ++ [e] } }

/-! ### Fetching -/

/-- The entry of R524. -/
def PowerEvent.entry (e : PowerEvent) (stamp seq : Nat) : List Byte :=
  leBytes 8 stamp ++ leBytes 1 e.event ++ leBytes 1 e.arg ++ leBytes 2 e.vout ++ leBytes 2 e.sense ++ leBytes 2 seq

/-- The stamp of an event at fetch (R12, R523): ST less its age in 10 µs units; class S or X. -/
def Hub.eventStamp (h : Hub) (e : PowerEvent) : Nat :=
  let l := (e.at_ % 2 ^ 64).toNat
  let age := min (maxWord 32) (ticksBetween l h.now / 4000)
  let cls := if h.num Obj.syncState ≠ syncNever ∧ reached l h.keeper.since = true then Class.S else Class.X
  stamp64 (h.stNs h.now - age * 10000) cls

/-- Write an entry to the power-event log, 32 entries used circularly (R523). -/
def Power.log (p : Power) (e : PowerEvent) (stamp : Nat) : Power :=
  { p with
    slots := SMap.set (fun _ => []) p.slots p.slot (e.entry stamp p.logSeq)
    slot := (p.slot + 1) % 32
    logSeq := (p.logSeq + 1) % 2 ^ 16 }

/-- Fetch one event: its entry and its notice. -/
def Hub.fetchEvent (h : Hub) (e : PowerEvent) : Hub :=
  let stamp := h.eventStamp e
  let h := h.when (e.event != 0) (fun h => { h with power := h.power.log e stamp })
  match e.notice with
  | some (code, args) => h.noticeStamped code (if e.event = 0 then fidService else fidPower) stamp args
  | none => h

/-- The keeper fetches every event (R523, R530). -/
def Hub.fetchEvents (h : Hub) : Hub :=
  let es := h.power.events
  let dropped := h.power.dropped
  let h := { h with power := { h.power with events := [], dropped := false } }
  let h := es.foldl Hub.fetchEvent h
  h.when dropped (fun h => h.noticeS N.powerLogOverflow fidPower [argSat (h.num Obj.logOverflows)])

/-! ### Power good and the hot-swap gate -/

/-- The port sources VBUS no longer and is unattached (R557); the USB device follows the port's roles (R563). -/
def Hub.sourceOff (h : Hub) : Hub :=
  if h.num Obj.attachState = 2 then
    let h := (((h.setNum Obj.attachState 0).setNum Obj.dataRole 0).setNum Obj.pdState 0).setNum Obj.contractVoltage 0
    let h := (h.setNum Obj.contractCurrent 0).setOct Obj.partnerSources []
    ({ h with svc := { h.svc with sent := none, asked := none, drSent := false, drWait := false, vsrc := false } }).usbDisconnect
  else h

/-- Withdraw PG (R518): event 11, the tally, the service port's source switch (R557), and POWER_PG_LOST while GATE_HS stays on. -/
def Hub.withdrawPg (h : Hub) : Hub :=
  if h.flag Obj.pg then
    let lost := if h.gateHs then some (N.powerPgLost, [h.num Obj.vout, h.num Obj.faultTimerLevel]) else none
    (((h.setFlag Obj.pg false).count Obj.pgWithdrawals).powerEvent 11 0 lost).sourceOff
  else h

/-- Leave a state with GATE_HS off: PG is withdrawn (R518). -/
def Hub.gateOff (h : Hub) (pp : Nat) : Hub := (h.setNum Obj.ppState pp).withdrawPg

/-- Enter WAIT_SEAT, or WAIT_SUPPLY when there is none: retries-left is restored (R510). -/
def Hub.waitSeat (h : Hub) : Hub :=
  if h.supply then (h.gateOff ppWaitSeat).setNum Obj.retriesLeft (h.pset Obj.retryCount) else h.gateOff ppWaitSupply

/-- Follow the supply (R510): it came in WAIT_SUPPLY, or it is lost in any state but FET_FAULT. -/
def Hub.followSupply (h : Hub) : Hub :=
  if h.supply then (if h.pp = ppWaitSupply then h.waitSeat else h)
  else if h.pp = ppFetFault ∨ h.pp = ppWaitSupply then h else h.gateOff ppWaitSupply

/-- Enter RAMP (R510). -/
def Hub.ramp (h : Hub) : Hub := (h.setNum Obj.ppState ppRamp).powerEvent 9 0 none

/-- The tally of a trip's cause (R528). -/
def tripTally : Nat → Nat
  | 1 => Obj.tripsTimer
  | 2 => Obj.tripsBreaker
  | 3 => Obj.tripsFast
  | _ => Obj.tripsTemperature

/-- A trip (R510, R517): recorded in any state; in RAMP and ON the path goes to COOL, or to LATCHED with no retries left. -/
def Hub.trip (h : Hub) (cause : Nat) : Hub :=
  let left := h.num Obj.retriesLeft
  let h := (h.count (tripTally cause)).setNum Obj.lastTripCause cause
  let h := h.powerEvent 12 cause (some (N.powerTrip, [cause, h.power.sense, left]))
  if !h.gateHs then h
  else if left = 0 then
    ((h.gateOff ppLatched).count Obj.latchOffs).powerEvent 14 0 (some (N.powerLatchedOff, [cause]))
  else h.gateOff ppCool

/-- A trip that is taken only while the path is in RAMP or ON. -/
def Hub.sampledTrip (h : Hub) (cause : Nat) : Hub := if h.gateHs then h.trip cause else h

/-- A pass-FET check fails (R520). -/
def Hub.fetFault (h : Hub) (cause : Nat) : Hub :=
  let h := ((h.gateOff ppFetFault).setNum Obj.fetFaultCause cause).count Obj.fetFaults
  h.powerEvent 15 cause (some (N.fetFault, [cause, h.num Obj.vout]))

/-! ### Feeds (R506 to R508) -/

/-- PRIORITY is in force. -/
def Hub.priority (h : Hub) : Bool := h.pset Obj.combineMode == 1

def Hub.setGates (h : Hub) (a b : Bool) (dead : Nat) : Hub :=
  ({ h with power := { h.power with gateA := a, gateB := b, dead := dead } }).showFeeds

/-- Turn on the gate the rules of PRIORITY select, when none is on and no dead time runs (R508). -/
def Hub.selectFeed (h : Hub) : Hub :=
  if h.power.gateA || h.power.gateB || h.power.dead != 0 then h
  else h.setGates h.power.validA (!h.power.validA && h.power.validB) 0

/-- Feed A has become valid while B is selected: GATE_B off, dead time toward A (R508). -/
def Hub.preferA (h : Hub) : Hub :=
  if h.power.validA && h.power.gateB && h.power.dead == 0 then h.setGates false false 1 else h

/-- The gates follow the feeds: NATIVE drives the gate of every valid feed, PRIORITY one at most. -/
def Hub.combine (h : Hub) : Hub :=
  if h.priority then h.selectFeed.preferA else h.setGates h.power.validA h.power.validB 0

/-- combine-mode has been written (R508): from NATIVE to PRIORITY the gate that is not selected goes off. -/
def Hub.combineModeChanged (h : Hub) : Hub :=
  if h.priority && h.power.gateA && h.power.gateB then h.setGates true false 0 else h.combine

/-- The notice and bookkeeping of a feed that becomes valid: feed 1 A, 2 B, 3 service. -/
def Hub.feedEvent (h : Hub) (feed mv : Nat) (valid : Bool) : Hub :=
  if valid then
    let again := h.power.lost.testBit feed
    let h := h.powerEvent (2 * feed - 1) 0 (if again then some (N.powerFeedRestored, [feed, mv]) else none)
    { h with power := { h.power with lost := clearBit h.power.lost feed } }
  else
    let h := h.powerEvent (2 * feed) 0 (some (N.powerFeedLost, [feed, mv]))
    { h with power := { h.power with lost := setBit h.power.lost feed } }

/-- A feed becomes valid (R506). -/
def Hub.feedValid (h : Hub) (b : Bool) (mv : Nat) : Hub :=
  if (if b then h.power.validB else h.power.validA) then h
  else
    let p := if b then { h.power with validB := true, revB := false } else { h.power with validA := true, revA := false }
    let h := { h with power := p }
    (((h.feedEvent (if b then 2 else 1) mv true)).combine).followSupply

/-- A feed is lost: its gate goes off at once; in PRIORITY the loss of the selected feed starts the dead time toward the other, and
the loss of the feed about to be switched on starts selection again (R506, R508). -/
def Hub.feedLost (h : Hub) (b : Bool) (mv : Nat) : Hub :=
  if !(if b then h.power.validB else h.power.validA) then h
  else
    let selected := if b then h.power.gateB else h.power.gateA
    let toward := decide (h.power.dead = (if b then 2 else 1))
    let p := if b then { h.power with validB := false } else { h.power with validA := false }
    let h := { h with power := p }
    let h := h.count (if b then Obj.feedBLosses else Obj.feedALosses)
    let h := h.feedEvent (if b then 2 else 1) mv false
    let h :=
      if !h.priority then h.combine
      else if selected then h.setGates false false (if b then 1 else 2)
      else if toward then (h.setGates false false 0).combine
      else h
    h.followSupply

/-- The service feed becomes valid or invalid (R506). -/
def Hub.serviceFeed (h : Hub) (valid : Bool) : Hub :=
  if valid = h.power.validS then h
  else
    let h := ({ h with power := { h.power with validS := valid } }).showFeeds
    (h.feedEvent 3 (h.num Obj.vbus) valid).followSupply

/-- The settings that wait come into force (R17, R525). -/
def Hub.takeSettings (h : Hub) : Hub :=
  { h with power := { h.power with settings := h.power.nextSettings.getD h.power.settings, nextSettings := none } }

/-- What settings that have come into force change at once: the feed combination (R508), and the service feed while it is not allowed (R506). -/
def Hub.settingsAct (h : Hub) (oldMode : Nat) : Hub :=
  (h.when (oldMode != h.pset Obj.combineMode) Hub.combineModeChanged).when (h.pset Obj.serviceFeedEnable == 0) (fun h => h.serviceFeed false)

/-- The fault timer leaves 0 with the setting in force, keeps it while it runs, and is idle at 0 (R513). -/
def Hub.timerStarts (h : Hub) (level : Nat) : Hub :=
  { h with power := { h.power with
    timerLimit := if level = 0 then 0 else if h.power.timerLimit = 0 then h.pset Obj.faultTimer else h.power.timerLimit } }

/-- A round of the converter, at the end of which decisions are taken on its values (R505): settings that wait come into force (R17). -/
def Hub.round (h : Hub) (m : PowerSample) : Hub :=
  ((h.takeSettings.measure m).settingsAct (h.pset Obj.combineMode)).timerStarts m.timer.toNat

/-- FEED_QUALIFIED (R506). -/
def execFeedQualified (b : Bool) (m : PowerSample) (s : State) : Host.Outcome State Fault Refusal :=
  s.answer (fun h => (h.round m).feedValid b (if b then m.feedB.toNat else m.feedA.toNat))

/-- FEED_UNDERVOLTAGE (R506). -/
def execFeedUndervoltage (b : Bool) (m : PowerSample) (s : State) : Host.Outcome State Fault Refusal :=
  s.answer (fun h => (h.round m).feedLost b (if b then m.feedB.toNat else m.feedA.toNat))

/-- FEED_OVERVOLTAGE (R506). -/
def execFeedOvervoltage (b : Bool) (m : PowerSample) (s : State) : Host.Outcome State Fault Refusal :=
  s.answer (fun h => (h.round m).feedLost b (if b then m.feedB.toNat else m.feedA.toNat))

/-- REVERSE_CURRENT (R507): the comparator pulls the feed's gate until the feed leads again. -/
def execReverseCurrent (b : Bool) (m : PowerSample) (s : State) : Host.Outcome State Fault Refusal :=
  s.answer (fun h =>
    let h := h.round m
    let p := if b then { h.power with revB := true } else { h.power with revA := true }
    ({ h with power := p }).showFeeds)

/-- DEAD_TIME_EXPIRED (R508): the other gate goes on if its feed is valid; a return to A then follows at once. -/
def execDeadTimeExpired (m : PowerSample) (s : State) : Host.Outcome State Fault Refusal :=
  s.answer (fun h =>
    let h := h.round m
    let d := h.power.dead
    if d = 0 then h
    else if (if d = 1 then h.power.validA else h.power.validB) then
      let h := (h.setGates (d == 1) (d == 2) 0).count Obj.switchovers
      (h.powerEvent 17 d (some (N.powerSwitchover, [d]))).preferA
    else (h.setGates false false 0).selectFeed)

/-- SERVICE_FEED_CHANGE (R506): valid while VBUS_S is within its limits, service-feed-enable is true and the port does not source. -/
def execServiceFeedChange (inLimits : Bool) (m : PowerSample) (s : State) : Host.Outcome State Fault Refusal :=
  s.answer (fun h =>
    let h := h.round m
    h.serviceFeed (inLimits && h.pset Obj.serviceFeedEnable != 0 && h.num Obj.attachState != 2))

/-! ### Seating, ramp, trips -/

/-- SEAT_DEBOUNCED (R510). -/
def execSeatDebounced (m : PowerSample) (s : State) : Host.Outcome State Fault Refusal :=
  s.answer (fun h =>
    let h := h.round m
    if h.pp = ppWaitSeat then (h.powerEvent 7 0 none).ramp else h)

/-- SEAT_RELEASE (R510). -/
def execSeatRelease (m : PowerSample) (s : State) : Host.Outcome State Fault Refusal :=
  s.answer (fun h =>
    let h := h.round m
    if h.gateHs || h.pp == ppCool || h.pp == ppLatched then
      (h.count Obj.extractions).waitSeat.powerEvent 8 0 none
    else h)

/-- RAMP_COMPLETE (R510). -/
def execRampComplete (m : PowerSample) (s : State) : Host.Outcome State Fault Refusal :=
  s.answer (fun h =>
    let h := h.round m
    if h.pp = ppRamp then h.setNum Obj.ppState ppOn else h)

/-- RAMP_TIMEOUT (R510). -/
def execRampTimeout (m : PowerSample) (s : State) : Host.Outcome State Fault Refusal :=
  s.answer (fun h =>
    let h := h.round m
    if h.pp = ppRamp then h.setNum Obj.ppState ppOn else h)

/-- FAULT_TIMER_EXPIRED (R513): the level, in steps of 10 µs, has reached the fault-timer that the timer started with (R17). -/
def execFaultTimerExpired (m : PowerSample) (s : State) : Host.Outcome State Fault Refusal :=
  s.answer (fun h =>
    let h := h.round m
    if m.timer.toNat < h.power.timerLimit * 100 then h else h.sampledTrip 1)

/-- BREAKER_TRIP (R515): with breaker-enable. -/
def execBreakerTrip (m : PowerSample) (s : State) : Host.Outcome State Fault Refusal :=
  s.answer (fun h =>
    let h := h.round m
    if h.pset Obj.breakerEnable = 0 then h else h.sampledTrip 2)

/-- FAST_COMPARATOR_TRIP (R516): a trip whatever the state. -/
def execFastComparatorTrip (m : PowerSample) (s : State) : Host.Outcome State Fault Refusal :=
  s.answer (fun h => (h.round m).trip 3)

/-- FET_TEMPERATURE_TRIP (R517): off with fet-ntc-trip 0. -/
def execFetTemperatureTrip (m : PowerSample) (s : State) : Host.Outcome State Fault Refusal :=
  s.answer (fun h =>
    let h := h.round m
    if h.pset Obj.fetNtcTrip = 0 then h else h.sampledTrip 4)

/-- COOL_EXPIRED (R510): retries-left falls by 1 and RAMP starts again. -/
def execCoolExpired (m : PowerSample) (s : State) : Host.Outcome State Fault Refusal :=
  s.answer (fun h =>
    let h := h.round m
    if h.pp = ppCool then
      let h := (h.setNum Obj.retriesLeft (h.num Obj.retriesLeft - 1)).count Obj.retries
      (h.powerEvent 13 0 none).ramp
    else h)

/-- RETRIES_RESTORE (R510): 10 s of ON with PG asserted. -/
def execRetriesRestore (s : State) : Host.Outcome State Fault Refusal :=
  s.answer (fun h =>
    if h.pp = ppOn ∧ h.flag Obj.pg then h.setNum Obj.retriesLeft (h.pset Obj.retryCount) else h)

/-- PG_QUALIFIED (R518): not while the fault timer runs (R521), nor below pg-threshold. -/
def execPgQualified (m : PowerSample) (s : State) : Host.Outcome State Fault Refusal :=
  s.answer (fun h =>
    let h := h.round m
    if h.gateHs && !h.flag Obj.pg && decide (m.timer = 0 ∧ (h.pset Obj.pgThreshold : Int) ≤ m.vout.toInt) then
      (h.setFlag Obj.pg true).powerEvent 10 0 none
    else h)

/-- PG_WITHDRAWN (R518). -/
def execPgWithdrawn (m : PowerSample) (s : State) : Host.Outcome State Fault Refusal :=
  s.answer (fun h => (h.round m).withdrawPg)

/-- GATE_CHECK (R519): 5 ms after entry to ON the gate-source voltage is below 4 V. -/
def execGateCheck (m : PowerSample) (s : State) : Host.Outcome State Fault Refusal :=
  s.answer (fun h =>
    let h := h.round m
    if h.pp = ppOn ∧ h.pset Obj.gateCheckEnable ≠ 0 ∧ m.gateSource.toInt < 4000 then h.fetFault 1 else h)

/-- OUTPUT_CHECK_FAIL (R520): with GATE_HS commanded off. -/
def execOutputCheckFail (m : PowerSample) (s : State) : Host.Outcome State Fault Refusal :=
  s.answer (fun h =>
    let h := h.round m
    if !h.gateHs ∧ h.pset Obj.outputCheckEnable ≠ 0 then h.fetFault 2 else h)

/-- The effect of fet-fault-clear written true (R510). -/
def Hub.fetFaultClearWrite (h : Hub) : Hub :=
  if h.pp = ppFetFault then ((h.setNum Obj.fetFaultCause 0).waitSeat).powerEvent 16 0 none else h

/-! ### Start, stop, fetch -/

/-- What the sentinel keeps when it loses its supply: the power-event log, which is in PERSIST (R504, R523). -/
def Power.restart (p : Power) : Power := { slots := p.slots, slot := p.slot, logSeq := p.logSeq }

/-- The objects that the sentinel holds return to their power-up values: power-status, power-tallies, service-status. -/
def sentinelObjects (key : Nat) : Bool := key / 256 == 0x3102 || key / 256 == 0x3103 || key / 256 == 0x3301

/-- Every sentinel state, setting and unfetched event is lost (R504). -/
def Hub.sentinelLost (h : Hub) : Hub :=
  let h := h.usbDisconnect
  { h with
    power := h.power.restart
    svc := {}
    dict := h.dict.filter (fun p => !sentinelObjects p.1) }

/-- SENTINEL_START (R504): power-up settings; FLT_OUT is asserted from feed arrival (R490). -/
def execSentinelStart (s : State) : Host.Outcome State Fault Refusal :=
  s.answer (fun h =>
    let h := h.sentinelLost
    { h with safety := { h.safety with fltStart := true } })

/-- SENTINEL_STOP (R504). -/
def execSentinelStop (s : State) : Host.Outcome State Fault Refusal := s.answer Hub.sentinelLost

/-- POWER_EVENT_FETCH (R523): while the keeper runs. -/
def execPowerEventFetch (s : State) : Host.Outcome State Fault Refusal :=
  s.answer (fun h => h.when h.keeper.ready Hub.fetchEvents)

end Sys2Proof.Machine
end

