-- ==== Sys2Proof/Machine/Service.lean ====
section
/-!
DEFINITION. The service port (R555 to R568): attachment, the Power Delivery engine, the moisture test and the USB device.
-/
namespace Sys2Proof.Machine

/-- A notice of the service port (R568): raised at once while the keeper runs, otherwise at its start with the stamp of R523. -/
def Hub.svcNotice (h : Hub) (code : Nat) (args : List Nat) : Hub :=
  if h.keeper.ready then h.noticeS code fidService args else h.powerEvent 0 0 (some (code, args))

/-- The message type number of Power Delivery (a log entry names its source). -/
def pdTypeCode : PdKind → Nat
  | .sourceCapabilities => 1 | .request => 2 | .accept => 3 | .reject => 4 | .psRdy => 6 | .getSourceCap => 7
  | .getSinkCap => 8 | .drSwap => 9 | .softReset => 13 | .sinkCapabilities => 4 | .notSupported => 16 | .goodCrc => 1

/-- Send a message with the next MessageID (R560); it waits for GoodCRC. -/
def Hub.sendPd (h : Hub) (k : PdKind) (data : List Nat) : Hub :=
  let id := h.svc.txId
  ({ h with svc := { h.svc with txId := (id + 1) % 8, sent := some (k, id, data), tries := 0 } }).emit (.pd (.msg k id data))

/-- A message with a valid CRC (R560): it is acknowledged, and a repeated one is discarded. -/
def Hub.rxPd (h : Hub) (id : Fin 8) (f : Hub → Hub) : Hub :=
  if h.num Obj.attachState = 0 then h
  else
    let h := h.emit (.pd (.msg .goodCrc id.val []))
    if h.svc.rxId = some id.val then h
    else f { h with svc := { h.svc with rxId := some id.val } }

/-- The PDO the port offers (R557). -/
def sourcePdo : Nat := 0x26019096

/-- A fixed PDO: voltage in mV and current in mA (bits 31:30 are 0). -/
def fixedPdo (w : Nat) : Option (Nat × Nat) :=
  if w / 2 ^ 30 % 4 = 0 then some (bits w 19 10 * 50, bits w 9 0 * 10) else none

/-- The voltages a Request may name, highest first (R558): 5 V alone in dry-wait. -/
def Hub.sinkVolts (h : Hub) : List Nat :=
  let v := h.pset Obj.sinkVoltages
  if h.flag Obj.dryWait then [5000]
  else (if v.testBit 2 then [15000] else []) ++ (if v.testBit 1 then [9000] else []) ++ [5000]

/-- Position, from 1, and PDO of the first offered fixed PDO of a voltage. -/
def findPdo (mv : Nat) : Nat → List Nat → Option (Nat × Nat)
  | _, [] => none
  | i, w :: ws =>
    match fixedPdo w with
    | some (v, ma) => if v = mv then some (i, ma) else findPdo mv (i + 1) ws
    | none => findPdo mv (i + 1) ws

/-- The highest enabled voltage that is offered: voltage, position, maximum current. -/
def choosePdo (pdos : List Nat) : List Nat → Option (Nat × Nat × Nat)
  | [] => none
  | v :: vs =>
    match findPdo v 1 pdos with
    | some (i, ma) => some (v, i, ma)
    | none => choosePdo pdos vs

/-- The PDOs of partner-sources. -/
def Hub.partnerPdos (h : Hub) : List Nat := (chunks 4 7 (h.oct Obj.partnerSources)).map leNat

/-- Request the highest enabled voltage at the lesser of its current and sink-max-current, without Capability Mismatch (R558). -/
def Hub.requestPower (h : Hub) : Hub :=
  match choosePdo h.partnerPdos h.sinkVolts with
  | none => h
  | some (v, i, ma) =>
    let a := min ma (h.pset Obj.sinkMaxCurrent)
    let h := (h.sendPd .request [i * 2 ^ 28 + 2 ^ 25 + a / 10 * 1024 + a / 10]).setNum Obj.pdState 1
    { h with svc := { h.svc with asked := some (v, a) } }

/-- An explicit contract is made (R557, R568). -/
def Hub.contract (h : Hub) (mv ma : Nat) : Hub :=
  let h := ((h.setNum Obj.contractVoltage mv).setNum Obj.contractCurrent ma).setNum Obj.pdState 2
  let h := { h with svc := { h.svc with asked := none } }
  (h.count Obj.contracts).svcNotice N.serviceContract [mv, ma]

/-- The unattached state. -/
def Hub.unattached (h : Hub) : Hub :=
  let h := h.usbDisconnect
  let h := (((h.setNum Obj.attachState 0).setNum Obj.dataRole 0).setNum Obj.pdState 0).setNum Obj.contractVoltage 0
  let h := (h.setNum Obj.contractCurrent 0).setOct Obj.partnerSources []
  { h with svc := { h.svc with sent := none, asked := none, drSent := false, drWait := false, vsrc := false } }

/-- The port may attach as source (R556, R557). -/
def Hub.maySource (h : Hub) : Bool :=
  h.flag Obj.pg && h.pset Obj.sourceEnable != 0 && !h.flag Obj.dryWait && !h.svc.blocked

/-- SERVICE_ATTACH (R556): as source the port drives GATE_VSRC and offers its PDO (R557), and the service feed is not valid (R506). -/
def execServiceAttach (source : Bool) (s : State) : Host.Outcome State Fault Refusal :=
  s.answer (fun h =>
    if h.num Obj.attachState ≠ 0 || (source && !h.maySource) then h
    else
      let st := if source then 2 else 1
      let h := ((h.setNum Obj.attachState st).setNum Obj.dataRole (if source then 2 else 1)).count Obj.attaches
      let h := { h with svc := { h.svc with txId := 0, rxId := none, sent := none, vsrc := source } }
      let h := h.svcNotice N.serviceAttached [st, if source then 2 else 1]
      if source then ((h.serviceFeed false).sendPd .sourceCapabilities [sourcePdo]).setNum Obj.pdState 1 else h)

/-- SERVICE_DETACH (R556). -/
def execServiceDetach (s : State) : Host.Outcome State Fault Refusal :=
  s.answer (fun h =>
    let there := h.num Obj.attachState != 0 || h.svc.blocked
    let h := h.unattached
    let h := { h with svc := { h.svc with blocked := false } }
    h.when there (fun h => h.svcNotice N.serviceDetached []))

/-- PD_SOURCE_CAPABILITIES_RX (R558): as sink. -/
def execPdSourceCapabilitiesRx (id : Fin 8) (pdos : List (BitVec 32)) (s : State) : Host.Outcome State Fault Refusal :=
  s.answer (fun h => h.rxPd id (fun h =>
    if h.num Obj.attachState = 1 then
      (h.setOct Obj.partnerSources ((pdos.take 7).flatMap (fun w => leBytes 4 w.toNat))).requestPower
    else h.sendPd .notSupported []))

/-- PD_REQUEST_RX (R557): as source, a Request for the 5 V PDO at no more than its current is accepted. -/
def execPdRequestRx (id : Fin 8) (rdo : BitVec 32) (s : State) : Host.Outcome State Fault Refusal :=
  s.answer (fun h => h.rxPd id (fun h =>
    if h.num Obj.attachState ≠ 2 then h.sendPd .notSupported []
    else if rdo.toNat / 2 ^ 28 % 8 = 1 ∧ bits rdo.toNat 19 10 ≤ 150 then
      ((h.sendPd .accept []).sendPd .psRdy []).contract 5000 (bits rdo.toNat 19 10 * 10)
    else h.sendPd .reject []))

/-- PD_PS_RDY_RX (R557): as sink, the contract that was asked for; in dry-wait one above 5 V is renegotiated (R564). -/
def execPdPsRdyRx (id : Fin 8) (s : State) : Host.Outcome State Fault Refusal :=
  s.answer (fun h => h.rxPd id (fun h =>
    match h.svc.asked with
    | none => h
    | some (v, a) =>
      let h := h.contract v a
      h.when (h.flag Obj.dryWait && decide (5000 < v)) Hub.requestPower))

/-- PD_DR_SWAP_SEND (R557): once, after the first contract as source. -/
def execPdDrSwapSend (s : State) : Host.Outcome State Fault Refusal :=
  s.answer (fun h =>
    if h.num Obj.attachState = 2 ∧ h.num Obj.pdState = 2 ∧ h.svc.drSent = false then
      let h := h.sendPd .drSwap []
      { h with svc := { h.svc with drSent := true, drWait := true } }
    else h)

/-- PD_DR_SWAP_RESPONSE_RX (R557): Accept makes the hub UFP; Reject leaves it DFP. -/
def execPdDrSwapResponseRx (id : Fin 8) (accept : Bool) (s : State) : Host.Outcome State Fault Refusal :=
  s.answer (fun h => h.rxPd id (fun h =>
    if h.svc.drWait then
      ({ h with svc := { h.svc with drWait := false } }).when accept (fun h => h.setNum Obj.dataRole 1)
    else h))

/-- PD_DR_SWAP_RX (R559): one that would make the hub DFP is rejected; one that makes it UFP is accepted. -/
def execPdDrSwapRx (id : Fin 8) (s : State) : Host.Outcome State Fault Refusal :=
  s.answer (fun h => h.rxPd id (fun h =>
    if h.num Obj.dataRole = 2 then (h.sendPd .accept []).setNum Obj.dataRole 1 else h.sendPd .reject []))

/-- PD_SWAP_REJECT (R559). -/
def execPdSwapReject (id : Fin 8) (_vconn : Bool) (s : State) : Host.Outcome State Fault Refusal :=
  s.answer (fun h => h.rxPd id (fun h => h.sendPd .reject []))

/-- PD_GET_SINK_CAP_RX (R558): one fixed PDO for each enabled voltage, at sink-max-current. -/
def execPdGetSinkCapRx (id : Fin 8) (s : State) : Host.Outcome State Fault Refusal :=
  s.answer (fun h => h.rxPd id (fun h =>
    let v := h.pset Obj.sinkVoltages
    let volts := 5000 :: (if v.testBit 1 then [9000] else []) ++ (if v.testBit 2 then [15000] else [])
    h.sendPd .sinkCapabilities (volts.map (fun mv => mv / 50 * 1024 + h.pset Obj.sinkMaxCurrent / 10))))

/-- PD_OTHER_MESSAGE_RX (R559). -/
def execPdOtherMessageRx (id : Fin 8) (s : State) : Host.Outcome State Fault Refusal :=
  s.answer (fun h => h.rxPd id (fun h => h.sendPd .notSupported []))

/-- Hard Reset (R560): error recovery; the contract ends, MessageIDs start again, and a source offers its PDO again. -/
def Hub.hardReset (h : Hub) : Hub :=
  let h := (h.count Obj.hardResets).setNum Obj.pdState 3
  let h := (h.setNum Obj.contractVoltage 0).setNum Obj.contractCurrent 0
  let h := { h with svc := { h.svc with txId := 0, rxId := none, sent := none, asked := none, drWait := false } }
  h.when (h.num Obj.attachState == 2) (fun h => h.sendPd .sourceCapabilities [sourcePdo])

/-- PD_GOODCRC_TIMEOUT (R560): two retries, then Soft Reset; a Soft Reset that is not acknowledged is followed by Hard Reset. -/
def execPdGoodcrcTimeout (s : State) : Host.Outcome State Fault Refusal :=
  s.answer (fun h =>
    match h.svc.sent with
    | none => h
    | some (k, id, data) =>
      if h.svc.tries < 2 then
        (({ h with svc := { h.svc with tries := h.svc.tries + 1 } }).count Obj.goodcrcRetries).emit (.pd (.msg k id data))
      else
        let h := (h.count Obj.retryExhausted).svcNotice N.servicePdRetryExhausted [pdTypeCode k]
        if k = .softReset then (h.emit (.pd .hardReset)).hardReset
        else
          let h := { h with svc := { h.svc with txId := 0, rxId := none, asked := none, drWait := false } }
          (h.sendPd .softReset []).setNum Obj.pdState 1)

/-- PD_HARD_RESET_RX (R560). -/
def execPdHardResetRx (s : State) : Host.Outcome State Fault Refusal :=
  s.answer (fun h => if h.num Obj.attachState = 0 then h else h.hardReset)

/-- VBUS_SOURCE_LOW (R557): GATE_VSRC off, unattached, no sourcing until the partner has detached. -/
def execVbusSourceLow (mv : BitVec 32) (s : State) : Host.Outcome State Fault Refusal :=
  s.answer (fun h =>
    if h.num Obj.attachState = 2 ∧ h.svc.vsrc = true then
      let h := ((h.setNum Obj.vbus mv.toNat).count Obj.sourceFaults).svcNotice N.serviceSourceFault [mv.toNat]
      let h := h.unattached
      { h with svc := { h.svc with blocked := true } }
    else h)

/-- MOISTURE_TEST (R561, R562): while attached SBU1 and SBU2 only; any tested pin below the threshold brings dry-wait, two rounds
without one end it. -/
def execMoistureTest (cc1 cc2 sbu1 sbu2 : Option (BitVec 16)) (s : State) : Host.Outcome State Fault Refusal :=
  s.answer (fun h =>
    let att := h.num Obj.attachState
    let pins := if att = 0 then [cc1, cc2, sbu1, sbu2] else [none, none, sbu1, sbu2]
    let tested := pins.filterMap (fun p => p.map BitVec.toNat)
    if h.pset Obj.moistureEnable = 0 ∨ tested = [] then h
    else
      let low := tested.foldl min 0xFFFF
      let wet := decide (low < h.pset Obj.moistureThreshold)
      let h := h.setOct Obj.moistureLast (pins.flatMap (fun p => leBytes 2 ((p.map BitVec.toNat).getD 0xFFFF)))
      if wet then
        let h := { h with svc := { h.svc with dryRounds := 0 } }
        if h.flag Obj.dryWait then h
        else
          let h := ((h.setFlag Obj.dryWait true).count Obj.moistureDetections).svcNotice N.serviceMoisture [1, low]
          h.when (att == 1 && h.svc.asked.isNone && decide (5000 < h.num Obj.contractVoltage)) Hub.requestPower
      else if h.flag Obj.dryWait then
        if h.svc.dryRounds + 1 < 2 then { h with svc := { h.svc with dryRounds := h.svc.dryRounds + 1 } }
        else
          let h := { h with svc := { h.svc with dryRounds := 0 } }
          let h := (h.setFlag Obj.dryWait false).svcNotice N.serviceMoisture [0, low]
          h.when (att == 1) (fun h => h.sendPd .getSourceCap [])
      else h)

/-- USB_CONNECT (R563). -/
def execUsbConnect (s : State) : Host.Outcome State Fault Refusal :=
  s.answer (fun h =>
    if h.isOn fidService && h.keeper.ready && h.num Obj.dataRole == 1 && !h.svc.usb then
      ({ h with svc := { h.svc with usb := true } }).setNum Obj.usbState 1
    else h)

/-- USB_BUS_STATE_CHANGE (R563). -/
def execUsbBusStateChange (configured suspended : Bool) (s : State) : Host.Outcome State Fault Refusal :=
  s.answer (fun h =>
    if h.svc.usb then h.setNum Obj.usbState (if suspended then 3 else if configured then 2 else 1) else h)

end Sys2Proof.Machine
end

