-- ==== Sys2Proof/Machine/Life.lean ====
section
/-!
DEFINITION. The life cycle every function shares (R30 to R34) and the per-function reset (R492 to R495): what each function checks as it
starts, does as it enters ON, gives up as it leaves, and clears as it goes OFF.
-/
namespace Sys2Proof.Machine

/-- A function that can be enabled on its own (R30, R479). -/
inductive Fn where
  | channel (c : Nat) | cluster (k : Nat) | can (n : Nat) | seq (s : Nat) | queue (q : Nat) | window (w : Nat)
  | aperture (a : Nat) | port (p : Nat) | ringPort (i : Nat) | station (p : Nat) | gocb (g : Nat) | sub (u : Nat)
  | scan (e : Nat) | duplex | service | ptp
deriving DecidableEq, Repr

/-- The function a FUNC_ID names (R479); none: unassigned, or a block that has no life cycle. -/
def fnOf (fid : Nat) : Option Fn :=
  let i := fid % 256
  if fid = 0xC then some .duplex
  else if fid = 0xD then some .service
  else if fid = 0xE then some .ptp
  else match fid / 256 with
    | 0x1 => if i < 192 then some (.channel i) else none
    | 0x2 => if i < 12 then some (.cluster i) else none
    | 0x3 => if i < 48 then some (.can i) else none
    | 0x4 => if i < 24 then some (.seq i) else none
    | 0x5 => if i < 64 then some (.queue i) else none
    | 0x6 => if i < 16 then some (.window i) else if i < 32 then some (.aperture (i - 16)) else none
    | 0x7 => if i < 18 then some (.port i) else none
    | 0x8 => if i < 2 then some (.ringPort i) else none
    | 0x9 => if i < 2 then some (.station i) else none
    | 0xA => if i < 128 then some (.gocb i) else none
    | 0xB => some (.sub i)
    | 0xC => if i < 3 then some (.scan i) else none
    | _ => none

/-- The enable object of a function; a cluster has none (R243). -/
def Fn.enableKey : Fn → Option Nat
  | .channel c => some (Obj.chEnable c)
  | .cluster _ => none
  | .can n => some (Obj.canEnable n)
  | .seq s => some (Obj.seqEnable s)
  | .queue q => some (Obj.qEnable q)
  | .window w => some (Obj.winEnable w)
  | .aperture a => some (Obj.apEnable a)
  | .port p => some (Obj.portPortEnable p)
  | .ringPort i => some (Obj.rportPortEnable i)
  | .station p => some (Obj.staPortPortEnable p)
  | .gocb g => some (Obj.gocbEnable g)
  | .sub u => some (Obj.subEnable u)
  | .scan e => some (Obj.scanEnable e)
  | .duplex => some Obj.dupEnable
  | .service => some Obj.svcEnable
  | .ptp => some Obj.ptpEnable

/-- Whether a function's enable object is true. -/
def Hub.enabled (h : Hub) (f : Fn) : Bool :=
  match f.enableKey with
  | some k => h.flag k
  | none => false

/-- The FUNC_ID of the function whose dictionary table an index belongs to. -/
def indexFid (idx : Nat) : Option Nat :=
  if 0x2340 ≤ idx ∧ idx < 0x2370 then some (fidCan (idx - 0x2340))
  else allBlocks.findSome? (fun b =>
    if b.base ≤ idx ∧ idx < b.base + b.count then b.fid.map (fun f => f + (idx - b.base)) else none)

/-- The function an enable object belongs to. -/
def enableOf (key : Nat) : Option Nat :=
  match indexFid (key / 256 % 65536) with
  | none => none
  | some fid =>
    match fnOf fid with
    | some f => if f.enableKey = some key then some fid else none
    | none => none

/-! ### What a start checks (R450, at enable) -/

/-- Octets of the cluster's packet area a channel takes (R247). -/
def Hub.packetArea (h : Hub) (c : Nat) : Nat :=
  let m := h.num (Obj.chMode c)
  if m = modeUart then h.num (Obj.uartRxBuffer c) + h.num (Obj.uartTxBuffer c)
  else if m = modeCan then 2048
  else if m = modeTcode then 256
  else 0

/-- Octets of the packet area the channels and the sequencers of a cluster that are not OFF take (R247, R335). -/
def Hub.packetAreaUsed (h : Hub) (k : Nat) : Nat :=
  (List.range 16).foldl (fun a i => if h.isOff (fidChannel (16 * k + i)) then a else a + h.packetArea (16 * k + i)) 0
    + [2 * k, 2 * k + 1].foldl (fun a s => if h.isOff (fidSeq s) then a else a + h.num (Obj.seqTxBuffer s) + h.num (Obj.seqRxBuffer s)) 0

/-- The character format of a UART channel is none of R249: nine data bits with parity, or address mode without nine data bits. -/
def Hub.uartFormatBad (h : Hub) (c : Nat) : Bool :=
  (h.num (Obj.uartDataBits c) == 9 && h.num (Obj.uartParity c) != 0)
    || (h.flag (Obj.uartAddressMode c) && h.num (Obj.uartDataBits c) != 9)

/-- The checks of a channel's enable that rest on its objects (R247, R249, R255, R281); 0: none fails. -/
def Hub.chanCheck (h : Hub) (c : Nat) : Nat :=
  let lo := h.fieldMv c 0
  let hi := h.fieldMv c 4095
  let lvl := [h.int (Obj.binOnLevel c), h.int (Obj.binOffLevel c)]
  if 61440 < h.packetAreaUsed (c / 16) then 7
  else if h.num (Obj.chMode c) = modeUart ∧ h.uartFormatBad c = true then 7
  else if h.num (Obj.chMode c) = modeBin ∧ h.num (Obj.binSource c) = 1
      ∧ (h.int (Obj.binOnLevel c) ≤ h.int (Obj.binOffLevel c) ∨ lvl.any (fun v => decide (v < lo ∨ hi < v)) = true) then 7
  else 0

/-- The combinations and depths of a queue (R216); 0: allowed. -/
def Hub.queueCheck (h : Hub) (q : Nat) : Nat :=
  if h.isBulk q && (h.isD2H q || h.isWord q) then 7
  else if h.isWord q && decide (2048 < h.num (Obj.qDepth q)) then 6
  else 0

/-- The configuration of a window (R142); 0: allowed. -/
def Hub.windowCheck (h : Hub) (w : Nat) : Nat :=
  let node := addrNode (h.num (Obj.ringBase w))
  if (h.num (Obj.byteLane w) = 1 ∧ h.num (Obj.accessMin w) < h.num (Obj.diUnit w))
      ∨ h.num (Obj.accessMax w) < h.num (Obj.accessMin w) ∨ node = 0 ∨ 64 < node
      ∨ (h.num (Obj.ordering w) = 1 ∧ h.num (Obj.writeClass w) = 5) then 7
  else 0

/-- A channel a function needs is still STARTING: the function's own start waits for it (R290, R319). -/
def Hub.startWaits (h : Hub) : Fn → Bool
  | .can n => decide ((h.func (fidChannel n)).life = .starting)
  | .seq s => (List.range 8).any (fun p =>
      pinValid (h.pinEntry s p) && decide ((h.func (fidChannel (pinChan s (h.pinEntry s p)))).life = .starting))
  | _ => false

/-- The check of a function that enters STARTING: 0, or the abort code the start is refused with (R31, R450). -/
def Hub.fnCheck (h : Hub) : Fn → Nat
  | .channel c => h.chanCheck c
  | .can n => if h.canEnableCheck n ≠ 0 then h.canEnableCheck n else h.canStartCheck n
  | .seq s =>
    if h.seqEnableCheck s ≠ 0 then h.seqEnableCheck s
    else if 61440 < h.packetAreaUsed (s / 2) then 7
    else h.seqStartCheck s
  | .queue q => h.queueCheck q
  | .window w => h.windowCheck w
  | .aperture a => if h.num (Obj.hostBase a) % 2 ^ h.num (Obj.apSize a) = 0 then 0 else 7
  | .station _ => h.staStartCheck
  | .ptp => h.ptpEnableCheck
  | .gocb g => h.gocbCheck g
  | .sub u => h.subCheck u
  | .duplex => h.dupStartCheck
  | .cluster _ | .port _ | .ringPort _ | .scan _ | .service => 0

/-! ### Entering and leaving -/

/-- What a function does as it enters STARTING; a pending ring-rate takes effect as the ring ports start (R125). -/
def Hub.fnStarting (h : Hub) : Fn → Hub
  | .seq s => h.seqLoadStart s
  | .ringPort i =>
    let other := (h.func (fidRingPort (1 - i))).life
    if other = .off ∨ other = .starting then h.applyRwb [Obj.ringRate] else h
  | _ => h

/-- A ring port leaves ON: its transmit lane stops, its link goes down as after a loss, and what still waits in its lane is gone and counted (R33, R87,
R110, R493). -/
def Hub.ringPortDown (h : Hub) (i : Nat) : Hub :=
  let west := i == 1
  let h := h.when (h.num (Obj.rportLinkState i) != linkDown) (fun h => (h.loseLink west 0 false).setNum (Obj.rportLinkState i) linkDown)
  let l := h.lane west
  let h := h.countN Obj.unreachableDrops (l.prio.length + l.bulk.length + l.loc.length)
  let h := h.setLane west { lost := (h.lane west).lost, lock := (h.lane west).lock }
  h.setNum (Obj.linkDelay i) 0

/-- A ring port enters ON (R87): with block lock held, its link-qualify timer starts. -/
def Hub.ringPortStart (h : Hub) (i : Nat) : Hub :=
  h.when (h.lane (i == 1)).lock (fun h => h.setNum (Obj.rportLinkState i) linkQualifying)

/-- What a function does as it enters ON. -/
def Hub.fnOn (h : Hub) : Fn → Hub
  | .channel c => h.chanStart c
  | .can n => h.canStart n
  | .seq s => h.seqStart s
  | .queue q => (h.queueStart q).when (q == 63 && !h.host.heldDone) Hub.releaseHeld
  | .gocb g => h.gocbStart g
  | .sub u => h.subStart u
  | .duplex => h.dupStart
  | .ptp => h.ptpStart
  | .ringPort i => h.ringPortStart i
  | .cluster _ | .window _ | .aperture _ | .port _ | .station _ | .scan _ | .service => h

/-- A mapped channel leaves ON: a sequencer halts and stops (R330). -/
def Hub.seqLeave (h : Hub) (s : Nat) : Hub :=
  let f := h.func (fidSeq s)
  let h := h.seqHalt s
  if f.life = .on ∨ f.life = .starting then
    h.setFunc (fidSeq s) { f with life := .stopping, pendingEn := h.flag (Obj.seqEnable s) }
  else h

/-- What leaving ON means for a channel beyond its own life cycle: an open UART packet closes, outputs take their safe state, the CAN
controller or the sequencers that use its pins stop (R250, R265, R290, R330). `cause`: that of SAFE_STATE_APPLIED. -/
def Hub.chanLeave (h : Hub) (c : Nat) (cause : Option Nat) : Hub :=
  let m := h.num (Obj.chMode c)
  if m = modeUart then h.uartClose c flStopped
  else if m = modeBout then h.boutSafe c cause
  else if m = modeCstart then h.cstartEnd c
  else if m = modeCan then
    let f := h.func (fidCan c)
    let h := h.when (!h.isOff (fidCan c)) (fun h => h.matrixStop c)
    if f.life = .on ∨ f.life = .starting then
      h.setFunc (fidCan c) { f with life := .stopping, pendingEn := h.flag (Obj.canEnable c) }
    else h
  else if m = modeSeq then
    [2 * (c / 16), 2 * (c / 16) + 1].foldl (fun h s =>
      if !h.isOff (fidSeq s) && (List.range 8).any (fun p => pinValid (h.pinEntry s p) && pinChan s (h.pinEntry s p) == c) then
        h.seqLeave s
      else h) h
  else h

/-- What a function gives up at once where it aborts instead of draining (R31, R492, R493). A channel clears its buffers as it goes OFF. -/
def Hub.fnAbort (h : Hub) : Fn → Hub
  | .can n => h.canStop n
  | .seq s => h.seqAbort s
  | .queue q => h.queueAbort q
  | .window w => h.windowReset w
  | .aperture a => h.apertureStop a
  | .port p => h.portAbort p
  | .ringPort i => h.ringPortDown i
  | .station p => (h.staFlush p).staLinkDown p false
  | .scan e => h.scanAbort e
  | .channel _ | .sub _ | .cluster _ | .gocb _ | .duplex | .service | .ptp => h

/-- What a function does as it leaves ON: it drains, or with `abort` gives up its traffic at once (R31, R492). -/
def Hub.fnLeave (h : Hub) (f : Fn) (abort : Bool) (cause : Option Nat) : Hub :=
  match f with
  | .channel c => h.chanLeave c cause
  | .seq s => if abort then h.seqAbort s else h.seqHalt s
  | .sub u => h.setNum (Obj.subState u) subWaiting
  | .duplex => h.dupStop
  | .service => h.usbDisconnect
  | .ptp => h.ptpStop
  | .can n => if abort then h.canStop n else h.matrixStop n
  | .queue _ | .window _ | .aperture _ | .port _ | .ringPort _ | .station _ | .scan _ => h.when abort (fun h => h.fnAbort f)
  | .cluster _ | .gocb _ => h

/-- What a function clears as it goes OFF: what has not drained is aborted and counted (R33, R493). -/
def Hub.fnStopped (h : Hub) : Fn → Hub
  | .channel c => h.chanStop c
  | .seq s => h.seqUndrained s
  | .scan e => h.when ((h.scan e).run == scanRunning) (fun h => h.scanAbort e)
  | f => h.fnAbort f

/-- The cluster of a channel starts with its first channel (R243). -/
def Hub.clusterNeeded (h : Hub) (k : Nat) : Hub :=
  let f := h.func (fidCluster k)
  if f.life = .off then h.setFunc (fidCluster k) { life := .starting }
  else if f.life = .stopping then h.setFunc (fidCluster k) { f with pendingEn := true }
  else h

/-- A start is refused (R31): OFF with FAULT, and the notice. -/
def Hub.startRefused (h : Hub) (fid code : Nat) : Hub :=
  (h.setFunc fid { life := .off, fault := true }).noticeS N.functionStartFailed fid [fid, code]

/-- The cluster follows a channel whose life cycle has moved (R243). -/
def Hub.follow (h : Hub) : Fn → Hub
  | .channel c => h.clusterFollow (c / 16)
  | _ => h

/-- A function enters STARTING (R31): FAULT clears, and the configuration is checked. -/
def Hub.beginStart (h : Hub) (fid : Nat) : Hub :=
  match fnOf fid with
  | none => h
  | some f =>
    let h := h.setFunc fid { life := .starting }
    let h := match f with
      | .channel c => h.clusterNeeded (c / 16)
      | _ => h
    let code := if h.startWaits f then 0 else h.fnCheck f
    if code = 0 then h.fnStarting f else (h.startRefused fid code).follow f

/-- The enable object of a function is written (R31). -/
def Hub.enableWritten (h : Hub) (fid : Nat) (on : Bool) : Hub :=
  match fnOf fid with
  | none => h
  | some f =>
    let x := h.func fid
    match x.life with
    | .off => if on then h.beginStart fid else h
    | .stopping => (h.setFunc fid { x with pendingEn := on }).follow f
    | .starting => if on then h else (h.setFunc fid { x with life := .stopping, pendingEn := false }).follow f
    | .on =>
      if on then h
      else (((h.fnLeave f false none).setFunc fid { x with life := .stopping, pendingEn := false })).follow f

/-- The code of a bank's class as bank-voltage shows it (R242). -/
def bankCode : BankClass → Nat
  | .invalid => 0 | .v18 => 18 | .v25 => 25 | .v33 => 33

/-- Internal preparation is complete (R31): a cluster reports its bank (R242); a channel waits for its cluster, and fails with STATE on an
invalid bank. -/
def Hub.startComplete (h : Hub) (fid : Nat) (bank : BankClass) : Hub :=
  match fnOf fid with
  | none => h
  | some f =>
    let x := h.func fid
    let on := fun (h : Hub) => (h.setFunc fid { x with life := .on }).fnOn f
    if x.life ≠ .starting then h
    else match f with
      | .cluster k => (h.setNum (Obj.bankVoltage k) (bankCode bank)).setFunc fid { x with life := .on }
      | .channel c =>
        if !h.isOn (fidCluster (c / 16)) then h
        else if h.num (Obj.bankVoltage (c / 16)) = 0 then (h.startRefused fid 8).follow f
        else on h
      | .can _ | .seq _ =>
        if h.startWaits f then h
        else if h.fnCheck f ≠ 0 then h.startRefused fid (h.fnCheck f)
        else on h
      | _ => on h

/-- A function leaves STOPPING (R31, R33): it starts again when PENDING_EN is set, and is OFF otherwise. -/
def Hub.leaveStopping (h : Hub) (fid : Nat) : Hub :=
  match fnOf fid with
  | none => h
  | some f =>
    let x := h.func fid
    let h := (h.fnStopped f).setFunc fid { fault := x.fault }
    if x.pendingEn then h.beginStart fid else h.follow f

/-- A function that drains has drained, or its limit is reached (R31, R33); a function in reset ends with its abort instead. -/
def Hub.drained (h : Hub) (fid : Nat) : Hub :=
  let x := h.func fid
  if x.life = .stopping ∧ x.inReset = false then h.leaveStopping fid else h

/-! ### Per-function reset -/

/-- The configuration is restored from the running image (R452, R492 step 4): every value accepted is in force. -/
def Hub.restoreConfig (h : Hub) (fid : Nat) : Hub :=
  h.applyRwb ((h.rwb.filter (fun p => indexFid (p.1 / 256 % 65536) == some fid)).map (·.1))

/-- A function enters its reset (R31, R34, R492): its traffic is aborted, its outputs are safe, its configuration is restored, and
PENDING_EN follows the restored enable object. An OFF function starts at once when that is true. -/
def Hub.enterReset (h : Hub) (fid : Nat) : Hub :=
  match fnOf fid with
  | none => h
  | some f =>
    let x := h.func fid
    if x.inReset then h
    else
      let h := if x.life = .on then h.fnLeave f true (some 3) else h.when (x.life != .off) (fun h => h.fnAbort f)
      let h := h.restoreConfig fid
      if x.life = .off then
        let h := match f with
          | .scan e => h.scanAbort e
          | .seq s => h.seqAbort s
          | _ => h
        if h.enabled f then h.beginStart fid else h
      else (h.setFunc fid { life := .stopping, pendingEn := h.enabled f, inReset := true }).follow f

/-- The FUNC_IDs a cluster's reset covers beside its own (R493). -/
def clusterMembers (k : Nat) : List Nat :=
  ((List.range 16).map (fun i => fidChannel (16 * k + i))) ++ [fidSeq (2 * k), fidSeq (2 * k + 1)]

/-- The abort of a reset is complete: RESET_COUNT goes out with the notice (R498). -/
def Hub.resetDone (h : Hub) (fid : Nat) : Hub :=
  h.notice N.functionResetDone fid [fid, h.num Obj.resetCount % 65536]

/-- Whether a function was reset, or stopped by a fault reaction, in this cycle (R35, R495). -/
def Hub.resetNow (h : Hub) (fid : Nat) : Bool := SMap.get (fun _ => 0) h.safety.resetAt fid == h.now + 1
def Hub.faultNow (h : Hub) (fid : Nat) : Bool := SMap.get (fun _ => 0) h.safety.faultAt fid == h.now + 1

/-- Whether a reset of a function merges with another event (R34, R35, R495): it is in reset; it, or its cluster, was reset in this cycle; or a fault
reaction stopped it in this cycle. -/
def Hub.resetMerges (h : Hub) (fid : Nat) : Bool :=
  (h.func fid).inReset || h.resetNow fid || h.faultNow fid
    || (match fnOf fid with
        | some (.channel c) => h.resetNow (fidCluster (c / 16))
        | some (.seq s) => h.resetNow (fidCluster (s / 2))
        | _ => false)

/-- A reset counts once, and is noted with its cycle (R492); a cluster's takes the place of those of its members in the same cycle (R495). -/
def Hub.resetCounted (h : Hub) (fid : Nat) : Hub :=
  let taken := match fnOf fid with
    | some (.cluster k) => ((clusterMembers k).filter h.resetNow).length
    | _ => 0
  let h := (h.count Obj.resetCount).setNum Obj.lastFunc fid
  let h := (h.when (taken != 0) (fun h => h.setNum Obj.resetCount (h.num Obj.resetCount - taken))).setNum Obj.lastReset (h.stamp .H)
  { h with safety := { h.safety with resetAt := SMap.set (fun _ => 0) h.safety.resetAt fid (h.now + 1) } }

/-- A reset of a function is asked for by FRESET or 0x3600:01 (R492 to R495): true when the id is resettable and no hub fault lasts. A
further reset of a function in reset, or in one cycle, is merged (R34, R35), and one that meets a fault reaction gives way to it; a cluster takes its
channels and sequencers with it. -/
def Hub.functionReset (h : Hub) (fid : Nat) : Bool × Hub :=
  if !resettable fid || h.flag Obj.hubFault then (false, h.count Obj.resetIgnored)
  else if h.resetMerges fid then (true, h)
  else
    let wasOff := h.isOff fid
    let h := (h.resetCounted fid).enterReset fid
    let h := match fnOf fid with
      | some (.cluster k) => (clusterMembers k).foldl (fun h m => h.enterReset m) h
      | some .ptp => (h.setPortState 0 1).setPortState 1 1
      | _ => h
    (true, if wasOff then h.resetDone fid else h)

/-- A reset asked for on a path (R35): of two in one cycle that name different functions, last-func keeps the one of the later path in the order PCIe,
keeper, ring, station, service. -/
def Hub.resetBy (h : Hub) (path : RegPath) (fid : Nat) : Bool × Hub :=
  let r := h.functionReset fid
  let last := h.safety.lastBy
  if r.1 = false ∨ h.resetMerges fid = true then r
  else if last.1 = h.now + 1 ∧ pathCode path < last.2 then (true, r.2.setNum Obj.lastFunc (h.num Obj.lastFunc))
  else (true, { r.2 with safety := { r.2.safety with lastBy := (h.now + 1, pathCode path) } })

/-- The abort of a function reset completes (R492, R498): the function leaves reset, and its members with it when it is a cluster. -/
def Hub.abortDone (h : Hub) (fid : Nat) : Hub :=
  let x := h.func fid
  if !(x.life == .stopping && x.inReset) then h
  else
    let h := h.resetDone fid
    match fnOf fid with
    | some (.cluster k) =>
      let h := (clusterMembers k).foldl (fun h m =>
        if (h.func m).life == .stopping && (h.func m).inReset then h.leaveStopping m else h) h
      h.setFunc fid (if h.clusterUsed k then { life := .starting } else {})
    | _ => h.leaveStopping fid

/-- A fault reaction disables a function that is not OFF (R31, R485): traffic aborted, safe state applied, OFF with FAULT. -/
def Hub.faultStop (h : Hub) (fid code : Nat) : Hub :=
  match fnOf fid with
  | none => h
  | some f =>
    let x := h.func fid
    if x.life = .off then h
    else
      let h := h.when (x.life == .on) (fun h => h.fnLeave f true none)
      ((h.fnStopped f).faultOff fid code).follow f

/-! ### The commands -/

/-- FUNCTION_START_COMPLETE (R31). -/
def execFunctionStartComplete (fid : BitVec 16) (bank : BankClass) (s : State) : Host.Outcome State Fault Refusal :=
  s.answer (fun h => h.startComplete fid.toNat bank)

/-- FUNCTION_DRAIN_COMPLETE (R31). -/
def execFunctionDrainComplete (fid : BitVec 16) (s : State) : Host.Outcome State Fault Refusal :=
  s.answer (fun h => h.drained fid.toNat)

/-- DRAIN_LIMIT_EXPIRED (R33). -/
def execDrainLimitExpired (fid : BitVec 16) (s : State) : Host.Outcome State Fault Refusal :=
  s.answer (fun h => h.drained fid.toNat)

/-- FRESET (R35, R492). -/
def execFreset (path : RegPath) (fid : BitVec 16) (s : State) : Host.Outcome State Fault Refusal :=
  s.answer (fun h => (h.resetBy path fid.toNat).2)

/-- FUNCTION_RESET_ABORT_DONE (R492). -/
def execFunctionResetAbortDone (fid : BitVec 16) (s : State) : Host.Outcome State Fault Refusal :=
  s.answer (fun h => h.abortDone fid.toNat)

end Sys2Proof.Machine
end

