-- ==== Sys2Proof/Machine/Update.lean ====
section
/-!
DEFINITION. Image and configuration update (R569 to R593): image sets and their checks, the staging partition, the activation journal
at a start, trial and confirmation, signing keys.
-/
namespace Sys2Proof.Machine

/-! ### Partitions and manifests -/

/-- What an unlisted octet of a partition reads as: the factory's image, or 0 where the partition has been erased (a log entry names
it). -/
def Partition.unlisted (p : Partition) (a : Nat) : Byte := if p.factory then Config.factoryImage a else 0

def Partition.byte (p : Partition) (a : Nat) : Byte := SMap.get p.unlisted p.mem a

def Partition.nat (p : Partition) (a : Nat) : Nat := (p.byte a).toNat

/-- `n` octets from an offset. -/
def Partition.bytes (p : Partition) (a n : Nat) : List Byte := (List.range n).map (fun i => p.byte (a + i))

/-- A little-endian number of `n` octets. -/
def Partition.le (p : Partition) (a n : Nat) : Nat := leNat (p.bytes a n)

/-- Write octets from an offset upward. -/
def Partition.write (p : Partition) (a : Nat) : List Byte → Partition
  | [] => p
  | b :: bs => Partition.write { p with mem := SMap.set p.unlisted p.mem a b } (a + 1) bs

/-- Offset and size of a part's region (R572). -/
def region : Nat → Nat × Nat
  | 1 => (0x010000, 0x200000)
  | 2 => (0x210000, 0x40000)
  | 3 => (0x250000, 0x40000)
  | 4 => (0x290000, 0x80000)
  | _ => (0x310000, 0x80000)

/-- The part ids. -/
def partIds : List Nat := [1, 2, 3, 4, 5]

/-- Octets of an image file (R572). -/
def imageSize : Nat := 0x390000

/-- Offset of the manifest a part belongs to, by the part-source table (R572). -/
def Partition.source (p : Partition) (id : Nat) : Nat := if p.nat (0x2000 + (id - 1)) = 1 then 0x1000 else 0

/-- Offset of a part's entry in a manifest. -/
def entryAt (base id : Nat) : Nat := base + 80 + 96 * (id - 1)

/-- Version of a part as its manifest gives it. -/
def Partition.version (p : Partition) (id : Nat) : Nat := p.le (entryAt (p.source id) id + 4) 4

/-- The range of versions of part `other` that part `id` works with. -/
def Partition.worksWith (p : Partition) (id other : Nat) : Nat × Nat :=
  let e := entryAt (p.source id) id + 48 + 8 * (other - 1)
  (p.le e 4, p.le (e + 4) 4)

def within (v : Nat) (r : Nat × Nat) : Bool := decide (r.1 ≤ v ∧ v ≤ r.2)

/-- Check 1 of R575 for the manifest at an offset. -/
def Partition.formatOk (p : Partition) (base : Nat) : Bool :=
  decide (p.le base 2 = 1 ∧ p.nat (base + 2) = 5) && partIds.all (fun id =>
    let e := entryAt base id
    p.nat e == id && p.le (e + 1) 3 == 0 && p.le (e + 12) 4 == 0 && p.le (e + 88) 8 == 0
      && within (p.le (e + 8) 4) (1, (region id).2))

/-- The key slot of a manifest holds a digest and is not revoked (R574). -/
def Hub.slotOk (h : Hub) (slot : Nat) : Bool :=
  decide (slot < 4) && (h.num Obj.keySlotsValid).testBit slot && !(h.num Obj.keySlotsRevoked).testBit slot

/-- The digest of the manifest's public key is the slot's (R574). -/
def Hub.keyOk (h : Hub) (p : Partition) (base : Nat) : Bool :=
  decide (Config.sha256 (p.bytes (base + 16) 64) = slice (h.oct Obj.keyDigests) (32 * p.nat (base + 3)) 32)

/-- The signature verifies (R574). -/
def signatureOk (p : Partition) (base : Nat) : Bool :=
  Config.ecdsaVerify (p.bytes (base + 16) 64) (Config.sha256 (p.bytes base 560)) (p.bytes (base + 560) 64)

/-- A part's octets have the digest of its entry. -/
def Partition.digestOk (p : Partition) (id : Nat) : Bool :=
  let e := entryAt (p.source id) id
  decide (Config.sha256 (p.bytes (region id).1 (p.le (e + 8) 4)) = p.bytes (e + 16) 32)

/-- A part's version lies within every other part's range for it. -/
def Partition.versionOk (p : Partition) (id : Nat) : Bool :=
  partIds.all (fun other => other == id || within (p.version id) (p.worksWith other id))

/-- The manifests a set uses: one, or two when a part comes from the second (R580). -/
def Partition.manifests (p : Partition) : List Nat := if partIds.any (fun id => p.source id != 0) then [0, 0x1000] else [0]

/-- The active CONFIG partition (R452). -/
def Hub.activeImage (h : Hub) : Option SavedImage := if h.num Obj.activeConfig = 0 then h.upd.configA else h.upd.configB

/-- The checks of R575 in their order, for a mixed set those of R580: the code of the first that fails, and its part id or 0. DESIGN CHOICE:
the set a part is delivered with passes them, until its key slot is revoked (R574). -/
def Hub.verify (h : Hub) (p : Partition) : Nat × Nat :=
  let ms := p.manifests
  let format := match h.activeImage with | some g => g.format | none => h.num Obj.configFormat
  if h.store.bad then (9, 0)
  else if p.factory && p.mem.isEmpty then
    if h.num Obj.keySlotsRevoked ≠ 0 ∧ (h.num Obj.keySlotsRevoked).testBit (p.nat 3) = true then (2, 0) else (0, 0)
  else if !ms.all p.formatOk then (1, 0)
  else if !ms.all (fun m => h.slotOk (p.nat (m + 3))) then (2, 0)
  else if !ms.all (h.keyOk p) then (3, 0)
  else if !ms.all (signatureOk p) then (4, 0)
  else if !ms.all (fun m => within (h.num Obj.chipRevision) (p.nat (m + 8), p.nat (m + 9))) then (5, 0)
  else
    match partIds.find? (fun id => !p.digestOk id) with
    | some id => (6, id)
    | none =>
      match partIds.find? (fun id => !p.versionOk id) with
      | some id => (7, id)
      | none => if !within format (p.le 12 2, p.le 14 2) then (8, 0) else (0, 0)

/-- The objects of update-status that follow the partitions (R588). -/
def Hub.updateViews (h : Hub) : Hub :=
  let a := h.upd.active
  let f := h.upd.fallback
  let h := h.setNum Obj.activeSetVersion (a.le 4 4)
  let h := h.setOct Obj.activePartVersions (partIds.flatMap (fun id => leBytes 4 (a.version id)))
  let h := h.setNum Obj.activePartSources (partIds.foldl (fun n id => n + b2n (a.source id != 0) * 2 ^ (id - 1)) 0)
  let h := h.setNum Obj.fallbackSetVersion (f.le 4 4)
  h.setFlag Obj.fallbackUsable (decide ((h.verify f).1 = 0))

/-! ### Staging (R576, R577) -/

/-! staging-state (R588). -/
def stgEmpty : Nat := 0
def stgLoading : Nat := 1
def stgLoaded : Nat := 2
def stgVerified : Nat := 3
def stgArmed : Nat := 4
def stgInvalid : Nat := 5

/-! journal-state (R588). -/
def jnlIdle : Nat := 0
def jnlArmed : Nat := 1
def jnlPiece : Nat := 2
def jnlTrial : Nat := 3
def jnlRevert : Nat := 4

/-- A SEG_START of staging-data, or a window-commit: LOADING (R577). -/
def Hub.stagingLoad (h : Hub) : Hub :=
  let h := h.when (h.num Obj.stagingState != stgLoading) (fun h => h.setNum Obj.windowCommitted 0)
  (h.setNum Obj.stagingState stgLoading).setNum Obj.stagingSetVersion 0

/-- Write octets of STAGING. -/
def Hub.stagingWrite (h : Hub) (offset : Nat) (b : List Byte) : Hub :=
  ({ h with upd := { h.upd with staging := h.upd.staging.write offset b } }).storeRequest rankKeeper 1 offset b.length

/-- window-commit written (R576): 0 or an abort code. -/
def Hub.windowCommitWrite (h : Hub) (offset length : Nat) : Nat × Hub :=
  if h.num Obj.windowSize < length ∨ imageSize < offset + length then (6, h)
  else if h.num Obj.stagingState = stgArmed then (8, h)
  else if h.store.bad then (12, h)
  else
    let h := h.stagingLoad
    let b := h.host.sram.readN (h.num Obj.windowBase) length
    (0, (h.stagingWrite offset b).setNum Obj.windowCommitted ((h.num Obj.windowCommitted + length) % 2 ^ 32))

/-- staging-verify written true (R577). -/
def Hub.stagingVerifyWrite (h : Hub) : Nat × Hub :=
  let st := h.num Obj.stagingState
  if st = stgArmed then (8, h)
  else if st = stgLoading ∨ st = stgLoaded ∨ st = stgInvalid then
    let (code, part) := h.verify h.upd.staging
    let h := h.setNum Obj.verifyResult code
    if code = 0 then
      let v := h.upd.staging.le 4 4
      let h := (h.setNum Obj.stagingState stgVerified).setNum Obj.stagingSetVersion v
      (0, h.noticeS N.updateStaged fidUpdate [v])
    else
      let h := (h.setNum Obj.stagingState stgInvalid).count Obj.verifyFailures
      (0, h.noticeS N.updateVerifyFailed fidUpdate [code, part])
  else (0, h)

/-- staging-erase written true (R577). -/
def Hub.stagingEraseWrite (h : Hub) : Nat × Hub :=
  if h.num Obj.stagingState = stgArmed then (8, h)
  else if h.store.bad then (12, h)
  else
    let h := (h.setNum Obj.stagingState stgEmpty).setNum Obj.stagingSetVersion 0
    (0, { h with upd := { h.upd with staging := {} } })

/-- Record a journal state: one write of the JOURNAL partition. -/
def Hub.setJournal (h : Hub) (j : Nat) : Hub := (h.setNum Obj.journalState j).storeRequest rankKeeper partJournal 0 64

/-- update-arm written true (R577). -/
def Hub.updateArmWrite (h : Hub) : Nat × Hub :=
  let j := h.num Obj.journalState
  if h.num Obj.stagingState ≠ stgVerified ∨ j = jnlPiece ∨ j = jnlTrial ∨ j = jnlRevert then (8, h)
  else if h.store.bad then (12, h)
  else (0, (h.setNum Obj.stagingState stgArmed).setJournal jnlArmed)

/-- update-disarm written true (R577). -/
def Hub.updateDisarmWrite (h : Hub) : Nat × Hub :=
  if h.num Obj.stagingState ≠ stgArmed then (0, h)
  else if h.store.bad then (12, h)
  else (0, (h.setNum Obj.stagingState stgVerified).setJournal jnlIdle)

/-! ### Confirmation, a single part, keys -/

/-- The confirm window expired in this cycle (R583). -/
def Hub.expiresNow (h : Hub) : Bool := h.num Obj.journalState == jnlRevert && h.upd.expiredAt == h.now + 1

/-- update-confirm written true (R583): in TRIAL, or in the cycle in which the window expires. -/
def Hub.updateConfirmWrite (h : Hub) : Nat × Hub :=
  if h.num Obj.journalState ≠ jnlTrial ∧ h.expiresNow = false then (8, h)
  else if h.store.bad then (12, h)
  else
    let h := ({ h with upd := { h.upd with expired := false, expiredAt := 0 } }).setJournal jnlIdle
    let h := h.setNum Obj.frozenConfig 0xFF
    (0, h.noticeS N.updateConfirmed fidUpdate [h.num Obj.activeSetVersion])

/-- CONFIRM_WINDOW_EXPIRED (R583). -/
def execConfirmWindowExpired (s : State) : Host.Outcome State Fault Refusal :=
  s.answer (fun h =>
    if h.num Obj.journalState = jnlTrial ∧ h.keeper.ready = true then
      let h := { h with upd := { h.upd with expired := true, expiredAt := h.now + 1 } }
      (h.setJournal jnlRevert).noticeS N.updateConfirmExpired fidUpdate [h.num Obj.activeSetVersion]
    else h)

/-- FALLBACK's part works with every other part of ACTIVE, and they with it (R584). -/
def Hub.pieceFits (h : Hub) (id : Nat) : Bool :=
  let a := h.upd.active
  let f := h.upd.fallback
  partIds.all (fun other => other == id ||
    (within (f.version id) (a.worksWith other id) && within (a.version other) (f.worksWith id other)))

/-- fallback-part written (R584). -/
def Hub.fallbackPartWrite (h : Hub) (id : Nat) : Nat × Hub :=
  let j := h.num Obj.journalState
  if (j ≠ jnlIdle ∧ j ≠ jnlTrial) ∨ h.flag Obj.fallbackUsable = false then (8, h)
  else if h.pieceFits id = false then (7, h)
  else if h.store.bad then (12, h)
  else (0, ({ h with upd := { h.upd with piece := id } }).setJournal jnlPiece)

/-- key-revoke written (R574). -/
def Hub.keyRevokeWrite (h : Hub) (slot : Nat) : Nat × Hub :=
  let signs := h.upd.active.manifests.any (fun m => h.upd.active.nat (m + 3) == slot)
  let left := (List.range 4).any (fun i => i != slot && h.slotOk i)
  if signs ∨ left = false then (7, h)
  else if h.store.bad then (12, h)
  else
    let h := h.setNum Obj.keySlotsRevoked (setBit (h.num Obj.keySlotsRevoked) slot)
    let h := ({ h with upd := { h.upd with revoked := setBit h.upd.revoked slot } }).persist 64
    (0, h.updateViews.noticeS N.updateKeyRevoked fidUpdate [slot])

/-- STORE_REFRESH (R616): every word of ACTIVE, FALLBACK, the active CONFIG partition and PERSIST is rewritten; a partition an update
holds is skipped. -/
def execStoreRefresh (s : State) : Host.Outcome State Fault Refusal :=
  s.answer (fun h =>
    let idle := h.num Obj.journalState == jnlIdle
    let h := h.when idle (fun h => (h.storeRequest rankKeeper 0 0 0x400000).storeRequest rankKeeper 2 0 0x400000)
    let h := h.storeRequest rankKeeper (3 + h.num Obj.activeConfig) 0 0x80000
    h.storeRequest rankKeeper partPersist 0 0x10000)

/-! ### The boot ROM (R579 to R582, R599) -/

/-- A notice of the boot ROM, raised once the keeper starts (R593). -/
def Hub.bootNotice (h : Hub) (code : Nat) (args : List Nat) : Hub :=
  { h with upd := { h.upd with notices := h.upd.notices ++ [(code, args)] } }

/-- No set passes: the recovery BOOT_MODE selects (R599). -/
def Hub.bootRecovery (h : Hub) : Hub :=
  let halt := decide (h.num Obj.straps / 256 % 4 = 0)
  ({ h with upd := { h.upd with halted := halt, recovery := !halt } }).setNum Obj.bootPath 2

/-- The frozen CONFIG partition, when there is one, is the active one again (R579, R585). -/
def Hub.thawConfig (h : Hub) : Hub :=
  h.when (h.num Obj.frozenConfig != 0xFF) (fun h => (h.setNum Obj.activeConfig (h.num Obj.frozenConfig)).setNum Obj.frozenConfig 0xFF)

/-- Copy FALLBACK to ACTIVE with the cause of UPDATE_REVERTED, and select the frozen CONFIG partition, whose format check 8 of R575 then
takes (R579, R585). -/
def Hub.bootRevert (h : Hub) (cause : Nat) : Hub :=
  if (h.thawConfig.verify h.upd.fallback).1 ≠ 0 then h.bootRecovery
  else
    let h := { h.thawConfig with upd := { h.upd with active := h.upd.fallback, piece := 0 } }
    let h := ((h.setNum Obj.journalState jnlIdle).setNum Obj.lastStartAction 3).count Obj.reverts
    h.bootNotice N.updateReverted [3, cause]

/-- Run ACTIVE if it passes; otherwise FALLBACK takes its place (R579, last row). -/
def Hub.bootActive (h : Hub) : Hub := if (h.verify h.upd.active).1 = 0 then h.setNum Obj.lastStartAction 0 else h.bootRevert 3

/-- A copy has failed: FALLBACK runs in place if it passes (R579). -/
def Hub.bootInPlace (h : Hub) : Hub :=
  let h := h.setNum Obj.journalState jnlIdle
  if (h.verify h.upd.fallback).1 ≠ 0 then h.bootRecovery
  else ((h.setNum Obj.bootPath 1).setNum Obj.lastStartAction 4).bootNotice N.updateReverted [4, 4]

/-- TRIAL begins with a start action. -/
def Hub.bootTrial (h : Hub) (action : Nat) : Hub :=
  let h := { h with upd := { h.upd with restarts := 0, expired := false, piece := 0 } }
  ((h.setNum Obj.journalState jnlTrial).setNum Obj.lastStartAction action).count Obj.activations

/-- The journal reads ARMED. -/
def Hub.bootArmed (h : Hub) : Hub :=
  let (code, part) := h.verify h.upd.staging
  if code = 0 then
    let staged := h.upd.staging.write 0x2000 (List.replicate 5 0)
    let h := { h with upd := { h.upd with fallback := h.upd.active, active := staged } }
    if (h.verify h.upd.active).1 = 0 then (h.setNum Obj.stagingState stgVerified).bootTrial 1 else h.bootInPlace
  else
    let h := ((h.setNum Obj.verifyResult code).setNum Obj.stagingState stgInvalid).count Obj.verifyFailures
    ((h.setNum Obj.journalState jnlIdle).bootNotice N.updateVerifyFailed [code, part]).bootActive

/-- The journal reads PIECE_ARMED: the part's region and its manifest come from FALLBACK. -/
def Hub.bootPiece (h : Hub) : Hub :=
  let id := h.upd.piece
  let f := h.upd.fallback
  let (o, n) := region id
  let a := ((h.upd.active.write o (f.bytes o n)).write 0x1000 (f.bytes (f.source id) 624)).write (0x2000 + (id - 1)) [1]
  let h' := { h with upd := { h.upd with active := a } }
  if (h'.verify a).1 = 0 then h'.bootTrial 2 else h.bootRevert 4

/-- The boot ROM reads the journal (R579). -/
def Hub.boot (h : Hub) : Hub :=
  let j := h.num Obj.journalState
  let h :=
    if j = jnlArmed then h.bootArmed
    else if j = jnlPiece then h.bootPiece
    else if j = jnlTrial then
      if h.upd.restarts < h.upd.trialRestarts ∧ h.upd.expired = false then
        ({ h with upd := { h.upd with restarts := h.upd.restarts + 1 } }).bootActive
      else h.bootRevert (if h.upd.expired then 1 else 2)
    else if j = jnlRevert then h.bootRevert 1
    else h.bootActive
  let run := if h.num Obj.bootPath = 1 then h.upd.fallback else h.upd.active
  let h := (h.setNum Obj.configFormat (run.le 10 2)).updateViews
  h.when (h.num Obj.journalState == jnlTrial) (fun h =>
    h.bootNotice N.updateActivated [h.num Obj.lastStartAction, h.num Obj.activeSetVersion])

end Sys2Proof.Machine
end

