-- ==== Sys2Proof/Machine/ConfigStore.lean ====
section
/-!
DEFINITION. The running image and the configuration store (R423, R452, R454, R585): the checks of a value by type and range, what the image
holds, saving it to the active CONFIG partition, and loading it at start.
-/
namespace Sys2Proof.Machine

/-- Whether a number lies in one of the accepted intervals of a row, on its step; a row with no interval accepts every value. -/
def Desc.accepts (d : Desc) (v : Int) : Bool :=
  (d.range.isEmpty || d.range.any (fun r => decide (r.1 ≤ v ∧ v ≤ r.2))) && v % d.step == 0

/-- The type, length and range tests of a value (R423, R448 tests 6 and 7): 0, TYPE_LEN (5) or RANGE (6). -/
def Desc.check (d : Desc) (b : List Byte) : Nat :=
  match d.ty with
  | .bool => if b.length ≠ 1 then 5 else if byteAt b 0 ≤ 1 then 0 else 6
  | .str lo hi =>
    if b.length < lo ∨ hi < b.length then 5
    else if b.all (fun c => decide (0x20 ≤ c.toNat ∧ c.toNat ≤ 0x7E)) then 0 else 6
  | .octets lo hi | .domain lo hi => if b.length < lo ∨ hi < b.length then 5 else 0
  | t =>
    let w := (t.width).getD 0
    if b.length ≠ w then 5
    else
      let v : Int := if t.signed then toSigned (8 * w) (leNat b) else (leNat b : Nat)
      if d.accepts v then 0 else 6

/-- A row is part of the running image when it is RW or RWB (R452). -/
def Acc.inImage : Acc → Bool
  | .rw | .rwb => true
  | _ => false

/-- Whether the object of a key is part of the running image. -/
def imageKey (key : Nat) : Bool :=
  let (mode, idx, sub) := keyParts key
  match findDesc mode idx sub allBlocks with
  | some (_, d) => d.acc.inImage
  | none => isLineSenseKey idx sub

/-- The running image (R452): every RW and RWB value as last accepted, where it differs from its default, and the forwarding table in force. -/
def Hub.runningImage (h : Hub) : SMap Val :=
  let plain := h.dict.filter (fun p => imageKey p.1 && p.1 != Obj.forwardingTable)
  let all := h.rwb.foldl (fun m p => SMap.set dictDefault m p.1 p.2) plain
  let table := h.fwdCopy (h.num Obj.fwdEpoch)
  if table.isEmpty then all else SMap.put all Obj.forwardingTable (.oct h.tableBytes)

/-- config-state (R454): 0 SAVED, 1 MODIFIED, 2 DEFAULTS. -/
def Hub.configState (h : Hub) : Nat :=
  match h.activeImage with
  | none => 2
  | some g => if g.values = h.runningImage then 0 else 1

/-- The configuration format in use: that of the active saved image, or the firmware's own (R585, R588). -/
def Hub.formatInUse (h : Hub) : Nat := h.num Obj.configFormat

/-- Write an image to a CONFIG partition: 0 CONFIG_A, 1 CONFIG_B. -/
def Hub.putImage (h : Hub) (which : Nat) (g : Option SavedImage) : Hub :=
  { h with upd := if which = 0 then { h.upd with configA := g } else { h.upd with configB := g } }

/-- save-config written true (R452, R454): 0, or STORE_FAULT (12) when the store does not confirm. -/
def Hub.saveConfigWrite (h : Hub) : Nat × Hub :=
  let h := h.storeRequest rankKeeper 3 0 65536
  if h.store.bad then (12, h)
  else
    let h := h.putImage (h.num Obj.activeConfig) (some { format := h.formatInUse, values := h.runningImage })
    (0, (h.setNum Obj.lastSave (h.stamp .S)).count Obj.saveCount)

/-- restore-defaults written true (R454): the saved image is void, the next start loads the defaults. -/
def Hub.restoreDefaultsWrite (h : Hub) : Nat × Hub :=
  let h := h.storeRequest rankKeeper 3 0 64
  if h.store.bad then (12, h) else (0, h.putImage (h.num Obj.activeConfig) none)

/-- Load one saved value: only type and range are checked (R452). False: refused. -/
def Hub.loadValue (h : Hub) (key : Nat) (v : Val) : Bool × Hub :=
  let (mode, idx, sub) := keyParts key
  match findDesc mode idx sub allBlocks with
  | none => (false, h)
  | some (_, d) =>
    if (mode != 0 && mode != h.modeOf idx) || !d.acc.inImage || d.check (d.ty.encode v) != 0 then (false, h)
    else if key = Obj.forwardingTable then (true, h.loadTable v.octets)
    else (true, h.setObj key v)

/-- Load the saved image in ascending order (R452): each value refused keeps its default and counts in load-refusals. -/
def Hub.loadImage (h : Hub) (m : SMap Val) : Hub :=
  m.foldl (fun (h : Hub) (p : Nat × Val) =>
    let r := h.loadValue p.1 p.2
    if r.1 then r.2 else r.2.setNum Obj.loadRefusals (min 0xFFFF (r.2.num Obj.loadRefusals + 1))) h

end Sys2Proof.Machine
end

