-- ==== Sys2Proof/Machine/PowerStates.lean ====
section
/-!
DEFINITION. Power domains, modes and wake (R531 to R554): what the host sees of a link-down (R210), the holders, entry and its abort, the
wake sources, REST and its wake, and the eaves cells. The wake from DORMANT is in Machine/Restart.lean.
-/
namespace Sys2Proof.Machine

def modeRun : Nat := 0
def modeDoze : Nat := 1
def modeNap : Nat := 2
def modeRest : Nat := 3
def modeDormant : Nat := 4

/-- The mode in force. -/
def Hub.mode (h : Hub) : Nat := h.num Obj.pwrMode

/-! ### The endpoint resets (R210) -/

/-- A Function Level Reset, hot reset or link-down (R210): outstanding host requests are dropped, every queue and window is reset, MSI-X is
cleared, and a stall held on the PCIe path is vacated (R445). Records of queue 63 the host has not read are lost (R534, R538). -/
def Hub.pcieReset (h : Hub) : Hub :=
  let unread := if h.isWord 63 then ((h.queue 63).items.filter (·.eop)).length else 0
  let h := { h with host := { h.host with nlost := satAdd (maxWord 32) h.host.nlost unread } }
  let h := match h.bridge.slot with
    | some a =>
      let addr := h.atomicAddr a
      h.when (a.phase == 1) (fun h => h.sendTxn (txn (addrNode addr) tWrul 2 addr a.w 1 a.tag []) (0x100 + a.w))
    | none => h
  let h := (h.bridge.behind.filter (fun x => x.frame.type == tWrp)).foldl (fun h x => h.faultWrite (txInit x.frame) 1) h
  let h := { h with bridge := { h.bridge with
    parts := [], atomics := [], retrying := [], behind := [], slot := none
    waiting := h.bridge.waiting.filter (fun w => match w with | .hostRead _ _ => false | _ => true) } }
  let h := { h with host := { h.host with
    busMaster := false, msixEnable := false, functionMask := false, vectorMask := List.range 128, pba := [], msixTable := [], deferred := [], pciStatus := 0,
    config := h.host.config.filter (fun p => decide (0x100 ≤ p.1)), outstanding := 0, readQueue := [] } }
  let h := (List.range 64).foldl (fun h q => (h.functionReset (fidQueue q)).2) h
  let h := (List.range 16).foldl (fun h w => (h.functionReset (fidWindow w)).2) h
  h.stallPathGone (fun r => decide (r.path = .pcie))

/-- PCIE_FUNCTION_RESET (R210). -/
def execPcieFunctionReset (s : State) : Host.Outcome State Fault Refusal := s.answer Hub.pcieReset

/-! ### Holders (R538) -/

/-- A packet of queue `q` waits at port 16: one it sent that is still in the switch, or a stored frame for it. -/
def Hub.waitsAtHost (h : Hub) (q : Nat) : Bool :=
  (SMap.get (fun _ => []) h.sw.inputs 16).any (fun p => p.queue == q + 1)
    || h.sw.frames.any (fun e => match e.2 with
      | some f => (f.input == 16 && f.pkt.queue == q + 1) || f.copies.any (fun c => c.port == 16 && c.hostQ == q)
      | none => false)

/-- QUEUES: a queue other than 63 has LEVEL above 0, a descriptor taken and not completed, or a packet at port 16. -/
def Hub.queueHolds (h : Hub) (q : Nat) : Bool :=
  let s := h.queue q
  q != 63 && (decide (0 < h.qLevel q) || !s.descs.isEmpty || !s.bufs.isEmpty || s.rest.isSome || s.fetchIdx != s.reqIdx
    || h.waitsAtHost q)

/-- BRIDGE: locks, the outbound slot, fences, fetch buffers, host reads and AtomicOps. -/
def Hub.bridgeHolds (h : Hub) : Bool :=
  let b := h.bridge
  !b.locks.isEmpty || b.slot.isSome || !b.fetches.isEmpty || !b.parts.isEmpty || !b.atomics.isEmpty || !b.retrying.isEmpty
    || b.allRunning || b.allHeld
    || (List.range 16).any (fun w => (h.fence w).tag != 0 || (h.fence w).held)

/-- CLUSTERk: a channel, CAN controller or sequencer of the cluster is not OFF. -/
def Hub.clusterHolds (h : Hub) (k : Nat) : Bool :=
  (List.range 16).any (fun i => !h.isOff (fidChannel (16 * k + i)) || (decide (16 * k + i < 48) && !h.isOff (fidCan (16 * k + i))))
    || !h.isOff (fidSeq (2 * k)) || !h.isOff (fidSeq (2 * k + 1))

/-- FUNCTIONS: a station port, the PTP unit, a GOOSE block or subscription or the duplex supervisor is not OFF, or an engine runs. -/
def Hub.functionsHold (h : Hub) : Bool :=
  !h.isOff (fidStation 0) || !h.isOff (fidStation 1) || !h.isOff fidPtp || !h.isOff fidDuplex
    || (List.range 128).any (fun g => !h.isOff (fidGocb g)) || (List.range 256).any (fun u => !h.isOff (fidSub u))
    || (List.range 3).any (fun e => (h.scan e).run == scanRunning)

/-- Whether a holder holds, by its id. -/
def Hub.holds? (h : Hub) (id : Nat) : Bool :=
  match id with
  | 1 => (List.range 63).any (fun q => h.queueHolds q)
  | 2 => h.bridgeHolds
  | 3 => (h.portUp false || h.portUp true) && h.num Obj.memberMap % 2 ^ 64 != (if h.isMember then 2 ^ (h.self - 1) else 0)
      && !h.flag Obj.dormantRingYield
  | 4 => h.keeper.sessions.any (fun s => s.staging) || (h.scan 3).run == scanRunning
  | 5 => h.functionsHold
  | _ => h.clusterHolds (id - 0x10)

/-- The holder ids, ascending. -/
def holderIds : List Nat := [1, 2, 3, 4, 5] ++ (List.range 12).map (0x10 + ·)

/-- The bit of HOLDERS of a holder (R549). -/
def holderBit (id : Nat) : Nat := if id < 0x10 then id - 1 else id

/-- HOLDERS (R549). -/
def Hub.holders (h : Hub) : Nat := holderIds.foldl (fun v id => if h.holds? id then setBit v (holderBit id) else v) 0

/-- The holders that refuse a mode now (R538). -/
def Hub.refusers (h : Hub) (mode : Nat) : List Nat := holderIds.filter (fun id => h.holds? id && (mode == modeDormant || id != 3))

/-! ### Wake sources (R539 to R542) -/

/-- Whether a source works in a mode (R540). -/
def sourceWorks (id mode : Nat) : Bool :=
  decide (1 ≤ id ∧ id ≤ 7) && (mode == modeRest || id == 1 || id == 2 || id == 4 || id == 5)

/-- Whether a source is edge-type (R539, R540, R542). -/
def Hub.edgeSource (h : Hub) (id : Nat) : Bool := id == 6 || (id == 2 && h.num Obj.wakePinMode == 2)

/-- Whether a source is level-type. -/
def Hub.levelSource (h : Hub) (id : Nat) : Bool := id == 7 || (id == 2 && h.num Obj.wakePinMode == 1)

/-- The sources that are pending and count in a mode: enabled, asserted or latched. -/
def Hub.pendingSources (h : Hub) (mode : Nat) : Nat :=
  ((List.range 8).filter (fun id => sourceWorks id mode && (h.num Obj.wakeEnable).testBit id && h.pwr.sources.testBit id)).foldl setBit 0

/-- The level-type sources whose condition holds (R539): no wake or abort ends them. -/
def Hub.levelHeld (h : Hub) : Nat :=
  ((List.range 8).filter (fun id => h.levelSource id && h.pwr.sources.testBit id)).foldl setBit 0

/-- What last-wake-detail tells of a source (R546): the sender, channel, sentinel event or entry; 0 for the others. -/
def wakeDetail (id detail : Nat) : Nat := if 3 ≤ id ∧ id ≤ 6 then detail else 0

/-- A wake source asserts, latches or passes (R539): an edge is caught only once the wake latch has armed; a level ends with its condition;
an AON latch stays set until a wake or an abort. The channel watch watches the channels of wake-channels, from an entry on (R543). -/
def Hub.wakeSource (h : Hub) (id detail : Nat) (asserted : Bool) : Hub :=
  if !(decide (1 ≤ id ∧ id ≤ 7)) || !(h.num Obj.wakeEnable).testBit id then h
  else if id == 4 && !(decide (modeRest ≤ h.mode) && (h.oct Obj.wakeChannels).any (fun b => b.toNat == detail)) then h
  else if h.edgeSource id && !(h.pwr.latch && decide (modeRest ≤ h.mode)) then h
  else if asserted then
    { h with pwr := { h.pwr with
      sources := setBit h.pwr.sources id, details := SMap.set (fun _ => 0) h.pwr.details id (wakeDetail id detail) } }
  else if h.levelSource id then { h with pwr := { h.pwr with sources := clearBit h.pwr.sources id } }
  else h

/-- WAKE_SOURCE_EVENT (R539). -/
def execWakeSourceEvent (id : Fin 8) (detail : BitVec 32) (asserted : Bool) (s : State) : Host.Outcome State Fault Refusal :=
  s.answer (fun h => h.wakeSource id.val detail.toNat asserted)

/-- RING_WAKE_RX (R540): the WAKE ring operation for this hub sets its AON wake latch. -/
def execRingWakeRx (west : Bool) (f : RingFrame) (s : State) : Host.Outcome State Fault Refusal :=
  s.answer (fun h =>
    let (ok, h) := h.receive west f
    if ok && isRingOp f 0x85 && byteAt f.payload 1 == h.self then h.wakeSource 3 f.src true else h)

/-! ### Eaves cells (R544, R545) -/

/-- Domains whose cells are in HOLD latch their pads as they power down. -/
def Hub.eavesLatch (h : Hub) (domains : Nat) : Hub :=
  h.setNum Obj.eavesHeld (Nat.lor (h.num Obj.eavesHeld) (Nat.land (h.num Obj.eavesMode) domains))

/-- The pins of a cluster reach their pads. -/
def Hub.showPins (h : Hub) (k : Nat) : Hub :=
  (List.range 16).foldl (fun h i =>
    let c := 16 * k + i
    let x := h.chan c
    [(0, x.pinA), (1, x.pinB), (2, x.pinC)].foldl (fun (h : Hub) (p : Nat × Option Bool) =>
      match p.2 with
      | some l => h.emit (.pin c p.1 l)
      | none => h) h) h

/-- EAVES_RELEASE: the held domains named are released, and their pads take what their functions drive; others are not affected. -/
def Hub.eavesFree (h : Hub) (domains : Nat) : Hub :=
  let freed := (List.range 13).filter (fun i => domains.testBit i && (h.num Obj.eavesHeld).testBit i)
  let h := h.setNum Obj.eavesHeld (freed.foldl clearBit (h.num Obj.eavesHeld))
  freed.foldl (fun h i => if i < 12 then h.showPins i else h) h

/-- The keeper releases domains that have powered up, under the AUTO policy. -/
def Hub.eavesAuto (h : Hub) (domains : Nat) : Hub := h.when (h.num Obj.eavesReleasePolicy == 0) (fun h => h.eavesFree domains)

/-! ### Modes -/

/-- The units that are unused (R533): clusters with nothing enabled, station ports disabled and not named by the PTP unit. -/
def Hub.unused (h : Hub) : Nat :=
  let ks := (List.range 12).filter (fun k =>
    !((List.range 16).any (fun i => h.flag (Obj.chEnable (16 * k + i))
      || (decide (16 * k + i < 48) && h.flag (Obj.canEnable (16 * k + i)))))
    && !h.flag (Obj.seqEnable (2 * k)) && !h.flag (Obj.seqEnable (2 * k + 1)))
  let ps := ([0, 1].filter (fun p => !h.flag (Obj.staPortPortEnable p) && !(h.num Obj.ptpPortMask).testBit p)).map (12 + ·)
  (ks ++ ps).foldl setBit 0

/-- nap-map follows the mode and the enable objects (R533); a cluster that powers down or up latches or frees its pads. -/
def Hub.napRefresh (h : Hub) : Hub :=
  let old := h.num Obj.napMap
  let new := if h.mode = modeNap then h.unused else 0
  if old = new then h
  else
    let h := h.setNum Obj.napMap new
    let down := (List.range 12).filter (fun k => new.testBit k && !old.testBit k)
    let up := (List.range 12).filter (fun k => !new.testBit k && old.testBit k)
    (h.eavesLatch (down.foldl setBit 0)).eavesAuto (up.foldl setBit 0)

/-- The mode in force changes (R554). -/
def Hub.setMode (h : Hub) (m : Nat) : Hub :=
  let old := h.mode
  let h := { h with pwr := { h.pwr with mode := m } }
  if old = m then h
  else ((h.setNum Obj.pwrMode m).notice N.powerModeChanged fidPowerStates [old, m]).napRefresh

/-- pwr-mode-request written (R536): 0 or the abort code. -/
def Hub.modeRequestWrite (h : Hub) (m : Nat) : Nat × Hub :=
  let on := h.num Obj.wakeEnable
  if 4 < m then (6, h)
  else if h.pwr.entering.isSome then (8, h)
  else if m < modeRest then (0, h.setMode m)
  else if !((List.range 8).any (fun id => sourceWorks id m && on.testBit id)) || (on.testBit 1 && h.num Obj.wakeAfter == 0) then (7, h)
  else (0, { h with pwr := { h.pwr with entering := some m, armed := false, latch := false } })

/-! ### Entry (R537) -/

/-- The last work before DORMANT (R535): the running image is saved, LEAVE goes out on each UP port, and the LTC is recorded. -/
def Hub.dormantWork (h : Hub) : Hub :=
  let h := (h.saveConfigWrite).2
  let leave := ringOp broadcastId opLeave h.self 0 0 0
  let h := h.when (h.isMember && h.portUp false) (fun h => h.sendPort false leave)
  let h := h.when (h.isMember && h.portUp true) (fun h => h.sendPort true leave)
  { h with time := { h.time with dormantLtc := h.now } }

/-- The keeper samples HOLDERS (steps 1 to 3): with none holding it mirrors the ledger, does the work of DORMANT and writes MODE. -/
def Hub.holderPoll (h : Hub) : Hub :=
  match h.pwr.entering with
  | none => h
  | some m =>
    if h.pwr.armed || !(h.refusers m).isEmpty then h
    else
      let h := h.mirrorEntriesToStore rankBatch 65536
      let h := h.when (m == modeDormant) Hub.dormantWork
      { h with pwr := { h.pwr with armed := true, mode := m } }

/-- entry-wait passes with a holder still holding (step 1): the entry is refused. -/
def Hub.entryRefused (h : Hub) : Hub :=
  match h.pwr.entering with
  | none => h
  | some m =>
    let ids := h.refusers m
    match ids with
    | [] => h
    | low :: _ =>
      if h.pwr.armed then h
      else
        let h := ids.foldl (fun h id => h.count (Obj.holderRefusals id)) h
        let h := h.setNum Obj.lastRefuser low
        let h := h.noticeS N.powerEntryRefused fidPowerStates [m, h.holders]
        { h with pwr := { h.pwr with entering := none } }

/-- An entry is aborted at WAIT (step 4): counted against each holder found, and against 0x20 for a wake source or a hub fault. MODE clears,
and after DORMANT the keeper joins the ring again. -/
def Hub.entryAborted (h : Hub) (m : Nat) (ids : List Nat) : Hub :=
  let pending := h.pendingSources m
  let h := ids.foldl (fun h id => h.count (Obj.holderAborts id)) h
  let h := h.setNum Obj.lastAbortCause (ids.headD 0x20)
  let h := { h with pwr := { h.pwr with entering := none, armed := false, sources := h.levelHeld, details := [] } }
  let h := h.noticeS N.powerEntryAborted fidPowerStates [m, h.num Obj.lastAbortCause, pending]
  let h := h.setMode modeRun
  h.when (m == modeDormant) (fun h => h.when (h.portUp false || h.portUp true) Hub.beginJoin)

/-- The functions whose domain a mode powers down: all but the ring ports in REST, all in DORMANT; the service port is on the sentinel. -/
def poweredDown (m fid : Nat) : Bool :=
  match fnOf fid with
  | none => false
  | some (.ringPort _) => m == modeDormant
  | some .service => m == modeDormant
  | some _ => true

/-- Every FUNC_ID that has a life cycle, ascending. -/
def allFids : List Nat :=
  [fidDuplex, fidService, fidPtp] ++ (List.range 192).map fidChannel ++ (List.range 12).map fidCluster ++ (List.range 48).map fidCan
    ++ (List.range 24).map fidSeq ++ (List.range 64).map fidQueue ++ (List.range 16).map fidWindow ++ (List.range 16).map fidAperture
    ++ (List.range 18).map fidPort ++ [fidRingPort 0, fidRingPort 1, fidStation 0, fidStation 1]
    ++ (List.range 128).map fidGocb ++ (List.range 256).map fidSub ++ (List.range 3).map fidScan

/-- The domains power down (step 5): the host sees a link-down, what was ON is OFF, and the cells take over the pads. -/
def Hub.powerDown (h : Hub) (m : Nat) (watch : Nat) : Hub :=
  let h := (h.count Obj.entries).setMode m
  let h := h.pcieReset
  let h := allFids.foldl (fun h fid =>
    if !poweredDown m fid || h.isOff fid then h
    else match fnOf fid with
      | some f => ((h.when (h.isOn fid) (fun h => h.fnLeave f true none)).fnStopped f).setFunc fid {}
      | none => h) h
  let h := h.eavesLatch 0x1FFF
  let h := h.when (m == modeDormant) (fun h => { h with time := { h.time with cclk := false } })
  { h with pwr := { h.pwr with entering := none, armed := false, latch := false, watch := watch } }

/-- WAIT retires (step 4). -/
def Hub.waitRetire (h : Hub) (watch : Nat) : Hub :=
  match h.pwr.entering with
  | none => h
  | some m =>
    if !h.pwr.armed then h
    else
      let wakes := (List.range 8).any (fun id => (h.pendingSources m).testBit id && !h.edgeSource id)
      let ids := h.refusers m ++ (if wakes then [0x20] else [])
      if ids.isEmpty then h.powerDown m watch else h.entryAborted m ids

/-- HOLDER_POLL (R537). -/
def execHolderPoll (s : State) : Host.Outcome State Fault Refusal := s.answer Hub.holderPoll

/-- ENTRY_WAIT_EXPIRED (R537). -/
def execEntryWaitExpired (s : State) : Host.Outcome State Fault Refusal := s.answer Hub.entryRefused

/-- POWER_WAIT_RETIRE (R537). -/
def execPowerWaitRetire (watch : BitVec 16) (s : State) : Host.Outcome State Fault Refusal := s.answer (fun h => h.waitRetire watch.toNat)

/-- WAKE_LATCH_ARM (R541): the lost-wake window ends. -/
def execWakeLatchArm (s : State) : Host.Outcome State Fault Refusal :=
  s.answer (fun h => if modeRest ≤ h.mode then { h with pwr := { h.pwr with latch := true } } else h)

/-! ### Wake (R546, R547) -/

/-- The wake record (R546): the lowest source, all of them, the detail, and ST as a stamp of class S at best; then POWER_WAKE. -/
def Hub.wakeRecord (h : Hub) (pending : Nat) : Hub :=
  let low := ((List.range 8).find? (fun id => pending.testBit id)).getD 0
  let detail := SMap.get (fun _ => 0) h.pwr.details low
  let h := (((h.setNum Obj.lastWakeSource low).setNum Obj.wakePending pending).setNum Obj.lastWakeDetail detail).setNum
    Obj.lastWakeStamp (h.stamp128At .S h.now 0)
  let h := h.count Obj.wakeWakeCount
  let h := { h with pwr := { h.pwr with sources := h.levelHeld, details := [], latch := false } }
  h.notice N.powerWake fidPowerStates [low, detail, pending]

/-- The functions whose enable object is true and that are OFF start, in ascending order of their objects (R452, R547). -/
def Hub.startEnabled (h : Hub) (pick : Nat → Bool) : Hub :=
  let order := [fidRingPort 0, fidRingPort 1] ++ (List.range 18).map fidPort ++ (List.range 16).map fidWindow
    ++ (List.range 16).map fidAperture ++ (List.range 64).map fidQueue ++ (List.range 192).map fidChannel ++ (List.range 48).map fidCan
    ++ (List.range 24).map fidSeq ++ [fidStation 0, fidStation 1, fidPtp] ++ (List.range 128).map fidGocb ++ (List.range 256).map fidSub
    ++ [fidDuplex, fidService] ++ (List.range 3).map fidScan
  order.foldl (fun h fid =>
    match fnOf fid with
    | some f => if pick fid && h.isOff fid && h.enabled f && !(h.func fid).fault then h.beginStart fid else h
    | none => h) h

/-- REST_WAKE (R546, R547): the hub wakes into wake-mode, its domains power up, and functions start again. -/
def Hub.restWake (h : Hub) : Hub :=
  let pending := h.pendingSources modeRest
  if h.mode ≠ modeRest ∨ h.pwr.latch = false ∨ pending = 0 then h
  else
    let h := (h.wakeRecord pending).setMode (h.num Obj.wakeMode)
    let h := h.eavesAuto (0x1FFF - Nat.land 0xFFF (h.num Obj.napMap))
    h.startEnabled (fun _ => true)

/-- REST_WAKE (R546). -/
def execRestWake (s : State) : Host.Outcome State Fault Refusal := s.answer Hub.restWake

/-- KEEPER_DOZE_WAKE (R532): the keeper's clock runs again. -/
def execKeeperDozeWake (s : State) : Host.Outcome State Fault Refusal :=
  s.answer (fun h => { h with keeper := { h.keeper with gated := false } })

end Sys2Proof.Machine
end

