-- ==== Sys2Proof/Machine/Safety.lean ====
section
/-!
DEFINITION. Diagnostics (R480 to R491, R500, R501): the scrubber, the clock and supply monitors, the keeper's watchdog and lockstep, the hub
fault and its record, and the reported detection time.
-/
namespace Sys2Proof.Machine

/-! ### Hub fault (R487 to R491) -/

/-- Every output goes to its safe, inactive or REST level (R488 step 2). -/
def Hub.outputsSafe (h : Hub) : Hub :=
  let h := (List.range 192).foldl (fun h c =>
    if h.chanIn c modeBout then h.boutSafe c (some 1)
    else if h.chanIn c modeCstart then h.cstartEnd c
    else h) h
  (List.range 24).foldl (fun h s =>
    if h.isOff (fidSeq s) then h else h.seqAbort s) h

/-- The reaction to a hub fault beside its record (R391, R488): outputs are safe, the duplex role is OFF, a mode entry is abandoned. -/
def Hub.faultReaction (h : Hub) : Hub :=
  let h := h.outputsSafe
  let h := h.when (h.num Obj.role != roleOff) Hub.dupStop
  match h.pwr.entering with
  | some m => h.entryAborted m [0x20]
  | none => h

/-- The record of a hub fault in PERSIST (R488 step 5). -/
def Hub.faultRecord (h : Hub) (cause stamp : Nat) : Hub :=
  let h := { h with upd := { h.upd with faultCause := cause, faultStamp := stamp } }
  ((h.setNum Obj.persistedFaultCause cause).setNum Obj.persistedFaultStamp stamp).persist 16

/-- A hub fault is declared (R487, R488): the cause and stamp are recorded and persisted, and HUB_FAULT goes to queue 63. A further cause changes
nothing. -/
def Hub.hubFault (h : Hub) (cause : Nat) : Hub :=
  if h.flag Obj.hubFault then h
  else
    let st := h.stamp .H
    let h := ((h.setFlag Obj.hubFault true).setNum Obj.hubFaultCause cause).setNum Obj.hubFaultStamp st
    (h.inOrder (fun h => h.faultReaction.notice N.hubFault fidHub [cause, h.now % 2 ^ 32])).faultRecord cause st

/-- KEEPER_LOCKSTEP_MISMATCH (R24, R487). -/
def execKeeperLockstepMismatch (s : State) : Host.Outcome State Fault Refusal :=
  s.answer (fun h => if modeRest ≤ h.mode then h else h.hubFault 1)

/-- KEEPER_WATCHDOG_EXPIRED (R483): it pauses while the keeper's clock is gated (R532). -/
def execKeeperWatchdogExpired (s : State) : Host.Outcome State Fault Refusal :=
  s.answer (fun h => if h.keeper.gated || decide (modeRest ≤ h.mode) then h else h.hubFault 2)

/-- CLOCK_MONITOR_FAULT (R484); CCLK stopped in DORMANT is no fault (R548). -/
def execClockMonitorFault (s : State) : Host.Outcome State Fault Refusal :=
  s.answer (fun h => if h.mode = modeDormant then h else h.hubFault 4)

/-- fault-record-clear written true (R489, R500). -/
def Hub.faultRecordClearWrite (h : Hub) : Hub :=
  let h := { h with upd := { h.upd with faultCause := 0, faultStamp := 0 } }
  ((h.setNum Obj.persistedFaultCause 0).setNum Obj.persistedFaultStamp 0).persist 16

/-! ### Supplies (R485) -/

/-- A rail has been outside its window for 5 µs (R485); a domain that is off under a mode is ignored (R548). -/
def Hub.supplyOutNow (h : Hub) : Rail → Hub
  | .vddCore => if modeDormant ≤ h.mode then h else h.hubFault 5
  | .vddAon => h.hubFault 5
  | .vddaSd =>
    if modeDormant ≤ h.mode then h
    else ((((h.count Obj.supplyEvents).lockLost false).lockLost true).staLinkDown 0 true).staLinkDown 1 true
  | .vddPcie => if modeRest ≤ h.mode then h else (h.count Obj.supplyEvents).pcieReset
  | .vddio k =>
    if decide (modeRest ≤ h.mode) || (h.num Obj.napMap).testBit k.val then h
    else
      let k := k.val
      let h := h.count Obj.supplyEvents
      let cans := (List.range 16).filterMap (fun i => if 16 * k + i < 48 then some (fidCan (16 * k + i)) else none)
      let h := (cans ++ [fidSeq (2 * k), fidSeq (2 * k + 1)] ++ (List.range 16).map (fun i => fidChannel (16 * k + i))).foldl
        (fun h fid => h.faultStop fid 0) h
      h.faultStop (fidCluster k) 0

/-- A monitored supply leaves its range (R484), its notices in the order of R236. -/
def Hub.supplyOut (h : Hub) (r : Rail) : Hub := h.inOrder (fun h => h.supplyOutNow r)

/-! ### Scrubber (R482) -/

/-- The memory code of ECC_UNCORRECTABLE (R498). -/
def eccCode : EccMemory → Nat
  | .keeper => 1 | .switch => 2 | .queue => 3 | .cluster => 4 | .postSram => 5 | .fetch => 6 | .configuration => 7

/-- A configuration word is rewritten from the running image; a second repair of it within 1 s is a hub fault. -/
def Hub.repairWord (h : Hub) (fid addr : Nat) : Hub :=
  let k := fid * 2 ^ 32 + addr
  let last := SMap.get (fun _ => 0) h.safety.repairs k
  let h := { h with safety := { h.safety with repairs := SMap.set (fun _ => 0) h.safety.repairs k (h.now + 1) } }
  h.inOrder (fun h =>
    let h := (h.count Obj.configRepairs).notice N.configScrubRepair fidHub [fid, addr]
    if last ≠ 0 ∧ ticksBetween (last - 1) h.now ≤ 1000 * ticksPerMs then h.hubFault 6 else h)

/-- The reaction to a double-bit error in a memory: at a word address, in what `who` names. -/
def Hub.eccReaction (h : Hub) (m : EccMemory) (addr who : Nat) : Hub :=
  match m with
  | .keeper => h.hubFault 3
  | .switch =>
    match SMap.get (fun _ => none) h.sw.frames who with
    | some f => { h with sw := { h.sw with frames := SMap.set (fun _ => none) h.sw.frames who (some { f with pkt := { f.pkt with err := true } }) } }
    | none => h
  | .queue =>
    let s := h.queue who
    let old := h.qLevel who
    if h.isD2H who then
      match s.rest with
      | some _ => (h.d2hData who [] true true false false).afterLevel who old
      | none => h.setQueue who { s with items := s.items.map (fun i => if i.eop then { i with err := true } else i) }
    else h.when s.isOpen (fun h => (h.closeError who 0 false []).when (!h.isWord who) (fun h => h.orphanRest who))
  | .cluster => (h.setChan who { h.chan who with rxOpen := false, rx := [], rxFlags := 0, rxLost := 0 }).count (Obj.chMalformed who)
  | .postSram => { h with safety := { h.safety with poison := addr :: h.safety.poison } }
  | .fetch =>
    { h with bridge := { h.bridge with
      fetches := h.bridge.fetches.map (fun b => if b.retry = who then { b with result := some (stEcc, []) } else b) } }
  | .configuration => h.repairWord who addr

/-- One double-bit error: counted, notified, and met with its memory's reaction, or with a hub fault under ecc-escalate. -/
def Hub.eccDouble (h : Hub) (m : EccMemory) (addr who : Nat) : Hub :=
  h.inOrder (fun h =>
    let h := (h.count Obj.eccUncorrectableTotal).notice N.eccUncorrectable fidHub [eccCode m, addr]
    if h.flag Obj.eccEscalate && decide (m ≠ .keeper) then h.hubFault 7 else h.eccReaction m addr who)

/-- SCRUB_PASS (R482). -/
def execScrubPass (corrected : BitVec 32) (double : List (EccMemory × Nat × Nat)) (changed : List (Nat × Nat)) (s : State) :
    Host.Outcome State Fault Refusal :=
  s.answer (fun h =>
    let h := (h.wrapAdd Obj.scrubPasses 1).countN Obj.eccCorrectedTotal corrected.toNat
    let h := double.foldl (fun h p => h.eccDouble p.1 p.2.1 p.2.2) h
    changed.foldl (fun h p => h.repairWord p.1 p.2) h)

/-! ### Detection time (R486) -/

/-- safety-detection-time in µs: the greatest of the mechanisms in force. -/
def Hub.detectionTime (h : Hub) : Nat :=
  let chans := (List.range 192).map (fun c =>
    if h.chanIn c modeBout then
      max (if h.num (Obj.boutReadback c) != 0 || h.num (Obj.boutCoilSense c) != 0 then 1000 * h.num (Obj.boutRbWindow c) else 0)
        (1000 * h.num (Obj.boutClaimHold c))
    else 0)
  let seqs := (List.range 24).map (fun s => if h.isOn (fidSeq s) then h.num (Obj.seqWdLimit s) else 0)
  let cc := if h.num Obj.ccMode = 0 then h.num Obj.ccPeriod
    else 1000000000000000 / (max 1 (if h.num Obj.phcState = phcInvalid then h.num Obj.nominalFrequency * 1000 else h.time.phcFreq)
      * h.num Obj.ccSlices)
  let dup := if h.isOn fidDuplex then
      [h.num Obj.dupCompareWindow + (h.num Obj.dupMismatchLimit * cc + 999) / 1000, (2 * cc + 999) / 1000 + h.num Obj.dupLatency]
    else []
  (chans ++ seqs ++ dup).foldl max 16000

end Sys2Proof.Machine
end

