-- ==== Sys2Proof/Machine/Triggers.lean ====
section
/-!
DEFINITION. The trigger table (R60 to R71, R623) and the control-cycle boundary (R57, R59): arming and its checks, the action instant in
each basis, commit, the actions, and what happens when an instant passes.
-/
namespace Sys2Proof.Machine

def tsIdle : Nat := 0
def tsArmed : Nat := 1
def tsCommitted : Nat := 2
def tsDone : Nat := 3
def tsMissed : Nat := 4

/-- The internal state of an entry. -/
def Hub.trig (h : Hub) (t : Nat) : TrigState := SMap.get (fun _ => {}) h.time.trig t

def Hub.setTrig (h : Hub) (t : Nat) (x : TrigState) : Hub :=
  { h with time := { h.time with trig := SMap.set (fun _ => {}) h.time.trig t x } }

/-- The entries in a state. -/
def Hub.trigCount (h : Hub) (s : Nat) : Nat := ((List.range 256).filter (fun t => h.num (Obj.trigState t) == s)).length

/-- entries-armed (R69). DESIGN CHOICE (log entry 95): a COMMITTED entry is still armed, so both states count. -/
def Hub.entriesArmedNow (h : Hub) : Nat := h.trigCount tsArmed + h.trigCount tsCommitted

/-! ### Checks of arming (R68, R623) -/

/-- The action, its target and its argument fit (R67, R68). -/
def Hub.actionFits (h : Hub) (t : Nat) : Bool :=
  let x := h.num (Obj.actionTarget t)
  let a := h.num (Obj.actionArg t)
  match h.num (Obj.action t) with
  | 0 => true
  | 1 => decide (x < 192 ∧ h.num (Obj.chMode x) = modeBout ∧ a ≤ 2)
  | 2 => decide (x < 192 ∧ h.num (Obj.chMode x) = modeCstart)
  | 3 => decide (x < 24 ∧ a ≤ 7)
  | 4 => decide (x ≤ 1)
  | 5 => decide (x < 48 ∧ a ≤ 15)
  | 6 => decide (x ≤ 3 ∧ h.num (Obj.toutMode x) = 1 ∧ a ≤ 2)
  | 7 => true
  | _ => false

/-- Whether a cycle-offset lies in its range in a control-cycle setting (R623), on 2.5 ns. -/
def offsetFits (mode period slices nominal off : Nat) : Bool :=
  if mode = 0 then decide (2 * off + 5 ≤ 2 * period) else decide ((2 * off + 5) * (nominal * slices) ≤ 2000000000000)

/-- Whether a period lies in the range of a basis (R70). -/
def periodFits (basis p : Nat) : Bool :=
  match basis with
  | 0 => decide (1000 ≤ p ∧ p ≤ 2 ^ 40)
  | 1 => decide (2 ^ 26 ≤ p ∧ p ≤ 2 ^ 48)
  | _ => decide (1 ≤ p ∧ p ≤ 2 ^ 32 - 1)

/-- The checks at arming: 0, or CONFLICT (7). -/
def Hub.trigCheck (h : Hub) (t : Nat) : Nat :=
  let basis := h.num (Obj.trigBasis t)
  if !h.actionFits t then 7
  else if basis = 2 ∧ offsetFits (h.num Obj.ccMode) (h.num Obj.ccPeriod) (h.num Obj.ccSlices) (h.num Obj.nominalFrequency)
      (h.num (Obj.cycleOffset t)) = false then 7
  else if h.num (Obj.trigShape t) = 1 ∧ periodFits basis (h.num (Obj.period t)) = false then 7
  else 0

/-- The checks of a write of cycle-offset or period (R623): 0 or RANGE (6). -/
def Hub.trigWriteCheck (h : Hub) (t sub v : Nat) : Nat :=
  if sub = 7 then
    if offsetFits (h.accepted Obj.ccMode).nat (h.accepted Obj.ccPeriod).nat (h.accepted Obj.ccSlices).nat (h.num Obj.nominalFrequency) v
    then 0 else 6
  else if sub = 8 then (if v = 0 ∨ periodFits (h.num (Obj.trigBasis t)) v = true then 0 else 6)
  else 0

/-! ### The action instant (R60 to R62, R71) -/

/-- The modulus of an occurrence in each basis: ns of ST, PHASE64, cycles. -/
def trigModulus : Nat → Nat
  | 0 => 2 ^ 32 * 1000000000
  | 1 => 2 ^ 64
  | _ => 2 ^ 32

/-- The occurrence the objects of an entry name. -/
def Hub.trigTarget (h : Hub) (t : Nat) : Nat :=
  match h.num (Obj.trigBasis t) with
  | 0 => let v := h.num (Obj.targetSt t); v / 2 ^ 32 * 1000000000 + v / 4 % 2 ^ 30
  | 1 => h.num (Obj.targetPhase t)
  | _ => h.num (Obj.targetCycle t)

/-- The difference of two values of a basis, nearest to zero (R12). -/
def trigDiff (basis a b : Nat) : Int :=
  let m := trigModulus basis
  let d := (a + m - b % m) % m
  if 2 * d < m then (d : Int) else (d : Int) - m

/-- Whether the basis of an entry is usable (R61). -/
def Hub.trigUsable (h : Hub) (t : Nat) : Bool :=
  match h.num (Obj.trigBasis t) with
  | 0 => h.num Obj.syncState != syncNever
  | 1 => h.num Obj.phcState == phcLocked || h.num Obj.phcState == phcCoasting
  | _ => true

/-- The phase advance over `T` ns (R71), in 2^-32 cycle. -/
def Hub.advanceOver (h : Hub) (T : Nat) : Int :=
  ((h.time.phcFreq * T * 2000000000 : Nat) + h.int Obj.rocof * (T * T : Nat)) * 2 ^ 32 / 2000000000000000000000000

/-- The number of the slice that holds at a phase counted from cc-offset, in 2^-32 cycle (R58): the last slice of a cycle takes what is left. -/
def sliceAt (sl shifted : Int) : Int := shifted / 4294967296 * sl + min (sl - 1) (shifted % 4294967296 / (4294967296 / sl))

/-- The phase the control cycle runs on, and its frequency (R58). -/
def Hub.ccPhase (h : Hub) : Nat × Nat :=
  if h.num Obj.phcState = phcInvalid then (h.nominalPhase h.now, h.num Obj.nominalFrequency * 1000) else (h.phaseRaw h.now, h.time.phcFreq)

/-- Control cycles that begin between now and `ns` later (R57, R58); negative for earlier. -/
def Hub.cyclesWithin (h : Hub) (ns : Int) : Int :=
  let off := h.num Obj.ccOffset
  if h.num Obj.ccMode = 0 then
    let p : Int := (h.num Obj.ccPeriod : Nat)
    ((h.stNs h.now : Int) + ns - off) / p - ((h.stNs h.now : Int) - off) / p
  else
    let sl : Int := (h.num Obj.ccSlices : Nat)
    let ph : Int := (h.ccPhase.1 : Int) - off
    sliceAt sl (ph + (h.ccPhase.2 : Nat) * ns * 4294967296 / 1000000000000000) - sliceAt sl ph

/-- Ticks from now to the boundary that begins a control cycle `d` cycles after the present one (R57, R58). -/
def Hub.ticksToCycle (h : Hub) (d : Int) : Int :=
  let off := h.num Obj.ccOffset
  if h.num Obj.ccMode = 0 then
    let p := h.num Obj.ccPeriod
    let k := ((h.stNs h.now : Int) - off) / p
    h.ticksToSt ((k + d) * p + off)
  else
    let sl : Int := (h.num Obj.ccSlices : Nat)
    let turn : Int := 4294967296
    let shifted : Int := (h.ccPhase.1 : Int) - (off : Int)
    let k : Int := sliceAt sl shifted + d
    ticksOfPhase h.ccPhase.2 (k / sl * turn + k % sl * (turn / sl) - shifted)

/-- Ticks from now to the action instant of an entry whose occurrence is `x`: the target less operate-time. -/
def Hub.trigTicks (h : Hub) (t x : Nat) : Int :=
  let T := h.num (Obj.operateTime t)
  match h.num (Obj.trigBasis t) with
  | 0 => h.ticksToSt ((h.stNs h.now : Int) + trigDiff 0 x (h.stNs h.now) - T)
  | 1 => ticksWithRocof h.time.phcFreq (h.int Obj.rocof) (trigDiff 1 x (h.phaseAt h.now) - h.advanceOver T)
  | _ => h.ticksToCycle (trigDiff 2 x (h.ccAt h.now)) + ((h.num (Obj.cycleOffset t) : Int) - T) * 2 / 5

/-! ### Arming, disarming, commit -/

/-- trig-enable written true (R60, R68): an IDLE, DONE or MISSED entry that passes its checks is ARMED; on an ARMED or COMMITTED one the firings count
from this write on. -/
def Hub.trigArm (h : Hub) (t : Nat) : Nat × Hub :=
  let s := h.num (Obj.trigState t)
  if s = tsArmed ∨ s = tsCommitted then (0, h.setTrig t { h.trig t with fires := 0 })
  else if h.trigCheck t ≠ 0 then (h.trigCheck t, h)
  else (0, ((h.setTrig t { target := h.trigTarget t }).setNum (Obj.trigState t) tsArmed).setFlag (Obj.trigEnable t) true)

/-- An entry fixes its firing LTC (R60, R62). -/
def Hub.trigFix (h : Hub) (t : Nat) : Hub :=
  let x := h.trig t
  let l := ((h.now : Int) + max 0 (h.trigTicks t x.target)).toNat % 2 ^ 64
  (h.setTrig t { x with firing := l }).setNum (Obj.trigState t) tsCommitted

/-- The entries that wait for a slot (R62): ARMED, usable, their action instant within 50 µs, each with the ticks to it. -/
def Hub.trigWaiting (h : Hub) : List (Nat × Int) :=
  ((List.range 256).filter (fun t => h.num (Obj.trigState t) == tsArmed && h.trigUsable t)).filterMap (fun t =>
    let n := h.trigTicks t (h.trig t).target
    if 0 ≤ n ∧ n ≤ 20000 then some (t, n) else none)

/-- The entry that commits first: the earliest action instant, then the lowest t (R62). -/
def earliest : List (Nat × Int) → Option Nat
  | [] => none
  | p :: ps => some (ps.foldl (fun (b : Nat × Int) q => if q.2 < b.2 then q else b) p).1

/-- A slot is free (R62): where 64 entries were committed before, the entry that waits with the earliest instant commits. -/
def Hub.slotFreed (h : Hub) (full : Bool) : Hub :=
  if full && decide (h.trigCount tsCommitted < 64) then
    match earliest h.trigWaiting with
    | some t => h.trigFix t
    | none => h
  else h

/-- trig-enable written false: an ARMED or COMMITTED entry is IDLE; in the cycle of its firing LTC the write loses (R65). -/
def Hub.trigDisarm (h : Hub) (t : Nat) : Hub :=
  let s := h.num (Obj.trigState t)
  if s = tsCommitted ∧ reached h.now (h.trig t).firing = true then h
  else
    let full := s == tsCommitted && decide (64 ≤ h.trigCount tsCommitted)
    let h := h.setFlag (Obj.trigEnable t) false
    if s = tsArmed ∨ s = tsCommitted then ((h.setTrig t {}).setNum (Obj.trigState t) tsIdle).slotFreed full else h

/-- disarm-all written true (R69). -/
def Hub.disarmAllWrite (h : Hub) : Hub :=
  (List.range 256).foldl (fun h t =>
    let s := h.num (Obj.trigState t)
    if s = tsArmed ∨ s = tsCommitted then h.trigDisarm t else h) h

/-- The action instant is within 50 µs (R60, R62): the entry fixes its firing LTC, while fewer than 64 are committed. -/
def Hub.trigCommit (h : Hub) (t : Nat) : Hub :=
  if h.flag Obj.hubFault || h.num (Obj.trigState t) != tsArmed || !h.trigUsable t || decide (64 ≤ h.trigCount tsCommitted) then h
  else h.trigFix t

/-- TRIGGER_COMMIT (R60). -/
def execTriggerCommit (t : Fin 256) (s : State) : Host.Outcome State Fault Refusal := s.answer (fun h => h.trigCommit t.val)

/-! ### Actions (R66, R67) -/

/-- An OUTPUT action (R66): a command with the claim the supervisor holds, source 1, through the claim filter. -/
def Hub.fireOutput (h : Hub) (c arg : Nat) : Hub :=
  let g := h.num (Obj.boutGroup c)
  let r := cmdRecord (h.ownClaim g) g arg c 1 0
  let (loc, h) := h.issueCmd 0 r
  if loc then h.boutCommand c r else h

/-- A CC_NOTICE action: to the host the notice CONTROL_CYCLE, to the keeper its own; in REST the latter is an edge-type wake source. -/
def Hub.fireCcNotice (h : Hub) (t target : Nat) : Hub :=
  if target = 0 then h.notice N.controlCycle fidTime [t, h.ccAt h.now]
  else (h.emit (.keeperNotice t)).wakeSource 6 t true

/-- The level a TOUT_EDGE argument drives from a level: 0 low, 1 high, 2 toggle (R67). -/
def toutLevelOf (arg : Nat) (level : Bool) : Bool := if arg = 2 then !level else arg == 1

/-- A TOUT_EDGE action on a pin in TRIGGER mode (R64, R73): at the firing LTC less tout-delay, or at once when the entry fires late. -/
def Hub.fireTout (h : Hub) (i arg at_ : Nat) (late : Bool) : Hub :=
  if h.num (Obj.toutMode i) ≠ 1 then h
  else
    let level := toutLevelOf arg (SMap.get (fun _ => false) h.time.toutLevel i)
    if late then h.setTout i level h.now else h.driveTout i level at_

/-- Whether an action's target lies in a domain that REST powers down (R534). -/
def restTarget (action target : Nat) : Bool :=
  action == 1 || action == 2 || action == 3 || action == 5 || (action == 4 && target == 0)

/-- Whether a later action on one target stands in place of an earlier one: a command, a matrix start or an edge (R65); an event, a notice, a pulse or
a snapshot is another one each time. -/
def supersedes (action : Nat) : Bool := action == 1 || action == 5 || action == 6

/-- Whether an entry of higher t has acted on the target of an entry in the cycle of its firing LTC (R65): its action stands. -/
def Hub.laterAct (h : Hub) (t at_ : Nat) : Option Nat :=
  match SMap.get (fun _ => none) h.time.lastAct (h.num (Obj.action t) * 65536 + h.num (Obj.actionTarget t)) with
  | some (l, t') => if supersedes (h.num (Obj.action t)) = true ∧ l = at_ ∧ t < t' then some t' else none
  | none => none

/-- An edge whose place was before the toggle that has already acted on its pin: the pin ends as if the toggle came last (R65, R67). -/
def Hub.toggledAfter (h : Hub) (t t' at_ : Nat) (late : Bool) : Hub :=
  let a := h.num (Obj.actionArg t)
  if h.num (Obj.action t) = 6 ∧ h.num (Obj.actionArg t') = 2 then h.fireTout (h.num (Obj.actionTarget t)) (if a = 2 then 2 else 1 - a) at_ late else h

/-- Whether another entry of higher t starts the same CAN matrix in the same cycle (R311): of several CAN_START actions only that one acts. -/
def Hub.startYields (h : Hub) (t at_ : Nat) : Bool :=
  (List.range 256).any (fun u => decide (t < u) && h.num (Obj.trigState u) == tsCommitted && h.num (Obj.action u) == 5
    && h.num (Obj.actionTarget u) == h.num (Obj.actionTarget t) && (h.trig u).firing == at_)

/-- The action of an entry at its firing LTC. -/
def Hub.trigAct (h : Hub) (t at_ : Nat) (late : Bool) : Hub :=
  let x := h.num (Obj.actionTarget t)
  let a := h.num (Obj.actionArg t)
  let act := h.num (Obj.action t)
  if h.mode = modeRest ∧ restTarget act x = true then h
  else
  match h.laterAct t at_ with
  | some t' => h.toggledAfter t t' at_ late
  | none =>
    let h := { h with time := { h.time with lastAct := SMap.set (fun _ => none) h.time.lastAct (act * 65536 + x) (some (at_, t)) } }
    match act with
    | 1 => h.fireOutput x a
    | 2 => h.cstartFire x
    | 3 => h.seqEvent x a
    | 4 => h.fireCcNotice t x
    | 5 => if h.startYields t at_ then h else h.canStartFire x a at_
    | 6 => h.fireTout x a at_ late
    | 7 => h.snapshot 1 t
    | _ => h

/-- An entry has fired at an LTC (R60, R70): tallies, last-fire, and its next state; `next` is its next occurrence. -/
def Hub.trigFired (h : Hub) (t at_ next : Nat) : Hub :=
  let x := h.trig t
  let h := (h.count Obj.firedTally).count (Obj.fireCount t)
  let h := (h.setNum (Obj.lastFireLtc t) at_).setNum (Obj.lastFire t) (h.stamp128At .H at_ 0)
  let n := x.fires + 1
  if h.num (Obj.trigShape t) = 0 then
    ((h.setTrig t {}).setNum (Obj.trigState t) tsDone).setFlag (Obj.trigEnable t) false
  else if h.num (Obj.repeatCount t) ≠ 0 ∧ h.num (Obj.repeatCount t) ≤ n then (h.setTrig t {}).setNum (Obj.trigState t) tsDone
  else (h.setTrig t { target := next, firing := 0, fires := n }).setNum (Obj.trigState t) tsArmed

/-- The occurrence `n` periods on. -/
def Hub.nextTarget (h : Hub) (t x n : Nat) : Nat := (x + n * h.num (Obj.period t)) % trigModulus (h.num (Obj.trigBasis t))

/-- A COMMITTED entry with an action reaches its firing LTC (R60, R65). -/
def Hub.trigFire (h : Hub) (t action : Nat) : Hub :=
  if h.flag Obj.hubFault || h.num (Obj.trigState t) != tsCommitted || h.num (Obj.action t) != action then h
  else
    let x := h.trig t
    let full := decide (64 ≤ h.trigCount tsCommitted)
    (((h.trigAct t x.firing false).trigFired t x.firing (h.nextTarget t x.target 1))).slotFreed full

/-- TRIGGER_FIRE_NONE (R67). -/
def execTriggerFireNone (t : Fin 256) (s : State) : Host.Outcome State Fault Refusal := s.answer (fun h => h.trigFire t.val 0)
/-- TRIGGER_FIRE_OUTPUT (R66). -/
def execTriggerFireOutput (t : Fin 256) (s : State) : Host.Outcome State Fault Refusal := s.answer (fun h => h.trigFire t.val 1)
/-- TRIGGER_FIRE_CSTART (R270). -/
def execTriggerFireCstart (t : Fin 256) (s : State) : Host.Outcome State Fault Refusal := s.answer (fun h => h.trigFire t.val 2)
/-- TRIGGER_FIRE_SEQ_EVENT (R327). -/
def execTriggerFireSeqEvent (t : Fin 256) (s : State) : Host.Outcome State Fault Refusal := s.answer (fun h => h.trigFire t.val 3)
/-- TRIGGER_FIRE_CC_NOTICE (R67). -/
def execTriggerFireCcNotice (t : Fin 256) (s : State) : Host.Outcome State Fault Refusal := s.answer (fun h => h.trigFire t.val 4)
/-- TRIGGER_FIRE_CAN_START (R311). -/
def execTriggerFireCanStart (t : Fin 256) (s : State) : Host.Outcome State Fault Refusal := s.answer (fun h => h.trigFire t.val 5)
/-- TRIGGER_FIRE_TOUT_EDGE (R73). -/
def execTriggerFireToutEdge (t : Fin 256) (s : State) : Host.Outcome State Fault Refusal := s.answer (fun h => h.trigFire t.val 6)
/-- TRIGGER_FIRE_LTC_CAPTURE (R74). -/
def execTriggerFireLtcCapture (t : Fin 256) (s : State) : Host.Outcome State Fault Refusal := s.answer (fun h => h.trigFire t.val 7)

/-! ### An instant passes (R64) -/

/-- Occurrences of an entry that have passed: one for a ONE_SHOT entry; for a PERIODIC one, those whose instant is not in the future. -/
def Hub.passedCount (h : Hub) (t x : Nat) : Nat :=
  if h.num (Obj.trigShape t) = 0 then 1
  else
    let basis := h.num (Obj.trigBasis t)
    let p := h.num (Obj.period t)
    let T := h.num (Obj.operateTime t)
    let late : Int :=
      match basis with
      | 0 => -(trigDiff 0 x (h.stNs h.now) - T)
      | 1 => -(trigDiff 1 x (h.phaseAt h.now) - h.advanceOver T)
      | _ => h.cyclesWithin ((T : Int) - (h.num (Obj.cycleOffset t) : Nat)) - trigDiff 2 x (h.ccAt h.now)
    1 + (if p = 0 then 0 else (max 0 late).toNat / p)

/-- The action instant of an ARMED entry passes before its commit: it skips, or fires once for the latest occurrence (R64). -/
def Hub.trigPassed (h : Hub) (t : Nat) : Hub :=
  if h.flag Obj.hubFault || h.num (Obj.trigState t) != tsArmed || !h.trigUsable t then h
  else
    let x := h.trig t
    let n := h.passedCount t x.target
    let one := h.num (Obj.trigShape t) == 0
    if h.num (Obj.latePolicy t) = 0 then
      let h := (h.countN Obj.missedTally n).notice N.triggerMissed fidTime [t, argSat n]
      if one then (h.setTrig t {}).setNum (Obj.trigState t) tsMissed
      else h.setTrig t { x with target := h.nextTarget t x.target n }
    else
      let last := if one then x.target else h.nextTarget t x.target (n - 1)
      let late := (max 0 (-(h.trigTicks t last))).toNat * 5 / 2
      let h := (h.count Obj.lateTally).notice N.triggerLate fidTime [t, argSat late]
      let h := h.when (decide (1 < n)) (fun h => (h.countN Obj.missedTally (n - 1)).notice N.triggerMissed fidTime [t, argSat (n - 1)])
      (h.trigAct t h.now true).trigFired t h.now (h.nextTarget t last 1)

/-- TRIGGER_INSTANT_PASSED (R64). -/
def execTriggerInstantPassed (t : Fin 256) (s : State) : Host.Outcome State Fault Refusal := s.answer (fun h => h.trigPassed t.val)

/-! ### The control cycle (R57, R59) -/

/-- A control-cycle boundary: RWB values of the control cycle take effect, the number advances, and the supervisor acts. -/
def Hub.ccBoundary (h : Hub) : Hub :=
  let h := h.applyRwb [Obj.ccMode, Obj.ccSlices, Obj.ccPeriod, Obj.ccOffset]
  let h := { h with time := { h.time with ccNumber := h.ccAt h.now } }
  h.dupBoundary

/-- CONTROL_CYCLE_BOUNDARY (R57). -/
def execControlCycleBoundary (s : State) : Host.Outcome State Fault Refusal := s.answer Hub.ccBoundary

end Sys2Proof.Machine
end

