-- ==== Sys2Proof/Machine/Registers.lean ====
section
/-!
DEFINITION. The BAR0 registers (R130, R132, R211 to R215, and the status registers of the blocks): what a read by a path returns and
does, which registers the paths may write, and what a write does.
-/
namespace Sys2Proof.Machine

/-- STALL_PATH of HUBSTAT (R213). -/
def stallPath : Option Requester → Nat
  | none => 0
  | some r => match r.path with | .pcie => 1 | .ring => 2 | .station => 3 | .service => 4

/-- HUBSTAT (R213). -/
def Hub.hubstat (h : Hub) : Nat :=
  b2n (h.flag Obj.hubFault) * 2 ^ 31 + b2n h.keeper.ready * 2 ^ 30 + stallPath h.keeper.holder * 2 ^ 27 + h.self % 128 * 2 ^ 16

/-- TCAPi_STAT (R78). DESIGN CHOICE (log entry 95): with LEVEL 0 there is no head capture, and FRAC and EDGE read 0 as R75 gives LO and HI. -/
def Hub.tcapStat (h : Hub) (i : Nat) : Nat :=
  let n := (SMap.get (fun _ => []) h.time.tcap i).length
  let ovf := SMap.get (fun _ => 0) h.time.tcapOvf i * 65536
  match h.tcapHeadOf i with
  | none => ovf
  | some c => ovf + c.frac * 256 + b2n c.rising * 128 + n

/-- SNAP_CTRL (R76): SNAP_TRIG when SNAP_SRC is 1. -/
def Snapshot.ctrl (x : Snapshot) : Nat :=
  x.seq * 2 ^ 24 + x.trig % 256 * 2 ^ 16 + x.sync % 16 * 2 ^ 12 + x.phcState % 4 * 2 ^ 10 + x.src % 4 * 2 ^ 8

/-- The time-capture group by offset, but for the two reads that have an effect (R76 to R78). -/
def Hub.captureReg (h : Hub) (path : RegPath) (off : Nat) : Nat :=
  let x := h.time.snap
  if off = 0x00 then x.ctrl
  else if off = 0x08 then x.ltc % 2 ^ 32
  else if off = 0x0C then x.ltc / 2 ^ 32
  else if off = 0x10 then x.st % 2 ^ 32
  else if off = 0x14 then x.st / 2 ^ 32
  else if off = 0x18 then x.phc % 2 ^ 32
  else if off = 0x1C then x.phc / 2 ^ 32
  else if off = 0x84 then SMap.get (fun _ => 0) h.time.ltcHi (pathCode path)
  else if 0x40 ≤ off ∧ off < 0x80 then
    if off % 16 = 0 then h.tcapStat ((off - 0x40) / 16)
    else if off % 16 = 4 then ((h.tcapHeadOf ((off - 0x40) / 16)).map (fun c => c.ltc % 2 ^ 32)).getD 0
    else 0
  else 0

/-- The bridge fault-log window by offset (R160, R161). -/
def Hub.logReg (h : Hub) (off : Nat) : Nat :=
  let b := h.bridge
  if off = 0 then (if b.logSeq = 0 then 0 else b.logSlot)
  else if off = 4 then b.logSeq
  else if off = 8 then h.num Obj.faultLogOverwritten
  else if 0x100 ≤ off ∧ off < 0x900 then (SMap.get (fun _ => []) b.log ((off - 0x100) / 32)).getD (off % 32 / 4) 0
  else 0

/-- QSTAT(q) (R233, R234). -/
def Hub.qstat (h : Hub) (q : Nat) : Nat :=
  let lv := h.qLevel q
  (h.func (fidQueue q)).byte * 2 ^ 24 + b2n (h.queue q).flushing * 2 ^ 23 + b2n (decide (h.num (Obj.wmHigh q) ≤ lv)) * 2 ^ 22
    + b2n (h.num (Obj.wmLow q) != 0xFFFF && decide (lv ≤ h.num (Obj.wmLow q))) * 2 ^ 21 + lv % 2 ^ 13

/-- QACK(q) (R234). -/
def QState.ack (s : QState) : Nat :=
  b2n s.wmHighSticky * 16 + b2n s.wmLowSticky * 8 + b2n s.creditViol * 4 + b2n s.ptrFault * 2

/-- A register of queue block q by offset (R234); QPORT(q) is apart. -/
def Hub.queueReg (h : Hub) (q off : Nat) : Nat :=
  let s := h.queue q
  if off = 0x08 then (if h.isD2H q then 0 else s.released)
  else if off = 0x0C then h.qstat q
  else if off = 0x10 then s.cidx * 65536 + s.pidxAcc
  else if off = 0x14 then s.ack
  else if off = 0x18 then h.num (Obj.wmHighLtc q) % 2 ^ 32
  else if off = 0x1C then h.num (Obj.wmHighLtc q) / 2 ^ 32
  else if off = 0x20 then h.num (Obj.wmLowLtc q) % 2 ^ 32
  else if off = 0x24 then h.num (Obj.wmLowLtc q) / 2 ^ 32
  else if off = 0x28 then h.num (Obj.wmHighLevel q) * 65536 + h.num (Obj.wmLowLevel q)
  else 0

/-- SCANSTAT(e), SCANDONE(e), SCANVAL(e) and SCANRES(e) by word (R472). -/
def Hub.scanReg (h : Hub) (e w : Nat) : Nat :=
  let x := h.scan e
  match w with
  | 0 => (h.func (fidScan e)).byte * 2 ^ 24 + x.run * 2 ^ 22 + x.status * 256 + x.jobSeq
  | 1 => x.done
  | 2 => x.val
  | _ => x.res

/-- The power-state registers by word (R549). -/
def Hub.powerReg (h : Hub) (w : Nat) : Nat :=
  match w with
  | 0 => h.pwr.mode
  | 1 => h.mode * 2 ^ 29 + h.num Obj.eavesHeld * 2 ^ 16 + h.num Obj.napMap
  | 2 => h.holders
  | 3 => h.num Obj.lastWakeSource * 2 ^ 24 + h.num Obj.wakePending
  | _ => 0

/-- The MSI-X table and the pending bit array (R211, R212), which only the PCIe path reaches. -/
def Hub.msixReg (h : Hub) (off : Nat) : Nat :=
  if 0x20000 ≤ off ∧ off < 0x20800 then h.msixWord ((off - 0x20000) / 16) (off % 16 / 4)
  else if 0x21000 ≤ off ∧ off < 0x21010 then
    (List.range 32).foldl (fun n i => if h.host.pba.contains ((off - 0x21000) * 8 + i) then setBit n i else n) 0
  else 0

/-- A word of configuration space (R204, R205, R209; places by log entry 94): identification, the Command and Status registers, class code, the BARs, the
capabilities of power management, the express endpoint, MSI-X and AER. -/
def Hub.configWord (h : Hub) (off : Nat) : Nat :=
  match off with
  | 0x00 => 0x51921F8E
  | 0x04 => h.host.pciStatus * 65536 + 0x100000 + h.configReg 0x04 + b2n h.host.busMaster * 4
  | 0x08 => 0x118000B0
  | 0x34 => 0x40
  | 0x40 => 0x00035001
  | 0x50 => 0x00026010
  | 0x54 => 0x10008022
  | 0x5C => 0x00400C44
  | 0x60 => b2n h.host.msixEnable * 2 ^ 31 + b2n h.host.functionMask * 2 ^ 30 + 127 * 65536 + 0x11
  | 0x64 => 0x20000
  | 0x68 => 0x21000
  | 0x100 => 0x00020001
  | 0x104 => h.host.aerUncor
  | 0x110 => h.host.aerCor
  | 0x118 => h.configReg 0x118 + h.host.firstError % 32
  | 0x11C | 0x120 | 0x124 | 0x128 =>
    if h.host.headers = 0 then 0 else (Config.tlpHeader h.host.headers ((off - 0x11C) / 4)).toNat
  | _ => h.configReg off

/-- The value of the 32-bit register at an aligned BAR0 offset, for a path; unpopulated offsets and write-only registers read 0 (R4). -/
def Hub.regValue (h : Hub) (path : RegPath) (off : Nat) : Nat :=
  if off = 0x00 then 0xB0
  else if off = 0x04 then h.hubstat
  else if 0x1010 ≤ off ∧ off < 0x1050 then h.fenceRep ((off - 0x1010) / 4)
  else if off = 0x1050 then h.fenceAllRep
  else if off = 0x1104 then h.num Obj.resetCount % 65536 * 65536 + h.num Obj.lastFunc
  else if off = 0x1200 then h.host.npend % 2 ^ 32
  else if off = 0x1204 then h.host.npend / 2 ^ 32
  else if off = 0x1208 then h.host.nseq
  else if off = 0x120C then h.host.nlost
  else if 0x2000 ≤ off ∧ off < 0x2100 then h.captureReg path (off - 0x2000)
  else if 0x3000 ≤ off ∧ off < 0x4000 then h.logReg (off - 0x3000)
  else if 0x10000 ≤ off ∧ off < 0x11000 then h.queueReg ((off - 0x10000) / 64) (off % 64)
  else if 0x20000 ≤ off ∧ off < 0x21010 then (if path = .pcie then h.msixReg off else 0)
  else if 0x112000 ≤ off ∧ off < 0x1120C0 then h.canStat ((off - 0x112000) / 4)
  else if 0x113000 ≤ off ∧ off < 0x113180 then h.seqReg ((off - 0x113000) / 16) (off % 16 / 4)
  else if 0x114000 ≤ off ∧ off < 0x114040 then h.scanReg ((off - 0x114000) / 16) (off % 16 / 4)
  else if 0x115000 ≤ off ∧ off < 0x115010 then h.powerReg ((off - 0x115000) / 4)
  else 0

/-- The queue whose QPORT starts at an offset (R132, R234). -/
def qportAt (off : Nat) : Option Nat :=
  if 0x10000 ≤ off ∧ off < 0x11000 ∧ off % 64 = 0x30 then some ((off - 0x10000) / 64) else none

/-- A read of one 32-bit register by a path, with its side effects: LTC_NOW_LO latches (R40), TCAPi_HI removes the head (R75). -/
def Hub.regRead (h : Hub) (path : RegPath) (off : Nat) : Nat × Hub :=
  if off = 0x2080 then h.ltcLatch path
  else if 0x2040 ≤ off ∧ off < 0x2080 ∧ off % 16 = 8 then h.tcapTake ((off - 0x2040) / 16)
  else (h.regValue path off, h)

/-- Whether a register is one of the groups of R21 that a write acts on: doorbells, credits, FIFO ports, fences, the time capture, notice
acknowledges, function resets. -/
def writable (off : Nat) : Bool :=
  [0x10, 0x14, 0x18, 0x1C, 0x1000, 0x1004, 0x1100, 0x1200, 0x1204, 0x2000].contains off
    || (decide (0x10000 ≤ off ∧ off < 0x11000) && [0x00, 0x04, 0x14, 0x30, 0x34].contains (off % 64))

/-- A write of SEQFLAG (R337): the host's write to a sequencer in reset counts in go-ignored; one from the ring the bridge answers with WNAK (R34). -/
def Hub.seqflag (h : Hub) (path : RegPath) (s set_ : Nat) : Hub :=
  if 24 ≤ s then h
  else if (h.func (fidSeq s)).inReset then (if path = .ring then h else h.count (Obj.seqGoIgnored s))
  else h.setSq s { h.sq s with flags := Nat.lor (h.sq s).flags set_ }

/-- A write of SCANGO (R467, R471). -/
def Hub.scanGoWrite (h : Hub) (go : Nat) : Hub :=
  (List.range 4).foldl (fun h e => if go.testBit e then h.scanGo e else h) h

/-- A write of one 32-bit register by a path that is not PCIe: what each writable register does; every other write has no effect (R4, R13).
MBOX_DB from such a path counts in mbox-foreign (R434). -/
def Hub.regWrite (h : Hub) (path : RegPath) (off v : Nat) : Hub :=
  if off = 0x10 then h.seqGo (v % 2 ^ 24)
  else if off = 0x14 then h.when (v.testBit 0) (fun h => h.count Obj.mboxForeign)
  else if off = 0x18 then h.seqflag path (bits v 12 8) (v % 256)
  else if off = 0x1C then h.scanGoWrite (v % 16)
  else if off = 0x1000 then h.requestFence (v % 16)
  else if off = 0x1004 then h.when (v.testBit 0) Hub.requestAll
  else if off = 0x1100 then (h.resetBy path (v % 65536)).2
  else if off = 0x1200 then h.npendClear (v % 2 ^ 32)
  else if off = 0x1204 then h.npendClear (v % 2 ^ 32 * 2 ^ 32)
  else if off = 0x2000 then h.when (v.testBit 0) (fun h => h.snapshot 0 0)
  else if 0x10000 ≤ off ∧ off < 0x11000 then
    let q := (off - 0x10000) / 64
    let r := off % 64
    if r = 0 then h.doorbell path q (v % 65536)
    else if r = 4 then h.creditSync path q (v.testBit 0)
    else if r = 0x14 then h.qackClear q v
    else if r = 0x30 ∨ r = 0x34 then h.qportWrite path q 0 false
    else h
  else h

/-- SEQ_GO (R329). -/
def execSeqGo (_path : RegPath) (go : BitVec 24) (s : State) : Host.Outcome State Fault Refusal :=
  s.answer (fun h => h.seqGo go.toNat)
/-- SEQFLAG_WRITE (R337). -/
def execSeqflagWrite (path : RegPath) (q : Fin 32) (set_ : BitVec 8) (s : State) : Host.Outcome State Fault Refusal :=
  s.answer (fun h => h.seqflag path q.val set_.toNat)
/-- SCAN_GO (R467). -/
def execScanGo (_path : RegPath) (go : BitVec 4) (s : State) : Host.Outcome State Fault Refusal :=
  s.answer (fun h => h.scanGoWrite go.toNat)

end Sys2Proof.Machine
end

