-- ==== Sys2Proof/Machine/Bridge.lean ====
section
/-!
DEFINITION. The bridge as a target (R130 to R133, R137, R143 to R146, R154, R155, R163 to R165), the answers that reach it as an initiator
(R148, R149, R157 to R159, R162), and the commands of the bridge. Scan jobs over local memory are here too (R466 to R468).
-/
namespace Sys2Proof.Machine

/-! ### Local memory (R130, R131, R246) -/

/-- The status block of channel c in its cluster buffer (R246). -/
def Hub.chanBlock (h : Hub) (c : Nat) : List Byte :=
  let x := h.chan c
  let flags := b2n (x.pinA.getD x.inA) + 2 * b2n (h.flag (Obj.inputState c)) + 4 * b2n x.blocked + 8 * b2n (h.num (Obj.outputCommand c) == 1)
    + 16 * b2n x.coil + 32 * b2n x.driverOff
  beBytes 1 (h.func (fidChannel c)).byte ++ beBytes 1 (h.num (Obj.chMode c)) ++ beBytes 1 (h.num (Obj.lineState c)) ++ beBytes 1 flags
    ++ beBytes 4 (h.num (Obj.fieldVoltage c)) ++ beBytes 8 (h.num (Obj.chStLastChange c)) ++ beBytes 4 (h.num (Obj.pulseCount c))
    ++ beBytes 4 (h.num (Obj.chStFrequency c)) ++ beBytes 4 (h.num (Obj.outputClaim c)) ++ beBytes 4 x.newest

/-- The target field of a trigger entry (R131): the occurrence it waits for while armed or committed, otherwise the one its objects name. -/
def Hub.trigTargetField (h : Hub) (t : Nat) : Nat :=
  let st := h.num (Obj.trigState t)
  let x := if st == tsArmed || st == tsCommitted then (h.trig t).target else h.trigTarget t
  match h.num (Obj.trigBasis t) with
  | 0 => stamp64 x .H + h.num (Obj.targetSt t) % 4
  | 1 => x
  | _ => x * 2 ^ 32 + h.num (Obj.cycleOffset t)

/-- A trigger-memory entry (R131). -/
def Hub.trigBlock (h : Hub) (t : Nat) : List Byte :=
  let st := h.num (Obj.trigState t)
  beBytes 8 (h.trigTargetField t) ++ beBytes 8 (if st = tsCommitted then (h.trig t).firing else 0)
    ++ beBytes 4 (h.num (Obj.operateTime t)) ++ beBytes 1 (h.num (Obj.trigBasis t)) ++ beBytes 1 (h.num (Obj.trigShape t))
    ++ beBytes 1 (h.num (Obj.action t)) ++ beBytes 1 st ++ beBytes 2 (h.num (Obj.actionTarget t)) ++ beBytes 4 (h.num (Obj.actionArg t))
    ++ beBytes 8 (h.num (Obj.period t)) ++ beBytes 4 (h.num (Obj.repeatCount t)) ++ beBytes 4 (h.num (Obj.fireCount t))

/-- Whether `n` octets at a local address lie in one of the read-only ranges of on-chip memory (R130). -/
def readOnlyRange (l n : Nat) : Bool :=
  let inside (lo hi : Nat) := decide (lo ≤ l ∧ l < hi ∧ l + n ≤ hi)
  inside 0x1000000000 0x10000C0000 || inside 0x1000100000 0x1000104000 || inside 0x1000110000 0x1000128000
    || inside 0x1000130000 0x1000130C00

/-- An octet of the read-only ranges. The packet area of a cluster is not defined for readers (R246): a free value. -/
def Hub.roByte (h : Hub) (l i : Nat) : Byte :=
  let a := l + i
  if a < 0x10000C0000 then
    let k := (a - 0x1000000000) / 0x10000
    let o := a % 0x10000
    if o < 0x1000 then (h.chanBlock (16 * k + o / 256)).getD (o % 256) 0 else Config.free 8 (h.freeCtr + i)
  else if a < 0x1000104000 then (h.trigBlock ((a - 0x1000100000) / 64)).getD (a % 64) 0
  else if a < 0x1000128000 then (h.oct (Obj.canSchedule ((a - 0x1000110000) / 2048))).getD (a % 2048) 0
  else (h.oct (Obj.program ((a - 0x1000130000) / 128))).getD (a % 128 / 2 * 2 + (1 - a % 2)) 0

/-- Octets of the read-only ranges. -/
def Hub.roRead (h : Hub) (l n : Nat) : List Byte × Hub :=
  ((List.range n).map (fun i => h.roByte l i), if l < 0x10000C0000 then { h with freeCtr := h.freeCtr + n } else h)

/-- The octets of a register as a path carries them: big-endian on the ring (R132), little-endian for the host. -/
def regOctets (path : RegPath) (n v : Nat) : List Byte := if path = .ring then beBytes n v else leBytes n v

/-- Registers read by a path, whole, QPORT(q) as one 64-bit value (R132, R206). -/
def Hub.regBytes (h : Hub) (path : RegPath) : Nat → Nat → Nat → List Byte × Hub
  | 0, _, _ => ([], h)
  | fuel + 1, off, n =>
    if n = 0 then ([], h)
    else
      match qportAt off, decide (8 ≤ n) with
      | some q, true =>
        let r := h.qportRead q true
        let t := r.2.regBytes path fuel (off + 8) (n - 8)
        (regOctets path 8 r.1 ++ t.1, t.2)
      | _, _ =>
        let r := h.regRead path off
        let t := r.2.regBytes path fuel (off + 4) (n - 4)
        (regOctets path 4 r.1 ++ t.1, t.2)

/-- Registers written by the ring path (R132). -/
def Hub.regStore (h : Hub) : Nat → Nat → List Byte → Hub
  | 0, _, _ => h
  | fuel + 1, off, data =>
    if data.isEmpty then h
    else
      match qportAt off, decide (8 ≤ data.length) with
      | some q, true => (h.qportWrite .ring q (beNat (data.take 8)) true).regStore fuel (off + 8) (data.drop 8)
      | _, _ => (h.regWrite .ring off (beNat (data.take 4))).regStore fuel (off + 4) (data.drop 4)

/-- The post SRAM's place in the local map (R130). -/
def sramBase : Nat := 0x100000000
def sramSize : Nat := 0x200000

def inSram (l n : Nat) : Bool := decide (sramBase ≤ l ∧ l < sramBase + sramSize ∧ l + n ≤ sramBase + sramSize)

/-- Whether octets of the post SRAM hold an uncorrectable error (R482): by 8-octet words. -/
def Hub.poisoned (h : Hub) (off n : Nat) : Bool :=
  h.safety.poison.any (fun w => decide (8 * w < off + n ∧ off < 8 * w + 8))

/-- A write into the post SRAM: words written whole lose their error (R133, R482). -/
def Hub.sramWrite (h : Hub) (off : Nat) (data : List Byte) : Hub :=
  { h with
    host := { h.host with sram := Memory.writeN h.host.sram off data }
    safety := { h.safety with
      poison := h.safety.poison.filter (fun w => !decide (off ≤ 8 * w ∧ 8 * w + 8 ≤ off + data.length)) } }

/-! ### Guards (R129, R130, R132, R143 to R145) -/

/-- The source's bit in a 64-bit map of node ids. -/
def sourceBit (map src : Nat) : Bool := decide (1 ≤ src ∧ src ≤ 64) && map.testBit (src - 1)

/-- The registers a ring write covers are all in the groups of R21. -/
def allWritable (off n : Nat) : Bool := (List.range (n / 4)).all (fun i => writable (off + 4 * i))

/-- The functions that a 32-bit register of BAR0 belongs to, or that the value written to it names (R34): the block of a queue, the status of a CAN
controller, a sequencer or a scan engine, and SEQGO, SEQFLAG, SCANGO and FENCE_W by their value; `v`: none for a read. -/
def regFunctions (o : Nat) (v : Option Nat) : List Nat :=
  if 0x10000 ≤ o ∧ o < 0x11000 then [fidQueue ((o - 0x10000) / 64)]
  else if 0x112000 ≤ o ∧ o < 0x1120C0 then [fidCan ((o - 0x112000) / 4)]
  else if 0x113000 ≤ o ∧ o < 0x113180 then [fidSeq ((o - 0x113000) / 16)]
  else if 0x114000 ≤ o ∧ o < 0x114040 then [fidScan ((o - 0x114000) / 16)]
  else
    match v with
    | none => []
    | some v =>
      if o = 0x10 then ((List.range 24).filter v.testBit).map fidSeq
      else if o = 0x18 then [fidSeq (bits v 12 8)]
      else if o = 0x1C then ((List.range 3).filter v.testBit).map fidScan
      else if o = 0x1000 then [fidWindow (v % 16)]
      else []

/-- A ring transaction addresses a function in reset (R34). -/
def Hub.resetHit (h : Hub) (f : RingFrame) (off n : Nat) : Bool :=
  (List.range (n / 4)).any (fun i =>
    (regFunctions (off + 4 * i) (if f.type = tRd then none else some (beAt (txData f) (4 * i) 4))).any (fun id => (h.func id).inReset))

/-- The guard on a transaction of `n` octets: op 0 read, 1 write, 2 atomic. 0: accepted; otherwise the status it is refused with. The node id of its
address is that of its DST, and this hub's (R129). -/
def Hub.guardTxn (h : Hub) (f : RingFrame) (n op : Nat) : Nat :=
  let l := addrLocal (txAddr f)
  if addrNode (txAddr f) ≠ f.dst ∨ f.dst ≠ h.self then stDenied
  else if l < 0x1000000 then
    if !sourceBit (h.num Obj.registerSources) f.src || l % 4 != 0 || n % 4 != 0 || op == 2 || decide (0x1000000 < l + n) then stDenied
    else if op = 1 ∧ allWritable l n = false then stDenied
    else if h.resetHit f l n then stFuncReset
    else stOk
  else if inSram l n then
    if sourceBit (h.num Obj.sramSources) f.src && (h.num Obj.sramAccess).testBit op then stOk else stDenied
  else if readOnlyRange l n then (if op = 0 then stOk else stDenied)
  else
    match apertureOf l with
    | none => stDenied
    | some a =>
      if !h.isOn (fidAperture a) || !h.canRequest then stFuncReset
      else if sourceBit (h.num (Obj.apSources a)) f.src && (h.num (Obj.apAccess a)).testBit op
          && decide (l % 2 ^ 36 + n ≤ 2 ^ h.num (Obj.apSize a)) then stOk
      else stDenied

/-- Refuse a transaction, counted in the aperture it addresses when its guard denies it (R143, R169). -/
def Hub.deny (h : Hub) (f : RingFrame) (status : Nat) : Hub :=
  let h := match apertureOf (txAddr f) with
    | some a => h.when (addrNode (txAddr f) == h.self) (fun h => h.count (Obj.denied a))
    | none => h
  h.refuseTxn f status

/-! ### Apertures (R143 to R146) -/

/-- The group size of an aperture's byte-lane rule: 1 for AI. -/
def Hub.apUnit (h : Hub) (a : Nat) : Nat := if h.num (Obj.apByteLane a) = 1 then h.num (Obj.apDiUnit a) else 1

/-- A write through an aperture as PCIe posted writes: one when its groups are whole, otherwise one for each group it touches. -/
def Hub.apWrite (h : Hub) (a off : Nat) (data : List Byte) : Hub :=
  let u := h.apUnit a
  let base := h.num (Obj.hostBase a)
  let h := h.count (Obj.writesServed a)
  if off % u = 0 ∧ data.length % u = 0 then h.emit (.hostWrite (base + off) (swapUnits u data))
  else (splitAccess u (data.length + 1) off data.length).foldl (fun h p =>
    h.emit (.hostWrite (base + (p.1 - p.1 % u) + (u - p.1 % u - p.2)) (slice data (p.1 - off) p.2).reverse)) h

/-- The host range a read of an aperture covers: whole groups. -/
def apSpan (u off n : Nat) : Nat × Nat := (off - off % u, off % u + n + (u - (off + n) % u) % u)

/-! ### Requests (R137, R154, R155, R163) -/

/-- Octets a request covers. -/
def reqLen (f : RingFrame) : Nat := if f.type = tRd then beAt f.payload 8 2 else if f.type = tLkrd then txB7 f else (txData f).length

/-- A granule that the octets touch is locked (R163). -/
def Hub.lockedRange (h : Hub) (a n : Nat) : Bool :=
  h.bridge.locks.any (fun k => n != 0 && decide (granuleOf a ≤ k.granule ∧ k.granule ≤ granuleOf (a + n - 1)))

/-- Whether octets of the post SRAM are in a locked granule (R163). -/
def Hub.sramLocked (h : Hub) (off n : Nat) : Bool := h.lockedRange (sramBase + off) n

/-- A request that waits is of the flow of a frame (R137). -/
def sameFlow (f : RingFrame) : Waiting → Bool
  | .ring g => g.src == f.src && txInit g == txInit f && g.cls == f.cls
  | _ => false

/-- An earlier request of the same flow waits (R137). -/
def Hub.flowWaits (h : Hub) (f : RingFrame) : Bool := h.bridge.waiting.any (sameFlow f)

/-- A request waits at the target. -/
def Hub.holdRequest (h : Hub) (w : Waiting) : Hub := { h with bridge := { h.bridge with waiting := h.bridge.waiting ++ [w] } }

/-- A read-fetch is begun, or refused for want of a buffer (R154). -/
def Hub.firstFetch (h : Hub) (f : RingFrame) (a n : Nat) : Hub :=
  if 32 ≤ h.bridge.fetches.length then
    ((h.count Obj.fetchBusy).count Obj.rdxSent).respondTxn f tRdx 1 (beBytes 2 0)
  else
    let tag := h.bridge.nextRetry
    let off := addrLocal (txAddr f) % 2 ^ 36
    let b : FetchBuf := { retry := tag, src := f.src, init := txInit f, addr := txAddr f, len := n, ap := a }
    let h := { h with bridge := { h.bridge with
      nextRetry := if tag = 65535 then 1 else tag + 1, fetches := h.bridge.fetches ++ [b] } }
    let h := (h.setNum Obj.fetchBuffersHeld h.bridge.fetches.length).count Obj.rdxSent
    let sp := apSpan (h.apUnit a) off n
    (h.askHost (h.num (Obj.hostBase a) + sp.1) sp.2).respondTxn f tRdx 0 (beBytes 2 tag)

/-- Free a fetch buffer. -/
def Hub.freeFetch (h : Hub) (retry : Nat) : Hub :=
  let h := { h with bridge := { h.bridge with fetches := h.bridge.fetches.filter (fun b => b.retry != retry) } }
  h.setNum Obj.fetchBuffersHeld h.bridge.fetches.length

/-- A read of an aperture (R154, R155). DESIGN CHOICE (log entry 98): a retry tag that another source or initiator was given is not held for this one. -/
def Hub.apRead (h : Hub) (f : RingFrame) (a n : Nat) : Hub :=
  let retry := beAt f.payload 10 2
  match h.bridge.fetches.find? (fun b => retry != 0 && b.retry == retry && b.src == f.src && b.init == txInit f) with
  | none => h.firstFetch f a n
  | some b =>
    match b.result with
    | none => (h.count Obj.rdxSent).respondTxn f tRdx 0 (beBytes 2 retry)
    | some (st, data) =>
      let h := h.freeFetch retry
      let h := h.when (st == stOk) (fun h => h.count (Obj.readsServed a))
      h.respondTxn f tRdr st data

/-- A read of on-chip memory (R132, R133, R154). -/
def Hub.chipRead (h : Hub) (f : RingFrame) (l n : Nat) : Hub :=
  if l < 0x1000000 then
    let r := h.regBytes .ring (n + 1) l n
    r.2.respondTxn f tRdr stOk r.1
  else if inSram l n then
    if h.poisoned (l - sramBase) n then h.respondTxn f tRdr stEcc []
    else h.respondTxn f tRdr stOk (Memory.readN h.host.sram (l - sramBase) n)
  else
    let r := h.roRead l n
    r.2.respondTxn f tRdr stOk r.1

/-- Retire the data of a WRP or WRN (R132, R133, R137). -/
def Hub.retire (h : Hub) (l : Nat) (data : List Byte) : Hub :=
  if data.isEmpty then h
  else if l < 0x1000000 then h.regStore (data.length + 1) l data
  else if inSram l data.length then h.sramWrite (l - sramBase) data
  else
    match apertureOf l with
    | some a => h.apWrite a (l % 2 ^ 36) data
    | none => h

/-- An RD, WRP or WRN at the target: behind earlier requests of its flow, under the guards, behind a locked granule. -/
def Hub.serveTxn (h : Hub) (f : RingFrame) : Hub :=
  let l := addrLocal (txAddr f)
  let n := reqLen f
  let read := f.type == tRd
  if h.flowWaits f then h.holdRequest (.ring f)
  else if f.payload.length < 8 ∨ 4088 < n ∨ (n = 0 ∧ f.type ≠ tWrn) then h.deny f stDenied
  else
    let g := h.guardTxn f n (if read then 0 else 1)
    if g ≠ stOk then h.deny f g
    else if h.lockedRange (txAddr f) n then h.holdRequest (.ring f)
    else if read then
      match apertureOf l with
      | some a => h.apRead f a n
      | none => h.chipRead f l n
    else
      let h := h.retire l (txData f)
      if f.type ≠ tWrn then h
      else
        match apertureOf l with
        | some a =>
          ({ h with bridge := { h.bridge with flushes := h.bridge.flushes ++ [f] } }).askHost
            (h.num (Obj.hostBase a) + l % 2 ^ 36) 0
        | none => h.respondTxn f tWack 0 []

/-! ### Locks at the target (R162 to R165) -/

/-- The outbound slot is busy with an LKRD that has no answer yet, and the request is not the hub's own (R165). -/
def Hub.slotBusy (h : Hub) (f : RingFrame) : Bool :=
  match h.bridge.slot with | some s => s.phase == 1 && f.src != h.self | none => false

/-- The LKRD that a lock was granted to. -/
def Hub.lockRequest (h : Hub) (k : Lock) : RingFrame := { txn h.self tLkrd 2 k.addr k.init k.size k.tag [] with src := k.src }

/-- Answer one grant (R162 step 3, R163): RDR with the old value, or the read of host memory that brings it. -/
def Hub.answerLock (h : Hub) (k : Lock) : Hub :=
  let l := addrLocal k.addr
  let put := fun (h : Hub) (k' : Lock) => { h with bridge := { h.bridge with locks := h.bridge.locks.map (fun x => if x = k then k' else x) } }
  match apertureOf l with
  | some p => (put h { k with fresh := false, reading := true }).askHost (h.num (Obj.hostBase p) + l % 2 ^ 36) k.size
  | none =>
    (put h { k with fresh := false }).respondTxn (h.lockRequest k) tRdr stOk (Memory.readN h.host.sram (l - sramBase) k.size)

/-- At the end of a cycle its grants stand (R163): each is answered. -/
def Hub.answerLocks (h : Hub) : Hub := (h.bridge.locks.filter (·.fresh)).foldl Hub.answerLock h

/-- LKRD (R137, R162, R163, R165): it keeps its place in its flow. A grant is answered at the end of its cycle, for of two in one cycle the higher requester
id has it and the other gets LKRT. -/
def Hub.takeLkrd (h : Hub) (f : RingFrame) : Hub :=
  let a := txAddr f
  let l := addrLocal a
  let n := txB7 f
  let g := h.guardTxn f n 2
  if h.flowWaits f then h.holdRequest (.ring f)
  else if (n ≠ 4 ∧ n ≠ 8) ∨ l % n ≠ 0 then h.deny f stDenied
  else if g ≠ stOk then h.deny f g
  else if h.slotBusy f && decide (f.src < h.self) then (h.count Obj.lkrtSent).respondTxn f tLkrt 0 []
  else
    let mine : Lock := { granule := granuleOf a, src := f.src, init := txInit f, addr := a, size := n, tag := f.tag, fresh := true }
    match h.bridge.locks.find? (fun k => k.granule == granuleOf a) with
    | some k =>
      if k.fresh = true ∧ k.src < f.src then
        (({ h with bridge := { h.bridge with locks := h.bridge.locks.map (fun x => if x = k then mine else x) } }).count Obj.lkrtSent).respondTxn
          (h.lockRequest k) tLkrt 0 []
      else (h.count Obj.lkrtSent).respondTxn f tLkrt 0 []
    | none =>
      if (apertureOf l).isNone && h.poisoned (l - sramBase) n then h.respondTxn f tRdr stEcc []
      else ({ h with bridge := { h.bridge with locks := h.bridge.locks ++ [mine] } }).count Obj.lockGrants

/-- A host read of the post SRAM through BAR4 (R133, R163, R205): behind a lock it waits. An uncorrectable error ends it as Completer Abort. -/
def Hub.sramRead (h : Hub) (off n : Nat) : Hub :=
  if h.sramLocked off n then h.holdRequest (.hostRead off n)
  else if h.poisoned off n then h.completerAbort
  else h.emit (.hostData (Memory.readN h.host.sram off n))

/-- A host write of the post SRAM through BAR4. -/
def Hub.sramStore (h : Hub) (off : Nat) (data : List Byte) : Hub :=
  if h.sramLocked off data.length then h.holdRequest (.hostWrite off data) else h.sramWrite off data

/-- The mailbox response is written, RSP_SEQ last (R434), and the host is told (R458); behind a lock it waits (R163). -/
def Hub.mailAnswer (h : Hub) (seq target code : Nat) (b : List Byte) : Hub :=
  if h.sramLocked 0x1000 (8 + b.length) then h.holdRequest (.mailbox seq target code b)
  else
    let h := ((h.sramWrite 0x1008 b).sramWrite 0x1004 [BitVec.ofNat 8 target]).sramWrite 0x1000 (leBytes 4 seq)
    let h := { h with keeper := { h.keeper with mboxBusy := false } }
    h.when (h.flag Obj.mboxNotice) (fun h => h.noticeS N.mboxDone fidDict [seq, code])

/-- An operand behind a DI aperture is reversed by its size (R146). -/
def Hub.apOperand (h : Hub) (a : Nat) (bs : List Byte) : List Byte := if h.num (Obj.apByteLane a) = 1 then bs.reverse else bs

/-- Drop a lock. -/
def Hub.dropLock (h : Hub) (k : Lock) : Hub := { h with bridge := { h.bridge with locks := h.bridge.locks.filter (· != k) } }

/-- Whether an earlier request of a WRUL's flow waits, and for another granule than the one the WRUL gives free (R137, R162; log entry 98). -/
def Hub.wrulWaits (h : Hub) (f : RingFrame) : Bool :=
  match h.bridge.waiting.find? (sameFlow f) with
  | some (.ring g) => !decide (granuleOf (txAddr g) ≤ granuleOf (txAddr f) ∧ granuleOf (txAddr f) ≤ granuleOf (txAddr g + reqLen g - 1))
  | _ => false

/-- WRUL under the guards of its address: write unless NOWRITE, unlock, WACK; without its lock, which the watchdog may have taken, WNAK LOCK_TIMEOUT
(R129, R137, R143 to R145, R162, R164). One whose data is not of the operand's size writes nothing (DESIGN CHOICE, log entry 98). -/
def Hub.unlockWrite (h : Hub) (f : RingFrame) : Hub :=
  let a := txAddr f
  let l := addrLocal a
  let data := txData f
  let g := h.guardTxn f data.length 2
  if h.wrulWaits f then h.holdRequest (.ring f)
  else if g ≠ stOk then h.deny f g
  else
    match h.bridge.locks.find? (fun k => k.src == f.src && k.init == txInit f && k.addr == a && k.tag == f.tag) with
    | none => h.refuseTxn f stLockTimeout
    | some k =>
      let h := h.dropLock k
      let h := if (txB7 f).testBit 0 || data.length != k.size then h
        else match apertureOf l with
          | some p => (h.emit (.hostWrite (h.num (Obj.hostBase p) + l % 2 ^ 36) (h.apOperand p data))).count (Obj.writesServed p)
          | none => h.sramWrite (l - sramBase) data
      h.respondTxn f tWack 0 []

/-- A request that waited is tried again. -/
def Hub.serveAgain (h : Hub) : Waiting → Hub
  | .ring f => if f.type = tLkrd then h.takeLkrd f else if f.type = tWrul then h.unlockWrite f else h.serveTxn f
  | .hostRead off n => h.sramRead off n
  | .hostWrite off data => h.sramStore off data
  | .mailbox seq target code data => h.mailAnswer seq target code data

/-- The requests that wait are tried again, oldest first (R163). -/
def Hub.servePass (h : Hub) : Hub :=
  h.bridge.waiting.foldl Hub.serveAgain { h with bridge := { h.bridge with waiting := [] } }

/-- The requests that wait are tried again, once more for each WRUL among them, which gives a granule free (R137, R163). -/
def Hub.serveWaiting (h : Hub) : Hub :=
  let n := (h.bridge.waiting.filter (fun w => match w with | .ring f => f.type == tWrul | _ => false)).length
  (List.range (n + 1)).foldl (fun h _ => h.servePass) h

/-- A WRUL that has arrived, and what its granule held back. -/
def Hub.takeWrul (h : Hub) (f : RingFrame) : Hub := (h.unlockWrite f).serveWaiting

/-- The watchdog of a lock expires (R164): unlocked, counted, logged, what waited is served. DESIGN CHOICE (log entry 98): an LKRD of an aperture whose read
of host memory has not ended gets no RDR. -/
def Hub.lockExpired (h : Hub) (l : Nat) : Hub :=
  match h.bridge.locks.find? (fun k => k.granule == granuleOf l) with
  | none => h
  | some k =>
    (((h.dropLock k).count Obj.lockWatchdogAborts).logFault stLockTimeout k.init 2 k.tag k.addr k.size).serveWaiting

/-- A PCIe read for an aperture ends (R146, R154, R162, R209): the buffer of its retry tag holds the data or status ECC; otherwise the locked
operand with that tag is answered. -/
def Hub.fetchDone (h : Hub) (retry : Nat) (ok : Bool) (data : List Byte) : Hub :=
  match h.bridge.fetches.find? (fun b => b.retry == retry && b.result.isNone) with
  | some b =>
    let u := h.apUnit b.ap
    let off := addrLocal b.addr % 2 ^ 36
    let r := if ok then (stOk, slice (swapUnits u data) (off % u) b.len) else (stEcc, [])
    { h with bridge := { h.bridge with
      fetches := h.bridge.fetches.map (fun x => if x.retry = retry then { x with result := some r } else x) } }
  | none =>
    match h.bridge.locks.find? (fun k => k.reading && k.tag == retry) with
    | none => h
    | some k =>
      let ap := (apertureOf k.addr).getD 0
      let req := h.lockRequest k
      if ok then
        let h := { h with bridge := { h.bridge with locks := h.bridge.locks.map (fun x => if x = k then { k with reading := false } else x) } }
        h.respondTxn req tRdr stOk (h.apOperand ap (data.take k.size))
      else ((h.dropLock k).respondTxn req tRdr stEcc []).serveWaiting

/-- Held data that nobody has claimed goes (R154). -/
def Hub.fetchExpiry (h : Hub) (retry : Nat) : Hub :=
  if h.bridge.fetches.any (fun b => b.retry == retry && b.result.isSome) then (h.freeFetch retry).count Obj.fetchExpired else h

/-- The zero-length read behind a WRN's data is done: WACK (R137). -/
def Hub.flushDone1 (h0 : Hub) : Hub :=
  let h := h0.readEnded
  match h.bridge.flushes with
  | [] => h
  | f :: fs => ({ h with bridge := { h.bridge with flushes := fs } }).respondTxn f tWack 0 []

/-! ### WACK and WNAK at the initiator (R148, R149, R158, R159, R162, R164) -/

/-- The queue whose bulk fence waits for a marker, by its tag and the address it went to (R223). -/
def Hub.bulkWaiter (h : Hub) (tag addr : Nat) : Option Nat :=
  (List.range 64).find? (fun q => (h.queue q).bulkMarkers.any (fun m => m.1 == tag && m.2 * 2 ^ 41 == addr))

/-- The AtomicOp in the slot is the one a WRUL answer names. -/
def Hub.slotAnswered (h : Hub) (f : RingFrame) : Option AtomicOp :=
  h.bridge.slot.filter (fun a => a.phase == 2 && a.tag == f.tag && a.w == txInit f && h.atomicAddr a == txAddr f)

/-- Drop the tag of a mirror write. -/
def Hub.mirrorTagDone (h : Hub) (tag : Nat) : Hub :=
  { h with duplex := { h.duplex with mirTags := h.duplex.mirTags.filter (· != tag) } }

/-- WACK. -/
def Hub.takeWack (h : Hub) (f : RingFrame) : Hub :=
  let i := txInit f
  if i = 0x10 then h.mirrorTagDone f.tag
  else if i = 0x11 then
    match h.bulkWaiter f.tag (txAddr f) with
    | some q => h.bulkAnswer q f.tag
    | none => h
  else
    match h.slotAnswered f with
    | some a => (h.emit (.hostData a.old)).nextAtomic
    | none =>
      match h.fenceOf f.tag with
      | some w => if w = i then (h.finishFence w false).afterFence w else h
      | none => h

/-- WNAK (R148, R149, R151, R158, R159). It names its transaction by tag and address: the marker that is out, a write that was sent and is not known to be
retired, or else what a late answer names (a marker whose fence has ended, or a WRUL), which counts as no faulted write (log entry 22). -/
def Hub.takeWnak (h : Hub) (f : RingFrame) : Hub :=
  let i := txInit f
  let addr := txAddr f
  let reason := txB7 f
  let sent := h.sentWrite i f.tag
  let mine := sent.1 == addr
  let len := if mine then sent.2 else 0
  let h := h.count Obj.wnakReceived
  if i = 0x10 then
    let mirror := h.duplex.mirTags.contains f.tag
    let h := (h.mirrorTagDone f.tag).logFault reason i 0 f.tag addr len
    h.when mirror (fun h => h.unsync 2)
  else if i = 0x11 then
    match h.bulkWaiter f.tag addr with
    | some q => (h.logFault reason i 3 f.tag addr 0).bulkAnswer q f.tag
    | none =>
      if !mine then h.logFault reason i 3 f.tag addr 0
      else
        let o := SMap.get (fun _ => 0) h.host.bulkOwner f.tag
        let h := if o = 0 then h
          else h.setQueue (o - 1) { h.queue (o - 1) with bulkFaulted := (h.queue (o - 1)).bulkFaulted + 1 }
        (h.writesRetired i (· == f.tag)).logFault reason i 0 f.tag addr len
  else if 16 ≤ i then h
  else
    match h.slotAnswered f with
    | some a => h.failAtomic a reason
    | none =>
      if h.fenceOf f.tag = some i ∧ addr = h.num (Obj.ringBase i) then h.logFault reason i 3 f.tag addr 0
      else if mine then ((h.faultWrite i 1).writesRetired i (· == f.tag)).logFault reason i 0 f.tag addr len
      else h.logFault reason i (if addr = h.num (Obj.ringBase i) then 3 else 2) f.tag addr 0

/-- A transaction that reaches this hub, by its type (R134). -/
def Hub.bridgeRx (h : Hub) (f : RingFrame) : Hub :=
  if f.type = tRd ∨ f.type = tWrp ∨ f.type = tWrn then h.serveTxn f
  else if f.type = tRdr then h.takeRdr f
  else if f.type = tRdx then h.takeRdx f
  else if f.type = tWack then h.takeWack f
  else if f.type = tWnak then h.takeWnak f
  else if f.type = tLkrd then h.takeLkrd f
  else if f.type = tLkrt then h.takeLkrt f
  else if f.type = tWrul then h.takeWrul f
  else h

/-- A transaction frame arrives by ring and crosses the core to port 16 (R105, R176): only an intact one is taken (R93). -/
def Hub.bridgeFrame (h : Hub) (type : Nat) (west : Bool) (f : RingFrame) : Hub :=
  let r := h.receive west f
  if r.1 && r.2.isMember && f.type == type then
    let h := r.2.when (f.cls == 5) (fun h => h.seqGap f)
    if !f.intact then h
    else
      let c := h.crossCore (12 + portIx west) 16 f
      if c.1 then c.2.bridgeRx (c.2.delivered f) else c.2
  else r.2

/-- One transaction to the hub's own node id is served (R138). -/
def Hub.bridgeLoop (h : Hub) : Hub :=
  match h.bridge.loop with
  | [] => h
  | f :: fs => ({ h with bridge := { h.bridge with loop := fs } }).bridgeRx f

/-! ### Scan jobs (R466 to R468) -/

/-- The octets a job covers: from the state where it holds them, otherwise those that were read (HOST, and the CONFIG and LEDGER partitions). -/
def Hub.jobOctets (h : Hub) (e : Nat) (data : List Byte) : List Byte :=
  let j := h.job e
  let a := jobAddress j
  let n := jobLength j
  match jobSource j with
  | 0 => Memory.readN h.host.sram a n
  | 1 => if inSram a n then Memory.readN h.host.sram (a - sramBase) n else (h.roRead a n).1
  | 3 =>
    match jobPartition j with
    | 0 => h.upd.active.bytes a n
    | 1 => h.upd.staging.bytes a n
    | 2 => h.upd.fallback.bytes a n
    | _ => data.take n
  | _ => data.take n

/-- The job of an engine reads octets that only its free values stand for, or that the state does not hold. -/
def Hub.jobHeld (h : Hub) (e : Nat) : Bool :=
  let j := h.job e
  jobSource j == 0 || jobSource j == 1 || (jobSource j == 3 && decide (jobPartition j < 3))

/-- Free values that a job over a cluster's packet area has used. -/
def Hub.jobFree (h : Hub) (e : Nat) : Hub :=
  let j := h.job e
  if jobSource j = 1 ∧ inSram (jobAddress j) (jobLength j) = false then (h.roRead (jobAddress j) (jobLength j)).2 else h

/-- The job of an engine covers a locked granule of the post SRAM: its read waits (R163). -/
def Hub.jobLocked (h : Hub) (e : Nat) : Bool :=
  let j := h.job e
  let a := jobAddress j
  let n := jobLength j
  match jobSource j with
  | 0 => h.sramLocked a n
  | 1 => inSram a n && h.lockedRange a n
  | _ => false

/-- scan-stop written true (R468). -/
def Hub.scanStopWrite (h : Hub) (e : Nat) : Hub :=
  (h.jobFree e).scanHalt e (if h.jobHeld e then some (h.jobOctets e []) else none)

/-- The words of the post SRAM a job covers that hold an uncorrectable error (R468, R482), by offset in the job. -/
def Hub.jobPoison (h : Hub) (e : Nat) : List Nat :=
  let j := h.job e
  let a := if jobSource j = 1 then jobAddress j - sramBase else jobAddress j
  let n := jobLength j
  if jobSource j = 0 ∨ (jobSource j = 1 ∧ inSram (jobAddress j) n = true) then
    (h.safety.poison.filter (fun w => decide (8 * w < a + n ∧ a < 8 * w + 8))).map (fun w => 8 * w - a)
  else []

/-- A running job ends with its last word (R467); it cannot while its read waits. A job that a scan-stop met in the cycle of its start stops after its first
word (R469), and one that reads a word with an uncorrectable error fails there (R468). -/
def Hub.scanJobEnd (h : Hub) (e : Nat) (data : List Byte) : Hub :=
  let x := h.scan e
  if x.run ≠ scanRunning || h.jobLocked e then h
  else
    let h := h.scanReadEnds e
    let bs := h.jobOctets e data
    if x.startedAt ≠ 0 ∧ x.startedAt = x.stopAt then (h.jobFree e).scanHalt e (some bs)
    else
      match h.jobPoison e with
      | [] => (h.jobFree e).scanEnd e 0 (jobLength (h.job e)) (h.scanValue (h.job e) bs)
      | w :: ws => h.scanFail e 2 (bs.take (ws.foldl min w))

/-! ### The commands -/

/-- A read of BAR0 by the host (R206): every register that it touches, whole; QPORT(q) only as one aligned unit of eight octets (R225). -/
def Hub.registerRead (h : Hub) (offset len : Nat) : Hub :=
  let lo := offset / 4 * 4
  let n := (offset + len + 3) / 4 * 4 - lo
  let r := h.regBytes .pcie (n + 1) lo n
  r.2.emit (.hostData r.1)

/-- A read of configuration space (R204): the word that holds the octet. -/
def Hub.configRead (h : Hub) (offset : Nat) : Hub := h.emit (.hostData (leBytes 4 (h.configWord (offset / 4 * 4))))

/-- Whether octets that a host request names lie in a BAR of an endpoint in D0, or in configuration space (R204, R205). -/
def Hub.barHolds (h : Hub) (bar : HostBar) (offset n : Nat) : Bool :=
  match bar with
  | .bar0 => h.inD0 && decide (offset + n ≤ 2 ^ 24)
  | .bar2 => h.inD0 && decide (offset + n ≤ 2 ^ 30)
  | .bar4 => h.inD0 && decide (offset + n ≤ 2 ^ 21)
  | .config => decide (offset + n ≤ 4096)
  | .outside => false

/-- The window of a BAR2 offset, and the offset in it (R138, R205). -/
def windowOf (offset : Nat) : Nat × Nat := (offset / 2 ^ 26 % 16, offset % 2 ^ 26)

/-- A host read (R138, R204 to R206, R209). -/
def Hub.hostRead (h : Hub) (bar : HostBar) (offset len : Nat) (whole : Bool) : Hub :=
  if h.barHolds bar offset len = false then h.unsupported
  else
    match bar with
    | .bar0 => h.registerRead offset len
    | .bar2 => h.windowRead (windowOf offset).1 (windowOf offset).2 len whole
    | .bar4 => h.sramRead offset len
    | .config => h.configRead offset
    | .outside => h

/-- A host write (R138, R205, R206, R209): a poisoned one is discarded, for BAR2 counted in the window's refused-accesses; one of BAR0 that covers no whole
register is discarded. -/
def Hub.hostStore (h : Hub) (bar : HostBar) (offset : Nat) (data : List Byte) (mark : WriteMark) : Hub :=
  if h.barHolds bar offset data.length = false then h.aer aerUnsupported true
  else if mark = .poisoned then (h.aer aerPoisoned false).when (bar == .bar2) (fun h => h.count (Obj.refusedAccesses (windowOf offset).1))
  else
    match bar with
    | .bar2 => h.windowWrite (windowOf offset).1 (windowOf offset).2 data (mark == .whole)
    | .bar4 => h.sramStore offset data
    | .config => h.configWrite offset data
    | .bar0 | .outside => h

/-- A host AtomicOp (R162, R204, R209): to BAR2 only. -/
def Hub.hostAtomicAt (h : Hub) (bar : HostBar) (offset : Nat) (wide : Bool) (kind : AtomicKind) (operand compare : Nat) : Hub :=
  if bar = .bar2 ∧ h.barHolds bar offset (if wide then 8 else 4) = true then
    h.hostAtomic { w := (windowOf offset).1, offset := (windowOf offset).2, wide := wide, kind := kind, operand := operand, compare := compare }
  else h.unsupported

/-- HOST_WINDOW_READ (R138, R139). -/
def execHostWindowRead (bar : HostBar) (offset len : Nat) (whole : Bool) (s : State) : Host.Outcome State Fault Refusal :=
  s.answer (fun h => h.hostRead bar offset len whole)
/-- HOST_WINDOW_WRITE (R138, R158). -/
def execHostWindowWrite (bar : HostBar) (offset : Nat) (data : List Byte) (mark : WriteMark) (s : State) : Host.Outcome State Fault Refusal :=
  s.answer (fun h => h.hostStore bar offset data mark)
/-- HOST_ATOMICOP (R162, R204, R209). -/
def execHostAtomicop (bar : HostBar) (offset : Nat) (wide : Bool) (kind : AtomicKind) (operand compare : Nat) (s : State) :
    Host.Outcome State Fault Refusal :=
  s.answer (fun h => h.hostAtomicAt bar offset wide kind operand compare)
/-- RD_RX (R154). -/
def execRdRx (west : Bool) (f : RingFrame) (s : State) : Host.Outcome State Fault Refusal := s.answer (fun h => h.bridgeFrame tRd west f)
/-- RDR_RX (R157). -/
def execRdrRx (west : Bool) (f : RingFrame) (s : State) : Host.Outcome State Fault Refusal := s.answer (fun h => h.bridgeFrame tRdr west f)
/-- RDX_RX (R156). -/
def execRdxRx (west : Bool) (f : RingFrame) (s : State) : Host.Outcome State Fault Refusal := s.answer (fun h => h.bridgeFrame tRdx west f)
/-- RD_RETRY_INTERVAL_EXPIRED (R156). -/
def execRdRetryIntervalExpired (tag : BitVec 16) (s : State) : Host.Outcome State Fault Refusal := s.answer (fun h => h.retryRead tag.toNat)
/-- RD_RESPONSE_TIMEOUT (R156). -/
def execRdResponseTimeout (tag : BitVec 16) (s : State) : Host.Outcome State Fault Refusal := s.answer (fun h => h.readTimeout tag.toNat)
/-- APERTURE_FETCH_COMPLETE (R154). -/
def execApertureFetchComplete (retry : BitVec 16) (r : ReadEnd) (data : List Byte) (s : State) : Host.Outcome State Fault Refusal :=
  s.answer (fun h => (h.readFault r).fetchDone retry.toNat (decide (r = .data)) data)
/-- FETCH_HOLD_EXPIRED (R154). -/
def execFetchHoldExpired (retry : BitVec 16) (s : State) : Host.Outcome State Fault Refusal := s.answer (fun h => h.fetchExpiry retry.toNat)
/-- READ_BUDGET_EXPIRED (R157). -/
def execReadBudgetExpired (tag : BitVec 16) (s : State) : Host.Outcome State Fault Refusal := s.answer (fun h => h.budgetExpired tag.toNat)
/-- WRP_RX (R158). -/
def execWrpRx (west : Bool) (f : RingFrame) (s : State) : Host.Outcome State Fault Refusal := s.answer (fun h => h.bridgeFrame tWrp west f)
/-- WRN_RX (R137). -/
def execWrnRx (west : Bool) (f : RingFrame) (s : State) : Host.Outcome State Fault Refusal := s.answer (fun h => h.bridgeFrame tWrn west f)
/-- APERTURE_FLUSH_READ_DONE (R137). -/
def execApertureFlushReadDone (s : State) : Host.Outcome State Fault Refusal := s.answer Hub.flushDone1
/-- WACK_RX (R148). -/
def execWackRx (west : Bool) (f : RingFrame) (s : State) : Host.Outcome State Fault Refusal := s.answer (fun h => h.bridgeFrame tWack west f)
/-- WNAK_RX (R159). -/
def execWnakRx (west : Bool) (f : RingFrame) (s : State) : Host.Outcome State Fault Refusal := s.answer (fun h => h.bridgeFrame tWnak west f)
/-- LKRD_RX (R162). -/
def execLkrdRx (west : Bool) (f : RingFrame) (s : State) : Host.Outcome State Fault Refusal := s.answer (fun h => h.bridgeFrame tLkrd west f)
/-- LKRT_RX (R165). -/
def execLkrtRx (west : Bool) (f : RingFrame) (s : State) : Host.Outcome State Fault Refusal := s.answer (fun h => h.bridgeFrame tLkrt west f)
/-- LOCK_RETRY_WAIT_EXPIRED (R165). -/
def execLockRetryWaitExpired (s : State) : Host.Outcome State Fault Refusal := s.answer Hub.lockRetry
/-- WRUL_RX (R162). -/
def execWrulRx (west : Bool) (f : RingFrame) (s : State) : Host.Outcome State Fault Refusal := s.answer (fun h => h.bridgeFrame tWrul west f)
/-- LOCK_WATCHDOG_EXPIRED (R164). -/
def execLockWatchdogExpired (addr : Nat) (s : State) : Host.Outcome State Fault Refusal := s.answer (fun h => h.lockExpired addr)
/-- FENCE_W (R148). -/
def execFenceW (_path : RegPath) (w : Fin 16) (s : State) : Host.Outcome State Fault Refusal := s.answer (fun h => h.requestFence w.val)
/-- FENCE_ALL (R148). -/
def execFenceAll (_path : RegPath) (s : State) : Host.Outcome State Fault Refusal := s.answer Hub.requestAll
/-- FENCE_TIMEOUT (R148). -/
def execFenceTimeout (of_ : FenceOf) (s : State) : Host.Outcome State Fault Refusal :=
  s.answer (fun h => match of_ with | .window w => h.fenceTimeout w.val | .bulk q => h.bulkTimeout q.val)
/-- PCIE_COMPLETION_TIMEOUT (R209): a queue's read ends as DMA_ERROR, an aperture's as status ECC. -/
def execPcieCompletionTimeout (queue : Bool) (id : BitVec 16) (s : State) : Host.Outcome State Fault Refusal :=
  s.answer (fun h =>
    let h := (h.aer aerTimeout false).readEnded
    if !queue then h.fetchDone id.toNat false []
    else
      let q := id.toNat % 64
      if !(h.queue q).reads.isEmpty then h.dataRead q false [] else h.descFetched q false [])
/-- REGISTER_WRITE_OTHER (R4, R13, R22, R212, R226): no effect, but for the PCIe path's words of the MSI-X table and its CREDIT(q) without SYNC; from the ring, the write is met as the bridge
meets every WRP and WRN. -/
def execRegisterWriteOther (path : RegPath) (offset : BitVec 24) (value : BitVec 32) (west : Bool) (f : RingFrame) (s : State) :
    Host.Outcome State Fault Refusal :=
  s.answer (fun h => match path with
    | .ring => h.bridgeFrame (if f.type = tWrn then tWrn else tWrp) west f
    | .pcie =>
      if 0x10000 ≤ offset.toNat ∧ offset.toNat < 0x11000 ∧ offset.toNat % 64 = 4 then
        h.creditSync .pcie ((offset.toNat - 0x10000) / 64) (value.toNat.testBit 0)
      else h.msixWrite offset.toNat value.toNat
    | _ => h)
/-- SCAN_JOB_END (R467). -/
def execScanJobEnd (e : Fin 3) (data : List Byte) (s : State) : Host.Outcome State Fault Refusal :=
  s.answer (fun h => h.scanJobEnd e.val data)
/-- SCAN_READ_FAILURE (R468). -/
def execScanReadFailure (e : Fin 3) (cause : Fin 3) (good : BitVec 32) (data : List Byte) (s : State) :
    Host.Outcome State Fault Refusal :=
  s.answer (fun h => ((h.scanReadEnds e.val).jobFree e.val).scanFail e.val (cause.val + 2) ((h.jobOctets e.val data).take good.toNat))

end Sys2Proof.Machine
end

