-- ==== Sys2Proof/Machine/DictRead.lean ====
section
/-!
DEFINITION. Reading the object dictionary (R422 to R425, R428): the value of an object as a READ returns it, the objects that show a state
of a block, and the description of a subindex.
-/
namespace Sys2Proof.Machine

/-- The function whose life cycle an object shows (R30): subindex 02 of a block with a function-state, 01 of the channel and cluster
status. -/
def functionStateOf (idx sub : Nat) : Option Nat :=
  if sub = 1 then
    if 0x2100 ≤ idx ∧ idx < 0x21C0 then some (fidChannel (idx - 0x2100))
    else if 0x2510 ≤ idx ∧ idx < 0x251C then some (fidCluster (idx - 0x2510))
    else none
  else if sub = 2 ∧ ¬(0x2000 ≤ idx ∧ idx < 0x20C0) ∧ ¬(0x2510 ≤ idx ∧ idx < 0x251C) then indexFid idx
  else none

/-- What remains of the lease in ms (R456). -/
def Hub.leaseRemaining (h : Hub) : Nat :=
  if h.keeper.holder.isSome then ticksBetween h.now h.keeper.leaseEnd / ticksPerMs else 0

/-- The objects of the keeper and of identity that show a state. -/
def Hub.viewKeeper (h : Hub) (key : Nat) : Option Val :=
  if key = Obj.uptime then some (.num (h.now / ticksPerMs))
  else if key = Obj.configState then some (.num h.configState)
  else if key = Obj.leaseRemaining then some (.num h.leaseRemaining)
  else if key = Obj.openSessions then some (.num h.keeper.sessions.length)
  else if key = Obj.queueLevel then some (.num h.keeper.waiting.length)
  else if key = Obj.safetyDetectionTime then some (.num h.detectionTime)
  else if key = Obj.startCount then some (.num h.upd.starts)
  else if key = Obj.trialRemaining then
    some (.num (if h.num Obj.journalState = jnlTrial then ticksBetween h.now h.upd.windowEnd / (1000 * ticksPerMs) else 0))
  else if key = Obj.powerLog then
    some (.oct ((List.range 32).flatMap (fun i =>
      let e := SMap.get (fun _ => []) h.power.slots i
      if e.isEmpty then List.replicate 16 0 else e)))
  else none

/-- The objects of the time unit that show a state (R47, R56, R59, R69). -/
def Hub.viewTime (h : Hub) (key : Nat) : Option Val :=
  if key = Obj.stationTime then some (.num (h.stamp128At .S h.now 0))
  else if key = Obj.uncertainty then some (.num (match h.uncertaintyU with | some u => min u 0xFFFFFFFF | none => 0xFFFFFFFF))
  else if key = Obj.utcOffset then some (.num (ofSigned 16 h.utcOffsetInUse))
  else if key = Obj.phase then some (.num (h.phaseAt h.now))
  else if key = Obj.phcStFrequency then some (.num h.time.phcFreq)
  else if key = Obj.ccNumber then some (.num (h.ccAt h.now))
  else if key = Obj.entriesArmed then some (.num h.entriesArmedNow)
  else none

/-- The objects of the switch that show a state (R199 to R202). -/
def Hub.viewSwitch (h : Hub) (idx sub : Nat) : Option Val :=
  let key := idx * 256 + sub
  if key = Obj.drainCount then some (.num h.drainCount)
  else if key = Obj.cellsFree then some (.num h.cellsFree)
  else if key = Obj.sharedInUse then some (.num h.sharedInUse)
  else if key = Obj.class0InUse then some (.num h.class0InUse)
  else if key = Obj.forwardingTable then some (.oct h.tableBytes)
  else if key = Obj.routeEntry then
    let r := h.num Obj.routeIndex
    some (.oct (leBytes 16 (if h.sw.staged then h.altRoute r else h.route r)))
  else if key = Obj.stagedCount then some (.num h.stagedCount)
  else if 0x1720 ≤ idx ∧ idx < 0x1732 then
    if sub = 0x0B then some (.num (h.cellsQueued (idx - 0x1720)))
    else if sub = 0x0C then some (.num (h.reserveInUse (idx - 0x1720)))
    else none
  else none

/-- The objects of CAN controller n that show a state (R313): busState reads OFF while the controller is OFF. -/
def Hub.viewCan (h : Hub) (n sub : Nat) : Option Val :=
  match sub with
  | 0x20 => if h.isOff (fidCan n) then some (.num 3) else none
  | 0x23 => some (.num (h.nomRate n))
  | 0x24 => some (.num (h.dataRate n))
  | 0x28 => some (.oct (h.bufferDurations n))
  | _ => none

/-- The objects of sequencer s that show a state (R341). -/
def Hub.viewSeq (h : Hub) (s sub : Nat) : Option Val :=
  let x := h.sq s
  match sub with
  | 0x20 => some (.num x.run)
  | 0x21 => some (.num x.pc)
  | 0x22 => some (.num x.shifter)
  | 0x23 => some (.num x.bitCount)
  | 0x24 => some (.num x.ca)
  | 0x25 => some (.num x.cb)
  | 0x26 => some (.num x.flags)
  | _ => none

/-- The objects of the other blocks that show a state; queue 63 is always D2H PACKET without a route (R240). -/
def Hub.viewBlock (h : Hub) (idx sub : Nat) : Option Val :=
  if idx = 0x193F ∧ (sub = 3 ∨ sub = 5 ∨ sub = 9) then some (.num (if sub = 3 then 1 else 0))
  else if 0x1900 ≤ idx ∧ idx < 0x1940 then (if sub = 0x18 then some (.num (h.qLevel (idx - 0x1900))) else none)
  else if 0x2100 ≤ idx ∧ idx < 0x21C0 then
    if sub = 0x0C then some (.num (h.rxHeld (idx - 0x2100)))
    else if sub = 0x0D then some (.num (h.txHeld (idx - 0x2100)))
    else none
  else if 0x2300 ≤ idx ∧ idx < 0x2330 then h.viewCan (idx - 0x2300) sub
  else if 0x2400 ≤ idx ∧ idx < 0x2418 then h.viewSeq (idx - 0x2400) sub
  else if 0x2510 ≤ idx ∧ idx < 0x251C then
    if sub = 3 then some (.num (61440 - h.packetAreaUsed (idx - 0x2510))) else none
  else if idx = 0x2840 then
    if sub = 6 then some (.num h.ptpDomain)
    else if sub = 0x0B then some (.num h.ptpTag)
    else none
  else none

/-- The value of an object as a READ shows it (R424): a state where the object shows one, else the value in force, or for an RWB object
the one most recently accepted. Subindex 00 holds the highest subindex (R422). -/
def Hub.view (h : Hub) (idx sub : Nat) : Val :=
  let key := idx * 256 + sub
  if sub = 0 then .num (highestSub (h.modeOf idx) idx)
  else
    match functionStateOf idx sub with
    | some fid => .num (h.func fid).byte
    | none =>
      let v := if idx < 0x1400 ∨ 0x3000 ≤ idx then h.viewKeeper key
        else if idx < 0x1600 then h.viewTime key
        else if 0x1700 ≤ idx ∧ idx < 0x1800 then h.viewSwitch idx sub
        else h.viewBlock idx sub
      match v with
      | some v => v
      | none => h.accepted (h.keyOf idx sub)

/-- The description of a subindex; subindex 00 of every populated index is a U8 CONST (R422). -/
def Hub.descOf (h : Hub) (idx sub : Nat) : Option Desc :=
  if sub = 0 then (if populated idx then some { sub := 0, ty := .u8, acc := .const, dflt := .num 0 } else none)
  else (findDesc (h.modeOf idx) idx sub allBlocks).map (fun p => p.2)

/-- The octets a read of an object takes, with the effect of reading the ledger range (R279). -/
def Hub.readValue (h : Hub) (idx sub : Nat) (d : Desc) : List Byte × Hub :=
  if idx * 256 + sub = Obj.ledgerRange then h.ledgerRead else (d.ty.encode (h.view idx sub), h)

/-- The index and subindex tests of R448: 0, NO_OBJECT (1) or NO_SUB (2). -/
def Hub.indexCheck (h : Hub) (idx sub : Nat) : Nat :=
  if !populated idx then 1 else if (h.descOf idx sub).isNone then 2 else 0

end Sys2Proof.Machine
end

