-- ==== Sys2Proof/Machine/DictWrite.lean ====
section
/-!
DEFINITION. Writing the object dictionary (R23, R424, R448 to R452): the checks of a value in the order of R448, what an accepted value
does, and the write-only objects.
-/
namespace Sys2Proof.Machine

/-! ### Checks -/

/-- The codes of R449, in the order in which R448 tests a value: type and length, range, state, agreement, resources, store. -/
def codeOrder : List Nat := [5, 6, 8, 7, 9, 12]

/-- The code of the first test of R448 that fails; 0: none. -/
def firstCode (codes : List Nat) : Nat := (codeOrder.find? (fun c => codes.contains c)).getD 0

/-- A code when a condition holds. -/
def codeIf (c : Bool) (code : Nat) : List Nat := if c then [code] else []

/-- A priority list of source codes 1 to 3, one nibble each, ended by 0 (R48, R55); `once`: each code at most once. -/
def prioList (once : Bool) : Nat → Nat → List Nat → Bool
  | 0, _, _ => true
  | n + 1, v, seen =>
    let c := v % 16
    c == 0 || (decide (c ≤ 3) && !(once && seen.contains c) && prioList once n (v / 16) (c :: seen))

/-- The access code of an object on the paths: queue 63 has three constants (R240), the objects of engine 3 are RO (R465). -/
def accessOf (idx sub : Nat) (d : Desc) : Acc :=
  if idx = 0x193F ∧ (sub = 3 ∨ sub = 5 ∨ sub = 9) then .const
  else if idx = 0x3544 ∧ d.acc ≠ .const then .ro
  else d.acc

/-- A commit with a VALID entry that names a reserved SVC_TARGET at port 17 (R364). -/
def svcReserved (m : SMap Nat) : Bool :=
  m.any (fun p => rtValid p.2 && (rtTargets p.2).testBit 17
    && !(decide (rtSvc p.2 ≤ 0x3F) || rtSvc p.2 == 0x100 || rtSvc p.2 == 0xFFFF))

/-- The checks a commit makes of a copy of the table (R179, R189, R347, R350, R364): 0 or a code. -/
def Hub.tableCheck (h : Hub) (m : SMap Nat) : Nat :=
  if h.checkFwd m ≠ 0 then h.checkFwd m
  else if h.staTableCheck m ≠ 0 then h.staTableCheck m
  else if svcReserved m then 7
  else 0

/-- The conditions of R335 on a sequencer's buffers and routes hold, whatever has become of the channels of its pins since. -/
def Hub.seqFits (h : Hub) : Fn → Bool
  | .seq s => h.seqEnableCheck s == 0
  | _ => true

/-- A condition checked at the enable of a function that is not OFF would break (R451): its code, or 0. -/
def Hub.broken (old new : Hub) : Nat :=
  ((old.funcs.map (fun p =>
    match fnOf p.1 with
    | some f =>
      if p.2.life = .off then 0
      else if old.seqFits f = true ∧ new.seqFits f = false then 6
      else if old.fnCheck f ≠ 0 ∨ new.startWaits f = true then 0 else new.fnCheck f
    | none => 0)).find? (fun c => c != 0)).getD 0

/-- The checks of an enable of station access (R457). -/
def Hub.staAccessFits (h : Hub) : Bool :=
  let ip := beNat (h.oct Obj.staIpAddress)
  let e := h.route (h.num Obj.staReplyRoute)
  let t := rtTargets e
  ip != 0 && decide (ip / 2 ^ 24 < 224) && h.num Obj.staReplyRoute != 0xFFFF && rtValid e
    && (t == 2 ^ 14 || t == 2 ^ 15 || t == 2 ^ 14 + 2 ^ 15)

/-- An enable of station access that passed would no longer pass (R451, R457): CONFLICT, or 0. -/
def Hub.staAccessBroken (old new : Hub) : Nat :=
  if new.flag Obj.staAccessEnable && old.flag Obj.staAccessEnable && old.staAccessFits && !new.staAccessFits then 7 else 0

/-- The active copy of the forwarding table. -/
def Hub.activeTable (h : Hub) : SMap Nat := h.fwdCopy (h.num Obj.fwdEpoch)

/-- The checks of commit (R179, R184, R335): 0 or a code. -/
def Hub.commitCheck (h : Hub) : Nat :=
  let alt := h.fwdCopy (1 - h.num Obj.fwdEpoch)
  if h.tableCheck alt ≠ 0 then h.tableCheck alt
  else if h.staAccessBroken h.flip ≠ 0 then 7
  else h.broken h.flip

/-- A write would break a condition that holds (R451): one of an enable, or one of the last commit. -/
def Hub.breaks (old new : Hub) : Nat :=
  if old.broken new ≠ 0 then old.broken new
  else if old.staAccessBroken new ≠ 0 then 7
  else if old.tableCheck old.activeTable = 0 then new.tableCheck old.activeTable
  else 0

/-- The points of the breaker curve (R515, R526): 0, RANGE or CONFLICT. -/
def Hub.breakerCheck (h : Hub) : List Nat :=
  let c := h.oct Obj.breakerCurve
  let m := fun i => leAt c (4 * i) 2
  let t := fun i => leAt c (4 * i + 2) 2
  codeIf ((List.range 8).any (fun i => decide (m i < 110 ∨ 1000 < m i ∨ t i < 1 ∨ 60000 < t i))) 6
    ++ codeIf ((List.range 7).any (fun i => decide (m (i + 1) ≤ m i ∨ t i ≤ t (i + 1)))) 7
    ++ codeIf (decide (1000 * h.num Obj.currentLimit < m 7 * h.num Obj.breakerRating)) 7

/-- Two ranges of octets overlap. -/
def overlap (a n b k : Nat) : Bool := decide (a < b + k ∧ b < a + n)

/-- The staging window overlaps the mailbox, or the mirror area of a supervisor that is not OFF (R576). -/
def Hub.windowOverlaps (h : Hub) : Bool :=
  let a := h.num Obj.windowBase
  let n := h.num Obj.windowSize
  overlap a n 0 0x2000 || (!h.isOff fidDuplex && overlap a n (h.num Obj.mirrorBase) (h.num Obj.mirrorSize))

/-- The checks of the time unit's objects at the write (R48, R55, R59, R68, R623); `new`: the hub with the value. -/
def Hub.timeCodes (h new : Hub) (idx sub v : Nat) : List Nat :=
  let key := idx * 256 + sub
  if 0x1480 ≤ idx ∧ idx < 0x1580 then
    let t := idx - 0x1480
    let s := h.num (Obj.trigState t)
    let fixed := s == tsArmed || s == tsCommitted
    codeIf (fixed && ((decide (2 ≤ sub ∧ sub ≤ 0x0D)) || sub == 0x12)) 8 ++ [h.trigWriteCheck t sub v]
      ++ (if sub = 1 ∧ v = 1 then [(h.trigArm t).1] else [])
  else if key = Obj.sourcePriority then codeIf (!prioList true 8 v []) 6
  else if key = Obj.phcSourceList then codeIf (!prioList false 4 v []) 6
  else if key = Obj.ccOffset then
    codeIf ((new.accepted Obj.ccMode).nat == 0 && decide (2 * (new.accepted Obj.ccPeriod).nat < 2 * v + 5)) 6
  else []

/-- A queue's buffer holds less than MAX_FRAME of an active route with CT = 0 that targets the queue (R179, R217). -/
def Hub.bufferTooSmall (h : Hub) (q : Nat) : Bool :=
  h.activeTable.any (fun p => rtValid p.2 && (rtTargets p.2).testBit 16 && !rtCt p.2 && rtHostQ p.2 == q
    && decide (h.queueBuffer q < rtMaxFrame p.2))

/-- The checks of the switch's and the queues' objects at the write (R185, R190, R240). -/
def Hub.switchCodes (h new : Hub) (idx sub v : Nat) : List Nat :=
  let key := idx * 256 + sub
  if key = Obj.routeEntry ∨ key = Obj.forwardingTable then codeIf (h.drainCount != 0) 9
  else if 0x1720 ≤ idx ∧ idx < 0x1732 ∧ sub = 3 then codeIf (decide (59392 < new.reserveSum)) 7
  else if 0x1810 ≤ idx ∧ idx < 0x1820 ∧ sub = 3 then codeIf (decide (2 ^ 48 ≤ v)) 6
  else if 0x1900 ≤ idx ∧ idx < 0x1940 then
    let d := new.num (Obj.qDepth (idx - 0x1900))
    if sub = 0x0D then codeIf (v == 0 || decide (d < v)) 6
    else if sub = 0x10 ∨ sub = 0x11 then codeIf (v != 0xFFFF && decide (d < v)) 6
    else if sub = 0x15 then codeIf (decide (8 < v)) 6
    else if sub = 0x04 ∨ sub = 0x06 ∨ sub = 0x08 then codeIf (new.bufferTooSmall (idx - 0x1900)) 6
    else []
  else []

/-- The checks of the objects of channels, controllers and sequencers at the write (R245, R272, R280, R281, R304, R325). -/
def Hub.channelCodes (h new : Hub) (idx sub v : Nat) (b : List Byte) : List Nat :=
  if 0x2000 ≤ idx ∧ idx < 0x20C0 then
    let c := idx - 0x2000
    let uart := h.num (Obj.chMode c) == modeUart
    if sub = 2 then codeIf (decide (8 < v)) 6 ++ codeIf (v == modeCan && decide (47 < c)) 7
    else if sub = 4 then
      codeIf (decide (64 ≤ v) || v % 4 == 3 || v / 4 % 4 == 3 || v / 16 % 4 == 3) 6
    else if 0x0A ≤ sub ∧ sub ≤ 0x0D then
      let t := fun j => toSigned 32 (new.num (new.keyOf idx (0x0A + j)))
      codeIf (!(decide (t 0 < t 1) && decide (t 1 < t 2) && decide (t 2 < t 3))) 7
    else if sub = 0x2D ∧ uart = true then codeIf (decide (v < h.num (Obj.uartMaxCount c) + 16)) 6
    else if sub = 0x30 ∧ uart = true then codeIf (decide (8 < v)) 6
    else []
  else if 0x2340 ≤ idx ∧ idx < 0x2370 then [h.matrixCheck (idx - 0x2340) b]
  else if 0x2400 ≤ idx ∧ idx < 0x2418 ∧ sub = 3 then [programCheck b]
  else if 0x2400 ≤ idx ∧ idx < 0x2418 ∧ (sub = 0x0D ∨ sub = 0x0E) then
    codeIf (decide (8 < v + h.num (Obj.seqShiftWidth (idx - 0x2400)))) 6
  else if idx * 256 + sub = Obj.exportRoute then
    codeIf (v != 0xFFFF && decide (rtMaxFrame (h.route v) < 32)) 6
  else []

/-- The checks of the station ports' objects at the write and the GOOSE blocks' (R343, R347, R350, R380, R384). -/
def Hub.stationCodes (h new : Hub) (idx sub v : Nat) : List Nat :=
  let key := idx * 256 + sub
  if key = Obj.staRedundancy then
    codeIf (!(h.isOff (fidStation 0) && h.isOff (fidStation 1))) 8
      ++ codeIf (h.activeTable.any (fun p => rtValid p.2 && (rtTargets p.2).testBit 15)) 7
  else if key = Obj.defaultRoute ∨ key = Obj.rxRules then codeIf (new.staTableCheck h.activeTable == 6) 6
  else if (idx = 0x2801 ∨ idx = 0x2802) ∧ sub = 3 then codeIf (decide (3 < v)) 6
  else if (idx = 0x2801 ∨ idx = 0x2802) ∧ sub = 4 then codeIf (v % 2 == 1) 6
  else if 0x2900 ≤ idx ∧ idx < 0x2980 ∧ sub = 0x04 then codeIf (v % 2 == 0) 6
  else if 0x2900 ≤ idx ∧ idx < 0x2980 ∧ sub = 0x0D then codeIf (decide (v < h.num (Obj.gocbT1 (idx - 0x2900)))) 6
  else if 0x2900 ≤ idx ∧ idx < 0x2980 ∧ sub = 0x0E then codeIf (decide (h.num (Obj.gocbT0 (idx - 0x2900)) < v)) 6
  else []

/-- The checks of the keeper's and the other blocks' objects at the write (R418, R451, R455, R457, R460, R466, R499, R506, R515, R543,
R576). -/
def Hub.hubCodes (h new : Hub) (idx sub v : Nat) (b : List Byte) : List Nat :=
  let key := idx * 256 + sub
  if idx = 0x1100 then codeIf ([Path.pcie, .ring, .station, .service].all (fun p => new.weight p == 0)) 7
  else if key = Obj.staAccessEnable then codeIf (v == 1 && !h.staAccessFits) 7
  else if key = Obj.classMask then codeIf (!(v.testBit 0 && v.testBit 13)) 7
  else if idx = 0x3540 then
    codeIf (!h.userFree) 8
      ++ codeIf ([Obj.userPoly, Obj.userInit, Obj.userXorout].any (fun k => decide (2 ^ new.num Obj.userWidth ≤ new.num k))) 6
  else if 0x3541 ≤ idx ∧ idx ≤ 0x3544 ∧ sub = 3 then [h.scanJobCheck (idx - 0x3541) b]
  else if key = Obj.mirrorBase ∨ key = Obj.mirrorSize then
    codeIf (decide (0x200000 < new.num Obj.mirrorBase + new.num Obj.mirrorSize)) 6
      ++ codeIf (overlap (new.num Obj.mirrorBase) (new.num Obj.mirrorSize) 0 0x2000) 7
  else if key = Obj.windowBase ∨ key = Obj.windowSize then
    codeIf (decide (0x200000 < new.num Obj.windowBase + new.num Obj.windowSize)) 6 ++ codeIf new.windowOverlaps 7
  else if key = Obj.feedOv then codeIf (decide (v ≤ h.num Obj.feedUv)) 7
  else if key = Obj.currentLimit ∨ key = Obj.breakerRating ∨ key = Obj.breakerCurve then new.breakerCheck
  else if key = Obj.wakeChannels then
    codeIf (b.any (fun c => c.toNat != 0xFF && (decide (191 < c.toNat) || !(h.num Obj.eavesMode).testBit (c.toNat / 16)))) 7
  else []

/-- Whether an object is named in mirror-list. -/
def Hub.mirrored (h : Hub) (idx sub : Nat) : Bool := h.mirrorEntries.any (fun e => e.1 == idx && (e.2 == sub || e.2 == 0xFF))

/-- The checks of a write of an RW or RWB object (R448 tests 6 to 10, R400, R451): 0 or the code of the first that fails. -/
def Hub.writeCheck (h : Hub) (mirror : Bool) (idx sub : Nat) (d : Desc) (b : List Byte) : Nat :=
  let v := leNat b
  let new := h.setObj (h.keyOf idx sub) (d.ty.decode b)
  if d.check b ≠ 0 then d.check b
  else
    let off := match indexFid idx with
      | some fid => d.offOnly && !h.isOff fid
      | none => false
    firstCode (codeIf off 8 ++ codeIf (!mirror && h.num Obj.role == roleStandby && h.mirrored idx sub) 8
      ++ h.timeCodes new idx sub v ++ h.switchCodes new idx sub v ++ h.channelCodes new idx sub v b
      ++ h.stationCodes new idx sub v ++ h.hubCodes new idx sub v b
      ++ [if idx * 256 + sub = Obj.forwardingTable then 0 else h.breaks new])

/-! ### Effects -/

/-- ch-mode is written (R245): every mode subindex and subindexes 06 and 08 to 0D take the defaults of the new mode. -/
def Hub.setChMode (h : Hub) (c m : Nat) : Hub :=
  let goes := fun (key : Nat) =>
    let (_, idx, sub) := keyParts key
    decide (idx = 0x2000 + c ∧ (0x20 ≤ sub ∨ sub = 6 ∨ (8 ≤ sub ∧ sub ≤ 0x0D)))
  let h := { h with dict := h.dict.filter (fun p => !goes p.1), rwb := h.rwb.filter (fun p => !goes p.1) }
  h.setNum (Obj.chMode c) m

/-- tout-mode or tout-idle has been written (R73): a pin that is OFF, or in PPS or CLOCK before ST is known, or that now waits for a
trigger entry, takes tout-idle. -/
def Hub.toutWritten (h : Hub) (i : Nat) (mode : Bool) : Hub :=
  let m := h.num (Obj.toutMode i)
  if m = 0 ∨ (m = 1 ∧ mode = true) ∨ (m ≠ 1 ∧ h.num Obj.syncState = syncNever) then h.setTout i (h.flag (Obj.toutIdle i)) h.now else h

/-- The pins take tout-idle with the values the keeper has loaded (R73, R80). -/
def Hub.toutsIdle (h : Hub) : Hub := (List.range 4).foldl (fun h i => h.toutWritten i true) h

/-- A setting of the sentinel goes to it over the inter-die link; the next sample takes it (R17, R504, R525). -/
def Hub.sentinelWritten (h : Hub) (key : Nat) (v : Val) : Hub :=
  { h with power := { h.power with
    nextSettings := some (SMap.set dictDefault (h.power.nextSettings.getD h.power.settings) key v) } }

/-- What an accepted value does beside being stored. -/
def Hub.valueWritten (h : Hub) (idx sub : Nat) (v : Val) : Hub :=
  let key := idx * 256 + sub
  let h := match enableOf key with
    | some fid => h.enableWritten fid (v.nat != 0)
    | none => h
  if sentinelIndex idx then h.sentinelWritten key v
  else if 0x1438 ≤ idx ∧ idx < 0x143C ∧ (sub = 1 ∨ sub = 5) then h.toutWritten (idx - 0x1438) (sub == 1)
  else if 0x2400 ≤ idx ∧ idx < 0x2418 ∧ sub = 3 then
    h.setSq (idx - 0x2400) { h.sq (idx - 0x2400) with progBusy := false }
  else if 0x2400 ≤ idx ∧ idx < 0x2418 ∧ sub = 8 then h.unmapPins ((idx - 0x2400) / 2)
  else if idx = 0x3540 then h.userCheckNow
  else if key = Obj.exportRoute ∧ v.nat = 0xFFFF then
    ({ h with ledger := { h.ledger with exportNext := 0 } }).setNum Obj.exportState 0
  else if key = Obj.trialRestarts then { h with upd := { h.upd with trialRestarts := v.nat } }
  else h

/-- Apply an accepted RW value (R23): in one update, with what it does. -/
def Hub.applyValue (h : Hub) (idx sub : Nat) (v : Val) : Hub :=
  let key := h.keyOf idx sub
  if key = Obj.forwardingTable then h.loadTable v.octets
  else if key = Obj.routeEntry then h.stageEntry (h.num Obj.routeIndex) (leNat v.octets)
  else if 0x1480 ≤ idx ∧ idx < 0x1580 ∧ sub = 1 then
    if v.nat = 1 then (h.trigArm (idx - 0x1480)).2 else h.trigDisarm (idx - 0x1480)
  else if 0x2000 ≤ idx ∧ idx < 0x20C0 ∧ sub = 2 then h.setChMode (idx - 0x2000) v.nat
  else if 0x3541 ≤ idx ∧ idx ≤ 0x3543 ∧ sub = 3 then (h.jobWritten (idx - 0x3541)).setObj key v
  else if key = Obj.nominalFrequency then (h.nominalChanged v.nat).setObj key v
  else (h.setObj key v).valueWritten idx sub v

/-- Accept an RWB value (R23, R424): it waits for its boundary; a CAN matrix is applied at once while the matrix is stopped (R306). -/
def Hub.acceptRwb (h : Hub) (idx sub : Nat) (v : Val) : Hub :=
  let key := h.keyOf idx sub
  let h := { h with rwb := SMap.put h.rwb key v }
  if 0x2340 ≤ idx ∧ idx < 0x2370 ∧ h.num (Obj.matrixState (idx - 0x2340)) = matStopped then h.applyRwb [key] else h

/-- What a refused write counts (R185, R331). -/
def Hub.writeRefused (h : Hub) (idx sub code : Nat) : Hub :=
  if (idx * 256 + sub = Obj.routeEntry ∨ idx * 256 + sub = Obj.forwardingTable) ∧ code = 9 then h.count Obj.swStBusyRefusals
  else if 0x2400 ≤ idx ∧ idx < 0x2418 ∧ sub = 3 ∧ code = 8 then
    let s := idx - 0x2400
    (h.setSq s { h.sq s with progBusy := true }).count (Obj.progBusyRefusals s)
  else h

/-! ### Write-only objects -/

/-- Tallies and the records clear-tallies clears of one table (R477). -/
def Hub.clearTallies (h : Hub) (b : Block) (idx : Nat) : Hub :=
  let goes := fun (key : Nat) => b.clears.any (fun r => decide (key / 256 = idx ∧ r.1 ≤ key % 256 ∧ key % 256 ≤ r.2))
  let h := { h with dict := h.dict.filter (fun p => !goes p.1) }
  if 0x1430 ≤ idx ∧ idx < 0x1434 then
    { h with time := { h.time with tcapOvf := SMap.set (fun _ => 0) h.time.tcapOvf (idx - 0x1430) 0 } }
  else h

/-- The table whose clear-tallies a subindex is. -/
def clearBlock (idx sub : Nat) : Option Block :=
  allBlocks.find? (fun b => decide (b.base ≤ idx ∧ idx < b.base + b.count ∧ b.clearSub ≠ 0 ∧ b.clearSub = sub))

/-- A key is written (R438, R445). -/
def Hub.keyWrite (h : Hub) (slot : Nat) (key : List Byte) : Nat × Hub :=
  let h := h.persist 64
  if h.store.bad then (12, h)
  else
    let key := if key.all (fun b => b == 0) then [] else key
    let k := h.keeper
    let h := { h with
      keeper := { k with
        keys := SMap.set (fun _ => []) k.keys slot key
        ceilings := SMap.set (fun _ => 0) k.ceilings slot 0 } }
    let h := (h.setNum (Obj.counter slot) 0).setNum Obj.keysLoaded
      (if key.isEmpty then clearBit (h.num Obj.keysLoaded) slot else setBit (h.num Obj.keysLoaded) slot)
    (0, h.stallPathGone (fun r => r.path == Path.station && r.unit == slot))

/-- commit written true (R184, R185). -/
def Hub.commitWrite (h : Hub) : Nat × Hub :=
  if h.drainCount ≠ 0 then (9, h.count Obj.swStBusyRefusals)
  else if h.commitCheck ≠ 0 then (h.commitCheck, h)
  else (0, h.flip)

/-- What a true written to a BOOL object does, outside the tables' clear-tallies: the code and the hub. -/
def Hub.trueWritten (h : Hub) (idx sub : Nat) : Nat × Hub :=
  let key := idx * 256 + sub
  if key = Obj.disarmAll then (0, h.disarmAllWrite)
  else if key = Obj.rejoin then (0, h.doRejoin)
  else if key = Obj.clearFaultLog then (0, h.clearLog)
  else if key = Obj.commit then h.commitWrite
  else if key = Obj.discard then (0, h.discardStaging)
  else if 0x1900 ≤ idx ∧ idx < 0x1940 then
    if h.isOn (fidQueue (idx - 0x1900)) then (0, h.flushQueue (idx - 0x1900)) else (8, h)
  else if 0x2000 ≤ idx ∧ idx < 0x20C0 then
    if sub = 0x11 then (0, h.enableDriver (idx - 0x2000)) else (0, h.setNum (Obj.pulseCount (idx - 0x2000)) 0)
  else if key = Obj.clearLedger then (0, h.ledgerClear)
  else if 0x2300 ≤ idx ∧ idx < 0x2330 then
    if sub = 0x12 then (0, h.canRestart (idx - 0x2300)) else (0, h.matrixStop (idx - 0x2300))
  else if key = Obj.dupSwap then h.dupSwapWrite
  else if key = Obj.dupRejoin then (0, h.dupRejoinWrite)
  else if key = Obj.dupClaimClear then (if h.isOff fidDuplex then (0, h.dupClaimClearWrite) else (8, h))
  else if key = Obj.saveConfig then h.saveConfigWrite
  else if key = Obj.restoreDefaults then h.restoreDefaultsWrite
  else if 0x3541 ≤ idx ∧ idx ≤ 0x3544 then (0, h.scanStopWrite (idx - 0x3541))
  else if key = Obj.faultTest then (0, h.hubFault 8)
  else if key = Obj.faultRecordClear then (0, h.faultRecordClearWrite)
  else if key = Obj.fetFaultClear then (0, h.fetFaultClearWrite)
  else if key = Obj.stagingErase then h.stagingEraseWrite
  else if key = Obj.stagingVerify then h.stagingVerifyWrite
  else if key = Obj.updateArm then h.updateArmWrite
  else if key = Obj.updateDisarm then h.updateDisarmWrite
  else if key = Obj.updateRestart then
    (if h.num Obj.role = roleActive ∧ h.flag Obj.updateForce = false then (8, h) else (0, h))
  else if key = Obj.updateConfirm then h.updateConfirmWrite
  else (0, h)

/-- What a number written to a write-only object does. DEDUCED (log entry 73): staging-data takes segmented writes only (R590), a WRITE of it ends with
TYPE_LEN. -/
def Hub.numberWritten (h : Hub) (idx sub v : Nat) (b : List Byte) : Nat × Hub :=
  let key := idx * 256 + sub
  if key = Obj.exportFrom then (0, h.exportStart v)
  else if idx = 0x1110 then h.keyWrite (sub - 5) b
  else if key = Obj.claimReset then (0, h.claimResetWrite v)
  else if key = Obj.freset then
    let r := h.resetBy .keeper v
    (if r.1 then 0 else 6, r.2)
  else if key = Obj.pwrModeRequest then h.modeRequestWrite v
  else if key = Obj.eavesRelease then (0, h.eavesFree v)
  else if key = Obj.fallbackPart then h.fallbackPartWrite v
  else if key = Obj.keyRevoke then h.keyRevokeWrite v
  else if key = Obj.windowCommit then
    if h.windowOverlaps then (7, h) else h.windowCommitWrite (leAt b 0 4) (leAt b 4 4)
  else if key = Obj.stagingData then (5, h)
  else (0, h)

/-- A write of a write-only object: the code and the hub. A BOOL written false has no effect; a write of commit while frames of the old epoch hold cells
is refused whatever it holds (R185). -/
def Hub.woWrite (h : Hub) (idx sub : Nat) (d : Desc) (b : List Byte) : Nat × Hub :=
  if d.check b ≠ 0 then (d.check b, h)
  else if d.ty = .bool then
    if leNat b = 0 then
      if idx * 256 + sub = Obj.commit ∧ h.drainCount ≠ 0 then (9, h.count Obj.swStBusyRefusals) else (0, h)
    else
      match clearBlock idx sub with
      | some blk => (0, h.clearTallies blk idx)
      | none => h.trueWritten idx sub
  else h.numberWritten idx sub (leNat b) b

/-! ### One write -/

/-- A write of an object that has passed the tests of index, access and ownership (R448 tests 6 to 11): the code, 0 when it is accepted, and
its effect. `mirror`: the write comes by mirroring (R400). -/
def Hub.writeObject (h : Hub) (mirror : Bool) (idx sub : Nat) (d : Desc) (b : List Byte) : Nat × Hub :=
  if d.acc = .wo then
    let r := h.woWrite idx sub d b
    (r.1, r.2.napRefresh)
  else
    let code := h.writeCheck mirror idx sub d b
    if code ≠ 0 then (code, h.writeRefused idx sub code)
    else
      let v := d.ty.decode b
      let h := if d.acc = .rwb then h.acceptRwb idx sub v else h.applyValue idx sub v
      (0, (h.mirrorObject idx sub).napRefresh)

/-- RWB_BOUNDARY_APPLY (R15, R23, R424). -/
def execRwbBoundaryApply (index : BitVec 16) (sub : BitVec 8) (s : State) : Host.Outcome State Fault Refusal :=
  s.answer (fun h => h.applyRwb [h.keyOf index.toNat sub.toNat])

end Sys2Proof.Machine
end

