-- ==== Sys2Proof/Machine/Restart.lean ====
section
/-!
DEFINITION. Starts of the hub (R578 to R582, R585, R594 to R598): what a hub reset leaves, the boot ROM, the wake from DORMANT, the keeper's
start, and ready.
-/
namespace Sys2Proof.Machine

/-! Start states (R620). -/
def startStarting : Nat := 2
def startJoining : Nat := 3
def startReady : Nat := 4

/-- What the last reset was (R597). -/
def resetNreset : Nat := 2
def resetVddSen : Nat := 3
def resetCore : Nat := 4
def resetUpdate : Nat := 5
def resetDormant : Nat := 6

/-- The objects a hub reset leaves as they are: those the sentinel holds, and those that show what the store or the fuses hold. -/
def keptObject (key : Nat) : Bool :=
  sentinelObjects key || [Obj.journalState, Obj.activeConfig, Obj.frozenConfig, Obj.stagingState, Obj.stagingSetVersion, Obj.verifyResult,
    Obj.persistedRole, Obj.persistedFaultCause, Obj.persistedFaultStamp, Obj.keySlotsRevoked, Obj.keysLoaded].contains key

/-- The objects a wake from DORMANT leaves beside them: the time unit's status and the sleep record, the wake record and the cells, the
straps, the states of the trigger entries and what they have fired since power-up (R70, R81 to R83, R535, R546). -/
def dormantObject (key : Nat) : Bool :=
  keptObject key || key / 256 == 0x1400 || key / 256 == 0x1440 || key / 256 == 0x3201 || key == Obj.eavesHeld || key == Obj.straps || key == Obj.dupUnit
    || key == Obj.pwrMode || (decide (0x1480 ≤ key / 256 ∧ key / 256 < 0x1580) && decide (0x0E ≤ key % 256 ∧ key % 256 ≤ 0x11))

/-- The ledger as the store holds it (R276): numbers go on from the newest stored entry. -/
def Ledger.restart (l : Ledger) : Ledger :=
  let newest := (l.store.head?.map (·.seq)).getD 0
  { store := l.store, nextSeq := (newest + 1) % 2 ^ 32, mirrored := newest, gap := l.gap }

/-- The hub as a reset leaves it (R597), on the objects that `kept` keeps: the sentinel, the store's contents, what PERSIST holds; the LTC is
0, no CCLK runs. -/
def Hub.cleared (h : Hub) (kept : Nat → Bool) : Hub :=
  let h := h.usbDisconnect.dropSessions (fun _ => true)
  let fresh : Hub := {}
  { fresh with
    power := h.power
    svc := h.svc
    ledger := h.ledger.restart
    keeper := { keys := h.keeper.keys, ceilings := h.keeper.ceilings }
    duplex := { persisted := h.duplex.persisted }
    upd := { h.upd with notices := [], recovery := false, halted := false, windowEnd := 0, expiredAt := 0 }
    dict := h.dict.filter (fun p => kept p.1)
    out := h.out
    freeCtr := h.freeCtr }

/-- A hub reset with its cause (R597): the start begins again at step 7, with nPOR_OUT low. The age of the sentinel's events is kept. -/
def Hub.hubReset (h : Hub) (cause : Nat) : Hub :=
  let now := h.now
  let h := h.cleared keptObject
  let h := { h with power := { h.power with events := h.power.events.map (fun (e : PowerEvent) => { e with at_ := e.at_ - now }) } }
  h.setNum Obj.lastResetCause cause

/-- update-restart (R578): the ledger is saved first. -/
def Hub.updateRestart (h : Hub) : Hub := (h.mirrorEntriesToStore rankBatch 65536).hubReset resetUpdate

/-- nPOR_OUT releases (R594, R600): the LTC is 0, the straps are latched, the DUPLEX_UNIT strap as the
unit id (R388, R620), and the EAVES_MODE strap sets the cells (R544). -/
def Hub.porRelease (h : Hub) (straps : Nat) : Hub :=
  if h.time.cclk ∨ h.mode = modeDormant then h
  else
    let h := (({ h with time := { h.time with ltc := 0 } }).setNum Obj.straps straps).setNum Obj.dupUnit (straps / 128 % 2)
    let hold := straps.testBit 10
    (h.setNum Obj.eavesMode (if hold then 0x1FFF else 0)).setNum Obj.eavesHeld (if hold then 0x1FFF else 0)

/-- The boot ROM runs (R579, R594 step 9): the start counts. -/
def Hub.bootStart (h : Hub) : Hub :=
  let h := { h with upd := { h.upd with starts := (h.upd.starts + 1) % 2 ^ 32 } }
  h.boot

/-- CCLK locks (R594 step 8). -/
def Hub.cclkLocked (h : Hub) : Hub :=
  if h.time.cclk ∨ h.mode = modeDormant then h
  else ({ h with time := { h.time with cclk := true } }).bootStart

/-- Ticks that the LTC advances by for RTC ticks across a sleep (R81). -/
def sleepTicks (rtc : Nat) : Nat := rtc * 390625 / 32

/-- The sleep uncertainty in ns: 30.5 µs and 50 ppm of the time elapsed (R81). -/
def sleepNs (ticks : Nat) : Nat := 30500 + ticks * 5 / 2 * 50 / 1000000

/-- What the time unit holds after a sleep (R81, R82): its map and marks, the line of the phase clock, which runs on across the sleep (log entry 95), and
the trigger entries; the LTC advanced by the ticks of the sleep. Sources, captures and the snapshot start anew. -/
def TimeUnit.slept (t : TimeUnit) (rtc : Nat) : TimeUnit := {
  segs := t.segs, marks := t.marks, track := t.track, lastLocked := t.lastLocked, trig := t.trig, dormantLtc := t.dormantLtc
  phcL0 := t.phcL0, phcBase := t.phcBase, phcFreq := t.phcFreq, phcTrim := t.phcTrim, phcNominal := t.phcNominal, phcPast := t.phcPast
  ltc := BitVec.ofNat 64 (t.dormantLtc + sleepTicks rtc), cclk := true, sleepUnc := sleepNs (sleepTicks rtc) }

/-- The hub as the sleep leaves it at the wake (R81, R535): what DORMANT keeps. -/
def Hub.slept (h : Hub) (rtc : Nat) : Hub :=
  { h.cleared dormantObject with time := h.time.slept rtc, pwr := { sources := h.pwr.sources, details := h.pwr.details } }

/-- COMMITTED entries are ARMED again after a sleep (R82). -/
def Hub.rearmAll (h : Hub) : Hub :=
  (List.range 256).foldl (fun h i =>
    if h.num (Obj.trigState i) = tsCommitted then h.setNum (Obj.trigState i) tsArmed else h) h

/-- The move of SYNC_STATE at a wake (R43, R81): a hub that was synchronised is in HOLDOVER_SLEEP from now on. -/
def Hub.sleepHoldover (h : Hub) : Hub :=
  let h := h.setNum Obj.timeSource 0
  if h.num Obj.syncState = syncNever then h
  else
    let h := h.setNum Obj.syncState syncHoldoverSleep
    let h := h.newSegment (h.stAt h.now) h.time.track
    h.setNum Obj.holdoverSince (h.stamp .S)

/-- The ticks, counters and uncertainty of the sleep record (R83). -/
def Hub.sleepTimes (h : Hub) (before after rtc : Nat) : Hub :=
  (((h.setNum Obj.rtcElapsed rtc).setNum Obj.ltcBefore before).setNum Obj.ltcAfter after).setNum Obj.sleepUncertainty
    (argSat (sleepNs (sleepTicks rtc)))

/-- The sleep record with its wake time (R83), and TIME_DISCONTINUITY. DESIGN CHOICE (log entry 95): wake-time is stamped at a point of class S. -/
def Hub.sleepRecord (h : Hub) (before after rtc : Nat) : Hub :=
  (((h.sleepTimes before after rtc).setNum Obj.wakeTime ((h.sleepTimes before after rtc).stamp128At .S h.now 0)).count
    Obj.sleepWakeCount).notice N.timeDiscontinuity fidTime [rtc % 2 ^ 32, rtc / 2 ^ 32, argSat (sleepNs (sleepTicks rtc))]

/-- The time unit after a sleep of `rtc` RTC ticks (R81 to R84, R535), in R81's order: the sleep record and its notice, the move of SYNC_STATE, and the
phase clock INVALID at the nominal frequency it had. -/
def Hub.afterSleep (h : Hub) (rtc : Nat) : Hub :=
  ((((h.slept rtc).rearmAll.sleepRecord h.time.dormantLtc ((h.time.dormantLtc + sleepTicks rtc) % 2 ^ 64) rtc)).sleepHoldover).phaseInvalidAt
    (h.num Obj.nominalFrequency * 1000)

/-- A wake from DORMANT, at CCLK lock (R81, R82, R535, R546): the LTC advances before any stamp is taken, the sleep and wake records are
written, and the boot ROM runs. -/
def Hub.dormantWake (h : Hub) (rtc : Nat) : Hub :=
  if h.mode ≠ modeDormant ∨ h.pwr.latch = false ∨ h.pendingSources modeDormant = 0 then h
  else
    ((((h.afterSleep rtc).setNum Obj.lastResetCause resetDormant).wakeRecord (h.pendingSources modeDormant)).setMode
      (h.num Obj.wakeMode)).bootStart

/-- The keeper loads the sentinel microcode when its version differs from the one that runs (R581); an attached partner sees a Hard Reset. -/
def Hub.loadMicrocode (h : Hub) : Hub :=
  let v := (if h.num Obj.bootPath = 1 then h.upd.fallback else h.upd.active).version 2
  if h.power.microcode = v then h
  else
    let h := { h with power := { h.power with microcode := v } }
    h.when (h.num Obj.attachState != 0) (fun h => (h.emit (.pd .hardReset)).hardReset)

/-- A saved image in the keeper's own format (R585): the values that convert, and how many do not. -/
def convertImage (to_ : Nat) (g : SavedImage) : SMap Val × Nat :=
  if g.format = to_ then (g.values, 0)
  else g.values.foldl (fun (r : SMap Val × Nat) p =>
    let (mode, idx, sub) := keyParts p.1
    match findDesc mode idx sub allBlocks with
    | none => (r.1, r.2 + 1)
    | some (_, d) =>
      match Config.convertValue g.format to_ p.1 (d.ty.encode p.2) with
      | some b => (r.1 ++ [(p.1, d.ty.decode b)], r.2)
      | none => (r.1, r.2 + 1)) ([], 0)

/-- After an activation the running image goes, converted, to the other CONFIG partition, which becomes active; the one copied from is frozen
(R585). -/
def Hub.freezeConfig (h : Hub) : Hub :=
  let a := h.num Obj.lastStartAction
  if h.num Obj.journalState = jnlTrial ∧ (a = 1 ∨ a = 2) ∧ h.num Obj.frozenConfig = 0xFF then
    let old := h.num Obj.activeConfig
    let (g, refused) := match h.activeImage with
      | some g =>
        let c := convertImage h.formatInUse g
        (some ({ format := h.formatInUse, values := c.1 } : SavedImage), c.2)
      | none => (none, 0)
    let h := (h.putImage (1 - old) g).storeRequest rankKeeper (3 + (1 - old)) 0 65536
    ((h.setNum Obj.activeConfig (1 - old)).setNum Obj.frozenConfig old).setNum Obj.loadRefusals (min 0xFFFF refused)
  else h

/-- One more value or check refused at the load (R452, R624). -/
def Hub.loadRefused (h : Hub) : Hub :=
  let h := h.setNum Obj.loadRefusals (min 0xFFFF (h.num Obj.loadRefusals + 1))
  h.noticeS N.dictLoadRefused fidDict [h.num Obj.loadRefusals]

/-- The keeper loads the saved image (the user profile with its check value, R460), and commits the forwarding table it holds (R452). -/
def Hub.loadDictionary (h : Hub) : Hub :=
  let h := h.freezeConfig
  let h := match h.activeImage with
    | some g => h.loadImage g.values
    | none => h
  let h := h.when (h.num Obj.loadRefusals != 0) (fun h => h.noticeS N.dictLoadRefused fidDict [h.num Obj.loadRefusals])
  let h := (h.nominalChanged (h.num Obj.nominalFrequency)).userCheckNow
  if h.sw.staged then (if h.commitCheck = 0 then h.flip else h.discardStaging.loadRefused) else h

/-- The settings are loaded into the sentinel, which takes them at its next sample (R17). -/
def Hub.loadSentinel (h : Hub) : Hub :=
  { h with power := { h.power with nextSettings := some (h.dict.filter (fun p => sentinelIndex (p.1 / 256 % 65536))) } }

/-- What PERSIST holds for the keeper: the ceilings are the highest counters accepted (R438), the count of keys. -/
def Hub.loadCounters (h : Hub) : Hub :=
  (List.range 4).foldl (fun h i => h.setNum (Obj.counter i) (SMap.get (fun _ => 0) h.keeper.ceilings i)) h

/-- The keeper arms the trigger entries whose saved trig-enable is true, ascending (R624). -/
def Hub.armSaved (h : Hub) : Hub :=
  (List.range 256).foldl (fun h t =>
    if h.flag (Obj.trigEnable t) then
      let r := h.trigArm t
      if r.1 = 0 then r.2 else (h.setFlag (Obj.trigEnable t) false).loadRefused
    else h) h

/-- KEEPER_READY is set (R594 step 10), `us` µs after nPOR_OUT released: FLT_OUT is released, what happened before is reported, the pads are
released, functions start and entries are armed. -/
def Hub.keeperStart (h : Hub) (us : Nat) : Hub :=
  if h.time.cclk = false ∨ h.keeper.ready = true ∨ h.upd.halted = true ∨ h.upd.recovery = true then h
  else
    let h := h.loadMicrocode.loadDictionary.loadSentinel.loadCounters
    let h := { h with keeper := { h.keeper with ready := true, since := h.now }, safety := { h.safety with fltStart := false } }
    let h := (h.setNum Obj.porToKeeperReady us).setNum Obj.startState startJoining
    let h := h.when (h.upd.faultCause != 0) (fun h =>
      h.noticeS N.hubFaultPrevious fidHub (h.upd.faultCause :: arg64 h.upd.faultStamp))
    let h := h.fetchEvents
    let ns := h.upd.notices
    let h := ns.foldl (fun h n => h.noticeS n.1 fidUpdate n.2) { h with upd := { h.upd with notices := [] } }
    let h := h.when (h.num Obj.journalState == jnlTrial) (fun h =>
      { h with upd := { h.upd with windowEnd := h.now + h.num Obj.confirmWindow * 60000 * ticksPerMs } })
    let h := (h.eavesAuto 0x1FFF).toutsIdle.ledgerObjects
    let h := h.startEnabled (fun _ => true)
    h.armSaved.napRefresh

/-- A function whose enable object is true is still STARTING. -/
def Hub.stillStarting (h : Hub) : Bool :=
  allFids.any (fun fid => match fnOf fid with
    | some f => h.enabled f && (h.func fid).life == .starting
    | none => false)

/-- Nothing of the ring is waited for (R596), `us` µs after KEEPER_READY: the join is over, no ring port is enabled, or 100 ms have passed. -/
def Hub.ringSettled (h : Hub) (us : Nat) : Bool :=
  h.num Obj.joinState == joinMember || h.num Obj.joinState == joinTransit
    || (!h.enabled (.ringPort 0) && !h.enabled (.ringPort 1)) || decide (100000 ≤ us)

/-- Ready (R596), `us` µs after KEEPER_READY: start-state, the notice that marks a start, and the held records when queue 63 is not enabled. -/
def Hub.readyNow (h : Hub) (us : Nat) : Hub :=
  if h.keeper.ready = false ∨ h.num Obj.startState = startReady ∨ h.stillStarting = true ∨ h.ringSettled us = false then h
  else
    let h := (h.setNum Obj.startState startReady).setNum Obj.keeperReadyToReady us
    let h := h.when (!h.flag (Obj.qEnable 63) && !h.host.heldDone) Hub.releaseHeld
    h.noticeS N.powerModeChanged fidPowerStates [7, modeRun]

/-- A rail leaves its window (R485); of the core and AON supplies before ready, a reset (R598). -/
def Hub.railLeaves (h : Hub) (rail : Rail) : Hub :=
  if (rail = .vddCore ∨ rail = .vddAon) ∧ h.num Obj.startState ≠ startReady ∧ h.flag Obj.hubFault = false then h.hubReset resetCore
  else h.supplyOut rail

/-- SUPPLY_OUT_OF_WINDOW (R485, R598). -/
def execSupplyOutOfWindow (rail : Rail) (s : State) : Host.Outcome State Fault Refusal := s.answer (fun h => h.railLeaves rail)

/-- NPOR_RELEASE (R595, R600). -/
def execNporRelease (straps : BitVec 11) (s : State) : Host.Outcome State Fault Refusal := s.answer (fun h => h.porRelease straps.toNat)
/-- CCLK_LOCK (R594). -/
def execCclkLock (s : State) : Host.Outcome State Fault Refusal := s.answer Hub.cclkLocked
/-- HUB_READY (R596). -/
def execHubReady (us : BitVec 32) (s : State) : Host.Outcome State Fault Refusal := s.answer (fun h => h.readyNow us.toNat)
/-- HUB_RESET_IN (R597). -/
def execHubResetIn (s : State) : Host.Outcome State Fault Refusal := s.answer (fun h => h.hubReset resetNreset)
/-- VDD_SEN_LOW (R597). -/
def execVddSenLow (s : State) : Host.Outcome State Fault Refusal := s.answer (fun h => h.hubReset resetVddSen)
/-- CORE_RAIL_LOW (R597). -/
def execCoreRailLow (s : State) : Host.Outcome State Fault Refusal := s.answer (fun h => h.hubReset resetCore)
/-- DORMANT_WAKE (R535). -/
def execDormantWake (rtc : BitVec 48) (s : State) : Host.Outcome State Fault Refusal := s.answer (fun h => h.dormantWake rtc.toNat)

end Sys2Proof.Machine
end

