-- ==== Sys2Proof/Machine/Keeper.lean ====
section
/-!
DEFINITION. The keeper's service (R426 to R432, R440 to R449, R599): messages, the tests of a request in the order of R448, and what each
operation does and answers.
-/
namespace Sys2Proof.Machine

/-! ### Messages -/

/-! Request codes (R427). -/
def opRead : Nat := 0x01
def opWrite : Nat := 0x02
def opSegStart : Nat := 0x03
def opSegData : Nat := 0x04
def opSegAbort : Nat := 0x05
def opStallRequest : Nat := 0x10
def opKeepalive : Nat := 0x11
def opStallRelease : Nat := 0x12
def opStallHandover : Nat := 0x13
def opWho : Nat := 0x14
def opRegRead : Nat := 0x20
def opRegWrite : Nat := 0x21

/-- The octets of a message (R426). -/
def msgBytes (m : DictMsg) : List Byte :=
  leBytes 1 m.op ++ leBytes 1 m.flags ++ leBytes 2 m.token ++ leBytes 2 m.index ++ leBytes 1 m.sub ++ [0]
    ++ leBytes 2 m.data.length ++ leBytes 2 m.abort ++ leBytes 4 m.arg ++ m.data

/-- Read a message from octets (R426). One whose LEN disagrees, or whose reserved octet is not 0, is marked by ABORT. -/
def parseMsg (b : List Byte) : DictMsg :=
  let len := leAt b 8 2
  let bad := decide (b.length ≠ 16 + len) || byteAt b 7 != 0
  { op := byteAt b 0, flags := byteAt b 1, token := leAt b 2 2, index := leAt b 4 2, sub := byteAt b 6
    abort := if bad then 5 else leAt b 10 2, arg := leAt b 12 4, data := slice b 16 len }

/-- ARG of a response that carries the request's (R427). -/
def echoArg (m : DictMsg) : Nat :=
  if m.op = opSegData ∨ m.op = opStallHandover ∨ m.op = opRegRead ∨ m.op = opRegWrite then m.arg else 0

/-- A response (R429): TOKEN, INDEX and SUB are echoed, and no data goes with an abort code. -/
def reply (m : DictMsg) (code arg flags : Nat) (data : List Byte) : DictMsg :=
  { op := (m.op + 0x40) % 256, flags := flags, token := m.token, index := m.index, sub := m.sub, abort := code, arg := arg
    data := if code = 0 then data else [] }

/-- A response with a code and nothing else. -/
def bare (m : DictMsg) (code : Nat) : DictMsg := reply m code (echoArg m) 0 []

/-- The operations a request may name. -/
def knownOps : List Nat :=
  [opRead, opWrite, opSegStart, opSegData, opSegAbort, opStallRequest, opKeepalive, opStallRelease, opStallHandover, opWho, opRegRead, opRegWrite]

/-- The form of a message (R448 test 1): an unknown OP, a reserved field that is not 0, data where the operation has none. -/
def malformed (m : DictMsg) : Bool :=
  !knownOps.contains m.op || m.abort != 0 || decide (4 ≤ m.flags)
    || (!m.data.isEmpty && !(m.op == opWrite || m.op == opSegData || m.op == opRegWrite))

/-- The most data a message carries on a path (R433). -/
def pathMax : Path → Nat
  | .pcie => 4072
  | .station => 1024
  | _ => 4080

/-! ### Rights -/

/-- The path of the registers that a path's requests use (R428). -/
def regPathOf : Path → RegPath
  | .pcie => .pcie
  | .ring => .ring
  | .station => .station
  | .service => .service

/-- The operations of the stall that R437 and R439 name. -/
def stallOp (op : Nat) : Bool := op == opStallRequest || op == opKeepalive || op == opStallRelease || op == opStallHandover

/-- A request writes: WRITE, REG_WRITE, and the segments of a write. -/
def Hub.writesOf (h : Hub) (r : Requester) (m : DictMsg) : Bool :=
  m.op == opWrite || m.op == opRegWrite || (m.op == opSegStart && !m.flags.testBit 1)
    || (m.op == opSegData && ((h.session r).map (fun s => s.write)).getD false)

/-- The tests of form and of the path's rights (R428, R437, R439, R442, R448 tests 1 and 2): 0, TYPE_LEN or AUTH. -/
def Hub.entryCheck (h : Hub) (r : Requester) (m : DictMsg) : Nat :=
  let reg := m.op == opRegRead || m.op == opRegWrite
  let bound := h.writesOf r m || stallOp m.op
  if malformed m then 5
  else if h.upd.recovery then (if reg || stallOp m.op then 5 else 0)
  else if reg ∧ (r.path = .pcie ∨ r.path = .ring) then 5
  else if r.path = .ring ∧ (h.num Obj.ringSources).testBit (r.unit - 1) = false then 11
  else if bound ∧ r.path = .station ∧ (h.num Obj.keyRights).testBit r.unit = false then 11
  else if bound ∧ r.path = .service ∧ h.flag Obj.serviceWrites = false then 11
  else if m.op = opStallRequest ∧ h.weight r.path = 0 then 11
  else 0

/-- Whether a request comes from the stallholder, at its arrival (R443); the recovery loader holds no election (R599). -/
def Hub.owns (h : Hub) (q : KReq) : Bool := h.upd.recovery || h.holdsStall q.by_ || q.held

/-- The objects the recovery loader serves (R599). -/
def recoveryObject (idx sub : Nat) : Bool :=
  idx == 0x1000 || idx == 0x3400 || (idx == 0x3401 && decide (sub ≤ 5)) || idx == 0x3402 || idx == 0x3403 || idx == 0x3510

/-- The tests of index and subindex (R448 test 3). -/
def Hub.objectCheck (h : Hub) (idx sub : Nat) : Nat :=
  if h.upd.recovery ∧ recoveryObject idx sub = false then 1 else h.indexCheck idx sub

/-- The description of a subindex that has passed `objectCheck`. -/
def Hub.descAt (h : Hub) (idx sub : Nat) : Desc :=
  (h.descOf idx sub).getD { sub := 0, ty := .u8, acc := .const, dflt := .num 0 }

/-- The tests of a write up to ownership (R448 tests 3 to 5). -/
def Hub.writeEntry (h : Hub) (q : KReq) : Nat :=
  let m := q.msg
  let c := h.objectCheck m.index m.sub
  if c ≠ 0 then c
  else
    let a := accessOf m.index m.sub (h.descAt m.index m.sub)
    if a = .const ∨ a = .ro then 3 else if h.owns q then 0 else 10

/-- The tests of a read (R448 tests 3 and 4). -/
def Hub.readEntry (h : Hub) (m : DictMsg) : Nat :=
  let c := h.objectCheck m.index m.sub
  if c ≠ 0 then c else if accessOf m.index m.sub (h.descAt m.index m.sub) = .wo then 4 else 0

/-- Restart the lease with a lease time, when a requester holds the stall (R443). -/
def Hub.renewFor (h : Hub) (r : Requester) (ms : Nat) : Hub :=
  if h.holdsStall r then { h with keeper := { h.keeper with leaseEnd := h.now + ms * ticksPerMs } } else h

/-! ### READ and WRITE -/

/-- READ (R424, R429). -/
def Hub.serveRead (h : Hub) (q : KReq) : DictMsg × Hub :=
  let m := q.msg
  let c := h.readEntry m
  if c ≠ 0 then (bare m c, h)
  else
    let d := h.descAt m.index m.sub
    let r := h.readValue m.index m.sub d
    if d.ty.isDomain ∧ pathMax q.by_.path < r.1.length then (bare m 5, h) else (reply m 0 r.1.length 0 r.1, r.2)

/-- WRITE (R23, R424, R443). -/
def Hub.serveWrite (h : Hub) (q : KReq) : DictMsg × Hub :=
  let m := q.msg
  let c := h.writeEntry q
  if c ≠ 0 then (bare m c, h)
  else
    let d := h.descAt m.index m.sub
    if d.ty.isDomain ∧ pathMax q.by_.path < m.data.length then (bare m 5, h)
    else
      let lease := h.num Obj.leaseTime
      let r := h.writeObject false m.index m.sub d m.data
      (bare m r.1, if r.1 = 0 then r.2.renewFor q.by_ lease else r.2)

/-! ### Segmented transfers -/

/-- Open a session: the requester's old one closes and counts (R432), and a ninth ends with BUSY. -/
def Hub.openSession (h : Hub) (m : DictMsg) (s : Session) : DictMsg × Hub :=
  let h' := h.when (h.session s.by_).isSome (fun h => (h.closeSession s.by_).count Obj.segAborts)
  if 8 ≤ h'.keeper.sessions.length then (bare m 9, h')
  else
    let h' := h'.when s.staging Hub.stagingLoad
    let h' := { h' with keeper := { h'.keeper with sessions := h'.keeper.sessions ++ [s] } }
    (reply m 0 (if s.write then 0 else s.total) 0 [], h')

/-- SEG_START of a write (R430, R185, R576, R577). -/
def Hub.segStartWrite (h : Hub) (q : KReq) : DictMsg × Hub :=
  let m := q.msg
  let c := h.writeEntry q
  if c ≠ 0 then (bare m c, h)
  else
    let d := h.descAt m.index m.sub
    if !d.ty.isDomain then (bare m 5, h)
    else if d.ty.maxLen < m.arg then (bare m (if m.index = 0x3402 then 6 else 5), h)
    else if m.index = 0x3402 ∧ h.num Obj.stagingState = stgArmed then (bare m 8, h)
    else if m.index * 256 + m.sub = Obj.forwardingTable ∧ h.drainCount ≠ 0 then (bare m 9, h.count Obj.swStBusyRefusals)
    else h.openSession m { by_ := q.by_, write := true, idx := m.index, sub := m.sub, total := m.arg }

/-- SEG_START of a read: the snapshot (R431). -/
def Hub.segStartRead (h : Hub) (q : KReq) : DictMsg × Hub :=
  let m := q.msg
  let c := h.readEntry m
  if c ≠ 0 then (bare m c, h)
  else
    let d := h.descAt m.index m.sub
    if !d.ty.isDomain then (bare m 5, h)
    else
      let r := h.readValue m.index m.sub d
      r.2.openSession m { by_ := q.by_, write := false, idx := m.index, sub := m.sub, total := r.1.length, data := r.1 }

/-- A segment of a read (R431). -/
def segRead (m : DictMsg) (s : Session) (max : Nat) : DictMsg :=
  if !m.data.isEmpty then bare m 5
  else if s.total ≤ m.arg then bare m 6
  else reply m 0 m.arg (b2n (decide (s.total ≤ m.arg + max))) (slice s.data m.arg max)

/-- Store a session's new state. -/
def Hub.putSession (h : Hub) (s : Session) : Hub :=
  { h with keeper := { h.keeper with sessions := h.keeper.sessions.map (fun x => if x.by_ = s.by_ then s else x) } }

/-- A segment into STAGING (R576, R577): written at its offset as it arrives; LAST completes the load. -/
def Hub.segStaging (h : Hub) (m : DictMsg) (s : Session) : DictMsg × Hub :=
  let n := m.data.length
  if imageSize < m.arg + n then (bare m 6, h)
  else if s.total < s.got + n then (bare m 5, h.closeSession s.by_)
  else if h.num Obj.stagingState = stgArmed then (bare m 8, h)
  else if h.store.bad then (bare m 12, h)
  else
    let h := h.stagingWrite m.arg m.data
    if !m.flags.testBit 0 then (bare m 0, h.putSession { s with got := s.got + n })
    else if s.got + n ≠ s.total then (bare m 5, h.closeSession s.by_)
    else (bare m 0, (h.setNum Obj.stagingState stgLoaded).closeSession s.by_)

/-- A segment of a write (R430). -/
def Hub.segWrite (h : Hub) (m : DictMsg) (s : Session) : DictMsg × Hub :=
  let n := m.data.length
  if m.arg ≠ s.got ∨ s.total < s.got + n then (bare m 5, h.closeSession s.by_)
  else if !m.flags.testBit 0 then (bare m 0, h.putSession { s with got := s.got + n, data := s.data ++ m.data })
  else if s.got + n ≠ s.total then (bare m 5, h.closeSession s.by_)
  else
    let r := (h.closeSession s.by_).writeObject false s.idx s.sub (h.descAt s.idx s.sub) (s.data ++ m.data)
    (bare m r.1, r.2)

/-- SEG_DATA (R430 to R432, R443). -/
def Hub.serveSegData (h : Hub) (q : KReq) : DictMsg × Hub :=
  let m := q.msg
  match h.session q.by_ with
  | none => (bare m 8, h)
  | some s =>
    if !s.write then (segRead m s (pathMax q.by_.path), h)
    else if !h.owns q then (bare m 10, h.closeSession q.by_)
    else
      let lease := h.num Obj.leaseTime
      let r := if s.staging then h.segStaging m s else h.segWrite m s
      (r.1, if r.1.abort = 0 then r.2.renewFor q.by_ lease else r.2)

/-! ### The stall -/

/-- What follows when a requester gives the stall up or loses it by override: its requests that wait are an observer's. -/
def Hub.unhold (h : Hub) (r : Requester) : Hub :=
  { h with keeper := { h.keeper with waiting := h.keeper.waiting.map (fun q => if q.by_ = r then { q with held := false } else q) } }

/-- The OK of a STALL_REQUEST or KEEPALIVE: the lease in ms. -/
def Hub.leaseReply (h : Hub) (m : DictMsg) : DictMsg := reply m 0 (h.num Obj.leaseTime) 0 []

/-- STALL_REQUEST (R442, R444, R445): no answer while an election is open. -/
def Hub.serveStallRequest (h : Hub) (q : KReq) : Option DictMsg × Hub :=
  let m := q.msg
  let r := q.by_
  let st := h.num Obj.stallState
  if st = 2 then
    if h.holdsStall r then (some (h.leaseReply m), h.renewLease)
    else if r.path = .pcie ∧ h.flag Obj.pcieOverride then
      let h := match h.keeper.holder with
        | some o => h.unhold o
        | none => h
      (some (h.leaseReply m), h.grantStall r 6)
    else (some (reply m 10 h.holderId 0 []), h)
  else if st = 3 then
    if identityOf r = h.num Obj.reservedFor then (some (h.leaseReply m), h.grantStall r 4)
    else (some (reply m 10 (h.num Obj.reservedFor) 0 []), h)
  else
    let h := { h with keeper := { h.keeper with election := h.keeper.election ++ [q] } }
    (none, if st = 0 then h.setNum Obj.stallState 1 else h)

/-- The path of a code of an identity (R427). -/
def pathOfCode : Nat → Option Path
  | 1 => some .pcie
  | 2 => some .ring
  | 3 => some .station
  | 4 => some .service
  | _ => none

/-- A target identity of STALL_HANDOVER (R444): 0, RANGE or CONFLICT. -/
def Hub.targetCheck (h : Hub) (t : Nat) : Nat :=
  let u := bits t 23 16
  match pathOfCode (t / 2 ^ 24) with
  | none => 6
  | some p =>
    let fits := match p with
      | .ring => decide (1 ≤ u ∧ u ≤ 64)
      | .station => decide (u < 4)
      | _ => u == 0
    if fits = false ∨ t % 65536 ≠ 0 ∨ t = h.holderId then 6
    else if h.weight p = 0 then 7
    else 0

/-- STALL_HANDOVER (R444). -/
def Hub.serveHandover (h : Hub) (q : KReq) : DictMsg × Hub :=
  let m := q.msg
  if !h.owns q then (bare m 10, h)
  else
    let c := h.targetCheck m.arg
    if c ≠ 0 then (bare m c, h)
    else
      let old := h.holderId
      let h := ((h.unhold q.by_).clearHolder 3).setNum Obj.reservedFor m.arg
      (bare m 0, (h.count Obj.handovers).stallNotice old 0 4)

/-- KEEPALIVE and STALL_RELEASE (R443, R444). -/
def Hub.serveHold (h : Hub) (q : KReq) : DictMsg × Hub :=
  let m := q.msg
  if !h.owns q then (bare m 10, h)
  else if m.op = opKeepalive then (h.leaseReply m, h.renewFor q.by_ (h.num Obj.leaseTime))
  else if !h.holdsStall q.by_ then (bare m 0, h)
  else (bare m 0, ((h.unhold q.by_).clearHolder 0).stallNotice (identityOf q.by_) 0 2)

/-! ### Registers -/

/-- The register an offset lies in: QPORT or a 32-bit register, and its size. -/
def regSize (off : Nat) : Nat := if 0x10000 ≤ off ∧ off < 0x11000 ∧ 0x30 ≤ off % 64 ∧ off % 64 < 0x38 then 8 else 4

/-- REG_READ (R428). -/
def Hub.serveRegRead (h : Hub) (q : KReq) : DictMsg × Hub :=
  let m := q.msg
  let n := regSize m.arg
  if m.arg % n ≠ 0 then (bare m 6, h)
  else
    let r := match qportAt m.arg with
      | some k => h.qportRead k true
      | none => h.regRead (regPathOf q.by_.path) m.arg
    (reply m 0 m.arg 0 (leBytes n r.1), r.2)

/-- REG_WRITE (R21, R35, R428). -/
def Hub.serveRegWrite (h : Hub) (q : KReq) : DictMsg × Hub :=
  let m := q.msg
  let n := regSize m.arg
  if !writable (m.arg - m.arg % 4) then (bare m 3, h)
  else if !h.owns q then (bare m 10, h)
  else if m.data.length ≠ n then (bare m 5, h)
  else if m.arg % n ≠ 0 then (bare m 6, h)
  else
    let v := leNat m.data
    let h := match qportAt m.arg with
      | some k => (h.qportWrite (regPathOf q.by_.path) k v true).mirrorPump
      | none => h.regWrite (regPathOf q.by_.path) m.arg v
    (bare m 0, h)

/-! ### One request -/

/-- Serve one request: its response, where it has one now, and the hub. -/
def Hub.handle (h : Hub) (q : KReq) : Option DictMsg × Hub :=
  let m := q.msg
  let c := h.entryCheck q.by_ m
  let some' := fun (r : DictMsg × Hub) => (some r.1, r.2)
  if c ≠ 0 then (some (bare m c), h)
  else if m.op = opRead then some' (h.serveRead q)
  else if m.op = opWrite then some' (h.serveWrite q)
  else if m.op = opSegStart then some' (if m.flags.testBit 1 then h.segStartRead q else h.segStartWrite q)
  else if m.op = opSegData then some' (h.serveSegData q)
  else if m.op = opSegAbort then (some (bare m 0), h.closeSession q.by_)
  else if m.op = opStallRequest then h.serveStallRequest q
  else if m.op = opStallHandover then some' (h.serveHandover q)
  else if m.op = opWho then (some (reply m 0 h.holderId 0 []), h)
  else if m.op = opRegRead then some' (h.serveRegRead q)
  else if m.op = opRegWrite then some' (h.serveRegWrite q)
  else some' (h.serveHold q)

end Sys2Proof.Machine
end

