-- ==== Sys2Proof/Machine/DictService.lean ====
section
/-!
DEFINITION. How requests reach the keeper and responses leave it (R433 to R440, R599): the mailbox, the ring, the station, the service port;
elections and lapses (R442 to R445); the mirror records of a STANDBY (R400).
-/
namespace Sys2Proof.Machine

/-! ### Responses -/

/-- A dictionary frame of class 6 to a node (R90, R435). -/
def Hub.sendMgmt (h : Hub) (node : Nat) (b : List Byte) : Hub :=
  (h.sendRing 17 { dst := node, cls := 6, type := tMgmt, payload := b } 0).2

/-- The header of an Ethernet frame that answers a sender on the station ports (R436): its own MAC address is that of the reply route's
port. -/
def Hub.replyHeader (h : Hub) (mac : Nat) (tag : Option (BitVec 16)) (etherType : Nat) : List Byte :=
  let p := if (rtTargets (h.route (h.num Obj.staReplyRoute))).testBit 14 then 0 else 1
  beBytes 6 mac ++ h.staMac p
    ++ (match tag with
      | some t => beBytes 2 0x8100 ++ beBytes 2 t.toNat
      | none => [])
    ++ beBytes 2 etherType

/-- An Internet checksum. -/
def inetSum (b : List Byte) : Nat := 0xFFFF - onesSum b

/-- A UDP datagram over IPv4 that answers a request (R436); the spec leaves the IP identification and time to live open. -/
def Hub.udpReply (h : Hub) (q : UdpRequest) (payload : List Byte) : Hub :=
  let n := 8 + payload.length
  let src := beBytes 4 q.dstIp.toNat
  let dst := beBytes 4 q.srcIp.toNat
  let udp := fun (sum : Nat) => beBytes 2 q.dstPort.toNat ++ beBytes 2 q.srcPort.toNat ++ beBytes 2 n ++ beBytes 2 sum ++ payload
  let u := inetSum (src ++ dst ++ [0, 17] ++ beBytes 2 n ++ udp 0)
  let id := (Config.free 16 h.freeCtr).toNat
  let ttl := (Config.free 8 (h.freeCtr + 1)).toNat
  let h := h.nextFree.nextFree
  let ip := fun (sum : Nat) =>
    [0x45, 0] ++ beBytes 2 (20 + n) ++ beBytes 2 id ++ [0, 0, BitVec.ofNat 8 ttl, 17] ++ beBytes 2 sum ++ src ++ dst
  let frame := h.replyHeader q.mac.toNat q.tag 0x0800 ++ ip (inetSum (ip 0)) ++ udp (if u = 0 then 0xFFFF else u)
  h.swRouted 17 (h.num Obj.staReplyRoute) frame

/-- The 32 octets of an HMAC-SHA-256 (R437). -/
def hmacOctets (key msg : List Byte) : List Byte := beBytes 32 (Config.hmacSha256 key msg).toNat

/-- The envelope of a station message (R437). -/
def Hub.envelope (h : Hub) (slot counter : Nat) (b : List Byte) : List Byte :=
  let body := [1, BitVec.ofNat 8 slot, 0, 0] ++ leBytes 8 counter ++ b
  body ++ hmacOctets (SMap.get (fun _ => []) h.keeper.keys slot) body

/-- Send the octets of a response by the carrier of its request (R429, R433). -/
def Hub.carry (h : Hub) (q : KReq) (code : Nat) (b : List Byte) : Hub :=
  match q.via with
  | .direct | .service => h.emit (.response q.by_ b)
  | .mailbox seq target => h.mailAnswer seq target code b
  | .ring => h.sendMgmt q.by_.unit b
  | .station u counter => h.udpReply u (h.envelope q.by_.unit counter b)

/-- A response leaves: tallies (R456), and on the ring path it is kept for a repeat (R435). -/
def Hub.deliverResponse (h : Hub) (q : KReq) (m : DictMsg) : Hub :=
  let h := h.count Obj.requestsServed
  let h := h.when (m.abort != 0) (fun h => h.count Obj.abortsSent)
  let h := h.when (m.abort == 10) (fun h => h.count Obj.notOwnerRefusals)
  let h := h.when (m.abort == 9) (fun h => h.count Obj.ownStBusyRefusals)
  let h := h.when (q.by_.path == Path.ring) (fun h =>
    { h with keeper := { h.keeper with
        ringLast := SMap.set (fun _ => none) h.keeper.ringLast q.by_.unit (some (m.token, msgBytes m)) } })
  h.carry q m.abort (msgBytes m)

/-! ### Serving -/

/-- A request reads the post SRAM in a locked granule (R163): window-commit, whose window does. -/
def Hub.readsLocked (h : Hub) (m : DictMsg) : Bool :=
  m.op == opWrite && m.index * 256 + m.sub == Obj.windowCommit && h.sramLocked (h.num Obj.windowBase) (leAt m.data 4 4)

/-- Serve one request; an accepted update-restart acts after its response (R578). One that reads a locked granule waits for it, and the keeper with it
(R163). -/
def Hub.serve (h : Hub) (q : KReq) : Hub :=
  if h.readsLocked q.msg then { h with keeper := { h.keeper with waiting := q :: h.keeper.waiting } }
  else
  let r := h.handle q
  match r.1 with
  | none => r.2
  | some m =>
    let h := r.2.deliverResponse q m
    if q.msg.op = opWrite ∧ q.msg.index * 256 + q.msg.sub = Obj.updateRestart ∧ m.abort = 0 ∧ q.msg.data = [1] then h.updateRestart
    else h

/-- Whether the keeper executes: not in REST, nor with its clock gated (R531, R532). -/
def Hub.keeperRuns (h : Hub) : Bool := decide (h.mode < modeRest) && !h.keeper.gated

/-- Whether the recovery loader serves a path (R599). -/
def Hub.recoveryPath (h : Hub) : Path → Bool
  | .pcie => (h.num Obj.straps).testBit 8
  | .service => (h.num Obj.straps).testBit 9
  | _ => false

/-- A repeat of a request that still waits, or takes part in an election. -/
def Hub.waitingRepeat (h : Hub) (q : KReq) : Option Hub :=
  if (h.keeper.waiting ++ h.keeper.election).any (fun x => x.by_ == q.by_ && x.msg.token == q.msg.token) then
    some (h.count Obj.ringRepeats)
  else none

/-- A repeat of a request of a node (R435): one that was served last, or one that still waits. -/
def Hub.ringRepeat (h : Hub) (q : KReq) : Option Hub :=
  if q.by_.path ≠ Path.ring then none
  else
    match SMap.get (fun _ => none) h.keeper.ringLast q.by_.unit with
    | some (t, b) => if t = q.msg.token then some ((h.count Obj.ringRepeats).carry q 0 b) else h.waitingRepeat q
    | none => h.waitingRepeat q

/-- A request arrives at the keeper (R440, R443): it is served at once when none waits, else it waits; a further one than 32 ends with BUSY.
Its arrival runs the gated clock again (R532). Before the keeper is ready only the mailbox waits; a recovery loader serves its paths. -/
def Hub.arrive (h : Hub) (q : KReq) : Hub :=
  let q := { q with held := q.held || h.holdsStall q.by_ }
  let wait := fun (h : Hub) => { h with keeper := { h.keeper with waiting := h.keeper.waiting ++ [q], gated := false } }
  if h.time.cclk = false ∨ h.mode = modeDormant ∨ h.upd.halted = true then h
  else if h.upd.recovery then (if h.recoveryPath q.by_.path then h.serve q else h)
  else if h.keeper.ready = false then (if q.by_.path = Path.pcie ∧ h.keeper.waiting.length < 32 then wait h else h)
  else
    match h.ringRepeat q with
    | some h => h
    | none =>
      if 32 ≤ h.keeper.waiting.length then h.deliverResponse q (bare q.msg 9)
      else if h.keeper.waiting.isEmpty ∧ h.keeperRuns = true then h.serve q
      else wait h

/-- The keeper takes the request that waits longest (R440); in DOZE and NAP its clock is gated when there is none (R532). -/
def Hub.keeperTurn (h : Hub) : Hub :=
  if h.keeper.ready = false ∨ h.keeperRuns = false then h
  else
    match h.keeper.waiting with
    | q :: qs => ({ h with keeper := { h.keeper with waiting := qs } }).serve q
    | [] => if h.mode = modeDoze ∨ h.mode = modeNap then { h with keeper := { h.keeper with gated := true } } else h

/-- A request of the table's dictionary commands: it arrives on the requester's path. -/
def Hub.ask (h : Hub) (r : Requester) (m : DictMsg) : Hub := h.arrive { by_ := r, msg := m }

/-- A WRITE of an object by its key. -/
def writeMsg (token key : Nat) (data : List Byte) : DictMsg :=
  { op := opWrite, token := token, index := key / 256, sub := key % 256, data := data }

/-- A write of true to a write-only object by its key. -/
def Hub.askTrue (h : Hub) (r : Requester) (token key : Nat) : Hub := h.ask r (writeMsg token key [1])

/-! ### The mailbox -/

/-- Octets of the post SRAM that the request in the mailbox takes (R434). -/
def Hub.mailLength (h : Hub) : Nat :=
  let len := leNat (Memory.readN h.host.sram 0x10 2)
  8 + (if len ≤ 4072 then 16 + len else 16)

/-- The keeper copies the mailbox request (R434) and serves or forwards it; behind a lock its reads wait (R163). -/
def Hub.mailTake (h : Hub) : Hub :=
  let mem := h.host.sram
  let seq := leNat (Memory.readN mem 0 4)
  let target := (Memory.read mem 4).toNat
  let m := parseMsg (Memory.readN mem 8 (h.mailLength - 8))
  if h.sramLocked 0 h.mailLength then { h with keeper := { h.keeper with mboxBusy := true, mboxEarly := true } }
  else
  let h := { h with keeper := { h.keeper with mboxBusy := true, mboxEarly := false } }
  let q : KReq := { by_ := { path := .pcie }, msg := m, via := .mailbox seq target }
  if target = 0 ∨ (target = h.self ∧ h.self ≠ 0) then h.arrive q
  else if 64 < target then h.deliverResponse q (bare m 6)
  else if h.self = 0 ∨ h.memberOf target = false then h.deliverResponse q (bare m 8)
  else ({ h with keeper := { h.keeper with forward := some (target, m, seq, 0) } }).sendMgmt target (msgBytes m)

/-- A write of MBOX_DB (R213, R434, R440). -/
def Hub.mailPost (h : Hub) (path : RegPath) (v : Nat) : Hub :=
  if v.testBit 0 = false then h
  else if path ≠ .pcie then h.count Obj.mboxForeign
  else if h.keeper.mboxBusy then h.count Obj.mboxBusy
  else if h.time.cclk = false ∨ h.mode = modeDormant ∨ h.upd.halted = true then h
  else if h.upd.recovery then h.when (h.recoveryPath .pcie) Hub.mailTake
  else if h.keeper.ready then h.mailTake
  else { h with keeper := { h.keeper with mboxBusy := true, mboxEarly := true } }

/-- No answer to a forwarded request for 5 ms (R435): resent up to 4 times, then BUSY (R434). -/
def Hub.forwardRetry (h : Hub) : Hub :=
  match h.keeper.forward with
  | none => h
  | some (node, m, seq, n) =>
    if n < 4 then ({ h with keeper := { h.keeper with forward := some (node, m, seq, n + 1) } }).sendMgmt node (msgBytes m)
    else ({ h with keeper := { h.keeper with forward := none } }).deliverResponse
      { by_ := { path := .pcie }, msg := m, via := .mailbox seq node } (bare m 9)

/-! ### The ring -/

/-- A MGMT frame of class 6 arrives and crosses the core to port 17 (R93, R98, R176, R435): whether the keeper is to read it. -/
def Hub.mgmtIn (h : Hub) (west : Bool) (f : RingFrame) : Bool × Hub :=
  let r := h.receive west f
  if !r.1 || f.type != tMgmt || f.cls != 6 then (false, r.2)
  else if f.dst = broadcastId then (false, r.2.count Obj.broadcastDrops)
  else if r.2.self = 0 ∨ r.2.extracts f = false then (false, r.2)
  else r.2.crossCore (12 + portIx west) 17 f

/-- A dictionary request by ring. -/
def Hub.mgmtRequest (h : Hub) (west : Bool) (f : RingFrame) : Hub :=
  let r := h.mgmtIn west f
  if r.1 then
    let f := r.2.delivered f
    r.2.arrive { by_ := { path := .ring, unit := f.src }, msg := parseMsg f.payload, via := .ring, stamp := f.rxStamp }
  else r.2

/-- A dictionary response by ring: the answer to the forwarded request goes to the mailbox (R434). -/
def Hub.mgmtResponse (h : Hub) (west : Bool) (f : RingFrame) : Hub :=
  let r := h.mgmtIn west f
  let a := parseMsg f.payload
  match r.2.keeper.forward with
  | some (node, m, seq, _) =>
    if r.1 = true ∧ f.src = node ∧ a.op = m.op + 0x40 ∧ a.token = m.token then
      ({ r.2 with keeper := { r.2.keeper with forward := none } }).mailAnswer seq node a.abort f.payload
    else r.2
  | none => r.2

/-! ### The station -/

/-- A station request is discarded (R437): the cause is 1 HMAC, 2 counter, 3 empty slot, 4 version. -/
def Hub.authFailed (h : Hub) (slot cause ip : Nat) : Hub :=
  let h := h.count Obj.authFailures
  if h.dueAgain h.keeper.authAt (1000 * ticksPerMs) then
    ({ h with keeper := { h.keeper with authAt := h.now + 1 } }).noticeS N.dictAuthFailed fidDict [slot, cause, ip]
  else h

/-- Why an envelope is discarded (R437): 0 when it is accepted. -/
def Hub.envelopeCheck (h : Hub) (p : List Byte) : Nat :=
  let slot := byteAt p 1
  let key := SMap.get (fun _ => []) h.keeper.keys slot
  let body := p.take (p.length - 32)
  if byteAt p 0 ≠ 1 then 4
  else if 4 ≤ slot ∨ key = [] then 3
  else if p.length < 44 ∨ p.drop (p.length - 32) ≠ hmacOctets key body then 1
  else if leAt p 4 8 ≤ h.num (Obj.counter slot) then 2
  else 0

/-- A UDP request on the station ports (R436 to R438). -/
def Hub.stationRequest (h : Hub) (u : UdpRequest) : Hub :=
  if h.keeper.ready = false ∨ h.flag Obj.staAccessEnable = false ∨ u.dstIp.toNat ≠ beNat (h.oct Obj.staIpAddress)
      ∨ u.dstPort.toNat ≠ h.num Obj.dictUdpPort then h
  else
    let p := u.payload
    let slot := byteAt p 1
    let c := h.envelopeCheck p
    if c ≠ 0 then h.authFailed slot c u.srcIp.toNat
    else
      let counter := leAt p 4 8
      let r : Requester := { path := .station, unit := slot, ip := u.srcIp.toNat }
      let q : KReq := { by_ := r, msg := parseMsg (slice p 12 (p.length - 44)), via := .station u counter, held := h.holdsStall r }
      if SMap.get (fun _ => 0) h.keeper.ceilings slot < counter then
        ({ h with keeper := { h.keeper with ceiling := h.keeper.ceiling ++ [(q, slot)] } }).persist 64
      else (h.setNum (Obj.counter slot) counter).arrive q

/-- The store confirms, or does not, the oldest new ceiling (R438). A request is accepted then; one that its slot no longer accepts (a later counter
was accepted, or its key was written) is discarded as R437 says. -/
def Hub.ceilingPersisted (h : Hub) (ok : Bool) : Hub :=
  match h.keeper.ceiling with
  | [] => h
  | (q, slot) :: rest =>
    let h := { h with keeper := { h.keeper with ceiling := rest } }
    match q.via with
    | .station u counter =>
      let c := h.envelopeCheck u.payload
      if ok = true ∧ c ≠ 0 then h.authFailed slot c u.srcIp.toNat
      else if ok then
        let top := max (SMap.get (fun _ => 0) h.keeper.ceilings slot) (min (counter + 4096) (maxWord 64))
        (({ h with keeper := { h.keeper with ceilings := SMap.set (fun _ => 0) h.keeper.ceilings slot top } }).setNum
          (Obj.counter slot) counter).arrive q
      else h.count Obj.authFailures
    | _ => h

/-- An ARP request for sta-ip-address is answered (R436). -/
def Hub.arpAnswer (h : Hub) (mac : Nat) (tag : Option (BitVec 16)) (ip target : Nat) : Hub :=
  if h.keeper.ready = false ∨ h.flag Obj.staAccessEnable = false ∨ target ≠ beNat (h.oct Obj.staIpAddress) then h
  else
    let head := h.replyHeader mac tag 0x0806
    let own := slice head 6 6
    h.swRouted 17 (h.num Obj.staReplyRoute)
      (head ++ beBytes 2 1 ++ beBytes 2 0x0800 ++ [6, 4] ++ beBytes 2 2 ++ own ++ beBytes 4 target ++ beBytes 6 mac ++ beBytes 4 ip)

/-! ### Elections and lapses -/

/-- The rank of a request in an election (R442): whether the first beats the second, which arrived later. -/
def Hub.outranks (h : Hub) (a b : Requester) : Bool :=
  let wa := h.weight a.path
  let wb := h.weight b.path
  if wa ≠ wb then decide (wb < wa)
  else if stallPathCode a.path ≠ stallPathCode b.path then decide (stallPathCode a.path < stallPathCode b.path)
  else decide (a.unit ≤ b.unit)

/-- The winner of an election among the requests in order of arrival; a path of weight 0 never holds (R455). -/
def Hub.elect (h : Hub) : List KReq → Option Requester
  | [] => none
  | q :: qs =>
    let rest := h.elect qs
    if h.weight q.by_.path = 0 then rest
    else
      match rest with
      | none => some q.by_
      | some b => if h.outranks q.by_ b then some q.by_ else some b

/-- The answers of an election (R442). -/
def Hub.electionAnswers (h : Hub) (winner : Option Requester) : List KReq → Hub
  | [] => h
  | q :: qs =>
    let m := if winner = some q.by_ then h.leaseReply q.msg
      else if h.weight q.by_.path = 0 then bare q.msg 11
      else reply q.msg 10 h.holderId 0 []
    (h.deliverResponse q m).electionAnswers winner qs

/-- A STALL_REQUEST that waits in the keeper's queue has arrived, and takes part (R447). -/
def Hub.waitsForStall (h : Hub) (q : KReq) : Bool := q.msg.op == opStallRequest && h.entryCheck q.by_ q.msg == 0

/-- The requests that take part in the election (R442). -/
def Hub.candidates (h : Hub) : List KReq := h.keeper.election ++ h.keeper.waiting.filter h.waitsForStall

/-- The election window closes (R442). -/
def Hub.electionClose (h : Hub) : Hub :=
  if h.num Obj.stallState ≠ 1 then h
  else
    let qs := h.candidates
    let w := h.elect qs
    let h := { h with keeper := { h.keeper with election := [], waiting := h.keeper.waiting.filter (fun q => !h.waitsForStall q) } }
    let h := match w with
      | some r => (h.count Obj.elections).grantStall r 1
      | none => h.setNum Obj.stallState 0
    h.electionAnswers w qs

/-- The lease was restarted in this cycle. -/
def Hub.renewedNow (h : Hub) : Bool := h.keeper.leaseEnd == h.now + h.num Obj.leaseTime * ticksPerMs

/-- The lease lapses (R443); a request of the same cycle that has renewed it wins (R447). -/
def Hub.leaseLapse (h : Hub) : Hub :=
  if h.keeper.holder.isSome && !h.renewedNow then (h.vacateStall 3).count Obj.lapses else h

/-- A reservation lapses unclaimed (R444). -/
def Hub.reservationLapse (h : Hub) : Hub :=
  if h.num Obj.stallState ≠ 3 then h else ((h.setNum Obj.stallState 0).setNum Obj.reservedFor 0).stallNotice 0 0 3

/-! ### Mirror records -/

/-- Apply an object write of a mirror record: by the mirror path, without the stall (R400). -/
def Hub.mirrorObjectIn (h : Hub) (idx sub : Nat) (b : List Byte) : Hub :=
  match h.descOf idx sub with
  | some d => if d.acc = .rw ∨ d.acc = .rwb then (h.writeObject true idx sub d b).2 else h
  | none => h

/-- Deliver a queue packet of a mirror record: the queue must be D2H of kind PACKET, in either mode, ON, with room (R216, R400). -/
def Hub.mirrorPacketIn (h : Hub) (q : Nat) (b : List Byte) : Hub :=
  if q < 64 ∧ h.isD2H q = true ∧ h.isOn (fidQueue q) = true ∧ h.canTake q b.length = true then
    (h.putPacket q b false none 16 0).afterLevel q (h.qLevel q)
  else h.count Obj.mirrorDrops

/-- The mirror record at an offset of the area (R402). -/
def Hub.recordAt (h : Hub) (pos n : Nat) : List Byte := Memory.readN h.host.sram (h.num Obj.mirrorBase + pos) n

/-- A resynchronisation start at a unit that already follows its ACTIVE (R403): its host is told that mirrored queues have missed packets. The
record brings no cause: that argument is a free value of the three an ACTIVE can have (log entry 104). -/
def Hub.missedPackets (h : Hub) : Hub :=
  let cause : BitVec 32 := Config.free 32 h.freeCtr
  (h.nextFree.setNum Obj.mirrorState mirUnsynced).notice N.duplexMirrorUnsynced fidDuplex [1 + cause.toNat % 3]

/-- Apply the record at an offset. -/
def Hub.applyRecord (h : Hub) (pos : Nat) : Hub :=
  let r := h.recordAt pos 16
  let kind := byteAt r 0
  let len := leAt r 2 2
  let idx := leAt r 8 2
  let data := h.recordAt (pos + 16) len
  let next := (pos + 16 + (len + 7) / 8 * 8) % max 1 (h.num Obj.mirrorSize)
  if kind = 0 then { h with duplex := { h.duplex with mirRead := 0 } }
  else
    let follows := h.num Obj.mirrorSeqApplied != 0
    let h := ({ h with duplex := { h.duplex with mirRead := next } }).setNum Obj.mirrorSeqApplied (leAt r 4 4)
    if kind = 3 then h.when follows Hub.missedPackets
    else if kind = 1 then h.mirrorObjectIn idx (byteAt r 10) data
    else if kind = 2 then h.mirrorPacketIn idx data
    else h

/-- A record at an offset of the area stands in a locked granule (R163). -/
def Hub.recordLocked (h : Hub) (pos : Nat) : Bool :=
  h.sramLocked (h.num Obj.mirrorBase + pos) 16 || h.sramLocked (h.num Obj.mirrorBase + pos) (16 + leAt (h.recordAt pos 16) 2 2)

/-- A mirror record has arrived (R400, R402): the next in the area, or a resynchronisation start at its head. A unit that is not STANDBY
discards it; behind a lock the keeper waits to read it (R163). -/
def Hub.mirrorRecordIn (h : Hub) : Hub :=
  if h.num Obj.role ≠ roleStandby then h
  else if h.recordLocked h.duplex.mirRead || h.recordLocked 0 then { h with duplex := { h.duplex with mirWaits := h.duplex.mirWaits + 1 } }
  else
    let applied := h.num Obj.mirrorSeqApplied
    let r := h.recordAt h.duplex.mirRead 16
    let head := h.recordAt 0 16
    let kind := byteAt r 0
    let seq := leAt r 4 4
    if (kind = 0 ∧ seq = applied ∧ applied ≠ 0) ∨ (1 ≤ kind ∧ kind ≤ 2 ∧ seq = applied + 1 ∧ applied ≠ 0) then
      h.applyRecord h.duplex.mirRead
    else if byteAt head 0 = 3 ∧ leAt head 4 4 = 1 then h.applyRecord 0
    else h

/-! ### The keeper's start and turn -/

/-- KEEPER_READY, and the mailbox request posted before it (R440, R594). -/
def Hub.keeperReady (h : Hub) (us : Nat) : Hub :=
  let h := h.keeperStart us
  h.when (h.keeper.ready && h.keeper.mboxEarly) Hub.mailTake

/-- What waited for a locked granule is tried again (R163): the mailbox request that was posted, and the mirror records that have arrived. -/
def Hub.keeperReads (h : Hub) : Hub :=
  let h := h.when (h.keeper.mboxEarly && (h.keeper.ready || h.upd.recovery)) Hub.mailTake
  let n := h.duplex.mirWaits
  h.when (n != 0) (fun h => (List.range n).foldl (fun h _ => h.mirrorRecordIn) { h with duplex := { h.duplex with mirWaits := 0 } })

/-- One period of CCLK with no command (R38): the grants of the cycle that ends are answered (R163), the LTC advances, packets with ECHO of which no copy can leave complete (R357), updates of CAN buffers that found their bus idle are offered (R302), an INVALID phase clock acquires a listed source (R52), the keeper takes its next request, mirror records that are due leave,
and a transaction to the hub's own id is served. -/
def Hub.tick (h : Hub) : Hub :=
  if h.time.cclk = false then h
  else
    let h := h.answerLocks.markUsable
    let h := { h with time := { h.time with ltc := h.time.ltc + 1 } }
    h.settleEchoes.canOffers.acquireListed.keeperReads.keeperTurn.mirrorPump.bridgeLoop

end Sys2Proof.Machine
end

