-- ==== Sys2Proof/Machine/Requests.lean ====
section
/-!
DEFINITION. The commands the keeper serves: the operations of a requester (R427), the writes of write-only objects that have a command of
their own, which are served as a WRITE of true or of a value, and what arrives on the four paths.
-/
namespace Sys2Proof.Machine

/-- DICT_READ (R427). -/
def execDictRead (r : Requester) (token : Nat) (index : BitVec 16) (sub : BitVec 8) (s : State) : Host.Outcome State Fault Refusal :=
  s.answer (fun h => h.ask r { op := opRead, token := token, index := index.toNat, sub := sub.toNat })
/-- DICT_WRITE (R23, R427). -/
def execDictWrite (r : Requester) (token : Nat) (index : BitVec 16) (sub : BitVec 8) (data : List Byte) (s : State) : Host.Outcome State Fault Refusal :=
  s.answer (fun h => h.ask r { op := opWrite, token := token, index := index.toNat, sub := sub.toNat, data := data })
/-- SEG_START (R430, R432). -/
def execSegStart (r : Requester) (token : Nat) (index : BitVec 16) (sub : BitVec 8) (read : Bool) (total : BitVec 32) (s : State) : Host.Outcome State Fault Refusal :=
  s.answer (fun h => h.ask r { op := opSegStart, flags := 2 * b2n read, token := token, index := index.toNat, sub := sub.toNat, arg := total.toNat })
/-- SEG_DATA (R430, R431). -/
def execSegData (r : Requester) (token : Nat) (index : BitVec 16) (sub : BitVec 8) (offset : BitVec 32) (last : Bool) (data : List Byte) (s : State) : Host.Outcome State Fault Refusal :=
  s.answer (fun h => h.ask r { op := opSegData, flags := b2n last, token := token, index := index.toNat, sub := sub.toNat, arg := offset.toNat, data := data })
/-- SEG_ABORT (R432). -/
def execSegAbort (r : Requester) (token : Nat) (index : BitVec 16) (sub : BitVec 8) (s : State) : Host.Outcome State Fault Refusal :=
  s.answer (fun h => h.ask r { op := opSegAbort, token := token, index := index.toNat, sub := sub.toNat })
/-- STALL_REQUEST (R442). -/
def execStallRequest (r : Requester) (token : Nat) (s : State) : Host.Outcome State Fault Refusal :=
  s.answer (fun h => h.ask r { op := opStallRequest, token := token })
/-- KEEPALIVE (R443). -/
def execKeepalive (r : Requester) (token : Nat) (s : State) : Host.Outcome State Fault Refusal :=
  s.answer (fun h => h.ask r { op := opKeepalive, token := token })
/-- STALL_RELEASE (R444). -/
def execStallRelease (r : Requester) (token : Nat) (s : State) : Host.Outcome State Fault Refusal :=
  s.answer (fun h => h.ask r { op := opStallRelease, token := token })
/-- STALL_HANDOVER (R444). -/
def execStallHandover (r : Requester) (token : Nat) (target : BitVec 32) (s : State) : Host.Outcome State Fault Refusal :=
  s.answer (fun h => h.ask r { op := opStallHandover, token := token, arg := target.toNat })
/-- WHO (R427). -/
def execWho (r : Requester) (token : Nat) (s : State) : Host.Outcome State Fault Refusal :=
  s.answer (fun h => h.ask r { op := opWho, token := token })
/-- REG_READ (R428). -/
def execRegRead (r : Requester) (token : Nat) (offset : BitVec 32) (s : State) : Host.Outcome State Fault Refusal :=
  s.answer (fun h => h.ask r { op := opRegRead, token := token, arg := offset.toNat })
/-- REG_WRITE (R428). -/
def execRegWrite (r : Requester) (token : Nat) (offset : BitVec 32) (data : List Byte) (s : State) : Host.Outcome State Fault Refusal :=
  s.answer (fun h => h.ask r { op := opRegWrite, token := token, arg := offset.toNat, data := data })
/-- FRESET_OBJECT_WRITE (R492). -/
def execFresetObjectWrite (r : Requester) (token : Nat) (fid : BitVec 16) (s : State) : Host.Outcome State Fault Refusal :=
  s.answer (fun h => h.ask r (writeMsg token Obj.freset (leBytes 2 fid.toNat)))
/-- CLEAR_TALLIES (R477). -/
def execClearTallies (r : Requester) (token : Nat) (index : BitVec 16) (sub : BitVec 8) (s : State) : Host.Outcome State Fault Refusal :=
  s.answer (fun h => h.askTrue r token (index.toNat * 256 + sub.toNat))
/-- TRIGGER_DISARM_ALL (R69). -/
def execTriggerDisarmAll (r : Requester) (token : Nat) (s : State) : Host.Outcome State Fault Refusal :=
  s.answer (fun h => h.askTrue r token Obj.disarmAll)
/-- REJOIN (R125). -/
def execRejoin (r : Requester) (token : Nat) (s : State) : Host.Outcome State Fault Refusal :=
  s.answer (fun h => h.askTrue r token Obj.rejoin)
/-- CLEAR_FAULT_LOG (R167). -/
def execClearFaultLog (r : Requester) (token : Nat) (s : State) : Host.Outcome State Fault Refusal :=
  s.answer (fun h => h.askTrue r token Obj.clearFaultLog)
/-- FWD_COMMIT (R184). -/
def execFwdCommit (r : Requester) (token : Nat) (s : State) : Host.Outcome State Fault Refusal :=
  s.answer (fun h => h.askTrue r token Obj.commit)
/-- FWD_DISCARD (R184). -/
def execFwdDiscard (r : Requester) (token : Nat) (s : State) : Host.Outcome State Fault Refusal :=
  s.answer (fun h => h.askTrue r token Obj.discard)
/-- QUEUE_FLUSH (R232). -/
def execQueueFlush (r : Requester) (token : Nat) (q : Fin 64) (s : State) : Host.Outcome State Fault Refusal :=
  s.answer (fun h => h.askTrue r token (Obj.flush q.val))
/-- PULSE_COUNT_RESET (R284). -/
def execPulseCountReset (r : Requester) (token : Nat) (c : Fin 192) (s : State) : Host.Outcome State Fault Refusal :=
  s.answer (fun h => h.ask r (writeMsg token ((0x2000 + c.val) * 256 + 0x23) [1]))
/-- LS_REARM (R274). -/
def execLsRearm (r : Requester) (token : Nat) (c : Fin 192) (s : State) : Host.Outcome State Fault Refusal :=
  s.answer (fun h => h.askTrue r token (Obj.lsRearm c.val))
/-- LEDGER_RANGE_READ (R278). -/
def execLedgerRangeRead (r : Requester) (token : Nat) (s : State) : Host.Outcome State Fault Refusal :=
  s.answer (fun h => h.ask r { op := opRead, token := token, index := Obj.ledgerRange / 256, sub := Obj.ledgerRange % 256 })
/-- LEDGER_EXPORT_START (R279). -/
def execLedgerExportStart (r : Requester) (token : Nat) (from_ : BitVec 32) (s : State) : Host.Outcome State Fault Refusal :=
  s.answer (fun h => h.ask r (writeMsg token Obj.exportFrom (leBytes 4 from_.toNat)))
/-- LEDGER_CLEAR (R287). -/
def execLedgerClear (r : Requester) (token : Nat) (s : State) : Host.Outcome State Fault Refusal :=
  s.answer (fun h => h.askTrue r token Obj.clearLedger)
/-- CAN_BUS_OFF_RESTART (R300). -/
def execCanBusOffRestart (r : Requester) (token : Nat) (n : Fin 48) (s : State) : Host.Outcome State Fault Refusal :=
  s.answer (fun h => h.askTrue r token (Obj.busOffRestart n.val))
/-- CAN_MATRIX_STOP (R311). -/
def execCanMatrixStop (r : Requester) (token : Nat) (n : Fin 48) (s : State) : Host.Outcome State Fault Refusal :=
  s.answer (fun h => h.askTrue r token (Obj.matrixStop n.val))
/-- DUP_SWAP (R410). -/
def execDupSwap (r : Requester) (token : Nat) (s : State) : Host.Outcome State Fault Refusal :=
  s.answer (fun h => h.askTrue r token Obj.dupSwap)
/-- DUP_REJOIN (R391). -/
def execDupRejoin (r : Requester) (token : Nat) (s : State) : Host.Outcome State Fault Refusal :=
  s.answer (fun h => h.askTrue r token Obj.dupRejoin)
/-- DUP_CLAIM_CLEAR (R418). -/
def execDupClaimClear (r : Requester) (token : Nat) (s : State) : Host.Outcome State Fault Refusal :=
  s.answer (fun h => h.askTrue r token Obj.dupClaimClear)
/-- CLAIM_RESET (R420). -/
def execClaimReset (r : Requester) (token : Nat) (group : BitVec 8) (s : State) : Host.Outcome State Fault Refusal :=
  s.answer (fun h => h.ask r (writeMsg token Obj.claimReset [group]))
/-- MGMT_DICT_REQUEST_RX (R435). -/
def execMgmtDictRequestRx (west : Bool) (f : RingFrame) (s : State) : Host.Outcome State Fault Refusal :=
  s.answer (fun h => h.mgmtRequest west f)
/-- MGMT_DICT_RESPONSE_RX (R435, R434). -/
def execMgmtDictResponseRx (west : Bool) (f : RingFrame) (s : State) : Host.Outcome State Fault Refusal :=
  s.answer (fun h => h.mgmtResponse west f)
/-- MGMT_FORWARD_RETRY (R435). -/
def execMgmtForwardRetry (s : State) : Host.Outcome State Fault Refusal := s.answer (fun h => h.forwardRetry)
/-- MIRROR_RECORD_RX (R400). -/
def execMirrorRecordRx (s : State) : Host.Outcome State Fault Refusal := s.answer (fun h => h.mirrorRecordIn)
/-- MBOX_POST (R434). -/
def execMboxPost (path : RegPath) (value : BitVec 32) (s : State) : Host.Outcome State Fault Refusal :=
  s.answer (fun h => h.mailPost path value.toNat)
/-- STATION_DICT_REQUEST (R437). -/
def execStationDictRequest (q : UdpRequest) (s : State) : Host.Outcome State Fault Refusal := s.answer (fun h => h.stationRequest q)
/-- ARP_REQUEST_RX (R436). -/
def execArpRequestRx (mac : BitVec 48) (tag : Option (BitVec 16)) (ip target : BitVec 32) (s : State) : Host.Outcome State Fault Refusal :=
  s.answer (fun h => h.arpAnswer mac.toNat tag ip.toNat target.toNat)
/-- KEY_CEILING_PERSISTED (R438). -/
def execKeyCeilingPersisted (ok : Bool) (s : State) : Host.Outcome State Fault Refusal := s.answer (fun h => h.ceilingPersisted ok)
/-- KEY_WRITE (R438). -/
def execKeyWrite (r : Requester) (token : Nat) (slot : Fin 4) (key : List Byte) (s : State) : Host.Outcome State Fault Refusal :=
  s.answer (fun h => h.ask r (writeMsg token (Obj.key slot.val) key))
/-- SERVICE_DICT_REQUEST (R439). -/
def execServiceDictRequest (m : DictMsg) (s : State) : Host.Outcome State Fault Refusal :=
  s.answer (fun h => h.arrive { by_ := { path := .service }, msg := m, via := .service })
/-- STALL_ELECTION_CLOSE (R442). -/
def execStallElectionClose (s : State) : Host.Outcome State Fault Refusal := s.answer (fun h => h.electionClose)
/-- STALL_LEASE_LAPSE (R443). -/
def execStallLeaseLapse (s : State) : Host.Outcome State Fault Refusal := s.answer (fun h => h.leaseLapse)
/-- STALL_RESERVATION_LAPSE (R444). -/
def execStallReservationLapse (s : State) : Host.Outcome State Fault Refusal := s.answer (fun h => h.reservationLapse)
/-- STALL_PATH_GONE (R445). -/
def execStallPathGone (s : State) : Host.Outcome State Fault Refusal := s.answer (fun h => h.stallPathGone (fun _ => true))
/-- SEG_SESSION_TIMEOUT (R432). -/
def execSegSessionTimeout (r : Requester) (s : State) : Host.Outcome State Fault Refusal := s.answer (fun h => h.closeSession r)
/-- SAVE_CONFIG (R454, R452). -/
def execSaveConfig (r : Requester) (token : Nat) (s : State) : Host.Outcome State Fault Refusal :=
  s.answer (fun h => h.askTrue r token Obj.saveConfig)
/-- RESTORE_DEFAULTS (R454). -/
def execRestoreDefaults (r : Requester) (token : Nat) (s : State) : Host.Outcome State Fault Refusal :=
  s.answer (fun h => h.askTrue r token Obj.restoreDefaults)
/-- SCAN_STOP (R468). -/
def execScanStop (r : Requester) (token : Nat) (e : Fin 3) (s : State) : Host.Outcome State Fault Refusal :=
  s.answer (fun h => h.askTrue r token (Obj.scanStop e.val))
/-- FAULT_TEST (R501). -/
def execFaultTest (r : Requester) (token : Nat) (s : State) : Host.Outcome State Fault Refusal :=
  s.answer (fun h => h.askTrue r token Obj.faultTest)
/-- FAULT_RECORD_CLEAR (R500). -/
def execFaultRecordClear (r : Requester) (token : Nat) (s : State) : Host.Outcome State Fault Refusal :=
  s.answer (fun h => h.askTrue r token Obj.faultRecordClear)
/-- FET_FAULT_CLEAR (R510). -/
def execFetFaultClear (r : Requester) (token : Nat) (s : State) : Host.Outcome State Fault Refusal :=
  s.answer (fun h => h.askTrue r token Obj.fetFaultClear)
/-- PWR_MODE_REQUEST (R536). -/
def execPwrModeRequest (r : Requester) (token : Nat) (mode : BitVec 8) (s : State) : Host.Outcome State Fault Refusal :=
  s.answer (fun h => h.ask r (writeMsg token Obj.pwrModeRequest [mode]))
/-- EAVES_RELEASE (R545). -/
def execEavesRelease (r : Requester) (token : Nat) (domains : BitVec 16) (s : State) : Host.Outcome State Fault Refusal :=
  s.answer (fun h => h.ask r (writeMsg token Obj.eavesRelease (leBytes 2 domains.toNat)))
/-- WINDOW_COMMIT (R576). -/
def execWindowCommit (r : Requester) (token : Nat) (offset length : BitVec 32) (s : State) : Host.Outcome State Fault Refusal :=
  s.answer (fun h => h.ask r (writeMsg token Obj.windowCommit (leBytes 4 offset.toNat ++ leBytes 4 length.toNat)))
/-- STAGING_VERIFY (R577). -/
def execStagingVerify (r : Requester) (token : Nat) (s : State) : Host.Outcome State Fault Refusal :=
  s.answer (fun h => h.askTrue r token Obj.stagingVerify)
/-- STAGING_ERASE (R577). -/
def execStagingErase (r : Requester) (token : Nat) (s : State) : Host.Outcome State Fault Refusal :=
  s.answer (fun h => h.askTrue r token Obj.stagingErase)
/-- UPDATE_ARM (R577). -/
def execUpdateArm (r : Requester) (token : Nat) (s : State) : Host.Outcome State Fault Refusal :=
  s.answer (fun h => h.askTrue r token Obj.updateArm)
/-- UPDATE_DISARM (R577). -/
def execUpdateDisarm (r : Requester) (token : Nat) (s : State) : Host.Outcome State Fault Refusal :=
  s.answer (fun h => h.askTrue r token Obj.updateDisarm)
/-- UPDATE_RESTART (R578). -/
def execUpdateRestart (r : Requester) (token : Nat) (s : State) : Host.Outcome State Fault Refusal :=
  s.answer (fun h => h.askTrue r token Obj.updateRestart)
/-- UPDATE_CONFIRM (R583). -/
def execUpdateConfirm (r : Requester) (token : Nat) (s : State) : Host.Outcome State Fault Refusal :=
  s.answer (fun h => h.askTrue r token Obj.updateConfirm)
/-- FALLBACK_PART (R584). -/
def execFallbackPart (r : Requester) (token : Nat) (part : BitVec 8) (s : State) : Host.Outcome State Fault Refusal :=
  s.answer (fun h => h.ask r (writeMsg token Obj.fallbackPart [part]))
/-- KEY_REVOKE (R574). -/
def execKeyRevoke (r : Requester) (token : Nat) (slot : BitVec 8) (s : State) : Host.Outcome State Fault Refusal :=
  s.answer (fun h => h.ask r (writeMsg token Obj.keyRevoke [slot]))
/-- KEEPER_READY (R594). -/
def execKeeperReady (us : BitVec 32) (s : State) : Host.Outcome State Fault Refusal := s.answer (fun h => h.keeperReady us.toNat)

end Sys2Proof.Machine
end

