-- ==== Sys2Proof/Machine/Dispatch.lean ====
section
/-!
DEFINITION. The meaning of every command, one arm each. What a command does to everything but the queue of waiting commands is its meaning.
-/
namespace Sys2Proof.Machine

def exec (i : Instr) (s : State) : Host.Outcome State Fault Refusal :=
  match i with
  | .dictRead r token index sub => Sys2Proof.Machine.execDictRead r token index sub s
  | .dictWrite r token index sub data => Sys2Proof.Machine.execDictWrite r token index sub data s
  | .segStart r token index sub read total => Sys2Proof.Machine.execSegStart r token index sub read total s
  | .segData r token index sub offset last data => Sys2Proof.Machine.execSegData r token index sub offset last data s
  | .segAbort r token index sub => Sys2Proof.Machine.execSegAbort r token index sub s
  | .stallRequest r token => Sys2Proof.Machine.execStallRequest r token s
  | .keepalive r token => Sys2Proof.Machine.execKeepalive r token s
  | .stallRelease r token => Sys2Proof.Machine.execStallRelease r token s
  | .stallHandover r token target => Sys2Proof.Machine.execStallHandover r token target s
  | .who r token => Sys2Proof.Machine.execWho r token s
  | .regRead r token offset => Sys2Proof.Machine.execRegRead r token offset s
  | .regWrite r token offset data => Sys2Proof.Machine.execRegWrite r token offset data s
  | .rwbBoundaryApply index sub => Sys2Proof.Machine.execRwbBoundaryApply index sub s
  | .functionStartComplete fid bank => Sys2Proof.Machine.execFunctionStartComplete fid bank s
  | .functionDrainComplete fid => Sys2Proof.Machine.execFunctionDrainComplete fid s
  | .drainLimitExpired fid => Sys2Proof.Machine.execDrainLimitExpired fid s
  | .freset path fid => Sys2Proof.Machine.execFreset path fid s
  | .fresetObjectWrite r token fid => Sys2Proof.Machine.execFresetObjectWrite r token fid s
  | .functionResetAbortDone fid => Sys2Proof.Machine.execFunctionResetAbortDone fid s
  | .registerWriteOther path offset value west f => Sys2Proof.Machine.execRegisterWriteOther path offset value west f s
  | .clearTallies r token index sub => Sys2Proof.Machine.execClearTallies r token index sub s
  | .timeSourceQualified src offset rate utc => Sys2Proof.Machine.execTimeSourceQualified src offset rate utc s
  | .timeSourceLossDeclared src offset rate utc => Sys2Proof.Machine.execTimeSourceLossDeclared src offset rate utc s
  | .timeMapUpdate rate => Sys2Proof.Machine.execTimeMapUpdate rate s
  | .phcSourcePresent src => Sys2Proof.Machine.execPhcSourcePresent src s
  | .phcSourceLoss src => Sys2Proof.Machine.execPhcSourceLoss src s
  | .phcLockAchieved fraction freq => Sys2Proof.Machine.execPhcLockAchieved fraction freq s
  | .phcAlignSlowDone => Sys2Proof.Machine.execPhcAlignSlowDone s
  | .phcRealign fraction freq => Sys2Proof.Machine.execPhcRealign fraction freq s
  | .phcCoastLimitExpired => Sys2Proof.Machine.execPhcCoastLimitExpired s
  | .phaseFrameSend => Sys2Proof.Machine.execPhaseFrameSend s
  | .mainsZeroCrossing freq amplitude => Sys2Proof.Machine.execMainsZeroCrossing freq amplitude s
  | .controlCycleBoundary => Sys2Proof.Machine.execControlCycleBoundary s
  | .triggerCommit t => Sys2Proof.Machine.execTriggerCommit t s
  | .triggerFireNone t => Sys2Proof.Machine.execTriggerFireNone t s
  | .triggerFireOutput t => Sys2Proof.Machine.execTriggerFireOutput t s
  | .triggerFireCstart t => Sys2Proof.Machine.execTriggerFireCstart t s
  | .triggerFireSeqEvent t => Sys2Proof.Machine.execTriggerFireSeqEvent t s
  | .triggerFireCcNotice t => Sys2Proof.Machine.execTriggerFireCcNotice t s
  | .triggerFireCanStart t => Sys2Proof.Machine.execTriggerFireCanStart t s
  | .triggerFireToutEdge t => Sys2Proof.Machine.execTriggerFireToutEdge t s
  | .triggerFireLtcCapture t => Sys2Proof.Machine.execTriggerFireLtcCapture t s
  | .triggerInstantPassed t => Sys2Proof.Machine.execTriggerInstantPassed t s
  | .triggerDisarmAll r token => Sys2Proof.Machine.execTriggerDisarmAll r token s
  | .snap path => Sys2Proof.Machine.execSnap path s
  | .tcapEdge pin rising frac => Sys2Proof.Machine.execTcapEdge pin rising frac s
  | .tcapHeadRead path pin => Sys2Proof.Machine.execTcapHeadRead path pin s
  | .ltcNowRead path => Sys2Proof.Machine.execLtcNowRead path s
  | .toutTimedEdge pin rising => Sys2Proof.Machine.execToutTimedEdge pin rising s
  | .ringLinkQualified west => Sys2Proof.Machine.execRingLinkQualified west s
  | .ringBlockLockGained west => Sys2Proof.Machine.execRingBlockLockGained west s
  | .ringLockLoss loss => Sys2Proof.Machine.execRingLockLoss loss s
  | .remoteFaultRx west => Sys2Proof.Machine.execRemoteFaultRx west s
  | .ridgePass west f => Sys2Proof.Machine.execRidgePass west f s
  | .ringBodyTimeout west f => Sys2Proof.Machine.execRingBodyTimeout west f s
  | .ringOrphanBlocks west bytes => Sys2Proof.Machine.execRingOrphanBlocks west bytes s
  | .bcnRx west f => Sys2Proof.Machine.execBcnRx west f s
  | .brkRx west f => Sys2Proof.Machine.execBrkRx west f s
  | .joinListenExpired => Sys2Proof.Machine.execJoinListenExpired s
  | .joinReqRx west f => Sys2Proof.Machine.execJoinReqRx west f s
  | .joinAckRx west f => Sys2Proof.Machine.execJoinAckRx west f s
  | .joinRefuseRx west f => Sys2Proof.Machine.execJoinRefuseRx west f s
  | .joinAnswerTimeout => Sys2Proof.Machine.execJoinAnswerTimeout s
  | .leaveRx west f => Sys2Proof.Machine.execLeaveRx west f s
  | .helloRx west f => Sys2Proof.Machine.execHelloRx west f s
  | .rejoin r token => Sys2Proof.Machine.execRejoin r token s
  | .bcnSend => Sys2Proof.Machine.execBcnSend s
  | .beaconMissed => Sys2Proof.Machine.execBeaconMissed s
  | .stewardRankWaitExpired => Sys2Proof.Machine.execStewardRankWaitExpired s
  | .helloSend => Sys2Proof.Machine.execHelloSend s
  | .insertionCreditPeriod west => Sys2Proof.Machine.execInsertionCreditPeriod west s
  | .class01TokenRefill west => Sys2Proof.Machine.execClass01TokenRefill west s
  | .ringTxFrameDone west => Sys2Proof.Machine.execRingTxFrameDone west s
  | .linkDelayMeasure west => Sys2Proof.Machine.execLinkDelayMeasure west s
  | .timeSyncSend => Sys2Proof.Machine.execTimeSyncSend s
  | .timeSyncRx west f => Sys2Proof.Machine.execTimeSyncRx west f s
  | .delayReqRx west f => Sys2Proof.Machine.execDelayReqRx west f s
  | .delayRespRx west f => Sys2Proof.Machine.execDelayRespRx west f s
  | .phaseRx west f => Sys2Proof.Machine.execPhaseRx west f s
  | .seqWindowAgeExpired src cls => Sys2Proof.Machine.execSeqWindowAgeExpired src cls s
  | .dataRx west f => Sys2Proof.Machine.execDataRx west f s
  | .ringWakeRx west f => Sys2Proof.Machine.execRingWakeRx west f s
  | .cmdRx west f => Sys2Proof.Machine.execCmdRx west f s
  | .mgmtDictRequestRx west f => Sys2Proof.Machine.execMgmtDictRequestRx west f s
  | .mgmtDictResponseRx west f => Sys2Proof.Machine.execMgmtDictResponseRx west f s
  | .mgmtForwardRetry => Sys2Proof.Machine.execMgmtForwardRetry s
  | .hostWindowRead bar offset len whole => Sys2Proof.Machine.execHostWindowRead bar offset len whole s
  | .hostWindowWrite bar offset data mark => Sys2Proof.Machine.execHostWindowWrite bar offset data mark s
  | .hostAtomicop bar offset wide kind operand compare => Sys2Proof.Machine.execHostAtomicop bar offset wide kind operand compare s
  | .rdRx west f => Sys2Proof.Machine.execRdRx west f s
  | .rdrRx west f => Sys2Proof.Machine.execRdrRx west f s
  | .rdxRx west f => Sys2Proof.Machine.execRdxRx west f s
  | .rdRetryIntervalExpired tag => Sys2Proof.Machine.execRdRetryIntervalExpired tag s
  | .rdResponseTimeout tag => Sys2Proof.Machine.execRdResponseTimeout tag s
  | .apertureFetchComplete retry r data => Sys2Proof.Machine.execApertureFetchComplete retry r data s
  | .fetchHoldExpired retry => Sys2Proof.Machine.execFetchHoldExpired retry s
  | .readBudgetExpired tag => Sys2Proof.Machine.execReadBudgetExpired tag s
  | .wrpRx west f => Sys2Proof.Machine.execWrpRx west f s
  | .wrnRx west f => Sys2Proof.Machine.execWrnRx west f s
  | .apertureFlushReadDone => Sys2Proof.Machine.execApertureFlushReadDone s
  | .wackRx west f => Sys2Proof.Machine.execWackRx west f s
  | .wnakRx west f => Sys2Proof.Machine.execWnakRx west f s
  | .lkrdRx west f => Sys2Proof.Machine.execLkrdRx west f s
  | .lkrtRx west f => Sys2Proof.Machine.execLkrtRx west f s
  | .lockRetryWaitExpired => Sys2Proof.Machine.execLockRetryWaitExpired s
  | .wrulRx west f => Sys2Proof.Machine.execWrulRx west f s
  | .lockWatchdogExpired addr => Sys2Proof.Machine.execLockWatchdogExpired addr s
  | .fenceW path w => Sys2Proof.Machine.execFenceW path w s
  | .fenceAll path => Sys2Proof.Machine.execFenceAll path s
  | .fenceTimeout of_ => Sys2Proof.Machine.execFenceTimeout of_ s
  | .clearFaultLog r token => Sys2Proof.Machine.execClearFaultLog r token s
  | .switchFrameIn port => Sys2Proof.Machine.execSwitchFrameIn port s
  | .switchFrameOutDone port ecc cell => Sys2Proof.Machine.execSwitchFrameOutDone port ecc cell s
  | .ctStallExpired port => Sys2Proof.Machine.execCtStallExpired port s
  | .switchCellTime => Sys2Proof.Machine.execSwitchCellTime s
  | .fwdCommit r token => Sys2Proof.Machine.execFwdCommit r token s
  | .fwdDiscard r token => Sys2Proof.Machine.execFwdDiscard r token s
  | .queueDoorbell path q pidx => Sys2Proof.Machine.execQueueDoorbell path q pidx s
  | .descriptorFetchDone q r data => Sys2Proof.Machine.execDescriptorFetchDone q r data s
  | .h2dDataReadDone q r data => Sys2Proof.Machine.execH2dDataReadDone q r data s
  | .qportWrite path q item unit8 => Sys2Proof.Machine.execQportWrite path q item unit8 s
  | .qportRead path q unit8 => Sys2Proof.Machine.execQportRead path q unit8 s
  | .creditSync path q => Sys2Proof.Machine.execCreditSync path q s
  | .creditHoldoffExpired q => Sys2Proof.Machine.execCreditHoldoffExpired q s
  | .queueFlush r token q => Sys2Proof.Machine.execQueueFlush r token q s
  | .queueFlushComplete q => Sys2Proof.Machine.execQueueFlushComplete q s
  | .qackClear path q mask => Sys2Proof.Machine.execQackClear path q mask s
  | .noticePendClear path mask => Sys2Proof.Machine.execNoticePendClear path mask s
  | .irqHoldoffExpired q => Sys2Proof.Machine.execIrqHoldoffExpired q s
  | .pcieFunctionReset => Sys2Proof.Machine.execPcieFunctionReset s
  | .busMasterEnableChange on => Sys2Proof.Machine.execBusMasterEnableChange on s
  | .msixUnmask enable functionMask masked => Sys2Proof.Machine.execMsixUnmask enable functionMask masked s
  | .pcieCompletionTimeout queue id => Sys2Proof.Machine.execPcieCompletionTimeout queue id s
  | .uartCharRx c char start parityErr framingErr => Sys2Proof.Machine.execUartCharRx c char start parityErr framingErr s
  | .uartGapExpired c => Sys2Proof.Machine.execUartGapExpired c s
  | .uartBreak c => Sys2Proof.Machine.execUartBreak c s
  | .uartTxPacket c => Sys2Proof.Machine.execUartTxPacket c s
  | .uartTxPacketSent c => Sys2Proof.Machine.execUartTxPacketSent c s
  | .binEdge c level => Sys2Proof.Machine.execBinEdge c level s
  | .binDebounceExpired c => Sys2Proof.Machine.execBinDebounceExpired c s
  | .chatterQuietExpired c => Sys2Proof.Machine.execChatterQuietExpired c s
  | .wetPulseEnd c => Sys2Proof.Machine.execWetPulseEnd c s
  | .boutCmdOpen c => Sys2Proof.Machine.execBoutCmdOpen c s
  | .boutCmdClose c => Sys2Proof.Machine.execBoutCmdClose c s
  | .boutCmdPulse c => Sys2Proof.Machine.execBoutCmdPulse c s
  | .boutCmdSafe c => Sys2Proof.Machine.execBoutCmdSafe c s
  | .boutPulseEnd c => Sys2Proof.Machine.execBoutPulseEnd c s
  | .boutAngleInstant c => Sys2Proof.Machine.execBoutAngleInstant c s
  | .claimHoldExpired c => Sys2Proof.Machine.execClaimHoldExpired c s
  | .boutReadbackChange c coil level => Sys2Proof.Machine.execBoutReadbackChange c coil level s
  | .readbackWindowExpired c coil => Sys2Proof.Machine.execReadbackWindowExpired c coil s
  | .pulseEdge c rising => Sys2Proof.Machine.execPulseEdge c rising s
  | .pulseGateEnd c => Sys2Proof.Machine.execPulseGateEnd c s
  | .pulseCountReset r token c => Sys2Proof.Machine.execPulseCountReset r token c s
  | .tcodeFrameRx c f => Sys2Proof.Machine.execTcodeFrameRx c f s
  | .tcodeOutputEdge c rising => Sys2Proof.Machine.execTcodeOutputEdge c rising s
  | .cstartPulseEnd c => Sys2Proof.Machine.execCstartPulseEnd c s
  | .lsSample c code quiet => Sys2Proof.Machine.execLsSample c code quiet s
  | .lsDiagnosisCycleEnd c => Sys2Proof.Machine.execLsDiagnosisCycleEnd c s
  | .lsRearm r token c => Sys2Proof.Machine.execLsRearm r token c s
  | .ledgerMirrorBatch => Sys2Proof.Machine.execLedgerMirrorBatch s
  | .ledgerMirrorIntervalExpired => Sys2Proof.Machine.execLedgerMirrorIntervalExpired s
  | .ledgerFlush => Sys2Proof.Machine.execLedgerFlush s
  | .ledgerRangeRead r token => Sys2Proof.Machine.execLedgerRangeRead r token s
  | .ledgerExportStart r token from_ => Sys2Proof.Machine.execLedgerExportStart r token from_ s
  | .ledgerClear r token => Sys2Proof.Machine.execLedgerClear r token s
  | .canIntegrated n => Sys2Proof.Machine.execCanIntegrated n s
  | .canFrameRx n f start => Sys2Proof.Machine.execCanFrameRx n f start s
  | .canErrorFrame n error dataPhase start special runs => Sys2Proof.Machine.execCanErrorFrame n error dataPhase start special runs s
  | .canOverloadFrame n start => Sys2Proof.Machine.execCanOverloadFrame n start s
  | .canBusOffRecovery n => Sys2Proof.Machine.execCanBusOffRecovery n s
  | .canBusOffRestart r token n => Sys2Proof.Machine.execCanBusOffRestart r token n s
  | .canDominantTimeout n => Sys2Proof.Machine.execCanDominantTimeout n s
  | .canStuckReleased n => Sys2Proof.Machine.execCanStuckReleased n s
  | .canTxUpdate n idle => Sys2Proof.Machine.execCanTxUpdate n idle s
  | .canBasicCycleStart n => Sys2Proof.Machine.execCanBasicCycleStart n s
  | .canFlashingEnd n pitch idle => Sys2Proof.Machine.execCanFlashingEnd n pitch idle s
  | .canLatestStartPassed n => Sys2Proof.Machine.execCanLatestStartPassed n s
  | .canTxEnd n => Sys2Proof.Machine.execCanTxEnd n s
  | .canArbitrationLost n => Sys2Proof.Machine.execCanArbitrationLost n s
  | .canFreeWindowStart n pitch idle => Sys2Proof.Machine.execCanFreeWindowStart n pitch idle s
  | .canRefMissed n => Sys2Proof.Machine.execCanRefMissed n s
  | .canMatrixStop r token n => Sys2Proof.Machine.execCanMatrixStop r token n s
  | .seqNop q => Sys2Proof.Machine.execSeqNop q s
  | .seqDrive q => Sys2Proof.Machine.execSeqDrive q s
  | .seqSample q pads => Sys2Proof.Machine.execSeqSample q pads s
  | .seqEmit q => Sys2Proof.Machine.execSeqEmit q s
  | .seqLoadB q => Sys2Proof.Machine.execSeqLoadB q s
  | .seqLoadNb q => Sys2Proof.Machine.execSeqLoadNb q s
  | .seqStoreB q => Sys2Proof.Machine.execSeqStoreB q s
  | .seqStoreNb q => Sys2Proof.Machine.execSeqStoreNb q s
  | .seqCountImm q => Sys2Proof.Machine.execSeqCountImm q s
  | .seqCountReload q => Sys2Proof.Machine.execSeqCountReload q s
  | .seqCountShifter q => Sys2Proof.Machine.execSeqCountShifter q s
  | .seqCountDec q => Sys2Proof.Machine.execSeqCountDec q s
  | .seqFlagSet q => Sys2Proof.Machine.execSeqFlagSet q s
  | .seqFlagClear q => Sys2Proof.Machine.execSeqFlagClear q s
  | .seqFlagSignal q => Sys2Proof.Machine.execSeqFlagSignal q s
  | .seqFlagBroadcast q => Sys2Proof.Machine.execSeqFlagBroadcast q s
  | .seqHold q => Sys2Proof.Machine.execSeqHold q s
  | .seqHoldRelease q rising => Sys2Proof.Machine.execSeqHoldRelease q rising s
  | .seqBranchZero q => Sys2Proof.Machine.execSeqBranchZero q s
  | .seqBranchDecNz q => Sys2Proof.Machine.execSeqBranchDecNz q s
  | .seqBranchPinHigh q pad => Sys2Proof.Machine.execSeqBranchPinHigh q pad s
  | .seqBranchPinLow q pad => Sys2Proof.Machine.execSeqBranchPinLow q pad s
  | .seqBranchShifter q => Sys2Proof.Machine.execSeqBranchShifter q s
  | .seqBranchFlag q => Sys2Proof.Machine.execSeqBranchFlag q s
  | .seqStallEnd q => Sys2Proof.Machine.execSeqStallEnd q s
  | .seqGo path go => Sys2Proof.Machine.execSeqGo path go s
  | .seqflagWrite path q set_ => Sys2Proof.Machine.execSeqflagWrite path q set_ s
  | .seqWatchdogExpired q => Sys2Proof.Machine.execSeqWatchdogExpired q s
  | .seqRxGapExpired q => Sys2Proof.Machine.execSeqRxGapExpired q s
  | .seqTxPacket q => Sys2Proof.Machine.execSeqTxPacket q s
  | .staFrameRx b frame start fcsOk => Sys2Proof.Machine.execStaFrameRx b frame start fcsOk s
  | .ptpMessageRx b frame start => Sys2Proof.Machine.execPtpMessageRx b frame start s
  | .prpSupervisionRx b frame start => Sys2Proof.Machine.execPrpSupervisionRx b frame start s
  | .staTxPacket b => Sys2Proof.Machine.execStaTxPacket b s
  | .staFrameDeparted b start => Sys2Proof.Machine.execStaFrameDeparted b start s
  | .prpSupervisionSend => Sys2Proof.Machine.execPrpSupervisionSend s
  | .nodeTableAgeOut mac => Sys2Proof.Machine.execNodeTableAgeOut mac s
  | .duplicateEntryForget src seq => Sys2Proof.Machine.execDuplicateEntryForget src seq s
  | .lanSilentTimeout b => Sys2Proof.Machine.execLanSilentTimeout b s
  | .staLinkGained b => Sys2Proof.Machine.execStaLinkGained b s
  | .staLinkLoss b => Sys2Proof.Machine.execStaLinkLoss b s
  | .ptpMessageInterval b kind => Sys2Proof.Machine.execPtpMessageInterval b kind s
  | .ptpAnnounceTimeout b => Sys2Proof.Machine.execPtpAnnounceTimeout b s
  | .gooseLedgerRecord => Sys2Proof.Machine.execGooseLedgerRecord s
  | .gooseHostValueRecord => Sys2Proof.Machine.execGooseHostValueRecord s
  | .gooseRetransmit g => Sys2Proof.Machine.execGooseRetransmit g s
  | .gooseSubFrameRx => Sys2Proof.Machine.execGooseSubFrameRx s
  | .gooseSubTalExpired u => Sys2Proof.Machine.execGooseSubTalExpired u s
  | .gooseSubFirstWaitExpired u => Sys2Proof.Machine.execGooseSubFirstWaitExpired u s
  | .heartbeatRx west f => Sys2Proof.Machine.execHeartbeatRx west f s
  | .swapRequestRx west f => Sys2Proof.Machine.execSwapRequestRx west f s
  | .swapPrepareRx west f => Sys2Proof.Machine.execSwapPrepareRx west f s
  | .swapAckRx west f => Sys2Proof.Machine.execSwapAckRx west f s
  | .swapHandoverRx west f => Sys2Proof.Machine.execSwapHandoverRx west f s
  | .swapAbortRx west f => Sys2Proof.Machine.execSwapAbortRx west f s
  | .swapRefuseRx west f => Sys2Proof.Machine.execSwapRefuseRx west f s
  | .duplexListenExpired => Sys2Proof.Machine.execDuplexListenExpired s
  | .duplexContendExpired => Sys2Proof.Machine.execDuplexContendExpired s
  | .duplexHeartbeatTimeout => Sys2Proof.Machine.execDuplexHeartbeatTimeout s
  | .duplexMismatchLimit => Sys2Proof.Machine.execDuplexMismatchLimit s
  | .duplexCompareWindowExpired node c => Sys2Proof.Machine.execDuplexCompareWindowExpired node c s
  | .duplexClaimPersisted ok => Sys2Proof.Machine.execDuplexClaimPersisted ok s
  | .dupSwap r token => Sys2Proof.Machine.execDupSwap r token s
  | .duplexSwapBoundaryK => Sys2Proof.Machine.execDuplexSwapBoundaryK s
  | .duplexSwapTimeout => Sys2Proof.Machine.execDuplexSwapTimeout s
  | .dupRejoin r token => Sys2Proof.Machine.execDupRejoin r token s
  | .dupClaimClear r token => Sys2Proof.Machine.execDupClaimClear r token s
  | .claimReset r token group => Sys2Proof.Machine.execClaimReset r token group s
  | .cmdDispatchPacket => Sys2Proof.Machine.execCmdDispatchPacket s
  | .mirrorRecordRx => Sys2Proof.Machine.execMirrorRecordRx s
  | .mboxPost path value => Sys2Proof.Machine.execMboxPost path value s
  | .stationDictRequest q => Sys2Proof.Machine.execStationDictRequest q s
  | .arpRequestRx mac tag ip target => Sys2Proof.Machine.execArpRequestRx mac tag ip target s
  | .keyCeilingPersisted ok => Sys2Proof.Machine.execKeyCeilingPersisted ok s
  | .keyWrite r token slot key => Sys2Proof.Machine.execKeyWrite r token slot key s
  | .serviceDictRequest m => Sys2Proof.Machine.execServiceDictRequest m s
  | .stallElectionClose => Sys2Proof.Machine.execStallElectionClose s
  | .stallLeaseLapse => Sys2Proof.Machine.execStallLeaseLapse s
  | .stallReservationLapse => Sys2Proof.Machine.execStallReservationLapse s
  | .stallPathGone => Sys2Proof.Machine.execStallPathGone s
  | .segSessionTimeout r => Sys2Proof.Machine.execSegSessionTimeout r s
  | .saveConfig r token => Sys2Proof.Machine.execSaveConfig r token s
  | .restoreDefaults r token => Sys2Proof.Machine.execRestoreDefaults r token s
  | .scanGo path go => Sys2Proof.Machine.execScanGo path go s
  | .scanStop r token e => Sys2Proof.Machine.execScanStop r token e s
  | .scanJobEnd e data => Sys2Proof.Machine.execScanJobEnd e data s
  | .scanReadFailure e cause good data => Sys2Proof.Machine.execScanReadFailure e cause good data s
  | .scrubPass corrected double changed => Sys2Proof.Machine.execScrubPass corrected double changed s
  | .keeperLockstepMismatch => Sys2Proof.Machine.execKeeperLockstepMismatch s
  | .keeperWatchdogExpired => Sys2Proof.Machine.execKeeperWatchdogExpired s
  | .clockMonitorFault => Sys2Proof.Machine.execClockMonitorFault s
  | .supplyOutOfWindow rail => Sys2Proof.Machine.execSupplyOutOfWindow rail s
  | .faultTest r token => Sys2Proof.Machine.execFaultTest r token s
  | .faultRecordClear r token => Sys2Proof.Machine.execFaultRecordClear r token s
  | .sentinelStart => Sys2Proof.Machine.execSentinelStart s
  | .sentinelStop => Sys2Proof.Machine.execSentinelStop s
  | .feedQualified b m => Sys2Proof.Machine.execFeedQualified b m s
  | .feedUndervoltage b m => Sys2Proof.Machine.execFeedUndervoltage b m s
  | .feedOvervoltage b m => Sys2Proof.Machine.execFeedOvervoltage b m s
  | .reverseCurrent b m => Sys2Proof.Machine.execReverseCurrent b m s
  | .deadTimeExpired m => Sys2Proof.Machine.execDeadTimeExpired m s
  | .serviceFeedChange inLimits m => Sys2Proof.Machine.execServiceFeedChange inLimits m s
  | .seatDebounced m => Sys2Proof.Machine.execSeatDebounced m s
  | .seatRelease m => Sys2Proof.Machine.execSeatRelease m s
  | .rampComplete m => Sys2Proof.Machine.execRampComplete m s
  | .rampTimeout m => Sys2Proof.Machine.execRampTimeout m s
  | .faultTimerExpired m => Sys2Proof.Machine.execFaultTimerExpired m s
  | .breakerTrip m => Sys2Proof.Machine.execBreakerTrip m s
  | .fastComparatorTrip m => Sys2Proof.Machine.execFastComparatorTrip m s
  | .fetTemperatureTrip m => Sys2Proof.Machine.execFetTemperatureTrip m s
  | .coolExpired m => Sys2Proof.Machine.execCoolExpired m s
  | .retriesRestore => Sys2Proof.Machine.execRetriesRestore s
  | .pgQualified m => Sys2Proof.Machine.execPgQualified m s
  | .pgWithdrawn m => Sys2Proof.Machine.execPgWithdrawn m s
  | .gateCheck m => Sys2Proof.Machine.execGateCheck m s
  | .outputCheckFail m => Sys2Proof.Machine.execOutputCheckFail m s
  | .fetFaultClear r token => Sys2Proof.Machine.execFetFaultClear r token s
  | .powerEventFetch => Sys2Proof.Machine.execPowerEventFetch s
  | .pwrModeRequest r token mode => Sys2Proof.Machine.execPwrModeRequest r token mode s
  | .holderPoll => Sys2Proof.Machine.execHolderPoll s
  | .entryWaitExpired => Sys2Proof.Machine.execEntryWaitExpired s
  | .powerWaitRetire watch => Sys2Proof.Machine.execPowerWaitRetire watch s
  | .wakeLatchArm => Sys2Proof.Machine.execWakeLatchArm s
  | .restWake => Sys2Proof.Machine.execRestWake s
  | .dormantWake rtc => Sys2Proof.Machine.execDormantWake rtc s
  | .keeperDozeWake => Sys2Proof.Machine.execKeeperDozeWake s
  | .eavesRelease r token domains => Sys2Proof.Machine.execEavesRelease r token domains s
  | .serviceAttach source => Sys2Proof.Machine.execServiceAttach source s
  | .serviceDetach => Sys2Proof.Machine.execServiceDetach s
  | .pdSourceCapabilitiesRx id pdos => Sys2Proof.Machine.execPdSourceCapabilitiesRx id pdos s
  | .pdRequestRx id rdo => Sys2Proof.Machine.execPdRequestRx id rdo s
  | .pdPsRdyRx id => Sys2Proof.Machine.execPdPsRdyRx id s
  | .pdDrSwapSend => Sys2Proof.Machine.execPdDrSwapSend s
  | .pdDrSwapRx id => Sys2Proof.Machine.execPdDrSwapRx id s
  | .pdSwapReject id vconn => Sys2Proof.Machine.execPdSwapReject id vconn s
  | .pdGetSinkCapRx id => Sys2Proof.Machine.execPdGetSinkCapRx id s
  | .pdOtherMessageRx id => Sys2Proof.Machine.execPdOtherMessageRx id s
  | .pdGoodcrcTimeout => Sys2Proof.Machine.execPdGoodcrcTimeout s
  | .vbusSourceLow mv => Sys2Proof.Machine.execVbusSourceLow mv s
  | .moistureTest cc1 cc2 sbu1 sbu2 => Sys2Proof.Machine.execMoistureTest cc1 cc2 sbu1 sbu2 s
  | .usbConnect => Sys2Proof.Machine.execUsbConnect s
  | .windowCommit r token offset length => Sys2Proof.Machine.execWindowCommit r token offset length s
  | .stagingVerify r token => Sys2Proof.Machine.execStagingVerify r token s
  | .stagingErase r token => Sys2Proof.Machine.execStagingErase r token s
  | .updateArm r token => Sys2Proof.Machine.execUpdateArm r token s
  | .updateDisarm r token => Sys2Proof.Machine.execUpdateDisarm r token s
  | .updateRestart r token => Sys2Proof.Machine.execUpdateRestart r token s
  | .updateConfirm r token => Sys2Proof.Machine.execUpdateConfirm r token s
  | .fallbackPart r token part => Sys2Proof.Machine.execFallbackPart r token part s
  | .keyRevoke r token slot => Sys2Proof.Machine.execKeyRevoke r token slot s
  | .confirmWindowExpired => Sys2Proof.Machine.execConfirmWindowExpired s
  | .storeRefresh => Sys2Proof.Machine.execStoreRefresh s
  | .nporRelease straps => Sys2Proof.Machine.execNporRelease straps s
  | .cclkLock => Sys2Proof.Machine.execCclkLock s
  | .keeperReady us => Sys2Proof.Machine.execKeeperReady us s
  | .hubReady us => Sys2Proof.Machine.execHubReady us s
  | .hubResetIn => Sys2Proof.Machine.execHubResetIn s
  | .vddSenLow => Sys2Proof.Machine.execVddSenLow s
  | .coreRailLow => Sys2Proof.Machine.execCoreRailLow s
  | .storeBurstComplete ok => Sys2Proof.Machine.execStoreBurstComplete ok s
  | .wakeSourceEvent id detail asserted => Sys2Proof.Machine.execWakeSourceEvent id detail asserted s
  | .pdDrSwapResponseRx id accept => Sys2Proof.Machine.execPdDrSwapResponseRx id accept s
  | .pdHardResetRx => Sys2Proof.Machine.execPdHardResetRx s
  | .usbBusStateChange configured suspended => Sys2Proof.Machine.execUsbBusStateChange configured suspended s

end Sys2Proof.Machine
end

