-- ==== Sys2Proof/Safety.lean ====
section
/-!
DEFINITION. What the statements call a sound state, when the keeper serves a requester at once, what an accepted write answers, and what a family of
commands keeps.
-/
namespace Sys2Proof.Machine

/-- The post SRAM is in canonical form: addresses strictly rising, no octet listed that reads as an unlisted one. -/
def State.sramCanonical (s : State) : Bool := Memory.wf s.hub.host.sram

/-- Every waiting command is well-formed. -/
def State.queueOk (s : State) : Bool := s.pending.all wellFormed

/-- A sound state. -/
def State.sound (s : State) : Bool := s.sramCanonical && s.queueOk

/-- The request of a requester as the keeper takes it: with whether the requester held the stall when it came (R443). -/
def Hub.request (h : Hub) (r : Requester) (m : DictMsg) : KReq := { by_ := r, msg := m, held := h.holdsStall r }

/-- The keeper serves a request the moment it comes (R440): CCLK runs, the keeper is ready and executes, no update is halted and no recovery
loader runs, nothing waits before it, and it is no repeat of an earlier request on the ring (R435). -/
def Hub.serves (h : Hub) (r : Requester) (m : DictMsg) : Bool :=
  h.time.cclk && h.keeper.ready && h.keeperRuns && !h.upd.halted && !h.upd.recovery && h.keeper.waiting.isEmpty
    && (h.ringRepeat (h.request r m)).isNone

/-- The path of a requester may read (R428, R435): a node on the ring only as ring-sources allows. -/
def Hub.mayRead (h : Hub) (r : Requester) : Bool := r.path != .ring || (h.num Obj.ringSources).testBit (r.unit - 1)

/-- The path of a requester may write (R435, R437, R439): beside the ring's sources, a station key with its right, and the service port while
service-writes is set. -/
def Hub.mayWrite (h : Hub) (r : Requester) : Bool :=
  h.mayRead r && (r.path != .station || (h.num Obj.keyRights).testBit r.unit) && (r.path != .service || h.flag Obj.serviceWrites)

/-- The stallholder may write now: the keeper serves its request at once, its path may write, and it holds the stall. -/
def Hub.canWrite (h : Hub) (r : Requester) (m : DictMsg) : Bool := h.serves r m && h.mayWrite r && h.holdsStall r

/-- What follows an accepted write whose effect left the hub `h`: the map of units at rest is brought up to date (R533), the lease restarts
with the lease time in force when the request came (R443), and the response OK leaves (R429). -/
def Hub.accepts (before h : Hub) (r : Requester) (m : DictMsg) : Hub :=
  (h.napRefresh.renewFor r (before.num Obj.leaseTime)).deliverResponse (before.request r m) (bare m 0)

/-- What follows a refused write of a write-only object whose checks left the hub `h`: only the response with its abort code leaves. -/
def Hub.refuses (before h : Hub) (r : Requester) (m : DictMsg) (code : Nat) : Hub :=
  h.napRefresh.deliverResponse (before.request r m) (bare m code)

/-- The hub after the receiver and the sequence window have taken a frame (R93, R106). -/
def Hub.afterWindow (h : Hub) (west : Bool) (f : RingFrame) : Hub := ((h.receive west f).2.windowPass f).2

/-- The receiver extracts a frame for a member and its sequence window accepts it (R93, R106). -/
def Hub.admits (h : Hub) (west : Bool) (f : RingFrame) : Bool :=
  (h.receive west f).1 && (h.receive west f).2.isMember && ((h.receive west f).2.windowPass f).1

/-- The hub when a CLAIM frame has raised the record of its group (R393). -/
def Hub.claimRaised (h : Hub) (west : Bool) (f : RingFrame) : Hub :=
  (h.afterWindow west f).when
    (byteAt f.payload 0 == 0 && (byteAt f.payload 3 == roleActive || byteAt f.payload 3 == roleHandover))
    (fun h => h.raiseRecord (byteAt f.payload 1) f.claim)

/-- A CLAIM frame of a subtype comes from the peer of the supervisor's own group (R388, R391). -/
def Hub.claimFromPeer (h : Hub) (west : Bool) (f : RingFrame) (sub : Nat) : Bool :=
  h.admits west f && f.type == tClaim && f.payload.length == 24 && byteAt f.payload 0 == sub
    && (h.claimRaised west f).inGroup (byteAt f.payload 1) && (h.claimRaised west f).num Obj.peerNode != 0
    && f.src == (h.claimRaised west f).num Obj.peerNode

/-- The hub when the supervisor has taken the claims and the digest of such a frame (R389, R393). -/
def Hub.claimHeard (h : Hub) (west : Bool) (f : RingFrame) : Hub :=
  (((h.claimRaised west f).maxNum Obj.maxClaimSeen f.claim).maxNum Obj.maxClaimSeen (beAt f.payload 12 4)).peerDigest (beAt f.payload 8 4)

/-- A sequencer that is ON and RUNNING stands at an instruction word (R320). -/
def Hub.seqRuns (h : Hub) (s i : Nat) : Bool :=
  h.isOn (fidSeq s) && (h.sq s).run == seqRunning && insAt (h.oct (Obj.program s)) (h.sq s).pc == i

/-- A sequencer that is ON waits at an instruction word: a stalled LOAD.b or STORE.b, or a HOLD (R324, R326). -/
def Hub.seqWaits (h : Hub) (s i : Nat) : Bool :=
  h.isOn (fidSeq s) && (h.sq s).run == seqStalled && insAt (h.oct (Obj.program s)) (h.sq s).pc == i

/-- The hub as the instruction at PC begins: at seq-wd-address the watchdog restarts (R336). -/
def Hub.seqBegun (h : Hub) (s : Nat) : Hub :=
  if (h.sq s).pc = h.num (Obj.seqWdAddress s) then h.setSq s { h.sq s with kick := h.now } else h

/-- A response leaves for a request that the keeper has served, with the effect that left the hub `h` (R429). -/
def Hub.answers (before h : Hub) (r : Requester) (m rsp : DictMsg) : Hub := h.deliverResponse (before.request r m) rsp

/-- A transaction frame has been received and crosses the core to port 16 (R105, R176): whether it gets there, and the hub then. -/
def Hub.bridged (h : Hub) (west : Bool) (f : RingFrame) : Bool × Hub :=
  ((h.receive west f).2.when (f.cls == 5) (fun h => h.seqGap f)).crossCore (12 + portIx west) 16 f

/-- An intact transaction frame of a type reaches the bridge of a member (R93, R134, R176). -/
def Hub.bridgeTakes (h : Hub) (type : Nat) (west : Bool) (f : RingFrame) : Bool :=
  (h.receive west f).1 && (h.receive west f).2.isMember && f.type == type && f.intact && (h.bridged west f).1

/-- The state with another hub and the same commands waiting. -/
def State.withHub (s : State) (h : Hub) : State := { s with hub := h }

/-- What a hub reset with a cause leaves of `s` (R597): what the sentinel, the store and PERSIST hold, and no CCLK. -/
def State.resetTo (s : State) (cause : Nat) (t : State) : Prop :=
  t.pending = s.pending ∧ t.hub.num Obj.lastResetCause = cause ∧ t.hub.time = {} ∧ t.hub.ring = {}
    ∧ t.hub.bridge = {} ∧ t.hub.sw = {} ∧ t.hub.host = {} ∧ t.hub.store = {} ∧ t.hub.chans = [] ∧ t.hub.cans = [] ∧ t.hub.seqs = []
    ∧ t.hub.sta = {} ∧ t.hub.ptp = [] ∧ t.hub.goose = {} ∧ t.hub.scans = [] ∧ t.hub.safety = {} ∧ t.hub.pwr = {} ∧ t.hub.rwb = [] ∧ t.hub.funcs = []
    ∧ t.hub.keeper = { keys := s.hub.keeper.keys, ceilings := s.hub.keeper.ceilings } ∧ t.hub.ledger.store = s.hub.ledger.store
    ∧ t.hub.duplex = { persisted := s.hub.duplex.persisted } ∧ t.hub.upd.active = s.hub.upd.active ∧ t.hub.upd.faultCause = s.hub.upd.faultCause

/-- A state that differs from `s` in nothing but sequencer `q`, which has become `x`. -/
def State.seqBecame (s : State) (q : Nat) (x : SeqState) (t : State) : Prop :=
  t.pending = s.pending ∧ t.hub = { s.hub with seqs := t.hub.seqs } ∧ t.hub.sq q = x ∧ ∀ p, p ≠ q → t.hub.sq p = s.hub.sq p

/-- The sequencer when the instruction word `i` at PC has ended after `n` ticks and its linger, with the next one at `pc` (R321); at
seq-wd-address the watchdog restarted as it began (R336). -/
def Hub.seqPassed (h : Hub) (q i n pc : Nat) : SeqState :=
  let x := h.sq q
  { x with kick := if x.pc = h.num (Obj.seqWdAddress q) then h.now else x.kick, run := seqRunning, pc := pc, ticks := x.ticks + n + insLinger i }

/-- From `h` to `g` no octet of the post SRAM changes, and of the object dictionary nothing but the objects of the named pages (an index's high
octet) and those a notice moves: queue 63's (0x193F) and the notice channel's (0x1200). -/
def Hub.keepsBut (g h : Hub) (pages : List Nat) : Prop :=
  g.host.sram = h.host.sram ∧ ∀ k, k / 65536 ∉ pages → k / 256 ≠ 0x193F → k / 256 ≠ 0x1200 → g.obj k = h.obj k

end Sys2Proof.Machine
end

