-- ==== Sys2Proof/Certificates/Slice0/Obligations.lean ====
section
/-!
DEFINITION. The statements for the provers: what a step is, the frames of the families, and what each command of the table does.
-/
open Sys2Proof Sys2Proof.Machine

/-- A step takes the command at the front of the queue and runs it with the queue's rest; and every command of the table answers a next state, which
keeps the commands that wait. -/
def Obligations.StepRunsTheFrontCommand : Prop :=
  (∀ (c : Instr) (s : State), step { s with pending := c :: s.pending } = exec c s)
  ∧ (∀ (c : Instr) (s : State), ∃ h, exec c s = .next (s.withHub h))

/-- R38: nPOR_OUT's release sets the LTC to 0; with no command waiting a step is one cycle of CCLK, which counts the LTC by one while CCLK runs (the
model's choice, log entry 2: what a step on an empty queue does); and no command changes it but one that begins a start, which leaves CCLK stopped,
and the advance on wake from DORMANT. -/
def Obligations.TheLtcCountsCclk : Prop :=
  (∀ (s : State) (straps : BitVec 11), s.hub.time.cclk = false → s.hub.mode ≠ modeDormant →
    ∃ t, exec (.nporRelease straps) s = .next t ∧ t.hub.time.ltc = 0)
  ∧ (∀ (s : State), s.pending = [] → s.hub.time.cclk = false → step s = .next s)
  ∧ (∀ (s : State), s.pending = [] → s.hub.time.cclk = true →
    ∃ t, step s = .next t ∧ t.pending = [] ∧ (t.hub.time.ltc = s.hub.time.ltc + 1 ∨ t.hub.time.cclk = false))
  ∧ (∀ (c : Instr) (s t : State), exec c s = .next t →
    t.hub.time.ltc = s.hub.time.ltc ∨ t.hub.time.cclk = false ∨ ∃ rtc, c = .dormantWake rtc)

/-- What the machine is before nPOR_OUT first releases: no command waits, no octet of the post SRAM is listed, every object reads its default, the
LTC is 0 and CCLK stands, every function is off, the stall is free; and no word of bits spells a command. The values the spec does not give are the
model's choice (log entries 1, 5 and 9). -/
def Obligations.ResetLeavesTheBlock : Prop :=
  State.reset.pending = [] ∧ State.reset.sound = true ∧ (∀ a, Memory.read State.reset.hub.host.sram a = 0)
  ∧ (∀ k, State.reset.hub.obj k = dictDefault k)
  ∧ State.reset.hub.time.ltc = 0 ∧ State.reset.hub.time.cclk = false ∧ State.reset.hub.keeper.ready = false
  ∧ (∀ fid, (State.reset.hub.func fid).life = .off) ∧ State.reset.hub.num Obj.stallState = 0
  ∧ (∀ n w, decodeTableWord n w = none)

/-- Every step keeps a sound state sound: the post SRAM in its canonical form, addresses strictly rising within it and no octet listed that reads as an
unlisted one, and every waiting command well-formed. -/
def Obligations.EveryStepKeepsSound : Prop :=
  ∀ s t : State, s.sound = true → step s = .next t → t.sound = true

/-- Frames of the ring, the time unit and the power path. Each command answers a next state that keeps every block but its own, every octet of the
post SRAM and every object but its own block's and those a notice moves. A change of the ring's links, members or breaks may end fences whose target it
puts out of reach (R148), so those commands may also move the bridge, the queues and what waits at the switch, and their objects. All of them leave the
time unit alone but for its own commands, and those leave the ring alone; a loss of RING time takes its master from those heard, and the ring then
follows the next one (R119). -/
def Obligations.RingTimeAndPowerKeepToTheirBlocks : Prop :=
  (∀ (s : State) (west : Bool) (f : RingFrame) (src : Fin 128) (cls : Fin 2),
    ∀ c ∈ [Instr.ringBlockLockGained west, .beaconMissed, .insertionCreditPeriod west, .class01TokenRefill west, .delayReqRx west f,
        .delayRespRx west f, .seqWindowAgeExpired src cls],
      ∃ t, exec c s = .next t ∧ t.pending = s.pending ∧ t.hub.keepsBut s.hub [0x16]
        ∧ t.hub = { s.hub with ring := t.hub.ring, dict := t.hub.dict, host := t.hub.host, out := t.hub.out, rwb := t.hub.rwb })
  ∧ (∀ (s : State) (west : Bool) (f : RingFrame) (mid : Option RingFrame),
    ∀ c ∈ [Instr.ringLinkQualified west, .ringLockLoss ⟨west, mid⟩, .remoteFaultRx west, .bcnRx west f, .brkRx west f, .joinReqRx west f,
        .joinAckRx west f, .joinRefuseRx west f, .leaveRx west f, .helloRx west f, .stewardRankWaitExpired],
      ∃ t, exec c s = .next t ∧ t.pending = s.pending ∧ t.hub.keepsBut s.hub [0x16, 0x18, 0x19]
        ∧ t.hub = { s.hub with ring := t.hub.ring, bridge := t.hub.bridge, sw := t.hub.sw, dict := t.hub.dict, host := t.hub.host,
                               out := t.hub.out, rwb := t.hub.rwb })
  ∧ (∀ (s : State) (src : TimeSource) (ph : PhaseSource) (offset rate : Int) (utc : Option Int) (fraction : BitVec 32) (freq : Nat) (i : Fin 4) (b : Bool)
      (frac : Fin 5) (p : RegPath),
    ∀ c ∈ [Instr.timeSourceQualified src offset rate utc, .timeMapUpdate rate, .phcSourcePresent ph,
        .phcSourceLoss ph, .phcLockAchieved fraction freq, .phcAlignSlowDone, .phcRealign fraction freq, .phcCoastLimitExpired,
        .mainsZeroCrossing freq freq, .snap p, .tcapEdge i b frac, .toutTimedEdge i b],
      ∃ t, exec c s = .next t ∧ t.pending = s.pending ∧ t.hub.time.ltc = s.hub.time.ltc ∧ t.hub.keepsBut s.hub [0x14]
        ∧ t.hub = { s.hub with time := t.hub.time, dict := t.hub.dict, host := t.hub.host, out := t.hub.out, rwb := t.hub.rwb })
  ∧ (∀ (s : State) (src : TimeSource) (offset rate : Int) (utc : Option Int),
      ∃ t, exec (.timeSourceLossDeclared src offset rate utc) s = .next t ∧ t.pending = s.pending ∧ t.hub.time.ltc = s.hub.time.ltc
        ∧ t.hub.keepsBut s.hub (if src = .ring then [0x14, 0x16] else [0x14])
        ∧ t.hub = { s.hub with time := t.hub.time, dict := t.hub.dict, host := t.hub.host, out := t.hub.out, rwb := t.hub.rwb,
                               ring := { s.hub.ring with syncSeen := if src = .ring then t.hub.ring.syncSeen else s.hub.ring.syncSeen } })
  ∧ (∀ (s : State) (b : Bool) (m : PowerSample),
    ∀ c ∈ [Instr.feedQualified b m, .feedUndervoltage b m, .feedOvervoltage b m, .reverseCurrent b m, .deadTimeExpired m, .serviceFeedChange b m,
        .seatDebounced m, .seatRelease m, .rampComplete m, .rampTimeout m, .faultTimerExpired m, .breakerTrip m, .fastComparatorTrip m,
        .fetTemperatureTrip m, .coolExpired m, .pgQualified m, .pgWithdrawn m, .gateCheck m, .outputCheckFail m, .powerEventFetch, .retriesRestore],
      ∃ t, exec c s = .next t ∧ t.pending = s.pending ∧ t.hub.keepsBut s.hub [0x31]
        ∧ t.hub = { s.hub with power := t.hub.power, dict := t.hub.dict, host := t.hub.host, out := t.hub.out, rwb := t.hub.rwb })

/-- Frames of the sequencers, the CAN controllers, the channels and the station ports. Each command answers a next state that keeps every block but its
own (and the switch a packet goes to), every octet of the post SRAM and every object but its own block's and those a notice moves. A read-back that shows
a stuck output may disable its function, and a time code and a PTP message may move the time unit. -/
def Obligations.FieldUnitsKeepToTheirBlocks : Prop :=
  (∀ (s : State) (q : Fin 24) (b : Bool),
    ∀ c ∈ [Instr.seqNop q, .seqLoadB q, .seqLoadNb q, .seqStoreB q, .seqStoreNb q, .seqCountImm q, .seqCountReload q, .seqCountShifter q,
        .seqCountDec q, .seqFlagSet q, .seqFlagClear q, .seqFlagSignal q, .seqFlagBroadcast q, .seqHold q, .seqHoldRelease q b, .seqBranchZero q,
        .seqBranchDecNz q, .seqBranchPinHigh q b, .seqBranchPinLow q b, .seqBranchShifter q, .seqBranchFlag q, .seqStallEnd q, .seqRxGapExpired q,
        .seqTxPacket q],
      ∃ t, exec c s = .next t ∧ t.pending = s.pending ∧ t.hub.keepsBut s.hub [0x24]
        ∧ t.hub = { s.hub with seqs := t.hub.seqs, sw := t.hub.sw, dict := t.hub.dict, host := t.hub.host, out := t.hub.out, rwb := t.hub.rwb })
  ∧ (∀ (s : State) (n : Fin 48) (f : CanFrame) (start : BitVec 64) (e : Fin 6) (b special : Bool) (runs : BitVec 8) (pitch : Fin 32),
    ∀ c ∈ [Instr.canIntegrated n, .canErrorFrame n e b start special runs, .canOverloadFrame n start, .canBusOffRecovery n,
        .canDominantTimeout n, .canStuckReleased n, .canTxUpdate n b, .canBasicCycleStart n, .canFlashingEnd n pitch b, .canLatestStartPassed n,
        .canTxEnd n, .canArbitrationLost n, .canFreeWindowStart n pitch b, .canRefMissed n, .canFrameRx n f start],
      ∃ t, exec c s = .next t ∧ t.pending = s.pending ∧ t.hub.keepsBut s.hub [0x20, 0x21, 0x22, 0x23]
        ∧ t.hub = { s.hub with cans := t.hub.cans, sw := t.hub.sw, dict := t.hub.dict, host := t.hub.host, out := t.hub.out, rwb := t.hub.rwb,
                               freeCtr := t.hub.freeCtr })
  ∧ (∀ (s : State) (x : Fin 192) (char : BitVec 9) (start : BitVec 64) (a b : Bool),
    ∀ c ∈ [Instr.uartCharRx x char start a b, .uartGapExpired x, .uartBreak x, .uartTxPacket x, .uartTxPacketSent x, .binEdge x a, .binDebounceExpired x,
        .chatterQuietExpired x, .wetPulseEnd x, .boutPulseEnd x, .boutAngleInstant x, .claimHoldExpired x, .pulseEdge x a, .pulseGateEnd x,
        .tcodeOutputEdge x a, .cstartPulseEnd x, .lsDiagnosisCycleEnd x],
      ∃ t, exec c s = .next t ∧ t.pending = s.pending ∧ t.hub.keepsBut s.hub [0x20, 0x21, 0x22, 0x25]
        ∧ t.hub = { s.hub with chans := t.hub.chans, sw := t.hub.sw, ledger := t.hub.ledger, dict := t.hub.dict,
                               host := t.hub.host, out := t.hub.out, rwb := t.hub.rwb })
  ∧ (∀ (s : State) (x : Fin 192) (a b : Bool),
    ∀ c ∈ [Instr.boutReadbackChange x a b, .readbackWindowExpired x a],
      ∃ t, exec c s = .next t ∧ t.pending = s.pending ∧ t.hub.keepsBut s.hub [0x20, 0x21, 0x22, 0x25]
        ∧ t.hub = { s.hub with chans := t.hub.chans, sw := t.hub.sw, ledger := t.hub.ledger, funcs := t.hub.funcs, safety := t.hub.safety,
                               dict := t.hub.dict, host := t.hub.host, out := t.hub.out, rwb := t.hub.rwb })
  ∧ (∀ (s : State) (x : Fin 192) (f : TcodeFrame),
      ∃ t, exec (.tcodeFrameRx x f) s = .next t ∧ t.pending = s.pending ∧ t.hub.keepsBut s.hub [0x14, 0x20, 0x21, 0x22, 0x25]
        ∧ t.hub = { s.hub with chans := t.hub.chans, time := t.hub.time, sw := t.hub.sw, dict := t.hub.dict,
                               host := t.hub.host, out := t.hub.out, rwb := t.hub.rwb })
  ∧ (∀ (s : State) (b : Bool) (frame : List Byte) (start : PhyStamp) (mac : BitVec 48) (n : BitVec 16) (k : PtpKind),
    ∀ c ∈ [Instr.prpSupervisionRx b frame start, .prpSupervisionSend, .nodeTableAgeOut mac, .duplicateEntryForget mac n,
        .lanSilentTimeout b, .staLinkGained b, .ptpMessageInterval b k, .ptpAnnounceTimeout b],
      ∃ t, exec c s = .next t ∧ t.pending = s.pending ∧ t.hub.keepsBut s.hub [0x28]
        ∧ t.hub = { s.hub with sta := t.hub.sta, ptp := t.hub.ptp, sw := t.hub.sw, dict := t.hub.dict, host := t.hub.host, out := t.hub.out,
                               rwb := t.hub.rwb })
  ∧ (∀ (s : State) (b : Bool) (frame : List Byte) (start : PhyStamp) (ok : Bool),
    ∀ c ∈ [Instr.staFrameRx b frame start ok, .ptpMessageRx b frame start],
      ∃ t, exec c s = .next t ∧ t.pending = s.pending ∧ t.hub.keepsBut s.hub [0x14, 0x28]
        ∧ t.hub = { s.hub with sta := t.hub.sta, ptp := t.hub.ptp, time := t.hub.time, sw := t.hub.sw, dict := t.hub.dict, host := t.hub.host,
                               out := t.hub.out, rwb := t.hub.rwb })

/-- R30, R31, R33: a function whose preparation is complete enters ON: a cluster with the class of its bank, a channel once its cluster is ON on a valid
bank, a CAN controller and a sequencer once the channels they need are ready and their checks pass. One that has drained, or whose limit is
reached, is OFF; only FAULT outlives it. -/
def Obligations.FunctionsStartAndDrain : Prop :=
  (∀ (s : State) (fid : BitVec 16) (bank : BankClass) (f : Fn), fnOf fid.toNat = some f → (s.hub.func fid.toNat).life = .starting →
    (∀ c, f = .channel c → s.hub.isOn (fidCluster (c / 16)) = true ∧ s.hub.num (Obj.bankVoltage (c / 16)) ≠ 0) →
    ((∃ n, f = .can n) ∨ (∃ q, f = .seq q) → s.hub.startWaits f = false ∧ s.hub.fnCheck f = 0) →
    ∃ t, exec (.functionStartComplete fid bank) s = .next t ∧ t.pending = s.pending ∧ (t.hub.func fid.toNat).life = .on
      ∧ ∀ k, f = .cluster k → t.hub.num (Obj.bankVoltage k) = bankCode bank)
  ∧ (∀ (s : State) (fid : BitVec 16) (f : Fn), fnOf fid.toNat = some f → ∀ c ∈ [Instr.functionDrainComplete fid, .drainLimitExpired fid],
    s.hub.func fid.toNat = { life := .stopping, fault := (s.hub.func fid.toNat).fault } →
    ∃ t, exec c s = .next t ∧ t.pending = s.pending ∧ t.hub.func fid.toNat = { fault := (s.hub.func fid.toNat).fault })

/-- R34, R35, R492, R495: a reset of a resettable function that is not OFF stops it and counts; last-func names it, unless a reset by a later path of the same
cycle named another. A cluster's takes its channels with it. An OFF function stays OFF unless its restored enable object starts it, and counts too. A
reset that meets one that lasts, or another of its own or its cluster's or a fault reaction of the same cycle, is merged. The end of the abort leaves the
function OFF, starts it again where its enable object is true, and starts a cluster again that a channel needs. -/
def Obligations.FunctionResetStopsTheFunction : Prop :=
  (∀ (s : State) (path : RegPath) (fid : BitVec 16) (f : Fn), fnOf fid.toNat = some f → (∀ k, f ≠ .cluster k) →
    resettable fid.toNat = true → s.hub.flag Obj.hubFault = false →
    s.hub.resetMerges fid.toNat = false → s.hub.isOff fid.toNat = false →
    ∃ t, exec (.freset path fid) s = .next t ∧ t.pending = s.pending ∧ (t.hub.func fid.toNat).life = .stopping
      ∧ (t.hub.func fid.toNat).inReset = true ∧ t.hub.num Obj.resetCount = satAdd (maxWord 32) (s.hub.num Obj.resetCount) 1
      ∧ t.hub.num Obj.lastFunc = if s.hub.safety.lastBy.1 = s.hub.now + 1 ∧ pathCode path < s.hub.safety.lastBy.2 then s.hub.num Obj.lastFunc else fid.toNat)
  ∧ (∀ (s : State) (path : RegPath) (k : Nat), k < 12 → s.hub.flag Obj.hubFault = false →
    s.hub.resetMerges (fidCluster k) = false → s.hub.isOff (fidCluster k) = false →
    ∃ t, exec (.freset path (BitVec.ofNat 16 (fidCluster k))) s = .next t ∧ t.pending = s.pending
      ∧ (t.hub.func (fidCluster k)).life = .stopping ∧ (t.hub.func (fidCluster k)).inReset = true
      ∧ ∀ i, i < 16 → (s.hub.func (fidChannel (16 * k + i))).inReset = false → s.hub.isOff (fidChannel (16 * k + i)) = false →
          (t.hub.func (fidChannel (16 * k + i))).life = .stopping ∧ (t.hub.func (fidChannel (16 * k + i))).inReset = true)
  ∧ (∀ (s : State) (path : RegPath) (fid : BitVec 16) (f : Fn), fnOf fid.toNat = some f → (∀ k, f ≠ .cluster k) →
    resettable fid.toNat = true → s.hub.flag Obj.hubFault = false →
    s.hub.resetMerges fid.toNat = false → s.hub.isOff fid.toNat = true → (s.hub.restoreConfig fid.toNat).enabled f = false →
    ∃ t, exec (.freset path fid) s = .next t ∧ t.pending = s.pending ∧ t.hub.isOff fid.toNat = true
      ∧ t.hub.num Obj.resetCount = satAdd (maxWord 32) (s.hub.num Obj.resetCount) 1)
  ∧ (∀ (s : State) (path : RegPath) (fid : BitVec 16), resettable fid.toNat = true → s.hub.flag Obj.hubFault = false →
    s.hub.resetMerges fid.toNat = true → exec (.freset path fid) s = .next s)
  ∧ (∀ (s : State) (fid : BitVec 16) (f : Fn), fnOf fid.toNat = some f → (∀ k, f ≠ .cluster k) →
    (s.hub.func fid.toNat).life = .stopping → (s.hub.func fid.toNat).inReset = true → (s.hub.func fid.toNat).pendingEn = false →
    ∃ t, exec (.functionResetAbortDone fid) s = .next t ∧ t.pending = s.pending
      ∧ t.hub.func fid.toNat = { fault := (s.hub.func fid.toNat).fault })
  ∧ (∀ (s : State) (fid : BitVec 16) (f : Fn), fnOf fid.toNat = some f → (∀ k, f ≠ .cluster k) →
    (s.hub.func fid.toNat).life = .stopping → (s.hub.func fid.toNat).inReset = true → (s.hub.func fid.toNat).pendingEn = true →
    exec (.functionResetAbortDone fid) s = .next (s.withHub ((((s.hub.resetDone fid.toNat).fnStopped f).setFunc fid.toNat
      { fault := (s.hub.func fid.toNat).fault }).beginStart fid.toNat)))
  ∧ (∀ (s : State) (k : Nat), k < 12 → (s.hub.func (fidCluster k)).life = .stopping → (s.hub.func (fidCluster k)).inReset = true →
    ∃ t, exec (.functionResetAbortDone (BitVec.ofNat 16 (fidCluster k))) s = .next t ∧ t.pending = s.pending
      ∧ t.hub.func (fidCluster k) = if t.hub.clusterUsed k = true then { life := .starting } else {})

/-- R494: a FRESET, or a write of 0x3600:01 by the stallholder, that names an unassigned id or one that is not resettable has no effect but to count in
reset-ignored; so does every reset during a hub fault. The dictionary write ends with RANGE. -/
def Obligations.ResetsOfOtherIdsAreIgnored : Prop :=
  (∀ (s : State) (path : RegPath) (fid : BitVec 16), resettable fid.toNat = false ∨ s.hub.flag Obj.hubFault = true →
    exec (.freset path fid) s = .next (s.withHub (s.hub.count Obj.resetIgnored)))
  ∧ (∀ (s : State) (r : Requester) (token : Nat) (fid : BitVec 16), s.hub.canWrite r (writeMsg token Obj.freset (leBytes 2 fid.toNat)) = true →
    resettable fid.toNat = false ∨ s.hub.flag Obj.hubFault = true →
    exec (.fresetObjectWrite r token fid) s
      = .next (s.withHub (s.hub.refuses (s.hub.count Obj.resetIgnored) r (writeMsg token Obj.freset (leBytes 2 fid.toNat)) 6)))

/-- R427, R428, R429: a path that may read gets the value of the object it names, the holder's identity by WHO, and on the station and service paths the
value of a register; the response echoes the request, and reading has only the effect the object or register itself gives it. -/
def Obligations.ReadsAnswerTheValue : Prop :=
  (∀ (s : State) (r : Requester) (token : Nat) (index : BitVec 16) (sub : BitVec 8),
    s.hub.serves r { op := opRead, token := token, index := index.toNat, sub := sub.toNat } = true → s.hub.mayRead r = true →
    s.hub.indexCheck index.toNat sub.toNat = 0 → ∀ d, s.hub.descOf index.toNat sub.toNat = some d → accessOf index.toNat sub.toNat d ≠ .wo →
    ¬ (d.ty.isDomain = true ∧ pathMax r.path < (s.hub.readValue index.toNat sub.toNat d).1.length) →
    exec (.dictRead r token index sub) s = .next (s.withHub (s.hub.answers (s.hub.readValue index.toNat sub.toNat d).2 r { op := opRead, token := token, index := index.toNat, sub := sub.toNat }
        { op := 0x41, token := token, index := index.toNat, sub := sub.toNat, arg := (s.hub.readValue index.toNat sub.toNat d).1.length,
          data := (s.hub.readValue index.toNat sub.toNat d).1 })))
  ∧ (∀ (s : State) (r : Requester) (token : Nat),
    s.hub.serves r { op := opRead, token := token, index := Obj.ledgerRange / 256, sub := Obj.ledgerRange % 256 } = true →
    s.hub.mayRead r = true → s.hub.ledgerRead.1.length ≤ pathMax r.path →
    exec (.ledgerRangeRead r token) s = .next (s.withHub (s.hub.answers s.hub.ledgerRead.2 r { op := opRead, token := token, index := Obj.ledgerRange / 256, sub := Obj.ledgerRange % 256 }
        { op := 0x41, token := token, index := Obj.ledgerRange / 256, sub := Obj.ledgerRange % 256, arg := s.hub.ledgerRead.1.length,
          data := s.hub.ledgerRead.1 })))
  ∧ (∀ (s : State) (r : Requester) (token : Nat), s.hub.serves r { op := opWho, token := token } = true → s.hub.mayRead r = true →
    exec (.who r token) s = .next (s.withHub (s.hub.answers s.hub r { op := opWho, token := token } { op := 0x54, token := token, arg := s.hub.holderId })))
  ∧ (∀ (s : State) (r : Requester) (token : Nat) (offset : BitVec 32),
    s.hub.serves r { op := opRegRead, token := token, arg := offset.toNat } = true → r.path = .station ∨ r.path = .service →
    qportAt offset.toNat = none → regSize offset.toNat = 4 → offset.toNat % 4 = 0 →
    exec (.regRead r token offset) s = .next (s.withHub (s.hub.answers (s.hub.regRead (regPathOf r.path) offset.toNat).2 r { op := opRegRead, token := token, arg := offset.toNat }
        { op := 0x60, token := token, arg := offset.toNat, data := leBytes 4 (s.hub.regRead (regPathOf r.path) offset.toNat).1 })))

/-- R23, R424, R443, R448: an accepted WRITE by the stallholder puts the value in force, or for an RWB object holds it for its boundary, or does what writing a
write-only object does, renews the lease and answers OK; on the station and service paths a REG_WRITE of one of the writable registers acts as that register's write. A requester that does not hold the
stall gets NOT_OWNER, and nothing is written. -/
def Obligations.WritesNeedTheStallAndWaitForTheirBoundary : Prop :=
  (∀ (s : State) (r : Requester) (token : Nat) (index : BitVec 16) (sub : BitVec 8) (data : List Byte) (m : DictMsg),
    m = { op := opWrite, token := token, index := index.toNat, sub := sub.toNat, data := data } → s.hub.canWrite r m = true →
    s.hub.indexCheck index.toNat sub.toNat = 0 → ∀ d, s.hub.descOf index.toNat sub.toNat = some d →
    accessOf index.toNat sub.toNat d = d.acc → d.acc = .rw ∨ d.acc = .rwb →
    ¬ (d.ty.isDomain = true ∧ pathMax r.path < data.length) → s.hub.writeCheck false index.toNat sub.toNat d data = 0 →
    exec (.dictWrite r token index sub data) s = .next (s.withHub (s.hub.accepts
      ((if d.acc = .rwb then s.hub.acceptRwb index.toNat sub.toNat (d.ty.decode data)
        else s.hub.applyValue index.toNat sub.toNat (d.ty.decode data)).mirrorObject index.toNat sub.toNat) r m)))
  ∧ (∀ (s : State) (r : Requester) (token : Nat) (index : BitVec 16) (sub : BitVec 8) (data : List Byte) (m : DictMsg),
    m = { op := opWrite, token := token, index := index.toNat, sub := sub.toNat, data := data } →
    s.hub.serves r m = true → s.hub.mayWrite r = true → s.hub.holdsStall r = false →
    s.hub.indexCheck index.toNat sub.toNat = 0 → ∀ d, s.hub.descOf index.toNat sub.toNat = some d →
    accessOf index.toNat sub.toNat d ≠ .const → accessOf index.toNat sub.toNat d ≠ .ro →
    exec (.dictWrite r token index sub data) s = .next (s.withHub (s.hub.answers s.hub r m
      { op := 0x42, token := token, index := index.toNat, sub := sub.toNat, abort := 10 })))
  ∧ (∀ (s : State) (r : Requester) (token : Nat) (offset : BitVec 32) (data : List Byte) (m : DictMsg),
    m = { op := opRegWrite, token := token, arg := offset.toNat, data := data } → s.hub.canWrite r m = true →
    r.path = .station ∨ r.path = .service → writable offset.toNat = true → offset.toNat % 4 = 0 → regSize offset.toNat = 4 →
    qportAt offset.toNat = none → data.length = 4 →
    exec (.regWrite r token offset data) s = .next (s.withHub (s.hub.answers (s.hub.regWrite (regPathOf r.path) offset.toNat (leNat data)) r m { op := 0x61, token := token, arg := offset.toNat })))
  ∧ (∀ (s : State) (r : Requester) (token : Nat) (index : BitVec 16) (sub : BitVec 8) (data : List Byte) (m : DictMsg),
    m = { op := opWrite, token := token, index := index.toNat, sub := sub.toNat, data := data } → s.hub.canWrite r m = true →
    s.hub.readsLocked m = false → index.toNat * 256 + sub.toNat ≠ Obj.updateRestart →
    s.hub.indexCheck index.toNat sub.toNat = 0 → ∀ d, s.hub.descOf index.toNat sub.toNat = some d →
    accessOf index.toNat sub.toNat d = d.acc → d.acc = .wo → ¬ (d.ty.isDomain = true ∧ pathMax r.path < data.length) →
    (s.hub.woWrite index.toNat sub.toNat d data).1 = 0 →
    exec (.dictWrite r token index sub data) s = .next (s.withHub (s.hub.accepts (s.hub.woWrite index.toNat sub.toNat d data).2 r m)))
  ∧ (∀ (s : State) (index : BitVec 16) (sub : BitVec 8) (v : Val) (key : Nat), key = s.hub.keyOf index.toNat sub.toNat →
      s.hub.rwb.filter (fun p => p.1 == key) = [(key, v)] →
      ∃ t, exec (.rwbBoundaryApply index sub) s = .next t ∧ t.pending = s.pending ∧ t.hub.obj key = v
        ∧ t.hub.rwb = s.hub.rwb.filter (fun p => p.1 != key) ∧ (∀ k, k ≠ key → t.hub.obj k = s.hub.obj k)
        ∧ t.hub = { s.hub with dict := t.hub.dict, rwb := t.hub.rwb })

/-- R430, R431, R432: SEG_START of a write, checked as a WRITE of the announced length, opens a session that holds the requester, the object and that total
(for STAGING, the load begins); of a read, with the snapshot of the value; the requester's old session closes first and counts in seg-aborts. SEG_DATA of a
write at the octets received so far appends them; the one with LAST that reaches the announced total closes the session and applies the value whole, as a
WRITE does; of a STAGING load it writes its octets at their offset, and LAST completes the load. SEG_DATA of a read answers the octets at its offset. Each
accepted segment of a write renews the lease. SEG_ABORT, and a session without a segment for seg-timeout, close the requester's session and no other's. -/
def Obligations.SegmentedTransfersKeepTheirSession : Prop :=
  (∀ (s : State) (r : Requester) (token : Nat) (index : BitVec 16) (sub : BitVec 8) (total : BitVec 32) (m : DictMsg),
    m = { op := opSegStart, token := token, index := index.toNat, sub := sub.toNat, arg := total.toNat } → s.hub.canWrite r m = true →
    s.hub.indexCheck index.toNat sub.toNat = 0 → ∀ d, s.hub.descOf index.toNat sub.toNat = some d →
    accessOf index.toNat sub.toNat d ≠ .const → accessOf index.toNat sub.toNat d ≠ .ro → d.ty.isDomain = true → total.toNat ≤ d.ty.maxLen →
    (index = 0x3402 → s.hub.num Obj.stagingState ≠ stgArmed) → (index.toNat * 256 + sub.toNat = Obj.forwardingTable → s.hub.drainCount = 0) →
    let g := s.hub.when (s.hub.session r).isSome (fun h => (h.closeSession r).count Obj.segAborts)
    g.keeper.sessions.length < 8 →
    exec (.segStart r token index sub false total) s = .next (s.withHub (s.hub.answers
        (let h := g.when (index.toNat == 0x3402) Hub.stagingLoad
         { h with keeper := { h.keeper with sessions := h.keeper.sessions ++
            [{ by_ := r, write := true, idx := index.toNat, sub := sub.toNat, total := total.toNat }] } })
        r m { op := 0x43, token := token, index := index.toNat, sub := sub.toNat })))
  ∧ (∀ (s : State) (r : Requester) (token : Nat) (index : BitVec 16) (sub : BitVec 8) (total : BitVec 32) (m : DictMsg),
    m = { op := opSegStart, flags := 2, token := token, index := index.toNat, sub := sub.toNat, arg := total.toNat } →
    s.hub.serves r m = true → s.hub.mayRead r = true →
    s.hub.indexCheck index.toNat sub.toNat = 0 → ∀ d, s.hub.descOf index.toNat sub.toNat = some d → accessOf index.toNat sub.toNat d ≠ .wo →
    d.ty.isDomain = true →
    let v := s.hub.readValue index.toNat sub.toNat d
    let g := v.2.when (v.2.session r).isSome (fun h => (h.closeSession r).count Obj.segAborts)
    g.keeper.sessions.length < 8 →
    exec (.segStart r token index sub true total) s = .next (s.withHub (s.hub.answers { g with keeper := { g.keeper with sessions := g.keeper.sessions ++
          [{ by_ := r, write := false, idx := index.toNat, sub := sub.toNat, total := v.1.length, data := v.1 }] } }
        r m { op := 0x43, token := token, index := index.toNat, sub := sub.toNat, arg := v.1.length })))
  ∧ (∀ (s : State) (r : Requester) (token : Nat) (index : BitVec 16) (sub : BitVec 8) (offset : BitVec 32) (data : List Byte) (m : DictMsg),
    m = { op := opSegData, token := token, index := index.toNat, sub := sub.toNat, arg := offset.toNat, data := data } → s.hub.canWrite r m = true →
    ∀ x, s.hub.session r = some x → x.write = true → x.staging = false → offset.toNat = x.got → x.got + data.length ≤ x.total →
    exec (.segData r token index sub offset false data) s = .next (s.withHub (s.hub.answers ((s.hub.putSession { x with got := x.got + data.length, data := x.data ++ data }).renewFor r (s.hub.num Obj.leaseTime))
        r m { op := 0x44, token := token, index := index.toNat, sub := sub.toNat, arg := offset.toNat })))
  ∧ (∀ (s : State) (r : Requester) (token : Nat) (index : BitVec 16) (sub : BitVec 8) (offset : BitVec 32) (data : List Byte) (m : DictMsg),
    m = { op := opSegData, flags := 1, token := token, index := index.toNat, sub := sub.toNat, arg := offset.toNat, data := data } → s.hub.canWrite r m = true →
    ∀ x, s.hub.session r = some x → x.write = true → x.staging = false → offset.toNat = x.got → x.got + data.length = x.total →
    let w := (s.hub.closeSession r).writeObject false x.idx x.sub (s.hub.descAt x.idx x.sub) (x.data ++ data)
    w.1 = 0 →
    exec (.segData r token index sub offset true data) s = .next (s.withHub (s.hub.answers (w.2.renewFor r (s.hub.num Obj.leaseTime))
        r m { op := 0x44, token := token, index := index.toNat, sub := sub.toNat, arg := offset.toNat })))
  ∧ (∀ (s : State) (r : Requester) (token : Nat) (index : BitVec 16) (sub : BitVec 8) (offset : BitVec 32) (data : List Byte) (last : Bool) (m : DictMsg),
    m = { op := opSegData, flags := b2n last, token := token, index := index.toNat, sub := sub.toNat, arg := offset.toNat, data := data } →
    s.hub.canWrite r m = true → ∀ x, s.hub.session r = some x → x.staging = true → offset.toNat + data.length ≤ imageSize → x.got + data.length ≤ x.total →
    (last = true → x.got + data.length = x.total) → s.hub.num Obj.stagingState ≠ stgArmed → s.hub.store.bad = false →
    exec (.segData r token index sub offset last data) s = .next (s.withHub (s.hub.answers
        ((if last = true then (((s.hub.stagingWrite offset.toNat data).setNum Obj.stagingState stgLoaded).closeSession x.by_)
          else (s.hub.stagingWrite offset.toNat data).putSession { x with got := x.got + data.length }).renewFor r (s.hub.num Obj.leaseTime))
        r m { op := 0x44, token := token, index := index.toNat, sub := sub.toNat, arg := offset.toNat })))
  ∧ (∀ (s : State) (r : Requester) (token : Nat) (index : BitVec 16) (sub : BitVec 8) (offset : BitVec 32) (m : DictMsg),
    m = { op := opSegData, token := token, index := index.toNat, sub := sub.toNat, arg := offset.toNat } → s.hub.serves r m = true →
    s.hub.mayRead r = true → ∀ x, s.hub.session r = some x → x.write = false → offset.toNat < x.total →
    exec (.segData r token index sub offset false []) s = .next (s.withHub (s.hub.answers s.hub r m { op := 0x44, flags := b2n (decide (x.total ≤ offset.toNat + pathMax r.path)), token := token, index := index.toNat, sub := sub.toNat, arg := offset.toNat, data := slice x.data offset.toNat (pathMax r.path) })))
  ∧ (∀ (s : State) (r : Requester) (token : Nat) (index : BitVec 16) (sub : BitVec 8) (m : DictMsg),
    m = { op := opSegAbort, token := token, index := index.toNat, sub := sub.toNat } → s.hub.serves r m = true → s.hub.mayRead r = true →
    exec (.segAbort r token index sub) s = .next (s.withHub (s.hub.answers (s.hub.closeSession r) r m
        { op := 0x45, token := token, index := index.toNat, sub := sub.toNat })))
  ∧ (∀ (s : State) (r : Requester), exec (.segSessionTimeout r) s = .next (s.withHub (s.hub.closeSession r)) ∧ (s.hub.closeSession r).session r = none
      ∧ ∀ r', r' ≠ r → (s.hub.closeSession r).session r' = s.hub.session r')

/-- R69, R125, R167, R184, R232, R274, R279, R284, R287, R300, R311, R477, R492: the write-only objects of the time unit, ring, bridge, switch, queues,
channels, ledger and CAN controllers, written by the stallholder where their conditions hold: each has its own effect, the lease restarts, and the
response is OK. -/
def Obligations.HubWritesOfTrueTakeEffect : Prop :=
  (∀ (s : State) (r : Requester) (token : Nat) (fid : BitVec 16), s.hub.canWrite r (writeMsg token Obj.freset (leBytes 2 fid.toNat)) = true → resettable fid.toNat = true → s.hub.flag Obj.hubFault = false →
    exec (.fresetObjectWrite r token fid) s = .next (s.withHub (s.hub.accepts ((s.hub.resetBy .keeper fid.toNat).2) r (writeMsg token Obj.freset (leBytes 2 fid.toNat)))))
  ∧ (∀ (s : State) (r : Requester) (token : Nat) (index : BitVec 16) (sub : BitVec 8) (b : Block), s.hub.canWrite r (writeMsg token (index.toNat * 256 + sub.toNat) [1]) = true → clearBlock index.toNat sub.toNat = some b → (s.hub.descOf index.toNat sub.toNat).map (fun d => (d.acc, d.ty)) = some (.wo, .bool) → accessOf index.toNat sub.toNat (s.hub.descAt index.toNat sub.toNat) = .wo →
    exec (.clearTallies r token index sub) s = .next (s.withHub (s.hub.accepts (s.hub.clearTallies b index.toNat) r (writeMsg token (index.toNat * 256 + sub.toNat) [1]))))
  ∧ (∀ (s : State) (r : Requester) (token : Nat), s.hub.canWrite r (writeMsg token Obj.disarmAll [1]) = true →
    exec (.triggerDisarmAll r token) s = .next (s.withHub (s.hub.accepts (s.hub.disarmAllWrite) r (writeMsg token Obj.disarmAll [1]))))
  ∧ (∀ (s : State) (r : Requester) (token : Nat), s.hub.canWrite r (writeMsg token Obj.rejoin [1]) = true →
    exec (.rejoin r token) s = .next (s.withHub (s.hub.accepts ((s.hub.when s.hub.isMember (fun h => h.sendBoth (ringOp broadcastId opLeave h.self 0 0 0))).beginJoin) r (writeMsg token Obj.rejoin [1]))))
  ∧ (∀ (s : State) (r : Requester) (token : Nat), s.hub.canWrite r (writeMsg token Obj.clearFaultLog [1]) = true →
    exec (.clearFaultLog r token) s = .next (s.withHub (s.hub.accepts (Hub.setNum { s.hub with bridge := { s.hub.bridge with log := [], logSlot := 63, logSeq := 0 } } Obj.faultLogCount 0) r (writeMsg token Obj.clearFaultLog [1]))))
  ∧ (∀ (s : State) (r : Requester) (token : Nat), s.hub.canWrite r (writeMsg token Obj.commit [1]) = true → s.hub.drainCount = 0 → s.hub.commitCheck = 0 →
    exec (.fwdCommit r token) s = .next (s.withHub (s.hub.accepts (s.hub.flip) r (writeMsg token Obj.commit [1]))))
  ∧ (∀ (s : State) (r : Requester) (token : Nat), s.hub.canWrite r (writeMsg token Obj.discard [1]) = true →
    exec (.fwdDiscard r token) s = .next (s.withHub (s.hub.accepts (s.hub.setAlt (s.hub.fwdCopy (s.hub.num Obj.fwdEpoch))) r (writeMsg token Obj.discard [1]))))
  ∧ (∀ (s : State) (r : Requester) (token : Nat) (q : Fin 64), s.hub.canWrite r (writeMsg token (Obj.flush q.val) [1]) = true → s.hub.isOn (fidQueue q.val) = true →
    exec (.queueFlush r token q) s = .next (s.withHub (s.hub.accepts (s.hub.flushQueue q.val) r (writeMsg token (Obj.flush q.val) [1]))))
  ∧ (∀ (s : State) (r : Requester) (token : Nat) (c : Fin 192), s.hub.canWrite r (writeMsg token ((0x2000 + c.val) * 256 + 0x23) [1]) = true → s.hub.num (Obj.chMode c.val) = modePulse →
    exec (.pulseCountReset r token c) s = .next (s.withHub (s.hub.accepts (s.hub.setNum (Obj.pulseCount c.val) 0) r (writeMsg token ((0x2000 + c.val) * 256 + 0x23) [1]))))
  ∧ (∀ (s : State) (r : Requester) (token : Nat) (c : Fin 192), s.hub.canWrite r (writeMsg token (Obj.lsRearm c.val) [1]) = true → (s.hub.chan c.val).driverOff = true →
    exec (.lsRearm r token c) s = .next (s.withHub (s.hub.accepts (s.hub.enableDriver c.val) r (writeMsg token (Obj.lsRearm c.val) [1]))))
  ∧ (∀ (s : State) (r : Requester) (token : Nat) (from_ : BitVec 32), s.hub.canWrite r (writeMsg token Obj.exportFrom (leBytes 4 from_.toNat)) = true → s.hub.num Obj.exportRoute ≠ 0xFFFF →
    exec (.ledgerExportStart r token from_) s = .next (s.withHub (s.hub.accepts ((Hub.setNum { s.hub with ledger := { s.hub.ledger with exportNext := from_.toNat + 1 } } Obj.exportState 1).exportPump) r (writeMsg token Obj.exportFrom (leBytes 4 from_.toNat)))))
  ∧ (∀ (s : State) (r : Requester) (token : Nat), s.hub.canWrite r (writeMsg token Obj.clearLedger [1]) = true →
    exec (.ledgerClear r token) s = .next (s.withHub (s.hub.accepts ((Hub.ledgerObjects { s.hub with ledger := {} }).setNum Obj.exportState 0) r (writeMsg token Obj.clearLedger [1]))))
  ∧ (∀ (s : State) (r : Requester) (token : Nat) (n : Fin 48), s.hub.canWrite r (writeMsg token (Obj.busOffRestart n.val) [1]) = true → s.hub.isOn (fidCan n.val) = true → s.hub.num (Obj.busState n.val) = canOff → s.hub.num (Obj.busOffRecovery n.val) = 1 →
    exec (.canBusOffRestart r token n) s = .next (s.withHub (s.hub.accepts (s.hub.setCan n.val { s.hub.can n.val with recover := true }) r (writeMsg token (Obj.busOffRestart n.val) [1]))))
  ∧ (∀ (s : State) (r : Requester) (token : Nat) (n : Fin 48), s.hub.canWrite r (writeMsg token (Obj.matrixStop n.val) [1]) = true →
    exec (.canMatrixStop r token n) s = .next (s.withHub (s.hub.accepts (((s.hub.cycleEnds n.val s.hub.now).setCan n.val { (s.hub.cycleEnds n.val s.hub.now).can n.val with waiting := none, window := none, misses := 0 }).setNum (Obj.matrixState n.val) matStopped) r (writeMsg token (Obj.matrixStop n.val) [1]))))

/-- R391, R410, R418, R420, R438, R452, R454, R468, R489, R501, R510, R536, R545: the write-only objects of the duplex supervisor, the keys, the running
image, the scan engines, the fault record, the power path and the power modes, written by the stallholder where their conditions hold. -/
def Obligations.KeeperWritesOfTrueTakeEffect : Prop :=
  (∀ (s : State) (r : Requester) (token : Nat), s.hub.canWrite r (writeMsg token Obj.dupSwap [1]) = true → s.hub.num Obj.role = roleActive → s.hub.num Obj.swapState = swapIdle → s.hub.duplex.digestDiffers = false →
    exec (.dupSwap r token) s = .next (s.withHub (s.hub.accepts (s.hub.startSwap) r (writeMsg token Obj.dupSwap [1]))))
  ∧ (∀ (s : State) (r : Requester) (token : Nat), s.hub.canWrite r (writeMsg token Obj.dupRejoin [1]) = true → s.hub.num Obj.role = roleOut →
    exec (.dupRejoin r token) s = .next (s.withHub (s.hub.accepts (s.hub.setNum Obj.role roleListening) r (writeMsg token Obj.dupRejoin [1]))))
  ∧ (∀ (s : State) (r : Requester) (token : Nat), s.hub.canWrite r (writeMsg token Obj.dupClaimClear [1]) = true → s.hub.isOff fidDuplex = true →
    exec (.dupClaimClear r token) s = .next (s.withHub (s.hub.accepts ((Hub.setNum { s.hub with duplex := { s.hub.duplex with persisted := 0 } } Obj.persistedRole 0).persist 64) r (writeMsg token Obj.dupClaimClear [1]))))
  ∧ (∀ (s : State) (r : Requester) (token : Nat) (group : BitVec 8), s.hub.canWrite r (writeMsg token Obj.claimReset [group]) = true → 1 ≤ group.toNat → group.toNat ≤ 32 →
    (SMap.get (fun _ => (0, 0)) s.hub.duplex.raisedAt group.toNat).1 ≠ s.hub.now + 1 →
    exec (.claimReset r token group) s = .next (s.withHub (s.hub.accepts (s.hub.setNum (Obj.recordedClaim (group.toNat - 1)) 0) r (writeMsg token Obj.claimReset [group]))))
  ∧ (∀ (s : State) (r : Requester) (token : Nat) (slot : Fin 4) (key : List Byte), s.hub.canWrite r (writeMsg token (Obj.key slot.val) key) = true → key.length = 32 → s.hub.store.bad = false →
    exec (.keyWrite r token slot key) s = .next (s.withHub (s.hub.accepts ((s.hub.keyWrite slot.val key).2) r (writeMsg token (Obj.key slot.val) key))))
  ∧ (∀ (s : State) (r : Requester) (token : Nat), s.hub.canWrite r (writeMsg token Obj.saveConfig [1]) = true → s.hub.store.bad = false →
    exec (.saveConfig r token) s = .next (s.withHub (s.hub.accepts (s.hub.saveConfigWrite.2) r (writeMsg token Obj.saveConfig [1]))))
  ∧ (∀ (s : State) (r : Requester) (token : Nat), s.hub.canWrite r (writeMsg token Obj.restoreDefaults [1]) = true → s.hub.store.bad = false →
    exec (.restoreDefaults r token) s = .next (s.withHub (s.hub.accepts ((s.hub.storeRequest rankKeeper 3 0 64).putImage (s.hub.num Obj.activeConfig) none) r (writeMsg token Obj.restoreDefaults [1]))))
  ∧ (∀ (s : State) (r : Requester) (token : Nat) (e : Fin 3), s.hub.canWrite r (writeMsg token (Obj.scanStop e.val) [1]) = true → (s.hub.scan e.val).run = scanRunning →
    exec (.scanStop r token e) s = .next (s.withHub (s.hub.accepts (s.hub.scanStopWrite e.val) r (writeMsg token (Obj.scanStop e.val) [1]))))
  ∧ (∀ (s : State) (r : Requester) (token : Nat), s.hub.canWrite r (writeMsg token Obj.faultTest [1]) = true → s.hub.flag Obj.hubFault = false →
    exec (.faultTest r token) s = .next (s.withHub (s.hub.accepts (s.hub.hubFault 8) r (writeMsg token Obj.faultTest [1]))))
  ∧ (∀ (s : State) (r : Requester) (token : Nat), s.hub.canWrite r (writeMsg token Obj.faultRecordClear [1]) = true →
    exec (.faultRecordClear r token) s = .next (s.withHub (s.hub.accepts (((Hub.setNum { s.hub with upd := { s.hub.upd with faultCause := 0, faultStamp := 0 } } Obj.persistedFaultCause 0).setNum Obj.persistedFaultStamp 0).persist 16) r (writeMsg token Obj.faultRecordClear [1]))))
  ∧ (∀ (s : State) (r : Requester) (token : Nat), s.hub.canWrite r (writeMsg token Obj.fetFaultClear [1]) = true → s.hub.pp = ppFetFault →
    exec (.fetFaultClear r token) s = .next (s.withHub (s.hub.accepts (((s.hub.setNum Obj.fetFaultCause 0).waitSeat).powerEvent 16 0 none) r (writeMsg token Obj.fetFaultClear [1]))))
  ∧ (∀ (s : State) (r : Requester) (token : Nat) (mode : BitVec 8), s.hub.canWrite r (writeMsg token Obj.pwrModeRequest [mode]) = true → mode.toNat < modeRest → s.hub.pwr.entering = none →
    exec (.pwrModeRequest r token mode) s = .next (s.withHub (s.hub.accepts (s.hub.setMode mode.toNat) r (writeMsg token Obj.pwrModeRequest [mode]))))
  ∧ (∀ (s : State) (r : Requester) (token : Nat) (mode : BitVec 8), s.hub.canWrite r (writeMsg token Obj.pwrModeRequest [mode]) = true → mode.toNat = modeRest ∨ mode.toNat = modeDormant → s.hub.pwr.entering = none → (∃ id, id < 8 ∧ sourceWorks id mode.toNat = true ∧ (s.hub.num Obj.wakeEnable).testBit id = true) → ((s.hub.num Obj.wakeEnable).testBit 1 = true → s.hub.num Obj.wakeAfter ≠ 0) →
    exec (.pwrModeRequest r token mode) s = .next (s.withHub (s.hub.accepts ({ s.hub with pwr := { s.hub.pwr with entering := some mode.toNat, armed := false, latch := false } }) r (writeMsg token Obj.pwrModeRequest [mode]))))
  ∧ (∀ (s : State) (r : Requester) (token : Nat) (domains : BitVec 16), s.hub.canWrite r (writeMsg token Obj.eavesRelease (leBytes 2 domains.toNat)) = true → domains.toNat < 8192 →
    exec (.eavesRelease r token domains) s = .next (s.withHub (s.hub.accepts (s.hub.eavesFree domains.toNat) r (writeMsg token Obj.eavesRelease (leBytes 2 domains.toNat)))))

/-- R574, R576, R577, R578, R583, R584: the write-only objects of the update, written by the stallholder where their conditions hold: staging-state and
journal-state move as R577 and R583 say, and an accepted update-restart acts after its response. -/
def Obligations.UpdateWritesMoveStagingAndJournal : Prop :=
  (∀ (s : State) (r : Requester) (token : Nat) (offset length : BitVec 32), s.hub.canWrite r (writeMsg token Obj.windowCommit (leBytes 4 offset.toNat ++ leBytes 4 length.toNat)) = true → s.hub.windowOverlaps = false → s.hub.sramLocked (s.hub.num Obj.windowBase) length.toNat = false → length.toNat ≤ s.hub.num Obj.windowSize → offset.toNat + length.toNat ≤ imageSize → s.hub.num Obj.stagingState ≠ stgArmed → s.hub.store.bad = false →
    exec (.windowCommit r token offset length) s = .next (s.withHub (s.hub.accepts ((s.hub.stagingLoad.stagingWrite offset.toNat (s.hub.host.sram.readN (s.hub.num Obj.windowBase) length.toNat)).setNum Obj.windowCommitted ((s.hub.stagingLoad.num Obj.windowCommitted + length.toNat) % 2 ^ 32)) r (writeMsg token Obj.windowCommit (leBytes 4 offset.toNat ++ leBytes 4 length.toNat)))))
  ∧ (∀ (s : State) (r : Requester) (token : Nat), s.hub.canWrite r (writeMsg token Obj.stagingVerify [1]) = true → s.hub.num Obj.stagingState ∈ [stgLoading, stgLoaded, stgInvalid] →
    exec (.stagingVerify r token) s = .next (s.withHub (s.hub.accepts
      (if (s.hub.verify s.hub.upd.staging).1 = 0 then
        (((s.hub.setNum Obj.verifyResult 0).setNum Obj.stagingState stgVerified).setNum Obj.stagingSetVersion (s.hub.upd.staging.le 4 4)).noticeS N.updateStaged fidUpdate [s.hub.upd.staging.le 4 4]
      else
        (((s.hub.setNum Obj.verifyResult (s.hub.verify s.hub.upd.staging).1).setNum Obj.stagingState stgInvalid).count Obj.verifyFailures).noticeS N.updateVerifyFailed fidUpdate [(s.hub.verify s.hub.upd.staging).1, (s.hub.verify s.hub.upd.staging).2])
      r (writeMsg token Obj.stagingVerify [1]))))
  ∧ (∀ (s : State) (r : Requester) (token : Nat), s.hub.canWrite r (writeMsg token Obj.stagingErase [1]) = true → s.hub.num Obj.stagingState ≠ stgArmed → s.hub.store.bad = false →
    exec (.stagingErase r token) s = .next (s.withHub (s.hub.accepts (Hub.setNum (Hub.setNum { s.hub with upd := { s.hub.upd with staging := {} } } Obj.stagingState stgEmpty) Obj.stagingSetVersion 0) r (writeMsg token Obj.stagingErase [1]))))
  ∧ (∀ (s : State) (r : Requester) (token : Nat), s.hub.canWrite r (writeMsg token Obj.updateArm [1]) = true → s.hub.num Obj.stagingState = stgVerified → s.hub.num Obj.journalState = jnlIdle ∨ s.hub.num Obj.journalState = jnlArmed → s.hub.store.bad = false →
    exec (.updateArm r token) s = .next (s.withHub (s.hub.accepts (((s.hub.setNum Obj.stagingState stgArmed).setNum Obj.journalState jnlArmed).storeRequest rankKeeper partJournal 0 64) r (writeMsg token Obj.updateArm [1]))))
  ∧ (∀ (s : State) (r : Requester) (token : Nat), s.hub.canWrite r (writeMsg token Obj.updateDisarm [1]) = true → s.hub.num Obj.stagingState = stgArmed → s.hub.store.bad = false →
    exec (.updateDisarm r token) s = .next (s.withHub (s.hub.accepts (((s.hub.setNum Obj.stagingState stgVerified).setNum Obj.journalState jnlIdle).storeRequest rankKeeper partJournal 0 64) r (writeMsg token Obj.updateDisarm [1]))))
  ∧ (∀ (s : State) (r : Requester) (token : Nat), s.hub.canWrite r (writeMsg token Obj.updateConfirm [1]) = true → s.hub.num Obj.journalState = jnlTrial ∨ s.hub.expiresNow = true → s.hub.store.bad = false →
    exec (.updateConfirm r token) s = .next (s.withHub (s.hub.accepts ((((({ s.hub with upd := { s.hub.upd with expired := false, expiredAt := 0 } } : Hub).setNum Obj.journalState jnlIdle).storeRequest rankKeeper partJournal 0 64).setNum Obj.frozenConfig 0xFF).noticeS N.updateConfirmed fidUpdate [s.hub.num Obj.activeSetVersion]) r (writeMsg token Obj.updateConfirm [1]))))
  ∧ (∀ (s : State) (r : Requester) (token : Nat) (part : BitVec 8), s.hub.canWrite r (writeMsg token Obj.fallbackPart [part]) = true → 1 ≤ part.toNat → part.toNat ≤ 5 → s.hub.num Obj.journalState = jnlIdle ∨ s.hub.num Obj.journalState = jnlTrial → s.hub.flag Obj.fallbackUsable = true → s.hub.pieceFits part.toNat = true → s.hub.store.bad = false →
    exec (.fallbackPart r token part) s = .next (s.withHub (s.hub.accepts ((Hub.setNum { s.hub with upd := { s.hub.upd with piece := part.toNat } } Obj.journalState jnlPiece).storeRequest rankKeeper partJournal 0 64) r (writeMsg token Obj.fallbackPart [part]))))
  ∧ (∀ (s : State) (r : Requester) (token : Nat) (slot : BitVec 8), s.hub.canWrite r (writeMsg token Obj.keyRevoke [slot]) = true → slot.toNat < 4 → (∀ m ∈ s.hub.upd.active.manifests, s.hub.upd.active.nat (m + 3) ≠ slot.toNat) → (∃ i, i < 4 ∧ i ≠ slot.toNat ∧ s.hub.slotOk i = true) → s.hub.store.bad = false →
    exec (.keyRevoke r token slot) s = .next (s.withHub (s.hub.accepts (((Hub.persist (Hub.setNum { s.hub with upd := { s.hub.upd with revoked := setBit s.hub.upd.revoked slot.toNat } } Obj.keySlotsRevoked (setBit (s.hub.num Obj.keySlotsRevoked) slot.toNat)) 64).updateViews).noticeS N.updateKeyRevoked fidUpdate [slot.toNat]) r (writeMsg token Obj.keyRevoke [slot]))))
  ∧ (∀ (s : State) (r : Requester) (token : Nat), s.hub.canWrite r (writeMsg token Obj.updateRestart [1]) = true →
    s.hub.num Obj.role ≠ roleActive ∨ s.hub.flag Obj.updateForce = true →
    exec (.updateRestart r token) s = .next (s.withHub (s.hub.accepts s.hub r (writeMsg token Obj.updateRestart [1])).updateRestart))

/-- R442, R443, R444, R445: a request for a vacant stall opens an election and gets no answer yet; one during an election joins it; a reservation grants its
target. KEEPALIVE restarts the lease, STALL_RELEASE vacates, STALL_HANDOVER reserves the stall for its target and vacates. -/
def Obligations.StallRequestsMoveTheStall : Prop :=
  (∀ (s : State) (r : Requester) (token : Nat), s.hub.serves r { op := opStallRequest, token := token } = true → s.hub.mayWrite r = true →
    s.hub.weight r.path ≠ 0 → s.hub.num Obj.stallState = 0 ∨ s.hub.num Obj.stallState = 1 →
    ∃ t, exec (.stallRequest r token) s = .next t ∧ t.pending = s.pending ∧ t.hub.num Obj.stallState = 1
      ∧ t.hub.keeper.election = s.hub.keeper.election ++ [s.hub.request r { op := opStallRequest, token := token }]
      ∧ t.hub.keeper.holder = s.hub.keeper.holder ∧ t.hub.out = s.hub.out)
  ∧ (∀ (s : State) (r : Requester) (token : Nat), s.hub.serves r { op := opStallRequest, token := token } = true → s.hub.mayWrite r = true →
    s.hub.weight r.path ≠ 0 → s.hub.num Obj.stallState = 3 → s.hub.num Obj.reservedFor = identityOf r →
    exec (.stallRequest r token) s = .next (s.withHub (s.hub.answers (s.hub.grantStall r 4) r { op := opStallRequest, token := token }
      { op := 0x50, token := token, arg := s.hub.num Obj.leaseTime })))
  ∧ (∀ (s : State) (r : Requester) (token : Nat), s.hub.canWrite r { op := opKeepalive, token := token } = true →
    exec (.keepalive r token) s = .next (s.withHub (s.hub.answers
      { s.hub with keeper := { s.hub.keeper with leaseEnd := s.hub.now + s.hub.num Obj.leaseTime * ticksPerMs } }
      r { op := opKeepalive, token := token } { op := 0x51, token := token, arg := s.hub.num Obj.leaseTime })))
  ∧ (∀ (s : State) (r : Requester) (token : Nat), s.hub.canWrite r { op := opStallRelease, token := token } = true →
    exec (.stallRelease r token) s = .next (s.withHub (s.hub.answers (((s.hub.unhold r).clearHolder 0).stallNotice (identityOf r) 0 2)
      r { op := opStallRelease, token := token } { op := 0x52, token := token })))
  ∧ (∀ (s : State) (r : Requester) (token : Nat) (target : BitVec 32),
    s.hub.canWrite r { op := opStallHandover, token := token, arg := target.toNat } = true → s.hub.targetCheck target.toNat = 0 →
    exec (.stallHandover r token target) s = .next (s.withHub (s.hub.answers
      (((((s.hub.unhold r).clearHolder 3).setNum Obj.reservedFor target.toNat).count Obj.handovers).stallNotice (identityOf r) 0 4)
      r { op := opStallHandover, token := token, arg := target.toNat } { op := 0x53, token := token, arg := target.toNat })))

/-- R442, R443, R444, R445: the election's close grants the stall to the request that ranks first, with a fresh lease, and counts it; with no one to elect
the stall is vacant again. A lapsed lease counts and leaves no holder, a lapsed reservation leaves the stall vacant, and a holder whose path has gone loses
it. -/
def Obligations.StallTimersGrantAndVacate : Prop :=
  (∀ (s : State) (w : Requester), s.hub.num Obj.stallState = 1 → s.hub.elect s.hub.candidates = some w →
    ∃ t, exec .stallElectionClose s = .next t ∧ t.pending = s.pending ∧ t.hub.keeper.holder = some w ∧ t.hub.keeper.election = []
      ∧ t.hub.num Obj.stallState = 2 ∧ t.hub.num Obj.holder = identityOf w ∧ t.hub.num Obj.elections = satAdd (maxWord 32) (s.hub.num Obj.elections) 1
      ∧ t.hub.keeper.leaseEnd = s.hub.now + s.hub.num Obj.leaseTime * ticksPerMs)
  ∧ (∀ (s : State), s.hub.num Obj.stallState = 1 → s.hub.elect s.hub.candidates = none →
    ∃ t, exec .stallElectionClose s = .next t ∧ t.pending = s.pending ∧ t.hub.keeper.holder = s.hub.keeper.holder
      ∧ t.hub.keeper.election = [] ∧ t.hub.num Obj.stallState = 0)
  ∧ (∀ (s : State) (r : Requester), s.hub.keeper.holder = some r → s.hub.renewedNow = false →
    ∃ t, exec .stallLeaseLapse s = .next t ∧ t.pending = s.pending ∧ t.hub.keeper.holder = none ∧ t.hub.num Obj.stallState = 0
      ∧ t.hub.num Obj.holder = 0 ∧ t.hub.num Obj.lapses = satAdd (maxWord 32) (s.hub.num Obj.lapses) 1
      ∧ ∀ x, t.hub.session r = some x → x.write = false)
  ∧ (∀ (s : State), s.hub.num Obj.stallState = 3 →
    ∃ t, exec .stallReservationLapse s = .next t ∧ t.pending = s.pending ∧ t.hub.num Obj.stallState = 0 ∧ t.hub.num Obj.reservedFor = 0
      ∧ t.hub.keeper = s.hub.keeper)
  ∧ (∀ (s : State) (r : Requester), s.hub.keeper.holder = some r →
    ∃ t, exec .stallPathGone s = .next t ∧ t.pending = s.pending ∧ t.hub.keeper.holder = none ∧ t.hub.num Obj.stallState = 0
      ∧ t.hub.num Obj.holder = 0 ∧ t.hub.num Obj.lapses = s.hub.num Obj.lapses)

/-- R41 to R47: a listed source that qualifies in NEVER is selected and ST steps to it; a source the list does not name is only noted. The loss of the
only source enters HOLDOVER. A map update starts a segment at the present ST, and the offset left is slewed at slew-limit, the last of it in the 125 ms
that a segment lasts at most (the model's reading, log entry 95); in NEVER there is none. -/
def Obligations.TimeSourcesMoveStationTime : Prop :=
  (∀ (s : State) (src : TimeSource) (offset rate : Int) (utc : Option Int), s.hub.sourceHolds src = true →
    s.hub.num Obj.syncState = syncNever → (rankIn (s.hub.num Obj.sourcePriority) 8 (timeCode src)).isSome = true →
    ∃ t, exec (.timeSourceQualified src offset rate utc) s = .next t ∧ t.pending = s.pending ∧ t.hub.num Obj.syncState = timeCode src
      ∧ t.hub.num Obj.timeSource = timeCode src ∧ t.hub.time.qualified.contains src = true ∧ t.hub.num Obj.lastStep = ofSigned 64 offset
      ∧ t.hub.time.track = rate ∧ t.hub.time.ltc = s.hub.time.ltc
      ∧ t.hub.time.segs = ({ l0 := s.hub.now, st0 := ((s.hub.stAt s.hub.now : Int) + offset * stPerNs).toNat, rate := rate } :: s.hub.time.segs).take 64
      ∧ ∀ u, utc = some u → t.hub.num Obj.utcOffset = ofSigned 16 u ∧ t.hub.flag Obj.utcOffsetKnown = true)
  ∧ (∀ (s : State) (src : TimeSource) (offset rate : Int) (utc : Option Int), s.hub.sourceHolds src = true →
    rankIn (s.hub.num Obj.sourcePriority) 8 (timeCode src) = none →
    ∃ t, exec (.timeSourceQualified src offset rate utc) s = .next t ∧ t.pending = s.pending ∧ t.hub.time.qualified.contains src = true
      ∧ t.hub = { s.hub with time := { s.hub.time with qualified := t.hub.time.qualified } })
  ∧ (∀ (s : State) (src : TimeSource) (offset rate : Int) (utc : Option Int), s.hub.time.qualified = [src] →
    s.hub.num Obj.timeSource = timeCode src →
    ∃ t, exec (.timeSourceLossDeclared src offset rate utc) s = .next t ∧ t.pending = s.pending ∧ t.hub.num Obj.syncState = syncHoldover
      ∧ t.hub.num Obj.timeSource = 0 ∧ t.hub.time.qualified = [] ∧ t.hub.time.slew = 0
      ∧ t.hub.num Obj.sourceLossTally = satAdd (maxWord 32) (s.hub.num Obj.sourceLossTally) 1
      ∧ t.hub.time.segs = ({ l0 := s.hub.now, st0 := s.hub.stAt s.hub.now, rate := s.hub.time.track } :: s.hub.time.segs).take 64)
  ∧ (∀ (s : State) (rate : Int), s.hub.num Obj.syncState = syncNever → exec (.timeMapUpdate rate) s = .next s)
  ∧ (∀ (s : State) (rate : Int), 1 ≤ s.hub.num Obj.syncState → s.hub.num Obj.syncState ≤ 3 →
    let rest := s.hub.time.slew - s.hub.time.slewCorr * ((ticksBetween s.hub.time.slewAt s.hub.now : Nat) : Int) * 5 / 2 / 1000000000
    let lim : Int := s.hub.num Obj.slewLimit
    let corr : Int := if rest.natAbs * 8 ≤ lim.natAbs then rest * 8 else if 0 < rest then lim else -lim
    ∃ t, exec (.timeMapUpdate rate) s = .next t ∧ t.pending = s.pending ∧ t.hub.time.track = rate ∧ t.hub.time.lastLocked = s.hub.now
      ∧ t.hub.time.slew = rest
      ∧ t.hub.time.segs = ({ l0 := s.hub.now, st0 := s.hub.stAt s.hub.now, rate := rate + corr } :: s.hub.time.segs).take 64)

/-- R50 to R53: when a listed source becomes present in INVALID, the phase clock acquires the present one of highest rank in the list; it coasts when the source it is locked on is lost, is INVALID when a source being
acquired is lost or the coast limit ends with none present; it aligns forward by a step and backward at half frequency until the phases meet. -/
def Obligations.PhaseClockFollowsItsSources : Prop :=
  (∀ (s : State) (src : PhaseSource), src ≠ .nominal → s.hub.phaseHolds src = true → s.hub.num Obj.phcState = phcInvalid →
    (rankIn (s.hub.num Obj.phcSourceList) 4 (phaseCode src)).isSome = true →
    ∃ t, exec (.phcSourcePresent src) s = .next t ∧ t.pending = s.pending ∧ t.hub.time.present.contains src = true
      ∧ t.hub.bestPhase.isSome = true
      ∧ ∀ c, t.hub.bestPhase = some c → c ≠ 3 → t.hub.num Obj.phcState = phcAcquiring ∧ t.hub.num Obj.phcSource = c)
  ∧ (∀ (s : State) (src : PhaseSource), src ≠ .nominal → s.hub.num Obj.phcSource = phaseCode src →
    ∃ t, exec (.phcSourceLoss src) s = .next t ∧ t.pending = s.pending ∧ t.hub.time.present.contains src = false
      ∧ (s.hub.num Obj.phcState = phcLocked → t.hub.num Obj.phcState = phcCoasting ∧ t.hub.num Obj.rocof = 0
          ∧ t.hub.num Obj.phcSource = phaseCode src ∧ t.hub.phaseRaw t.hub.now = s.hub.phaseRaw s.hub.now)
      ∧ (s.hub.num Obj.phcState = phcAcquiring → t.hub.num Obj.phcState = phcInvalid ∧ t.hub.num Obj.phcSource = 0
          ∧ t.hub.time.phcFreq = s.hub.num Obj.nominalFrequency * 1000))
  ∧ (∀ (s : State) (fraction : BitVec 32) (freq : Nat),
    let src := s.hub.num Obj.phcSource
    let d := shortestWay (s.hub.phaseRaw s.hub.now) (s.hub.sourcePhase src fraction.toNat freq).1
    let f := (s.hub.sourcePhase src fraction.toNat freq).2
    let acquiring := s.hub.time.phcCand = 0 ∧ s.hub.num Obj.phcState = phcAcquiring
    let realigns := s.hub.num Obj.phcState = phcLocked ∧ withinDegree d = false
    (acquiring → 0 ≤ d → ∃ t, exec (.phcLockAchieved fraction freq) s = .next t ∧ t.pending = s.pending ∧ t.hub.num Obj.phcState = phcLocked
      ∧ t.hub.num Obj.phcSource = src ∧ (src ≠ 3 → t.hub.time.phcFreq = f ∧ t.hub.phaseRaw t.hub.now = s.hub.phaseRaw s.hub.now + d.toNat))
    ∧ (acquiring → d < 0 → ∃ t, exec (.phcLockAchieved fraction freq) s = .next t ∧ t.pending = s.pending ∧ t.hub.num Obj.phcState = phcAcquiring
      ∧ t.hub.time.phcFreq = f / 2 ∧ t.hub.time.phcSlow = d.natAbs ∧ t.hub.phaseRaw t.hub.now = s.hub.phaseRaw s.hub.now)
    ∧ (realigns → 0 ≤ d → ∃ t, exec (.phcRealign fraction freq) s = .next t ∧ t.pending = s.pending ∧ t.hub.num Obj.phcState = phcLocked
      ∧ t.hub.num Obj.lastPhaseStep = ofSigned 32 (millideg d)
      ∧ (src ≠ 3 → t.hub.phaseRaw t.hub.now = s.hub.phaseRaw s.hub.now + d.toNat ∧ t.hub.time.phcFreq = f))
    ∧ (realigns → d < 0 → ∃ t, exec (.phcRealign fraction freq) s = .next t ∧ t.pending = s.pending ∧ t.hub.num Obj.phcState = phcLocked
      ∧ t.hub.num Obj.lastPhaseStep = ofSigned 32 (millideg d) ∧ t.hub.time.phcSlow = d.natAbs ∧ t.hub.time.phcFreq = f / 2)
    ∧ (¬ realigns → exec (.phcRealign fraction freq) s = .next s))
  ∧ (∀ (s : State), s.hub.time.phcSlow ≠ 0 → ∃ t, exec .phcAlignSlowDone s = .next t ∧ t.pending = s.pending ∧ t.hub.time.phcSlow = 0
      ∧ t.hub.num Obj.phcState = phcLocked ∧ t.hub.num Obj.phcSource = s.hub.time.phcSlowSrc
      ∧ (s.hub.time.phcSlowSrc ≠ 3 → t.hub.time.phcFreq = s.hub.time.phcSlowFreq ∧ t.hub.phaseRaw t.hub.now = s.hub.phaseRaw s.hub.now))
  ∧ (∀ (s : State), s.hub.num Obj.phcState = phcCoasting → ∃ t, exec .phcCoastLimitExpired s = .next t ∧ t.pending = s.pending
      ∧ (s.hub.bestPhase = none → t.hub.num Obj.phcState = phcInvalid ∧ t.hub.num Obj.phcSource = 0)
      ∧ ∀ c, s.hub.bestPhase = some c → c ≠ 3 → t.hub.num Obj.phcState = phcAcquiring ∧ t.hub.num Obj.phcSource = c)
  ∧ (∀ (s : State) (freq amplitude : Nat), s.hub.num Obj.phcSource = 1 → s.hub.num Obj.phcState = phcLocked → s.hub.time.phcSlow = 0 →
    ∃ t, exec (.mainsZeroCrossing freq amplitude) s = .next t ∧ t.pending = s.pending ∧ t.hub.num Obj.amplitude = amplitude % 65536
      ∧ t.hub.time.cycles = (freq :: s.hub.time.cycles).take 8 ∧ t.hub.time.phcFreq = freq ∧ t.hub.phaseRaw t.hub.now = s.hub.phaseRaw s.hub.now)

/-- R40, R72 to R78: LTC_NOW_LO answers its low word and latches the high one for its path; a TCAP pin keeps up to four captures, oldest read first,
and counts those beyond; a snapshot takes LTC, ST and phase of one instant; a timed output stands at its idle level while ST is not known. -/
def Obligations.CapturesAndOutputs : Prop :=
  (∀ (s : State) (path : RegPath), ∃ t, exec (.ltcNowRead path) s = .next t ∧ t.pending = s.pending
    ∧ t.hub.out = .regValue path (s.hub.now % 2 ^ 32) :: s.hub.out
    ∧ SMap.get (fun _ => 0) t.hub.time.ltcHi (pathCode path) = s.hub.now / 2 ^ 32
    ∧ t.hub = { s.hub with out := t.hub.out, time := { s.hub.time with ltcHi := t.hub.time.ltcHi } })
  ∧ (∀ (s : State) (path : RegPath), exec (.snap path) s = .next (s.withHub { s.hub with time := { s.hub.time with snap :=
      { seq := (s.hub.time.snap.seq + 1) % 256, trig := 0, src := 0, sync := s.hub.num Obj.syncState, phcState := s.hub.num Obj.phcState,
        ltc := s.hub.now, st := s.hub.stamp .H, phc := s.hub.phaseAt s.hub.now } } }))
  ∧ (∀ (s : State) (i : Fin 4) (rising : Bool) (frac : Fin 5),
    let held := SMap.get (fun _ => []) s.hub.time.tcap i.val
    let at_ := ((s.hub.now * 5 + frac.val : Nat) - s.hub.int (Obj.tcapDelay i.val) / 500 : Int).toNat
    s.hub.flag (Obj.tcapEnable i.val) = true → (s.hub.num (Obj.tcapEdge i.val)).testBit (if rising then 0 else 1) = true →
    ∃ t, exec (.tcapEdge i rising frac) s = .next t ∧ t.pending = s.pending
      ∧ (held.length < 4 → SMap.get (fun _ => []) t.hub.time.tcap i.val = held ++ [{ ltc := at_ / 5, frac := at_ % 5, rising := rising }]
          ∧ t.hub.num (Obj.tcapCount i.val) = satAdd (maxWord 32) (s.hub.num (Obj.tcapCount i.val)) 1)
      ∧ (4 ≤ held.length → SMap.get (fun _ => []) t.hub.time.tcap i.val = held
          ∧ t.hub.num (Obj.tcapOverflows i.val) = satAdd (maxWord 32) (s.hub.num (Obj.tcapOverflows i.val)) 1))
  ∧ (∀ (s : State) (path : RegPath) (i : Fin 4), ∃ t, exec (.tcapHeadRead path i) s = .next t ∧ t.pending = s.pending
    ∧ SMap.get (fun _ => []) t.hub.time.tcap i.val = (SMap.get (fun _ => []) s.hub.time.tcap i.val).tail
    ∧ t.hub.out = .regValue path (match (SMap.get (fun _ => []) s.hub.time.tcap i.val).head? with
        | some c => c.ltc / 2 ^ 32 % 2 ^ 32 | none => 0) :: s.hub.out)
  ∧ (∀ (s : State) (i : Fin 4) (rising : Bool), s.hub.num (Obj.toutMode i.val) = 2 ∨ s.hub.num (Obj.toutMode i.val) = 3 →
    ∃ t, exec (.toutTimedEdge i rising) s = .next t ∧ t.pending = s.pending
      ∧ (s.hub.num Obj.syncState = syncNever → SMap.get (fun _ => false) t.hub.time.toutLevel i.val = s.hub.flag (Obj.toutIdle i.val)
          ∧ t.hub.out = s.hub.out)
      ∧ (s.hub.num Obj.syncState ≠ syncNever → SMap.get (fun _ => false) t.hub.time.toutLevel i.val = rising
          ∧ (let early := s.hub.int (Obj.toutDelay i.val)
             let due := s.hub.toutInstant i.val rising ((s.hub.stNs s.hub.now : Nat) + early / 1000)
             t.hub.out = .tout i.val rising ((((s.hub.now : Int) + s.hub.ticksToSt due).toNat : Int) - early / 2500).toNat :: s.hub.out)))

/-- R60, R62, R64 to R67, R70: an ARMED entry commits to its firing LTC; at it the entry acts once, counts, and is DONE, or ARMED for its next
occurrence; an instant that passes is skipped or acted on late, as late-policy says. -/
def Obligations.TriggersCommitFireAndPass : Prop :=
  (∀ (s : State) (e : Fin 256), s.hub.flag Obj.hubFault = false → s.hub.num (Obj.trigState e.val) = tsArmed → s.hub.trigUsable e.val = true →
    s.hub.trigCount tsCommitted < 64 → ∃ t, exec (.triggerCommit e) s = .next t ∧ t.pending = s.pending
      ∧ t.hub.num (Obj.trigState e.val) = tsCommitted
      ∧ t.hub.trig e.val = { s.hub.trig e.val with firing := ((s.hub.now : Int) + max 0 (s.hub.trigTicks e.val (s.hub.trig e.val).target)).toNat % 2 ^ 64 }
      ∧ t.hub.dict = SMap.set dictDefault s.hub.dict (Obj.trigState e.val) (.num tsCommitted))
  ∧ (∀ (s : State) (e : Fin 256), ∀ c ∈ [(0, Instr.triggerFireNone e), (1, .triggerFireOutput e), (2, .triggerFireCstart e),
      (3, .triggerFireSeqEvent e), (4, .triggerFireCcNotice e), (5, .triggerFireCanStart e), (6, .triggerFireToutEdge e),
      (7, .triggerFireLtcCapture e)], s.hub.flag Obj.hubFault = false → s.hub.num (Obj.trigState e.val) = tsCommitted →
    s.hub.num (Obj.action e.val) = c.1 →
    let x := s.hub.num (Obj.actionTarget e.val)
    let a := s.hub.num (Obj.actionArg e.val)
    let g := s.hub.trig e.val
    let shot := s.hub.num (Obj.trigShape e.val) = 0
    let last := s.hub.num (Obj.repeatCount e.val) ≠ 0 ∧ s.hub.num (Obj.repeatCount e.val) ≤ g.fires + 1
    let next := (g.target + s.hub.num (Obj.period e.val)) % trigModulus (s.hub.num (Obj.trigBasis e.val))
    let room := s.hub.trigCount tsCommitted < 64
    let acts := s.hub.mode ≠ modeRest ∧ s.hub.laterAct e.val g.firing = none
    let h := { s.hub with time := { s.hub.time with
      lastAct := SMap.set (fun _ => none) s.hub.time.lastAct (c.1 * 65536 + x) (some (g.firing, e.val)) } }
    ∃ t, exec c.2 s = .next t ∧ t.pending = s.pending
      ∧ t.hub.num (Obj.fireCount e.val) = satAdd (maxWord 32) (s.hub.num (Obj.fireCount e.val)) 1
      ∧ t.hub.num Obj.firedTally = satAdd (maxWord 32) (s.hub.num Obj.firedTally) 1
      ∧ t.hub.num (Obj.lastFireLtc e.val) = g.firing
      ∧ (room → t.hub.num (Obj.trigState e.val) = (if shot ∨ last then tsDone else tsArmed)
          ∧ t.hub.trig e.val = (if shot ∨ last then {} else { target := next, firing := 0, fires := g.fires + 1 }))
      ∧ (c.1 = 1 → acts → room → t.hub = (h.fireOutput x a).trigFired e.val g.firing next)
      ∧ (c.1 = 5 → acts → s.hub.startYields e.val g.firing = false → room → t.hub = (h.canStartFire x a g.firing).trigFired e.val g.firing next)
      ∧ (c.1 = 2 → acts → s.hub.chanIn x modeCstart = true → (t.hub.chan x).cstart = true)
      ∧ (c.1 = 3 → acts → (t.hub.sq x).events = setBit (s.hub.sq x).events a)
      ∧ (c.1 = 4 → acts → x ≠ 0 → Out.keeperNotice e.val ∈ t.hub.out)
      ∧ (c.1 = 6 → acts → s.hub.num (Obj.toutMode x) = 1 → a ≤ 1 → SMap.get (fun _ => false) t.hub.time.toutLevel x = (a == 1))
      ∧ (c.1 = 7 → acts → t.hub.time.snap = { seq := (s.hub.time.snap.seq + 1) % 256, trig := e.val, src := 1, sync := s.hub.num Obj.syncState, phcState := s.hub.num Obj.phcState, ltc := s.hub.now, st := s.hub.stamp .H, phc := s.hub.phaseAt s.hub.now }))
  ∧ (∀ (s : State) (e : Fin 256), s.hub.flag Obj.hubFault = false → s.hub.num (Obj.trigState e.val) = tsArmed → s.hub.trigUsable e.val = true →
    s.hub.num (Obj.latePolicy e.val) = 0 →
    let n := s.hub.passedCount e.val (s.hub.trig e.val).target
    ∃ t, exec (.triggerInstantPassed e) s = .next t ∧ t.pending = s.pending
      ∧ t.hub.num Obj.missedTally = satAdd (maxWord 32) (s.hub.num Obj.missedTally) n ∧ t.hub.num Obj.firedTally = s.hub.num Obj.firedTally
      ∧ (s.hub.num (Obj.trigShape e.val) = 0 → t.hub.num (Obj.trigState e.val) = tsMissed ∧ t.hub.trig e.val = {})
      ∧ (s.hub.num (Obj.trigShape e.val) ≠ 0 → t.hub.num (Obj.trigState e.val) = tsArmed ∧ t.hub.trig e.val = { s.hub.trig e.val with
          target := ((s.hub.trig e.val).target + n * s.hub.num (Obj.period e.val)) % trigModulus (s.hub.num (Obj.trigBasis e.val)) }))
  ∧ (∀ (s : State) (e : Fin 256), s.hub.flag Obj.hubFault = false → s.hub.num (Obj.trigState e.val) = tsArmed → s.hub.trigUsable e.val = true →
    s.hub.num (Obj.latePolicy e.val) ≠ 0 → s.hub.num (Obj.trigShape e.val) = 0 → s.hub.num (Obj.action e.val) = 0 →
    ∃ t, exec (.triggerInstantPassed e) s = .next t ∧ t.pending = s.pending ∧ t.hub.num (Obj.trigState e.val) = tsDone
      ∧ t.hub.num Obj.lateTally = satAdd (maxWord 32) (s.hub.num Obj.lateTally) 1
      ∧ t.hub.num (Obj.fireCount e.val) = satAdd (maxWord 32) (s.hub.num (Obj.fireCount e.val)) 1
      ∧ t.hub.num (Obj.lastFireLtc e.val) = s.hub.now)
  ∧ (∀ (s : State), ∃ t, exec .controlCycleBoundary s = .next t ∧ t.pending = s.pending
      ∧ t.hub.time.ccNumber = (s.hub.applyRwb [Obj.ccMode, Obj.ccSlices, Obj.ccPeriod, Obj.ccOffset]).ccAt s.hub.now)

/-- R87, R96, R106, R109, R110, R111, R117: a port with block lock qualifies and comes up, and its span is restored; a lost link marks its span broken and a BRK
leaves by the other port; breaks reported by others move the break map; a body that stalls counts as aborted, and goes on along the ridge path as such;
orphan blocks are counted; a sequence window that has aged is empty again. -/
def Obligations.RingLinksBreaksAndWindows : Prop :=
  (∀ (s : State) (west : Bool), s.hub.isOn (fidRingPort (portIx west)) = true → s.hub.portUp west = false →
    ∃ t, exec (.ringBlockLockGained west) s = .next t ∧ t.pending = s.pending ∧ t.hub.num (Obj.rportLinkState (portIx west)) = linkQualifying
      ∧ (t.hub.lane west).lock = true)
  ∧ (∀ (s : State) (west : Bool), s.hub.mayQualify west = true →
    ∃ t, exec (.ringLinkQualified west) s = .next t ∧ t.pending = s.pending ∧ t.hub.num (Obj.rportLinkState (portIx west)) = linkUp
      ∧ (t.hub.lane west).lost = false
      ∧ (s.hub.isMember = true → (s.hub.lane west).lost = true → 1 ≤ s.hub.spanOf west → s.hub.spanOf west ≤ 64 →
          t.hub.num Obj.breakMap = clearBit (s.hub.num Obj.breakMap) (s.hub.spanOf west - 1)
          ∧ (t.hub.lane west).loc.map (·.type) = (s.hub.lane west).loc.map (·.type) ++ [tBrk]
          ∧ (s.hub.portUp (!west) = true → (t.hub.lane (!west)).loc.map (·.type) = (s.hub.lane (!west)).loc.map (·.type) ++ [tBrk]))
      ∧ (s.hub.num Obj.joinState = joinDown ∨ s.hub.num Obj.joinState = joinTransit → s.hub.refused = false →
          t.hub.num Obj.joinState = (if t.hub.ring.wantId = 0 then joinTransit else joinJoining)))
  ∧ (∀ (s : State) (west : Bool) (mid : Option RingFrame),
    ∀ c ∈ [(linkDown, Instr.ringLockLoss ⟨west, mid⟩), (linkRemoteFault, Instr.remoteFaultRx west)], s.hub.isOn (fidRingPort (portIx west)) = true →
    s.hub.num (Obj.rportLinkState (portIx west)) ≠ linkDown →
    c.1 ≠ linkRemoteFault ∨ s.hub.num (Obj.rportLinkState (portIx west)) ≠ linkRemoteFault →
    ∃ t, exec c.2 s = .next t ∧ t.pending = s.pending ∧ t.hub.num (Obj.rportLinkState (portIx west)) = c.1 ∧ (t.hub.lane west).lost = true
      ∧ (t.hub.lane west).loc = [] ∧ (t.hub.lane west).prio = [] ∧ (t.hub.lane west).bulk = []
      ∧ t.hub.num (Obj.linkLossTally (portIx west)) = satAdd (maxWord 32) (s.hub.num (Obj.linkLossTally (portIx west))) 1
      ∧ (s.hub.isMember = true → 1 ≤ s.hub.spanOf west → s.hub.spanOf west ≤ 64 →
          t.hub.num Obj.breakMap = setBit (s.hub.num Obj.breakMap) (s.hub.spanOf west - 1)
          ∧ (s.hub.portUp (!west) = true → (t.hub.lane (!west)).loc.getLast?.map (fun f => (f.type, f.payload))
                = some (tBrk, [1, BitVec.ofNat 8 (s.hub.spanOf west)] ++ beBytes 8 (setBit (s.hub.num Obj.breakMap) (s.hub.spanOf west - 1))))))
  ∧ (∀ (s : State) (west : Bool) (f : RingFrame), (s.hub.receive west f).1 = true → s.hub.isMember = true → f.type = tBrk →
    1 ≤ byteAt f.payload 1 → byteAt f.payload 1 ≤ 64 → ∃ t, exec (.brkRx west f) s = .next t ∧ t.pending = s.pending
      ∧ t.hub.num Obj.breakMap = (if byteAt f.payload 0 = 1 then setBit (s.hub.num Obj.breakMap) (byteAt f.payload 1 - 1)
          else clearBit (s.hub.num Obj.breakMap) (byteAt f.payload 1 - 1)))
  ∧ (∀ (s : State) (west : Bool) (f : RingFrame), s.hub.portUp west = true →
    (∃ t, exec (.ringBodyTimeout west f) s = .next t ∧ t.pending = s.pending
      ∧ t.hub.num (Obj.abortedFrames (portIx west)) = satAdd (maxWord 32) (s.hub.num (Obj.abortedFrames (portIx west))) 1)
    ∧ (headerError f = false → s.hub.num Obj.pwrMode ≠ 4 → f.dst ≠ broadcastId → f.dst ≠ s.hub.self → f.src = 0 ∨ f.src ≠ s.hub.self →
      exec (.ringBodyTimeout west f) s = .next (s.withHub
        (((s.hub.count (Obj.abortedFrames (portIx west))).count (Obj.rportFramesRx (portIx west))).ridge west { f with aborted := true }))))
  ∧ (∀ (s : State) (west : Bool) (n : Nat), s.hub.portUp west = true → ∃ t, exec (.ringOrphanBlocks west n) s = .next t ∧ t.pending = s.pending
      ∧ t.hub.num (Obj.orphanBursts (portIx west)) = satAdd (maxWord 32) (s.hub.num (Obj.orphanBursts (portIx west))) 1
      ∧ t.hub.num (Obj.orphanBytes (portIx west)) = satAdd (maxWord 32) (s.hub.num (Obj.orphanBytes (portIx west))) n)
  ∧ (∀ (s : State) (src : Fin 128) (cls : Fin 2), ∃ t, exec (.seqWindowAgeExpired src cls) s = .next t ∧ t.pending = s.pending
      ∧ t.hub = { s.hub with ring := { s.hub.ring with windows := t.hub.ring.windows } } ∧ t.hub.window src.val cls.val = {}
      ∧ ∀ p, p ≠ src.val → t.hub.window p cls.val = s.hub.window p cls.val)

/-- R96, R97, R99 to R102: a hub joins through the steward it heard, or becomes steward when it heard none, or when its id is the lower one; the steward grants,
refuses and removes members; a member takes the maps of its steward's beacons, a transit-only hub those of the steward it hears, and a member takes over when they stop. A request for an id that no node may have is
refused as a duplicate (the model's choice, log entry 96). -/
def Obligations.RingJoinsAndStewardship : Prop :=
  (∀ (s : State), s.hub.num Obj.joinState = joinJoining → s.hub.ring.listening = true →
    ∃ t, exec .joinListenExpired s = .next t ∧ t.pending = s.pending ∧ t.hub.ring.listening = false
      ∧ (s.hub.ring.heard = 0 → t.hub.num Obj.joinState = joinMember ∧ t.hub.self = s.hub.ring.wantId ∧ t.hub.num Obj.stewardId = s.hub.ring.wantId
        ∧ t.hub.num Obj.memberMap = 2 ^ (s.hub.ring.wantId - 1)
        ∧ ((s.hub.lane false).lost = false → (s.hub.lane true).lost = false → t.hub.num Obj.breakMap = s.hub.num Obj.breakMap)
        ∧ ((s.hub.lane false).lost = true → (s.hub.lane true).lost = false → 1 ≤ s.hub.ring.wantId → s.hub.ring.wantId ≤ 64 →
            t.hub.num Obj.breakMap = setBit (s.hub.num Obj.breakMap) (s.hub.ring.wantId - 1)))
      ∧ (s.hub.ring.heard ≠ 0 → t.hub.num Obj.joinState = joinJoining ∧ t.hub.ring.tries = 1 ∧ t.hub.ring.nonce = Config.free 32 s.hub.freeCtr
        ∧ (s.hub.portUp s.hub.ring.heardWest = true →
          (t.hub.lane s.hub.ring.heardWest).loc.map (fun f => (f.src, f.dst, f.payload)) = (s.hub.lane s.hub.ring.heardWest).loc.map (fun f => (f.src, f.dst, f.payload))
          ++ [(0, s.hub.ring.heard, [0x80, BitVec.ofNat 8 s.hub.ring.wantId, BitVec.ofNat 8 (s.hub.num Obj.class01Rate), BitVec.ofNat 8 (s.hub.num Obj.insertionWeight)]
            ++ beBytes 4 t.hub.ring.nonce.toNat)])))
  ∧ (∀ (s : State), s.hub.num Obj.joinState = joinJoining → s.hub.ring.tries ≠ 0 → ∃ t, exec .joinAnswerTimeout s = .next t ∧ t.pending = s.pending
      ∧ (s.hub.ring.tries < 3 → t.hub.ring.tries = s.hub.ring.tries + 1 ∧ t.hub.ring.nonce = Config.free 32 s.hub.freeCtr ∧ t.hub.num Obj.joinState = joinJoining)
      ∧ (3 ≤ s.hub.ring.tries → t.hub.num Obj.joinState = joinTransit ∧ t.hub.num Obj.refuseReason = 3 ∧ t.hub.self = 0))
  ∧ (∀ (s : State) (west : Bool) (f : RingFrame), (s.hub.receive west f).1 = true →
    let op := byteAt f.payload 0
    let id := byteAt f.payload 1
    let mine := s.hub.num Obj.joinState = joinJoining ∧ s.hub.ring.tries ≠ 0 ∧ beAt f.payload 4 4 = s.hub.ring.nonce.toNat
    let grant := min (byteAt f.payload 2) (s.hub.class01Limit - s.hub.grantSum)
    let reply := fun (h : Hub) (op x : Nat) => ∀ w ∈ [false, true], s.hub.portUp w = true → (h.lane w).loc.getLast?.map (fun f => (f.dst, f.payload))
      = some (broadcastId, [BitVec.ofNat 8 op, BitVec.ofNat 8 id, BitVec.ofNat 8 x, 0] ++ beBytes 4 (beAt f.payload 4 4))
    (f.type = tMgmt → op = 0x80 → s.hub.isMember = true → s.hub.num Obj.stewardId = s.hub.self → ∃ t, exec (.joinReqRx west f) s = .next t ∧ t.pending = s.pending
      ∧ (s.hub.memberOf id = true ∨ id = 0 ∨ 64 < id → t.hub.num Obj.memberMap = s.hub.num Obj.memberMap ∧ reply t.hub 0x82 1)
      ∧ (s.hub.memberOf id = false → 1 ≤ id → id ≤ 64 → grant = 0 → t.hub.num Obj.memberMap = s.hub.num Obj.memberMap ∧ reply t.hub 0x82 2)
      ∧ (s.hub.memberOf id = false → 1 ≤ id → id ≤ 64 → grant ≠ 0 →
          t.hub.num Obj.memberMap = setBit (s.hub.num Obj.memberMap) (id - 1) ∧ reply t.hub 0x81 grant ∧ t.hub.window id 0 = {} ∧ t.hub.window id 1 = {}))
    ∧ (f.type = tMgmt → op = 0x81 → mine → ∃ t, exec (.joinAckRx west f) s = .next t ∧ t.pending = s.pending ∧ t.hub.num Obj.joinState = joinMember
      ∧ t.hub.ring.tries = 0
      ∧ (f.src ≤ id → t.hub.self = id ∧ t.hub.num Obj.stewardId = f.src ∧ t.hub.num Obj.grantedClass01Rate = byteAt f.payload 2)
      ∧ (id < f.src → t.hub.self = s.hub.ring.wantId ∧ t.hub.num Obj.stewardId = s.hub.ring.wantId))
    ∧ (f.type = tMgmt → op = 0x82 → mine → ∃ t, exec (.joinRefuseRx west f) s = .next t ∧ t.pending = s.pending ∧ t.hub.num Obj.joinState = joinTransit
      ∧ t.hub.num Obj.refuseReason = byteAt f.payload 2 ∧ t.hub.self = 0)
    ∧ (f.type = tMgmt → op = 0x83 → s.hub.isMember = true → s.hub.memberOf id = true → ∃ t, exec (.leaveRx west f) s = .next t ∧ t.pending = s.pending
      ∧ t.hub.num Obj.memberMap = clearBit (s.hub.num Obj.memberMap) (id - 1) ∧ t.hub.memberOf id = false)
    ∧ (f.type = tBcn → ∃ t, exec (.bcnRx west f) s = .next t ∧ t.pending = s.pending
      ∧ (s.hub.num Obj.joinState = joinJoining → s.hub.ring.listening = true → t.hub.ring.heard = f.src ∧ t.hub.ring.heardWest = west)
      ∧ (s.hub.isMember = true → f.src = s.hub.num Obj.stewardId → t.hub.ring.stewardLost = false ∧ t.hub.num Obj.memberMap = beAt f.payload 0 8
        ∧ t.hub.num Obj.breakMap = beAt f.payload 8 8 ∧ t.hub.num Obj.ringClass01Sum = beAt f.payload 80 2)
      ∧ (s.hub.isMember = true → f.src ≠ s.hub.num Obj.stewardId → f.src < s.hub.self ∨ s.hub.num Obj.stewardId ≠ s.hub.self →
          t.hub.num Obj.stewardId = f.src ∧ t.hub.num Obj.joinState ≠ joinMember)
      ∧ (s.hub.isMember = false → s.hub.num Obj.joinState ≠ joinJoining →
          t.hub.num Obj.stewardId = f.src ∧ t.hub.num Obj.memberMap = beAt f.payload 0 8 ∧ t.hub.num Obj.breakMap = beAt f.payload 8 8)))
  ∧ (∀ (s : State) (west : Bool) (f : RingFrame), (s.hub.frameArrives west f).1 = true → f.intact = true → f.type = tMgmt → byteAt f.payload 0 = 0x84 →
    ∃ t, exec (.helloRx west f) s = .next t ∧ t.pending = s.pending
      ∧ t.hub.num (if west then Obj.neighbourW else Obj.neighbourE) = byteAt f.payload 1
      ∧ (if west then t.hub.ring.helloWestW else t.hub.ring.helloWestE) = byteAt f.payload 2)
  ∧ (∀ (s : State), s.hub.isMember = true →
    (s.hub.num Obj.stewardId = s.hub.self → s.hub.self ≠ 0 → s.hub.flag Obj.hubFault = false → ∃ t, exec .bcnSend s = .next t ∧ t.pending = s.pending
      ∧ t.hub.ring.beaconCount = (s.hub.ring.beaconCount + 1) % 2 ^ 32
      ∧ ∀ w ∈ [false, true], s.hub.portUp w = true → (t.hub.lane w).loc.map (fun f => (f.type, f.payload)) = (s.hub.lane w).loc.map (fun f => (f.type, f.payload)) ++ [(tBcn, t.hub.bcnPayload)])
    ∧ (s.hub.num Obj.stewardId ≠ s.hub.self → exec .beaconMissed s = .next { s with hub := { s.hub with ring := { s.hub.ring with stewardLost := true } } })
    ∧ (s.hub.ring.stewardLost = true → ∃ t, exec .stewardRankWaitExpired s = .next t ∧ t.pending = s.pending ∧ t.hub.num Obj.stewardId = s.hub.self
      ∧ t.hub.isMember = true ∧ t.hub.ring.stewardLost = false)
    ∧ (s.hub.flag Obj.hubFault = false → ∃ t, exec .helloSend s = .next t ∧ t.pending = s.pending
      ∧ ∀ w ∈ [false, true], (t.hub.lane w).loc.map (fun f => (f.type, f.payload)) = (s.hub.lane w).loc.map (fun f => (f.type, f.payload))
        ++ (if s.hub.portUp w = true then [(tMgmt, [0x84, BitVec.ofNat 8 s.hub.self, BitVec.ofNat 8 s.hub.self, 0, 0, 0, 0, 0])] else [])))

/-- R87, R92, R113 to R117: credit and tokens are given again; at a frame boundary of a port that is UP, BRK frames leave first, then transit frames of ranks 1
and 2, then beacons and classes 0 and 1 with a token, then transit frames and local classes 2 to 7 by credit; a local frame that must wait counts once. A
frame leaves with what its departure inserts and with its trailer, an aborted one with the abort marker after it. -/
def Obligations.RingLanesSendByRank : Prop :=
  (∀ (s : State) (west : Bool),
    let l := s.hub.lane west
    let sent := fun (l' : Lane) (f : RingFrame) (t : State) => t.pending = s.pending
      ∧ t.hub.lane west = (if f.type = tTime ∧ byteAt f.payload 0 = 1 then { l' with delayT1 := s.hub.stUnits s.hub.now (s.hub.txFrac west) } else l')
      ∧ t.hub.lane (!west) = s.hub.lane (!west)
      ∧ t.hub.out = (if f.aborted then [.ringControl west .abortMarker, .ringControl west .idle] else [])
          ++ .ringFrame west (s.hub.departing west f).sealed :: s.hub.out
      ∧ t.hub.num (Obj.rportFramesTx (portIx west)) = satAdd (maxWord 32) (s.hub.num (Obj.rportFramesTx (portIx west))) 1
    let noBrk := fun (fs : List RingFrame) => fs.all (fun f => f.type != tBrk) = true
    let first := fun (f : RingFrame) => f.type = tBcn ∨ f.cls ≤ 1 ∧ 0 < l.tokens
    let wait := fun (f : RingFrame) => if f.waited then s.hub.num (Obj.creditWaits (portIx west)) else satAdd (maxWord 32) (s.hub.num (Obj.creditWaits (portIx west))) 1
    (∃ t, exec (.insertionCreditPeriod west) s = .next t ∧ t.pending = s.pending ∧ t.hub.lane (!west) = s.hub.lane (!west)
      ∧ t.hub.lane west = { l with credit := (if s.hub.num Obj.ringRate = 0 then 31250 else 12500) * s.hub.num Obj.insertionWeight / s.hub.ring.weightSum })
    ∧ (∃ t, exec (.class01TokenRefill west) s = .next t ∧ t.pending = s.pending ∧ t.hub.lane (!west) = s.hub.lane (!west)
      ∧ t.hub.lane west = { l with tokens := s.hub.num Obj.grantedClass01Rate })
    ∧ (s.hub.portUp west = false → exec (.ringTxFrameDone west) s = .next s)
    ∧ (s.hub.portUp west = true →
      (∀ f fs, l.prio = f :: fs → f.type = tBrk → ∃ t, exec (.ringTxFrameDone west) s = .next t ∧ sent { l with prio := fs } f t)
      ∧ (∀ f fs, l.loc = f :: fs → f.type = tBrk → noBrk l.prio → s.hub.flag Obj.hubFault = false →
          ∃ t, exec (.ringTxFrameDone west) s = .next t ∧ sent { l with loc := fs } f t)
      ∧ (∀ f fs, l.prio = f :: fs → noBrk l.prio → noBrk l.loc → ∃ t, exec (.ringTxFrameDone west) s = .next t ∧ sent { l with prio := fs } f t)
      ∧ (∀ f fs, l.loc = f :: fs → l.prio = [] → noBrk l.loc → s.hub.flag Obj.hubFault = false → first f →
          ∃ t, exec (.ringTxFrameDone west) s = .next t ∧ sent { l with loc := fs, tokens := if f.cls ≤ 1 then l.tokens - 1 else l.tokens } f t)
      ∧ (∀ f, l.loc = [f] → l.prio = [] → l.bulk = [] → f.type ≠ tBrk → 2 ≤ f.cls → f.cls ≤ 7 → f.type ≠ tBcn → s.hub.flag Obj.hubFault = false →
          ∃ t, exec (.ringTxFrameDone west) s = .next t ∧ sent { l with loc := [] } f t)
      ∧ (∀ f fs, l.bulk = f :: fs → l.prio = [] → l.loc = [] → ∃ t, exec (.ringTxFrameDone west) s = .next t ∧ sent { l with bulk := fs } f t)
      ∧ (∀ b bs, l.bulk = b :: bs → ∀ f, l.loc = [f] → l.prio = [] → f.type ≠ tBrk → 2 ≤ f.cls → f.cls ≤ 7 → f.type ≠ tBcn → s.hub.flag Obj.hubFault = false →
          bulkBytes l ≤ 16384 → ∃ t, exec (.ringTxFrameDone west) s = .next t ∧ (f.occupancy ≤ l.credit → sent { l with loc := [], credit := l.credit - f.occupancy } f t)
            ∧ (l.credit < f.occupancy → sent { l with bulk := bs, loc := [{ f with waited := true }] } b t ∧ t.hub.num (Obj.creditWaits (portIx west)) = wait f))
      ∧ (l.prio = [] → l.loc = [] → l.bulk = [] → exec (.ringTxFrameDone west) s = .next s)))

/-- R51, R104, R119 to R121, R123: a port of a member asks its neighbour with DELAY_REQ and answers one with DELAY_RESP, and link-delay is the mean of the last 8
values; a candidate sends SYNC on both paths, and the lowest-id master heard is followed; a phase master sends PHASE, and the lowest-id sender is followed. -/
def Obligations.RingTimeAndPhaseFrames : Prop :=
  (∀ (s : State) (west : Bool),
    let nb := s.hub.num (if west then Obj.neighbourW else Obj.neighbourE)
    let zeros := beBytes 16 0
    (s.hub.portUp west = true → s.hub.isMember = true → nb ≠ 0 → s.hub.flag Obj.hubFault = false →
      ∃ t, exec (.linkDelayMeasure west) s = .next t ∧ t.pending = s.pending
      ∧ (t.hub.lane west).loc.map (fun f => (f.type, f.stamp, f.dst, f.payload)) = (s.hub.lane west).loc.map (fun f => (f.type, f.stamp, f.dst, f.payload))
        ++ [(tTime, true, nb, [1, 0, 0, 0] ++ zeros)])
    ∧ (∀ f : RingFrame,
      ((s.hub.neighbourFrame west f 1).1 = true → ∃ t, exec (.delayReqRx west f) s = .next t ∧ t.pending = s.pending
        ∧ (t.hub.lane west).loc.map (fun f => (f.type, f.stamp, f.dst, f.payload)) = (s.hub.lane west).loc.map (fun f => (f.type, f.stamp, f.dst, f.payload))
          ++ [(tTime, true, f.src, [2, 0, 0, 0] ++ beBytes 16 (s.hub.stamp128At .H s.hub.now f.frac) ++ zeros)])
      ∧ ((s.hub.neighbourFrame west f 2).1 = true →
        let t1 : Int := (s.hub.lane west).delayT1
        let t2 : Int := stamp128Units (beAt f.payload 4 16)
        let t3 : Int := stamp128Units (beAt f.payload 20 16)
        let t4 : Int := s.hub.stUnits s.hub.now f.frac
        let value := ((t4 - t1) - (t3 - t2)) * 500 / 65536 + s.hub.int (Obj.asymmetry (portIx west))
        let ds := (value :: (s.hub.lane west).delays).take 8
        ∃ t, exec (.delayRespRx west f) s = .next t ∧ t.pending = s.pending
          ∧ (t.hub.lane west).delays = ds ∧ t.hub.num (Obj.linkDelay (portIx west)) = ((ds.foldl (· + ·) (0 : Int)) / (ds.length : Int)).toNat)))
  ∧ (∀ (s : State), s.hub.timeCandidate = true → s.hub.flag Obj.hubFault = false → ∃ t, exec .timeSyncSend s = .next t ∧ t.pending = s.pending
      ∧ ∀ w ∈ [false, true], s.hub.portUp w = true →
        (t.hub.lane w).loc.map (fun f => (f.type, f.stamp, f.path, f.payload.take 20)) = (s.hub.lane w).loc.map (fun f => (f.type, f.stamp, f.path, f.payload.take 20))
        ++ [(tTime, true, 3, [0, BitVec.ofNat 8 (s.hub.num Obj.utcOffsetKnown), 0, 0] ++ beBytes 16 0)])
  ∧ (∀ (s : State), s.hub.flag Obj.phaseMaster = true → s.hub.isMember = true → s.hub.flag Obj.hubFault = false →
      exec .phaseFrameSend s = .next (s.withHub (s.hub.sendBoth { dst := broadcastId, cls := 1, type := tPhase, stamp := true, payload := s.hub.phasePayload })))
  ∧ (∀ (s : State) (west : Bool) (f : RingFrame), f.type = tTime → byteAt f.payload 0 = 0 → (s.hub.receiveStamped west f).1 = true →
    ∃ t, exec (.timeSyncRx west f) s = .next t ∧ t.pending = s.pending ∧ t.hub.num Obj.timeMasterId = t.hub.lowestMaster
      ∧ SMap.get (fun _ => 0) t.hub.ring.syncSeen f.src = (if byteAt f.payload 28 = 1 ∨ byteAt f.payload 28 = 3 then s.hub.now + 1 else 0))
  ∧ (∀ (s : State) (west : Bool) (f : RingFrame), f.type = tPhase → (s.hub.receiveStamped west f).1 = true →
    ∃ t, exec (.phaseRx west f) s = .next t ∧ t.pending = s.pending ∧ SMap.get (fun _ => 0) t.hub.ring.phaseSeen f.src = s.hub.now + 1
      ∧ t.hub.ring.phaseMasterId = t.hub.lowestPhase
      ∧ (t.hub.ring.phaseMasterId ≠ f.src →
          t.hub.num Obj.phaseMasterConflicts = satAdd (maxWord 32) (s.hub.num Obj.phaseMasterConflicts) 1)
      ∧ (t.hub.ring.phaseMasterId = f.src → t.hub.time.ringFreq = beAt f.payload 16 4 ∧ t.hub.time.ringL0 = s.hub.now))

/-- R138 to R141, R147, R156, R157, R162, R165, R209: what the host asks of a window is refused and logged, or becomes transactions, which leave behind an
AtomicOp of the window that has not left; reads end with their data or as Completer Abort; a read that is told to come again comes again; an AtomicOp takes
the one slot or waits for it, and one that is locked out frees it and waits before it comes again. A poisoned write is discarded. -/
def Obligations.WindowsReadWriteAndLock : Prop :=
  (∀ (s : State) (x len : Nat) (whole : Bool),
    let w := (windowOf x).1
    let addr := s.hub.num (Obj.ringBase w) + (windowOf x).2
    let r := s.hub.refusal w (windowOf x).2 len whole 2 (s.hub.readLabel w)
    let rd := { txn (addrNode addr) tRd 2 addr w 0 s.hub.bridge.nextTag (beBytes 2 len ++ beBytes 2 0) with src := s.hub.self }
    (s.hub.inD0 = true → x + len ≤ 2 ^ 30 → r ≠ 0 → ∃ t, exec (.hostWindowRead .bar2 x len whole) s = .next t ∧ t.pending = s.pending ∧ t.hub.out.head? = some .hostAbort
      ∧ t.hub.bridge.parts = s.hub.bridge.parts ∧ t.hub.bridge.logSeq = s.hub.bridge.logSeq + 1
      ∧ t.hub.num (Obj.refusedAccesses w) = satAdd (maxWord 32) (s.hub.num (Obj.refusedAccesses w)) 1)
    ∧ (s.hub.inD0 = true → x + len ≤ 2 ^ 30 → r = 0 → 0 < len → (windowOf x).2 % s.hub.num (Obj.accessMax w) + len ≤ s.hub.num (Obj.accessMax w) →
      ∃ t, exec (.hostWindowRead .bar2 x len whole) s = .next t ∧ t.pending = s.pending
        ∧ t.hub.bridge.parts = s.hub.bridge.parts ++ [{ tag := s.hub.bridge.nextTag, host := s.hub.bridge.nextHost, w := w, addr := addr, len := len }]
        ∧ t.hub.num (Obj.readsIssued w) = satAdd (maxWord 32) (s.hub.num (Obj.readsIssued w)) 1
        ∧ t.hub.bridge.nextTag = (s.hub.bridge.nextTag + 1) % 65536
        ∧ (s.hub.lastUnsent w = none → addrNode addr = s.hub.self → t.hub.bridge.loop = s.hub.bridge.loop ++ [rd])
        ∧ (∀ a, s.hub.lastUnsent w = some a → t.hub.bridge.loop = s.hub.bridge.loop
            ∧ t.hub.bridge.behind.map (·.after) = s.hub.bridge.behind.map (·.after) ++ [a.tag]))
    ∧ (s.hub.inD0 = true → x + len ≤ 2 ^ 21 → s.hub.sramLocked x len = false → s.hub.poisoned x len = false → exec (.hostWindowRead .bar4 x len whole) s
        = .next (s.withHub (s.hub.emit (.hostData ((List.range len).map (fun i => Memory.read s.hub.host.sram (x + i)))))))
    ∧ (s.hub.inD0 = true → x + 4 ≤ 2 ^ 24 → x % 4 = 0 → qportAt x = none → exec (.hostWindowRead .bar0 x 4 whole) s
        = .next (s.withHub ((s.hub.regRead .pcie x).2.emit (.hostData (leBytes 4 (s.hub.regRead .pcie x).1)))))
    ∧ (x + len ≤ 4096 → exec (.hostWindowRead .config x len whole) s
        = .next (s.withHub (s.hub.emit (.hostData (leBytes 4 (s.hub.configWord (x / 4 * 4)))))))
    ∧ (∀ bar ∈ [HostBar.bar0, .bar2, .bar4, .config, .outside], s.hub.barHolds bar x len = false →
        exec (.hostWindowRead bar x len whole) s = .next (s.withHub s.hub.unsupported)))
  ∧ (∀ (s : State) (x : Nat) (data : List Byte) (whole : Bool),
    let w := (windowOf x).1
    let addr := s.hub.num (Obj.ringBase w) + (windowOf x).2
    let cls := s.hub.num (Obj.writeClass w)
    let r := s.hub.refusal w (windowOf x).2 data.length whole cls (0x100 + w)
    let tag := SMap.get (fun _ => 0) s.hub.bridge.wtags w
    let body := slice (s.hub.winLane w data) 0 data.length
    let in2 := s.hub.inD0 = true ∧ x + data.length ≤ 2 ^ 30
    let in4 := s.hub.inD0 = true ∧ x + data.length ≤ 2 ^ 21
    (in2 → r ≠ 0 → ∃ t, exec (.hostWindowWrite .bar2 x data (if whole then .whole else .bytes)) s = .next t ∧ t.pending = s.pending ∧ t.hub.bridge.logSeq = s.hub.bridge.logSeq + 1
      ∧ t.hub.num (Obj.refusedAccesses w) = satAdd (maxWord 32) (s.hub.num (Obj.refusedAccesses w)) 1
      ∧ t.hub.num (Obj.writesFaulted w) = satAdd (maxWord 32) (s.hub.num (Obj.writesFaulted w)) 1)
    ∧ (in2 → r = 0 → data ≠ [] → (windowOf x).2 % s.hub.num (Obj.accessMax w) + data.length ≤ s.hub.num (Obj.accessMax w) →
      ∃ t, exec (.hostWindowWrite .bar2 x data (if whole then .whole else .bytes)) s = .next t ∧ t.pending = s.pending ∧ (t.hub.fence w).wrote = true
        ∧ t.hub.num (Obj.writesIssued w) = satAdd (maxWord 32) (s.hub.num (Obj.writesIssued w)) 1
        ∧ SMap.get (fun _ => 0) t.hub.bridge.wtags w = (tag + 1) % 65536
        ∧ (s.hub.lastUnsent w = none → addrNode addr = s.hub.self →
            t.hub.bridge.loop = s.hub.bridge.loop ++ [{ txn (addrNode addr) tWrp cls addr w 0 tag body with src := s.hub.self }]))
    ∧ (in4 → s.hub.sramLocked x data.length = false → ∃ t, exec (.hostWindowWrite .bar4 x data (if whole then .whole else .bytes)) s = .next t ∧ t.pending = s.pending
      ∧ ∀ p : Nat, Memory.read t.hub.host.sram p = if x ≤ p ∧ p < x + data.length then data.getD (p - x) 0 else Memory.read s.hub.host.sram p)
    ∧ (in2 → ∃ t, exec (.hostWindowWrite .bar2 x data .poisoned) s = .next t ∧ t.pending = s.pending ∧ t.hub.bridge = s.hub.bridge
      ∧ t.hub.num (Obj.refusedAccesses w) = satAdd (maxWord 32) (s.hub.num (Obj.refusedAccesses w)) 1)
    ∧ (in4 → ∃ t, exec (.hostWindowWrite .bar4 x data .poisoned) s = .next t ∧ t.pending = s.pending ∧ t.hub.host.sram = s.hub.host.sram)
    ∧ (∀ bar ∈ [HostBar.bar0, .bar2, .bar4, .config, .outside], s.hub.barHolds bar x data.length = false →
        exec (.hostWindowWrite bar x data (if whole then .whole else .bytes)) s = .next (s.withHub (s.hub.aer aerUnsupported true))))
  ∧ (∀ (s : State) (x : Nat) (wide : Bool) (kind : AtomicKind) (operand compare : Nat),
    let w := (windowOf x).1
    let a : AtomicOp := { w := w, offset := (windowOf x).2, wide := wide, kind := kind, operand := operand, compare := compare, tag := s.hub.bridge.nextTag }
    let addr := s.hub.num (Obj.ringBase w) + (windowOf x).2
    let r := s.hub.refusal w (windowOf x).2 a.size true 2 (0x100 + w)
    let in2 := s.hub.inD0 = true ∧ x + a.size ≤ 2 ^ 30
    (in2 → r ≠ 0 ∨ s.hub.flag (Obj.atomicEnable w) = false → ∃ t, exec (.hostAtomicop .bar2 x wide kind operand compare) s = .next t ∧ t.pending = s.pending
      ∧ t.hub.out.head? = some .hostAbort ∧ t.hub.bridge.slot = s.hub.bridge.slot
      ∧ t.hub.num (Obj.refusedAccesses w) = satAdd (maxWord 32) (s.hub.num (Obj.refusedAccesses w)) 1)
    ∧ (in2 → r = 0 → s.hub.flag (Obj.atomicEnable w) = true → ∃ t, exec (.hostAtomicop .bar2 x wide kind operand compare) s = .next t ∧ t.pending = s.pending
      ∧ (s.hub.bridge.slot = none → t.hub.bridge.slot = some { a with phase := 1 }
        ∧ (s.hub.bridge.behind = [] → addrNode addr = s.hub.self → t.hub.bridge.loop = s.hub.bridge.loop
            ++ [{ txn (addrNode addr) tLkrd 2 addr w a.size s.hub.bridge.nextTag [] with src := s.hub.self }]))
      ∧ (s.hub.bridge.slot ≠ none → t.hub.bridge.slot = s.hub.bridge.slot ∧ t.hub.bridge.atomics = s.hub.bridge.atomics ++ [a]))
    ∧ (∀ bar ∈ [HostBar.bar0, .bar4, .config, .outside], exec (.hostAtomicop bar x wide kind operand compare) s = .next (s.withHub s.hub.unsupported)))
  ∧ (∀ (s : State) (west : Bool) (f : RingFrame),
    (s.hub.bridgeTakes tRdr west f = true → ∀ p, s.hub.bridge.parts = [p] → p.tag = f.tag → p.w = txInit f →
      ∃ t, exec (.rdrRx west f) s = .next t ∧ t.pending = s.pending ∧ t.hub.bridge.parts = []
        ∧ t.hub.out.head? = some (if txB7 f = 0 then .hostData (s.hub.winLane p.w (txData f)) else .hostAbort)
        ∧ (txB7 f ≠ 0 → t.hub.bridge.logSeq = s.hub.bridge.logSeq + 1))
    ∧ (s.hub.bridgeTakes tRdx west f = true → ∀ p, s.hub.bridge.parts = [p] → p.tag = f.tag → p.w = txInit f →
      ∃ t, exec (.rdxRx west f) s = .next t ∧ t.pending = s.pending
        ∧ t.hub.bridge.parts = [{ p with retry := if txB7 f = 0 then beAt f.payload 8 2 else 0, waits := true }])
    ∧ (s.hub.bridgeTakes tLkrt west f = true → ∀ a, s.hub.bridge.slot = some a → a.phase = 1 → a.tag = f.tag → s.hub.bridge.atomics = [] →
      ∃ t, exec (.lkrtRx west f) s = .next t ∧ t.pending = s.pending ∧ t.hub.num Obj.lkrtReceived = satAdd (maxWord 32) (s.hub.num Obj.lkrtReceived) 1
        ∧ t.hub.bridge.slot = none
        ∧ (a.lkrts + 1 < s.hub.num Obj.lockRetries → t.hub.bridge.retrying = s.hub.bridge.retrying ++ [{ a with lkrts := a.lkrts + 1, phase := 3 }])
        ∧ (s.hub.num Obj.lockRetries ≤ a.lkrts + 1 → t.hub.bridge.retrying = s.hub.bridge.retrying ∧ t.hub.out.head? = some .hostAbort)))
  ∧ (∀ (s : State) (tag : BitVec 16), ∀ p, s.hub.bridge.parts = [p] → p.tag = tag.toNat →
    (p.waits = true → ∃ t, exec (.rdRetryIntervalExpired tag) s = .next t ∧ t.pending = s.pending ∧ t.hub.bridge.parts = [{ p with waits := false }]
      ∧ (s.hub.lastUnsent p.w = none → addrNode p.addr = s.hub.self → t.hub.bridge.loop = s.hub.bridge.loop
          ++ [{ txn (addrNode p.addr) tRd 2 p.addr p.w 0 p.tag (beBytes 2 p.len ++ beBytes 2 p.retry) with src := s.hub.self }]))
    ∧ (p.waits = false → p.data = none → s.hub.isBehind tRd p.tag = false → exec (.rdResponseTimeout tag) s = .next (s.withHub (s.hub.issueRead p)))
    ∧ (∃ t, exec (.readBudgetExpired tag) s = .next t ∧ t.pending = s.pending ∧ t.hub.bridge.parts = [] ∧ t.hub.out.head? = some .hostAbort
      ∧ t.hub.num Obj.readBudgetAborts = satAdd (maxWord 32) (s.hub.num Obj.readBudgetAborts) 1))
  ∧ (∀ (s : State) (tag : BitVec 16), s.hub.bridge.parts = [] → ∀ a, s.hub.atomicOf tag.toNat = some a → s.hub.bridge.slot ≠ some a →
      ∃ t, exec (.readBudgetExpired tag) s = .next t ∧ t.pending = s.pending ∧ t.hub.bridge.atomics = s.hub.bridge.atomics.filter (fun b => b.tag != a.tag)
        ∧ t.hub.bridge.retrying = s.hub.bridge.retrying.filter (fun b => b.tag != a.tag) ∧ t.hub.out.head? = some .hostAbort)
  ∧ (∀ (s : State), ∀ a, s.hub.bridge.retrying = [a] → ∃ t, exec .lockRetryWaitExpired s = .next t ∧ t.pending = s.pending ∧ t.hub.bridge.retrying = []
      ∧ (s.hub.bridge.slot = none → t.hub.bridge.slot = some { a with phase := 1 })
      ∧ (s.hub.bridge.slot ≠ none → t.hub.bridge.slot = s.hub.bridge.slot ∧ t.hub.bridge.atomics = s.hub.bridge.atomics ++ [{ a with phase := 0 }]))

/-- R148 to R151, R153, R158, R159, R162: a fence of a window runs, is held behind the running one, or completes at once when nothing was written since the
last or its target is out of reach; FENCE_ALL fences every window that wrote, and reports the sum of all; a marker's answer, or its second timeout, completes
its fence, a window's or a BULK queue's; the answer to WRUL ends the AtomicOp; a refused write is counted and logged. -/
def Obligations.FencesCompleteWithTheirReports : Prop :=
  (∀ (s : State) (path : RegPath) (w : Fin 16),
    let f := s.hub.fence w.val
    let reach := s.hub.canReach (addrNode (s.hub.num (Obj.ringBase w.val))) (s.hub.num (Obj.writeClass w.val)) (0x100 + w.val)
    let done := fun (g : Fence) (inc : Bool) => g.tag = 0 ∧ g.seq = (f.seq + 1) % 256 ∧ g.incomplete = inc ∧ g.faulted = s.hub.num (Obj.faultedSinceFence w.val)
      ∧ g.epochChanged = decide (f.epoch ≠ s.hub.num Obj.orderingEpoch) ∧ g.epoch = s.hub.num Obj.orderingEpoch
    (∃ t, exec (.fenceW path w) s = .next t ∧ t.pending = s.pending
      ∧ (f.tag ≠ 0 → (t.hub.fence w.val).held = true ∧ (t.hub.fence w.val).tag = f.tag)
      ∧ (f.tag = 0 → f.wrote = false → done (t.hub.fence w.val) false ∧ t.hub.num (Obj.faultedSinceFence w.val) = 0)
      ∧ (f.tag = 0 → f.wrote = true → reach = false → done (t.hub.fence w.val) true ∧ (t.hub.fence w.val).wrote = false
          ∧ t.hub.num (Obj.faultedSinceFence w.val) = 0)
      ∧ (f.tag = 0 → f.wrote = true → reach = true → (t.hub.fence w.val).tag = (s.hub.markerTag w.val (s.hub.num (Obj.ringBase w.val))).1 + 1
          ∧ (t.hub.fence w.val).wrote = false))
    ∧ (∃ t, exec (.fenceAll path) s = .next t ∧ t.pending = s.pending
      ∧ (s.hub.bridge.allRunning = true → t.hub.bridge.allHeld = true ∧ t.hub.fence w.val = f)
      ∧ (s.hub.bridge.allRunning = false → f.tag ≠ 0 ∨ f.wrote = true ∧ reach = true → t.hub.bridge.allRunning = true ∧ (t.hub.fence w.val).tag ≠ 0)
      ∧ (s.hub.bridge.allRunning = false → (List.range 16).all (fun v => !(s.hub.fence v).wrote && (s.hub.fence v).tag == 0) = true →
          t.hub.bridge.allRunning = false ∧ t.hub.bridge.allSeq = (s.hub.bridge.allSeq + 1) % 256
          ∧ t.hub.bridge.allFaulted = (List.range 16).foldl (fun n v => min 0xFFFF (n + s.hub.num (Obj.faultedSinceFence v))) 0))
    ∧ (f.tag ≠ 0 → f.held = false → s.hub.bridge.allHeld = false → ∃ t, exec (.fenceTimeout (.window w)) s = .next t ∧ t.pending = s.pending
      ∧ (f.resent = false → t.hub.fence w.val = { f with resent := true })
      ∧ (f.resent = true → done (t.hub.fence w.val) true)))
  ∧ (∀ (s : State) (q : Fin 64), (s.hub.queue q.val).bulkMarkers ≠ [] →
    (s.hub.queue q.val).descs.all (fun d => d.fence != 1) = true → ∃ t, exec (.fenceTimeout (.bulk q)) s = .next t ∧ t.pending = s.pending
      ∧ ((s.hub.queue q.val).bulkResent = false → (t.hub.queue q.val).bulkResent = true
          ∧ (t.hub.queue q.val).bulkMarkers = (s.hub.queue q.val).bulkMarkers)
      ∧ ((s.hub.queue q.val).bulkResent = true → (t.hub.queue q.val).bulkMarkers = []))
  ∧ (∀ (s : State) (west : Bool) (f : RingFrame),
    (s.hub.bridgeTakes tWack west f = true → txInit f < 16 →
      (∀ w, s.hub.fenceOf f.tag = some w → s.hub.bridge.slot = none → w = txInit f → (s.hub.fence w).held = false → s.hub.bridge.allHeld = false →
        ∃ t, exec (.wackRx west f) s = .next t ∧ t.pending = s.pending ∧ (t.hub.fence w).tag = 0 ∧ (t.hub.fence w).incomplete = false
          ∧ (t.hub.fence w).seq = ((s.hub.fence w).seq + 1) % 256)
      ∧ (∀ a, s.hub.bridge.slot = some a → a.phase = 2 → a.tag = f.tag → a.w = txInit f → s.hub.num (Obj.ringBase a.w) + a.offset = txAddr f → s.hub.bridge.atomics = [] →
        ∃ t, exec (.wackRx west f) s = .next t ∧ t.pending = s.pending ∧ t.hub.bridge.slot = none ∧ t.hub.out.head? = some (.hostData a.old)))
    ∧ (s.hub.bridgeTakes tWnak west f = true → txInit f < 16 → s.hub.bridge.slot = none → s.hub.fenceOf f.tag = none →
      ∃ t, exec (.wnakRx west f) s = .next t ∧ t.pending = s.pending ∧ t.hub.bridge.logSeq = s.hub.bridge.logSeq + 1
        ∧ t.hub.num Obj.wnakReceived = satAdd (maxWord 32) (s.hub.num Obj.wnakReceived) 1
        ∧ t.hub.num (Obj.writesFaulted (txInit f)) = (if (s.hub.sentWrite (txInit f) f.tag).1 = txAddr f
            then satAdd (maxWord 32) (s.hub.num (Obj.writesFaulted (txInit f))) 1 else s.hub.num (Obj.writesFaulted (txInit f)))))

/-- R129 to R133, R137, R143 to R145, R154, R155, R162 to R165, R209, R212: a transaction that its guard denies is refused; RD answers the post SRAM's octets, or
an error; WRP, WRN and WRUL write exactly their octets; a read of an aperture is fetched, held and handed over once; locks are granted, refused and ended; the
host's words of the MSI-X table are kept, and other writes to registers the hub does not take change nothing. -/
def Obligations.TargetServesSramAndApertures : Prop :=
  (∀ (s : State) (west : Bool) (f : RingFrame),
    let h := (s.hub.bridged west f).2
    let a := txAddr f
    let off := addrLocal a - sramBase
    let n := reqLen f
    let fits := h.flowWaits f = false ∧ 8 ≤ f.payload.length ∧ n ≤ 4088 ∧ (0 < n ∨ f.type = tWrn)
    let sram := inSram (addrLocal a) n = true ∧ h.lockedRange a n = false
    let stored := fun (t : State) => ∀ p : Nat,
      Memory.read t.hub.host.sram p = if off ≤ p ∧ p < off + (txData f).length then (txData f).getD (p - off) 0 else Memory.read s.hub.host.sram p
    (∀ c ∈ [(tRd, Instr.rdRx west f), (tWrp, Instr.wrpRx west f), (tWrn, Instr.wrnRx west f)], s.hub.bridgeTakes c.1 west f = true → fits →
      let g := h.guardTxn f n (if c.1 = tRd then 0 else 1)
      g ≠ 0 → exec c.2 s = .next (s.withHub (h.deny f g)))
    ∧ (s.hub.bridgeTakes tRd west f = true → fits → h.guardTxn f n 0 = 0 → sram →
      exec (.rdRx west f) s = .next (s.withHub (if h.poisoned off n then h.respondTxn f tRdr stEcc []
        else h.respondTxn f tRdr stOk ((List.range n).map (fun i => Memory.read h.host.sram (off + i))))))
    ∧ (s.hub.bridgeTakes tWrp west f = true → fits → h.guardTxn f n 1 = 0 → sram → ∃ t, exec (.wrpRx west f) s = .next t ∧ t.pending = s.pending ∧ stored t
      ∧ t.hub = { h with host := { h.host with sram := t.hub.host.sram }, safety := { h.safety with poison := t.hub.safety.poison } })
    ∧ (s.hub.bridgeTakes tWrn west f = true → fits → h.guardTxn f n 1 = 0 → sram → ∃ t, exec (.wrnRx west f) s = .next t ∧ t.pending = s.pending ∧ stored t
      ∧ t.hub = (h.sramWrite off (txData f)).respondTxn f tWack 0 [])
    ∧ (∀ p, apertureOf a = some p → s.hub.bridgeTakes tRd west f = true → fits → h.guardTxn f n 0 = 0 → h.lockedRange a n = false →
      let retry := beAt f.payload 10 2
      (retry = 0 → h.bridge.fetches.length < 32 → ∃ t, exec (.rdRx west f) s = .next t ∧ t.pending = s.pending
        ∧ t.hub.bridge.fetches = h.bridge.fetches ++ [{ retry := h.bridge.nextRetry, src := f.src, init := txInit f, addr := a, len := n, ap := p }]
        ∧ t.hub.num Obj.fetchBuffersHeld = h.bridge.fetches.length + 1 ∧ t.hub.num Obj.rdxSent = satAdd (maxWord 32) (s.hub.num Obj.rdxSent) 1)
      ∧ (∀ b, h.bridge.fetches = [b] → retry ≠ 0 → b.retry = retry → b.src = f.src → b.init = txInit f → b.result.isSome = true →
        ∃ t, exec (.rdRx west f) s = .next t ∧ t.pending = s.pending ∧ t.hub.bridge.fetches = [] ∧ t.hub.num Obj.fetchBuffersHeld = 0))
    ∧ (s.hub.bridgeTakes tLkrd west f = true → h.flowWaits f = false → txB7 f = 4 ∨ txB7 f = 8 → addrLocal a % txB7 f = 0 → h.guardTxn f (txB7 f) 2 = 0 →
      (apertureOf (addrLocal a) = none → h.poisoned off (txB7 f) = false) →
      let before := h.bridge.locks.find? (fun k => k.granule == granuleOf a)
      let busy := h.slotBusy f = true ∧ f.src < s.hub.self
      let turned := busy ∨ ∃ k ∈ before, ¬ (k.fresh = true ∧ k.src < f.src)
      let mine : Lock := { granule := granuleOf a, src := f.src, init := txInit f, addr := a, size := txB7 f, tag := f.tag, fresh := true }
      ∃ t, exec (.lkrdRx west f) s = .next t ∧ t.pending = s.pending
        ∧ (turned → t.hub.bridge.locks = h.bridge.locks ∧ t.hub.num Obj.lkrtSent = satAdd (maxWord 32) (s.hub.num Obj.lkrtSent) 1)
        ∧ (∀ k, before = some k → ¬ turned → t.hub.bridge.locks = h.bridge.locks.map (fun x => if x = k then mine else x)
            ∧ t.hub.num Obj.lkrtSent = satAdd (maxWord 32) (s.hub.num Obj.lkrtSent) 1)
        ∧ (before = none → ¬ turned → t.hub.bridge.locks = h.bridge.locks ++ [mine]
            ∧ t.hub.num Obj.lockGrants = satAdd (maxWord 32) (s.hub.num Obj.lockGrants) 1))
    ∧ (s.hub.bridgeTakes tWrul west f = true → h.bridge.waiting = [] →
      let g := h.guardTxn f (txData f).length 2
      (g ≠ 0 → exec (.wrulRx west f) s = .next (s.withHub (h.deny f g)))
      ∧ (g = 0 → h.bridge.locks = [] → exec (.wrulRx west f) s = .next (s.withHub (h.refuseTxn f stLockTimeout)))
      ∧ (∀ k, h.bridge.locks = [k] → g = 0 → k.src = f.src → k.init = txInit f → k.addr = a → k.tag = f.tag → h.bridge.waiting = [] →
        apertureOf (addrLocal a) = none → ∃ t, exec (.wrulRx west f) s = .next t ∧ t.pending = s.pending ∧ t.hub.bridge.locks = []
          ∧ ((txB7 f).testBit 0 = false → (txData f).length = k.size → stored t)
          ∧ ((txB7 f).testBit 0 = true → t.hub.host.sram = s.hub.host.sram))))
  ∧ (∀ (s : State) (retry : BitVec 16) (r : ReadEnd) (data : List Byte), ∀ b, s.hub.bridge.fetches = [b] → b.retry = retry.toNat →
    (b.result = none →
      let res : Nat × List Byte := if r = .data then (0, slice (swapUnits (s.hub.apUnit b.ap) data) (addrLocal b.addr % 2 ^ 36 % s.hub.apUnit b.ap) b.len) else (stEcc, [])
      (∃ t, exec (.apertureFetchComplete retry r data) s = .next t ∧ t.pending = s.pending ∧ t.hub.bridge.fetches = [{ b with result := some res }])
      ∧ (r ≠ ReadEnd.data → ∃ t, exec (.pcieCompletionTimeout false retry) s = .next t ∧ t.pending = s.pending ∧ t.hub.bridge.fetches = [{ b with result := some res }]))
    ∧ (b.result.isSome = true → ∃ t, exec (.fetchHoldExpired retry) s = .next t ∧ t.pending = s.pending ∧ t.hub.bridge.fetches = []
      ∧ t.hub.num Obj.fetchBuffersHeld = 0 ∧ t.hub.num Obj.fetchExpired = satAdd (maxWord 32) (s.hub.num Obj.fetchExpired) 1))
  ∧ (∀ (s : State) (f : RingFrame) (fs : List RingFrame), s.hub.bridge.flushes = f :: fs →
    exec .apertureFlushReadDone s = .next (s.withHub ({ s.hub.readEnded with bridge := { s.hub.readEnded.bridge with flushes := fs } }.respondTxn f tWack 0 [])))
  ∧ (∀ (s : State) (l : Nat), ∀ k, s.hub.bridge.locks = [k] → k.granule = granuleOf l → s.hub.bridge.waiting = [] →
    ∃ t, exec (.lockWatchdogExpired l) s = .next t ∧ t.pending = s.pending ∧ t.hub.bridge.locks = []
      ∧ t.hub.bridge.logSeq = s.hub.bridge.logSeq + 1 ∧ t.hub.num Obj.lockWatchdogAborts = satAdd (maxWord 32) (s.hub.num Obj.lockWatchdogAborts) 1)
  ∧ (∀ (s : State) (q : Fin 64),
    exec (.pcieCompletionTimeout true (BitVec.ofNat 16 q.val)) s = .next (s.withHub (if (s.hub.queue q.val).reads = []
      then (s.hub.aer aerTimeout false).readEnded.descFetched q.val false [] else (s.hub.aer aerTimeout false).readEnded.dataRead q.val false [])))
  ∧ (∀ (s : State) (path : RegPath) (offset : BitVec 24) (value : BitVec 32) (west : Bool) (f : RingFrame), path ≠ .ring →
    (path ≠ .pcie ∨ offset.toNat < 0x10000 ∨ (0x11000 ≤ offset.toNat ∧ offset.toNat < 0x20000) ∨ 0x20800 ≤ offset.toNat →
        exec (.registerWriteOther path offset value west f) s = .next s)
    ∧ (∀ q : Fin 64, path = .pcie → offset.toNat = 0x10004 + 64 * q.val → value.toNat % 2 = 0 →
        exec (.registerWriteOther path offset value west f) s = .next (if s.hub.qOn q.val = true ∧ (s.hub.func (fidQueue q.val)).inReset = false
          then s else s.withHub (s.hub.count (Obj.refusedWrites q.val))))
    ∧ (path = .pcie → 0x20000 ≤ offset.toNat → offset.toNat < 0x20800 → offset.toNat % 4 = 0 → offset.toNat % 16 ≠ 12 →
        ∃ t, exec (.registerWriteOther path offset value west f) s = .next t ∧ t.pending = s.pending ∧ t.hub.msixReg offset.toNat = value.toNat))

/-- R225 to R228, R232 to R235, R238: an item written to a word port enters an H2D queue within its credits and is turned away beyond them; a read takes the oldest item; the
bits written to QACK and NPEND clear; SYNC and the hold-off write the credit word; a flush completes with its count; the interrupt hold-off sends what is gathered. -/
def Obligations.QueueWordPortsAndCredits : Prop :=
  (∀ (s : State) (path : RegPath) (q : Fin 64) (w : BitVec 64), s.hub.qOn q.val = true → (s.hub.func (fidQueue q.val)).inReset = false →
    s.hub.isD2H q.val = false → s.hub.isWord q.val = true → w.toNat.testBit 63 = true →
    let x := s.hub.queue q.val
    let used := (x.posted + 2 ^ 32 - x.released) % 2 ^ 32
    (used < s.hub.num (Obj.qDepth q.val) → ∃ t, exec (.qportWrite path q w true) s = .next t ∧ t.pending = s.pending
      ∧ (t.hub.queue q.val).pidxAcc = (x.pidxAcc + 1) % 65536 ∧ (t.hub.queue q.val).posted = (x.posted + 1) % 2 ^ 32
      ∧ t.hub.num (Obj.itemsIn q.val) = satAdd (maxWord 32) (s.hub.num (Obj.itemsIn q.val)) 1
      ∧ (w.toNat.testBit 62 = true → w.toNat.testBit 61 = false → x.isOpen = false → x.ctOut = false → ((x.post 1).copiesAgree = true) → s.hub.rwb = [] →
          s.hub.num (Obj.ctThresh q.val) = 0 → s.hub.queueMax q.val = none →
          (t.hub.queue q.val).items = x.items ++ [{ sop := true, eop := false, err := false, data := leBytes 7 w.toNat }]
          ∧ (t.hub.queue q.val).isOpen = true ∧ (t.hub.queue q.val).openData = leBytes 7 w.toNat))
    ∧ (s.hub.num (Obj.qDepth q.val) ≤ used → ∃ t, exec (.qportWrite path q w true) s = .next t ∧ t.pending = s.pending
      ∧ t.hub.queue q.val = { x with creditViol := true }
      ∧ t.hub.num (Obj.creditViolations q.val) = satAdd (maxWord 32) (s.hub.num (Obj.creditViolations q.val)) 1))
  ∧ (∀ (s : State) (path : RegPath) (q : Fin 64) (i : QItem) (rest : List QItem), (s.hub.queue q.val).items = i :: rest →
    let x := s.hub.queue q.val
    s.hub.qOn q.val = true → s.hub.isD2H q.val = true → s.hub.isWord q.val = true → x.held < x.items.length → q.val ≠ 63 →
    (x.take 1).copiesAgree = true → ∃ t, exec (.qportRead path q true) s = .next t ∧ t.pending = s.pending
      ∧ t.hub.out.head? = some (.regValue path i.word) ∧ (t.hub.queue q.val).items = rest ∧ (t.hub.queue q.val).mid = !i.eop
      ∧ (t.hub.queue q.val).released = (x.released + 1) % 2 ^ 32
      ∧ t.hub.num (Obj.itemsOut q.val) = satAdd (maxWord 32) (s.hub.num (Obj.itemsOut q.val)) 1)
  ∧ (∀ (s : State) (path : RegPath) (q : Fin 64), (s.hub.queue q.val).items = [] ∨ s.hub.qOn q.val = false →
    exec (.qportRead path q true) s = .next (s.withHub (s.hub.emit (.regValue path 0))))
  ∧ (∀ (s : State) (path : RegPath) (q : Fin 64) (m : BitVec 32), ∃ t, exec (.qackClear path q m) s = .next t ∧ t.pending = s.pending
    ∧ t.hub.queue q.val = { s.hub.queue q.val with
        wmHighSticky := (s.hub.queue q.val).wmHighSticky && !m.toNat.testBit 4, wmLowSticky := (s.hub.queue q.val).wmLowSticky && !m.toNat.testBit 3, creditViol := (s.hub.queue q.val).creditViol && !m.toNat.testBit 2, ptrFault := (s.hub.queue q.val).ptrFault && !m.toNat.testBit 1 }
    ∧ (∀ p, p ≠ q.val → t.hub.queue p = s.hub.queue p))
  ∧ (∀ (s : State) (path : RegPath) (m : BitVec 64), s.hub.host.lostRun = 0 → ∃ t, exec (.noticePendClear path m) s = .next t ∧ t.pending = s.pending
    ∧ (∀ i, i < 64 → t.hub.host.npend.testBit i = (s.hub.host.npend.testBit i && !m.toNat.testBit i))
    ∧ t.hub = { s.hub with host := { s.hub.host with npend := t.hub.host.npend } })
  ∧ (∀ (s : State) (path : RegPath) (q : Fin 64), s.hub.qOn q.val = true → s.hub.isD2H q.val = false → s.hub.num (Obj.creditMode q.val) = 1 →
    let word := Out.hostWrite (s.hub.num (Obj.creditWord q.val)) (leBytes 8 (s.hub.queue q.val).released)
    ∀ c ∈ [Instr.creditSync path q, .creditHoldoffExpired q], (s.hub.func (fidQueue q.val)).inReset = false → (s.hub.queue q.val).creditDue ≠ 0 →
      ∃ t, exec c s = .next t ∧ t.pending = s.pending ∧ (t.hub.queue q.val).creditDue = 0
        ∧ (s.hub.canRequest = true → word ∈ t.hub.out) ∧ (s.hub.canRequest = false → word ∈ t.hub.host.deferred))
  ∧ (∀ (s : State) (q : Fin 64), s.hub.flushDone q.val = true → ∃ t, exec (.queueFlushComplete q) s = .next t ∧ t.pending = s.pending
    ∧ (t.hub.queue q.val).flushing = false ∧ t.hub.num (Obj.flushDiscards q.val)
        = satAdd (maxWord 32) (s.hub.num (Obj.flushDiscards q.val)) (s.hub.queue q.val).flushCount)
  ∧ (∀ (s : State) (q : Fin 64), s.hub.num (Obj.irqMode q.val) = 2 → (s.hub.queue q.val).irqGathered ≠ 0 →
    let live := s.hub.host.msixEnable = true ∧ s.hub.host.functionMask = false ∧ s.hub.host.vectorMask.contains q.val = false
    ∃ t, exec (.irqHoldoffExpired q) s = .next t ∧ t.pending = s.pending ∧ t.hub.queue q.val = { s.hub.queue q.val with irqGathered := 0 }
      ∧ (live → s.hub.host.deferred = [] → t.hub.out = s.hub.msixMessage q.val :: s.hub.out) ∧ (¬ live → t.hub.host.pba.contains q.val = true))

/-- R207 to R209, R219 to R222: a doorbell posts descriptors and asks for them, a fetched one is taken with its data read, and a packet whose data has come goes to switch
port 16; a fetched D2H descriptor is a granted buffer. Bus Master Enable and MSI-X take the state written, and with it what waited goes; in
D3hot no request goes out. -/
def Obligations.QueueDescriptorsAndInterrupts : Prop :=
  (∀ (s : State) (path : RegPath) (q : Fin 64) (pidx : BitVec 16), s.hub.qOn q.val = true → (s.hub.func (fidQueue q.val)).inReset = false →
    s.hub.isD2H q.val = false → s.hub.isWord q.val = false →
    let x := s.hub.queue q.val
    let d := toSigned 16 (pidx.toNat + 65536 - x.pidxAcc)
    (d ≤ 0 → exec (.queueDoorbell path q pidx) s = .next s)
    ∧ (0 < d → d.toNat ≤ s.hub.num (Obj.qDepth q.val) - (x.posted + 2 ^ 32 - x.released) % 2 ^ 32 → ∃ t, exec (.queueDoorbell path q pidx) s = .next t
      ∧ t.pending = s.pending ∧ (t.hub.queue q.val).pidxAcc = (x.pidxAcc + d.toNat) % 65536
      ∧ (t.hub.queue q.val).posted = (x.posted + d.toNat) % 2 ^ 32
      ∧ (s.hub.canRequest = true → (t.hub.queue q.val).reqIdx = (t.hub.queue q.val).pidxAcc)
      ∧ t.hub.num (Obj.itemsIn q.val) = satAdd (maxWord 32) (s.hub.num (Obj.itemsIn q.val)) d.toNat))
  ∧ (∀ (s : State) (q : Fin 64) (data : List Byte), (s.hub.queue q.val).staleFetch = 0 → s.hub.qSends q.val = true → s.hub.isWord q.val = false →
    (s.hub.queue q.val).fetchIdx ≠ (s.hub.queue q.val).reqIdx →
    let x := s.hub.queue q.val
    let d : QDesc := { idx := x.fetchIdx, addr := leAt data 0 8, len := leAt data 8 2, flags := leAt data 10 2, target := leAt data 12 2 }
    (s.hub.isD2H q.val = false → s.hub.isBulk q.val = false → x.dropToEop = false → x.flushTo = 0 → x.fetchOpen = false →
      (d.flags = 1 ∨ d.flags = 3) → d.len ≠ 0 → (slice data 14 4 ++ slice data 18 6).all (· == 0) = true →
      ∃ t, exec (.descriptorFetchDone q .data data) s = .next t ∧ t.pending = s.pending
        ∧ t.hub.queue q.val = { x with fetchIdx := (x.fetchIdx + 1) % 65536, fetchOpen := d.flags == 1, descs := x.descs ++ [d], reads := x.reads ++ [x.fetchIdx] }
        ∧ (s.hub.canRequest = true → s.hub.host.readQueue = [] → s.hub.host.outstanding ≤ 256 → t.hub.out = .hostRead d.addr d.len :: s.hub.out))
    ∧ (s.hub.isD2H q.val = true → q.val ≠ 63 → x.copiesAgree = true → x.bufs = [] → x.rest = none → s.hub.num (Obj.bufferSize q.val) ≤ d.len → (slice data 10 6).all (· == 0) = true →
      ∃ t, exec (.descriptorFetchDone q .data data) s = .next t ∧ t.pending = s.pending
        ∧ t.hub.queue q.val = { x with fetchIdx := (x.fetchIdx + 1) % 65536, bufs := [(x.fetchIdx, some d.addr, 0)] }))
  ∧ (∀ (s : State) (q : Fin 64) (i : Nat) (rest : List Nat), (s.hub.queue q.val).reads = i :: rest → ∀ data : List Byte,
    ∀ d, (s.hub.queue q.val).descs.find? (fun (d : QDesc) => d.idx == i && !d.got && d.done.isNone) = some d →
    d.flags = 3 → s.hub.isBulk q.val = false → s.hub.isCmdQueue q.val = false → s.hub.isWord q.val = false → s.hub.queueMax q.val = none →
    (s.hub.queue q.val).descs = [d] →
    ∃ t, exec (.h2dDataReadDone q .data data) s = .next t ∧ t.pending = s.pending ∧ (t.hub.queue q.val).reads = rest ∧ (t.hub.queue q.val).isOpen = false
      ∧ SMap.get (fun _ => []) t.hub.sw.inputs 16 = SMap.get (fun _ => []) s.hub.sw.inputs 16
        ++ [{ data := data.take d.len, route := s.hub.num (Obj.qRoute q.val), queue := q.val + 1, descs := [i] }])
  ∧ (∀ (s : State), exec (.busMasterEnableChange false) s = .next (s.withHub { s.hub with host := { s.hub.host with busMaster := false } })
    ∧ (s.hub.inD0 = false → exec (.busMasterEnableChange true) s = .next (s.withHub { s.hub with host := { s.hub.host with busMaster := true } }))
    ∧ (s.hub.inD0 = true → ∃ t, exec (.busMasterEnableChange true) s = .next t ∧ t.pending = s.pending ∧ t.hub.host.busMaster = true ∧ t.hub.host.deferred = []
      ∧ ∀ q, q < 64 → s.hub.qOn q = true → s.hub.isWord q = false → (t.hub.queue q).reqIdx = (s.hub.queue q).pidxAcc))
  ∧ (∀ (s : State) (enable mask : Bool) (masked : List Nat), ∃ t, exec (.msixUnmask enable mask masked) s = .next t ∧ t.pending = s.pending
    ∧ t.hub.host.msixEnable = enable ∧ t.hub.host.functionMask = mask ∧ t.hub.host.vectorMask = masked
    ∧ t.hub.host.pba = (if enable && !mask then s.hub.host.pba.filter (fun v => masked.contains v) else s.hub.host.pba))

/-- R174 to R195, R177: a frame at an input is admitted to the shared buffer for the target its route names, or dropped and counted; a requesting input is matched and its
cells move; the last cell hands the packet to its consumer and frees the frame; a stalled cut-through frame ends with ERR. DATA from the ring enters under DROUTE. -/
def Obligations.SwitchCarriesFrames : Prop :=
  (∀ (s : State) (i : Fin 18) (p : SwPacket) (rest : List SwPacket), SMap.get (fun _ => []) s.hub.sw.inputs i.val = p :: rest →
    p.queue = 0 → p.fixed = none → 12 ≤ i.val ∨ (s.hub.sq (2 * i.val)).rx = [] ∧ (s.hub.sq (2 * i.val + 1)).rx = [] →
    let e := s.hub.route p.route
    let n := cellsOf (p.data.length + 4)
    (s.hub.portOn i.val = false → ∃ t, exec (.switchFrameIn i) s = .next t ∧ t.pending = s.pending
      ∧ SMap.get (fun _ => []) t.hub.sw.inputs i.val = rest ∧ t.hub.sw.frames = s.hub.sw.frames
      ∧ t.hub.num (Obj.noPortDrops i.val) = satAdd (maxWord 32) (s.hub.num (Obj.noPortDrops i.val)) 1)
    ∧ (s.hub.portOn i.val = true → rtValid e = false → ∃ t, exec (.switchFrameIn i) s = .next t ∧ t.pending = s.pending
      ∧ SMap.get (fun _ => []) t.hub.sw.inputs i.val = rest ∧ t.hub.sw.frames = s.hub.sw.frames
      ∧ t.hub.num (Obj.noRouteDrops i.val) = satAdd (maxWord 32) (s.hub.num (Obj.noRouteDrops i.val)) 1)
    ∧ (∀ o, o < 18 → s.hub.portOn i.val = true → rtValid e = true → p.rxClass = 0 → rtClass e ≠ 0 → rtTargets e = 2 ^ o → o ≠ 12 → o ≠ 13 →
      s.hub.portOn o = true → s.hub.queuedCells o (rtClass e) + n ≤ s.hub.num (Obj.thresholdClass o (rtClass e - 1)) → n ≤ s.hub.sharedFree →
      ∃ t, exec (.switchFrameIn i) s = .next t ∧ t.pending = s.pending ∧ SMap.get (fun _ => []) t.hub.sw.inputs i.val = rest
        ∧ t.hub.sw.nextId = s.hub.sw.nextId + 1
        ∧ SMap.get (fun _ => none) t.hub.sw.frames s.hub.sw.nextId = some { pkt := p, input := i.val, cls := rtClass e, cells := n, epoch := s.hub.num Obj.fwdEpoch, account := .shared, copies := [{ port := o, clDest := rtClDest e, hostQ := rtHostQ e, svc := rtSvc e, ct := rtCt e && (decide (o ≤ 11) || o == 16 || o == 17) }] }
        ∧ t.hub.num (Obj.framesIn i.val) = satAdd (maxWord 32) (s.hub.num (Obj.framesIn i.val)) 1))
  ∧ (∀ (s : State) (o i c id : Nat), s.hub.sw.matched = [] → s.hub.sw.voq = [((i * 18 + o) * 8 + c, [id])] → i < 18 → o < 18 → c < 8 → o ≠ 16 →
    ∀ f, SMap.get (fun _ => none) s.hub.sw.frames id = some f → f.pkt.ended = true → f.wrote = f.cells → 0 < f.cells → s.hub.frameReady id o = true →
    ∃ t, exec .switchCellTime s = .next t ∧ t.pending = s.pending ∧ t.hub.swMatch o = some { input := i, cls := c, id := id, moved := 1 }
      ∧ SMap.get (fun _ => 0) t.hub.sw.grantPtr o = (i + 1) % 18 ∧ SMap.get (fun _ => 0) t.hub.sw.acceptPtr i = (o + 1) % 18)
  ∧ (∀ (s : State) (o : Fin 18) (cell : BitVec 16), ∀ m, s.hub.swMatch o.val = some m →
    ∀ f, SMap.get (fun _ => none) s.hub.sw.frames m.id = some f → ∀ c, f.copies = [c] → c.port = o.val →
    let d : Delivered := { target := c.svc, data := f.pkt.data, inPort := f.input, route := f.pkt.route, stamp := f.pkt.stamp, insOff := f.pkt.insOff, echo := f.pkt.echo, claim := f.pkt.claim, cls := f.cls }
    (f.pkt.ended = true → f.wrote = f.cells → f.pkt.err = false → o.val ≤ 11 → c.clDest ≤ 15 → ∃ t, exec (.switchFrameOutDone o 0 cell) s = .next t
      ∧ t.pending = s.pending ∧ t.hub.swMatch o.val = none ∧ SMap.get (fun _ => none) t.hub.sw.frames m.id = none
      ∧ t.hub.inbox (inboxChannel (16 * o.val + c.clDest)) = s.hub.inbox (inboxChannel (16 * o.val + c.clDest)) ++ [d]
      ∧ t.hub.num (Obj.framesOut o.val) = satAdd (maxWord 32) (s.hub.num (Obj.framesOut o.val)) 1)
    ∧ (f.pkt.ended = false → o.val ≤ 11 → ∃ t, exec (.ctStallExpired o) s = .next t ∧ t.pending = s.pending ∧ t.hub.swMatch o.val = none
      ∧ SMap.get (fun _ => none) t.hub.sw.frames m.id = none ∧ t.hub.sw.delivered = s.hub.sw.delivered
      ∧ t.hub.num (Obj.ctStalls o.val) = satAdd (maxWord 32) (s.hub.num (Obj.ctStalls o.val)) 1
      ∧ t.hub.num (Obj.portErrTerminated o.val) = satAdd (maxWord 32) (s.hub.num (Obj.portErrTerminated o.val)) 1))
  ∧ (∀ (s : State) (west : Bool) (f : RingFrame), (s.hub.receive west f).1 = true → (s.hub.receive west f).2.isMember = true → f.type = tData →
    f.cls = 4 ∨ f.cls = 5 → ∃ t, exec (.dataRx west f) s = .next t ∧ t.pending = s.pending
      ∧ SMap.get (fun _ => []) t.hub.sw.inputs (12 + portIx west) = SMap.get (fun _ => []) s.hub.sw.inputs (12 + portIx west)
        ++ [{ data := f.payload.drop 4, route := beAt f.payload 0 2 % 4096, rxClass := f.cls + 1, rxSrc := f.src, rxType := tData, stamp := if f.stamp then some (s.hub.stampFine .H s.hub.now f.frac) else none, err := !f.intact }])

/-- R249 to R253: a received character joins the open packet or opens one stamped at its start bit; the gap closes the packet and its record goes to the
channel's route; a break marks it. A packet from the switch leaves as characters while the transmitter is free, and counts when its last one has left. -/
def Obligations.UartReceivesAndSends : Prop :=
  (∀ (s : State) (c : Fin 192) (ch : BitVec 9) (start : BitVec 64) (perr ferr : Bool), s.hub.chanIn c.val modeUart = true →
    s.hub.uartDeaf c.val = false → s.hub.flag (Obj.uartAddressMode c.val) = false → (s.hub.chan c.val).rxSkip = false →
    let x := s.hub.chan c.val
    let bs : List Byte := if s.hub.num (Obj.uartDataBits c.val) = 9 then [BitVec.ofNat 8 ch.toNat, BitVec.ofNat 8 (ch.toNat / 256)] else [BitVec.ofNat 8 ch.toNat]
    let fl := if x.rxOpen then x.rxFlags else 0
    let fl := if perr && !fl.testBit 5 then fl + 32 else fl
    let fl := if ferr && !fl.testBit 6 then fl + 64 else fl
    let rx := (if x.rxOpen then x.rx else []) ++ bs
    s.hub.num (Obj.uartEndChar c.val) ≠ ch.toNat → rx.length < s.hub.uartCount c.val →
    s.hub.rxHeld c.val + (if x.rxOpen then 0 else 16) + bs.length ≤ s.hub.num (Obj.uartRxBuffer c.val) →
    ∃ t, exec (.uartCharRx c ch start perr ferr) s = .next t ∧ t.pending = s.pending ∧ (t.hub.chan c.val).rxOpen = true
      ∧ (t.hub.chan c.val).rx = rx ∧ (t.hub.chan c.val).rxFlags = fl
      ∧ (t.hub.chan c.val).rxStamp = (if x.rxOpen = true ∧ ¬(x.rx = [] ∧ x.rxLost = 0) then x.rxStamp else s.hub.stampAt .E start.toNat)
      ∧ t.hub.sw = s.hub.sw)
  ∧ (∀ (s : State) (c : Fin 192) (ch : BitVec 9) (start : BitVec 64) (perr ferr : Bool), s.hub.chanIn c.val modeUart = true →
    s.hub.uartDeaf c.val = true → exec (.uartCharRx c ch start perr ferr) s = .next s)
  ∧ (∀ (s : State) (c : Fin 192) (ch : BitVec 9) (start : BitVec 64) (perr ferr : Bool), s.hub.chanIn c.val modeUart = true →
    s.hub.uartDeaf c.val = false → s.hub.flag (Obj.uartAddressMode c.val) = false → (s.hub.chan c.val).rxSkip = false →
    s.hub.num (Obj.uartDataBits c.val) ≠ 9 → s.hub.num (Obj.uartEndChar c.val) ≠ ch.toNat → (s.hub.chan c.val).rxOpen = true →
    (s.hub.chan c.val).rx.length < s.hub.uartCount c.val → s.hub.num (Obj.uartRxBuffer c.val) < s.hub.rxHeld c.val + 1 →
    ∃ t, exec (.uartCharRx c ch start perr ferr) s = .next t ∧ t.pending = s.pending ∧ (t.hub.chan c.val).rx = (s.hub.chan c.val).rx
      ∧ (t.hub.chan c.val).rxLost = (s.hub.chan c.val).rxLost + 1 ∧ (t.hub.chan c.val).rxFlags.testBit 8 = true
      ∧ t.hub.num (Obj.overrunBytes c.val) = satAdd (maxWord 32) (s.hub.num (Obj.overrunBytes c.val)) 1)
  ∧ (∀ (s : State) (c : Fin 192), s.hub.chanIn c.val modeUart = true → (s.hub.chan c.val).rxOpen = true →
    s.hub.profile (s.hub.num (Obj.uartCrcProfile c.val)) = none → s.hub.num (Obj.chRoute c.val) ≠ 0xFFFF →
    let x := s.hub.chan c.val
    ∃ t, exec (.uartGapExpired c) s = .next t ∧ t.pending = s.pending ∧ (t.hub.chan c.val).rxOpen = false ∧ (t.hub.chan c.val).rx = []
      ∧ (t.hub.chan c.val).recSeq = (x.recSeq + 1) % 65536 ∧ t.hub.num (Obj.packetsRx c.val) = satAdd (maxWord 32) (s.hub.num (Obj.packetsRx c.val)) 1
      ∧ t.hub.num (Obj.gapClosed c.val) = satAdd (maxWord 32) (s.hub.num (Obj.gapClosed c.val)) 1
      ∧ SMap.get (fun _ => []) t.hub.sw.inputs (c.val / 16) = SMap.get (fun _ => []) s.hub.sw.inputs (c.val / 16)
          ++ [{ data := [1, BitVec.ofNat 8 c.val] ++ leBytes 2 (x.rxFlags + 1) ++ leBytes 2 x.rx.length ++ leBytes 2 x.recSeq ++ leBytes 8 x.rxStamp ++ x.rx,
                route := s.hub.num (Obj.chRoute c.val), owner := fidChannel c.val + 1 }])
  ∧ (∀ (s : State) (c : Fin 192), s.hub.chanIn c.val modeUart = true → (s.hub.chan c.val).rxOpen = true → s.hub.uartDeaf c.val = false →
    ∃ t, exec (.uartBreak c) s = .next t ∧ t.pending = s.pending ∧ t.hub.chan c.val = { s.hub.chan c.val with
      rxFlags := if (s.hub.chan c.val).rxFlags.testBit 7 then (s.hub.chan c.val).rxFlags else (s.hub.chan c.val).rxFlags + 128 })
  ∧ (∀ (s : State) (c : Fin 192) (d : Delivered) (ds : List Delivered), s.hub.inbox (inboxChannel c.val) = d :: ds →
    s.hub.chanSends c.val modeUart = true → (s.hub.chan c.val).driverOff = false → (s.hub.chan c.val).tx = none →
    s.hub.num (Obj.uartDuplex c.val) ≠ 1 → s.hub.profile (s.hub.num (Obj.uartCrcProfile c.val)) = none →
    ∃ t, exec (.uartTxPacket c) s = .next t ∧ t.pending = s.pending ∧ (t.hub.chan c.val).tx = some d.data ∧ t.hub.inbox (inboxChannel c.val) = ds
      ∧ t.hub.out.head? = some (.uart c.val (s.hub.uartChars c.val d.data)))
  ∧ (∀ (s : State) (c : Fin 192) (data : List Byte), (s.hub.chan c.val).tx = some data → ∃ t, exec (.uartTxPacketSent c) s = .next t
    ∧ t.pending = s.pending ∧ (t.hub.chan c.val).tx = none
    ∧ t.hub.num (Obj.packetsTx c.val) = satAdd (maxWord 32) (s.hub.num (Obj.packetsTx c.val)) 1)

/-- R255 to R258, R267, R275, R276: an edge of a binary input departs with its compensated LTC; held for the debounce time it is the input state, stamped at
the edge and entered in the ledger; a quiet input leaves chatter blocking; the wetting pulse ends with C low. A PULSE channel counts its edges. -/
def Obligations.InputsAndPulses : Prop :=
  (∀ (s : State) (c : Fin 192) (level : Bool), s.hub.chanIn c.val modeBin = true → s.hub.binClosed c.val level ≠ (s.hub.chan c.val).deb →
    (s.hub.chan c.val).depart = none →
    let l := s.hub.binLtc c.val
    ∃ t, exec (.binEdge c level) s = .next t ∧ t.pending = s.pending ∧ t.hub.chan c.val = { s.hub.chan c.val with
      inA := level, rawStamp := s.hub.stampAt .E l, rawPhase := s.hub.phaseAt l % 2 ^ 32, rawValid := s.hub.usableAt l, depart := some (l, s.hub.phaseAt l % 2 ^ 32) })
  ∧ (∀ (s : State) (c : Fin 192) (l ph : Nat), s.hub.chanIn c.val modeBin = true → (s.hub.chan c.val).depart = some (l, ph) →
    (s.hub.chan c.val).blocked = false →
    let closed := s.hub.binClosed c.val (s.hub.chan c.val).inA
    (closed = (s.hub.chan c.val).deb → ∃ t, exec (.binDebounceExpired c) s = .next t ∧ t.pending = s.pending
      ∧ t.hub.chan c.val = { s.hub.chan c.val with depart := none } ∧ t.hub.dict = s.hub.dict)
    ∧ (closed ≠ (s.hub.chan c.val).deb → ∃ t, exec (.binDebounceExpired c) s = .next t ∧ t.pending = s.pending
      ∧ (t.hub.chan c.val).deb = closed ∧ (t.hub.chan c.val).depart = none ∧ t.hub.flag (Obj.inputState c.val) = closed
      ∧ t.hub.num (Obj.chStLastChange c.val) = s.hub.stampAt .E l
      ∧ t.hub.num (Obj.changesAccepted c.val) = satAdd (maxWord 32) (s.hub.num (Obj.changesAccepted c.val)) 1
      ∧ (s.hub.flag (Obj.ledgerEnable c.val) = true → t.hub.ledger.nextSeq = (s.hub.ledger.nextSeq + 1) % 2 ^ 32
          ∧ t.hub.ledger.sram.head?.map (fun e => (e.seq, e.stamp, e.phase, e.ch)) = some (s.hub.ledger.nextSeq, s.hub.stampAt .E l, ph, c.val))
      ∧ (s.hub.flag (Obj.ledgerEnable c.val) = false → t.hub.ledger = s.hub.ledger)))
  ∧ (∀ (s : State) (c : Fin 192), s.hub.chanIn c.val modeBin = true → (s.hub.chan c.val).blocked = true →
    ∃ t, exec (.chatterQuietExpired c) s = .next t ∧ t.pending = s.pending ∧ (t.hub.chan c.val).blocked = false ∧ (t.hub.chan c.val).changes = []
      ∧ t.hub.flag (Obj.inputState c.val) = (s.hub.chan c.val).deb ∧ t.hub.num (Obj.chStLastChange c.val) = (s.hub.chan c.val).rawStamp)
  ∧ (∀ (s : State) (c : Fin 192), (s.hub.chan c.val).wet = true → ∃ t, exec (.wetPulseEnd c) s = .next t ∧ t.pending = s.pending
    ∧ t.hub.chan c.val = { s.hub.chan c.val with wet := false, pinC := some false } ∧ t.hub.dict = s.hub.dict)
  ∧ (∀ (s : State) (c : Fin 192) (rising : Bool), s.hub.chanIn c.val modePulse = true →
    s.hub.num (Obj.pulseEdge c.val) = 3 ∨ s.hub.num (Obj.pulseEdge c.val) = (if rising then 1 else 2) →
    ∃ t, exec (.pulseEdge c rising) s = .next t ∧ t.pending = s.pending
      ∧ t.hub.num (Obj.pulseCount c.val) = (s.hub.num (Obj.pulseCount c.val) + 1) % 2 ^ 32
      ∧ (t.hub.chan c.val).gateEdges = (s.hub.chan c.val).gateEdges + 1 ∧ (t.hub.chan c.val).lastEdge = s.hub.now + 1
      ∧ ((s.hub.chan c.val).lastEdge ≠ 0 → (t.hub.chan c.val).period = ticksBetween ((s.hub.chan c.val).lastEdge - 1) s.hub.now))
  ∧ (∀ (s : State) (c : Fin 192), s.hub.chanIn c.val modePulse = true →
    let x := s.hub.chan c.val
    ∃ t, exec (.pulseGateEnd c) s = .next t ∧ t.pending = s.pending ∧ (t.hub.chan c.val).gateEdges = 0
      ∧ t.hub.num (Obj.pulseCount c.val) = s.hub.num (Obj.pulseCount c.val)
      ∧ t.hub.num (Obj.chStFrequency c.val) = (if x.gateEdges < 2 ∨ x.gateLast ≤ x.gateFirst then 0
          else (x.gateEdges - 1) * 1000000000000 / (x.gateLast - x.gateFirst)))

/-- R261 to R266: an output record with a claim not below its group's record acts as its CMD says and raises that record; a pulse ends open, an angle command
acts at its instant, the hold timer and a safe command apply the safe state, and a readback that differs outside its window is counted. -/
def Obligations.OutputsObeyTheClaim : Prop :=
  (∀ (s : State) (c : Fin 192) (d : Delivered) (ds : List Delivered), s.hub.inbox (inboxChannel c.val) = d :: ds →
    let r := d.data
    let g := s.hub.num (Obj.boutGroup c.val)
    let safe := s.hub.num (Obj.boutSafeState c.val)
    ∀ e ∈ [(0, Instr.boutCmdOpen c), (1, .boutCmdClose c), (2, .boutCmdPulse c), (3, .boutCmdSafe c)],
    d.inPort ≠ 16 → r.length = 16 → recCmd r = e.1 → recChannel r = c.val → recGroup r = g → leAt r 12 4 = 0 → recPulse r ≤ 60000 →
    s.hub.chanIn c.val modeBout = true → s.hub.flag Obj.hubFault = false → s.hub.num (Obj.boutShape c.val) ≠ 2 →
    (s.hub.recorded g ≤ recClaim r → s.hub.commandedNow c.val = false → ∃ t, exec e.2 s = .next t ∧ t.pending = s.pending ∧ t.hub.inbox (inboxChannel c.val) = ds
      ∧ t.hub.num (Obj.outputClaim c.val) = recClaim r ∧ (1 ≤ g → g ≤ 32 → t.hub.recorded g = recClaim r)
      ∧ t.hub.num (Obj.outputCommand c.val) = (if e.1 = 0 then 0 else if e.1 = 3 then (if safe = 0 then 0 else if safe = 1 then 1
          else s.hub.num (Obj.outputCommand c.val)) else 1)
      ∧ (t.hub.chan c.val).pulse = (e.1 == 2 || (e.1 == 1 && s.hub.num (Obj.boutShape c.val) == 1))
      ∧ ((t.hub.chan c.val).pulse = true → (t.hub.chan c.val).pulseMs = (if recPulse r = 0 then s.hub.num (Obj.boutPulseWidth c.val) else recPulse r))
      ∧ (t.hub.chan c.val).hold = (s.hub.num (Obj.boutClaimHold c.val) != 0))
    ∧ (∀ z, (s.hub.chan c.val).lastCmd = some z → s.hub.recorded g ≤ recClaim r → z.1 = s.hub.now → recClaim r < z.2.1 → ∃ t, exec e.2 s = .next t
      ∧ t.pending = s.pending ∧ t.hub.inbox (inboxChannel c.val) = ds ∧ t.hub.chan c.val = s.hub.chan c.val
      ∧ t.hub.num (Obj.outputCommand c.val) = s.hub.num (Obj.outputCommand c.val) ∧ t.hub.num (Obj.outputClaim c.val) = s.hub.num (Obj.outputClaim c.val))
    ∧ (∀ z, (s.hub.chan c.val).lastCmd = some z → s.hub.recorded g ≤ recClaim r → z.1 = s.hub.now → z.2.1 = recClaim r → recSource r < z.2.2 → ∃ t,
      exec e.2 s = .next t ∧ t.pending = s.pending ∧ t.hub.inbox (inboxChannel c.val) = ds
      ∧ t.hub.num (Obj.outputCommand c.val) = s.hub.num (Obj.outputCommand c.val) ∧ (t.hub.chan c.val).pulse = (s.hub.chan c.val).pulse)
    ∧ (recClaim r < s.hub.recorded g → ∃ t, exec e.2 s = .next t ∧ t.pending = s.pending ∧ t.hub.inbox (inboxChannel c.val) = ds
      ∧ t.hub.chan c.val = s.hub.chan c.val ∧ t.hub.num (Obj.outputCommand c.val) = s.hub.num (Obj.outputCommand c.val)
      ∧ t.hub.num (Obj.claimRefused c.val) = satAdd (maxWord 32) (s.hub.num (Obj.claimRefused c.val)) 1))
  ∧ (∀ (s : State) (c : Fin 192), s.hub.chanIn c.val modeBout = true →
    let x := s.hub.chan c.val
    let safe := s.hub.num (Obj.boutSafeState c.val)
    (x.pulse = true → ∃ t, exec (.boutPulseEnd c) s = .next t ∧ t.pending = s.pending ∧ (t.hub.chan c.val).pulse = false
      ∧ t.hub.num (Obj.outputCommand c.val) = 0)
    ∧ (∀ p cl at_, x.angle = some (0, p, cl, at_) ∨ x.angle = some (1, p, cl, at_) → ∃ t, exec (.boutAngleInstant c) s = .next t
      ∧ t.pending = s.pending ∧ (t.hub.chan c.val).angle = none
      ∧ t.hub.num (Obj.outputCommand c.val) = (if x.angle = some (0, p, cl, at_) then 0 else 1))
    ∧ (x.hold = true → s.hub.commandedNow c.val = false → ∃ t, exec (.claimHoldExpired c) s = .next t ∧ t.pending = s.pending ∧ (t.hub.chan c.val).hold = false
      ∧ t.hub.num (Obj.outputCommand c.val) = (if safe = 0 then 0 else if safe = 1 then 1 else s.hub.num (Obj.outputCommand c.val))
      ∧ t.hub.num (Obj.safeStatesApplied c.val) = satAdd (maxWord 32) (s.hub.num (Obj.safeStatesApplied c.val)) 1)
    ∧ (s.hub.num (Obj.boutMismatchAction c.val) ≠ 1 → s.hub.num (Obj.boutReadback c.val) ≠ 0 → ∀ level,
      let v := if s.hub.num (Obj.boutReadback c.val) = 2 then !level else level
      ∃ t, exec (.boutReadbackChange c false level) s = .next t ∧ t.pending = s.pending ∧ (t.hub.chan c.val).rb = v
        ∧ t.hub.flag (Obj.inputState c.val) = v ∧ t.hub.num (Obj.chStLastChange c.val) = s.hub.stampAt .E (s.hub.ago 80000)
        ∧ t.hub.num (Obj.readbackMismatches c.val) = (if x.rbWin = false ∧ v ≠ s.hub.commanded c.val
            then satAdd (maxWord 32) (s.hub.num (Obj.readbackMismatches c.val)) 1 else s.hub.num (Obj.readbackMismatches c.val)))
    ∧ (s.hub.num (Obj.boutMismatchAction c.val) ≠ 1 → x.coilWin = true → ∃ t, exec (.readbackWindowExpired c true) s = .next t
      ∧ t.pending = s.pending ∧ t.hub.chan c.val = { x with coilWin := false }
      ∧ t.hub.num (Obj.coilFaults c.val) = (if x.coil ≠ s.hub.commanded c.val
          then satAdd (maxWord 32) (s.hub.num (Obj.coilFaults c.val)) 1 else s.hub.num (Obj.coilFaults c.val))))

/-- R268 to R274, R277: a time-code frame is valid or counted invalid; a time-code output stays low in NEVER; a converter-start pulse ends at its rest
level. A line-sense sample joins its run, and a clean cycle ends NOT_TESTED. Unmirrored ledger entries go to the store, oldest first. -/
def Obligations.TimeCodeLineSenseAndLedger : Prop :=
  (∀ (s : State) (c : Fin 192) (f : TcodeFrame), s.hub.chanIn c.val modeTcode = true → s.hub.num (Obj.tcodeFunction c.val) = 0 →
    ∃ t, exec (.tcodeFrameRx c f) s = .next t ∧ t.pending = s.pending ∧ (t.hub.chan c.val).tcodeOk = tcodeValid f
      ∧ (tcodeValid f = true → t.hub.num (Obj.tcodeValid c.val) = satAdd (maxWord 32) (s.hub.num (Obj.tcodeValid c.val)) 1
          ∧ t.hub.num (Obj.tcodeInvalid c.val) = s.hub.num (Obj.tcodeInvalid c.val))
      ∧ (tcodeValid f = false → t.hub.num (Obj.tcodeInvalid c.val) = satAdd (maxWord 32) (s.hub.num (Obj.tcodeInvalid c.val)) 1
          ∧ t.hub.num (Obj.tcodeLast c.val) = s.hub.num (Obj.tcodeLast c.val)))
  ∧ (∀ (s : State) (c : Fin 192) (rising : Bool), s.hub.chanIn c.val modeTcode = true → s.hub.num (Obj.tcodeFunction c.val) ≠ 0 →
    (s.hub.chan c.val).driverOff = false →
    ∃ t, exec (.tcodeOutputEdge c rising) s = .next t ∧ t.pending = s.pending
      ∧ t.hub.chan c.val = { s.hub.chan c.val with pinA := some (rising && s.hub.num Obj.syncState != syncNever) }
      ∧ (rising = true → s.hub.num Obj.syncState ≠ syncNever → s.hub.num (Obj.tcodeFunction c.val) = 1 →
          t.hub.out.head? = some (Out.timeCode c.val (s.hub.tcodeElement c.val).1 (s.hub.tcodeElement c.val).2)))
  ∧ (∀ (s : State) (c : Fin 192), (s.hub.chan c.val).cstart = true → (s.hub.chan c.val).driverOff = false →
    ∃ t, exec (.cstartPulseEnd c) s = .next t ∧ t.pending = s.pending
      ∧ t.hub.chan c.val = { s.hub.chan c.val with cstart := false, pinA := some (s.hub.num (Obj.cstartPolarity c.val) == 1) })
  ∧ (∀ (s : State) (c : Fin 192) (code : BitVec 12), s.hub.isOn (fidChannel c.val) = true → s.hub.flag (Obj.lsEnable c.val) = true →
    s.hub.lsQuiet c.val = true → (s.hub.chan c.val).wet = false → verdictOf (s.hub.num (Obj.chMode c.val)) (s.hub.lsBand c.val (s.hub.fieldMv c.val code.toNat)) = lsOk →
    ∃ t, exec (.lsSample c code true) s = .next t ∧ t.pending = s.pending
      ∧ t.hub.num (Obj.lsSamples (c.val / 16)) = (s.hub.num (Obj.lsSamples (c.val / 16)) + 1) % 2 ^ 32
      ∧ t.hub.chan c.val = { s.hub.chan c.val with wetLow := 0, wetSum := 0, lsBand := s.hub.lsBand c.val (s.hub.fieldMv c.val code.toNat), lsRun := 1, lsSum := s.hub.fieldMv c.val code.toNat, cycN := (s.hub.chan c.val).cycN + 1, cycSum := (s.hub.chan c.val).cycSum + s.hub.fieldMv c.val code.toNat })
  ∧ (∀ (s : State) (c : Fin 192), s.hub.isOn (fidChannel c.val) = true → s.hub.flag (Obj.lsEnable c.val) = true →
    s.hub.num (Obj.lineState c.val) = lsNotTested →
    let x := s.hub.chan c.val
    let clean := x.cycFault = false ∧ s.hub.num (Obj.lsConfirm c.val) ≤ x.cycN
    ∃ t, exec (.lsDiagnosisCycleEnd c) s = .next t ∧ t.pending = s.pending
      ∧ t.hub.int (Obj.fieldVoltage c.val) = toSigned 32 (ofSigned 32 (if x.cycN = 0 then s.hub.int (Obj.fieldVoltage c.val) else roundDiv x.cycSum x.cycN))
      ∧ t.hub.chan c.val = { x with cycN := 0, cycSum := 0, cycFault := false, cleanRun := if clean then x.cleanRun + 1
          else if x.cycN < s.hub.num (Obj.lsConfirm c.val) then x.cleanRun else 0 }
      ∧ t.hub.num (Obj.lineState c.val) = (if clean then lsOk else lsNotTested))
  ∧ (∀ (s : State), ∀ e ∈ [(s.hub.num Obj.mirrorBatch, Instr.ledgerMirrorIntervalExpired), (65536, .ledgerFlush),
      (s.hub.num Obj.mirrorBatch, .ledgerMirrorBatch)], s.hub.num Obj.mirrorBatch ≤ s.hub.num Obj.unmirrored →
    let es := ((s.hub.ledger.sram.filter s.hub.ledger.unmirrored).reverse).take e.1
    ∃ t, exec e.2 s = .next t ∧ t.pending = s.pending ∧ t.hub.ledger.sram = s.hub.ledger.sram
      ∧ (es = [] → t = s)
      ∧ (∀ z, es.getLast? = some z → t.hub.ledger.mirrored = z.seq ∧ t.hub.ledger.gap = false)
      ∧ (s.hub.ledger.gap = false → es ≠ [] → t.hub.ledger.store = (es.reverse ++ s.hub.ledger.store).take 131072))

/-- R290, R296 to R300: a CAN controller enters the bus in the state its counters give; a frame of another node is counted, lowers REC and is recorded with its
start; an error frame raises the counters, by the amounts of ISO 11898-1 as the model has them (log entry 103), and the bus state follows them; recovery from
bus-off clears them; a dominant bus is latched until it is released, and the controller then waits for 11 recessive bits. -/
def Obligations.CanErrorStatesAndReception : Prop :=
  (∀ (s : State) (n : Fin 48), s.hub.isOn (fidCan n.val) = true → s.hub.num (Obj.busState n.val) = canIntegrating → (s.hub.chan n.val).driverOff = false →
    (s.hub.can n.val).stuck = false → ∃ t, exec (.canIntegrated n) s = .next t ∧ t.pending = s.pending ∧ (t.hub.can n.val).settling = false
      ∧ t.hub.num (Obj.busState n.val) = (if 127 < s.hub.num (Obj.tec n.val) ∨ 127 < s.hub.num (Obj.rec n.val) then canPassive else canActive))
  ∧ (∀ (s : State) (n : Fin 48), s.hub.isOn (fidCan n.val) = true → s.hub.num (Obj.busState n.val) ≠ canIntegrating → (s.hub.chan n.val).driverOff = false →
    (s.hub.can n.val).stuck = false → (s.hub.can n.val).settling = true →
    ∃ t, exec (.canIntegrated n) s = .next t ∧ t.pending = s.pending ∧ (t.hub.can n.val).settling = false
      ∧ t.hub.num (Obj.busState n.val) = s.hub.num (Obj.busState n.val))
  ∧ (∀ (s : State) (n : Fin 48) (f : CanFrame) (start : BitVec 64), s.hub.isOn (fidCan n.val) = true → s.hub.num (Obj.busState n.val) = canActive →
    (s.hub.can n.val).stuck = false → (s.hub.can n.val).settling = false →
    f.fdf = false ∨ s.hub.flag (Obj.fdEnable n.val) = true → s.hub.num (Obj.tec n.val) ≤ 127 → s.hub.num (Obj.rec n.val) ≤ 127 →
    let x := s.hub.can n.val
    let flags := 2 * b2n (s.hub.isReference n.val f.ide f.id.toNat) + 4 * b2n x.lost
    let pad := List.replicate ((4 - f.data.length % 4) % 4) (0 : Byte)
    let body := leBytes 8 start.toNat ++ leBytes 4 (b2n f.rtr * 2 ^ 30 + b2n f.ide * 2 ^ 29 + f.id.toNat)
      ++ [BitVec.ofNat 8 (64 * b2n f.esi + 32 * b2n f.brs + 16 * b2n f.fdf + f.dlc.toNat), BitVec.ofNat 8 f.data.length,
          BitVec.ofNat 8 (s.hub.pitchAt n.val start.toNat).1, BitVec.ofNat 8 (s.hub.pitchAt n.val start.toNat).2] ++ f.data ++ pad
    ∃ t, exec (.canFrameRx n f start) s = .next t ∧ t.pending = s.pending
      ∧ t.hub.num (Obj.canFramesRx n.val) = satAdd (maxWord 32) (s.hub.num (Obj.canFramesRx n.val)) 1
      ∧ t.hub.num (Obj.rec n.val) = s.hub.num (Obj.rec n.val) - 1 ∧ t.hub.num (Obj.busState n.val) = canActive
      ∧ (s.hub.num (Obj.canRoute n.val) ≠ 0xFFFF → s.hub.canHeld n.val + 16 + body.length ≤ 2048 →
          SMap.get (fun _ => []) t.hub.sw.inputs (n.val / 16) = SMap.get (fun _ => []) s.hub.sw.inputs (n.val / 16)
            ++ [{ data := [0x20, BitVec.ofNat 8 n.val] ++ leBytes 2 flags ++ leBytes 2 body.length ++ leBytes 2 x.recSeq
                    ++ leBytes 8 (s.hub.stampAt .H start.toNat) ++ body, route := s.hub.num (Obj.canRoute n.val), owner := fidCan n.val + 1 }]))
  ∧ (∀ (s : State) (n : Fin 48) (e : Fin 6) (dataPhase : Bool) (start : BitVec 64) (special : Bool) (runs : BitVec 8), s.hub.isOn (fidCan n.val) = true →
    s.hub.num (Obj.busState n.val) ≤ canPassive →
    let up := errorCounts (s.hub.can n.val).cur.isSome special runs.toNat
    let tec := s.hub.num (Obj.tec n.val) + up.1
    let rec_ := s.hub.num (Obj.rec n.val) + up.2
    let tally := [Obj.bitErrors n.val, Obj.stuffErrors n.val, Obj.canCrcErrors n.val, Obj.formErrors n.val, Obj.ackErrors n.val].getD (e.val - 1) 0
    ∃ t, exec (.canErrorFrame n e dataPhase start special runs) s = .next t ∧ t.pending = s.pending
      ∧ t.hub.num (Obj.tec n.val) = min 255 tec ∧ t.hub.num (Obj.rec n.val) = min 255 rec_
      ∧ t.hub.num (Obj.busState n.val) = (if 255 < tec then canOff else if 127 < tec ∨ 127 < rec_ then canPassive else canActive)
      ∧ (e.val ≠ 0 → t.hub.num tally = satAdd (maxWord 32) (s.hub.num tally) 1)
      ∧ (255 < tec → (t.hub.can n.val).cur = none ∧ t.hub.num (Obj.busOffEntries n.val) = satAdd (maxWord 32) (s.hub.num (Obj.busOffEntries n.val)) 1))
  ∧ (∀ (s : State) (n : Fin 48), s.hub.isOn (fidCan n.val) = true →
    (∀ start, s.hub.num (Obj.busState n.val) ≤ canPassive → ∃ t, exec (.canOverloadFrame n start) s = .next t ∧ t.pending = s.pending
      ∧ t.hub.num (Obj.overloadFrames n.val) = satAdd (maxWord 32) (s.hub.num (Obj.overloadFrames n.val)) 1
      ∧ t.hub.num (Obj.busState n.val) = s.hub.num (Obj.busState n.val))
    ∧ (s.hub.num (Obj.busState n.val) = canOff → s.hub.num (Obj.busOffRecovery n.val) ≠ 1 ∨ (s.hub.can n.val).recover = true →
      ∃ t, exec (.canBusOffRecovery n) s = .next t ∧ t.pending = s.pending ∧ t.hub.num (Obj.tec n.val) = 0 ∧ t.hub.num (Obj.rec n.val) = 0
        ∧ t.hub.num (Obj.busState n.val) = (if (s.hub.chan n.val).driverOff = true then canIntegrating else canActive) ∧ (t.hub.can n.val).recover = false)
    ∧ ((s.hub.can n.val).stuck = false → ∃ t, exec (.canDominantTimeout n) s = .next t ∧ t.pending = s.pending ∧ (t.hub.can n.val).stuck = true
      ∧ t.hub.num (Obj.dominantStuck n.val) = satAdd (maxWord 32) (s.hub.num (Obj.dominantStuck n.val)) 1)
    ∧ ((s.hub.can n.val).stuck = true → ∃ t, exec (.canStuckReleased n) s = .next t ∧ t.pending = s.pending ∧ (t.hub.can n.val).stuck = false
      ∧ (t.hub.can n.val).settling = true))

/-- R301, R302, R306 to R312: a valid update fills its buffer, and is offered in the next cycle where it finds the bus idle; the matrix walks its basic cycles; the end of a pitch's flashing offers its frame, which starts on an idle bus,
is missed after its latest start, and is counted when it ends or loses arbitration; references missed up to the limit stop the matrix. -/
def Obligations.CanScheduleMatrix : Prop :=
  (∀ (s : State) (n : Fin 48) (idle : Bool) (d : Delivered) (ds : List Delivered), s.hub.inbox (inboxChannel n.val) = d :: ds →
    let m := s.hub.oct (Obj.canSchedule n.val)
    let b := byteAt d.data 0
    s.hub.chanIn n.val modeCan = true → s.hub.isOn (fidCan n.val) = true → (s.hub.chan n.val).driverOff = false → 4 ≤ d.data.length → b < 32 → bufValid m b = true → leAt d.data 1 3 = 0 →
    d.data.length = 4 + dlcLen (bufFdf m b) (bufDlc m b) →
    ∃ t, exec (.canTxUpdate n idle) s = .next t ∧ t.pending = s.pending ∧ t.hub.inbox (inboxChannel n.val) = ds
      ∧ (t.hub.can n.val).offer = ((s.hub.can n.val).offer || idle) ∧ t.hub.out = s.hub.out
      ∧ (t.hub.can n.val).bufData b = some (d.data.drop 4) ∧ (t.hub.can n.val).pend.contains b = true)
  ∧ (∀ (s : State) (n : Fin 48) (j : Fin 32), s.hub.isOn (fidCan n.val) = true → s.hub.canMatrix n.val = true → s.hub.num (Obj.matrixState n.val) = matRunning →
    let x := s.hub.can n.val
    let m := s.hub.oct (Obj.canSchedule n.val)
    let i := s.hub.num (Obj.basicCycle n.val)
    let after := (i + 1) % matCycles m
    let at_ := s.hub.num (Obj.cycleStartLtc n.val) + matCycleLen m * 2 / 5
    let b := cellBuf m i j.val
    let u := x.atLatch s.hub.now b
    let f : CanTx := { buf := b, data := u.1.getD [], kind := 0, cycle := i, pitch := j.val, latest := s.hub.latestStart n.val j.val b, updated := u.2.2 }
    let scheduled := j.val < matPitches m ∧ cellKind m i j.val = 1 ∧ s.hub.num (Obj.busState n.val) ≠ canOff ∧ (s.hub.chan n.val).driverOff = false
      ∧ u.1.isSome = true ∧ (bufEvent m b = false ∨ u.2.1 = true ∧ ∀ k, x.cur = some k → k.buf = b → k.updated = true)
    (s.hub.num (Obj.matrixStart n.val) = 0 → ∃ t, exec (.canBasicCycleStart n) s = .next t ∧ t.pending = s.pending
      ∧ t.hub.num (Obj.basicCycle n.val) = after ∧ t.hub.num (Obj.cycleStartLtc n.val) = at_ ∧ (t.hub.can n.val).waiting = none)
    ∧ (scheduled → ∃ t, exec (.canFlashingEnd n j false) s = .next t ∧ t.pending = s.pending ∧ (t.hub.can n.val).waiting = some f
      ∧ (t.hub.can n.val).window = none)
    ∧ (scheduled → s.hub.canSends n.val = true → x.cur = none → reached f.latest s.hub.now = true → ∃ t, exec (.canFlashingEnd n j true) s = .next t
      ∧ t.pending = s.pending ∧ (t.hub.can n.val).cur = some { f with start := s.hub.now } ∧ (t.hub.can n.val).waiting = none
      ∧ t.hub.out.head? = some (.canFrame n.val b f.data))
    ∧ (j.val < matPitches m → cellKind m i j.val = 2 → ∃ t, exec (.canFreeWindowStart n j false) s = .next t ∧ t.pending = s.pending
      ∧ (t.hub.can n.val).window = some j.val ∧ (t.hub.can n.val).waiting = none)
    ∧ (s.hub.num (Obj.matrixStart n.val) = 1 → ∃ t, exec (.canRefMissed n) s = .next t ∧ t.pending = s.pending
      ∧ t.hub.num (Obj.refMissed n.val) = satAdd (maxWord 32) (s.hub.num (Obj.refMissed n.val)) 1
      ∧ (s.hub.num (Obj.refMissLimit n.val) ≤ x.misses + 1 → t.hub.num (Obj.matrixState n.val) = matWait ∧ (t.hub.can n.val).misses = 0)
      ∧ (x.misses + 1 < s.hub.num (Obj.refMissLimit n.val) → t.hub.num (Obj.basicCycle n.val) = after ∧ (t.hub.can n.val).misses = x.misses + 1)))
  ∧ (∀ (s : State) (n : Fin 48) (f : CanTx), (s.hub.can n.val).waiting = some f → ∃ t, exec (.canLatestStartPassed n) s = .next t ∧ t.pending = s.pending
    ∧ (t.hub.can n.val).waiting = none ∧ t.hub.num (Obj.pitchesMissed n.val) = satAdd (maxWord 32) (s.hub.num (Obj.pitchesMissed n.val)) 1)
  ∧ (∀ (s : State) (n : Fin 48) (f : CanTx), (s.hub.can n.val).cur = some f →
    let x := s.hub.can n.val
    (∃ t, exec (.canTxEnd n) s = .next t ∧ t.pending = s.pending
      ∧ t.hub.num (Obj.canFramesTx n.val) = satAdd (maxWord 32) (s.hub.num (Obj.canFramesTx n.val)) 1
      ∧ (f.kind = 0 → t.hub.num (Obj.pitchesSent n.val) = satAdd (maxWord 32) (s.hub.num (Obj.pitchesSent n.val)) 1)
      ∧ (f.updated = false → f.kind ≠ 0 → (t.hub.can n.val).pend.contains f.buf = false)
      ∧ (x.waiting = none → x.pend = [] → x.fresh = [] → x.retries = [] → (t.hub.can n.val).cur = none))
    ∧ (∃ t, exec (.canArbitrationLost n) s = .next t ∧ t.pending = s.pending ∧ (t.hub.can n.val).cur = none
      ∧ t.hub.num (Obj.arbitrationLost n.val) = satAdd (maxWord 32) (s.hub.num (Obj.arbitrationLost n.val)) 1
      ∧ (f.kind = 0 → bufRetry (s.hub.oct (Obj.canSchedule n.val)) f.buf = true → (t.hub.can n.val).retries.contains f.buf = true)))

/-- R321, R322: what NOP, COUNT, FLAG, BRANCH and HOLD do to the sequencer, and that they touch nothing else of the hub. -/
def Obligations.SequencerControlInstructions : Prop :=
  ∀ (s : State) (q : Fin 24) (i : Nat), s.hub.seqRuns q.val i = true →
    let x := s.hub.sq q.val
    let on := (x.pc + 1) % 64
    let y := fun pc => s.hub.seqPassed q.val i 1 pc
    let ctr := fun (v : Nat) (z : SeqState) => if insClk i then { z with cb := v } else { z with ca := v }
    let dec := ((if insClk i then x.cb else x.ca) + 65535) % 65536
    let does := fun (c : Instr) (z : SeqState) => ∃ t, exec c s = .next t ∧ s.seqBecame q.val z t
    (insOp i = 0 → does (.seqNop q) (y on))
    ∧ (insOp i = 6 → bits i 7 6 = 0 → does (.seqCountImm q) (ctr (insN i) (y on)))
    ∧ (insOp i = 6 → bits i 7 6 = 1 →
        does (.seqCountReload q) (ctr (s.hub.num (if insClk i then Obj.seqCbReload q.val else Obj.seqCaReload q.val)) (y on)))
    ∧ (insOp i = 6 → bits i 7 6 = 2 → does (.seqCountShifter q) (ctr (x.shifter % 65536) (y on)))
    ∧ (insOp i = 6 → bits i 7 6 = 3 → does (.seqCountDec q) (ctr dec (y on)))
    ∧ (insOp i = 7 → bits i 8 7 = 0 → does (.seqFlagSet q) { y on with flags := setBit x.flags (bits i 2 0) })
    ∧ (insOp i = 7 → bits i 8 7 = 1 → does (.seqFlagClear q) { y on with flags := clearBit x.flags (bits i 2 0) })
    ∧ (insOp i = 8 → does (.seqHold q) { y x.pc with run := seqStalled, ticks := x.ticks })
    ∧ (insOp i = 9 → bits i 7 6 = 0 →
        does (.seqBranchZero q) (y (if (if insClk i then x.cb else x.ca) = 0 then insN i else on)))
    ∧ (insOp i = 9 → bits i 7 6 = 1 → does (.seqBranchDecNz q) (ctr dec (y (if dec ≠ 0 then insN i else on))))
    ∧ (insOp i = 10 → ∀ pad, does (.seqBranchPinHigh q pad) (y (if s.hub.readPin q.val (bits i 8 6) pad then insN i else on)))
    ∧ (insOp i = 11 → ∀ pad, does (.seqBranchPinLow q pad) (y (if s.hub.readPin q.val (bits i 8 6) pad then on else insN i)))
    ∧ (insOp i = 12 → bits i 8 6 ≤ 3 → does (.seqBranchShifter q) (y (if (bits i 8 6 = 0 ∧ x.bitCount = 32) ∨ (bits i 8 6 = 1 ∧ x.bitCount = 0)
        ∨ (bits i 8 6 = 2 ∧ x.bitCount = s.hub.num (Obj.seqMatchCount q.val)) ∨ bits i 8 6 = 3 then insN i else on)))
    ∧ (insOp i = 13 → does (.seqBranchFlag q) (y (if x.flags.testBit (bits i 8 6) then insN i else on)))

/-- R323, R336: SEQ_DRIVE gives each pin of the group's mask its bit and no other pin; SAMPLE and EMIT count their bits, clocked or not, EMIT
shifts its bits out, and each counts the words it overruns. -/
def Obligations.SequencerPinInstructions : Prop :=
  ∀ (s : State) (q : Fin 24) (i : Nat), s.hub.seqRuns q.val i = true →
    let x := s.hub.sq q.val
    let w := s.hub.num (Obj.seqShiftWidth q.val)
    let m := insN i / w
    let n := if insClk i then 2 * m + 1 else m
    (insOp i = 1 → ∃ t, exec (.seqDrive q) s = .next t ∧ t.pending = s.pending
      ∧ t.hub.sq q.val = { s.hub.seqPassed q.val i 1 ((x.pc + 1) % 64) with lev := (t.hub.sq q.val).lev }
      ∧ ∀ p, p < 8 → SMap.get (fun _ => none) (t.hub.sq q.val).lev p =
          if (s.hub.num (if insClk i then Obj.seqGroup1Mask q.val else Obj.seqGroup0Mask q.val)).testBit p then some (i.testBit p)
          else SMap.get (fun _ => none) x.lev p)
    ∧ (insOp i = 2 → 0 < m → ∀ pads, ∃ t, exec (.seqSample q pads) s = .next t ∧ t.pending = s.pending
      ∧ (t.hub.sq q.val).bitCount = min 32 (x.bitCount + m * w) ∧ (t.hub.sq q.val).pc = (x.pc + 1) % 64
      ∧ (t.hub.sq q.val).run = seqRunning ∧ (t.hub.sq q.val).ticks = x.ticks + n + insLinger i
      ∧ t.hub.num (Obj.sampleOverflows q.val) = if 32 < x.bitCount + m * w
          then satAdd (maxWord 32) (s.hub.num (Obj.sampleOverflows q.val)) 1 else s.hub.num (Obj.sampleOverflows q.val))
    ∧ (insOp i = 3 → x.shifter < 2 ^ 32 → ∃ t, exec (.seqEmit q) s = .next t ∧ t.pending = s.pending
      ∧ (t.hub.sq q.val).bitCount = x.bitCount - m * w ∧ (t.hub.sq q.val).pc = (x.pc + 1) % 64
      ∧ (t.hub.sq q.val).shifter = (if s.hub.num (Obj.seqShiftDir q.val) = 1 then x.shifter / 2 ^ (m * w) else x.shifter * 2 ^ (m * w) % 2 ^ 32)
      ∧ (t.hub.sq q.val).run = seqRunning ∧ (t.hub.sq q.val).ticks = x.ticks + n + insLinger i
      ∧ t.hub.num (Obj.emitUnderruns q.val) = if x.bitCount < m * w
          then satAdd (maxWord 32) (s.hub.num (Obj.emitUnderruns q.val)) 1 else s.hub.num (Obj.emitUnderruns q.val))

/-- R324: LOAD takes the head word of the transmit FIFO; with none, LOAD.b stalls and LOAD.nb takes the last word again and counts. STORE puts the
counted bits into the receive FIFO, which keeps them while no route takes them; when it is full STORE.b stalls and STORE.nb drops and counts. A
stall ends as the word comes. -/
def Obligations.SequencerLoadsAndStores : Prop :=
  ∀ (s : State) (q : Fin 24) (i : Nat),
    let x := s.hub.sq q.val
    let on := (x.pc + 1) % 64
    let b := s.hub.num (Obj.seqWordBits q.val)
    let lsb := s.hub.num (Obj.seqShiftDir q.val) = 1
    let sh := fun (v : Nat) => if lsb then v % 2 ^ b else v % 2 ^ b * 2 ^ (32 - b)
    let n := s.hub.ticksBy q.val s.hub.now + 1 - x.ticks
    let val := if lsb then x.shifter / 2 ^ (32 - x.bitCount) else x.shifter % 2 ^ x.bitCount
    let full := 8 ≤ x.rx.length
    (∀ c ∈ [if insClk i then .seqLoadNb q else .seqLoadB q], s.hub.seqRuns q.val i = true → insOp i = 4 →
      ∀ v ws, x.tx = v :: ws → ∃ t, exec c s = .next t ∧ s.seqBecame q.val
        { (s.hub.seqPassed q.val i 1 on) with shifter := sh v, bitCount := b, last := v, tx := ws ++ x.txWords.take (8 - ws.length), txWords := x.txWords.drop (8 - ws.length) } t)
    ∧ (s.hub.seqRuns q.val i = true → insOp i = 4 → insClk i = false → x.tx = [] → ∃ t, exec (.seqLoadB q) s = .next t
      ∧ s.seqBecame q.val { (s.hub.seqPassed q.val i 0 x.pc) with run := seqStalled, ticks := x.ticks } t)
    ∧ (s.hub.seqRuns q.val i = true → insOp i = 4 → insClk i = true → x.tx = [] → ∃ t, exec (.seqLoadNb q) s = .next t
      ∧ t.pending = s.pending ∧ t.hub.sq q.val = { (s.hub.seqPassed q.val i 1 on) with shifter := sh x.last, bitCount := b }
      ∧ t.hub.num (Obj.staleLoads q.val) = satAdd (maxWord 32) (s.hub.num (Obj.staleLoads q.val)) 1)
    ∧ (∀ c ∈ [if insClk i then .seqStoreNb q else .seqStoreB q], s.hub.seqRuns q.val i = true → insOp i = 5 →
      ¬ full → s.hub.num (Obj.seqRoute q.val) = 0xFFFF → ∃ t, exec c s = .next t
        ∧ s.seqBecame q.val { (s.hub.seqPassed q.val i 1 on) with rx := x.rx ++ [(val, s.hub.stamp .E)], shifter := 0, bitCount := 0 } t)
    ∧ (s.hub.seqRuns q.val i = true → insOp i = 5 → insClk i = false → full → ∃ t, exec (.seqStoreB q) s = .next t
      ∧ s.seqBecame q.val { (s.hub.seqPassed q.val i 0 x.pc) with run := seqStalled, ticks := x.ticks } t)
    ∧ (s.hub.seqRuns q.val i = true → insOp i = 5 → insClk i = true → full → ∃ t, exec (.seqStoreNb q) s = .next t ∧ t.pending = s.pending
      ∧ t.hub.sq q.val = { (s.hub.seqPassed q.val i 1 on) with shifter := 0, bitCount := 0, lost := true, dropAt := (t.hub.sq q.val).dropAt }
      ∧ t.hub.num (Obj.rxDrops q.val) = satAdd (maxWord 32) (s.hub.num (Obj.rxDrops q.val)) 1)
    ∧ (s.hub.seqWaits q.val i = true → insOp i = 4 → ∀ v ws, x.tx = v :: ws → ∃ t, exec (.seqStallEnd q) s = .next t
      ∧ s.seqBecame q.val { x with run := seqRunning, pc := on, ticks := x.ticks + n + insLinger i, shifter := sh v, bitCount := b, last := v, tx := ws ++ x.txWords.take (8 - ws.length), txWords := x.txWords.drop (8 - ws.length) } t)
    ∧ (s.hub.seqWaits q.val i = true → insOp i = 5 → ¬ full → s.hub.num (Obj.seqRoute q.val) = 0xFFFF → ∃ t, exec (.seqStallEnd q) s = .next t
      ∧ s.seqBecame q.val { x with run := seqRunning, pc := on, ticks := x.ticks + n + insLinger i, rx := x.rx ++ [(val, s.hub.stamp .E)], shifter := 0, bitCount := 0 } t)

/-- R322, R326, R329, R336, R337: flags reach the sequencers the mask, the register or SEQGO names; a HOLD is released by its own condition only; the
watchdog latches, and stops the sequencer where its action says so. -/
def Obligations.SequencerFlagsEventsAndWatchdog : Prop :=
  (∀ (s : State) (q : Fin 24) (i : Nat), s.hub.seqRuns q.val i = true → insOp i = 7 →
    let x := s.hub.sq q.val
    let y := s.hub.seqPassed q.val i 1 ((x.pc + 1) % 64)
    let due := x.sigAt = 0 ∨ x.sigAt - 1 + 40000 ≤ s.hub.now
    (bits i 8 7 = 2 → ∃ t, exec (.seqFlagSignal q) s = .next t ∧ t.pending = s.pending
      ∧ t.hub.sq q.val = (if due then { y with sigAt := s.hub.now + 1 } else y)
      ∧ (¬ due → t.hub.num (Obj.signalsMerged q.val) = satAdd (maxWord 32) (s.hub.num (Obj.signalsMerged q.val)) 1))
    ∧ (bits i 8 7 = 3 → ∃ t, exec (.seqFlagBroadcast q) s = .next t ∧ t.pending = s.pending ∧ t.hub = { s.hub with seqs := t.hub.seqs }
      ∧ ∀ p, p < 24 →
        let z := if p = q.val then y else s.hub.sq p
        t.hub.sq p = if (s.hub.num (Obj.seqSignalMask q.val)).testBit p then { z with flags := setBit z.flags (bits i 2 0) } else z))
  ∧ (∀ (s : State) (q : Fin 24) (i : Nat) (rising : Bool), s.hub.seqWaits q.val i = true → insOp i = 8 → bits i 8 6 ≤ 4 →
    let x := s.hub.sq q.val
    let k := bits i 8 6
    let e := bits i 2 0
    let met := (k = 0 ∧ rising = true) ∨ (k = 1 ∧ rising = false) ∨ k = 2 ∨ (k = 3 ∧ x.events.testBit e = true) ∨ (k = 4 ∧ x.flags.testBit e = true)
    (met → ∃ t, exec (.seqHoldRelease q rising) s = .next t ∧ s.seqBecame q.val
      { x with run := seqRunning, pc := (x.pc + 1) % 64, divAt := s.hub.now + 1, ticks := insLinger i, events := if k = 3 then clearBit x.events e else x.events } t)
    ∧ (¬ met → exec (.seqHoldRelease q rising) s = .next s))
  ∧ (∀ (s : State) (path : RegPath) (go : BitVec 24), ∃ t, exec (.seqGo path go) s = .next t ∧ t.pending = s.pending
    ∧ ∀ p, p < 24 → t.hub.sq p = if go.toNat.testBit p ∧ s.hub.isOn (fidSeq p) = true ∧ (s.hub.sq p).run = seqIdle ∧ s.hub.flag Obj.hubFault = false
        then { s.hub.sq p with run := seqRunning, divAt := s.hub.now + 4, ticks := 0, kick := s.hub.now + 4 } else s.hub.sq p)
  ∧ (∀ (s : State) (path : RegPath) (q : Fin 32) (set_ : BitVec 8), q.val < 24 → (s.hub.func (fidSeq q.val)).inReset = false →
    ∃ t, exec (.seqflagWrite path q set_) s = .next t
      ∧ s.seqBecame q.val { s.hub.sq q.val with flags := Nat.lor (s.hub.sq q.val).flags set_.toNat } t)
  ∧ (∀ (s : State) (q : Fin 24), s.hub.isOn (fidSeq q.val) = true → (s.hub.sq q.val).run ≠ seqIdle → s.hub.num (Obj.seqWdLimit q.val) ≠ 0 →
    (s.hub.sq q.val).kick ≠ s.hub.now →
    ∃ t, exec (.seqWatchdogExpired q) s = .next t ∧ t.pending = s.pending
      ∧ t.hub.num (Obj.watchdogExpiries q.val) = satAdd (maxWord 32) (s.hub.num (Obj.watchdogExpiries q.val)) 1
      ∧ (s.hub.num (Obj.seqWdAction q.val) ≠ 1 → t.hub.sq q.val = { s.hub.sq q.val with wdExpired := true, kick := s.hub.now })
      ∧ (s.hub.num (Obj.seqWdAction q.val) = 1 → t.hub.func (fidSeq q.val) = { life := .off, fault := true }
          ∧ (t.hub.sq q.val).run = seqIdle ∧ (t.hub.sq q.val).wdExpired = true ∧ (t.hub.sq q.val).shifter = 0 ∧ (t.hub.sq q.val).rx = []))

/-- R333, R334: the gap closes the open record with GAP and sends it to the switch; a packet of whole words joins the transmit words, any other is
discarded and counted. -/
def Obligations.SequencerRecordsAndPackets : Prop :=
  (∀ (s : State) (q : Fin 24), s.hub.num (Obj.seqRxGap q.val) ≠ 0 → (s.hub.sq q.val).words ≠ [] →
    let x := s.hub.sq q.val
    let body := x.words.flatMap (leBytes 4)
    let hdr := [0x30, BitVec.ofNat 8 (0xC0 + q.val)] ++ leBytes 2 (2 + if x.lost then 8 else 0) ++ leBytes 2 body.length ++ leBytes 2 x.recSeq
      ++ leBytes 8 x.first
    ∃ t, exec (.seqRxGapExpired q) s = .next t ∧ t.pending = s.pending
      ∧ t.hub.sq q.val = { x with words := [], lost := false, recSeq := (x.recSeq + 1) % 65536 }
      ∧ t.hub.num (Obj.recordsSent q.val) = satAdd (maxWord 32) (s.hub.num (Obj.recordsSent q.val)) 1
      ∧ SMap.get (fun _ => []) t.hub.sw.inputs (q.val / 2) = SMap.get (fun _ => []) s.hub.sw.inputs (q.val / 2)
          ++ [{ data := hdr ++ body, route := s.hub.num (Obj.seqRoute q.val), owner := fidSeq q.val + 1 }])
  ∧ (∀ (s : State) (q : Fin 24) (d : Delivered) (ds : List Delivered), s.hub.inbox (inboxSeq q.val) = d :: ds →
    let x := s.hub.sq q.val
    let n := d.data.length
    ∃ t, exec (.seqTxPacket q) s = .next t ∧ t.pending = s.pending ∧ t.hub.inbox (inboxSeq q.val) = ds
      ∧ (s.hub.isOn (fidSeq q.val) = true → n ≠ 0 → n % 4 = 0 → n ≤ 4092 → x.tx.length ≤ 8 →
          (t.hub.sq q.val).tx ++ (t.hub.sq q.val).txWords = x.tx ++ x.txWords ++ (List.range (n / 4)).map (fun i => leAt d.data (4 * i) 4)
          ∧ (t.hub.sq q.val).tx.length = min 8 (x.tx.length + x.txWords.length + n / 4)
          ∧ t.hub.num (Obj.wordsIn q.val) = satAdd (maxWord 32) (s.hub.num (Obj.wordsIn q.val)) (n / 4))
      ∧ (s.hub.isOn (fidSeq q.val) = false → t.hub.sq q.val = x
          ∧ t.hub.num (Obj.seqTxDiscards q.val) = satAdd (maxWord 32) (s.hub.num (Obj.seqTxDiscards q.val)) 1)
      ∧ (s.hub.isOn (fidSeq q.val) = true → n = 0 ∨ n % 4 ≠ 0 ∨ 4092 < n → t.hub.sq q.val = x
          ∧ t.hub.num (Obj.seqMalformed q.val) = satAdd (maxWord 32) (s.hub.num (Obj.seqMalformed q.val)) 1))

/-- R343 to R345, R347 to R354, R357: a station port that is UP counts and checks what it receives, routes what it accepts and sends by rank; links come and go; the tables of
nodes and duplicates follow what is heard. -/
def Obligations.StationPortsReceiveAndSend : Prop :=
  (∀ (s : State) (b : Bool) (f : List Byte) (start : PhyStamp) (ok : Bool), s.hub.staUp (staIx b) = true →
    let p := staIx b
    let fits := 60 ≤ f.length ∧ f.length + 4 ≤ (if s.hub.red = redNone then 1522 else 1528) ∧ ethType f ≠ 0x8808
    let stamp := s.hub.staStamp (phyFifths start) (s.hub.rxTime p (phyFifths start))
    let n := SMap.get (fun _ => 0) s.hub.sta.recSeq p
    let hdr := [0x40, BitVec.ofNat 8 (0xE0 + p)] ++ leBytes 2 (b2n (ethTagged f) + 8 * b2n (ethType f == 0x88F7)) ++ leBytes 2 f.length ++ leBytes 2 n ++ leBytes 8 stamp
    ∃ t, exec (.staFrameRx b f start ok) s = .next t ∧ t.pending = s.pending
      ∧ t.hub.num (Obj.staPortFramesRx p) = satAdd (maxWord 32) (s.hub.num (Obj.staPortFramesRx p)) 1
      ∧ (ok = false → t.hub.num (Obj.fcsErrors p) = satAdd (maxWord 32) (s.hub.num (Obj.fcsErrors p)) 1)
      ∧ (ok = true → f.length < 60 → t.hub.num (Obj.runts p) = satAdd (maxWord 32) (s.hub.num (Obj.runts p)) 1)
      ∧ (ok = true → fits → s.hub.red = redNone → s.hub.staAccepts p f = false → t.hub.num (Obj.addrDrops p) = satAdd (maxWord 32) (s.hub.num (Obj.addrDrops p)) 1)
      ∧ (ok = true → fits → s.hub.red = redNone → s.hub.staAccepts p f = true → s.hub.ptpServes p = false → s.hub.oct Obj.rxRules = [] → s.hub.num Obj.defaultRoute ≠ 0xFFFF →
          SMap.get (fun _ => []) t.hub.sw.inputs (14 + p) = SMap.get (fun _ => []) s.hub.sw.inputs (14 + p)
            ++ [{ data := hdr ++ f, route := s.hub.num Obj.defaultRoute, stamp := some stamp }]))
  ∧ (∀ (s : State) (b : Bool) (f : List Byte) (start : PhyStamp), s.hub.staUp (staIx b) = true → s.hub.red = redPrp → 60 ≤ f.length → f.length ≤ 1524 → ethType f = 0x88FB →
    s.hub.staAccepts (staIx b) f = true → rctOf f = none → s.hub.sta.nodes.contains (beAt f (ethOff f + 8) 6) = false → s.hub.sta.nodes.length < 256 →
    ∃ t, exec (.prpSupervisionRx b f start) s = .next t ∧ t.pending = s.pending ∧ t.hub.sta.nodes = s.hub.sta.nodes ++ [beAt f (ethOff f + 8) 6]
      ∧ t.hub.num Obj.nodeCount = s.hub.sta.nodes.length + 1)
  ∧ (∀ (s : State) (b : Bool) (d : Delivered) (ds : List Delivered), s.hub.inbox (inboxStation (staIx b)) = d :: ds → s.hub.red = redNone →
    ∃ t, exec (.staTxPacket b) s = .next t ∧ t.pending = s.pending ∧ t.hub.inbox (inboxStation (staIx b)) = ds
      ∧ (14 ≤ d.data.length → d.data.length ≤ 1518 → s.hub.staUp (staIx b) = true → t.hub.staTx (staIx b) = s.hub.staTx (staIx b)
          ++ [{ rank := if d.cls = 0 then 2 else 3, frame := d.data ++ List.replicate (60 - d.data.length) 0, ins := d.insOff, echo := d.echo }])
      ∧ (d.data.length < 14 ∨ 1518 < d.data.length ∨ s.hub.staUp (staIx b) = false → t.hub.staTx (staIx b) = s.hub.staTx (staIx b)
          ∧ t.hub.num (Obj.staPortTxDiscards (staIx b)) = satAdd (maxWord 32) (s.hub.num (Obj.staPortTxDiscards (staIx b))) 1))
  ∧ (∀ (s : State) (b : Bool) (start : PhyStamp), s.hub.flag Obj.hubFault = false → s.hub.sends (fidStation (staIx b)) = true → s.hub.num (Obj.staPortLinkState (staIx b)) = 1 →
    ∀ x, nextTx (s.hub.staTx (staIx b)) = some x → x.ins = none → x.echo = none → x.tag = 0 → x.ptp = 0 →
      ∃ t, exec (.staFrameDeparted b start) s = .next t ∧ t.pending = s.pending ∧ t.hub.out = .station b (x.frame ++ fcsOf x.frame) :: s.hub.out
        ∧ t.hub.staTx (staIx b) = (s.hub.staTx (staIx b)).erase x
        ∧ t.hub.num (Obj.staPortFramesTx (staIx b)) = satAdd (maxWord 32) (s.hub.num (Obj.staPortFramesTx (staIx b))) 1)
  ∧ (∀ (s : State), s.hub.red ≠ redNone → s.hub.staUp 0 = true → s.hub.staUp 1 = true → ∃ t, exec .prpSupervisionSend s = .next t ∧ t.pending = s.pending
      ∧ t.hub.sta.seq = (s.hub.sta.seq + 1) % 65536 ∧ t.hub.sta.supSeq = (s.hub.sta.supSeq + 1) % 65536
      ∧ ∀ p, p < 2 → t.hub.staTx p = s.hub.staTx p ++ [{ rank := 1, frame := s.hub.supFrame, tag := s.hub.red, seq := s.hub.sta.seq }])
  ∧ (∀ (s : State) (mac : BitVec 48), ∃ t, exec (.nodeTableAgeOut mac) s = .next t ∧ t.pending = s.pending ∧ t.hub.sta.nodes = s.hub.sta.nodes.filter (· != mac.toNat)
      ∧ t.hub.num Obj.nodeCount = t.hub.sta.nodes.length)
  ∧ (∀ (s : State) (src : BitVec 48) (seq : BitVec 16), ∃ t, exec (.duplicateEntryForget src seq) s = .next t ∧ t.pending = s.pending
      ∧ t.hub.sta.dups = s.hub.sta.dups.filter (· != (src.toNat, seq.toNat)) ∧ t.hub.dict = s.hub.dict)
  ∧ (∀ (s : State) (b : Bool), s.hub.red ≠ redNone → ∃ t, exec (.lanSilentTimeout b) s = .next t ∧ t.pending = s.pending
      ∧ SMap.get (fun _ => false) t.hub.sta.silent (staIx b) = true)
  ∧ (∀ (s : State) (b : Bool), s.hub.isOn (fidStation (staIx b)) = true → s.hub.num (Obj.staPortLinkState (staIx b)) ≠ 1 → ∃ t, exec (.staLinkGained b) s = .next t
      ∧ t.pending = s.pending ∧ t.hub.staUp (staIx b) = true ∧ (s.hub.ptpServes (staIx b) = true → t.hub.ptpState (staIx b) = psListening))
  ∧ (∀ (s : State) (b : Bool), s.hub.num (Obj.staPortLinkState (staIx b)) ≠ 0 → ∃ t, exec (.staLinkLoss b) s = .next t ∧ t.pending = s.pending
      ∧ t.hub.num (Obj.staPortLinkState (staIx b)) = 0 ∧ t.hub.staUp (staIx b) = false
      ∧ t.hub.num (Obj.linkLosses (staIx b)) = satAdd (maxWord 32) (s.hub.num (Obj.linkLosses (staIx b))) 1
      ∧ t.hub.staTx (staIx b) = [])

/-- R345, R355, R358 to R361: Pdelay_Req is answered; Announce brings a master into the list of its port; a one-step Sync of the parent measures the offset; messages leave
at their intervals while the port is MASTER, and a port in PRE_MASTER becomes MASTER once it has qualified; they go with rising sequence numbers; a silent master is forgotten. -/
def Obligations.PtpMessagesMoveTheUnit : Prop :=
  (∀ (s : State) (b : Bool) (f : List Byte) (start : PhyStamp),
    let p := staIx b
    let m := f.drop (ptpOff f)
    let at_ := scaledNs (s.hub.rxTime p (phyFifths start))
    s.hub.staUp p = true → s.hub.ptpServes p = true → s.hub.red = redNone → ethType f = 0x88F7 → 60 ≤ f.length → f.length ≤ 1518 → s.hub.staAccepts p f = true → byteAt m 4 = s.hub.ptpDomain →
    (byteAt m 0 % 16 = ptPdelayReq → ∃ t, exec (.ptpMessageRx b f start) s = .next t ∧ t.pending = s.pending
      ∧ (t.hub.staTx p).map (fun x => (x.rank, x.ptp, x.ref)) = (s.hub.staTx p).map (fun x => (x.rank, x.ptp, x.ref)) ++ [(1, 2, at_ - msgCorr m)]
      ∧ (t.hub.staTx p).getLast?.map (fun x => beNat (x.frame.take 6)) = some 0x0180C200000E)
    ∧ (byteAt m 0 % 16 = ptAnnounce → (announceSet m).id / 65536 ≠ beNat s.hub.clockId → (announceSet m).steps < 255 → ∃ t, exec (.ptpMessageRx b f start) s = .next t ∧ t.pending = s.pending
      ∧ (t.hub.ptpPort p).foreign.head?.map (·.id) = some (announceSet m).id ∧ (t.hub.ptpPort p).foreign.length ≤ 5)
    ∧ (byteAt m 0 % 16 = ptSync → msgTwoStep m = false → s.hub.ptpState p = psSlave → s.hub.ptpParent.map (·.id) = some (msgSrc m) → ∃ t, exec (.ptpMessageRx b f start) s = .next t
      ∧ t.pending = s.pending ∧ t.hub.num Obj.syncRx = satAdd (maxWord 32) (s.hub.num Obj.syncRx) 1
      ∧ t.hub.num Obj.offsetFromMaster = ofSigned 64 ((at_ - msgCorr m - (s.hub.ptpPort p).delay - msgTime m 34) / 65536)))
  ∧ (∀ (s : State) (b : Bool),
    let p := staIx b
    let x := s.hub.ptpPort p
    let sent := fun (k : Nat) (t : State) => t.pending = s.pending ∧ (t.hub.staTx p).map (fun x => (x.rank, x.ptp)) = (s.hub.staTx p).map (fun x => (x.rank, x.ptp)) ++ [(1, k)]
    s.hub.ptpLive p = true →
    (s.hub.ptpState p = psMaster → (∃ t, exec (.ptpMessageInterval b .sync) s = .next t ∧ sent 1 t ∧ (t.hub.ptpPort p).syncSeq = (x.syncSeq + 1) % 65536)
      ∧ (∃ t, exec (.ptpMessageInterval b .announce) s = .next t ∧ sent 0 t ∧ (t.hub.ptpPort p).annSeq = (x.annSeq + 1) % 65536))
    ∧ (s.hub.ptpState p = psPreMaster → ∃ t, exec (.ptpMessageInterval b .announce) s = .next t ∧ t.pending = s.pending ∧ t.hub.staTx p = s.hub.staTx p
      ∧ (x.qualify ≤ 1 → t.hub.ptpState p = psMaster) ∧ (1 < x.qualify → t.hub.ptpState p = psPreMaster ∧ (t.hub.ptpPort p).qualify = x.qualify - 1))
    ∧ (∃ t, exec (.ptpMessageInterval b .pdelayReq) s = .next t ∧ sent 3 t ∧ (t.hub.ptpPort p).pdSeq = (x.pdSeq + 1) % 65536
      ∧ (x.pdWait = true → t.hub.num Obj.pdelayFailures = satAdd (maxWord 32) (s.hub.num Obj.pdelayFailures) 1))
    ∧ (∃ t, exec (.ptpAnnounceTimeout b) s = .next t ∧ t.pending = s.pending ∧ (t.hub.ptpPort p).foreign = []
      ∧ t.hub.num Obj.announceTimeouts = satAdd (maxWord 32) (s.hub.num Obj.announceTimeouts) 1))

/-- R365, R368, R370, R371, R374 to R376: records at the signal slots move the values of members and a block whose data set changes enters a new state; it is sent again with a rising sqNum and a
growing interval; an accepted frame of a publisher makes its subscription VALID, a wrong one makes it MISMATCH, silence makes it LOST. -/
def Obligations.GooseBlocksAndSubscriptions : Prop :=
  (∀ (s : State) (g : Fin 128) (d : Delivered) (ds : List Delivered), s.hub.inbox inboxService = d :: ds → d.target < 64 →
    let newState := fun (h : Hub) (t : State) (at_ : Nat) (named : List Byte → Bool) => s.hub.isOn (fidGocb g.val) = true → s.hub.gocbWaiting g.val = false →
      h.encodings g.val named ≠ SMap.get (fun _ => []) s.hub.goose.enc g.val →
      t.hub.num (Obj.stNum g.val) = nextNum (s.hub.num (Obj.stNum g.val)) ∧ t.hub.num (Obj.sqNum g.val) = 0 ∧ t.hub.num (Obj.gocbLastChange g.val) = at_
        ∧ t.hub.num (Obj.stateChanges g.val) = satAdd (maxWord 32) (s.hub.num (Obj.stateChanges g.val)) 1
    let e := slice d.data 16 16
    let value := (leAt d.data 16 4, leAt d.data 20 2 % 8192, leAt d.data 8 8)
    (byteAt d.data 0 = 0x02 → d.data.length = 32 → leAt d.data 4 2 = 16 → ∃ t, exec .gooseLedgerRecord s = .next t ∧ t.pending = s.pending ∧ t.hub.inbox inboxService = ds
      ∧ t.hub.signal d.target (byteAt e 14) = some (leAt e 0 8, byteAt e 15) ∧ t.hub.num Obj.signalRecords = satAdd (maxWord 32) (s.hub.num Obj.signalRecords) 1
      ∧ newState { s.hub with goose := { s.hub.goose with sig := t.hub.goose.sig } } t (leAt e 0 8) (namesChannel d.target (byteAt e 14)))
    ∧ (byteAt d.data 0 ≠ 0x42 → byteAt d.data 0 ≠ 0x02 → ∃ t, exec .gooseLedgerRecord s = .next t ∧ t.pending = s.pending ∧ t.hub.inbox inboxService = ds
      ∧ t.hub.goose = s.hub.goose ∧ t.hub.num Obj.decodeErrors = satAdd (maxWord 32) (s.hub.num Obj.decodeErrors) 1)
    ∧ (byteAt d.data 0 = 0x42 → d.data.length = 24 → leAt d.data 4 2 = 8 → ∃ t, exec .gooseHostValueRecord s = .next t ∧ t.pending = s.pending ∧ t.hub.inbox inboxService = ds
      ∧ t.hub.hostVal (byteAt d.data 1) = some value ∧ t.hub.num Obj.signalRecords = satAdd (maxWord 32) (s.hub.num Obj.signalRecords) 1
      ∧ newState { s.hub with goose := { s.hub.goose with vals := t.hub.goose.vals } } t (leAt d.data 8 8) (namesValue (byteAt d.data 1))))
  ∧ (∀ (s : State) (g : Fin 128), s.hub.isOn (fidGocb g.val) = true → s.hub.gocbSends g.val = true →
      SMap.get (fun _ => 0) s.hub.goose.newAt g.val ≠ s.hub.now + 1 → ∃ t, exec (.gooseRetransmit g) s = .next t ∧ t.pending = s.pending
      ∧ t.hub.num (Obj.sqNum g.val) = nextNum (s.hub.num (Obj.sqNum g.val)) ∧ t.hub.num (Obj.stNum g.val) = s.hub.num (Obj.stNum g.val)
      ∧ SMap.get (fun _ => 0) t.hub.goose.interval g.val = min (SMap.get (fun _ => 0) s.hub.goose.interval g.val * s.hub.num (Obj.gocbBackoff g.val)) (s.hub.num (Obj.gocbT0 g.val))
      ∧ t.hub.num (Obj.framesSent g.val) = satAdd (maxWord 32) (s.hub.num (Obj.framesSent g.val)) 1
      ∧ (SMap.get (fun _ => []) t.hub.sw.inputs 17).map (fun p => (p.route, p.owner)) = (SMap.get (fun _ => []) s.hub.sw.inputs 17).map (fun p => (p.route, p.owner))
          ++ [(s.hub.num (Obj.gocbRoute g.val), fidGocb g.val + 1)])
  ∧ (∀ (s : State) (u : Fin 256) (d : Delivered) (ds : List Delivered), s.hub.inbox inboxService = d :: ds → d.target = 0x100 →
    let p := decodeGoose (d.data.drop 16)
    let st := s.hub.num (Obj.subState u.val)
    let newer := p.int 0x85 ≠ s.hub.num (Obj.lastStNum u.val) ∨ 0 < toSigned 32 (p.int 0x86 + 2 ^ 32 - s.hub.num (Obj.lastSqNum u.val))
    16 ≤ d.data.length → byteAt d.data 0 = 0x40 → s.hub.subMatches u.val p = true → p.bool 0x87 = false →
    ∃ t, exec .gooseSubFrameRx s = .next t ∧ t.pending = s.pending ∧ t.hub.inbox inboxService = ds ∧ t.hub.num Obj.framesReceived = satAdd (maxWord 32) (s.hub.num Obj.framesReceived) 1
      ∧ (s.hub.subCause u.val p = 0 → st ≠ subValid ∨ newer → t.hub.num (Obj.subState u.val) = subValid ∧ t.hub.num (Obj.lastStNum u.val) = p.int 0x85
        ∧ t.hub.num (Obj.lastSqNum u.val) = p.int 0x86 ∧ t.hub.num (Obj.lastTal u.val) = p.int 0x81
        ∧ t.hub.num (Obj.framesAccepted u.val) = satAdd (maxWord 32) (s.hub.num (Obj.framesAccepted u.val)) 1)
      ∧ (s.hub.subCause u.val p ≠ 0 → t.hub.num (Obj.subState u.val) = subMismatch ∧ t.hub.num (Obj.framesAccepted u.val) = s.hub.num (Obj.framesAccepted u.val)))
  ∧ (∀ (s : State) (u : Fin 256), s.hub.isOn (fidSub u.val) = true →
    (s.hub.num (Obj.subState u.val) = subValid → SMap.get (fun _ => 0) s.hub.goose.subAt u.val ≠ s.hub.now + 1 → ∃ t, exec (.gooseSubTalExpired u) s = .next t ∧ t.pending = s.pending ∧ t.hub.num (Obj.subState u.val) = subLost
      ∧ t.hub.num (Obj.talExpiries u.val) = satAdd (maxWord 32) (s.hub.num (Obj.talExpiries u.val)) 1)
    ∧ (s.hub.num (Obj.subState u.val) = subWaiting → ∃ t, exec (.gooseSubFirstWaitExpired u) s = .next t ∧ t.pending = s.pending ∧ t.hub.num (Obj.subState u.val) = subLost))

/-- R391 to R393, R404 to R408, R415, R416: the supervisor listens, contends, takes a claim that the store has to confirm, and becomes ACTIVE with it, unless a claim as high has been
seen meanwhile, when it takes the next; heartbeats of the peer make it STANDBY,
depose it or are missed; a mismatch or a missed heartbeat makes a STANDBY claim. -/
def Obligations.SupervisorRolesAndClaims : Prop :=
  (∀ (s : State),
    let c := max s.hub.highestClaim s.hub.duplex.peerPersisted + 1
    let claims := fun (why : Persist) (t : State) => t.pending = s.pending ∧ t.hub.duplex.persisting = some (why, c) ∧ t.hub.num Obj.role = s.hub.num Obj.role
    (s.hub.num Obj.role = roleListening → ∃ t, exec .duplexListenExpired s = .next t ∧ t.pending = s.pending ∧ t.hub.num Obj.role = roleContending)
    ∧ (s.hub.num Obj.role = roleContending → s.hub.duplex.persisting = none → c ≤ 0xFFFFFFFF → ∃ t, exec .duplexContendExpired s = .next t ∧ claims .start t)
    ∧ (s.hub.num Obj.role = roleStandby → s.hub.duplex.ready = none → s.hub.duplex.persisting = none → c ≤ 0xFFFFFFFF →
        (∃ t, exec .duplexHeartbeatTimeout s = .next t ∧ claims .takeover t ∧ t.hub.num Obj.swapState = swapIdle
          ∧ t.hub.num Obj.takeovers = satAdd (maxWord 32) (s.hub.num Obj.takeovers) 1
          ∧ t.hub.num Obj.heartbeatsMissed = satAdd (maxWord 32) (s.hub.num Obj.heartbeatsMissed) 1)
        ∧ (s.hub.duplex.digestDiffers = false → s.hub.num Obj.dupMismatchLimit ≤ s.hub.num Obj.mismatchRun → ∃ t, exec .duplexMismatchLimit s = .next t ∧ claims .takeover t
          ∧ t.hub.num Obj.takeovers = satAdd (maxWord 32) (s.hub.num Obj.takeovers) 1))
    ∧ (s.hub.duplex.digestDiffers = true ∨ s.hub.num Obj.mismatchRun < s.hub.num Obj.dupMismatchLimit → exec .duplexMismatchLimit s = .next s)
    ∧ (s.hub.num Obj.role = roleActive → ∃ t, exec .duplexHeartbeatTimeout s = .next t ∧ t.pending = s.pending ∧ t.hub.num Obj.role = roleActive
        ∧ t.hub.num Obj.claim = s.hub.num Obj.claim ∧ t.hub.num Obj.heartbeatsMissed = satAdd (maxWord 32) (s.hub.num Obj.heartbeatsMissed) 1))
  ∧ (∀ (s : State) (node : Fin 128) (c : BitVec 8),
    let k := node.val * 256 + c.toNat
    let o := s.hub.dupOut k
    o.win = true → ∃ t, exec (.duplexCompareWindowExpired node c) s = .next t ∧ t.pending = s.pending
      ∧ t.hub.dupOut k = { o with win := false, mismatched := decide (o.a ≠ o.s) } ∧ ∀ p, p ≠ k → t.hub.dupOut p = s.hub.dupOut p)
  ∧ (∀ (s : State) (ok : Bool), ∀ p, s.hub.duplex.persisting = some p → p.1 ≠ Persist.dropped → ∃ t, exec (.duplexClaimPersisted ok) s = .next t ∧ t.pending = s.pending
      ∧ (ok = false → t.hub.duplex.persisting = none ∧ t.hub.num Obj.role = roleOut ∧ t.hub.num Obj.swapState = swapIdle)
      ∧ (ok = true → s.hub.claimUsed p.2 = true → t.hub.num Obj.role = s.hub.num Obj.role ∧ t.hub.duplex.ready = s.hub.duplex.ready ∧
          let c := max (max s.hub.highestClaim p.2) s.hub.duplex.peerPersisted + 1
          (c ≤ 0xFFFFFFFF → t.hub.duplex.persisting = some (p.1, c)))
      ∧ (ok = true → s.hub.claimUsed p.2 = false → t.hub.duplex.persisting = none ∧ t.hub.duplex.persisted = max s.hub.duplex.persisted p.2
        ∧ (p.1 = .start → t.hub.num Obj.role = roleActive ∧ t.hub.num Obj.claim = p.2 ∧ t.hub.num Obj.persistedRole = roleActive ∧ t.hub.duplex.gained = gainedStart)
        ∧ (p.1 = .takeover → t.hub.duplex.ready = some (p.2, gainedTakeover) ∧ t.hub.num Obj.role = s.hub.num Obj.role)
        ∧ (p.1 = .swap → t.hub.duplex.ready = some (p.2, gainedSwap) ∧ t.hub.num Obj.role = s.hub.num Obj.role)))
  ∧ (∀ (s : State) (west : Bool) (f : RingFrame), s.hub.claimFromPeer west f 0 = true →
    let r := s.hub.num Obj.role
    let its := byteAt f.payload 3
    ∃ t, exec (.heartbeatRx west f) s = .next t ∧ t.pending = s.pending ∧ t.hub.num Obj.peerRole = its
      ∧ (its = roleActive → byteAt f.payload 1 ≤ 32 → t.hub.recorded (byteAt f.payload 1) = max (s.hub.recorded (byteAt f.payload 1)) f.claim)
      ∧ (r = roleListening → t.hub.num Obj.role = (if its = roleContending then roleContending else roleStandby))
      ∧ (r = roleContending → its ≠ roleContending → t.hub.num Obj.role = roleStandby)
      ∧ (r = roleActive → its = roleActive → s.hub.num Obj.claim < f.claim → t.hub.num Obj.role = (if beAt f.payload 20 4 = gainedTakeover then roleOut else roleStandby))
      ∧ (r = roleActive → its ≠ roleActive → t.hub.num Obj.role = roleActive ∧ t.hub.num Obj.claim = s.hub.num Obj.claim))

/-- R410 to R413: a planned swap is asked for, prepared, acknowledged and handed over; it can be refused, aborted or time out; at boundary k the old ACTIVE stops and the new one begins. -/
def Obligations.PlannedSwapMovesRoles : Prop :=
  (∀ (s : State) (west : Bool) (f : RingFrame),
    let h := s.hub.claimHeard west f
    let arg := beAt f.payload 20 4
    let active := h.num Obj.role = roleActive
    let standby := h.num Obj.role = roleStandby
    let c := max h.highestClaim h.duplex.peerPersisted + 1
    (s.hub.claimFromPeer west f 1 = true → active → ∃ t, exec (.swapRequestRx west f) s = .next t ∧ t.pending = s.pending ∧ t.hub.num Obj.role = roleActive
      ∧ (h.num Obj.swapState = swapIdle → h.duplex.digestDiffers = false → t.hub.num Obj.swapState = swapPrepare)
      ∧ (h.num Obj.swapState ≠ swapIdle ∨ h.duplex.digestDiffers = true → t.hub.num Obj.swapState = h.num Obj.swapState))
    ∧ (s.hub.claimFromPeer west f 2 = true → standby → h.duplex.digestDiffers = false → ∃ t, exec (.swapPrepareRx west f) s = .next t ∧ t.pending = s.pending
      ∧ (h.num Obj.mirrorState ≠ mirUnsynced → arg ≤ h.num Obj.mirrorSeqApplied → h.num Obj.mismatchedOutputs = 0 →
          t.hub.num Obj.swapState = swapPrepared ∧ t.hub.duplex.prepareSeq = 0)
      ∧ (h.num Obj.mirrorState ≠ mirUnsynced → h.num Obj.mirrorSeqApplied < arg → t.hub.duplex.prepareSeq = arg + 1 ∧ t.hub.num Obj.swapState = h.num Obj.swapState))
    ∧ (s.hub.claimFromPeer west f 3 = true → active → h.num Obj.swapState = swapPrepare → ∃ t, exec (.swapAckRx west f) s = .next t ∧ t.pending = s.pending
      ∧ t.hub.num Obj.swapState = swapHandover ∧ t.hub.duplex.swapK = (h.time.ccNumber + 2 + h.latencyCycles) % 2 ^ 32 + 1)
    ∧ (s.hub.claimFromPeer west f 4 = true → standby → c ≤ 0xFFFFFFFF →
      ∃ t, exec (.swapHandoverRx west f) s = .next t ∧ t.pending = s.pending ∧ t.hub.num Obj.swapState = swapHandover ∧ t.hub.duplex.swapK = arg + 1
        ∧ t.hub.num Obj.role = roleStandby ∧ (h.claiming = false → t.hub.duplex.persisting = some (.swap, c))
        ∧ (∀ cl, h.duplex.persisting = some (.takeover, cl) → t.hub.duplex.persisting = some (.swap, cl))
        ∧ (∀ cl, h.duplex.ready = some (cl, gainedTakeover) → t.hub.duplex.ready = some (cl, gainedSwap)))
    ∧ (s.hub.claimFromPeer west f 5 = true → standby → ∃ t, exec (.swapAbortRx west f) s = .next t ∧ t.pending = s.pending
      ∧ t.hub.num Obj.swapState = swapIdle ∧ t.hub.duplex.swapK = 0 ∧ t.hub.duplex.ready = h.duplex.ready.filter (fun p => p.2 != gainedSwap)
      ∧ t.hub.duplex.persisting = h.duplex.persisting.map (fun p => (if p.1 = .swap then Persist.dropped else p.1, p.2)) ∧ t.hub.num Obj.role = roleStandby)
    ∧ (s.hub.claimFromPeer west f 6 = true →
      (active → h.num Obj.swapState = swapPrepare → ∃ t, exec (.swapRefuseRx west f) s = .next t ∧ t.pending = s.pending ∧ t.hub.num Obj.swapState = swapIdle
        ∧ t.hub.num Obj.swapsAborted = satAdd (maxWord 32) (h.num Obj.swapsAborted) 1 ∧ t.hub.num Obj.role = roleActive)
      ∧ (standby → ∃ t, exec (.swapRefuseRx west f) s = .next t ∧ t.pending = s.pending ∧ t.hub.duplex.requested = false ∧ t.hub.num Obj.role = roleStandby)))
  ∧ (∀ (s : State), s.hub.sinceK ≠ some 0 → exec .duplexSwapBoundaryK s = .next s)
  ∧ (∀ (s : State), s.hub.sinceK = some 0 →
    (s.hub.num Obj.role = roleActive → exec .duplexSwapBoundaryK s = .next (s.withHub (s.hub.setNum Obj.role roleHandover).heartbeat))
    ∧ (s.hub.num Obj.role = roleStandby → ∀ p, s.hub.duplex.ready = some p → p.2 = gainedSwap → s.hub.claimUsed p.1 = false → ∃ t, exec .duplexSwapBoundaryK s = .next t ∧ t.pending = s.pending
      ∧ t.hub.num Obj.role = roleActive ∧ t.hub.num Obj.claim = p.1 ∧ t.hub.duplex.gained = gainedSwap ∧ t.hub.duplex.swapK = 0
      ∧ t.hub.num Obj.swapsDone = satAdd (maxWord 32) (s.hub.num Obj.swapsDone) 1))
  ∧ (∀ (s : State),
    (s.hub.num Obj.role = roleActive → s.hub.num Obj.swapState = swapPrepare → ∃ t, exec .duplexSwapTimeout s = .next t ∧ t.pending = s.pending
      ∧ t.hub.num Obj.swapState = swapIdle ∧ t.hub.num Obj.role = roleActive ∧ t.hub.num Obj.swapsAborted = satAdd (maxWord 32) (s.hub.num Obj.swapsAborted) 1)
    ∧ (s.hub.num Obj.role = roleHandover → ∃ t, exec .duplexSwapTimeout s = .next t ∧ t.pending = s.pending
      ∧ t.hub.duplex.ready = some (s.hub.num Obj.claim, gainedResume) ∧ t.hub.num Obj.swapsAborted = satAdd (maxWord 32) (s.hub.num Obj.swapsAborted) 1))

/-- R93, R108, R109, R261, R262, R392 to R397: the dispatcher discards and counts a malformed packet; of any other it makes a record with SOURCE 2, for an
output of this hub with the group of the output. A record outside the hub's group, or of an ACTIVE unit, crosses the core to the cluster port of this hub's channel (an ACTIVE unit's copy
also to the ring) or as a CMD frame to its node; a STANDBY compares it, and any other role withholds and counts it. A CMD frame for the hub is counted malformed
where its two claims differ or its payload is not 20 bytes; otherwise it crosses to the cluster port of its channel and reaches the output stage with SOURCE 3,
which takes it where its claim is not below the recorded claim of the group, and refuses and counts it otherwise. A frame for another node passes the ridge path
with HOPS advanced, and wrapped where the port ahead is lost. -/
def Obligations.CommandsReachOutputsUnderTheirClaim : Prop :=
  (∀ (s : State) (d : Delivered) (ds : List Delivered), s.hub.inbox inboxCmd = d :: ds →
    let h := (s.hub.setInbox inboxCmd ds).packetTaken { data := d.data, queue := d.queue, credits := d.credits, descs := d.descs } true
    let node := byteAt d.data 16
    let c := recChannel d.data
    let here := node = 0 ∨ node = h.self
    let g := if here ∧ c < 192 then h.num (Obj.boutGroup c) else recGroup d.data
    let r := leBytes 4 (if h.inGroup g = true then d.claim else 0) ++ [BitVec.ofNat 8 g] ++ slice d.data 5 2 ++ [2] ++ slice d.data 8 8
    let good := d.data.length = 20 ∧ leAt d.data 17 3 = 0 ∧ node ≤ 64
    let goes := h.inGroup (recGroup r) = false ∨ h.flag Obj.hubFault = false ∧ h.num Obj.role = roleActive
    let sent := h.when (h.inGroup (recGroup r) && h.self != 0) (fun h => h.sendCmd h.self r)
    (¬ good → exec .cmdDispatchPacket s = .next (s.withHub (h.count Obj.cmdMalformed)))
    ∧ (good → goes → here → c < 192 → exec .cmdDispatchPacket s = .next (s.withHub (sent.localCmd 16 r)))
    ∧ (good → goes → ¬ here → h.flag Obj.hubFault = false → exec .cmdDispatchPacket s = .next (s.withHub (h.sendCmd node r)))
    ∧ (good → h.inGroup (recGroup r) = true → h.flag Obj.hubFault = false → h.num Obj.role = roleStandby →
        exec .cmdDispatchPacket s = .next (s.withHub (h.compareCmd false (if node = 0 then h.self else node) r)))
    ∧ (good → h.inGroup (recGroup r) = true → h.flag Obj.hubFault = true ∨ h.num Obj.role ≠ roleActive ∧ h.num Obj.role ≠ roleStandby →
        exec .cmdDispatchPacket s = .next (s.withHub (h.count Obj.cmdWithheld))))
  ∧ (∀ (s : State) (west : Bool) (f : RingFrame), f.dst = s.hub.self → s.hub.admits west f = true → f.type = tCmd →
    let r := f.payload.take 16
    let c := recChannel r
    let h := s.hub.afterWindow west f
    let x := h.crossCore (12 + portIx west) (c / 16) f
    c < 192 →
      (f.payload.length ≠ 20 ∨ recClaim r ≠ f.claim → exec (.cmdRx west f) s = .next (s.withHub ((h.count (Obj.chMalformed c)).snoop f)))
      ∧ (f.payload.length = 20 → recClaim r = f.claim → x.1 = true →
          exec (.cmdRx west f) s = .next (s.withHub ((x.2.boutCommand c (r.take 7 ++ [3] ++ r.drop 8)).snoop f))
          ∧ (recGroup r = s.hub.num (Obj.boutGroup c) → recCmd r ≤ 3 → leAt r 12 4 = 0 → recPulse r ≤ 60000 → s.hub.chanIn c modeBout = true →
              s.hub.flag Obj.hubFault = false → s.hub.num (Obj.boutShape c) ≠ 2 → ∀ t, t = s.withHub ((x.2.boutCommand c (r.take 7 ++ [3] ++ r.drop 8)).snoop f) →
              (s.hub.recorded (recGroup r) ≤ recClaim r → s.hub.commandedNow c = false → t.hub.num (Obj.outputClaim c) = recClaim r
                ∧ (1 ≤ recGroup r → recGroup r ≤ 32 → t.hub.recorded (recGroup r) = recClaim r))
              ∧ (recClaim r < s.hub.recorded (recGroup r) → t.hub.num (Obj.outputClaim c) = s.hub.num (Obj.outputClaim c)
                ∧ t.hub.num (Obj.claimRefused c) = satAdd (maxWord 32) (s.hub.num (Obj.claimRefused c)) 1))))
  ∧ (∀ (s : State) (west : Bool) (f : RingFrame), (s.hub.frameArrives west f).1 = true → s.hub.strips f = false →
    neighbourOnly f = false → f.hops < 127 →
    ∀ o k, s.hub.wayOut (!west) { f with hops := f.hops + 1, stomp := decide (f.crc ≠ .ok) } = some (o, k) →
    ∃ t, exec (.ridgePass west f) s = .next t ∧ t.pending = s.pending
      ∧ (let l := s.hub.lane o
         t.hub.lane o = if k.cls ≤ 1 ∨ k.type = tBcn ∨ k.type = tBrk then { l with prio := l.prio ++ [k] } else { l with bulk := l.bulk ++ [k] })
      ∧ t.hub.lane (!o) = s.hub.lane (!o)
      ∧ (s.hub.portUp (!west) = true → o = !west ∧ k = { f with hops := f.hops + 1, stomp := decide (f.crc ≠ .ok) })
      ∧ (s.hub.portUp (!west) = false → o = west ∧ k.wrap = true)
      ∧ t.hub.num (Obj.transitFrames (portIx west)) = satAdd (maxWord 32) (s.hub.num (Obj.transitFrames (portIx west))) 1)

/-- R465 to R468, R472, R570, R571, R616: a GO bit runs an engine that is ON, idle and has a job, and is ignored otherwise; a job ends with the running value over its octets and its result,
or fails with the whole words of
eight octets that were read before, and a HOST job fails at once where the endpoint may not send requests; the store serves bursts by rank and gives a write up after the third attempt; a refresh asks for every partition. -/
def Obligations.ScanEnginesAndTheStore : Prop :=
  (∀ (s : State) (path : RegPath) (e : Fin 4), ∃ t, exec (.scanGo path (BitVec.ofNat 4 (2 ^ e.val))) s = .next t ∧ t.pending = s.pending
      ∧ (e.val < 3 → s.hub.isOn (fidScan e.val) = true → (s.hub.func (fidScan e.val)).inReset = false → (s.hub.scan e.val).run ≠ scanRunning → s.hub.goHasJob e.val = true → jobSource (s.hub.goJob e.val) ≠ 2 ∨ s.hub.canRequest = true →
          t.hub.scan e.val = { s.hub.scan e.val with run := scanRunning, status := 0, done := 0, job := s.hub.goJob e.val, startedAt := s.hub.now + 1 } ∧ t.hub.num (Obj.scanGoIgnored e.val) = s.hub.num (Obj.scanGoIgnored e.val))
      ∧ (e.val < 3 → s.hub.isOn (fidScan e.val) = true → (s.hub.func (fidScan e.val)).inReset = false → (s.hub.scan e.val).run ≠ scanRunning → s.hub.goHasJob e.val = true → jobSource (s.hub.goJob e.val) = 2 → s.hub.canRequest = false →
          (t.hub.scan e.val).run = scanFailed ∧ (t.hub.scan e.val).status = 3 ∧ (t.hub.scan e.val).done = 0 ∧ (t.hub.scan e.val).jobSeq = ((s.hub.scan e.val).jobSeq + 1) % 256
            ∧ t.hub.num (Obj.jobsFailed e.val) = satAdd (maxWord 32) (s.hub.num (Obj.jobsFailed e.val)) 1)
      ∧ (e.val = 3 ∨ s.hub.isOn (fidScan e.val) = false ∨ (s.hub.scan e.val).run = scanRunning ∨ s.hub.goHasJob e.val = false →
          t.hub.scan e.val = s.hub.scan e.val ∧ t.hub.num (Obj.scanGoIgnored e.val) = satAdd (maxWord 32) (s.hub.num (Obj.scanGoIgnored e.val)) 1)
      ∧ ∀ p, p ≠ e.val → t.hub.scan p = s.hub.scan p)
  ∧ (∀ (s : State) (e : Fin 3) (data : List Byte), (s.hub.scan e.val).run = scanRunning →
    let j := s.hub.job e.val
    let x := s.hub.scan e.val
    let v := s.hub.scanValue j (s.hub.jobOctets e.val data)
    (x.startedAt = 0 ∨ x.startedAt ≠ x.stopAt → s.hub.jobLocked e.val = false → s.hub.jobPoison e.val = [] →
      ∃ t, exec (.scanJobEnd e data) s = .next t ∧ t.pending = s.pending
      ∧ t.hub.scan e.val = { x with run := scanDone, status := 0, jobSeq := (x.jobSeq + 1) % 256, done := jobLength j, val := v, res := s.hub.scanResult j v }
      ∧ t.hub.num (Obj.jobsDone e.val) = satAdd (maxWord 32) (s.hub.num (Obj.jobsDone e.val)) 1)
    ∧ (∀ (cause : Fin 3) (good : BitVec 32),
      let bs := ((s.hub.jobOctets e.val data).take good.toNat)
      let bs := bs.take (bs.length / 8 * 8)
      ∃ t, exec (.scanReadFailure e cause good data) s = .next t ∧ t.pending = s.pending
        ∧ t.hub.scan e.val = { x with
          run := scanFailed, status := cause.val + 2, jobSeq := (x.jobSeq + 1) % 256, done := bs.length, val := s.hub.scanValue j bs, res := s.hub.scanResult j (s.hub.scanValue j bs) }
        ∧ t.hub.num (Obj.jobsFailed e.val) = satAdd (maxWord 32) (s.hub.num (Obj.jobsFailed e.val)) 1))
  ∧ (∀ (s : State), ∀ j, s.hub.store.cur = some j →
    (∃ t, exec (.storeBurstComplete true) s = .next t ∧ t.pending = s.pending ∧ t.hub.store.tries = 0
      ∧ (s.hub.store.waiting = [] → t.hub.store.cur = (if 1 < j.left then some { j with left := j.left - 1, offset := j.offset + 64 } else none))
      ∧ (∀ k, s.hub.store.waiting = [k] → storeOrder s.hub.store.turn k < storeOrder s.hub.store.turn j → t.hub.store.cur = some k))
    ∧ (∃ t, exec (.storeBurstComplete false) s = .next t ∧ t.pending = s.pending
      ∧ (s.hub.store.tries < 2 → t.hub = { s.hub with store := { s.hub.store with tries := s.hub.store.tries + 1 } })
      ∧ (2 ≤ s.hub.store.tries → j.rank < 4 → t.hub.store.tries = 0 ∧ t.hub.store.bad = true ∧ t.hub.num Obj.storeWriteFaults = satAdd (maxWord 32) (s.hub.num Obj.storeWriteFaults) 1)))
  ∧ (∀ (s : State), s.hub.store.cur = none → s.hub.num Obj.journalState = jnlIdle → ∃ t, exec .storeRefresh s = .next t ∧ t.pending = s.pending
      ∧ t.hub.store.cur = some { rank := rankKeeper, part := 0, offset := 0, left := 0x10000 }
      ∧ t.hub.store.waiting = s.hub.store.waiting ++ [{ rank := rankKeeper, part := 2, offset := 0, left := 0x10000 },
          { rank := rankKeeper, part := 3 + s.hub.num Obj.activeConfig, offset := 0, left := 0x2000 }, { rank := rankKeeper, part := partPersist, offset := 0, left := 0x400 }])
  ∧ (∀ (s : State), s.hub.num Obj.journalState = jnlTrial → s.hub.keeper.ready = true → ∃ t, exec .confirmWindowExpired s = .next t ∧ t.pending = s.pending
      ∧ t.hub.num Obj.journalState = jnlRevert ∧ t.hub.upd.expired = true)

/-- R459: the profiles of the check-value units, code by code, each with its check value over the nine octets "123456789"; code 8 is the user profile
of check-config, whose check value is user-check; 0 and every further code name none. -/
def Obligations.CheckProfilesAreTheTable : Prop :=
  let nine : List Byte := [0x31, 0x32, 0x33, 0x34, 0x35, 0x36, 0x37, 0x38, 0x39]
  (∀ (h : Hub) (code : Nat) (p : Profile) (value : Nat),
    (code, p, value) ∈ [(1, ⟨32, 0x04C11DB7, 0xFFFFFFFF, true, true, 0xFFFFFFFF⟩, 0xCBF43926), (2, ⟨32, 0x1EDC6F41, 0xFFFFFFFF, true, true, 0xFFFFFFFF⟩, 0xE3069283),
      (3, ⟨16, 0x1021, 0xFFFF, false, false, 0⟩, 0x29B1), (4, ⟨16, 0x1021, 0, true, true, 0⟩, 0x2189), (5, ⟨16, 0x8005, 0xFFFF, true, true, 0⟩, 0x4B37),
      (6, ⟨8, 0x07, 0, false, false, 0⟩, 0xF4), (7, ⟨8, 0x2F, 0xFF, false, false, 0xFF⟩, 0xDF)] →
    h.profile code = some p ∧ p.value nine = value)
  ∧ (∀ h : Hub, h.profile 8 = some ⟨h.num Obj.userWidth, h.num Obj.userPoly, h.num Obj.userInit, h.flag Obj.userRefin, h.flag Obj.userRefout,
      h.num Obj.userXorout⟩)
  ∧ (∀ (h : Hub) (p : Profile), h.profile 8 = some p → h.userCheckNow.num Obj.userCheck = p.value nine)
  ∧ ∀ (h : Hub) (code : Nat), code = 0 ∨ 8 < code → h.profile code = none

/-- R17, R506, R507, R508: each command brings a round of the converter, with which settings written since take effect; `h` is the hub then. A feed that has qualified becomes valid and the round's values show; in NATIVE each gate follows its feed's validity. A feed
lost by undervoltage or overvoltage is no longer valid, its gate is off, its tally counts. A reverse comparator takes its feed out of active-feed and
leaves validity as it was. The end of a dead time switches to the feed it ran toward, when that feed is valid, and counts a switchover. The service
feed follows its limits, service-feed-enable and the sourcing of VBUS. No other feed's validity changes. -/
def Obligations.FeedsFollowTheirVoltage : Prop :=
  (∀ (s : State) (b : Bool) (m : PowerSample),
    let h := s.hub.round m
    (if b then h.power.validB else h.power.validA) = false →
    ∃ t, exec (.feedQualified b m) s = .next t ∧ t.pending = s.pending
      ∧ t.hub.power.validA = (h.power.validA || !b) ∧ t.hub.power.validB = (h.power.validB || b)
      ∧ t.hub.power.validS = h.power.validS
      ∧ (h.priority = false → t.hub.power.gateA = (h.power.validA || !b) ∧ t.hub.power.gateB = (h.power.validB || b)))
  ∧ (∀ (s : State) (b : Bool) (m : PowerSample),
    let h := s.hub.round m
    ∀ c ∈ [Instr.feedUndervoltage b m, .feedOvervoltage b m],
    (if b then h.power.validB else h.power.validA) = true →
    ∃ t, exec c s = .next t ∧ t.pending = s.pending
      ∧ t.hub.power.validA = (h.power.validA && b) ∧ t.hub.power.validB = (h.power.validB && !b)
      ∧ t.hub.power.validS = h.power.validS ∧ (if b then t.hub.power.gateB else t.hub.power.gateA) = false
      ∧ t.hub.num (if b then Obj.feedBLosses else Obj.feedALosses)
          = satAdd (maxWord 32) (h.num (if b then Obj.feedBLosses else Obj.feedALosses)) 1)
  ∧ (∀ (s : State) (b : Bool) (m : PowerSample),
    let h := s.hub.round m
    ∃ t, exec (.reverseCurrent b m) s = .next t ∧ t.pending = s.pending
      ∧ (if b then t.hub.power.revB else t.hub.power.revA) = true
      ∧ (t.hub.num Obj.activeFeed).testBit (if b then 1 else 0) = false
      ∧ t.hub.power.validA = h.power.validA ∧ t.hub.power.validB = h.power.validB
      ∧ t.hub.power.gateA = h.power.gateA ∧ t.hub.power.gateB = h.power.gateB)
  ∧ (∀ (s : State) (m : PowerSample),
    let h := s.hub.round m
    h.power.dead = 1 ∧ h.power.validA = true ∨ h.power.dead = 2 ∧ h.power.validB = true ∧ h.power.validA = false →
    ∃ t, exec (.deadTimeExpired m) s = .next t ∧ t.pending = s.pending
      ∧ t.hub.power.gateA = decide (h.power.dead = 1) ∧ t.hub.power.gateB = decide (h.power.dead = 2) ∧ t.hub.power.dead = 0
      ∧ t.hub.num Obj.switchovers = satAdd (maxWord 32) (h.num Obj.switchovers) 1)
  ∧ (∀ (s : State) (m : PowerSample) (inLimits : Bool),
    let h := s.hub.round m
    ∃ t, exec (.serviceFeedChange inLimits m) s = .next t ∧ t.pending = s.pending
      ∧ t.hub.power.validS = (inLimits && h.pset Obj.serviceFeedEnable != 0 && h.num Obj.attachState != 2)
      ∧ t.hub.power.validA = h.power.validA ∧ t.hub.power.validB = h.power.validB
      ∧ t.hub.power.gateA = h.power.gateA ∧ t.hub.power.gateB = h.power.gateB)

/-- R510: the hot-swap path's moves, from the hub `h` after the round that comes with them. Seated in WAIT_SEAT it ramps; a ramp that is complete, or has lasted ramp-timeout, is ON; a released seat in RAMP,
ON, COOL or LATCHED counts an extraction and goes to WAIT_SEAT with retries-left restored, or to WAIT_SUPPLY when no feed is valid; COOL's end takes
one retry and ramps again. Ten seconds of ON with PG restore retries-left. -/
def Obligations.HotSwapPathMovesAsItsTable : Prop :=
  (∀ (s : State) (m : PowerSample),
    let h := s.hub.round m
    h.pp = ppWaitSeat →
    ∃ t, exec (.seatDebounced m) s = .next t ∧ t.pending = s.pending ∧ t.hub.pp = ppRamp
      ∧ t.hub.num Obj.retriesLeft = h.num Obj.retriesLeft)
  ∧ (∀ (s : State) (m : PowerSample),
    let h := s.hub.round m
    h.pp = ppRamp → ∀ c ∈ [Instr.rampComplete m, .rampTimeout m],
    ∃ t, exec c s = .next t ∧ t.pending = s.pending ∧ t.hub.pp = ppOn ∧ t.hub.num Obj.retriesLeft = h.num Obj.retriesLeft)
  ∧ (∀ (s : State) (m : PowerSample),
    let h := s.hub.round m
    h.pp ∈ [ppRamp, ppOn, ppCool, ppLatched] →
    ∃ t, exec (.seatRelease m) s = .next t ∧ t.pending = s.pending
      ∧ t.hub.pp = (if h.supply then ppWaitSeat else ppWaitSupply)
      ∧ (h.supply = true → t.hub.num Obj.retriesLeft = h.pset Obj.retryCount)
      ∧ t.hub.num Obj.extractions = satAdd (maxWord 32) (h.num Obj.extractions) 1 ∧ t.hub.flag Obj.pg = false)
  ∧ (∀ (s : State) (m : PowerSample),
    let h := s.hub.round m
    h.pp = ppCool →
    ∃ t, exec (.coolExpired m) s = .next t ∧ t.pending = s.pending ∧ t.hub.pp = ppRamp
      ∧ t.hub.num Obj.retriesLeft = h.num Obj.retriesLeft - 1
      ∧ t.hub.num Obj.retries = satAdd (maxWord 32) (h.num Obj.retries) 1)
  ∧ (∀ (s : State), s.hub.pp = ppOn → s.hub.flag Obj.pg = true →
    ∃ t, exec .retriesRestore s = .next t ∧ t.pending = s.pending ∧ t.hub.num Obj.retriesLeft = s.hub.pset Obj.retryCount
      ∧ ∀ k, k ≠ Obj.retriesLeft → t.hub.obj k = s.hub.obj k)

/-- R513, R515, R516, R517, R518, R519, R520: from the hub `h` after the round, each trip records its cause, 1 fault timer (whose level has reached the fault-timer it started with), 2 breaker, 3 fast comparator, 4 FET temperature, and counts it. From RAMP or ON
the path goes to COOL while retries are left and to LATCHED, counted, with none, and PG is withdrawn; the fast comparator's trip is recorded in every
other state too, and leaves the path there.
PG is asserted in RAMP or ON with VOUT at or above pg-threshold and the fault timer idle, and a withdrawal takes it back and counts.
A gate-source voltage below 4 V in ON, and a voltage at the output with GATE_HS off, set FET_FAULT with their causes 1 and 2, where the check is enabled. -/
def Obligations.TripsAndChecksTurnTheGateOff : Prop :=
  (∀ (s : State) (m : PowerSample),
    let h := s.hub.round m
    h.gateHs = true →
    ∀ p ∈ [((1 : Nat), Instr.faultTimerExpired m), (2, Instr.breakerTrip m), (3, Instr.fastComparatorTrip m), (4, Instr.fetTemperatureTrip m)],
    (p.1 = 1 → h.power.timerLimit * 100 ≤ m.timer.toNat) → (p.1 = 2 → h.pset Obj.breakerEnable ≠ 0) → (p.1 = 4 → h.pset Obj.fetNtcTrip ≠ 0) →
    ∃ t, exec p.2 s = .next t ∧ t.pending = s.pending ∧ t.hub.num Obj.lastTripCause = p.1
      ∧ t.hub.num (tripTally p.1) = satAdd (maxWord 32) (h.num (tripTally p.1)) 1
      ∧ t.hub.pp = (if h.num Obj.retriesLeft = 0 then ppLatched else ppCool)
      ∧ t.hub.num Obj.latchOffs
          = (if h.num Obj.retriesLeft = 0 then satAdd (maxWord 32) (h.num Obj.latchOffs) 1 else h.num Obj.latchOffs)
      ∧ t.hub.num Obj.retriesLeft = h.num Obj.retriesLeft ∧ t.hub.flag Obj.pg = false)
  ∧ (∀ (s : State) (m : PowerSample),
    let h := s.hub.round m
    h.gateHs = false →
    ∃ t, exec (.fastComparatorTrip m) s = .next t ∧ t.pending = s.pending ∧ t.hub.num Obj.lastTripCause = 3
      ∧ t.hub.num Obj.tripsFast = satAdd (maxWord 32) (h.num Obj.tripsFast) 1 ∧ t.hub.pp = h.pp)
  ∧ (∀ (s : State) (m : PowerSample),
    let h := s.hub.round m
    h.gateHs = true → h.flag Obj.pg = false → m.timer = 0 →
    (h.pset Obj.pgThreshold : Int) ≤ m.vout.toInt →
    ∃ t, exec (.pgQualified m) s = .next t ∧ t.pending = s.pending ∧ t.hub.flag Obj.pg = true ∧ t.hub.pp = h.pp)
  ∧ (∀ (s : State) (m : PowerSample),
    let h := s.hub.round m
    h.flag Obj.pg = true →
    ∃ t, exec (.pgWithdrawn m) s = .next t ∧ t.pending = s.pending ∧ t.hub.flag Obj.pg = false ∧ t.hub.pp = h.pp
      ∧ t.hub.num Obj.pgWithdrawals = satAdd (maxWord 32) (h.num Obj.pgWithdrawals) 1)
  ∧ (∀ (s : State) (m : PowerSample),
    let h := s.hub.round m
    ∀ p ∈ [((1 : Nat), Instr.gateCheck m), (2, Instr.outputCheckFail m)],
    (p.1 = 1 → h.pp = ppOn ∧ h.pset Obj.gateCheckEnable ≠ 0 ∧ m.gateSource.toInt < 4000) →
    (p.1 = 2 → h.gateHs = false ∧ h.pset Obj.outputCheckEnable ≠ 0) →
    ∃ t, exec p.2 s = .next t ∧ t.pending = s.pending ∧ t.hub.pp = ppFetFault ∧ t.hub.num Obj.fetFaultCause = p.1
      ∧ t.hub.num Obj.fetFaults = satAdd (maxWord 32) (h.num Obj.fetFaults) 1 ∧ t.hub.flag Obj.pg = false ∧ t.hub.fltOut = true)

/-- R504, R490, R523: when the sentinel stops, and when it starts again, every state, setting and event not fetched is lost, the power log stays, and the
sentinel's objects read their defaults; at a start FLT_OUT is asserted. The keeper's fetch leaves no event behind. -/
def Obligations.SentinelLosesItsStateAndFetchesItsEvents : Prop :=
  (∀ (s : State), ∃ t, exec .sentinelStop s = .next t ∧ t.pending = s.pending
    ∧ t.hub.power = { slots := s.hub.power.slots, slot := s.hub.power.slot, logSeq := s.hub.power.logSeq } ∧ t.hub.svc = {}
    ∧ t.hub.safety = s.hub.safety ∧ ∀ k, k / 256 = 0x3102 ∨ k / 256 = 0x3103 ∨ k / 256 = 0x3301 → t.hub.obj k = dictDefault k)
  ∧ (∀ (s : State), ∃ t, exec .sentinelStart s = .next t ∧ t.pending = s.pending
    ∧ t.hub.power = { slots := s.hub.power.slots, slot := s.hub.power.slot, logSeq := s.hub.power.logSeq } ∧ t.hub.svc = {}
    ∧ t.hub.safety.fltStart = true ∧ t.hub.fltOut = true
    ∧ ∀ k, k / 256 = 0x3102 ∨ k / 256 = 0x3103 ∨ k / 256 = 0x3301 → t.hub.obj k = dictDefault k)
  ∧ (∀ (s : State), s.hub.keeper.ready = true → ∃ t, exec .powerEventFetch s = .next t ∧ t.pending = s.pending
    ∧ t.hub.power.events = [] ∧ t.hub.power.dropped = false
    ∧ t.hub.power.slot = (s.hub.power.slot + (s.hub.power.events.filter (fun e => e.event != 0)).length) % 32)

/-- R532, R537, R538, R541: with no holder holding, the poll writes MODE; entry-wait passing with one refuses the entry; WAIT retires into the mode,
where every function of a domain that powers down is OFF and DORMANT stops CCLK, or aborts the entry when a holder holds. -/
def Obligations.PowerModeEntry : Prop :=
  (∀ (s : State) (m : Nat), s.hub.pwr.entering = some m → s.hub.pwr.armed = false →
    (s.hub.refusers m = [] → ∃ t, exec .holderPoll s = .next t ∧ t.pending = s.pending ∧ t.hub.pwr = { s.hub.pwr with armed := true, mode := m }
        ∧ (m = modeDormant → t.hub.time.dormantLtc = s.hub.now) ∧ t.hub.funcs = s.hub.funcs)
    ∧ (s.hub.refusers m ≠ [] → exec .holderPoll s = .next s)
    ∧ (∀ low rest, s.hub.refusers m = low :: rest → ∃ t, exec .entryWaitExpired s = .next t ∧ t.pending = s.pending
        ∧ t.hub.pwr = { s.hub.pwr with entering := none } ∧ t.hub.num Obj.lastRefuser = low ∧ t.hub.mode = s.hub.mode))
  ∧ (∀ (s : State) (m : Nat) (watch : BitVec 16), s.hub.pwr.entering = some m → s.hub.pwr.armed = true → m = modeRest ∨ m = modeDormant →
    s.hub.refusers m = [] → (List.range 8).all (fun id => !(s.hub.pendingSources m).testBit id || s.hub.edgeSource id) = true →
    ∃ t, exec (.powerWaitRetire watch) s = .next t ∧ t.pending = s.pending ∧ t.hub.mode = m
      ∧ t.hub.pwr.entering = none ∧ t.hub.pwr.armed = false ∧ t.hub.pwr.latch = false ∧ t.hub.pwr.watch = watch.toNat
      ∧ t.hub.num Obj.entries = satAdd (maxWord 32) (s.hub.num Obj.entries) 1 ∧ t.hub.host.busMaster = false
      ∧ t.hub.time.cclk = (if m = modeDormant then false else s.hub.time.cclk) ∧ t.hub.time.ltc = s.hub.time.ltc
      ∧ ∀ fid ∈ allFids, poweredDown m fid = true → t.hub.isOff fid = true)
  ∧ (∀ (s : State) (m : Nat) (watch : BitVec 16), s.hub.pwr.entering = some m → s.hub.pwr.armed = true →
    (∀ low rest, s.hub.refusers m = low :: rest → ∃ t, exec (.powerWaitRetire watch) s = .next t ∧ t.pending = s.pending
      ∧ t.hub.num Obj.lastAbortCause = low ∧ t.hub.pwr.entering = none ∧ t.hub.pwr.armed = false ∧ t.hub.mode = modeRun ∧ t.hub.time.cclk = s.hub.time.cclk))
  ∧ (∀ (s : State), modeRest ≤ s.hub.mode → exec .wakeLatchArm s = .next (s.withHub { s.hub with pwr := { s.hub.pwr with latch := true } }))
  ∧ (∀ (s : State), exec .keeperDozeWake s = .next (s.withHub { s.hub with keeper := { s.hub.keeper with gated := false } }))

/-- R539, R540, R546, R547: an enabled wake source that asserts is held with its detail, and a level source ends with its condition alone; WAKE on the ring
sets source 3. A latched source in REST wakes the hub into wake-mode, and the lowest source and all of them are recorded. -/
def Obligations.WakeSourcesWakeTheHub : Prop :=
  (∀ (s : State) (id : Fin 8) (detail : BitVec 32) (asserted : Bool), id.val = 1 ∨ id.val = 3 ∨ id.val = 5 ∨ id.val = 7 →
    (s.hub.num Obj.wakeEnable).testBit id.val = true → ∃ t, exec (.wakeSourceEvent id detail asserted) s = .next t ∧ t.pending = s.pending
      ∧ t.hub = { s.hub with pwr := { s.hub.pwr with sources := t.hub.pwr.sources, details := t.hub.pwr.details } }
      ∧ t.hub.pwr.sources = (if asserted then setBit s.hub.pwr.sources id.val
          else if id.val = 7 then clearBit s.hub.pwr.sources 7 else s.hub.pwr.sources)
      ∧ (asserted = true → SMap.get (fun _ => 0) t.hub.pwr.details id.val = (if id.val = 3 ∨ id.val = 5 then detail.toNat else 0)))
  ∧ (∀ (s : State) (id : Fin 8) (detail : BitVec 32) (asserted : Bool), (s.hub.num Obj.wakeEnable).testBit id.val = false →
    exec (.wakeSourceEvent id detail asserted) s = .next s)
  ∧ (∀ (s : State) (west : Bool) (f : RingFrame), (s.hub.receive west f).1 = true → f.type = tMgmt → byteAt f.payload 0 = 0x85 → byteAt f.payload 1 = s.hub.self →
    (s.hub.num Obj.wakeEnable).testBit 3 = true → ∃ t, exec (.ringWakeRx west f) s = .next t ∧ t.pending = s.pending
      ∧ t.hub.pwr.sources = setBit s.hub.pwr.sources 3 ∧ SMap.get (fun _ => 0) t.hub.pwr.details 3 = f.src)
  ∧ (∀ (s : State), s.hub.mode = modeRest → s.hub.pwr.latch = true → s.hub.pendingSources modeRest ≠ 0 →
    ∃ t, exec .restWake s = .next t ∧ t.pending = s.pending ∧ t.hub.mode = s.hub.num Obj.wakeMode ∧ t.hub.pwr.latch = false
      ∧ t.hub.pwr.sources = s.hub.levelHeld ∧ t.hub.num Obj.wakePending = s.hub.pendingSources modeRest
      ∧ some (t.hub.num Obj.lastWakeSource) = (List.range 8).find? (fun id => (s.hub.pendingSources modeRest).testBit id)
      ∧ t.hub.num Obj.lastWakeDetail = SMap.get (fun _ => 0) s.hub.pwr.details (t.hub.num Obj.lastWakeSource)
      ∧ t.hub.num Obj.wakeWakeCount = satAdd (maxWord 32) (s.hub.num Obj.wakeWakeCount) 1)
  ∧ (∀ (s : State), s.hub.flag Obj.hubFault = false → ∃ t, exec .pcieFunctionReset s = .next t ∧ t.pending = s.pending
    ∧ t.hub.bridge.parts = [] ∧ t.hub.bridge.atomics = [] ∧ t.hub.bridge.slot = none ∧ t.hub.host.busMaster = false
    ∧ t.hub.host.msixEnable = false ∧ t.hub.host.functionMask = false ∧ t.hub.host.vectorMask = List.range 128
    ∧ (∀ q, q < 64 → (s.hub.func (fidQueue q)).inReset = false → t.hub.isOn (fidQueue q) = false)
    ∧ (∀ w, w < 16 → (s.hub.func (fidWindow w)).inReset = false → t.hub.isOn (fidWindow w) = false))

/-- R594 to R597, R600: nPOR_OUT releases with the LTC at 0 and the straps taken, CCLK locks and the start is counted, the keeper becomes ready, ready is
reached once, when no enabled function is STARTING and the ring is settled; a hub reset (also the core or AON supply leaving its window before
ready, R598) clears everything but what the sentinel, the store and PERSIST hold, stops CCLK, and records its cause. -/
def Obligations.StartAndHubReset : Prop :=
  (∀ (s : State) (straps : BitVec 11), s.hub.time.cclk = false → s.hub.mode ≠ modeDormant → ∃ t, exec (.nporRelease straps) s = .next t
    ∧ t.pending = s.pending ∧ t.hub.time = { s.hub.time with ltc := 0 } ∧ t.hub.num Obj.straps = straps.toNat
    ∧ t.hub.num Obj.eavesHeld = (if straps.toNat.testBit 10 then 0x1FFF else 0)
    ∧ t.hub.num Obj.eavesMode = (if straps.toNat.testBit 10 then 0x1FFF else 0))
  ∧ (∀ (s : State), s.hub.time.cclk = false → s.hub.mode ≠ modeDormant → ∃ t, exec .cclkLock s = .next t ∧ t.pending = s.pending
    ∧ t.hub.time = { s.hub.time with cclk := true } ∧ t.hub.upd.starts = (s.hub.upd.starts + 1) % 2 ^ 32)
  ∧ (∀ (s : State) (us : BitVec 32), s.hub.time.cclk = true → s.hub.keeper.ready = false → s.hub.upd.halted = false → s.hub.upd.recovery = false →
    ∃ t, exec (.keeperReady us) s = .next t ∧ t.pending = s.pending ∧ t.hub.keeper.ready = true ∧ t.hub.keeper.since = s.hub.now
      ∧ t.hub.safety.fltStart = false ∧ t.hub.num Obj.startState = startJoining ∧ t.hub.num Obj.porToKeeperReady = us.toNat)
  ∧ (∀ (s : State) (us : BitVec 32), s.hub.keeper.ready = true → s.hub.num Obj.startState ≠ startReady → s.hub.stillStarting = false →
    s.hub.ringSettled us.toNat = true → ∃ t, exec (.hubReady us) s = .next t
    ∧ t.pending = s.pending ∧ t.hub.num Obj.startState = startReady ∧ t.hub.num Obj.keeperReadyToReady = us.toNat)
  ∧ (∀ (s : State), ∀ c ∈ [(resetNreset, Instr.hubResetIn), (resetVddSen, .vddSenLow), (resetCore, .coreRailLow)],
    ∃ t, exec c.2 s = .next t ∧ s.resetTo c.1 t)
  ∧ (∀ (s : State), s.hub.num Obj.startState ≠ startReady → s.hub.flag Obj.hubFault = false →
    ∀ c ∈ [Instr.supplyOutOfWindow .vddCore, .supplyOutOfWindow .vddAon], ∃ t, exec c s = .next t ∧ s.resetTo resetCore t)
  ∧ (∀ (s : State) (rtc : BitVec 48), s.hub.mode = modeDormant → s.hub.pwr.latch = true → s.hub.pendingSources modeDormant ≠ 0 →
    ∃ t, exec (.dormantWake rtc) s = .next t ∧ t.pending = s.pending ∧ t.hub.time.cclk = true
      ∧ t.hub.time.ltc = BitVec.ofNat 64 (s.hub.time.dormantLtc + rtc.toNat * 390625 / 32) ∧ t.hub.num Obj.lastResetCause = resetDormant
      ∧ t.hub.num Obj.rtcElapsed = rtc.toNat ∧ t.hub.num Obj.ltcBefore = s.hub.time.dormantLtc ∧ t.hub.funcs = [])

/-- R482 to R491: each monitor declares the hub fault with its own cause: cause and stamp are recorded and persisted, and a first cause stays. A scrub
pass counts what it corrects; a rail out of its window is a hub fault for the core and the AON supply after ready and an event for the others. -/
def Obligations.MonitorsDeclareTheHubFault : Prop :=
  (∀ (s : State), s.hub.flag Obj.hubFault = false → s.hub.mode < modeRest → s.hub.keeper.gated = false →
    s.hub.num Obj.startState = startReady → ∀ c ∈ [(1, Instr.keeperLockstepMismatch), (2, .keeperWatchdogExpired), (4, .clockMonitorFault), (5, .supplyOutOfWindow .vddCore),
      (5, .supplyOutOfWindow .vddAon)], ∃ t, exec c.2 s = .next t ∧ t.pending = s.pending ∧ t.hub.flag Obj.hubFault = true
      ∧ t.hub.num Obj.hubFaultCause = c.1 ∧ t.hub.num Obj.hubFaultStamp = s.hub.stamp .H ∧ t.hub.upd.faultCause = c.1
      ∧ t.hub.upd.faultStamp = s.hub.stamp .H ∧ t.hub.num Obj.persistedFaultCause = c.1 ∧ t.hub.pwr.entering = none)
  ∧ (∀ (s : State), s.hub.flag Obj.hubFault = true → ∀ c ∈ [Instr.keeperLockstepMismatch, .keeperWatchdogExpired, .clockMonitorFault,
    .supplyOutOfWindow .vddCore, .supplyOutOfWindow .vddAon], exec c s = .next s)
  ∧ (∀ (s : State) (k : Fin 12), s.hub.mode < modeRest → (s.hub.num Obj.napMap).testBit k.val = false → s.hub.isOff (fidCluster k.val) = false →
    ∃ t, exec (.supplyOutOfWindow (.vddio k)) s = .next t ∧ t.pending = s.pending ∧ t.hub.func (fidCluster k.val) = { life := .off, fault := true }
      ∧ t.hub.num Obj.supplyEvents = satAdd (maxWord 32) (s.hub.num Obj.supplyEvents) 1
      ∧ ∀ c, c < 16 → s.hub.isOff (fidChannel (16 * k.val + c)) = false → t.hub.func (fidChannel (16 * k.val + c)) = { life := .off, fault := true })
  ∧ (∀ (s : State) (corrected : BitVec 32), ∃ t, exec (.scrubPass corrected [] []) s = .next t ∧ t.pending = s.pending
    ∧ t.hub.num Obj.scrubPasses = (s.hub.num Obj.scrubPasses + 1) % 2 ^ 32
    ∧ t.hub.num Obj.eccCorrectedTotal = satAdd (maxWord 32) (s.hub.num Obj.eccCorrectedTotal) corrected.toNat
    ∧ t.hub = { s.hub with dict := t.hub.dict })
  ∧ (∀ (s : State) (corrected : BitVec 32) (a w : Nat), s.hub.flag Obj.eccEscalate = false →
    ∃ t, exec (.scrubPass corrected [(.postSram, a, w)] []) s = .next t ∧ t.pending = s.pending
      ∧ t.hub.safety.poison = a :: s.hub.safety.poison
      ∧ t.hub.num Obj.eccUncorrectableTotal = satAdd (maxWord 32) (s.hub.num Obj.eccUncorrectableTotal) 1)
  ∧ (∀ (s : State) (corrected : BitVec 32) (a w : Nat), s.hub.flag Obj.hubFault = false →
    ∃ t, exec (.scrubPass corrected [(.keeper, a, w)] []) s = .next t ∧ t.pending = s.pending ∧ t.hub.flag Obj.hubFault = true
      ∧ t.hub.num Obj.hubFaultCause = 3)

/-- R434 to R440, R400, R402: a request of the service port, a dictionary frame of the ring and an accepted station message reach the keeper; the mailbox forwards to other nodes, resends and
takes the answer; a station message needs its slot's key and a rising counter; ARP is answered; a STANDBY follows the records of its mirror. -/
def Obligations.RequestsArriveByEveryPath : Prop :=
  (∀ (s : State) (m : DictMsg),
    let q : KReq := { by_ := { path := .service }, msg := m, via := .service, held := s.hub.holdsStall { path := .service } }
    (s.hub.serves { path := .service } m = true → exec (.serviceDictRequest m) s = .next (s.withHub (s.hub.serve q)))
    ∧ (s.hub.time.cclk = true → s.hub.mode ≠ modeDormant → s.hub.upd.halted = false → s.hub.upd.recovery = false → s.hub.keeper.ready = true → s.hub.keeper.waiting ≠ [] →
        s.hub.keeper.waiting.length < 32 → ∃ t, exec (.serviceDictRequest m) s = .next t ∧ t.pending = s.pending ∧ t.hub.keeper.waiting = s.hub.keeper.waiting ++ [q] ∧ t.hub.dict = s.hub.dict))
  ∧ (∀ (s : State) (west : Bool) (f : RingFrame),
    let h := (s.hub.mgmtIn west f).2
    let r : Requester := { path := .ring, unit := f.src }
    let m := parseMsg f.payload
    (s.hub.mgmtIn west f).1 = true →
    (h.serves r m = true → exec (.mgmtDictRequestRx west f) s = .next (s.withHub (h.serve { by_ := r, msg := m, via := .ring, held := h.holdsStall r })))
    ∧ (∀ k, s.hub.keeper.forward = some k → f.src = k.1 → m.op = k.2.1.op + 0x40 → m.token = k.2.1.token → ∃ t, exec (.mgmtDictResponseRx west f) s = .next t ∧ t.pending = s.pending
        ∧ t.hub.keeper.forward = none ∧ t.hub.keeper.mboxBusy = false ∧ Memory.readN t.hub.host.sram 0x1000 4 = leBytes 4 k.2.2.1
        ∧ Memory.readN t.hub.host.sram 0x1008 f.payload.length = f.payload))
  ∧ (∀ (s : State), ∀ k, s.hub.keeper.forward = some k →
    (k.2.2.2 < 4 → exec .mgmtForwardRetry s = .next (s.withHub ({ s.hub with keeper := { s.hub.keeper with forward := some (k.1, k.2.1, k.2.2.1, k.2.2.2 + 1) } }.sendMgmt k.1 (msgBytes k.2.1))))
    ∧ (4 ≤ k.2.2.2 → ∃ t, exec .mgmtForwardRetry s = .next t ∧ t.pending = s.pending ∧ t.hub.keeper.forward = none ∧ t.hub.keeper.mboxBusy = false
      ∧ t.hub.num Obj.abortsSent = satAdd (maxWord 32) (s.hub.num Obj.abortsSent) 1))
  ∧ (∀ (s : State) (path : RegPath) (v : BitVec 32),
    let m := parseMsg (Memory.readN s.hub.host.sram 8 (if leNat (Memory.readN s.hub.host.sram 0x10 2) ≤ 4072 then 16 + leNat (Memory.readN s.hub.host.sram 0x10 2) else 16))
    let node := (Memory.read s.hub.host.sram 4).toNat
    (v.toNat % 2 = 0 → exec (.mboxPost path v) s = .next s)
    ∧ (v.toNat % 2 = 1 → path ≠ .pcie → exec (.mboxPost path v) s = .next (s.withHub (s.hub.count Obj.mboxForeign)))
    ∧ (v.toNat % 2 = 1 → path = .pcie → s.hub.keeper.mboxBusy = false → s.hub.time.cclk = true → s.hub.mode ≠ modeDormant → s.hub.upd.halted = false → s.hub.upd.recovery = false → s.hub.keeper.ready = true →
        1 ≤ node → node ≤ 64 → node ≠ s.hub.self → s.hub.self ≠ 0 → s.hub.memberOf node = true → ∃ t, exec (.mboxPost path v) s = .next t ∧ t.pending = s.pending
          ∧ t.hub.keeper.forward = some (node, m, leNat (Memory.readN s.hub.host.sram 0 4), 0) ∧ t.hub.keeper.mboxBusy = true))
  ∧ (∀ (s : State) (u : UdpRequest), s.hub.keeper.ready = true → s.hub.flag Obj.staAccessEnable = true → u.dstIp.toNat = beNat (s.hub.oct Obj.staIpAddress) → u.dstPort.toNat = s.hub.num Obj.dictUdpPort →
    let slot := byteAt u.payload 1
    let counter := leAt u.payload 4 8
    let r : Requester := { path := .station, unit := slot, ip := u.srcIp.toNat }
    let q : KReq := { by_ := r, msg := parseMsg (slice u.payload 12 (u.payload.length - 44)), via := .station u counter, held := s.hub.holdsStall r }
    ∃ t, exec (.stationDictRequest u) s = .next t ∧ t.pending = s.pending
      ∧ (s.hub.envelopeCheck u.payload = 0 → SMap.get (fun _ => 0) s.hub.keeper.ceilings slot < counter →
          t.hub.num (Obj.counter slot) = s.hub.num (Obj.counter slot) ∧ t.hub.keeper.ceiling = s.hub.keeper.ceiling ++ [(q, slot)] ∧ t.hub.keeper.waiting = s.hub.keeper.waiting)
      ∧ (s.hub.envelopeCheck u.payload = 0 → counter ≤ SMap.get (fun _ => 0) s.hub.keeper.ceilings slot → t.hub = (s.hub.setNum (Obj.counter slot) counter).arrive q)
      ∧ (s.hub.envelopeCheck u.payload ≠ 0 → t.hub.num Obj.authFailures = satAdd (maxWord 32) (s.hub.num Obj.authFailures) 1 ∧ t.hub.keeper.waiting = s.hub.keeper.waiting
          ∧ t.hub.keeper.ceiling = s.hub.keeper.ceiling))
  ∧ (∀ (s : State) (ok : Bool) (u : UdpRequest) (counter : Nat), ∀ k ks, s.hub.keeper.ceiling = k :: ks → k.1.via = Carrier.station u counter →
    (ok = false → ∃ t, exec (.keyCeilingPersisted ok) s = .next t ∧ t.pending = s.pending ∧ t.hub.keeper.ceiling = ks ∧ t.hub.keeper.ceilings = s.hub.keeper.ceilings
      ∧ t.hub.keeper.waiting = s.hub.keeper.waiting)
    ∧ (ok = true → s.hub.envelopeCheck u.payload ≠ 0 → ∃ t, exec (.keyCeilingPersisted ok) s = .next t ∧ t.pending = s.pending ∧ t.hub.keeper.ceiling = ks
        ∧ t.hub.keeper.ceilings = s.hub.keeper.ceilings ∧ t.hub.num Obj.authFailures = satAdd (maxWord 32) (s.hub.num Obj.authFailures) 1)
    ∧ (ok = true → s.hub.envelopeCheck u.payload = 0 → s.hub.time.cclk = true → s.hub.mode ≠ modeDormant → s.hub.upd.halted = false → s.hub.upd.recovery = false → s.hub.keeper.ready = true → k.1.by_.path = Path.station → s.hub.keeper.waiting ≠ [] →
        s.hub.keeper.waiting.length < 32 → ∃ t, exec (.keyCeilingPersisted ok) s = .next t ∧ t.pending = s.pending ∧ t.hub.keeper.ceiling = ks
          ∧ SMap.get (fun _ => 0) t.hub.keeper.ceilings k.2 = max (SMap.get (fun _ => 0) s.hub.keeper.ceilings k.2) (min (counter + 4096) (maxWord 64))
          ∧ t.hub.num (Obj.counter k.2) = counter ∧ t.hub.keeper.waiting.length = s.hub.keeper.waiting.length + 1))
  ∧ (∀ (s : State) (mac : BitVec 48) (tag : Option (BitVec 16)) (ip target : BitVec 32), s.hub.keeper.ready = true → s.hub.flag Obj.staAccessEnable = true → target.toNat = beNat (s.hub.oct Obj.staIpAddress) →
    ∃ t, exec (.arpRequestRx mac tag ip target) s = .next t ∧ t.pending = s.pending
      ∧ (SMap.get (fun _ => []) t.hub.sw.inputs 17).map (fun p => (p.route, p.data.take 6, p.data.drop (p.data.length - 10)))
        = (SMap.get (fun _ => []) s.hub.sw.inputs 17).map (fun p => (p.route, p.data.take 6, p.data.drop (p.data.length - 10)))
          ++ [(s.hub.num Obj.staReplyRoute, beBytes 6 mac.toNat, beBytes 6 mac.toNat ++ beBytes 4 ip.toNat)])
  ∧ (∀ (s : State), s.hub.num Obj.role = roleStandby →
    let r := s.hub.recordAt s.hub.duplex.mirRead 16
    let applied := s.hub.num Obj.mirrorSeqApplied
    let data := s.hub.recordAt (s.hub.duplex.mirRead + 16) (leAt r 2 2)
    let next := (s.hub.duplex.mirRead + 16 + (leAt r 2 2 + 7) / 8 * 8) % max 1 (s.hub.num Obj.mirrorSize)
    leAt r 4 4 = applied + 1 → applied ≠ 0 →
    (byteAt r 0 = 1 → exec .mirrorRecordRx s = .next (s.withHub ((({ s.hub with duplex := { s.hub.duplex with mirRead := next } }.setNum Obj.mirrorSeqApplied (applied + 1))).mirrorObjectIn
        (leAt r 8 2) (byteAt r 10) data)))
    ∧ (byteAt r 0 = 2 → ∃ t, exec .mirrorRecordRx s = .next t ∧ t.pending = s.pending ∧ t.hub.num Obj.mirrorSeqApplied = applied + 1 ∧ t.hub.duplex.mirRead = next
      ∧ (64 ≤ leAt r 8 2 → t.hub.num Obj.mirrorDrops = satAdd (maxWord 32) (s.hub.num Obj.mirrorDrops) 1)))

/-- R556 to R564, R568: the service port attaches and detaches, negotiates a contract as sink or source, answers swaps and other messages, retries and recovers; a source that falls away, moisture and
the USB bus move its state. -/
def Obligations.ServicePortNegotiates : Prop :=
  (∀ (s : State) (source : Bool), s.hub.num Obj.attachState = 0 → source = false ∨ s.hub.maySource = true ∧ (s.hub.serviceFeed false).flag Obj.pg = true →
    ∃ t, exec (.serviceAttach source) s = .next t ∧ t.pending = s.pending
      ∧ t.hub.num Obj.attachState = (if source then 2 else 1) ∧ t.hub.num Obj.dataRole = (if source then 2 else 1) ∧ t.hub.svc.vsrc = source
      ∧ t.hub.num Obj.attaches = satAdd (maxWord 32) (s.hub.num Obj.attaches) 1
      ∧ (source = true → t.hub.svc.sent = some (.sourceCapabilities, 0, [sourcePdo]) ∧ t.hub.out.head? = some (.pd (.msg .sourceCapabilities 0 [sourcePdo]))))
  ∧ (∀ (s : State), ∃ t, exec .serviceDetach s = .next t ∧ t.pending = s.pending ∧ t.hub.num Obj.attachState = 0 ∧ t.hub.num Obj.pdState = 0
      ∧ t.hub.num Obj.contractVoltage = 0 ∧ t.hub.num Obj.contractCurrent = 0 ∧ t.hub.svc.vsrc = false ∧ t.hub.svc.blocked = false)
  ∧ (∀ (s : State) (id : Fin 8), s.hub.num Obj.attachState ≠ 0 → s.hub.svc.rxId ≠ some id.val →
    let n := s.hub.svc.txId
    let ack := Out.pd (.msg .goodCrc id.val [])
    let answers := fun (k : PdKind) (data : List Nat) (t : State) => t.pending = s.pending ∧ t.hub.svc.rxId = some id.val ∧ t.hub.svc.txId = (n + 1) % 8
      ∧ t.hub.svc.sent = some (k, n, data) ∧ t.hub.out = .pd (.msg k n data) :: ack :: s.hub.out
    (∀ pdos : List (BitVec 32), s.hub.num Obj.attachState = 1 → ∃ t, exec (.pdSourceCapabilitiesRx id pdos) s = .next t ∧ t.pending = s.pending
        ∧ t.hub.oct Obj.partnerSources = (pdos.take 7).flatMap (fun w => leBytes 4 w.toNat)
        ∧ ∀ x, choosePdo t.hub.partnerPdos s.hub.sinkVolts = some x →
            let a := min x.2.2 (s.hub.pset Obj.sinkMaxCurrent)
            answers .request [x.2.1 * 2 ^ 28 + 2 ^ 25 + a / 10 * 1024 + a / 10] t ∧ t.hub.svc.asked = some (x.1, a))
    ∧ (∀ rdo : BitVec 32, s.hub.num Obj.attachState = 2 →
        let w := bits rdo.toNat 19 10
        let good := rdo.toNat / 2 ^ 28 % 8 = 1 ∧ w ≤ 150
        (good → ∃ t, exec (.pdRequestRx id rdo) s = .next t ∧ t.pending = s.pending ∧ t.hub.num Obj.pdState = 2 ∧ t.hub.num Obj.contractVoltage = 5000 ∧ t.hub.num Obj.contractCurrent = w * 10)
        ∧ (¬ good → ∃ t, exec (.pdRequestRx id rdo) s = .next t ∧ answers .reject [] t))
    ∧ (∀ x, s.hub.svc.asked = some x → s.hub.flag Obj.dryWait = false → ∃ t, exec (.pdPsRdyRx id) s = .next t ∧ t.pending = s.pending ∧ t.hub.num Obj.pdState = 2
        ∧ t.hub.num Obj.contractVoltage = x.1 ∧ t.hub.num Obj.contractCurrent = x.2 ∧ t.hub.num Obj.contracts = satAdd (maxWord 32) (s.hub.num Obj.contracts) 1)
    ∧ (s.hub.svc.drWait = true → ∀ accept : Bool, ∃ t, exec (.pdDrSwapResponseRx id accept) s = .next t ∧ t.pending = s.pending ∧ t.hub.svc.drWait = false
        ∧ t.hub.num Obj.dataRole = (if accept then 1 else s.hub.num Obj.dataRole))
    ∧ (∃ t, exec (.pdDrSwapRx id) s = .next t ∧ (s.hub.num Obj.dataRole = 2 → answers .accept [] t ∧ t.hub.num Obj.dataRole = 1)
        ∧ (s.hub.num Obj.dataRole ≠ 2 → answers .reject [] t ∧ t.hub.num Obj.dataRole = s.hub.num Obj.dataRole))
    ∧ (∀ vconn : Bool, ∃ t, exec (.pdSwapReject id vconn) s = .next t ∧ answers .reject [] t)
    ∧ (∃ t, exec (.pdGetSinkCapRx id) s = .next t
        ∧ answers .sinkCapabilities ((5000 :: (if (s.hub.pset Obj.sinkVoltages).testBit 1 then [9000] else []) ++ (if (s.hub.pset Obj.sinkVoltages).testBit 2 then [15000] else [])).map
            (fun mv => mv / 50 * 1024 + s.hub.pset Obj.sinkMaxCurrent / 10)) t)
    ∧ (∃ t, exec (.pdOtherMessageRx id) s = .next t ∧ answers .notSupported [] t))
  ∧ (∀ (s : State), s.hub.num Obj.attachState = 2 →
    (s.hub.num Obj.pdState = 2 → s.hub.svc.drSent = false → ∃ t, exec .pdDrSwapSend s = .next t ∧ t.pending = s.pending ∧ t.hub.svc.drSent = true ∧ t.hub.svc.drWait = true
      ∧ t.hub.out = .pd (.msg .drSwap s.hub.svc.txId []) :: s.hub.out)
    ∧ (∃ t, exec .pdHardResetRx s = .next t ∧ t.pending = s.pending ∧ t.hub.num Obj.pdState = 3 ∧ t.hub.num Obj.contractVoltage = 0 ∧ t.hub.svc.rxId = none
      ∧ t.hub.num Obj.hardResets = satAdd (maxWord 32) (s.hub.num Obj.hardResets) 1)
    ∧ (∀ mv : BitVec 32, s.hub.svc.vsrc = true → ∃ t, exec (.vbusSourceLow mv) s = .next t ∧ t.pending = s.pending ∧ t.hub.num Obj.attachState = 0 ∧ t.hub.svc.vsrc = false
      ∧ t.hub.svc.blocked = true ∧ t.hub.num Obj.vbus = mv.toNat ∧ t.hub.num Obj.sourceFaults = satAdd (maxWord 32) (s.hub.num Obj.sourceFaults) 1))
  ∧ (∀ (s : State), ∀ x, s.hub.svc.sent = some x → ∃ t, exec .pdGoodcrcTimeout s = .next t ∧ t.pending = s.pending
      ∧ (s.hub.svc.tries < 2 → t.hub.svc.tries = s.hub.svc.tries + 1 ∧ t.hub.out = .pd (.msg x.1 x.2.1 x.2.2) :: s.hub.out
        ∧ t.hub.num Obj.goodcrcRetries = satAdd (maxWord 32) (s.hub.num Obj.goodcrcRetries) 1)
      ∧ (2 ≤ s.hub.svc.tries → t.hub.num Obj.retryExhausted = satAdd (maxWord 32) (s.hub.num Obj.retryExhausted) 1
        ∧ (x.1 ≠ .softReset → t.hub.svc.sent = some (.softReset, 0, []) ∧ t.hub.num Obj.pdState = 1)
        ∧ (x.1 = .softReset → t.hub.num Obj.pdState = 3)))
  ∧ (∀ (s : State) (c1 c2 u1 u2 : BitVec 16), s.hub.num Obj.attachState = 0 → s.hub.pset Obj.moistureEnable ≠ 0 →
    let low := min (min c1.toNat c2.toNat) (min u1.toNat u2.toNat)
    let wet := low < s.hub.pset Obj.moistureThreshold
    ∃ t, exec (.moistureTest (some c1) (some c2) (some u1) (some u2)) s = .next t ∧ t.pending = s.pending
      ∧ t.hub.oct Obj.moistureLast = leBytes 2 c1.toNat ++ leBytes 2 c2.toNat ++ leBytes 2 u1.toNat ++ leBytes 2 u2.toNat
      ∧ (wet → t.hub.flag Obj.dryWait = true ∧ t.hub.svc.dryRounds = 0)
      ∧ (¬ wet → s.hub.flag Obj.dryWait = true → t.hub.flag Obj.dryWait = decide (s.hub.svc.dryRounds + 1 < 2))
      ∧ (¬ wet → s.hub.flag Obj.dryWait = false → t.hub.flag Obj.dryWait = false))
  ∧ (∀ (s : State), s.hub.isOn fidService = true → s.hub.keeper.ready = true → s.hub.num Obj.dataRole = 1 → s.hub.svc.usb = false → ∃ t, exec .usbConnect s = .next t ∧ t.pending = s.pending
      ∧ t.hub.svc.usb = true ∧ t.hub.num Obj.usbState = 1)
  ∧ (∀ (s : State) (configured suspended : Bool), s.hub.svc.usb = true →
      exec (.usbBusStateChange configured suspended) s = .next (s.withHub (s.hub.setNum Obj.usbState (if suspended then 3 else if configured then 2 else 1))))
end

