-- ==== Sys2Proof/Laws/Keeps.lean ====
section
/-!
SUPPORT. What no operation but the listed ones touches: for each operation on the hub that leaves the post SRAM and the LTC as they are, the
lemma that says so. Memory is written by Hub.sramWrite and cleared by a start; the LTC moves in Hub.tick, Hub.porRelease and Hub.dormantWake.
-/
namespace Sys2Proof.Machine

@[simp] theorem foldl_sram {α : Type} (g : Hub → α → Hub) (hg : ∀ h x, (g h x).host.sram = h.host.sram) (l : List α) (h : Hub) :
    (l.foldl g h).host.sram = h.host.sram := by
  induction l generalizing h with
  | nil => rfl
  | cons a l ih => rw [List.foldl_cons, ih, hg]
@[simp] theorem foldl_ltc {α : Type} (g : Hub → α → Hub) (hg : ∀ h x, (g h x).time.ltc = h.time.ltc) (l : List α) (h : Hub) :
    (l.foldl g h).time.ltc = h.time.ltc := by
  induction l generalizing h with
  | nil => rfl
  | cons a l ih => rw [List.foldl_cons, ih, hg]
@[simp] theorem foldr_sram {α : Type} (g : α → Hub → Hub) (hg : ∀ x h, (g x h).host.sram = h.host.sram) (l : List α) (h : Hub) :
    (l.foldr g h).host.sram = h.host.sram := by
  induction l with
  | nil => rfl
  | cons a l ih => rw [List.foldr_cons, hg, ih]
@[simp] theorem foldr_ltc {α : Type} (g : α → Hub → Hub) (hg : ∀ x h, (g x h).time.ltc = h.time.ltc) (l : List α) (h : Hub) :
    (l.foldr g h).time.ltc = h.time.ltc := by
  induction l with
  | nil => rfl
  | cons a l ih => rw [List.foldr_cons, hg, ih]
@[simp] theorem foldl_snd_sram {α β : Type} (g : β × Hub → α → β × Hub) (hg : ∀ h x, (g h x).2.host.sram = h.2.host.sram) (l : List α) (h : β × Hub) :
    (l.foldl g h).2.host.sram = h.2.host.sram := by
  induction l generalizing h with
  | nil => rfl
  | cons a l ih => rw [List.foldl_cons, ih, hg]
@[simp] theorem foldl_snd_ltc {α β : Type} (g : β × Hub → α → β × Hub) (hg : ∀ h x, (g h x).2.time.ltc = h.2.time.ltc) (l : List α) (h : β × Hub) :
    (l.foldl g h).2.time.ltc = h.2.time.ltc := by
  induction l generalizing h with
  | nil => rfl
  | cons a l ih => rw [List.foldl_cons, ih, hg]
@[simp] theorem foldl_fst_sram {α β : Type} (g : Hub × β → α → Hub × β) (hg : ∀ h x, (g h x).1.host.sram = h.1.host.sram) (l : List α) (h : Hub × β) :
    (l.foldl g h).1.host.sram = h.1.host.sram := by
  induction l generalizing h with
  | nil => rfl
  | cons a l ih => rw [List.foldl_cons, ih, hg]
@[simp] theorem foldl_fst_ltc {α β : Type} (g : Hub × β → α → Hub × β) (hg : ∀ h x, (g h x).1.time.ltc = h.1.time.ltc) (l : List α) (h : Hub × β) :
    (l.foldl g h).1.time.ltc = h.1.time.ltc := by
  induction l generalizing h with
  | nil => rfl
  | cons a l ih => rw [List.foldl_cons, ih, hg]
theorem foldl_keeps {α : Type} (g : Hub → α → Hub) (hg : ∀ h x, (g h x).host.sram = h.host.sram ∧ (g h x).time.ltc = h.time.ltc) (l : List α) (h : Hub) :
    (l.foldl g h).host.sram = h.host.sram ∧ (l.foldl g h).time.ltc = h.time.ltc :=
  ⟨foldl_sram g (fun h x => (hg h x).1) l h, foldl_ltc g (fun h x => (hg h x).2) l h⟩
@[simp] theorem when_sram (h : Hub) (c : Bool) (f : Hub → Hub) (hf : ∀ h, (f h).host.sram = h.host.sram) : (h.when c f).host.sram = h.host.sram := by
  unfold Hub.when; split; exact hf h; rfl
@[simp] theorem when_ltc (h : Hub) (c : Bool) (f : Hub → Hub) (hf : ∀ h, (f h).time.ltc = h.time.ltc) : (h.when c f).time.ltc = h.time.ltc := by
  unfold Hub.when; split; exact hf h; rfl
@[simp] theorem ite_sram (p : Prop) [Decidable p] (a b : Hub) : (if p then a else b).host.sram = if p then a.host.sram else b.host.sram := by split <;> rfl
@[simp] theorem ite_ltc (p : Prop) [Decidable p] (a b : Hub) : (if p then a else b).time.ltc = if p then a.time.ltc else b.time.ltc := by split <;> rfl
@[simp] theorem ite_snd' {β : Type} (p : Prop) [Decidable p] (a b : β × Hub) : (if p then a else b).2 = if p then a.2 else b.2 := by split <;> rfl
@[simp] theorem ite_fst' {β : Type} (p : Prop) [Decidable p] (a b : Hub × β) : (if p then a else b).1 = if p then a.1 else b.1 := by split <;> rfl

@[simp] theorem Hub.setObj_keeps (h : Hub) (x2 : Nat) (x3 : Val) :
    (Hub.setObj h x2 x3).host.sram = h.host.sram ∧ (Hub.setObj h x2 x3).time.ltc = h.time.ltc := by
  unfold Hub.setObj; simp

@[simp] theorem Hub.setNum_keeps (h : Hub) (x2 : Nat) (x3 : Nat) :
    (Hub.setNum h x2 x3).host.sram = h.host.sram ∧ (Hub.setNum h x2 x3).time.ltc = h.time.ltc := by
  unfold Hub.setNum; simp

@[simp] theorem Hub.ledgerObjects_keeps (h : Hub) :
    (Hub.ledgerObjects h).host.sram = h.host.sram ∧ (Hub.ledgerObjects h).time.ltc = h.time.ltc := by
  unfold Hub.ledgerObjects
  constructor <;> simp only [Hub.setNum_keeps]

@[simp] theorem Hub.storeRequest_keeps (h : Hub) (x2 : Nat) (x3 : Nat) (x4 : Nat) (x5 : Nat) :
    (Hub.storeRequest h x2 x3 x4 x5).host.sram = h.host.sram ∧ (Hub.storeRequest h x2 x3 x4 x5).time.ltc = h.time.ltc := by
  unfold Hub.storeRequest; (repeat' split) <;> simp

@[simp] theorem Hub.mirrorEntriesToStore_keeps (h : Hub) (x2 : Nat) (x3 : Nat) :
    (Hub.mirrorEntriesToStore h x2 x3).host.sram = h.host.sram ∧ (Hub.mirrorEntriesToStore h x2 x3).time.ltc = h.time.ltc := by
  unfold Hub.mirrorEntriesToStore; simp; (repeat' split) <;> simp

@[simp] theorem Hub.dropSessions_keeps (h : Hub) (x2 : Session → Bool) :
    (Hub.dropSessions h x2).host.sram = h.host.sram ∧ (Hub.dropSessions h x2).time.ltc = h.time.ltc := by
  unfold Hub.dropSessions; simp

@[simp] theorem Hub.closeWriteSession_keeps (h : Hub) (x2 : Requester) :
    (Hub.closeWriteSession h x2).host.sram = h.host.sram ∧ (Hub.closeWriteSession h x2).time.ltc = h.time.ltc := by
  unfold Hub.closeWriteSession; simp

@[simp] theorem Hub.setOct_keeps (h : Hub) (x2 : Nat) (x3 : List Byte) :
    (Hub.setOct h x2 x3).host.sram = h.host.sram ∧ (Hub.setOct h x2 x3).time.ltc = h.time.ltc := by
  unfold Hub.setOct; simp

@[simp] theorem Hub.clearHolder_keeps (h : Hub) (x2 : Nat) :
    (Hub.clearHolder h x2).host.sram = h.host.sram ∧ (Hub.clearHolder h x2).time.ltc = h.time.ltc := by
  unfold Hub.clearHolder; simp

@[simp] theorem Hub.emit_keeps (h : Hub) (x2 : Out) :
    (Hub.emit h x2).host.sram = h.host.sram ∧ (Hub.emit h x2).time.ltc = h.time.ltc := by
  unfold Hub.emit; simp

@[simp] theorem Hub.vector_keeps (h : Hub) (x2 : Nat) :
    (Hub.vector h x2).host.sram = h.host.sram ∧ (Hub.vector h x2).time.ltc = h.time.ltc := by
  unfold Hub.vector; simp

@[simp] theorem Hub.pend_keeps (h : Hub) (x2 : Nat) :
    (Hub.pend h x2).host.sram = h.host.sram ∧ (Hub.pend h x2).time.ltc = h.time.ltc := by
  unfold Hub.pend; simp

@[simp] theorem Hub.setQueue_keeps (h : Hub) (x2 : Nat) (x3 : QState) :
    (Hub.setQueue h x2 x3).host.sram = h.host.sram ∧ (Hub.setQueue h x2 x3).time.ltc = h.time.ltc := by
  unfold Hub.setQueue; simp

@[simp] theorem Hub.crossings_keeps (h : Hub) (x2 : Nat) (x3 : Nat) :
    (Hub.crossings h x2 x3).1.host.sram = h.host.sram ∧ (Hub.crossings h x2 x3).1.time.ltc = h.time.ltc := by
  unfold Hub.crossings; simp

@[simp] theorem Hub.applyRwb_keeps (h : Hub) (x2 : List Nat) :
    (Hub.applyRwb h x2).host.sram = h.host.sram ∧ (Hub.applyRwb h x2).time.ltc = h.time.ltc := by
  unfold Hub.applyRwb; simp

@[simp] theorem Hub.d2hStart_keeps (h : Hub) (x2 : Nat) (x3 : Nat) (x4 : Nat) (x5 : Option Nat) :
    (Hub.d2hStart h x2 x3 x4 x5).host.sram = h.host.sram ∧ (Hub.d2hStart h x2 x3 x4 x5).time.ltc = h.time.ltc := by
  unfold Hub.d2hStart; simp

@[simp] theorem Hub.queueEvent_keeps (h : Hub) (x2 : Nat) (x3 : Bool) :
    (Hub.queueEvent h x2 x3).host.sram = h.host.sram ∧ (Hub.queueEvent h x2 x3).time.ltc = h.time.ltc := by
  unfold Hub.queueEvent; simp

@[simp] theorem Hub.countN_keeps (h : Hub) (x2 : Nat) (x3 : Nat) :
    (Hub.countN h x2 x3).host.sram = h.host.sram ∧ (Hub.countN h x2 x3).time.ltc = h.time.ltc := by
  unfold Hub.countN; simp

@[simp] theorem Hub.count_keeps (h : Hub) (x2 : Nat) :
    (Hub.count h x2).host.sram = h.host.sram ∧ (Hub.count h x2).time.ltc = h.time.ltc := by
  unfold Hub.count; simp

@[simp] theorem Hub.emitHost_keeps (h : Hub) (x2 : Out) :
    (Hub.emitHost h x2).host.sram = h.host.sram ∧ (Hub.emitHost h x2).time.ltc = h.time.ltc := by
  unfold Hub.emitHost; simp

@[simp] theorem Hub.completeD2H_keeps (h : Hub) (x2 : Nat) (x3 : Nat) (x4 : Bool) (x5 : Bool) (x6 : Bool) (x7 : Option Nat) (x8 : Nat) (x9 : Nat) (x10 : Nat) (x11 : Nat) :
    (Hub.completeD2H h x2 x3 x4 x5 x6 x7 x8 x9 x10 x11).host.sram = h.host.sram ∧ (Hub.completeD2H h x2 x3 x4 x5 x6 x7 x8 x9 x10 x11).time.ltc = h.time.ltc := by
  unfold Hub.completeD2H; simp

@[simp] theorem Hub.badGrants_keeps (h : Hub) (x2 : Nat) (x3 : Nat) :
    (Hub.badGrants h x2 x3).host.sram = h.host.sram ∧ (Hub.badGrants h x2 x3).time.ltc = h.time.ltc := by
  induction x3 generalizing h with
  | zero => simp [Hub.badGrants]
  | succ n ih => unfold Hub.badGrants; split <;> simp [ih]

@[simp] theorem Hub.fillBuffers_keeps (h : Hub) (x2 : Nat) (x3 : Nat) (x4 : Nat) :
    (Hub.fillBuffers h x2 x3 x4).host.sram = h.host.sram ∧ (Hub.fillBuffers h x2 x3 x4).time.ltc = h.time.ltc := by
  induction x4 generalizing h with
  | zero => simp [Hub.fillBuffers]
  | succ n ih => unfold Hub.fillBuffers; dsimp only; split <;> simp [ih]

@[simp] theorem Hub.pushItem_keeps (h : Hub) (x2 : Nat) (x3 : QItem) :
    (Hub.pushItem h x2 x3).host.sram = h.host.sram ∧ (Hub.pushItem h x2 x3).time.ltc = h.time.ltc := by
  unfold Hub.pushItem; simp

@[simp] theorem Hub.placeItems_keeps (h : Hub) (x2 : Nat) (x3 : Nat) (x4 : Nat) :
    (Hub.placeItems h x2 x3 x4).host.sram = h.host.sram ∧ (Hub.placeItems h x2 x3 x4).time.ltc = h.time.ltc := by
  induction x4 generalizing h with
  | zero => simp [Hub.placeItems]
  | succ n ih => unfold Hub.placeItems; split <;> simp [ih]

@[simp] theorem Hub.d2hData_keeps (h : Hub) (x2 : Nat) (x3 : List Byte) (x4 : Bool) (x5 : Bool) (x6 : Bool) (x7 : Bool) :
    (Hub.d2hData h x2 x3 x4 x5 x6 x7).host.sram = h.host.sram ∧ (Hub.d2hData h x2 x3 x4 x5 x6 x7).time.ltc = h.time.ltc := by
  unfold Hub.d2hData; (repeat' split) <;> simp
@[simp] theorem Hub.putPacket_keeps (h : Hub) (x2 : Nat) (x3 : List Byte) (x4 : Bool) (x5 : Option Nat) (x6 : Nat) (x7 : Nat) :
    (Hub.putPacket h x2 x3 x4 x5 x6 x7).host.sram = h.host.sram ∧ (Hub.putPacket h x2 x3 x4 x5 x6 x7).time.ltc = h.time.ltc := by
  unfold Hub.putPacket; simp

@[simp] theorem Hub.recordCore_keeps (h : Hub) (x2 : Notice) (x3 : Nat) :
    (Hub.recordCore h x2 x3).1.host.sram = h.host.sram ∧ (Hub.recordCore h x2 x3).1.time.ltc = h.time.ltc := by
  unfold Hub.recordCore; simp

@[simp] theorem Hub.creditWordNow_keeps (h : Hub) (x2 : Nat) :
    (Hub.creditWordNow h x2).host.sram = h.host.sram ∧ (Hub.creditWordNow h x2).time.ltc = h.time.ltc := by
  unfold Hub.creditWordNow; simp

@[simp] theorem Hub.dropWaiting_keeps (h : Hub) (x2 : Nat) :
    (Hub.dropWaiting h x2).2.host.sram = h.host.sram ∧ (Hub.dropWaiting h x2).2.time.ltc = h.time.ltc := by
  unfold Hub.dropWaiting; simp

@[simp] theorem Hub.ptrClear_keeps (h : Hub) (x2 : Nat) :
    (Hub.ptrClear h x2).host.sram = h.host.sram ∧ (Hub.ptrClear h x2).time.ltc = h.time.ltc := by
  unfold Hub.ptrClear; simp

@[simp] theorem Hub.deliverBy_sram (h : Hub) (w : Hub → Hub) (n : Notice) (seq : Nat) (hw : ∀ h, (w h).host.sram = h.host.sram) :
    (Hub.deliverBy h w n seq).host.sram = h.host.sram := by
  unfold Hub.deliverBy
  split
  · exact hw h
  · split <;> simp
@[simp] theorem Hub.deliverBy_ltc (h : Hub) (w : Hub → Hub) (n : Notice) (seq : Nat) (hw : ∀ h, (w h).time.ltc = h.time.ltc) :
    (Hub.deliverBy h w n seq).time.ltc = h.time.ltc := by
  unfold Hub.deliverBy
  split
  · exact hw h
  · split <;> simp

@[simp] theorem Hub.ownNotice_keeps (h : Hub) (x2 : Nat) (x3 : List Nat) :
    (Hub.ownNotice h x2 x3).host.sram = h.host.sram ∧ (Hub.ownNotice h x2 x3).time.ltc = h.time.ltc := by
  unfold Hub.ownNotice; split <;> simp

@[simp] theorem Hub.writeRecord_keeps (h : Hub) (x2 : Notice) (x3 : Nat) :
    (Hub.writeRecord h x2 x3).host.sram = h.host.sram ∧ (Hub.writeRecord h x2 x3).time.ltc = h.time.ltc := by
  unfold Hub.writeRecord; simp only; split <;> simp

@[simp] theorem Hub.deliverNotice_keeps (h : Hub) (x2 : Notice) (x3 : Nat) :
    (Hub.deliverNotice h x2 x3).host.sram = h.host.sram ∧ (Hub.deliverNotice h x2 x3).time.ltc = h.time.ltc := by
  unfold Hub.deliverNotice; simp

@[simp] theorem Hub.flushBacklog_keeps (n : Nat) (h : Hub) : (h.flushBacklog n).host.sram = h.host.sram ∧ (h.flushBacklog n).time.ltc = h.time.ltc := by
  induction n generalizing h with
  | zero => exact ⟨rfl, rfl⟩
  | succ n ih =>
    unfold Hub.flushBacklog
    split
    · simp
    · split
      · simp [ih]
      · simp
@[simp] theorem Hub.overflowNow_keeps (h : Hub) :
    (Hub.overflowNow h).host.sram = h.host.sram ∧ (Hub.overflowNow h).time.ltc = h.time.ltc := by
  first
    | (unfold Hub.overflowNow; simp)
    | (unfold Hub.overflowNow; split <;> simp)
    | (unfold Hub.overflowNow; repeat' split) <;> simp
    | (unfold Hub.overflowNow; simp; repeat' split) <;> simp
    | (unfold Hub.overflowNow; simp; repeat' (first | intro _ | split)) <;> simp_all
    | (unfold Hub.overflowNow; repeat' (first | split | (simp; done))) <;> simp_all

@[simp] theorem Hub.numberNotice_keeps (h : Hub) (x2 : Notice) :
    (Hub.numberNotice h x2).host.sram = h.host.sram ∧ (Hub.numberNotice h x2).time.ltc = h.time.ltc := by
  unfold Hub.numberNotice; simp

@[simp] theorem Hub.holdNotice_keeps (h : Hub) (x2 : Notice) :
    (Hub.holdNotice h x2).host.sram = h.host.sram ∧ (Hub.holdNotice h x2).time.ltc = h.time.ltc := by
  unfold Hub.holdNotice; simp

@[simp] theorem Hub.placeNotice_keeps (h : Hub) (x2 : Notice) :
    (Hub.placeNotice h x2).host.sram = h.host.sram ∧ (Hub.placeNotice h x2).time.ltc = h.time.ltc := by
  unfold Hub.placeNotice; split <;> simp

@[simp] theorem Hub.noticeStamped_keeps (h : Hub) (x2 : Nat) (x3 : Nat) (x4 : Nat) (x5 : List Nat) :
    (Hub.noticeStamped h x2 x3 x4 x5).host.sram = h.host.sram ∧ (Hub.noticeStamped h x2 x3 x4 x5).time.ltc = h.time.ltc := by
  unfold Hub.noticeStamped
  split
  · simp
  · simp only; split <;> simp

@[simp] theorem Hub.inOrder_sram (h : Hub) (f : Hub → Hub) (hf : ∀ h, (f h).host.sram = h.host.sram) :
    (Hub.inOrder h f).host.sram = h.host.sram := by
  unfold Hub.inOrder
  split
  · exact hf h
  · simp [hf]
@[simp] theorem Hub.inOrder_ltc (h : Hub) (f : Hub → Hub) (hf : ∀ h, (f h).time.ltc = h.time.ltc) :
    (Hub.inOrder h f).time.ltc = h.time.ltc := by
  unfold Hub.inOrder
  split
  · exact hf h
  · simp [hf]

@[simp] theorem Hub.notice_keeps (h : Hub) (x2 : Nat) (x3 : Nat) (x4 : List Nat) :
    (Hub.notice h x2 x3 x4).host.sram = h.host.sram ∧ (Hub.notice h x2 x3 x4).time.ltc = h.time.ltc := by
  unfold Hub.notice; simp

@[simp] theorem Hub.afterLevel_keeps (h : Hub) (x2 : Nat) (x3 : Nat) :
    (Hub.afterLevel h x2 x3).host.sram = h.host.sram ∧ (Hub.afterLevel h x2 x3).time.ltc = h.time.ltc := by
  unfold Hub.afterLevel; simp

@[simp] theorem Hub.ptrFault_keeps (h : Hub) (x2 : Nat) :
    (Hub.ptrFault h x2).host.sram = h.host.sram ∧ (Hub.ptrFault h x2).time.ltc = h.time.ltc := by
  unfold Hub.ptrFault; simp

@[simp] theorem Hub.noticeS_keeps (h : Hub) (x2 : Nat) (x3 : Nat) (x4 : List Nat) :
    (Hub.noticeS h x2 x3 x4).host.sram = h.host.sram ∧ (Hub.noticeS h x2 x3 x4).time.ltc = h.time.ltc := by
  unfold Hub.noticeS; simp

@[simp] theorem Hub.stallNotice_keeps (h : Hub) (x2 : Nat) (x3 : Nat) (x4 : Nat) :
    (Hub.stallNotice h x2 x3 x4).host.sram = h.host.sram ∧ (Hub.stallNotice h x2 x3 x4).time.ltc = h.time.ltc := by
  unfold Hub.stallNotice; simp

@[simp] theorem Hub.vacateStall_keeps (h : Hub) (x2 : Nat) :
    (Hub.vacateStall h x2).host.sram = h.host.sram ∧ (Hub.vacateStall h x2).time.ltc = h.time.ltc := by
  unfold Hub.vacateStall; (repeat' split) <;> simp

@[simp] theorem Hub.stallPathGone_keeps (h : Hub) (x2 : Requester → Bool) :
    (Hub.stallPathGone h x2).host.sram = h.host.sram ∧ (Hub.stallPathGone h x2).time.ltc = h.time.ltc := by
  unfold Hub.stallPathGone; (repeat' split) <;> simp

@[simp] theorem Hub.closePathSessions_keeps (h : Hub) (x2 : Path) :
    (Hub.closePathSessions h x2).host.sram = h.host.sram ∧ (Hub.closePathSessions h x2).time.ltc = h.time.ltc := by
  unfold Hub.closePathSessions; simp

@[simp] theorem Hub.usbDisconnect_keeps (h : Hub) :
    (Hub.usbDisconnect h).host.sram = h.host.sram ∧ (Hub.usbDisconnect h).time.ltc = h.time.ltc := by
  unfold Hub.usbDisconnect; simp

@[simp] theorem Hub.swArrive_keeps (h : Hub) (x2 : Nat) (x3 : SwPacket) :
    (Hub.swArrive h x2 x3).host.sram = h.host.sram ∧ (Hub.swArrive h x2 x3).time.ltc = h.time.ltc := by
  unfold Hub.swArrive; simp

@[simp] theorem Hub.setChan_keeps (h : Hub) (x2 : Nat) (x3 : Chan) :
    (Hub.setChan h x2 x3).host.sram = h.host.sram ∧ (Hub.setChan h x2 x3).time.ltc = h.time.ltc := by
  unfold Hub.setChan; simp

@[simp] theorem Hub.recordOn_keeps (h : Hub) (x2 : Nat) (x3 : Nat) (x4 : Nat) (x5 : Nat) (x6 : Nat) (x7 : List Byte) :
    (Hub.recordOn h x2 x3 x4 x5 x6 x7).host.sram = h.host.sram ∧ (Hub.recordOn h x2 x3 x4 x5 x6 x7).time.ltc = h.time.ltc := by
  unfold Hub.recordOn; simp

@[simp] theorem Hub.exportPump_keeps (h : Hub) :
    (Hub.exportPump h).host.sram = h.host.sram ∧ (Hub.exportPump h).time.ltc = h.time.ltc := by
  unfold Hub.exportPump; simp

@[simp] theorem Hub.record_keeps (h : Hub) (x2 : Nat) (x3 : Nat) (x4 : Nat) (x5 : Nat) (x6 : List Byte) :
    (Hub.record h x2 x3 x4 x5 x6).host.sram = h.host.sram ∧ (Hub.record h x2 x3 x4 x5 x6).time.ltc = h.time.ltc := by
  unfold Hub.record; simp

@[simp] theorem Hub.ledgerAdd_keeps (h : Hub) (x2 : Nat) (x3 : Nat) (x4 : Nat) (x5 : Bool) (x6 : Bool) (x7 : Nat) :
    (Hub.ledgerAdd h x2 x3 x4 x5 x6 x7).host.sram = h.host.sram ∧ (Hub.ledgerAdd h x2 x3 x4 x5 x6 x7).time.ltc = h.time.ltc := by
  unfold Hub.ledgerAdd; simp

@[simp] theorem Hub.setFlag_keeps (h : Hub) (x2 : Nat) (x3 : Bool) :
    (Hub.setFlag h x2 x3).host.sram = h.host.sram ∧ (Hub.setFlag h x2 x3).time.ltc = h.time.ltc := by
  unfold Hub.setFlag; simp

@[simp] theorem Hub.setQuality_keeps (h : Hub) (x2 : Nat) (x3 : Nat) :
    (Hub.setQuality h x2 x3).host.sram = h.host.sram ∧ (Hub.setQuality h x2 x3).time.ltc = h.time.ltc := by
  unfold Hub.setQuality; simp

@[simp] theorem Hub.drive_keeps (h : Hub) (x2 : Nat) (x3 : Nat) (x4 : Bool) :
    (Hub.drive h x2 x3 x4).host.sram = h.host.sram ∧ (Hub.drive h x2 x3 x4).time.ltc = h.time.ltc := by
  unfold Hub.drive; simp

@[simp] theorem Hub.rts_keeps (h : Hub) (x2 : Nat) :
    (Hub.rts h x2).host.sram = h.host.sram ∧ (Hub.rts h x2).time.ltc = h.time.ltc := by
  unfold Hub.rts; simp

@[simp] theorem Hub.chanStart_keeps (h : Hub) (x2 : Nat) :
    (Hub.chanStart h x2).host.sram = h.host.sram ∧ (Hub.chanStart h x2).time.ltc = h.time.ltc := by
  unfold Hub.chanStart; simp

@[simp] theorem Hub.takeSeq_keeps (h : Hub) (x2 : Nat) (x3 : Nat) :
    (Hub.takeSeq h x2 x3).2.host.sram = h.host.sram ∧ (Hub.takeSeq h x2 x3).2.time.ltc = h.time.ltc := by
  unfold Hub.takeSeq; simp

@[simp] theorem Hub.seal_keeps (h : Hub) (x2 : RingFrame) :
    (Hub.seal h x2).2.host.sram = h.host.sram ∧ (Hub.seal h x2).2.time.ltc = h.time.ltc := by
  unfold Hub.seal; simp

@[simp] theorem Hub.sendRing_keeps (h : Hub) (x2 : Nat) (x3 : RingFrame) (x4 : Nat) :
    (Hub.sendRing h x2 x3 x4).2.host.sram = h.host.sram ∧ (Hub.sendRing h x2 x3 x4).2.time.ltc = h.time.ltc := by
  unfold Hub.sendRing; simp; (repeat' split) <;> simp

@[simp] theorem Hub.sendTxn_keeps (h : Hub) (x2 : RingFrame) (x3 : Nat) :
    (Hub.sendTxn h x2 x3).host.sram = h.host.sram ∧ (Hub.sendTxn h x2 x3).time.ltc = h.time.ltc := by
  unfold Hub.sendTxn; simp

@[simp] theorem Hub.sendMarker_keeps (h : Hub) (x2 : Nat) (x3 : Nat × Nat) :
    (Hub.sendMarker h x2 x3).host.sram = h.host.sram ∧ (Hub.sendMarker h x2 x3).time.ltc = h.time.ltc := by
  first
    | (unfold Hub.sendMarker; simp)
    | (unfold Hub.sendMarker; split <;> simp)
    | (unfold Hub.sendMarker; repeat' split) <;> simp
    | (unfold Hub.sendMarker; simp; repeat' split) <;> simp
    | (unfold Hub.sendMarker; simp; repeat' (first | intro _ | split)) <;> simp_all
    | (unfold Hub.sendMarker; repeat' (first | split | (simp; done))) <;> simp_all

@[simp] theorem Hub.checkPtr_keeps (h : Hub) (x2 : Nat) :
    (Hub.checkPtr h x2).host.sram = h.host.sram ∧ (Hub.checkPtr h x2).time.ltc = h.time.ltc := by
  unfold Hub.checkPtr; simp

@[simp] theorem Hub.release_keeps (h : Hub) (x2 : Nat) (x3 : Nat) :
    (Hub.release h x2 x3).host.sram = h.host.sram ∧ (Hub.release h x2 x3).time.ltc = h.time.ltc := by
  unfold Hub.release; simp

@[simp] theorem Hub.completeH2D_keeps (h : Hub) (x2 : Nat) (x3 : QDesc) (x4 : Nat) (x5 : Nat) :
    (Hub.completeH2D h x2 x3 x4 x5).host.sram = h.host.sram ∧ (Hub.completeH2D h x2 x3 x4 x5).time.ltc = h.time.ltc := by
  unfold Hub.completeH2D; simp

@[simp] theorem Hub.drainDescs_keeps (h : Hub) (x2 : Nat) (x3 : Nat) :
    (Hub.drainDescs h x2 x3).host.sram = h.host.sram ∧ (Hub.drainDescs h x2 x3).time.ltc = h.time.ltc := by
  induction x3 generalizing h with
  | zero => simp [Hub.drainDescs]
  | succ n ih =>
    unfold Hub.drainDescs; split
    · simp
    · split
      · simp
      · split <;> simp [ih]

@[simp] theorem Hub.drain_keeps (h : Hub) (x2 : Nat) :
    (Hub.drain h x2).host.sram = h.host.sram ∧ (Hub.drain h x2).time.ltc = h.time.ltc := by
  unfold Hub.drain; simp

@[simp] theorem Hub.takeTag_keeps (h : Hub) :
    (Hub.takeTag h).2.host.sram = h.host.sram ∧ (Hub.takeTag h).2.time.ltc = h.time.ltc := by
  unfold Hub.takeTag; simp

@[simp] theorem Hub.markerTag_keeps (h : Hub) (x2 : Nat) (x3 : Nat) :
    (Hub.markerTag h x2 x3).2.host.sram = h.host.sram ∧ (Hub.markerTag h x2 x3).2.time.ltc = h.time.ltc := by
  unfold Hub.markerTag; simp

@[simp] theorem Hub.bulkFence_keeps (h : Hub) (x2 : Nat) :
    (Hub.bulkFence h x2).host.sram = h.host.sram ∧ (Hub.bulkFence h x2).time.ltc = h.time.ltc := by
  unfold Hub.bulkFence; simp; (repeat' split) <;> simp

@[simp] theorem Hub.writesRetired_keeps (h : Hub) (x2 : Nat) (x3 : Nat → Bool) :
    (Hub.writesRetired h x2 x3).host.sram = h.host.sram ∧ (Hub.writesRetired h x2 x3).time.ltc = h.time.ltc := by
  unfold Hub.writesRetired; simp

@[simp] theorem Hub.bulkSettle_keeps (h : Hub) (x2 : Nat) (x3 : List (Nat × Nat)) (x4 : Bool) :
    (Hub.bulkSettle h x2 x3 x4).host.sram = h.host.sram ∧ (Hub.bulkSettle h x2 x3 x4).time.ltc = h.time.ltc := by
  first
    | (unfold Hub.bulkSettle; simp)
    | (unfold Hub.bulkSettle; split <;> simp)
    | (unfold Hub.bulkSettle; repeat' split) <;> simp
    | (unfold Hub.bulkSettle; simp; repeat' split) <;> simp
    | (unfold Hub.bulkSettle; simp; repeat' (first | intro _ | split)) <;> simp_all
    | (unfold Hub.bulkSettle; repeat' (first | split | (simp; done))) <;> simp_all

@[simp] theorem Hub.bulkReach_keeps (h : Hub) (x2 : Nat) :
    (Hub.bulkReach h x2).host.sram = h.host.sram ∧ (Hub.bulkReach h x2).time.ltc = h.time.ltc := by
  first
    | (unfold Hub.bulkReach; simp)
    | (unfold Hub.bulkReach; split <;> simp)
    | (unfold Hub.bulkReach; repeat' split) <;> simp
    | (unfold Hub.bulkReach; simp; repeat' split) <;> simp
    | (unfold Hub.bulkReach; simp; repeat' (first | intro _ | split)) <;> simp_all
    | (unfold Hub.bulkReach; repeat' (first | split | (simp; done))) <;> simp_all

@[simp] theorem Hub.addToAll_keeps (h : Hub) (x2 : Nat) (x3 : Nat) (x4 : Bool) (x5 : Bool) :
    (Hub.addToAll h x2 x3 x4 x5).host.sram = h.host.sram ∧ (Hub.addToAll h x2 x3 x4 x5).time.ltc = h.time.ltc := by
  first
    | (unfold Hub.addToAll; simp)
    | (unfold Hub.addToAll; split <;> simp)
    | (unfold Hub.addToAll; repeat' split) <;> simp
    | (unfold Hub.addToAll; simp; repeat' split) <;> simp
    | (unfold Hub.addToAll; simp; repeat' (first | intro _ | split)) <;> simp_all
    | (unfold Hub.addToAll; repeat' (first | split | (simp; done))) <;> simp_all

@[simp] theorem Hub.sendWindow_keeps (h : Hub) (x2 : Nat) (x3 : RingFrame) (x4 : Nat) :
    (Hub.sendWindow h x2 x3 x4).host.sram = h.host.sram ∧ (Hub.sendWindow h x2 x3 x4).time.ltc = h.time.ltc := by
  unfold Hub.sendWindow; split <;> simp
@[simp] theorem Hub.setFence_keeps (h : Hub) (x2 : Nat) (x3 : Fence) :
    (Hub.setFence h x2 x3).host.sram = h.host.sram ∧ (Hub.setFence h x2 x3).time.ltc = h.time.ltc := by
  unfold Hub.setFence; simp

@[simp] theorem Hub.reportRest_keeps (h : Hub) (x2 : Nat) :
    (Hub.reportRest h x2).host.sram = h.host.sram ∧ (Hub.reportRest h x2).time.ltc = h.time.ltc := by
  first
    | (unfold Hub.reportRest; simp)
    | (unfold Hub.reportRest; split <;> simp)
    | (unfold Hub.reportRest; repeat' split) <;> simp
    | (unfold Hub.reportRest; simp; repeat' split) <;> simp
    | (unfold Hub.reportRest; simp; repeat' (first | intro _ | split)) <;> simp_all
    | (unfold Hub.reportRest; repeat' (first | split | (simp; done))) <;> simp_all

@[simp] theorem Hub.finishFence_keeps (h : Hub) (x2 : Nat) (x3 : Bool) :
    (Hub.finishFence h x2 x3).host.sram = h.host.sram ∧ (Hub.finishFence h x2 x3).time.ltc = h.time.ltc := by
  unfold Hub.finishFence; simp

@[simp] theorem Hub.beginFence_keeps (h : Hub) (x2 : Nat) :
    (Hub.beginFence h x2).host.sram = h.host.sram ∧ (Hub.beginFence h x2).time.ltc = h.time.ltc := by
  unfold Hub.beginFence; simp

@[simp] theorem Hub.fenceOrHold_keeps (h : Hub) (x2 : Nat) :
    (Hub.fenceOrHold h x2).host.sram = h.host.sram ∧ (Hub.fenceOrHold h x2).time.ltc = h.time.ltc := by
  first
    | (unfold Hub.fenceOrHold; simp)
    | (unfold Hub.fenceOrHold; split <;> simp)
    | (unfold Hub.fenceOrHold; repeat' split) <;> simp
    | (unfold Hub.fenceOrHold; simp; repeat' split) <;> simp
    | (unfold Hub.fenceOrHold; simp; repeat' (first | intro _ | split)) <;> simp_all
    | (unfold Hub.fenceOrHold; repeat' (first | split | (simp; done))) <;> simp_all

@[simp] theorem Hub.finishAll_keeps (h : Hub) :
    (Hub.finishAll h).host.sram = h.host.sram ∧ (Hub.finishAll h).time.ltc = h.time.ltc := by
  unfold Hub.finishAll; simp

@[simp] theorem Hub.startAll_keeps (h : Hub) :
    (Hub.startAll h).host.sram = h.host.sram ∧ (Hub.startAll h).time.ltc = h.time.ltc := by
  unfold Hub.startAll; simp

@[simp] theorem Hub.settleAll_keeps (h : Hub) :
    (Hub.settleAll h).host.sram = h.host.sram ∧ (Hub.settleAll h).time.ltc = h.time.ltc := by
  first
    | (unfold Hub.settleAll; simp)
    | (unfold Hub.settleAll; split <;> simp)
    | (unfold Hub.settleAll; repeat' split) <;> simp
    | (unfold Hub.settleAll; simp; repeat' split) <;> simp
    | (unfold Hub.settleAll; simp; repeat' (first | intro _ | split)) <;> simp_all
    | (unfold Hub.settleAll; repeat' (first | split | (simp; done))) <;> simp_all

@[simp] theorem Hub.afterFence_keeps (h : Hub) (x2 : Nat) :
    (Hub.afterFence h x2).host.sram = h.host.sram ∧ (Hub.afterFence h x2).time.ltc = h.time.ltc := by
  unfold Hub.afterFence; simp

@[simp] theorem Hub.fenceReach_keeps (h : Hub) (x2 : Nat) :
    (Hub.fenceReach h x2).host.sram = h.host.sram ∧ (Hub.fenceReach h x2).time.ltc = h.time.ltc := by
  first
    | (unfold Hub.fenceReach; simp)
    | (unfold Hub.fenceReach; split <;> simp)
    | (unfold Hub.fenceReach; repeat' split) <;> simp
    | (unfold Hub.fenceReach; simp; repeat' split) <;> simp
    | (unfold Hub.fenceReach; simp; repeat' (first | intro _ | split)) <;> simp_all
    | (unfold Hub.fenceReach; repeat' (first | split | (simp; done))) <;> simp_all

@[simp] theorem Hub.fencesReach_keeps (h : Hub) :
    (Hub.fencesReach h).host.sram = h.host.sram ∧ (Hub.fencesReach h).time.ltc = h.time.ltc := by
  first
    | (unfold Hub.fencesReach; simp)
    | (unfold Hub.fencesReach; split <;> simp)
    | (unfold Hub.fencesReach; repeat' split) <;> simp
    | (unfold Hub.fencesReach; simp; repeat' split) <;> simp
    | (unfold Hub.fencesReach; simp; repeat' (first | intro _ | split)) <;> simp_all
    | (unfold Hub.fencesReach; repeat' (first | split | (simp; done))) <;> simp_all

@[simp] theorem Hub.echoStamp_keeps (h : Hub) (x2 : Nat) (x3 : Nat) (x4 : Nat) :
    (Hub.echoStamp h x2 x3 x4).host.sram = h.host.sram ∧ (Hub.echoStamp h x2 x3 x4).time.ltc = h.time.ltc := by
  unfold Hub.echoStamp; simp

@[simp] theorem Hub.maxNum_keeps (h : Hub) (x2 : Nat) (x3 : Nat) :
    (Hub.maxNum h x2 x3).host.sram = h.host.sram ∧ (Hub.maxNum h x2 x3).time.ltc = h.time.ltc := by
  unfold Hub.maxNum; simp

@[simp] theorem Hub.setPtpPort_keeps (h : Hub) (x2 : Nat) (x3 : PtpPort) :
    (Hub.setPtpPort h x2 x3).host.sram = h.host.sram ∧ (Hub.setPtpPort h x2 x3).time.ltc = h.time.ltc := by
  unfold Hub.setPtpPort; simp

@[simp] theorem Hub.setStaTx_keeps (h : Hub) (x2 : Nat) (x3 : List StaTx) :
    (Hub.setStaTx h x2 x3).host.sram = h.host.sram ∧ (Hub.setStaTx h x2 x3).time.ltc = h.time.ltc := by
  unfold Hub.setStaTx; simp

@[simp] theorem Hub.persist_keeps (h : Hub) (x2 : Nat) :
    (Hub.persist h x2).host.sram = h.host.sram ∧ (Hub.persist h x2).time.ltc = h.time.ltc := by
  unfold Hub.persist; simp

@[simp] theorem Hub.showPins_keeps (h : Hub) (x2 : Nat) :
    (Hub.showPins h x2).host.sram = h.host.sram ∧ (Hub.showPins h x2).time.ltc = h.time.ltc := by
  unfold Hub.showPins
  refine foldl_keeps _ (fun h x => ?_) _ _
  exact foldl_keeps _ (fun h x => by split <;> simp) _ _

@[simp] theorem Hub.eavesFree_keeps (h : Hub) (x2 : Nat) :
    (Hub.eavesFree h x2).host.sram = h.host.sram ∧ (Hub.eavesFree h x2).time.ltc = h.time.ltc := by
  unfold Hub.eavesFree; simp

@[simp] theorem Hub.eavesAuto_keeps (h : Hub) (x2 : Nat) :
    (Hub.eavesAuto h x2).host.sram = h.host.sram ∧ (Hub.eavesAuto h x2).time.ltc = h.time.ltc := by
  unfold Hub.eavesAuto; simp

@[simp] theorem Hub.eavesLatch_keeps (h : Hub) (x2 : Nat) :
    (Hub.eavesLatch h x2).host.sram = h.host.sram ∧ (Hub.eavesLatch h x2).time.ltc = h.time.ltc := by
  unfold Hub.eavesLatch; simp

@[simp] theorem Hub.napRefresh_keeps (h : Hub) :
    (Hub.napRefresh h).host.sram = h.host.sram ∧ (Hub.napRefresh h).time.ltc = h.time.ltc := by
  unfold Hub.napRefresh; simp

@[simp] theorem Hub.setMode_keeps (h : Hub) (x2 : Nat) :
    (Hub.setMode h x2).host.sram = h.host.sram ∧ (Hub.setMode h x2).time.ltc = h.time.ltc := by
  unfold Hub.setMode; simp

@[simp] theorem Hub.endSwap_keeps (h : Hub) :
    (Hub.endSwap h).host.sram = h.host.sram ∧ (Hub.endSwap h).time.ltc = h.time.ltc := by
  unfold Hub.endSwap; simp

@[simp] theorem Hub.sendClaim_keeps (h : Hub) (x2 : Nat) (x3 : Nat) (x4 : Nat) (x5 : Nat) :
    (Hub.sendClaim h x2 x3 x4 x5).host.sram = h.host.sram ∧ (Hub.sendClaim h x2 x3 x4 x5).time.ltc = h.time.ltc := by
  unfold Hub.sendClaim; simp

@[simp] theorem Hub.sendSwap_keeps (h : Hub) (x2 : Nat) (x3 : Nat) :
    (Hub.sendSwap h x2 x3).host.sram = h.host.sram ∧ (Hub.sendSwap h x2 x3).time.ltc = h.time.ltc := by
  unfold Hub.sendSwap; simp

@[simp] theorem Hub.tryAck_keeps (h : Hub) :
    (Hub.tryAck h).host.sram = h.host.sram ∧ (Hub.tryAck h).time.ltc = h.time.ltc := by
  unfold Hub.tryAck; simp

@[simp] theorem Hub.mirrorFollow_keeps (h : Hub) (x2 : Nat) :
    (Hub.mirrorFollow h x2).host.sram = h.host.sram ∧ (Hub.mirrorFollow h x2).time.ltc = h.time.ltc := by
  unfold Hub.mirrorFollow; simp

@[simp] theorem Hub.unsync_keeps (h : Hub) (x2 : Nat) :
    (Hub.unsync h x2).host.sram = h.host.sram ∧ (Hub.unsync h x2).time.ltc = h.time.ltc := by
  unfold Hub.unsync; simp

@[simp] theorem Hub.mirrorReport_keeps (h : Hub) (x2 : Bool) (x3 : Nat) :
    (Hub.mirrorReport h x2 x3).host.sram = h.host.sram ∧ (Hub.mirrorReport h x2 x3).time.ltc = h.time.ltc := by
  unfold Hub.mirrorReport; simp

@[simp] theorem Hub.dropPersisting_keeps (h : Hub) :
    (Hub.dropPersisting h).host.sram = h.host.sram ∧ (Hub.dropPersisting h).time.ltc = h.time.ltc := by
  unfold Hub.dropPersisting; simp

@[simp] theorem Hub.clearCompare_keeps (h : Hub) :
    (Hub.clearCompare h).host.sram = h.host.sram ∧ (Hub.clearCompare h).time.ltc = h.time.ltc := by
  unfold Hub.clearCompare; simp

@[simp] theorem Hub.persistRole_keeps (h : Hub) (x2 : Nat) :
    (Hub.persistRole h x2).host.sram = h.host.sram ∧ (Hub.persistRole h x2).time.ltc = h.time.ltc := by
  unfold Hub.persistRole; (repeat' split) <;> simp

@[simp] theorem Hub.toOut_keeps (h : Hub) :
    (Hub.toOut h).host.sram = h.host.sram ∧ (Hub.toOut h).time.ltc = h.time.ltc := by
  unfold Hub.toOut; simp

@[simp] theorem Hub.toStandby_keeps (h : Hub) :
    (Hub.toStandby h).host.sram = h.host.sram ∧ (Hub.toStandby h).time.ltc = h.time.ltc := by
  unfold Hub.toStandby; simp

@[simp] theorem Hub.toContending_keeps (h : Hub) (x2 : Nat) :
    (Hub.toContending h x2).host.sram = h.host.sram ∧ (Hub.toContending h x2).time.ltc = h.time.ltc := by
  unfold Hub.toContending; simp

@[simp] theorem Hub.heard_keeps (h : Hub) (x2 : Nat) (x3 : Nat) (x4 : List Byte) :
    (Hub.heard h x2 x3 x4).host.sram = h.host.sram ∧ (Hub.heard h x2 x3 x4).time.ltc = h.time.ltc := by
  unfold Hub.heard; simp

@[simp] theorem Hub.joinFailed_keeps (h : Hub) (x2 : Nat) :
    (Hub.joinFailed h x2).host.sram = h.host.sram ∧ (Hub.joinFailed h x2).time.ltc = h.time.ltc := by
  unfold Hub.joinFailed; simp

@[simp] theorem Hub.beginJoin_keeps (h : Hub) :
    (Hub.beginJoin h).host.sram = h.host.sram ∧ (Hub.beginJoin h).time.ltc = h.time.ltc := by
  unfold Hub.beginJoin; simp

@[simp] theorem Hub.entryAborted_keeps (h : Hub) (x2 : Nat) (x3 : List Nat) :
    (Hub.entryAborted h x2 x3).host.sram = h.host.sram ∧ (Hub.entryAborted h x2 x3).time.ltc = h.time.ltc := by
  unfold Hub.entryAborted; simp

@[simp] theorem Hub.setSq_keeps (h : Hub) (x2 : Nat) (x3 : SeqState) :
    (Hub.setSq h x2 x3).host.sram = h.host.sram ∧ (Hub.setSq h x2 x3).time.ltc = h.time.ltc := by
  unfold Hub.setSq; simp

@[simp] theorem Hub.floatPin_keeps (h : Hub) (x2 : Nat) (x3 : Nat) :
    (Hub.floatPin h x2 x3).host.sram = h.host.sram ∧ (Hub.floatPin h x2 x3).time.ltc = h.time.ltc := by
  unfold Hub.floatPin; simp

@[simp] theorem Hub.applyPin_keeps (h : Hub) (x2 : Nat) (x3 : Nat) :
    (Hub.applyPin h x2 x3).host.sram = h.host.sram ∧ (Hub.applyPin h x2 x3).time.ltc = h.time.ltc := by
  unfold Hub.applyPin; (repeat' split) <;> simp

@[simp] theorem Hub.seqDrive_keeps (h : Hub) (x2 : Nat) (x3 : Nat) (x4 : Option Bool) :
    (Hub.seqDrive h x2 x3 x4).host.sram = h.host.sram ∧ (Hub.seqDrive h x2 x3 x4).time.ltc = h.time.ltc := by
  unfold Hub.seqDrive; simp

@[simp] theorem Hub.restPin_keeps (h : Hub) (x2 x3 : Nat) :
    (Hub.restPin h x2 x3).host.sram = h.host.sram ∧ (Hub.restPin h x2 x3).time.ltc = h.time.ltc := by
  unfold Hub.restPin; (repeat' split) <;> simp

@[simp] theorem Hub.seqRest_keeps (h : Hub) (x2 : Nat) :
    (Hub.seqRest h x2).host.sram = h.host.sram ∧ (Hub.seqRest h x2).time.ltc = h.time.ltc := by
  unfold Hub.seqRest; simp

@[simp] theorem Hub.boutDrive_keeps (h : Hub) (x2 : Nat) (x3 : Bool) :
    (Hub.boutDrive h x2 x3).host.sram = h.host.sram ∧ (Hub.boutDrive h x2 x3).time.ltc = h.time.ltc := by
  unfold Hub.boutDrive; simp

@[simp] theorem Hub.boutSafe_keeps (h : Hub) (x2 : Nat) (x3 : Option Nat) :
    (Hub.boutSafe h x2 x3).host.sram = h.host.sram ∧ (Hub.boutSafe h x2 x3).time.ltc = h.time.ltc := by
  unfold Hub.boutSafe; (repeat' split) <;> simp

@[simp] theorem Hub.cstartEnd_keeps (h : Hub) (x2 : Nat) :
    (Hub.cstartEnd h x2).host.sram = h.host.sram ∧ (Hub.cstartEnd h x2).time.ltc = h.time.ltc := by
  unfold Hub.cstartEnd; simp

@[simp] theorem Hub.seqLost_keeps (h : Hub) (x2 : Nat) :
    (Hub.seqLost h x2).host.sram = h.host.sram ∧ (Hub.seqLost h x2).time.ltc = h.time.ltc := by
  first
    | (unfold Hub.seqLost; simp)
    | (unfold Hub.seqLost; split <;> simp)
    | (unfold Hub.seqLost; repeat' split) <;> simp
    | (unfold Hub.seqLost; simp; repeat' split) <;> simp
    | (unfold Hub.seqLost; simp; repeat' (first | intro _ | split)) <;> simp_all
    | (unfold Hub.seqLost; repeat' (first | split | (simp; done))) <;> simp_all

@[simp] theorem Hub.setInbox_keeps (h : Hub) (x2 : Nat) (x3 : List Delivered) :
    (Hub.setInbox h x2 x3).host.sram = h.host.sram ∧ (Hub.setInbox h x2 x3).time.ltc = h.time.ltc := by
  unfold Hub.setInbox; simp

@[simp] theorem Hub.seqAbort_keeps (h : Hub) (x2 : Nat) :
    (Hub.seqAbort h x2).host.sram = h.host.sram ∧ (Hub.seqAbort h x2).time.ltc = h.time.ltc := by
  unfold Hub.seqAbort; simp

@[simp] theorem Hub.dupStop_keeps (h : Hub) :
    (Hub.dupStop h).host.sram = h.host.sram ∧ (Hub.dupStop h).time.ltc = h.time.ltc := by
  unfold Hub.dupStop; simp

@[simp] theorem Hub.outputsSafe_keeps (h : Hub) :
    (Hub.outputsSafe h).host.sram = h.host.sram ∧ (Hub.outputsSafe h).time.ltc = h.time.ltc := by
  unfold Hub.outputsSafe; simp

@[simp] theorem Hub.faultRecord_keeps (h : Hub) (x2 x3 : Nat) :
    (Hub.faultRecord h x2 x3).host.sram = h.host.sram ∧ (Hub.faultRecord h x2 x3).time.ltc = h.time.ltc := by
  unfold Hub.faultRecord; simp

@[simp] theorem Hub.faultReaction_keeps (h : Hub) :
    (Hub.faultReaction h).host.sram = h.host.sram ∧ (Hub.faultReaction h).time.ltc = h.time.ltc := by
  unfold Hub.faultReaction; dsimp only; (repeat' split) <;> simp

@[simp] theorem Hub.hubFault_keeps (h : Hub) (x2 : Nat) :
    (Hub.hubFault h x2).host.sram = h.host.sram ∧ (Hub.hubFault h x2).time.ltc = h.time.ltc := by
  unfold Hub.hubFault; simp

@[simp] theorem Hub.echoLost_keeps (h : Hub) (x2 : Option (Nat × Nat)) :
    (Hub.echoLost h x2).host.sram = h.host.sram ∧ (Hub.echoLost h x2).time.ltc = h.time.ltc := by
  unfold Hub.echoLost; (repeat' split) <;> simp

@[simp] theorem Hub.copyLost_keeps (h : Hub) (x2 : Nat) (x3 : Option (Nat × Nat)) :
    (Hub.copyLost h x2 x3).host.sram = h.host.sram ∧ (Hub.copyLost h x2 x3).time.ltc = h.time.ltc := by
  unfold Hub.copyLost; (repeat' split) <;> simp

@[simp] theorem Hub.copyLeft_keeps (h : Hub) (x2 x3 : Nat) (x4 : Nat × Nat) :
    (Hub.copyLeft h x2 x3 x4).host.sram = h.host.sram ∧ (Hub.copyLeft h x2 x3 x4).time.ltc = h.time.ltc := by
  unfold Hub.copyLeft; (repeat' split) <;> simp

@[simp] theorem Hub.residenceDone_keeps (h : Hub) (x2 : Nat) (x3 : List Byte) :
    (Hub.residenceDone h x2 x3).host.sram = h.host.sram ∧ (Hub.residenceDone h x2 x3).time.ltc = h.time.ltc := by
  unfold Hub.residenceDone; simp

@[simp] theorem Hub.staDepart_keeps (h : Hub) (x2 : Bool) (x3 : Nat) :
    (Hub.staDepart h x2 x3).host.sram = h.host.sram ∧ (Hub.staDepart h x2 x3).time.ltc = h.time.ltc := by
  unfold Hub.staDepart; simp; (repeat' split) <;> simp

@[simp] theorem ite_eq_keeps (c : Prop) [Decidable c] (a b h : Hub) (ha : a.host.sram = h.host.sram ∧ a.time.ltc = h.time.ltc)
    (hb : b.host.sram = h.host.sram ∧ b.time.ltc = h.time.ltc) :
    (if c then a else b).host.sram = h.host.sram ∧ (if c then a else b).time.ltc = h.time.ltc := by split <;> assumption

@[simp] theorem Hub.mirrorWrite_keeps (h : Hub) (x2 : Nat) (x3 : List Byte) :
    (Hub.mirrorWrite h x2 x3).host.sram = h.host.sram ∧ (Hub.mirrorWrite h x2 x3).time.ltc = h.time.ltc := by
  unfold Hub.mirrorWrite; simp

@[simp] theorem Hub.mirMoved_keeps (h : Hub) (x2 : Nat) (x3 : List (Nat × Nat)) :
    (Hub.mirMoved h x2 x3).host.sram = h.host.sram ∧ (Hub.mirMoved h x2 x3).time.ltc = h.time.ltc := by
  unfold Hub.mirMoved; simp

@[simp] theorem Hub.mirrorSend_keeps (h : Hub) (x2 : Nat) (x3 : Nat) (x4 : Nat) (x5 : List Byte) :
    (Hub.mirrorSend h x2 x3 x4 x5).host.sram = h.host.sram ∧ (Hub.mirrorSend h x2 x3 x4 x5).time.ltc = h.time.ltc := by
  simp only [Hub.mirrorSend]; split <;> simp

@[simp] theorem Hub.resynchronise_keeps (h : Hub) :
    (Hub.resynchronise h).host.sram = h.host.sram ∧ (Hub.resynchronise h).time.ltc = h.time.ltc := by
  unfold Hub.resynchronise; simp

@[simp] theorem Hub.mirrorPump_keeps (h : Hub) :
    (Hub.mirrorPump h).host.sram = h.host.sram ∧ (Hub.mirrorPump h).time.ltc = h.time.ltc := by
  unfold Hub.mirrorPump; simp

@[simp] theorem Hub.dropItems_keeps (h : Hub) (x2 : Nat) (x3 : Nat) :
    (Hub.dropItems h x2 x3).host.sram = h.host.sram ∧ (Hub.dropItems h x2 x3).time.ltc = h.time.ltc := by
  unfold Hub.dropItems; simp

@[simp] theorem Hub.finishDescs_keeps (h : Hub) (x2 : Nat) (x3 : List Nat) (x4 : Nat) (x5 : Bool) (x6 : Bool) :
    (Hub.finishDescs h x2 x3 x4 x5 x6).host.sram = h.host.sram ∧ (Hub.finishDescs h x2 x3 x4 x5 x6).time.ltc = h.time.ltc := by
  unfold Hub.finishDescs; simp

@[simp] theorem Hub.leaveItems_keeps (h : Hub) (x2 : Nat) (x3 : Nat) :
    (Hub.leaveItems h x2 x3).host.sram = h.host.sram ∧ (Hub.leaveItems h x2 x3).time.ltc = h.time.ltc := by
  unfold Hub.leaveItems; simp

@[simp] theorem Hub.appendFrame_keeps (h : Hub) (x2 : Nat) (x3 : List Byte) (x4 : Bool) (x5 : Bool) :
    (Hub.appendFrame h x2 x3 x4 x5).host.sram = h.host.sram ∧ (Hub.appendFrame h x2 x3 x4 x5).time.ltc = h.time.ltc := by
  unfold Hub.appendFrame; (repeat' split) <;> simp

@[simp] theorem Hub.feedOpen_keeps (h : Hub) (x2 : Nat) (x3 : Nat) (x4 : List Nat) (x5 : List Byte) (x6 : Bool) (x7 : Bool) :
    (Hub.feedOpen h x2 x3 x4 x5 x6 x7).host.sram = h.host.sram ∧ (Hub.feedOpen h x2 x3 x4 x5 x6 x7).time.ltc = h.time.ltc := by
  unfold Hub.feedOpen; (repeat' split) <;> simp

@[simp] theorem Hub.oversizePacket_keeps (h : Hub) (x2 : Nat) :
    (Hub.oversizePacket h x2).host.sram = h.host.sram ∧ (Hub.oversizePacket h x2).time.ltc = h.time.ltc := by
  unfold Hub.oversizePacket; simp

@[simp] theorem Hub.sendPd_keeps (h : Hub) (x2 : PdKind) (x3 : List Nat) :
    (Hub.sendPd h x2 x3).host.sram = h.host.sram ∧ (Hub.sendPd h x2 x3).time.ltc = h.time.ltc := by
  unfold Hub.sendPd; simp

@[simp] theorem Hub.renewLease_keeps (h : Hub) :
    (Hub.renewLease h).host.sram = h.host.sram ∧ (Hub.renewLease h).time.ltc = h.time.ltc := by
  unfold Hub.renewLease; simp

@[simp] theorem Hub.stagingWrite_keeps (h : Hub) (x2 : Nat) (x3 : List Byte) :
    (Hub.stagingWrite h x2 x3).host.sram = h.host.sram ∧ (Hub.stagingWrite h x2 x3).time.ltc = h.time.ltc := by
  unfold Hub.stagingWrite; simp

@[simp] theorem Hub.stagingLoad_keeps (h : Hub) :
    (Hub.stagingLoad h).host.sram = h.host.sram ∧ (Hub.stagingLoad h).time.ltc = h.time.ltc := by
  unfold Hub.stagingLoad; simp

@[simp] theorem Hub.windowCommitWrite_keeps (h : Hub) (x2 : Nat) (x3 : Nat) :
    (Hub.windowCommitWrite h x2 x3).2.host.sram = h.host.sram ∧ (Hub.windowCommitWrite h x2 x3).2.time.ltc = h.time.ltc := by
  unfold Hub.windowCommitWrite; simp

@[simp] theorem Hub.setAlt_keeps (h : Hub) (x2 : SMap Nat) :
    (Hub.setAlt h x2).host.sram = h.host.sram ∧ (Hub.setAlt h x2).time.ltc = h.time.ltc := by
  unfold Hub.setAlt; simp

@[simp] theorem Hub.openStaging_keeps (h : Hub) :
    (Hub.openStaging h).host.sram = h.host.sram ∧ (Hub.openStaging h).time.ltc = h.time.ltc := by
  unfold Hub.openStaging; simp

@[simp] theorem Hub.loadTable_keeps (h : Hub) (x2 : List Byte) :
    (Hub.loadTable h x2).host.sram = h.host.sram ∧ (Hub.loadTable h x2).time.ltc = h.time.ltc := by
  unfold Hub.loadTable; simp

@[simp] theorem Hub.loadValue_keeps (h : Hub) (x2 : Nat) (x3 : Val) :
    (Hub.loadValue h x2 x3).2.host.sram = h.host.sram ∧ (Hub.loadValue h x2 x3).2.time.ltc = h.time.ltc := by
  unfold Hub.loadValue; (repeat' split) <;> simp

@[simp] theorem Hub.seqRunAt_keeps (h : Hub) (x2 : Nat) (x3 : Nat) :
    (Hub.seqRunAt h x2 x3).host.sram = h.host.sram ∧ (Hub.seqRunAt h x2 x3).time.ltc = h.time.ltc := by
  unfold Hub.seqRunAt; simp

@[simp] theorem Hub.startPin_keeps (h : Hub) (x2 x3 : Nat) :
    (Hub.startPin h x2 x3).host.sram = h.host.sram ∧ (Hub.startPin h x2 x3).time.ltc = h.time.ltc := by
  unfold Hub.startPin; (repeat' split) <;> simp

@[simp] theorem Hub.seqStart_keeps (h : Hub) (x2 : Nat) :
    (Hub.seqStart h x2).host.sram = h.host.sram ∧ (Hub.seqStart h x2).time.ltc = h.time.ltc := by
  unfold Hub.seqStart; simp

@[simp] theorem Hub.setLane_keeps (h : Hub) (x2 : Bool) (x3 : Lane) :
    (Hub.setLane h x2 x3).host.sram = h.host.sram ∧ (Hub.setLane h x2 x3).time.ltc = h.time.ltc := by
  unfold Hub.setLane; simp

@[simp] theorem Hub.toLane_keeps (h : Hub) (x2 : Bool) (x3 : RingFrame) :
    (Hub.toLane h x2 x3).host.sram = h.host.sram ∧ (Hub.toLane h x2 x3).time.ltc = h.time.ltc := by
  unfold Hub.toLane; split <;> simp
@[simp] theorem Hub.nextFree_keeps (h : Hub) :
    (Hub.nextFree h).host.sram = h.host.sram ∧ (Hub.nextFree h).time.ltc = h.time.ltc := by
  unfold Hub.nextFree; simp

@[simp] theorem Hub.sendPortAs_keeps (h : Hub) (x2 : Bool) (x3 : Nat) (x4 : RingFrame) :
    (Hub.sendPortAs h x2 x3 x4).host.sram = h.host.sram ∧ (Hub.sendPortAs h x2 x3 x4).time.ltc = h.time.ltc := by
  first
    | (unfold Hub.sendPortAs; simp)
    | (unfold Hub.sendPortAs; split <;> simp)
    | (unfold Hub.sendPortAs; repeat' split) <;> simp
    | (unfold Hub.sendPortAs; simp; repeat' split) <;> simp
    | (unfold Hub.sendPortAs; simp; repeat' (first | intro _ | split)) <;> simp_all
    | (unfold Hub.sendPortAs; repeat' (first | split | (simp; done))) <;> simp_all

@[simp] theorem Hub.sendJoinReq_keeps (h : Hub) :
    (Hub.sendJoinReq h).host.sram = h.host.sram ∧ (Hub.sendJoinReq h).time.ltc = h.time.ltc := by
  first
    | (unfold Hub.sendJoinReq; simp)
    | (unfold Hub.sendJoinReq; split <;> simp)
    | (unfold Hub.sendJoinReq; repeat' split) <;> simp
    | (unfold Hub.sendJoinReq; simp; repeat' split) <;> simp
    | (unfold Hub.sendJoinReq; simp; repeat' (first | intro _ | split)) <;> simp_all
    | (unfold Hub.sendJoinReq; repeat' (first | split | (simp; done))) <;> simp_all

@[simp] theorem Hub.recompute_keeps (h x2 : Hub) :
    (Hub.recompute h x2).host.sram = x2.host.sram ∧ (Hub.recompute h x2).time.ltc = x2.time.ltc := by
  unfold Hub.recompute; simp

@[simp] theorem Hub.setSteward_keeps (h : Hub) (x2 : Nat) :
    (Hub.setSteward h x2).host.sram = h.host.sram ∧ (Hub.setSteward h x2).time.ltc = h.time.ltc := by
  first
    | (unfold Hub.setSteward; simp)
    | (unfold Hub.setSteward; split <;> simp)
    | (unfold Hub.setSteward; repeat' split) <;> simp
    | (unfold Hub.setSteward; simp; repeat' split) <;> simp
    | (unfold Hub.setSteward; simp; repeat' (first | intro _ | split)) <;> simp_all
    | (unfold Hub.setSteward; repeat' (first | split | (simp; done))) <;> simp_all

@[simp] theorem Hub.breakNotices_keeps (h : Hub) (x2 : Nat) (x3 : Nat) :
    (Hub.breakNotices h x2 x3).host.sram = h.host.sram ∧ (Hub.breakNotices h x2 x3).time.ltc = h.time.ltc := by
  first
    | (unfold Hub.breakNotices; simp)
    | (unfold Hub.breakNotices; split <;> simp)
    | (unfold Hub.breakNotices; repeat' split) <;> simp
    | (unfold Hub.breakNotices; simp; repeat' split) <;> simp
    | (unfold Hub.breakNotices; simp; repeat' (first | intro _ | split)) <;> simp_all
    | (unfold Hub.breakNotices; repeat' (first | split | (simp; done))) <;> simp_all

@[simp] theorem Hub.rerouted_keeps (h n : Hub) :
    (Hub.rerouted h n).host.sram = n.host.sram ∧ (Hub.rerouted h n).time.ltc = n.time.ltc := by
  unfold Hub.rerouted; simp
@[simp] theorem Hub.becomeSteward_keeps (h : Hub) :
    (Hub.becomeSteward h).host.sram = h.host.sram ∧ (Hub.becomeSteward h).time.ltc = h.time.ltc := by
  first
    | (unfold Hub.becomeSteward; simp)
    | (unfold Hub.becomeSteward; split <;> simp)
    | (unfold Hub.becomeSteward; repeat' split) <;> simp
    | (unfold Hub.becomeSteward; simp; repeat' split) <;> simp
    | (unfold Hub.becomeSteward; simp; repeat' (first | intro _ | split)) <;> simp_all
    | (unfold Hub.becomeSteward; repeat' (first | split | (simp; done))) <;> simp_all

@[simp] theorem Hub.joinListenExpired_keeps (h : Hub) :
    (Hub.joinListenExpired h).host.sram = h.host.sram ∧ (Hub.joinListenExpired h).time.ltc = h.time.ltc := by
  unfold Hub.joinListenExpired; simp

@[simp] theorem Hub.exportStart_keeps (h : Hub) (x2 : Nat) :
    (Hub.exportStart h x2).host.sram = h.host.sram ∧ (Hub.exportStart h x2).time.ltc = h.time.ltc := by
  unfold Hub.exportStart; simp

@[simp] theorem Hub.gocbHand_keeps (h : Hub) (x2 : Nat) (x3 : Bool) :
    (Hub.gocbHand h x2 x3).host.sram = h.host.sram ∧ (Hub.gocbHand h x2 x3).time.ltc = h.time.ltc := by
  unfold Hub.gocbHand; simp

@[simp] theorem Hub.gocbNewState_keeps (h : Hub) (x2 : Nat) (x3 : Nat) (x4 : Nat) :
    (Hub.gocbNewState h x2 x3 x4).host.sram = h.host.sram ∧ (Hub.gocbNewState h x2 x3 x4).time.ltc = h.time.ltc := by
  unfold Hub.gocbNewState; simp

@[simp] theorem Hub.gocbMerge_keeps (h : Hub) (x2 : Nat) (x3 : Nat) :
    (Hub.gocbMerge h x2 x3).host.sram = h.host.sram ∧ (Hub.gocbMerge h x2 x3).time.ltc = h.time.ltc := by
  unfold Hub.gocbMerge; simp

@[simp] theorem Hub.gocbUpdate_keeps (h : Hub) (x2 x3 : Nat) (x4 : List Byte → Bool) :
    (Hub.gocbUpdate h x2 x3 x4).host.sram = h.host.sram ∧ (Hub.gocbUpdate h x2 x3 x4).time.ltc = h.time.ltc := by
  unfold Hub.gocbUpdate; simp

@[simp] theorem Hub.gocbUpdateAll_keeps (h : Hub) (x2 : Nat) (x3 : List Byte → Bool) :
    (Hub.gocbUpdateAll h x2 x3).host.sram = h.host.sram ∧ (Hub.gocbUpdateAll h x2 x3).time.ltc = h.time.ltc := by
  unfold Hub.gocbUpdateAll; simp

@[simp] theorem Hub.takeService_keeps {h h' : Hub} {p : Delivered → Bool} {d : Delivered} (e : h.takeService p = some (d, h')) :
    h'.host.sram = h.host.sram ∧ h'.time.ltc = h.time.ltc := by
  unfold Hub.takeService at e
  dsimp only at e
  split at e
  · cases e
  · cases e; simp

@[simp] theorem Hub.gooseLedger_keeps (h : Hub) :
    (h.gooseLedger).host.sram = h.host.sram ∧ (h.gooseLedger).time.ltc = h.time.ltc := by
  unfold Hub.gooseLedger
  split
  · simp
  · next e =>
    dsimp only
    split
    · simp [Hub.takeService_keeps e]
    · simp [Hub.takeService_keeps e]

@[simp] theorem Hub.mergeBreak_keeps (h : Hub) (x2 : Bool) (x3 : Nat) :
    (Hub.mergeBreak h x2 x3).host.sram = h.host.sram ∧ (Hub.mergeBreak h x2 x3).time.ltc = h.time.ltc := by
  first
    | (unfold Hub.mergeBreak; simp)
    | (unfold Hub.mergeBreak; split <;> simp)
    | (unfold Hub.mergeBreak; repeat' split) <;> simp
    | (unfold Hub.mergeBreak; simp; repeat' split) <;> simp
    | (unfold Hub.mergeBreak; simp; repeat' (first | intro _ | split)) <;> simp_all
    | (unfold Hub.mergeBreak; repeat' (first | split | (simp; done))) <;> simp_all

@[simp] theorem Hub.transit_keeps (h : Hub) (x2 : Bool) (x3 : RingFrame) :
    (Hub.transit h x2 x3).host.sram = h.host.sram ∧ (Hub.transit h x2 x3).time.ltc = h.time.ltc := by
  unfold Hub.transit; simp

@[simp] theorem Hub.transitOut_keeps (h : Hub) (x2 : Bool) (x3 : RingFrame) :
    (Hub.transitOut h x2 x3).host.sram = h.host.sram ∧ (Hub.transitOut h x2 x3).time.ltc = h.time.ltc := by
  first
    | (unfold Hub.transitOut; simp)
    | (unfold Hub.transitOut; split <;> simp)
    | (unfold Hub.transitOut; repeat' split) <;> simp
    | (unfold Hub.transitOut; simp; repeat' split) <;> simp
    | (unfold Hub.transitOut; simp; repeat' (first | intro _ | split)) <;> simp_all
    | (unfold Hub.transitOut; repeat' (first | split | (simp; done))) <;> simp_all

@[simp] theorem Hub.passOn_keeps (h : Hub) (x2 : Bool) (x3 : Bool) (x4 : RingFrame) :
    (Hub.passOn h x2 x3 x4).host.sram = h.host.sram ∧ (Hub.passOn h x2 x3 x4).time.ltc = h.time.ltc := by
  first
    | (unfold Hub.passOn; simp)
    | (unfold Hub.passOn; split <;> simp)
    | (unfold Hub.passOn; repeat' split) <;> simp
    | (unfold Hub.passOn; simp; repeat' split) <;> simp
    | (unfold Hub.passOn; simp; repeat' (first | intro _ | split)) <;> simp_all
    | (unfold Hub.passOn; repeat' (first | split | (simp; done))) <;> simp_all

@[simp] theorem Hub.ridge_keeps (h : Hub) (x2 : Bool) (x3 : RingFrame) :
    (Hub.ridge h x2 x3).host.sram = h.host.sram ∧ (Hub.ridge h x2 x3).time.ltc = h.time.ltc := by
  unfold Hub.ridge; simp

@[simp] theorem Hub.countCrc_keeps (h : Hub) (x2 : Bool) (x3 : Crc) :
    (Hub.countCrc h x2 x3).host.sram = h.host.sram ∧ (Hub.countCrc h x2 x3).time.ltc = h.time.ltc := by
  unfold Hub.countCrc; (repeat' split) <;> simp

@[simp] theorem Hub.frameArrives_keeps (h : Hub) (x2 : Bool) (x3 : RingFrame) :
    (Hub.frameArrives h x2 x3).2.host.sram = h.host.sram ∧ (Hub.frameArrives h x2 x3).2.time.ltc = h.time.ltc := by
  first
    | (unfold Hub.frameArrives; simp)
    | (unfold Hub.frameArrives; split <;> simp)
    | (unfold Hub.frameArrives; repeat' split) <;> simp
    | (unfold Hub.frameArrives; simp; repeat' split) <;> simp
    | (unfold Hub.frameArrives; simp; repeat' (first | intro _ | split)) <;> simp_all
    | (unfold Hub.frameArrives; repeat' (first | split | (simp; done))) <;> simp_all

@[simp] theorem Hub.extract_keeps (h : Hub) (x2 : RingFrame) :
    (Hub.extract h x2).2.host.sram = h.host.sram ∧ (Hub.extract h x2).2.time.ltc = h.time.ltc := by
  first
    | (unfold Hub.extract; simp)
    | (unfold Hub.extract; split <;> simp)
    | (unfold Hub.extract; repeat' split) <;> simp
    | (unfold Hub.extract; simp; repeat' split) <;> simp
    | (unfold Hub.extract; simp; repeat' (first | intro _ | split)) <;> simp_all
    | (unfold Hub.extract; repeat' (first | split | (simp; done))) <;> simp_all

@[simp] theorem Hub.receive_keeps (h : Hub) (x2 : Bool) (x3 : RingFrame) :
    (Hub.receive h x2 x3).2.host.sram = h.host.sram ∧ (Hub.receive h x2 x3).2.time.ltc = h.time.ltc := by
  unfold Hub.receive; simp

@[simp] theorem Hub.brkRx_keeps (h : Hub) (x2 : Bool) (x3 : RingFrame) :
    (Hub.brkRx h x2 x3).host.sram = h.host.sram ∧ (Hub.brkRx h x2 x3).time.ltc = h.time.ltc := by
  unfold Hub.brkRx; simp

@[simp] theorem Hub.seqGo_keeps (h : Hub) (x2 : Nat) :
    (Hub.seqGo h x2).host.sram = h.host.sram ∧ (Hub.seqGo h x2).time.ltc = h.time.ltc := by
  unfold Hub.seqGo; simp

@[simp] theorem Hub.abortSwap_keeps (h : Hub) (x2 : Nat) :
    (Hub.abortSwap h x2).host.sram = h.host.sram ∧ (Hub.abortSwap h x2).time.ltc = h.time.ltc := by
  unfold Hub.abortSwap; simp

@[simp] theorem Hub.takeClaim_keeps (h : Hub) (x2 : Persist) :
    (Hub.takeClaim h x2).2.host.sram = h.host.sram ∧ (Hub.takeClaim h x2).2.time.ltc = h.time.ltc := by
  unfold Hub.takeClaim; simp

@[simp] theorem Hub.swapCollides_keeps (h : Hub) :
    (Hub.swapCollides h).host.sram = h.host.sram ∧ (Hub.swapCollides h).time.ltc = h.time.ltc := by
  unfold Hub.swapCollides; simp

@[simp] theorem Hub.startSwap_keeps (h : Hub) :
    (Hub.startSwap h).host.sram = h.host.sram ∧ (Hub.startSwap h).time.ltc = h.time.ltc := by
  unfold Hub.startSwap; simp

@[simp] theorem Hub.dropSwap_keeps (h : Hub) :
    (Hub.dropSwap h).host.sram = h.host.sram ∧ (Hub.dropSwap h).time.ltc = h.time.ltc := by
  unfold Hub.dropSwap; simp

@[simp] theorem Hub.handover_keeps (h : Hub) (x2 : Nat) :
    (Hub.handover h x2).host.sram = h.host.sram ∧ (Hub.handover h x2).time.ltc = h.time.ltc := by
  unfold Hub.handover; dsimp only; split
  · simp
  · split
    · next e =>
        have hk := congrArg Prod.snd e
        dsimp only at hk
        rw [← hk]; simp
    · next e =>
        have hk := congrArg Prod.snd e
        dsimp only at hk
        rw [← hk]; simp

@[simp] theorem Hub.swapFrame_keeps (h : Hub) (x2 : Nat) (x3 : Nat) :
    (Hub.swapFrame h x2 x3).host.sram = h.host.sram ∧ (Hub.swapFrame h x2 x3).time.ltc = h.time.ltc := by
  unfold Hub.swapFrame; dsimp only; split <;> first | (simp; done) | ((repeat' split) <;> simp)

@[simp] theorem Hub.compareNothing_keeps (h : Hub) :
    (Hub.compareNothing h).host.sram = h.host.sram ∧ (Hub.compareNothing h).time.ltc = h.time.ltc := by
  unfold Hub.compareNothing; simp

@[simp] theorem Hub.peerDigest_keeps (h : Hub) (x2 : Nat) :
    (Hub.peerDigest h x2).host.sram = h.host.sram ∧ (Hub.peerDigest h x2).time.ltc = h.time.ltc := by
  unfold Hub.peerDigest; simp

@[simp] theorem Hub.raiseRecord_keeps (h : Hub) (x2 : Nat) (x3 : Nat) :
    (Hub.raiseRecord h x2 x3).host.sram = h.host.sram ∧ (Hub.raiseRecord h x2 x3).time.ltc = h.time.ltc := by
  unfold Hub.raiseRecord; simp

@[simp] theorem Hub.setWindow_keeps (h : Hub) (x2 : Nat) (x3 : Nat) (x4 : SeqWindow) :
    (Hub.setWindow h x2 x3 x4).host.sram = h.host.sram ∧ (Hub.setWindow h x2 x3 x4).time.ltc = h.time.ltc := by
  unfold Hub.setWindow; simp

@[simp] theorem Hub.windowPass_keeps (h : Hub) (x2 : RingFrame) :
    (Hub.windowPass h x2).2.host.sram = h.host.sram ∧ (Hub.windowPass h x2).2.time.ltc = h.time.ltc := by
  unfold Hub.windowPass; (repeat' split) <;> simp

@[simp] theorem Hub.heartbeatRaises_keeps (h : Hub) (x2 x3 : Nat) :
    (Hub.heartbeatRaises h x2 x3).host.sram = h.host.sram ∧ (Hub.heartbeatRaises h x2 x3).time.ltc = h.time.ltc := by
  unfold Hub.heartbeatRaises; simp

@[simp] theorem Hub.claimRx_keeps (h : Hub) (x2 : Bool) (x3 : RingFrame) (x4 : Nat) :
    (Hub.claimRx h x2 x3 x4).host.sram = h.host.sram ∧ (Hub.claimRx h x2 x3 x4).time.ltc = h.time.ltc := by
  unfold Hub.claimRx; simp

@[simp] theorem Hub.boutAct_keeps (h : Hub) (x2 x3 x4 : Nat) :
    (Hub.boutAct h x2 x3 x4).host.sram = h.host.sram ∧ (Hub.boutAct h x2 x3 x4).time.ltc = h.time.ltc := by
  unfold Hub.boutAct; simp

@[simp] theorem Hub.boutUndo_keeps (h : Hub) (x2 : Nat) :
    (Hub.boutUndo h x2).host.sram = h.host.sram ∧ (Hub.boutUndo h x2).time.ltc = h.time.ltc := by
  unfold Hub.boutUndo; simp

@[simp] theorem Hub.boutOnly_keeps (h : Hub) (x2 : Nat) (x3 : List Byte) :
    (Hub.boutOnly h x2 x3).host.sram = h.host.sram ∧ (Hub.boutOnly h x2 x3).time.ltc = h.time.ltc := by
  unfold Hub.boutOnly; simp only; (repeat' split) <;> simp

@[simp] theorem Hub.boutCommand_keeps (h : Hub) (x2 : Nat) (x3 : List Byte) :
    (Hub.boutCommand h x2 x3).host.sram = h.host.sram ∧ (Hub.boutCommand h x2 x3).time.ltc = h.time.ltc := by
  unfold Hub.boutCommand; simp

@[simp] theorem Hub.tailDrop_keeps (h : Hub) (x2 : Nat) (x3 : Nat) :
    (Hub.tailDrop h x2 x3).host.sram = h.host.sram ∧ (Hub.tailDrop h x2 x3).time.ltc = h.time.ltc := by
  unfold Hub.tailDrop; simp

@[simp] theorem Hub.admitCopies_keeps (h : Hub) (x2 : Nat) (x3 : Nat) (x4 : List SwCopy) :
    (Hub.admitCopies h x2 x3 x4).2.host.sram = h.host.sram ∧ (Hub.admitCopies h x2 x3 x4).2.time.ltc = h.time.ltc := by
  induction x4 generalizing h with
  | nil => simp [Hub.admitCopies]
  | cons c cs ih => unfold Hub.admitCopies; dsimp only; (repeat' split) <;> simp [ih]

@[simp] theorem Hub.crossCore_keeps (h : Hub) (x2 : Nat) (x3 : Nat) (x4 : RingFrame) :
    (Hub.crossCore h x2 x3 x4).2.host.sram = h.host.sram ∧ (Hub.crossCore h x2 x3 x4).2.time.ltc = h.time.ltc := by
  first
    | (unfold Hub.crossCore; simp)
    | (unfold Hub.crossCore; split <;> simp)
    | (unfold Hub.crossCore; repeat' split) <;> simp
    | (unfold Hub.crossCore; simp; repeat' split) <;> simp
    | (unfold Hub.crossCore; simp; repeat' (first | intro _ | split)) <;> simp_all
    | (unfold Hub.crossCore; repeat' (first | split | (simp; done))) <;> simp_all

@[simp] theorem Hub.applyCmd_keeps (h : Hub) (x2 : Bool) (x3 : RingFrame) :
    (Hub.applyCmd h x2 x3).host.sram = h.host.sram ∧ (Hub.applyCmd h x2 x3).time.ltc = h.time.ltc := by
  first
    | (unfold Hub.applyCmd; simp)
    | (unfold Hub.applyCmd; split <;> simp)
    | (unfold Hub.applyCmd; repeat' split) <;> simp
    | (unfold Hub.applyCmd; simp; repeat' split) <;> simp
    | (unfold Hub.applyCmd; simp; repeat' (first | intro _ | split)) <;> simp_all
    | (unfold Hub.applyCmd; repeat' (first | split | (simp; done))) <;> simp_all

@[simp] theorem Hub.setDupOut_keeps (h : Hub) (x2 : Nat) (x3 : DupOut) :
    (Hub.setDupOut h x2 x3).host.sram = h.host.sram ∧ (Hub.setDupOut h x2 x3).time.ltc = h.time.ltc := by
  unfold Hub.setDupOut; simp

@[simp] theorem Hub.compareCmd_keeps (h : Hub) (x2 : Bool) (x3 : Nat) (x4 : List Byte) :
    (Hub.compareCmd h x2 x3 x4).host.sram = h.host.sram ∧ (Hub.compareCmd h x2 x3 x4).time.ltc = h.time.ltc := by
  unfold Hub.compareCmd; simp

@[simp] theorem Hub.snoop_keeps (h : Hub) (x2 : RingFrame) :
    (Hub.snoop h x2).host.sram = h.host.sram ∧ (Hub.snoop h x2).time.ltc = h.time.ltc := by
  unfold Hub.snoop; simp

@[simp] theorem Hub.ridgePass_keeps (h : Hub) (x2 : Bool) (x3 : RingFrame) :
    (Hub.ridgePass h x2 x3).host.sram = h.host.sram ∧ (Hub.ridgePass h x2 x3).time.ltc = h.time.ltc := by
  unfold Hub.ridgePass; simp

@[simp] theorem Hub.cmdFrame_keeps (h : Hub) (x2 : Bool) (x3 : RingFrame) :
    (Hub.cmdFrame h x2 x3).host.sram = h.host.sram ∧ (Hub.cmdFrame h x2 x3).time.ltc = h.time.ltc := by
  unfold Hub.cmdFrame; simp

@[simp] theorem Hub.sendBehind_keeps (h : Hub) (x2 : AtomicOp) :
    (Hub.sendBehind h x2).host.sram = h.host.sram ∧ (Hub.sendBehind h x2).time.ltc = h.time.ltc := by
  unfold Hub.sendBehind
  dsimp only
  split
  · simp
  · constructor
    · rw [foldl_sram _ (fun h x => by simp)]
    · rw [foldl_ltc _ (fun h x => by simp)]
@[simp] theorem Hub.startLock_keeps (h : Hub) (x2 : AtomicOp) :
    (Hub.startLock h x2).host.sram = h.host.sram ∧ (Hub.startLock h x2).time.ltc = h.time.ltc := by
  unfold Hub.startLock; simp

@[simp] theorem Hub.nextAtomic_keeps (h : Hub) :
    (Hub.nextAtomic h).host.sram = h.host.sram ∧ (Hub.nextAtomic h).time.ltc = h.time.ltc := by
  unfold Hub.nextAtomic; (repeat' split) <;> simp

@[simp] theorem Hub.lockRetry_keeps (h : Hub) :
    (Hub.lockRetry h).host.sram = h.host.sram ∧ (Hub.lockRetry h).time.ltc = h.time.ltc := by
  unfold Hub.lockRetry; (repeat' split) <;> simp

@[simp] theorem Hub.powerEvent_keeps (h : Hub) (x2 : Nat) (x3 : Nat) (x4 : Option (Nat × List Nat)) :
    (Hub.powerEvent h x2 x3 x4).host.sram = h.host.sram ∧ (Hub.powerEvent h x2 x3 x4).time.ltc = h.time.ltc := by
  unfold Hub.powerEvent; simp

@[simp] theorem Hub.sourceOff_keeps (h : Hub) :
    (Hub.sourceOff h).host.sram = h.host.sram ∧ (Hub.sourceOff h).time.ltc = h.time.ltc := by
  unfold Hub.sourceOff; simp

@[simp] theorem Hub.withdrawPg_keeps (h : Hub) :
    (Hub.withdrawPg h).host.sram = h.host.sram ∧ (Hub.withdrawPg h).time.ltc = h.time.ltc := by
  unfold Hub.withdrawPg; simp

@[simp] theorem Hub.gateOff_keeps (h : Hub) (x2 : Nat) :
    (Hub.gateOff h x2).host.sram = h.host.sram ∧ (Hub.gateOff h x2).time.ltc = h.time.ltc := by
  unfold Hub.gateOff; simp

@[simp] theorem Hub.waitSeat_keeps (h : Hub) :
    (Hub.waitSeat h).host.sram = h.host.sram ∧ (Hub.waitSeat h).time.ltc = h.time.ltc := by
  unfold Hub.waitSeat; simp

@[simp] theorem Hub.followSupply_keeps (h : Hub) :
    (Hub.followSupply h).host.sram = h.host.sram ∧ (Hub.followSupply h).time.ltc = h.time.ltc := by
  unfold Hub.followSupply; simp

@[simp] theorem Hub.showFeeds_keeps (h : Hub) :
    (Hub.showFeeds h).host.sram = h.host.sram ∧ (Hub.showFeeds h).time.ltc = h.time.ltc := by
  unfold Hub.showFeeds; simp

@[simp] theorem Hub.setGates_keeps (h : Hub) (x2 : Bool) (x3 : Bool) (x4 : Nat) :
    (Hub.setGates h x2 x3 x4).host.sram = h.host.sram ∧ (Hub.setGates h x2 x3 x4).time.ltc = h.time.ltc := by
  unfold Hub.setGates; simp

@[simp] theorem Hub.selectFeed_keeps (h : Hub) :
    (Hub.selectFeed h).host.sram = h.host.sram ∧ (Hub.selectFeed h).time.ltc = h.time.ltc := by
  unfold Hub.selectFeed; simp

@[simp] theorem Hub.preferA_keeps (h : Hub) :
    (Hub.preferA h).host.sram = h.host.sram ∧ (Hub.preferA h).time.ltc = h.time.ltc := by
  unfold Hub.preferA; simp

@[simp] theorem Hub.combine_keeps (h : Hub) :
    (Hub.combine h).host.sram = h.host.sram ∧ (Hub.combine h).time.ltc = h.time.ltc := by
  unfold Hub.combine; simp

@[simp] theorem Hub.feedEvent_keeps (h : Hub) (x2 : Nat) (x3 : Nat) (x4 : Bool) :
    (Hub.feedEvent h x2 x3 x4).host.sram = h.host.sram ∧ (Hub.feedEvent h x2 x3 x4).time.ltc = h.time.ltc := by
  unfold Hub.feedEvent; simp

@[simp] theorem Hub.feedLost_keeps (h : Hub) (x2 : Bool) (x3 : Nat) :
    (Hub.feedLost h x2 x3).host.sram = h.host.sram ∧ (Hub.feedLost h x2 x3).time.ltc = h.time.ltc := by
  unfold Hub.feedLost; simp

@[simp] theorem Hub.seqNext_keeps (h : Hub) (x2 : Nat) (x3 : Nat) (x4 : Nat) (x5 : Option Nat) :
    (Hub.seqNext h x2 x3 x4 x5).host.sram = h.host.sram ∧ (Hub.seqNext h x2 x3 x4 x5).time.ltc = h.time.ltc := by
  unfold Hub.seqNext; simp

@[simp] theorem Hub.seqSignal_keeps (h : Hub) (x2 : Nat) (x3 : Nat) :
    (Hub.seqSignal h x2 x3).host.sram = h.host.sram ∧ (Hub.seqSignal h x2 x3).time.ltc = h.time.ltc := by
  unfold Hub.seqSignal; simp

@[simp] theorem Hub.seqFlag_keeps (h : Hub) (x2 : Nat) (x3 : Nat) (x4 : Bool) :
    (Hub.seqFlag h x2 x3 x4).host.sram = h.host.sram ∧ (Hub.seqFlag h x2 x3 x4).time.ltc = h.time.ltc := by
  unfold Hub.seqFlag; simp

@[simp] theorem Hub.seqDo_keeps (h : Hub) (s : Nat) (k : Nat → Bool) (f : Hub → Nat → Hub)
    (hf : ∀ h i, (f h i).host.sram = h.host.sram ∧ (f h i).time.ltc = h.time.ltc) :
    (h.seqDo s k f).host.sram = h.host.sram ∧ (h.seqDo s k f).time.ltc = h.time.ltc := by
  unfold Hub.seqDo; simp [hf]

@[simp] theorem Hub.seqFlagOp_keeps (h : Hub) (x2 : Nat) (x3 : Nat) :
    (Hub.seqFlagOp h x2 x3).host.sram = h.host.sram ∧ (Hub.seqFlagOp h x2 x3).time.ltc = h.time.ltc := by
  unfold Hub.seqFlagOp; (repeat' split) <;> simp

@[simp] theorem Hub.seqClock_keeps (h : Hub) (x2 : Nat) (x3 : Bool) (x4 : Bool) :
    (Hub.seqClock h x2 x3 x4).host.sram = h.host.sram ∧ (Hub.seqClock h x2 x3 x4).time.ltc = h.time.ltc := by
  unfold Hub.seqClock; simp

@[simp] theorem Hub.emitStep_keeps (h : Hub) (x2 : Nat) (x3 : Bool) :
    (Hub.emitStep h x2 x3).host.sram = h.host.sram ∧ (Hub.emitStep h x2 x3).time.ltc = h.time.ltc := by
  unfold Hub.emitStep; simp

@[simp] theorem Hub.emitSteps_keeps (h : Hub) (x2 : Nat) (x3 : Bool) (x4 : Nat) :
    (Hub.emitSteps h x2 x3 x4).host.sram = h.host.sram ∧ (Hub.emitSteps h x2 x3 x4).time.ltc = h.time.ltc := by
  induction x4 generalizing h with
  | zero => simp [Hub.emitSteps]
  | succ n ih => unfold Hub.emitSteps; simp [ih]

@[simp] theorem Hub.freeFetch_keeps (h : Hub) (x2 : Nat) :
    (Hub.freeFetch h x2).host.sram = h.host.sram ∧ (Hub.freeFetch h x2).time.ltc = h.time.ltc := by
  unfold Hub.freeFetch; simp

@[simp] theorem Hub.respondTxn_keeps (h : Hub) (x2 : RingFrame) (x3 : Nat) (x4 : Nat) (x5 : List Byte) :
    (Hub.respondTxn h x2 x3 x4 x5).host.sram = h.host.sram ∧ (Hub.respondTxn h x2 x3 x4 x5).time.ltc = h.time.ltc := by
  unfold Hub.respondTxn; simp

@[simp] theorem Hub.aer_keeps (h : Hub) (x2 : Nat) (x3 : Bool) :
    (Hub.aer h x2 x3).host.sram = h.host.sram ∧ (Hub.aer h x2 x3).time.ltc = h.time.ltc := by
  first
    | (unfold Hub.aer; simp)
    | (unfold Hub.aer; split <;> simp)
    | (unfold Hub.aer; repeat' split) <;> simp
    | (unfold Hub.aer; simp; repeat' split) <;> simp
    | (unfold Hub.aer; simp; repeat' (first | intro _ | split)) <;> simp_all
    | (unfold Hub.aer; repeat' (first | split | (simp; done))) <;> simp_all

@[simp] theorem Hub.completerAbort_keeps (h : Hub) :
    (Hub.completerAbort h).host.sram = h.host.sram ∧ (Hub.completerAbort h).time.ltc = h.time.ltc := by
  first
    | (unfold Hub.completerAbort; simp)
    | (unfold Hub.completerAbort; split <;> simp)
    | (unfold Hub.completerAbort; repeat' split) <;> simp
    | (unfold Hub.completerAbort; simp; repeat' split) <;> simp
    | (unfold Hub.completerAbort; simp; repeat' (first | intro _ | split)) <;> simp_all
    | (unfold Hub.completerAbort; repeat' (first | split | (simp; done))) <;> simp_all

@[simp] theorem Hub.holdRequest_keeps (h : Hub) (x2 : Waiting) :
    (Hub.holdRequest h x2).host.sram = h.host.sram ∧ (Hub.holdRequest h x2).time.ltc = h.time.ltc := by
  first
    | (unfold Hub.holdRequest; simp)
    | (unfold Hub.holdRequest; split <;> simp)
    | (unfold Hub.holdRequest; repeat' split) <;> simp
    | (unfold Hub.holdRequest; simp; repeat' split) <;> simp
    | (unfold Hub.holdRequest; simp; repeat' (first | intro _ | split)) <;> simp_all
    | (unfold Hub.holdRequest; repeat' (first | split | (simp; done))) <;> simp_all

@[simp] theorem Hub.unsupported_keeps (h : Hub) :
    (Hub.unsupported h).host.sram = h.host.sram ∧ (Hub.unsupported h).time.ltc = h.time.ltc := by
  first
    | (unfold Hub.unsupported; simp)
    | (unfold Hub.unsupported; split <;> simp)
    | (unfold Hub.unsupported; repeat' split) <;> simp
    | (unfold Hub.unsupported; simp; repeat' split) <;> simp
    | (unfold Hub.unsupported; simp; repeat' (first | intro _ | split)) <;> simp_all
    | (unfold Hub.unsupported; repeat' (first | split | (simp; done))) <;> simp_all

@[simp] theorem Hub.logFault_keeps (h : Hub) (x2 : Nat) (x3 : Nat) (x4 : Nat) (x5 : Nat) (x6 : Nat) (x7 : Nat) :
    (Hub.logFault h x2 x3 x4 x5 x6 x7).host.sram = h.host.sram ∧ (Hub.logFault h x2 x3 x4 x5 x6 x7).time.ltc = h.time.ltc := by
  unfold Hub.logFault; simp

@[simp] theorem Hub.issueRead_keeps (h : Hub) (x2 : ReadPart) :
    (Hub.issueRead h x2).host.sram = h.host.sram ∧ (Hub.issueRead h x2).time.ltc = h.time.ltc := by
  unfold Hub.issueRead; simp

@[simp] theorem Hub.windowRead_keeps (h : Hub) (x2 : Nat) (x3 : Nat) (x4 : Nat) (x5 : Bool) :
    (Hub.windowRead h x2 x3 x4 x5).host.sram = h.host.sram ∧ (Hub.windowRead h x2 x3 x4 x5).time.ltc = h.time.ltc := by
  unfold Hub.windowRead; simp

@[simp] theorem Hub.configRead_keeps (h : Hub) (x2 : Nat) :
    (Hub.configRead h x2).host.sram = h.host.sram ∧ (Hub.configRead h x2).time.ltc = h.time.ltc := by
  unfold Hub.configRead; simp

@[simp] theorem Hub.tcapTake_keeps (h : Hub) (x2 : Nat) :
    (Hub.tcapTake h x2).2.host.sram = h.host.sram ∧ (Hub.tcapTake h x2).2.time.ltc = h.time.ltc := by
  unfold Hub.tcapTake; (repeat' split) <;> simp

@[simp] theorem Hub.ltcLatch_keeps (h : Hub) (x2 : RegPath) :
    (Hub.ltcLatch h x2).2.host.sram = h.host.sram ∧ (Hub.ltcLatch h x2).2.time.ltc = h.time.ltc := by
  unfold Hub.ltcLatch; simp

@[simp] theorem Hub.regRead_keeps (h : Hub) (x2 : RegPath) (x3 : Nat) :
    (Hub.regRead h x2 x3).2.host.sram = h.host.sram ∧ (Hub.regRead h x2 x3).2.time.ltc = h.time.ltc := by
  unfold Hub.regRead; simp

@[simp] theorem Hub.qportRead_keeps (h : Hub) (x2 : Nat) (x3 : Bool) :
    (Hub.qportRead h x2 x3).2.host.sram = h.host.sram ∧ (Hub.qportRead h x2 x3).2.time.ltc = h.time.ltc := by
  unfold Hub.qportRead; simp; (repeat' split) <;> simp

@[simp] theorem Hub.regBytes_keeps (h : Hub) (path : RegPath) (x2 : Nat) (x3 : Nat) (x4 : Nat) :
    (Hub.regBytes h path x2 x3 x4).2.host.sram = h.host.sram ∧ (Hub.regBytes h path x2 x3 x4).2.time.ltc = h.time.ltc := by
  induction x2 generalizing h x3 x4 with
  | zero => simp [Hub.regBytes]
  | succ n ih =>
    unfold Hub.regBytes; dsimp only; split
    · simp
    · split <;> simp [ih]

@[simp] theorem Hub.registerRead_keeps (h : Hub) (x2 : Nat) (x3 : Nat) :
    (Hub.registerRead h x2 x3).host.sram = h.host.sram ∧ (Hub.registerRead h x2 x3).time.ltc = h.time.ltc := by
  unfold Hub.registerRead; simp

@[simp] theorem Hub.sramRead_keeps (h : Hub) (x2 : Nat) (x3 : Nat) :
    (Hub.sramRead h x2 x3).host.sram = h.host.sram ∧ (Hub.sramRead h x2 x3).time.ltc = h.time.ltc := by
  first
    | (unfold Hub.sramRead; simp)
    | (unfold Hub.sramRead; split <;> simp)
    | (unfold Hub.sramRead; repeat' split) <;> simp
    | (unfold Hub.sramRead; simp; repeat' split) <;> simp
    | (unfold Hub.sramRead; simp; repeat' (first | intro _ | split)) <;> simp_all
    | (unfold Hub.sramRead; repeat' (first | split | (simp; done))) <;> simp_all

@[simp] theorem Hub.hostRead_keeps (h : Hub) (x2 : HostBar) (x3 x4 : Nat) (x5 : Bool) :
    (Hub.hostRead h x2 x3 x4 x5).host.sram = h.host.sram ∧ (Hub.hostRead h x2 x3 x4 x5).time.ltc = h.time.ltc := by
  unfold Hub.hostRead; (repeat' split) <;> first | exact ⟨rfl, rfl⟩ | simp

@[simp] theorem Hub.askHost_keeps (h : Hub) (x2 : Nat) (x3 : Nat) :
    (Hub.askHost h x2 x3).host.sram = h.host.sram ∧ (Hub.askHost h x2 x3).time.ltc = h.time.ltc := by
  unfold Hub.askHost; simp

@[simp] theorem Hub.firstFetch_keeps (h : Hub) (x2 : RingFrame) (x3 : Nat) (x4 : Nat) :
    (Hub.firstFetch h x2 x3 x4).host.sram = h.host.sram ∧ (Hub.firstFetch h x2 x3 x4).time.ltc = h.time.ltc := by
  unfold Hub.firstFetch; simp

@[simp] theorem Hub.apRead_keeps (h : Hub) (x2 : RingFrame) (x3 : Nat) (x4 : Nat) :
    (Hub.apRead h x2 x3 x4).host.sram = h.host.sram ∧ (Hub.apRead h x2 x3 x4).time.ltc = h.time.ltc := by
  unfold Hub.apRead; simp; (repeat' split) <;> simp

@[simp] theorem Hub.wakeSource_keeps (h : Hub) (x2 : Nat) (x3 : Nat) (x4 : Bool) :
    (Hub.wakeSource h x2 x3 x4).host.sram = h.host.sram ∧ (Hub.wakeSource h x2 x3 x4).time.ltc = h.time.ltc := by
  unfold Hub.wakeSource; simp

@[simp] theorem Hub.fireCcNotice_keeps (h : Hub) (x2 : Nat) (x3 : Nat) :
    (Hub.fireCcNotice h x2 x3).host.sram = h.host.sram ∧ (Hub.fireCcNotice h x2 x3).time.ltc = h.time.ltc := by
  unfold Hub.fireCcNotice; simp

@[simp] theorem Hub.setParent_keeps (h : Hub) (x2 : Foreign) (x3 : Bool) :
    (Hub.setParent h x2 x3).host.sram = h.host.sram ∧ (Hub.setParent h x2 x3).time.ltc = h.time.ltc := by
  unfold Hub.setParent; simp

@[simp] theorem Hub.setPortState_keeps (h : Hub) (x2 : Nat) (x3 : Nat) :
    (Hub.setPortState h x2 x3).host.sram = h.host.sram ∧ (Hub.setPortState h x2 x3).time.ltc = h.time.ltc := by
  unfold Hub.setPortState; simp

@[simp] theorem Hub.ptpDecide_keeps (h : Hub) (x2 : Option Nat) :
    (Hub.ptpDecide h x2).host.sram = h.host.sram ∧ (Hub.ptpDecide h x2).time.ltc = h.time.ltc := by
  unfold Hub.ptpDecide; simp; (repeat' split) <;> simp

@[simp] theorem Hub.staFlush_keeps (h : Hub) (x2 : Nat) :
    (Hub.staFlush h x2).host.sram = h.host.sram ∧ (Hub.staFlush h x2).time.ltc = h.time.ltc := by
  unfold Hub.staFlush; simp

@[simp] theorem Hub.staLinkDown_keeps (h : Hub) (x2 : Nat) (x3 : Bool) :
    (Hub.staLinkDown h x2 x3).host.sram = h.host.sram ∧ (Hub.staLinkDown h x2 x3).time.ltc = h.time.ltc := by
  unfold Hub.staLinkDown; simp

@[simp] theorem Hub.queueStart_keeps (h : Hub) (x2 : Nat) :
    (Hub.queueStart h x2).host.sram = h.host.sram ∧ (Hub.queueStart h x2).time.ltc = h.time.ltc := by
  unfold Hub.queueStart; simp

@[simp] theorem Hub.dmaError_keeps (h : Hub) (x2 : Nat) (x3 : Nat) :
    (Hub.dmaError h x2 x3).host.sram = h.host.sram ∧ (Hub.dmaError h x2 x3).time.ltc = h.time.ltc := by
  unfold Hub.dmaError; simp

@[simp] theorem Hub.apWrite_keeps (h : Hub) (x2 : Nat) (x3 : Nat) (x4 : List Byte) :
    (Hub.apWrite h x2 x3 x4).host.sram = h.host.sram ∧ (Hub.apWrite h x2 x3 x4).time.ltc = h.time.ltc := by
  unfold Hub.apWrite; simp

@[simp] theorem Hub.creditViolation_keeps (h : Hub) (x2 : Nat) (x3 : Nat) :
    (Hub.creditViolation h x2 x3).host.sram = h.host.sram ∧ (Hub.creditViolation h x2 x3).time.ltc = h.time.ltc := by
  unfold Hub.creditViolation; simp

@[simp] theorem Hub.setTout_keeps (h : Hub) (x2 : Nat) (x3 : Bool) (x4 : Nat) :
    (Hub.setTout h x2 x3 x4).host.sram = h.host.sram ∧ (Hub.setTout h x2 x3 x4).time.ltc = h.time.ltc := by
  first
    | (unfold Hub.setTout; simp)
    | (unfold Hub.setTout; split <;> simp)
    | (unfold Hub.setTout; repeat' split) <;> simp
    | (unfold Hub.setTout; simp; repeat' split) <;> simp
    | (unfold Hub.setTout; simp; repeat' (first | intro _ | split)) <;> simp_all
    | (unfold Hub.setTout; repeat' (first | split | (simp; done))) <;> simp_all

@[simp] theorem Hub.driveTout_keeps (h : Hub) (x2 : Nat) (x3 : Bool) (x4 : Nat) :
    (Hub.driveTout h x2 x3 x4).host.sram = h.host.sram ∧ (Hub.driveTout h x2 x3 x4).time.ltc = h.time.ltc := by
  unfold Hub.driveTout; simp

@[simp] theorem Hub.deliver_keeps (h : Hub) (x2 : Nat) (x3 : Delivered) :
    (Hub.deliver h x2 x3).host.sram = h.host.sram ∧ (Hub.deliver h x2 x3).time.ltc = h.time.ltc := by
  unfold Hub.deliver; simp

@[simp] theorem Hub.mirrorPacket_keeps (h : Hub) (x2 : Nat) (x3 : List Byte) :
    (Hub.mirrorPacket h x2 x3).host.sram = h.host.sram ∧ (Hub.mirrorPacket h x2 x3).time.ltc = h.time.ltc := by
  unfold Hub.mirrorPacket; simp

@[simp] theorem Hub.appendCheck_keeps (h : Hub) (x2 : Nat) (x3 : Bool) (x4 : List Byte) :
    (Hub.appendCheck h x2 x3 x4).2.host.sram = h.host.sram ∧ (Hub.appendCheck h x2 x3 x4).2.time.ltc = h.time.ltc := by
  unfold Hub.appendCheck; (repeat' split) <;> simp

@[simp] theorem Hub.askOpen_keeps (h : Hub) (x2 : Nat) (x3 : Option Nat) (x4 : Option (Nat × Nat)) :
    (Hub.askOpen h x2 x3 x4).host.sram = h.host.sram ∧ (Hub.askOpen h x2 x3 x4).time.ltc = h.time.ltc := by
  unfold Hub.askOpen; simp

@[simp] theorem Hub.closePacket_keeps (h : Hub) (x2 : Nat) (x3 : Nat) (x4 : List Nat) (x5 : List Byte) (x6 : Bool) (x7 : Option Nat) (x8 : Option (Nat × Nat)) :
    (Hub.closePacket h x2 x3 x4 x5 x6 x7 x8).host.sram = h.host.sram ∧ (Hub.closePacket h x2 x3 x4 x5 x6 x7 x8).time.ltc = h.time.ltc := by
  unfold Hub.closePacket; simp

@[simp] theorem Hub.openMore_keeps (h : Hub) (x2 : Nat) (x3 : Nat) (x4 : Nat) (x5 : List Nat) (x6 : List Byte) (x7 : Bool) :
    (Hub.openMore h x2 x3 x4 x5 x6 x7).host.sram = h.host.sram ∧ (Hub.openMore h x2 x3 x4 x5 x6 x7).time.ltc = h.time.ltc := by
  unfold Hub.openMore; simp

@[simp] theorem Hub.closeError_keeps (h : Hub) (x2 : Nat) (x3 : Nat) (x4 : Bool) (x5 : List Byte) :
    (Hub.closeError h x2 x3 x4 x5).host.sram = h.host.sram ∧ (Hub.closeError h x2 x3 x4 x5).time.ltc = h.time.ltc := by
  first
    | (unfold Hub.closeError; simp)
    | (unfold Hub.closeError; split <;> simp)
    | (unfold Hub.closeError; repeat' split) <;> simp
    | (unfold Hub.closeError; simp; repeat' split) <;> simp
    | (unfold Hub.closeError; simp; repeat' (first | intro _ | split)) <;> simp_all
    | (unfold Hub.closeError; repeat' (first | split | (simp; done))) <;> simp_all

@[simp] theorem Hub.acceptItem_keeps (h : Hub) (x2 : Nat) (x3 : QItem) (x4 : Bool) :
    (Hub.acceptItem h x2 x3 x4).host.sram = h.host.sram ∧ (Hub.acceptItem h x2 x3 x4).time.ltc = h.time.ltc := by
  unfold Hub.acceptItem; simp

@[simp] theorem Hub.portRefused_keeps (h : Hub) (x2 : RegPath) (x3 : Nat) :
    (Hub.portRefused h x2 x3).host.sram = h.host.sram ∧ (Hub.portRefused h x2 x3).time.ltc = h.time.ltc := by
  first
    | (unfold Hub.portRefused; simp)
    | (unfold Hub.portRefused; split <;> simp)
    | (unfold Hub.portRefused; repeat' split) <;> simp
    | (unfold Hub.portRefused; simp; repeat' split) <;> simp
    | (unfold Hub.portRefused; simp; repeat' (first | intro _ | split)) <;> simp_all
    | (unfold Hub.portRefused; repeat' (first | split | (simp; done))) <;> simp_all

@[simp] theorem Hub.qportWrite_keeps (h : Hub) (x2 : RegPath) (x3 : Nat) (x4 : Nat) (x5 : Bool) :
    (Hub.qportWrite h x2 x3 x4 x5).host.sram = h.host.sram ∧ (Hub.qportWrite h x2 x3 x4 x5).time.ltc = h.time.ltc := by
  first
    | (unfold Hub.qportWrite; simp)
    | (unfold Hub.qportWrite; split <;> simp)
    | (unfold Hub.qportWrite; repeat' split) <;> simp
    | (unfold Hub.qportWrite; simp; repeat' split) <;> simp
    | (unfold Hub.qportWrite; simp; repeat' (first | intro _ | split)) <;> simp_all
    | (unfold Hub.qportWrite; repeat' (first | split | (simp; done))) <;> simp_all

@[simp] theorem Hub.setTrig_keeps (h : Hub) (x2 : Nat) (x3 : TrigState) :
    (Hub.setTrig h x2 x3).host.sram = h.host.sram ∧ (Hub.setTrig h x2 x3).time.ltc = h.time.ltc := by
  unfold Hub.setTrig; simp

@[simp] theorem Hub.trigArm_keeps (h : Hub) (x2 : Nat) :
    (Hub.trigArm h x2).2.host.sram = h.host.sram ∧ (Hub.trigArm h x2).2.time.ltc = h.time.ltc := by
  unfold Hub.trigArm; simp

@[simp] theorem Hub.clearTallies_keeps (h : Hub) (x2 : Block) (x3 : Nat) :
    (Hub.clearTallies h x2 x3).host.sram = h.host.sram ∧ (Hub.clearTallies h x2 x3).time.ltc = h.time.ltc := by
  unfold Hub.clearTallies; simp

@[simp] theorem Hub.setCan_keeps (h : Hub) (x2 : Nat) (x3 : Can) :
    (Hub.setCan h x2 x3).host.sram = h.host.sram ∧ (Hub.setCan h x2 x3).time.ltc = h.time.ltc := by
  unfold Hub.setCan; simp

@[simp] theorem Hub.cycleEnds_keeps (h : Hub) (x2 : Nat) (x3 : Nat) :
    (Hub.cycleEnds h x2 x3).host.sram = h.host.sram ∧ (Hub.cycleEnds h x2 x3).time.ltc = h.time.ltc := by
  unfold Hub.cycleEnds; simp

@[simp] theorem Hub.canBegin_keeps (h : Hub) (x2 : Nat) (x3 : Nat) (x4 : Nat) (x5 : Nat) :
    (Hub.canBegin h x2 x3 x4 x5).host.sram = h.host.sram ∧ (Hub.canBegin h x2 x3 x4 x5).time.ltc = h.time.ltc := by
  unfold Hub.canBegin; simp

@[simp] theorem Hub.dupCheck_keeps (h : Hub) (x2 : Nat) (x3 : Nat) :
    (Hub.dupCheck h x2 x3).2.host.sram = h.host.sram ∧ (Hub.dupCheck h x2 x3).2.time.ltc = h.time.ltc := by
  unfold Hub.dupCheck; simp

@[simp] theorem Hub.chanClear_keeps (h : Hub) (x2 : Nat) :
    (Hub.chanClear h x2).host.sram = h.host.sram ∧ (Hub.chanClear h x2).time.ltc = h.time.ltc := by
  unfold Hub.chanClear; simp

@[simp] theorem Hub.setJournal_keeps (h : Hub) (x2 : Nat) :
    (Hub.setJournal h x2).host.sram = h.host.sram ∧ (Hub.setJournal h x2).time.ltc = h.time.ltc := by
  unfold Hub.setJournal; simp

@[simp] theorem Hub.sendCmd_keeps (h : Hub) (x2 : Nat) (x3 : List Byte) :
    (Hub.sendCmd h x2 x3).host.sram = h.host.sram ∧ (Hub.sendCmd h x2 x3).time.ltc = h.time.ltc := by
  unfold Hub.sendCmd; simp

@[simp] theorem Hub.issueCmd_keeps (h : Hub) (x2 : Nat) (x3 : List Byte) :
    (Hub.issueCmd h x2 x3).2.host.sram = h.host.sram ∧ (Hub.issueCmd h x2 x3).2.time.ltc = h.time.ltc := by
  unfold Hub.issueCmd; simp

@[simp] theorem Hub.localCmd_keeps (h : Hub) (x2 : Nat) (x3 : List Byte) :
    (Hub.localCmd h x2 x3).host.sram = h.host.sram ∧ (Hub.localCmd h x2 x3).time.ltc = h.time.ltc := by
  unfold Hub.localCmd; simp

@[simp] theorem Hub.reissueOne_keeps (l : List (Nat × DupOut)) (h : Hub) :
    (l.foldl (fun (h : Hub) (x : Nat × DupOut) =>
    match x.2.s with
    | some (cmd, _) =>
      if cmd = 0 ∨ cmd = 1 then
        let r := leBytes 4 (h.num Obj.claim) ++ x.2.sRec.drop 4
        let (loc, h) := h.issueCmd (x.1 / 256) r
        if loc && decide (x.1 % 256 < 192) then h.localCmd 17 r else h
      else h
    | none => h) h).host.sram = h.host.sram ∧ (l.foldl (fun (h : Hub) (x : Nat × DupOut) =>
    match x.2.s with
    | some (cmd, _) =>
      if cmd = 0 ∨ cmd = 1 then
        let r := leBytes 4 (h.num Obj.claim) ++ x.2.sRec.drop 4
        let (loc, h) := h.issueCmd (x.1 / 256) r
        if loc && decide (x.1 % 256 < 192) then h.localCmd 17 r else h
      else h
    | none => h) h).time.ltc = h.time.ltc := by
  refine foldl_keeps _ (fun h x => ?_) _ _
  split
  · dsimp only
    split <;> simp
  · simp

@[simp] theorem Hub.reissue_keeps (h : Hub) :
    (h.reissue).host.sram = h.host.sram ∧ (h.reissue).time.ltc = h.time.ltc := by
  unfold Hub.reissue
  have := Hub.reissueOne_keeps h.duplex.outs h.clearCompare
  simp only [Hub.clearCompare_keeps] at this
  exact this

@[simp] theorem Hub.staLinkUp_keeps (h : Hub) (x2 : Nat) :
    (Hub.staLinkUp h x2).host.sram = h.host.sram ∧ (Hub.staLinkUp h x2).time.ltc = h.time.ltc := by
  unfold Hub.staLinkUp; simp

@[simp] theorem Hub.mirrorPacketIn_keeps (h : Hub) (x2 : Nat) (x3 : List Byte) :
    (Hub.mirrorPacketIn h x2 x3).host.sram = h.host.sram ∧ (Hub.mirrorPacketIn h x2 x3).time.ltc = h.time.ltc := by
  unfold Hub.mirrorPacketIn; simp

@[simp] theorem Hub.mirrorObject_keeps (h : Hub) (x2 : Nat) (x3 : Nat) :
    (Hub.mirrorObject h x2 x3).host.sram = h.host.sram ∧ (Hub.mirrorObject h x2 x3).time.ltc = h.time.ltc := by
  unfold Hub.mirrorObject; simp

@[simp] theorem Hub.userCheckNow_keeps (h : Hub) :
    (Hub.userCheckNow h).host.sram = h.host.sram ∧ (Hub.userCheckNow h).time.ltc = h.time.ltc := by
  unfold Hub.userCheckNow; (repeat' split) <;> simp

@[simp] theorem Hub.setScan_keeps (h : Hub) (x2 : Nat) (x3 : Scan) :
    (Hub.setScan h x2 x3).host.sram = h.host.sram ∧ (Hub.setScan h x2 x3).time.ltc = h.time.ltc := by
  unfold Hub.setScan; simp

@[simp] theorem Hub.toutWritten_keeps (h : Hub) (x2 : Nat) (x3 : Bool) :
    (Hub.toutWritten h x2 x3).host.sram = h.host.sram ∧ (Hub.toutWritten h x2 x3).time.ltc = h.time.ltc := by
  unfold Hub.toutWritten; simp

@[simp] theorem Hub.serviceFeed_keeps (h : Hub) (x2 : Bool) :
    (Hub.serviceFeed h x2).host.sram = h.host.sram ∧ (Hub.serviceFeed h x2).time.ltc = h.time.ltc := by
  unfold Hub.serviceFeed; simp

@[simp] theorem Hub.combineModeChanged_keeps (h : Hub) :
    (Hub.combineModeChanged h).host.sram = h.host.sram ∧ (Hub.combineModeChanged h).time.ltc = h.time.ltc := by
  unfold Hub.combineModeChanged; simp

@[simp] theorem Hub.sentinelWritten_keeps (h : Hub) (x2 : Nat) (x3 : Val) :
    (Hub.sentinelWritten h x2 x3).host.sram = h.host.sram ∧ (Hub.sentinelWritten h x2 x3).time.ltc = h.time.ltc := by
  unfold Hub.sentinelWritten; simp

@[simp] theorem Hub.ptpStop_keeps (h : Hub) :
    (Hub.ptpStop h).host.sram = h.host.sram ∧ (Hub.ptpStop h).time.ltc = h.time.ltc := by
  unfold Hub.ptpStop; simp

@[simp] theorem Hub.storeNext_keeps (h : Hub) :
    (Hub.storeNext h).host.sram = h.host.sram ∧ (Hub.storeNext h).time.ltc = h.time.ltc := by
  unfold Hub.storeNext; (repeat' split) <;> simp

@[simp] theorem Hub.storeDrop_keeps (h : Hub) (x2 : Nat) :
    (Hub.storeDrop h x2).host.sram = h.host.sram ∧ (Hub.storeDrop h x2).time.ltc = h.time.ltc := by
  unfold Hub.storeDrop; simp; (repeat' split) <;> simp

@[simp] theorem Hub.readEnded_keeps (h : Hub) :
    (Hub.readEnded h).host.sram = h.host.sram ∧ (Hub.readEnded h).time.ltc = h.time.ltc := by
  unfold Hub.readEnded; simp only; (repeat' split) <;> simp

@[simp] theorem Hub.scanReadEnds_keeps (h : Hub) (x2 : Nat) :
    (Hub.scanReadEnds h x2).host.sram = h.host.sram ∧ (Hub.scanReadEnds h x2).time.ltc = h.time.ltc := by
  unfold Hub.scanReadEnds; simp

@[simp] theorem Hub.scanAbort_keeps (h : Hub) (x2 : Nat) :
    (Hub.scanAbort h x2).host.sram = h.host.sram ∧ (Hub.scanAbort h x2).time.ltc = h.time.ltc := by
  unfold Hub.scanAbort; simp

@[simp] theorem Hub.sendPort_keeps (h : Hub) (x2 : Bool) (x3 : RingFrame) :
    (Hub.sendPort h x2 x3).host.sram = h.host.sram ∧ (Hub.sendPort h x2 x3).time.ltc = h.time.ltc := by
  unfold Hub.sendPort; simp

@[simp] theorem Hub.turnBack_keeps (h : Hub) (x2 : Bool) :
    (Hub.turnBack h x2).host.sram = h.host.sram ∧ (Hub.turnBack h x2).time.ltc = h.time.ltc := by
  first
    | (unfold Hub.turnBack; simp)
    | (unfold Hub.turnBack; split <;> simp)
    | (unfold Hub.turnBack; repeat' split) <;> simp
    | (unfold Hub.turnBack; simp; repeat' split) <;> simp
    | (unfold Hub.turnBack; simp; repeat' (first | intro _ | split)) <;> simp_all
    | (unfold Hub.turnBack; repeat' (first | split | (simp; done))) <;> simp_all

@[simp] theorem Hub.loseLink_keeps (h : Hub) (x2 : Bool) (x3 : Nat) (x4 : Bool) :
    (Hub.loseLink h x2 x3 x4).host.sram = h.host.sram ∧ (Hub.loseLink h x2 x3 x4).time.ltc = h.time.ltc := by
  unfold Hub.loseLink; simp

@[simp] theorem Hub.declareLost_keeps (h : Hub) (x2 : Bool) (x3 : Nat) :
    (Hub.declareLost h x2 x3).host.sram = h.host.sram ∧ (Hub.declareLost h x2 x3).time.ltc = h.time.ltc := by
  unfold Hub.declareLost; simp

@[simp] theorem Hub.ringPortDown_keeps (h : Hub) (x2 : Nat) :
    (Hub.ringPortDown h x2).host.sram = h.host.sram ∧ (Hub.ringPortDown h x2).time.ltc = h.time.ltc := by
  unfold Hub.ringPortDown; simp

@[simp] theorem Hub.serviceIn_keeps (h : Hub) (x2 : Delivered) :
    (Hub.serviceIn h x2).host.sram = h.host.sram ∧ (Hub.serviceIn h x2).time.ltc = h.time.ltc := by
  unfold Hub.serviceIn; simp

@[simp] theorem Hub.toQueue_keeps (h : Hub) (x2 : Nat) (x3 : SwFrame) (x4 : Nat) (x5 : Nat) (x6 : Bool) (x7 : Bool) (x8 : Bool) :
    (Hub.toQueue h x2 x3 x4 x5 x6 x7 x8).host.sram = h.host.sram ∧ (Hub.toQueue h x2 x3 x4 x5 x6 x7 x8).time.ltc = h.time.ltc := by
  unfold Hub.toQueue; simp

@[simp] theorem Hub.output_keeps (h : Hub) (x2 : Nat) (x3 : SwCopy) (x4 : SwFrame) (x5 : SwMatch) (x6 : Bool) :
    (Hub.output h x2 x3 x4 x5 x6).host.sram = h.host.sram ∧ (Hub.output h x2 x3 x4 x5 x6).time.ltc = h.time.ltc := by
  unfold Hub.output; (repeat' split) <;> simp

@[simp] theorem Hub.releaseCopy_keeps (h : Hub) (x2 : Nat) (x3 : Nat) :
    (Hub.releaseCopy h x2 x3).host.sram = h.host.sram ∧ (Hub.releaseCopy h x2 x3).time.ltc = h.time.ltc := by
  unfold Hub.releaseCopy; (repeat' split) <;> simp

@[simp] theorem Hub.portAbort_keeps (h : Hub) (x2 : Nat) :
    (Hub.portAbort h x2).host.sram = h.host.sram ∧ (Hub.portAbort h x2).time.ltc = h.time.ltc := by
  unfold Hub.portAbort; (repeat' split) <;> simp

@[simp] theorem Hub.refuseTxn_keeps (h : Hub) (x2 : RingFrame) (x3 : Nat) :
    (Hub.refuseTxn h x2 x3).host.sram = h.host.sram ∧ (Hub.refuseTxn h x2 x3).time.ltc = h.time.ltc := by
  unfold Hub.refuseTxn; simp

@[simp] theorem Hub.apertureStop_keeps (h : Hub) (x2 : Nat) :
    (Hub.apertureStop h x2).host.sram = h.host.sram ∧ (Hub.apertureStop h x2).time.ltc = h.time.ltc := by
  unfold Hub.apertureStop
  dsimp only
  constructor
  · rw [foldl_sram _ (fun h x => by split <;> simp)]; simp
  · rw [foldl_ltc _ (fun h x => by split <;> simp)]; simp
@[simp] theorem Hub.abortAtomic_keeps (h : Hub) (x2 : AtomicOp) (x3 : Nat) :
    (Hub.abortAtomic h x2 x3).host.sram = h.host.sram ∧ (Hub.abortAtomic h x2 x3).time.ltc = h.time.ltc := by
  first
    | (unfold Hub.abortAtomic; simp)
    | (unfold Hub.abortAtomic; split <;> simp)
    | (unfold Hub.abortAtomic; repeat' split) <;> simp
    | (unfold Hub.abortAtomic; simp; repeat' split) <;> simp
    | (unfold Hub.abortAtomic; simp; repeat' (first | intro _ | split)) <;> simp_all
    | (unfold Hub.abortAtomic; repeat' (first | split | (simp; done))) <;> simp_all

@[simp] theorem Hub.failAtomic_keeps (h : Hub) (x2 : AtomicOp) (x3 : Nat) :
    (Hub.failAtomic h x2 x3).host.sram = h.host.sram ∧ (Hub.failAtomic h x2 x3).time.ltc = h.time.ltc := by
  unfold Hub.failAtomic; simp

@[simp] theorem Hub.dropRead_keeps (h : Hub) (x2 : Nat) :
    (Hub.dropRead h x2).host.sram = h.host.sram ∧ (Hub.dropRead h x2).time.ltc = h.time.ltc := by
  unfold Hub.dropRead; simp

@[simp] theorem Hub.failRead_keeps (h : Hub) (x2 : ReadPart) (x3 : Nat) :
    (Hub.failRead h x2 x3).host.sram = h.host.sram ∧ (Hub.failRead h x2 x3).time.ltc = h.time.ltc := by
  unfold Hub.failRead; simp

@[simp] theorem Hub.faultWrite_keeps (h : Hub) (x2 : Nat) (x3 : Nat) :
    (Hub.faultWrite h x2 x3).host.sram = h.host.sram ∧ (Hub.faultWrite h x2 x3).time.ltc = h.time.ltc := by
  unfold Hub.faultWrite; simp

@[simp] theorem Hub.windowReset_keeps (h : Hub) (p : Nat) :
    (h.windowReset p).host.sram = h.host.sram ∧ (h.windowReset p).time.ltc = h.time.ltc := by
  unfold Hub.windowReset
  dsimp only
  have k1 : ∀ (l : List Nat) (h : Hub), _ := fun l h => foldl_keeps (fun (h : Hub) (i : Nat) =>
    match h.bridge.parts.find? (fun p => p.host == i) with
    | some p => h.failRead p stWindowOff
    | none => h) (fun h i => by split <;> simp) l h
  split
  · split
    · simp; exact ⟨(k1 _ _).1, (k1 _ _).2⟩
    · simp; exact ⟨(k1 _ _).1, (k1 _ _).2⟩
  · simp; exact ⟨(k1 _ _).1, (k1 _ _).2⟩

@[simp] theorem Hub.queueAbort_keeps (h : Hub) (x2 : Nat) :
    (Hub.queueAbort h x2).host.sram = h.host.sram ∧ (Hub.queueAbort h x2).time.ltc = h.time.ltc := by
  unfold Hub.queueAbort; simp

@[simp] theorem Hub.seqClose_keeps (h : Hub) (x2 : Nat) (x3 : Nat) :
    (Hub.seqClose h x2 x3).host.sram = h.host.sram ∧ (Hub.seqClose h x2 x3).time.ltc = h.time.ltc := by
  unfold Hub.seqClose; simp

@[simp] theorem Hub.seqPump_keeps (h : Hub) (x2 : Nat) (x3 : Nat) :
    (Hub.seqPump h x2 x3).host.sram = h.host.sram ∧ (Hub.seqPump h x2 x3).time.ltc = h.time.ltc := by
  induction x3 generalizing h with
  | zero => simp [Hub.seqPump]
  | succ n ih => unfold Hub.seqPump; dsimp only; split <;> simp [ih]

@[simp] theorem Hub.seqHalt_keeps (h : Hub) (x2 : Nat) :
    (Hub.seqHalt h x2).host.sram = h.host.sram ∧ (Hub.seqHalt h x2).time.ltc = h.time.ltc := by
  unfold Hub.seqHalt; simp

@[simp] theorem Hub.canStop_keeps (h : Hub) (x2 : Nat) :
    (Hub.canStop h x2).host.sram = h.host.sram ∧ (Hub.canStop h x2).time.ltc = h.time.ltc := by
  unfold Hub.canStop; simp

@[simp] theorem Hub.setFunc_keeps (h : Hub) (x2 : Nat) (x3 : FState) :
    (Hub.setFunc h x2 x3).host.sram = h.host.sram ∧ (Hub.setFunc h x2 x3).time.ltc = h.time.ltc := by
  unfold Hub.setFunc; simp

@[simp] theorem Hub.seqLeave_keeps (h : Hub) (x2 : Nat) :
    (Hub.seqLeave h x2).host.sram = h.host.sram ∧ (Hub.seqLeave h x2).time.ltc = h.time.ltc := by
  unfold Hub.seqLeave; simp

@[simp] theorem Hub.uartClose_keeps (h : Hub) (x2 : Nat) (x3 : Nat) :
    (Hub.uartClose h x2 x3).host.sram = h.host.sram ∧ (Hub.uartClose h x2 x3).time.ltc = h.time.ltc := by
  unfold Hub.uartClose; simp

@[simp] theorem Hub.matrixStop_keeps (h : Hub) (x2 : Nat) :
    (Hub.matrixStop h x2).host.sram = h.host.sram ∧ (Hub.matrixStop h x2).time.ltc = h.time.ltc := by
  unfold Hub.matrixStop; simp

@[simp] theorem Hub.chanLeave_keeps (h : Hub) (x2 : Nat) (x3 : Option Nat) :
    (Hub.chanLeave h x2 x3).host.sram = h.host.sram ∧ (Hub.chanLeave h x2 x3).time.ltc = h.time.ltc := by
  unfold Hub.chanLeave; simp

@[simp] theorem Hub.fnAbort_keeps (h : Hub) (x2 : Fn) :
    (Hub.fnAbort h x2).host.sram = h.host.sram ∧ (Hub.fnAbort h x2).time.ltc = h.time.ltc := by
  cases x2 <;> simp [Hub.fnAbort]
@[simp] theorem Hub.chanStop_keeps (h : Hub) (x2 : Nat) :
    (Hub.chanStop h x2).host.sram = h.host.sram ∧ (Hub.chanStop h x2).time.ltc = h.time.ltc := by
  unfold Hub.chanStop; simp

@[simp] theorem Hub.seqUndrained_keeps (h : Hub) (x2 : Nat) :
    (Hub.seqUndrained h x2).host.sram = h.host.sram ∧ (Hub.seqUndrained h x2).time.ltc = h.time.ltc := by
  first
    | (unfold Hub.seqUndrained; simp)
    | (unfold Hub.seqUndrained; split <;> simp)
    | (unfold Hub.seqUndrained; repeat' split) <;> simp
    | (unfold Hub.seqUndrained; simp; repeat' split) <;> simp
    | (unfold Hub.seqUndrained; simp; repeat' (first | intro _ | split)) <;> simp_all
    | (unfold Hub.seqUndrained; repeat' (first | split | (simp; done))) <;> simp_all

@[simp] theorem Hub.fnStopped_keeps (h : Hub) (x2 : Fn) :
    (Hub.fnStopped h x2).host.sram = h.host.sram ∧ (Hub.fnStopped h x2).time.ltc = h.time.ltc := by
  cases x2 <;> simp [Hub.fnStopped, Hub.fnAbort]
@[simp] theorem Hub.fnLeave_keeps (h : Hub) (x2 : Fn) (x3 : Bool) (x4 : Option Nat) :
    (Hub.fnLeave h x2 x3 x4).host.sram = h.host.sram ∧ (Hub.fnLeave h x2 x3 x4).time.ltc = h.time.ltc := by
  first
    | (unfold Hub.fnLeave; simp)
    | (unfold Hub.fnLeave; split <;> simp)
    | (unfold Hub.fnLeave; repeat' split) <;> simp
    | (unfold Hub.fnLeave; simp; repeat' split) <;> simp
    | (unfold Hub.fnLeave; simp; repeat' (first | intro _ | split)) <;> simp_all
    | (unfold Hub.fnLeave; repeat' (first | split | (simp; done))) <;> simp_all

@[simp] theorem Hub.clusterFollow_keeps (h : Hub) (x2 : Nat) :
    (Hub.clusterFollow h x2).host.sram = h.host.sram ∧ (Hub.clusterFollow h x2).time.ltc = h.time.ltc := by
  unfold Hub.clusterFollow; simp

@[simp] theorem Hub.follow_keeps (h : Hub) (x2 : Fn) :
    (Hub.follow h x2).host.sram = h.host.sram ∧ (Hub.follow h x2).time.ltc = h.time.ltc := by
  unfold Hub.follow; (repeat' split) <;> simp

@[simp] theorem Hub.startRefused_keeps (h : Hub) (x2 : Nat) (x3 : Nat) :
    (Hub.startRefused h x2 x3).host.sram = h.host.sram ∧ (Hub.startRefused h x2 x3).time.ltc = h.time.ltc := by
  unfold Hub.startRefused; simp

@[simp] theorem Hub.seqLoadStart_keeps (h : Hub) (x2 : Nat) :
    (Hub.seqLoadStart h x2).host.sram = h.host.sram ∧ (Hub.seqLoadStart h x2).time.ltc = h.time.ltc := by
  unfold Hub.seqLoadStart; simp

@[simp] theorem Hub.fnStarting_keeps (h : Hub) (x2 : Fn) :
    (Hub.fnStarting h x2).host.sram = h.host.sram ∧ (Hub.fnStarting h x2).time.ltc = h.time.ltc := by
  unfold Hub.fnStarting; (repeat' split) <;> simp

@[simp] theorem Hub.clusterNeeded_keeps (h : Hub) (x2 : Nat) :
    (Hub.clusterNeeded h x2).host.sram = h.host.sram ∧ (Hub.clusterNeeded h x2).time.ltc = h.time.ltc := by
  unfold Hub.clusterNeeded; simp

@[simp] theorem Hub.beginStart_keeps (h : Hub) (x2 : Nat) :
    (Hub.beginStart h x2).host.sram = h.host.sram ∧ (Hub.beginStart h x2).time.ltc = h.time.ltc := by
  unfold Hub.beginStart; simp; (repeat' split) <;> simp

@[simp] theorem Hub.enableWritten_keeps (h : Hub) (x2 : Nat) (x3 : Bool) :
    (Hub.enableWritten h x2 x3).host.sram = h.host.sram ∧ (Hub.enableWritten h x2 x3).time.ltc = h.time.ltc := by
  unfold Hub.enableWritten; simp; (repeat' split) <;> simp

@[simp] theorem Hub.unmapPins_keeps (h : Hub) (x2 : Nat) :
    (Hub.unmapPins h x2).host.sram = h.host.sram ∧ (Hub.unmapPins h x2).time.ltc = h.time.ltc := by
  unfold Hub.unmapPins; simp

@[simp] theorem Hub.valueWritten_keeps (h : Hub) (x2 : Nat) (x3 : Nat) (x4 : Val) :
    (Hub.valueWritten h x2 x3 x4).host.sram = h.host.sram ∧ (Hub.valueWritten h x2 x3 x4).time.ltc = h.time.ltc := by
  unfold Hub.valueWritten; simp; (repeat' split) <;> simp

@[simp] theorem Hub.setChMode_keeps (h : Hub) (x2 : Nat) (x3 : Nat) :
    (Hub.setChMode h x2 x3).host.sram = h.host.sram ∧ (Hub.setChMode h x2 x3).time.ltc = h.time.ltc := by
  unfold Hub.setChMode; simp

@[simp] theorem Hub.trigFix_keeps (h : Hub) (x2 : Nat) :
    (Hub.trigFix h x2).host.sram = h.host.sram ∧ (Hub.trigFix h x2).time.ltc = h.time.ltc := by
  first
    | (unfold Hub.trigFix; simp)
    | (unfold Hub.trigFix; split <;> simp)
    | (unfold Hub.trigFix; repeat' split) <;> simp
    | (unfold Hub.trigFix; simp; repeat' split) <;> simp
    | (unfold Hub.trigFix; simp; repeat' (first | intro _ | split)) <;> simp_all
    | (unfold Hub.trigFix; repeat' (first | split | (simp; done))) <;> simp_all

@[simp] theorem Hub.slotFreed_keeps (h : Hub) (x2 : Bool) :
    (Hub.slotFreed h x2).host.sram = h.host.sram ∧ (Hub.slotFreed h x2).time.ltc = h.time.ltc := by
  unfold Hub.slotFreed
  split
  · split <;> simp
  · simp
@[simp] theorem Hub.trigDisarm_keeps (h : Hub) (x2 : Nat) :
    (Hub.trigDisarm h x2).host.sram = h.host.sram ∧ (Hub.trigDisarm h x2).time.ltc = h.time.ltc := by
  unfold Hub.trigDisarm; simp

@[simp] theorem Hub.stageEntry_keeps (h : Hub) (x2 : Nat) (x3 : Nat) :
    (Hub.stageEntry h x2 x3).host.sram = h.host.sram ∧ (Hub.stageEntry h x2 x3).time.ltc = h.time.ltc := by
  unfold Hub.stageEntry; simp

@[simp] theorem Hub.rebase_keeps (h : Hub) (x2 : Nat) :
    (Hub.rebase h x2).host.sram = h.host.sram ∧ (Hub.rebase h x2).time.ltc = h.time.ltc := by
  unfold Hub.rebase; simp

@[simp] theorem Hub.leaveNominal_keeps (h : Hub) :
    (Hub.leaveNominal h).host.sram = h.host.sram ∧ (Hub.leaveNominal h).time.ltc = h.time.ltc := by
  first
    | (unfold Hub.leaveNominal; simp)
    | (unfold Hub.leaveNominal; split <;> simp)
    | (unfold Hub.leaveNominal; repeat' split) <;> simp
    | (unfold Hub.leaveNominal; simp; repeat' split) <;> simp
    | (unfold Hub.leaveNominal; simp; repeat' (first | intro _ | split)) <;> simp_all
    | (unfold Hub.leaveNominal; repeat' (first | split | (simp; done))) <;> simp_all

@[simp] theorem Hub.nominalChanged_keeps (h : Hub) (x2 : Nat) :
    (Hub.nominalChanged h x2).host.sram = h.host.sram ∧ (Hub.nominalChanged h x2).time.ltc = h.time.ltc := by
  first
    | (unfold Hub.nominalChanged; simp)
    | (unfold Hub.nominalChanged; split <;> simp)
    | (unfold Hub.nominalChanged; repeat' split) <;> simp
    | (unfold Hub.nominalChanged; simp; repeat' split) <;> simp
    | (unfold Hub.nominalChanged; simp; repeat' (first | intro _ | split)) <;> simp_all
    | (unfold Hub.nominalChanged; repeat' (first | split | (simp; done))) <;> simp_all

@[simp] theorem Hub.jobWritten_keeps (h : Hub) (x2 : Nat) :
    (Hub.jobWritten h x2).host.sram = h.host.sram ∧ (Hub.jobWritten h x2).time.ltc = h.time.ltc := by
  unfold Hub.jobWritten; simp

@[simp] theorem Hub.applyValue_keeps (h : Hub) (x2 : Nat) (x3 : Nat) (x4 : Val) :
    (Hub.applyValue h x2 x3 x4).host.sram = h.host.sram ∧ (Hub.applyValue h x2 x3 x4).time.ltc = h.time.ltc := by
  unfold Hub.applyValue; simp

@[simp] theorem Hub.acceptRwb_keeps (h : Hub) (x2 : Nat) (x3 : Nat) (x4 : Val) :
    (Hub.acceptRwb h x2 x3 x4).host.sram = h.host.sram ∧ (Hub.acceptRwb h x2 x3 x4).time.ltc = h.time.ltc := by
  unfold Hub.acceptRwb; simp

@[simp] theorem Hub.writeRefused_keeps (h : Hub) (x2 : Nat) (x3 : Nat) (x4 : Nat) :
    (Hub.writeRefused h x2 x3 x4).host.sram = h.host.sram ∧ (Hub.writeRefused h x2 x3 x4).time.ltc = h.time.ltc := by
  unfold Hub.writeRefused; simp

@[simp] theorem Hub.updateViews_keeps (h : Hub) :
    (Hub.updateViews h).host.sram = h.host.sram ∧ (Hub.updateViews h).time.ltc = h.time.ltc := by
  unfold Hub.updateViews; simp

@[simp] theorem Hub.keyRevokeWrite_keeps (h : Hub) (x2 : Nat) :
    (Hub.keyRevokeWrite h x2).2.host.sram = h.host.sram ∧ (Hub.keyRevokeWrite h x2).2.time.ltc = h.time.ltc := by
  unfold Hub.keyRevokeWrite; simp

@[simp] theorem Hub.fallbackPartWrite_keeps (h : Hub) (x2 : Nat) :
    (Hub.fallbackPartWrite h x2).2.host.sram = h.host.sram ∧ (Hub.fallbackPartWrite h x2).2.time.ltc = h.time.ltc := by
  unfold Hub.fallbackPartWrite; simp

@[simp] theorem Hub.modeRequestWrite_keeps (h : Hub) (x2 : Nat) :
    (Hub.modeRequestWrite h x2).2.host.sram = h.host.sram ∧ (Hub.modeRequestWrite h x2).2.time.ltc = h.time.ltc := by
  unfold Hub.modeRequestWrite; simp

@[simp] theorem Hub.resetDone_keeps (h : Hub) (x2 : Nat) :
    (Hub.resetDone h x2).host.sram = h.host.sram ∧ (Hub.resetDone h x2).time.ltc = h.time.ltc := by
  unfold Hub.resetDone; simp

@[simp] theorem Hub.restoreConfig_keeps (h : Hub) (x2 : Nat) :
    (Hub.restoreConfig h x2).host.sram = h.host.sram ∧ (Hub.restoreConfig h x2).time.ltc = h.time.ltc := by
  unfold Hub.restoreConfig; simp

@[simp] theorem Hub.enterReset_keeps (h : Hub) (x2 : Nat) :
    (Hub.enterReset h x2).host.sram = h.host.sram ∧ (Hub.enterReset h x2).time.ltc = h.time.ltc := by
  have k : ∀ (h : Hub) (f : Fn) (c : Bool), (if c then h.fnLeave f true (some 3) else h).host.sram = h.host.sram
      ∧ (if c then h.fnLeave f true (some 3) else h).time.ltc = h.time.ltc := by intro h f c; split <;> simp
  unfold Hub.enterReset
  split
  · exact ⟨rfl, rfl⟩
  · dsimp only
    split
    · exact ⟨rfl, rfl⟩
    · split
      · split <;> split <;> simp [Hub.when] <;> split <;> simp
      · split <;> simp [Hub.when] <;> split <;> simp
@[simp] theorem Hub.resetCounted_keeps (h : Hub) (x2 : Nat) :
    (Hub.resetCounted h x2).host.sram = h.host.sram ∧ (Hub.resetCounted h x2).time.ltc = h.time.ltc := by
  first
    | (unfold Hub.resetCounted; simp)
    | (unfold Hub.resetCounted; split <;> simp)
    | (unfold Hub.resetCounted; repeat' split) <;> simp
    | (unfold Hub.resetCounted; simp; repeat' split) <;> simp
    | (unfold Hub.resetCounted; simp; repeat' (first | intro _ | split)) <;> simp_all
    | (unfold Hub.resetCounted; repeat' (first | split | (simp; done))) <;> simp_all

@[simp] theorem Hub.functionReset_keeps (h : Hub) (x2 : Nat) :
    (Hub.functionReset h x2).2.host.sram = h.host.sram ∧ (Hub.functionReset h x2).2.time.ltc = h.time.ltc := by
  unfold Hub.functionReset; (repeat' split) <;> simp

@[simp] theorem Hub.claimResetWrite_keeps (h : Hub) (x2 : Nat) :
    (Hub.claimResetWrite h x2).host.sram = h.host.sram ∧ (Hub.claimResetWrite h x2).time.ltc = h.time.ltc := by
  unfold Hub.claimResetWrite; simp

@[simp] theorem Hub.keyWrite_keeps (h : Hub) (x2 : Nat) (x3 : List Byte) :
    (Hub.keyWrite h x2 x3).2.host.sram = h.host.sram ∧ (Hub.keyWrite h x2 x3).2.time.ltc = h.time.ltc := by
  unfold Hub.keyWrite; simp

@[simp] theorem Hub.resetBy_keeps (h : Hub) (x2 : RegPath) (x3 : Nat) :
    (Hub.resetBy h x2 x3).2.host.sram = h.host.sram ∧ (Hub.resetBy h x2 x3).2.time.ltc = h.time.ltc := by
  unfold Hub.resetBy; simp

@[simp] theorem Hub.numberWritten_keeps (h : Hub) (x2 : Nat) (x3 : Nat) (x4 : Nat) (x5 : List Byte) :
    (Hub.numberWritten h x2 x3 x4 x5).2.host.sram = h.host.sram ∧ (Hub.numberWritten h x2 x3 x4 x5).2.time.ltc = h.time.ltc := by
  unfold Hub.numberWritten; simp

@[simp] theorem Hub.updateConfirmWrite_keeps (h : Hub) :
    (Hub.updateConfirmWrite h).2.host.sram = h.host.sram ∧ (Hub.updateConfirmWrite h).2.time.ltc = h.time.ltc := by
  unfold Hub.updateConfirmWrite; simp

@[simp] theorem Hub.updateDisarmWrite_keeps (h : Hub) :
    (Hub.updateDisarmWrite h).2.host.sram = h.host.sram ∧ (Hub.updateDisarmWrite h).2.time.ltc = h.time.ltc := by
  unfold Hub.updateDisarmWrite; simp

@[simp] theorem Hub.updateArmWrite_keeps (h : Hub) :
    (Hub.updateArmWrite h).2.host.sram = h.host.sram ∧ (Hub.updateArmWrite h).2.time.ltc = h.time.ltc := by
  unfold Hub.updateArmWrite; simp

@[simp] theorem Hub.stagingVerifyWrite_keeps (h : Hub) :
    (Hub.stagingVerifyWrite h).2.host.sram = h.host.sram ∧ (Hub.stagingVerifyWrite h).2.time.ltc = h.time.ltc := by
  unfold Hub.stagingVerifyWrite; simp

@[simp] theorem Hub.stagingEraseWrite_keeps (h : Hub) :
    (Hub.stagingEraseWrite h).2.host.sram = h.host.sram ∧ (Hub.stagingEraseWrite h).2.time.ltc = h.time.ltc := by
  unfold Hub.stagingEraseWrite; simp

@[simp] theorem Hub.fetFaultClearWrite_keeps (h : Hub) :
    (Hub.fetFaultClearWrite h).host.sram = h.host.sram ∧ (Hub.fetFaultClearWrite h).time.ltc = h.time.ltc := by
  unfold Hub.fetFaultClearWrite; simp

@[simp] theorem Hub.faultRecordClearWrite_keeps (h : Hub) :
    (Hub.faultRecordClearWrite h).host.sram = h.host.sram ∧ (Hub.faultRecordClearWrite h).time.ltc = h.time.ltc := by
  unfold Hub.faultRecordClearWrite; simp

@[simp] theorem Hub.roRead_keeps (h : Hub) (x2 : Nat) (x3 : Nat) :
    (Hub.roRead h x2 x3).2.host.sram = h.host.sram ∧ (Hub.roRead h x2 x3).2.time.ltc = h.time.ltc := by
  unfold Hub.roRead; simp

@[simp] theorem Hub.jobFree_keeps (h : Hub) (x2 : Nat) :
    (Hub.jobFree h x2).host.sram = h.host.sram ∧ (Hub.jobFree h x2).time.ltc = h.time.ltc := by
  unfold Hub.jobFree; simp

@[simp] theorem Hub.scanEnd_keeps (h : Hub) (x2 : Nat) (x3 : Nat) (x4 : Nat) (x5 : Nat) :
    (Hub.scanEnd h x2 x3 x4 x5).host.sram = h.host.sram ∧ (Hub.scanEnd h x2 x3 x4 x5).time.ltc = h.time.ltc := by
  unfold Hub.scanEnd; simp

@[simp] theorem Hub.scanHalt_keeps (h : Hub) (x2 : Nat) (x3 : Option (List Byte)) :
    (Hub.scanHalt h x2 x3).host.sram = h.host.sram ∧ (Hub.scanHalt h x2 x3).time.ltc = h.time.ltc := by
  unfold Hub.scanHalt; (repeat' split) <;> simp

@[simp] theorem Hub.scanStopWrite_keeps (h : Hub) (x2 : Nat) :
    (Hub.scanStopWrite h x2).host.sram = h.host.sram ∧ (Hub.scanStopWrite h x2).time.ltc = h.time.ltc := by
  unfold Hub.scanStopWrite; simp

@[simp] theorem Hub.putImage_keeps (h : Hub) (x2 : Nat) (x3 : Option SavedImage) :
    (Hub.putImage h x2 x3).host.sram = h.host.sram ∧ (Hub.putImage h x2 x3).time.ltc = h.time.ltc := by
  unfold Hub.putImage; simp

@[simp] theorem Hub.restoreDefaultsWrite_keeps (h : Hub) :
    (Hub.restoreDefaultsWrite h).2.host.sram = h.host.sram ∧ (Hub.restoreDefaultsWrite h).2.time.ltc = h.time.ltc := by
  unfold Hub.restoreDefaultsWrite; simp

@[simp] theorem Hub.saveConfigWrite_keeps (h : Hub) :
    (Hub.saveConfigWrite h).2.host.sram = h.host.sram ∧ (Hub.saveConfigWrite h).2.time.ltc = h.time.ltc := by
  unfold Hub.saveConfigWrite; simp

@[simp] theorem Hub.dupClaimClearWrite_keeps (h : Hub) :
    (Hub.dupClaimClearWrite h).host.sram = h.host.sram ∧ (Hub.dupClaimClearWrite h).time.ltc = h.time.ltc := by
  unfold Hub.dupClaimClearWrite; simp

@[simp] theorem Hub.dupRejoinWrite_keeps (h : Hub) :
    (Hub.dupRejoinWrite h).host.sram = h.host.sram ∧ (Hub.dupRejoinWrite h).time.ltc = h.time.ltc := by
  unfold Hub.dupRejoinWrite; simp

@[simp] theorem Hub.dupSwapWrite_keeps (h : Hub) :
    (Hub.dupSwapWrite h).2.host.sram = h.host.sram ∧ (Hub.dupSwapWrite h).2.time.ltc = h.time.ltc := by
  unfold Hub.dupSwapWrite; simp

@[simp] theorem Hub.canRestart_keeps (h : Hub) (x2 : Nat) :
    (Hub.canRestart h x2).host.sram = h.host.sram ∧ (Hub.canRestart h x2).time.ltc = h.time.ltc := by
  unfold Hub.canRestart; simp

@[simp] theorem Hub.ledgerClear_keeps (h : Hub) :
    (Hub.ledgerClear h).host.sram = h.host.sram ∧ (Hub.ledgerClear h).time.ltc = h.time.ltc := by
  unfold Hub.ledgerClear; simp

@[simp] theorem Hub.seqPinsOf_keeps (h : Hub) (x2 : Nat) :
    (Hub.seqPinsOf h x2).host.sram = h.host.sram ∧ (Hub.seqPinsOf h x2).time.ltc = h.time.ltc := by
  unfold Hub.seqPinsOf; simp

@[simp] theorem Hub.enableDriver_keeps (h : Hub) (x2 : Nat) :
    (Hub.enableDriver h x2).host.sram = h.host.sram ∧ (Hub.enableDriver h x2).time.ltc = h.time.ltc := by
  unfold Hub.enableDriver; simp

@[simp] theorem Hub.flushQueue_keeps (h : Hub) (x2 : Nat) :
    (Hub.flushQueue h x2).host.sram = h.host.sram ∧ (Hub.flushQueue h x2).time.ltc = h.time.ltc := by
  unfold Hub.flushQueue; simp

@[simp] theorem Hub.discardStaging_keeps (h : Hub) :
    (Hub.discardStaging h).host.sram = h.host.sram ∧ (Hub.discardStaging h).time.ltc = h.time.ltc := by
  unfold Hub.discardStaging; simp

@[simp] theorem Hub.flip_keeps (h : Hub) :
    (Hub.flip h).host.sram = h.host.sram ∧ (Hub.flip h).time.ltc = h.time.ltc := by
  unfold Hub.flip; simp

@[simp] theorem Hub.commitWrite_keeps (h : Hub) :
    (Hub.commitWrite h).2.host.sram = h.host.sram ∧ (Hub.commitWrite h).2.time.ltc = h.time.ltc := by
  unfold Hub.commitWrite; simp

@[simp] theorem Hub.clearLog_keeps (h : Hub) :
    (Hub.clearLog h).host.sram = h.host.sram ∧ (Hub.clearLog h).time.ltc = h.time.ltc := by
  unfold Hub.clearLog; simp

@[simp] theorem Hub.sendBoth_keeps (h : Hub) (x2 : RingFrame) :
    (Hub.sendBoth h x2).host.sram = h.host.sram ∧ (Hub.sendBoth h x2).time.ltc = h.time.ltc := by
  unfold Hub.sendBoth; simp

@[simp] theorem Hub.doRejoin_keeps (h : Hub) :
    (Hub.doRejoin h).host.sram = h.host.sram ∧ (Hub.doRejoin h).time.ltc = h.time.ltc := by
  unfold Hub.doRejoin; simp

@[simp] theorem Hub.disarmAllWrite_keeps (h : Hub) :
    (Hub.disarmAllWrite h).host.sram = h.host.sram ∧ (Hub.disarmAllWrite h).time.ltc = h.time.ltc := by
  unfold Hub.disarmAllWrite; simp

@[simp] theorem Hub.trueWritten_keeps (h : Hub) (x2 : Nat) (x3 : Nat) :
    (Hub.trueWritten h x2 x3).2.host.sram = h.host.sram ∧ (Hub.trueWritten h x2 x3).2.time.ltc = h.time.ltc := by
  unfold Hub.trueWritten; simp

@[simp] theorem Hub.woWrite_keeps (h : Hub) (x2 : Nat) (x3 : Nat) (x4 : Desc) (x5 : List Byte) :
    (Hub.woWrite h x2 x3 x4 x5).2.host.sram = h.host.sram ∧ (Hub.woWrite h x2 x3 x4 x5).2.time.ltc = h.time.ltc := by
  unfold Hub.woWrite; (repeat' split) <;> simp

@[simp] theorem Hub.writeObject_keeps (h : Hub) (x2 : Bool) (x3 : Nat) (x4 : Nat) (x5 : Desc) (x6 : List Byte) :
    (Hub.writeObject h x2 x3 x4 x5 x6).2.host.sram = h.host.sram ∧ (Hub.writeObject h x2 x3 x4 x5 x6).2.time.ltc = h.time.ltc := by
  unfold Hub.writeObject; simp

@[simp] theorem Hub.mirrorObjectIn_keeps (h : Hub) (x2 : Nat) (x3 : Nat) (x4 : List Byte) :
    (Hub.mirrorObjectIn h x2 x3 x4).host.sram = h.host.sram ∧ (Hub.mirrorObjectIn h x2 x3 x4).time.ltc = h.time.ltc := by
  unfold Hub.mirrorObjectIn; (repeat' split) <;> simp

@[simp] theorem Hub.missedPackets_keeps (h : Hub) :
    (Hub.missedPackets h).host.sram = h.host.sram ∧ (Hub.missedPackets h).time.ltc = h.time.ltc := by
  unfold Hub.missedPackets; simp

@[simp] theorem Hub.applyRecord_keeps (h : Hub) (x2 : Nat) :
    (Hub.applyRecord h x2).host.sram = h.host.sram ∧ (Hub.applyRecord h x2).time.ltc = h.time.ltc := by
  unfold Hub.applyRecord; simp

@[simp] theorem Hub.canSend_keeps (h : Hub) (x2 : Nat) (x3 : CanTx) :
    (Hub.canSend h x2 x3).host.sram = h.host.sram ∧ (Hub.canSend h x2 x3).time.ltc = h.time.ltc := by
  unfold Hub.canSend; simp

@[simp] theorem Hub.canIdle_keeps (h : Hub) (x2 : Nat) :
    (Hub.canIdle h x2).host.sram = h.host.sram ∧ (Hub.canIdle h x2).time.ltc = h.time.ltc := by
  unfold Hub.canIdle; simp; (repeat' split) <;> simp

@[simp] theorem Hub.canRecord_keeps (h : Hub) (x2 : Nat) (x3 : Nat) (x4 : Nat) (x5 : Nat) (x6 : List Byte) :
    (Hub.canRecord h x2 x3 x4 x5 x6).host.sram = h.host.sram ∧ (Hub.canRecord h x2 x3 x4 x5 x6).time.ltc = h.time.ltc := by
  unfold Hub.canRecord; simp

@[simp] theorem Hub.txReport_keeps (h : Hub) (x2 : Nat) (x3 : CanTx) (x4 : Nat) :
    (Hub.txReport h x2 x3 x4).host.sram = h.host.sram ∧ (Hub.txReport h x2 x3 x4).time.ltc = h.time.ltc := by
  unfold Hub.txReport; simp

@[simp] theorem Hub.canMiss_keeps (h : Hub) (x2 : Nat) :
    (Hub.canMiss h x2).host.sram = h.host.sram ∧ (Hub.canMiss h x2).time.ltc = h.time.ltc := by
  unfold Hub.canMiss; simp; (repeat' split) <;> simp

@[simp] theorem Hub.canWindow_keeps (h : Hub) (x2 : Nat) (x3 : Nat) (x4 : Bool) :
    (Hub.canWindow h x2 x3 x4).host.sram = h.host.sram ∧ (Hub.canWindow h x2 x3 x4).time.ltc = h.time.ltc := by
  unfold Hub.canWindow; simp

@[simp] theorem Hub.heartbeat_keeps (h : Hub) :
    (Hub.heartbeat h).host.sram = h.host.sram ∧ (Hub.heartbeat h).time.ltc = h.time.ltc := by
  unfold Hub.heartbeat; simp

@[simp] theorem Hub.ptpDelay_keeps (h : Hub) (x2 : Nat) (x3 : Int) :
    (Hub.ptpDelay h x2 x3).host.sram = h.host.sram ∧ (Hub.ptpDelay h x2 x3).time.ltc = h.time.ltc := by
  unfold Hub.ptpDelay; simp

@[simp] theorem Hub.seqRelease_keeps (h : Hub) (x2 : Nat) (x3 : Bool) :
    (Hub.seqRelease h x2 x3).host.sram = h.host.sram ∧ (Hub.seqRelease h x2 x3).time.ltc = h.time.ltc := by
  unfold Hub.seqRelease; simp

@[simp] theorem Hub.putSession_keeps (h : Hub) (x2 : Session) :
    (Hub.putSession h x2).host.sram = h.host.sram ∧ (Hub.putSession h x2).time.ltc = h.time.ltc := by
  unfold Hub.putSession; simp

@[simp] theorem Hub.closeSession_keeps (h : Hub) (x2 : Requester) :
    (Hub.closeSession h x2).host.sram = h.host.sram ∧ (Hub.closeSession h x2).time.ltc = h.time.ltc := by
  unfold Hub.closeSession; simp

@[simp] theorem Hub.segWrite_keeps (h : Hub) (x2 : DictMsg) (x3 : Session) :
    (Hub.segWrite h x2 x3).2.host.sram = h.host.sram ∧ (Hub.segWrite h x2 x3).2.time.ltc = h.time.ltc := by
  unfold Hub.segWrite; simp

@[simp] theorem Hub.snapshot_keeps (h : Hub) (x2 : Nat) (x3 : Nat) :
    (Hub.snapshot h x2 x3).host.sram = h.host.sram ∧ (Hub.snapshot h x2 x3).time.ltc = h.time.ltc := by
  unfold Hub.snapshot; simp

@[simp] theorem Hub.fireTout_keeps (h : Hub) (x2 : Nat) (x3 : Nat) (x4 : Nat) (x5 : Bool) :
    (Hub.fireTout h x2 x3 x4 x5).host.sram = h.host.sram ∧ (Hub.fireTout h x2 x3 x4 x5).time.ltc = h.time.ltc := by
  first
    | (unfold Hub.fireTout; simp)
    | (unfold Hub.fireTout; split <;> simp)
    | (unfold Hub.fireTout; repeat' split) <;> simp
    | (unfold Hub.fireTout; simp; repeat' split) <;> simp
    | (unfold Hub.fireTout; simp; repeat' (first | intro _ | split)) <;> simp_all
    | (unfold Hub.fireTout; repeat' (first | split | (simp; done))) <;> simp_all

@[simp] theorem Hub.canStartFire_keeps (h : Hub) (x2 : Nat) (x3 : Nat) (x4 : Nat) :
    (Hub.canStartFire h x2 x3 x4).host.sram = h.host.sram ∧ (Hub.canStartFire h x2 x3 x4).time.ltc = h.time.ltc := by
  unfold Hub.canStartFire; simp

@[simp] theorem Hub.seqEvent_keeps (h : Hub) (x2 : Nat) (x3 : Nat) :
    (Hub.seqEvent h x2 x3).host.sram = h.host.sram ∧ (Hub.seqEvent h x2 x3).time.ltc = h.time.ltc := by
  unfold Hub.seqEvent; simp

@[simp] theorem Hub.cstartFire_keeps (h : Hub) (x2 : Nat) :
    (Hub.cstartFire h x2).host.sram = h.host.sram ∧ (Hub.cstartFire h x2).time.ltc = h.time.ltc := by
  unfold Hub.cstartFire; simp

@[simp] theorem Hub.fireOutput_keeps (h : Hub) (x2 : Nat) (x3 : Nat) :
    (Hub.fireOutput h x2 x3).host.sram = h.host.sram ∧ (Hub.fireOutput h x2 x3).time.ltc = h.time.ltc := by
  unfold Hub.fireOutput; simp

@[simp] theorem Hub.toggledAfter_keeps (h : Hub) (x2 : Nat) (x3 : Nat) (x4 : Nat) (x5 : Bool) :
    (Hub.toggledAfter h x2 x3 x4 x5).host.sram = h.host.sram ∧ (Hub.toggledAfter h x2 x3 x4 x5).time.ltc = h.time.ltc := by
  first
    | (unfold Hub.toggledAfter; simp)
    | (unfold Hub.toggledAfter; split <;> simp)
    | (unfold Hub.toggledAfter; repeat' split) <;> simp
    | (unfold Hub.toggledAfter; simp; repeat' split) <;> simp
    | (unfold Hub.toggledAfter; simp; repeat' (first | intro _ | split)) <;> simp_all
    | (unfold Hub.toggledAfter; repeat' (first | split | (simp; done))) <;> simp_all

@[simp] theorem Hub.trigAct_keeps (h : Hub) (x2 : Nat) (x3 : Nat) (x4 : Bool) :
    (Hub.trigAct h x2 x3 x4).host.sram = h.host.sram ∧ (Hub.trigAct h x2 x3 x4).time.ltc = h.time.ltc := by
  unfold Hub.trigAct
  dsimp only
  split
  · simp
  · split
    · simp
    · split <;> simp
@[simp] theorem Hub.trigFired_keeps (h : Hub) (x2 : Nat) (x3 : Nat) (x4 : Nat) :
    (Hub.trigFired h x2 x3 x4).host.sram = h.host.sram ∧ (Hub.trigFired h x2 x3 x4).time.ltc = h.time.ltc := by
  unfold Hub.trigFired; simp

@[simp] theorem Hub.trigFire_keeps (h : Hub) (x2 : Nat) (x3 : Nat) :
    (Hub.trigFire h x2 x3).host.sram = h.host.sram ∧ (Hub.trigFire h x2 x3).time.ltc = h.time.ltc := by
  unfold Hub.trigFire; simp

@[simp] theorem Hub.packetEnd_keeps (h : Hub) (q : Nat) (ids : List Nat) (ds : List QDesc) (crc : Bool) (new : List Byte) :
    (h.packetEnd q ids ds crc new).host.sram = h.host.sram ∧ (h.packetEnd q ids ds crc new).time.ltc = h.time.ltc := by
  unfold Hub.packetEnd; dsimp only; split <;> simp

@[simp] theorem Hub.packetPart_keeps (h : Hub) (q : Nat) (d : QDesc) (new : List Byte) :
    (h.packetPart q d new).host.sram = h.host.sram ∧ (h.packetPart q d new).time.ltc = h.time.ltc := by
  unfold Hub.packetPart; simp

@[simp] theorem Hub.setDesc_keeps (h : Hub) (q i : Nat) (f : QDesc → QDesc) :
    (h.setDesc q i f).host.sram = h.host.sram ∧ (h.setDesc q i f).time.ltc = h.time.ltc := by
  unfold Hub.setDesc; simp

@[simp] theorem Hub.packetData_keeps (h : Hub) (q : Nat) (d : QDesc) (new : List Byte) :
    (h.packetData q d new).host.sram = h.host.sram ∧ (h.packetData q d new).time.ltc = h.time.ltc := by
  unfold Hub.packetData; simp

@[simp] theorem Hub.grantStall_keeps (h : Hub) (x2 : Requester) (x3 : Nat) :
    (Hub.grantStall h x2 x3).host.sram = h.host.sram ∧ (Hub.grantStall h x2 x3).time.ltc = h.time.ltc := by
  unfold Hub.grantStall; simp; (repeat' split) <;> simp

@[simp] theorem Hub.unhold_keeps (h : Hub) (x2 : Requester) :
    (Hub.unhold h x2).host.sram = h.host.sram ∧ (Hub.unhold h x2).time.ltc = h.time.ltc := by
  unfold Hub.unhold; simp

@[simp] theorem Hub.serveStallRequest_keeps (h : Hub) (x2 : KReq) :
    (Hub.serveStallRequest h x2).2.host.sram = h.host.sram ∧ (Hub.serveStallRequest h x2).2.time.ltc = h.time.ltc := by
  unfold Hub.serveStallRequest; (repeat' split) <;> simp

@[simp] theorem Hub.bulkAnswer_keeps (h : Hub) (x2 : Nat) (x3 : Nat) :
    (Hub.bulkAnswer h x2 x3).host.sram = h.host.sram ∧ (Hub.bulkAnswer h x2 x3).time.ltc = h.time.ltc := by
  unfold Hub.bulkAnswer; simp

@[simp] theorem Hub.mirrorTagDone_keeps (h : Hub) (x2 : Nat) :
    (Hub.mirrorTagDone h x2).host.sram = h.host.sram ∧ (Hub.mirrorTagDone h x2).time.ltc = h.time.ltc := by
  unfold Hub.mirrorTagDone; simp

@[simp] theorem Hub.takeWack_keeps (h : Hub) (x2 : RingFrame) :
    (Hub.takeWack h x2).host.sram = h.host.sram ∧ (Hub.takeWack h x2).time.ltc = h.time.ltc := by
  unfold Hub.takeWack; (repeat' split) <;> simp

@[simp] theorem Hub.staQueue_keeps (h : Hub) (x2 : Nat) (x3 : StaTx) :
    (Hub.staQueue h x2 x3).host.sram = h.host.sram ∧ (Hub.staQueue h x2 x3).time.ltc = h.time.ltc := by
  unfold Hub.staQueue; simp

@[simp] theorem Hub.ptpSend_keeps (h : Hub) (x2 : Nat) (x3 : List Byte) (x4 : Bool) (x5 : Nat) (x6 : Int) :
    (Hub.ptpSend h x2 x3 x4 x5 x6).host.sram = h.host.sram ∧ (Hub.ptpSend h x2 x3 x4 x5 x6).time.ltc = h.time.ltc := by
  unfold Hub.ptpSend; simp

@[simp] theorem Hub.phaseInvalidAt_keeps (h : Hub) (x2 : Nat) :
    (Hub.phaseInvalidAt h x2).host.sram = h.host.sram ∧ (Hub.phaseInvalidAt h x2).time.ltc = h.time.ltc := by
  first
    | (unfold Hub.phaseInvalidAt; simp)
    | (unfold Hub.phaseInvalidAt; split <;> simp)
    | (unfold Hub.phaseInvalidAt; repeat' split) <;> simp
    | (unfold Hub.phaseInvalidAt; simp; repeat' split) <;> simp
    | (unfold Hub.phaseInvalidAt; simp; repeat' (first | intro _ | split)) <;> simp_all
    | (unfold Hub.phaseInvalidAt; repeat' (first | split | (simp; done))) <;> simp_all

@[simp] theorem Hub.phaseInvalid_keeps (h : Hub) :
    (Hub.phaseInvalid h).host.sram = h.host.sram ∧ (Hub.phaseInvalid h).time.ltc = h.time.ltc := by
  unfold Hub.phaseInvalid; simp

@[simp] theorem Hub.trackNominal_keeps (h : Hub) :
    (Hub.trackNominal h).host.sram = h.host.sram ∧ (Hub.trackNominal h).time.ltc = h.time.ltc := by
  first
    | (unfold Hub.trackNominal; simp)
    | (unfold Hub.trackNominal; split <;> simp)
    | (unfold Hub.trackNominal; repeat' split) <;> simp
    | (unfold Hub.trackNominal; simp; repeat' split) <;> simp
    | (unfold Hub.trackNominal; simp; repeat' (first | intro _ | split)) <;> simp_all
    | (unfold Hub.trackNominal; repeat' (first | split | (simp; done))) <;> simp_all

@[simp] theorem Hub.setInt_keeps (h : Hub) (x2 : Nat) (x3 : Int) :
    (Hub.setInt h x2 x3).host.sram = h.host.sram ∧ (Hub.setInt h x2 x3).time.ltc = h.time.ltc := by
  unfold Hub.setInt; simp

@[simp] theorem Hub.candidateFrom_keeps (h : Hub) (x2 : Nat) :
    (Hub.candidateFrom h x2).host.sram = h.host.sram ∧ (Hub.candidateFrom h x2).time.ltc = h.time.ltc := by
  unfold Hub.candidateFrom; simp

@[simp] theorem Hub.phaseLocked_keeps (h : Hub) (x2 : Nat) :
    (Hub.phaseLocked h x2).host.sram = h.host.sram ∧ (Hub.phaseLocked h x2).time.ltc = h.time.ltc := by
  first
    | (unfold Hub.phaseLocked; simp)
    | (unfold Hub.phaseLocked; split <;> simp)
    | (unfold Hub.phaseLocked; repeat' split) <;> simp
    | (unfold Hub.phaseLocked; simp; repeat' split) <;> simp
    | (unfold Hub.phaseLocked; simp; repeat' (first | intro _ | split)) <;> simp_all
    | (unfold Hub.phaseLocked; repeat' (first | split | (simp; done))) <;> simp_all

@[simp] theorem Hub.alignBy_keeps (h : Hub) (x2 : Int) (x3 : Nat) (x4 : Nat) :
    (Hub.alignBy h x2 x3 x4).2.host.sram = h.host.sram ∧ (Hub.alignBy h x2 x3 x4).2.time.ltc = h.time.ltc := by
  first
    | (unfold Hub.alignBy; simp)
    | (unfold Hub.alignBy; split <;> simp)
    | (unfold Hub.alignBy; repeat' split) <;> simp
    | (unfold Hub.alignBy; simp; repeat' split) <;> simp
    | (unfold Hub.alignBy; simp; repeat' (first | intro _ | split)) <;> simp_all
    | (unfold Hub.alignBy; repeat' (first | split | (simp; done))) <;> simp_all

@[simp] theorem Hub.alignPhase_keeps (h : Hub) (x2 : Nat) (x3 : Nat) (x4 : Nat) :
    (Hub.alignPhase h x2 x3 x4).2.host.sram = h.host.sram ∧ (Hub.alignPhase h x2 x3 x4).2.time.ltc = h.time.ltc := by
  first
    | (unfold Hub.alignPhase; simp)
    | (unfold Hub.alignPhase; split <;> simp)
    | (unfold Hub.alignPhase; repeat' split) <;> simp
    | (unfold Hub.alignPhase; simp; repeat' split) <;> simp
    | (unfold Hub.alignPhase; simp; repeat' (first | intro _ | split)) <;> simp_all
    | (unfold Hub.alignPhase; repeat' (first | split | (simp; done))) <;> simp_all

@[simp] theorem Hub.acquire_keeps (h : Hub) (x2 : Nat) :
    (Hub.acquire h x2).host.sram = h.host.sram ∧ (Hub.acquire h x2).time.ltc = h.time.ltc := by
  first
    | (unfold Hub.acquire; simp)
    | (unfold Hub.acquire; split <;> simp)
    | (unfold Hub.acquire; repeat' split) <;> simp
    | (unfold Hub.acquire; simp; repeat' split) <;> simp
    | (unfold Hub.acquire; simp; repeat' (first | intro _ | split)) <;> simp_all
    | (unfold Hub.acquire; repeat' (first | split | (simp; done))) <;> simp_all

@[simp] theorem Hub.phcCoastLimit_keeps (h : Hub) :
    (Hub.phcCoastLimit h).host.sram = h.host.sram ∧ (Hub.phcCoastLimit h).time.ltc = h.time.ltc := by
  unfold Hub.phcCoastLimit; (repeat' split) <;> simp

@[simp] theorem Hub.canReference_keeps (h : Hub) (x2 : Nat) (x3 : List Byte) (x4 : Nat) :
    (Hub.canReference h x2 x3 x4).host.sram = h.host.sram ∧ (Hub.canReference h x2 x3 x4).time.ltc = h.time.ltc := by
  unfold Hub.canReference; simp

@[simp] theorem Hub.canReceive_keeps (h : Hub) (x2 : Nat) (x3 : CanFrame) (x4 : Bool) (x5 : Nat) :
    (Hub.canReceive h x2 x3 x4 x5).host.sram = h.host.sram ∧ (Hub.canReceive h x2 x3 x4 x5).time.ltc = h.time.ltc := by
  unfold Hub.canReceive; simp

@[simp] theorem Hub.busEvent_keeps (h : Hub) (x2 : Nat) (x3 : Nat) (x4 : Nat) (x5 : Bool) (x6 : Nat) :
    (Hub.busEvent h x2 x3 x4 x5 x6).host.sram = h.host.sram ∧ (Hub.busEvent h x2 x3 x4 x5 x6).time.ltc = h.time.ltc := by
  unfold Hub.busEvent; simp

@[simp] theorem Hub.canCounters_keeps (h : Hub) (x2 : Nat) (x3 : Nat) (x4 : Nat) (x5 : Nat) :
    (Hub.canCounters h x2 x3 x4 x5).host.sram = h.host.sram ∧ (Hub.canCounters h x2 x3 x4 x5).time.ltc = h.time.ltc := by
  unfold Hub.canCounters; simp

@[simp] theorem Hub.recAfter_keeps (h : Hub) (x2 : Nat) :
    (Hub.recAfter h x2).2.host.sram = h.host.sram ∧ (Hub.recAfter h x2).2.time.ltc = h.time.ltc := by
  unfold Hub.recAfter; simp

@[simp] theorem Hub.canFail_keeps (h : Hub) (x2 : Nat) (x3 : Nat) :
    (Hub.canFail h x2 x3).host.sram = h.host.sram ∧ (Hub.canFail h x2 x3).time.ltc = h.time.ltc := by
  unfold Hub.canFail; simp; (repeat' split) <;> simp

@[simp] theorem Hub.canError_keeps (h : Hub) (x2 : Nat) (x3 : Nat) (x4 : Bool) (x5 : Nat) (x6 : Bool) (x7 : Nat) :
    (Hub.canError h x2 x3 x4 x5 x6 x7).host.sram = h.host.sram ∧ (Hub.canError h x2 x3 x4 x5 x6 x7).time.ltc = h.time.ltc := by
  unfold Hub.canError; simp

@[simp] theorem Hub.canRx_keeps (h : Hub) (x2 : Nat) (x3 : CanFrame) (x4 : Nat) :
    (Hub.canRx h x2 x3 x4).host.sram = h.host.sram ∧ (Hub.canRx h x2 x3 x4).time.ltc = h.time.ltc := by
  unfold Hub.canRx; simp

@[simp] theorem Hub.seqHold_keeps (h : Hub) (x2 : Nat) :
    (Hub.seqHold h x2).host.sram = h.host.sram ∧ (Hub.seqHold h x2).time.ltc = h.time.ltc := by
  unfold Hub.seqHold; simp

@[simp] theorem Hub.requestDescs_keeps (h : Hub) (x2 : Nat) :
    (Hub.requestDescs h x2).host.sram = h.host.sram ∧ (Hub.requestDescs h x2).time.ltc = h.time.ltc := by
  unfold Hub.requestDescs; simp

@[simp] theorem Hub.doorbell_keeps (h : Hub) (x2 : RegPath) (x3 : Nat) (x4 : Nat) :
    (Hub.doorbell h x2 x3 x4).host.sram = h.host.sram ∧ (Hub.doorbell h x2 x3 x4).time.ltc = h.time.ltc := by
  first
    | (unfold Hub.doorbell; simp)
    | (unfold Hub.doorbell; split <;> simp)
    | (unfold Hub.doorbell; repeat' split) <;> simp
    | (unfold Hub.doorbell; simp; repeat' split) <;> simp
    | (unfold Hub.doorbell; simp; repeat' (first | intro _ | split)) <;> simp_all
    | (unfold Hub.doorbell; repeat' (first | split | (simp; done))) <;> simp_all

@[simp] theorem Hub.swRouted_keeps (h : Hub) (x2 : Nat) (x3 : Nat) (x4 : List Byte) :
    (Hub.swRouted h x2 x3 x4).host.sram = h.host.sram ∧ (Hub.swRouted h x2 x3 x4).time.ltc = h.time.ltc := by
  unfold Hub.swRouted; simp

@[simp] theorem Hub.udpReply_keeps (h : Hub) (x2 : UdpRequest) (x3 : List Byte) :
    (Hub.udpReply h x2 x3).host.sram = h.host.sram ∧ (Hub.udpReply h x2 x3).time.ltc = h.time.ltc := by
  unfold Hub.udpReply; simp

@[simp] theorem Hub.sendMgmt_keeps (h : Hub) (x2 : Nat) (x3 : List Byte) :
    (Hub.sendMgmt h x2 x3).host.sram = h.host.sram ∧ (Hub.sendMgmt h x2 x3).time.ltc = h.time.ltc := by
  unfold Hub.sendMgmt; simp

@[simp] theorem Hub.renewFor_keeps (h : Hub) (x2 : Requester) (x3 : Nat) :
    (Hub.renewFor h x2 x3).host.sram = h.host.sram ∧ (Hub.renewFor h x2 x3).time.ltc = h.time.ltc := by
  unfold Hub.renewFor; simp

@[simp] theorem Hub.serveHold_keeps (h : Hub) (x2 : KReq) :
    (Hub.serveHold h x2).2.host.sram = h.host.sram ∧ (Hub.serveHold h x2).2.time.ltc = h.time.ltc := by
  unfold Hub.serveHold; simp

@[simp] theorem Hub.qackClear_keeps (h : Hub) (x2 : Nat) (x3 : Nat) :
    (Hub.qackClear h x2 x3).host.sram = h.host.sram ∧ (Hub.qackClear h x2 x3).time.ltc = h.time.ltc := by
  unfold Hub.qackClear; simp

@[simp] theorem Hub.creditSync_keeps (h : Hub) (x2 : RegPath) (x3 : Nat) (x4 : Bool) :
    (Hub.creditSync h x2 x3 x4).host.sram = h.host.sram ∧ (Hub.creditSync h x2 x3 x4).time.ltc = h.time.ltc := by
  unfold Hub.creditSync; simp

@[simp] theorem Hub.npendClear_keeps (h : Hub) (x2 : Nat) :
    (Hub.npendClear h x2).host.sram = h.host.sram ∧ (Hub.npendClear h x2).time.ltc = h.time.ltc := by
  unfold Hub.npendClear; simp

@[simp] theorem Hub.requestAll_keeps (h : Hub) :
    (Hub.requestAll h).host.sram = h.host.sram ∧ (Hub.requestAll h).time.ltc = h.time.ltc := by
  unfold Hub.requestAll; simp

@[simp] theorem Hub.requestFence_keeps (h : Hub) (x2 : Nat) :
    (Hub.requestFence h x2).host.sram = h.host.sram ∧ (Hub.requestFence h x2).time.ltc = h.time.ltc := by
  unfold Hub.requestFence; simp

@[simp] theorem Hub.scanFail_keeps (h : Hub) (x2 : Nat) (x3 : Nat) (x4 : List Byte) :
    (Hub.scanFail h x2 x3 x4).host.sram = h.host.sram ∧ (Hub.scanFail h x2 x3 x4).time.ltc = h.time.ltc := by
  unfold Hub.scanFail; simp

@[simp] theorem Hub.scanGo_keeps (h : Hub) (x2 : Nat) :
    (Hub.scanGo h x2).host.sram = h.host.sram ∧ (Hub.scanGo h x2).time.ltc = h.time.ltc := by
  unfold Hub.scanGo; simp

@[simp] theorem Hub.scanGoWrite_keeps (h : Hub) (x2 : Nat) :
    (Hub.scanGoWrite h x2).host.sram = h.host.sram ∧ (Hub.scanGoWrite h x2).time.ltc = h.time.ltc := by
  unfold Hub.scanGoWrite; simp

@[simp] theorem Hub.seqflag_keeps (h : Hub) (x2 : RegPath) (x3 : Nat) (x4 : Nat) :
    (Hub.seqflag h x2 x3 x4).host.sram = h.host.sram ∧ (Hub.seqflag h x2 x3 x4).time.ltc = h.time.ltc := by
  first
    | (unfold Hub.seqflag; simp)
    | (unfold Hub.seqflag; split <;> simp)
    | (unfold Hub.seqflag; repeat' split) <;> simp
    | (unfold Hub.seqflag; simp; repeat' split) <;> simp
    | (unfold Hub.seqflag; simp; repeat' (first | intro _ | split)) <;> simp_all
    | (unfold Hub.seqflag; repeat' (first | split | (simp; done))) <;> simp_all

@[simp] theorem Hub.regWrite_keeps (h : Hub) (x2 : RegPath) (x3 : Nat) (x4 : Nat) :
    (Hub.regWrite h x2 x3 x4).host.sram = h.host.sram ∧ (Hub.regWrite h x2 x3 x4).time.ltc = h.time.ltc := by
  first
    | (unfold Hub.regWrite; simp)
    | (unfold Hub.regWrite; split <;> simp)
    | (unfold Hub.regWrite; repeat' split) <;> simp
    | (unfold Hub.regWrite; simp; repeat' split) <;> simp
    | (unfold Hub.regWrite; simp; repeat' (first | intro _ | split)) <;> simp_all
    | (unfold Hub.regWrite; repeat' (first | split | (simp; done))) <;> simp_all

@[simp] theorem Hub.serveRegWrite_keeps (h : Hub) (x2 : KReq) :
    (Hub.serveRegWrite h x2).2.host.sram = h.host.sram ∧ (Hub.serveRegWrite h x2).2.time.ltc = h.time.ltc := by
  unfold Hub.serveRegWrite; simp; (repeat' split) <;> simp

@[simp] theorem Hub.serveRegRead_keeps (h : Hub) (x2 : KReq) :
    (Hub.serveRegRead h x2).2.host.sram = h.host.sram ∧ (Hub.serveRegRead h x2).2.time.ltc = h.time.ltc := by
  unfold Hub.serveRegRead; simp; (repeat' split) <;> simp

@[simp] theorem Hub.serveHandover_keeps (h : Hub) (x2 : KReq) :
    (Hub.serveHandover h x2).2.host.sram = h.host.sram ∧ (Hub.serveHandover h x2).2.time.ltc = h.time.ltc := by
  unfold Hub.serveHandover; simp

@[simp] theorem Hub.segStaging_keeps (h : Hub) (x2 : DictMsg) (x3 : Session) :
    (Hub.segStaging h x2 x3).2.host.sram = h.host.sram ∧ (Hub.segStaging h x2 x3).2.time.ltc = h.time.ltc := by
  unfold Hub.segStaging; simp

@[simp] theorem Hub.serveSegData_keeps (h : Hub) (x2 : KReq) :
    (Hub.serveSegData h x2).2.host.sram = h.host.sram ∧ (Hub.serveSegData h x2).2.time.ltc = h.time.ltc := by
  unfold Hub.serveSegData; (repeat' split) <;> simp

@[simp] theorem Hub.openSession_keeps (h : Hub) (x2 : DictMsg) (x3 : Session) :
    (Hub.openSession h x2 x3).2.host.sram = h.host.sram ∧ (Hub.openSession h x2 x3).2.time.ltc = h.time.ltc := by
  unfold Hub.openSession; simp

@[simp] theorem Hub.segStartWrite_keeps (h : Hub) (x2 : KReq) :
    (Hub.segStartWrite h x2).2.host.sram = h.host.sram ∧ (Hub.segStartWrite h x2).2.time.ltc = h.time.ltc := by
  unfold Hub.segStartWrite; simp

@[simp] theorem Hub.ledgerRead_keeps (h : Hub) :
    (Hub.ledgerRead h).2.host.sram = h.host.sram ∧ (Hub.ledgerRead h).2.time.ltc = h.time.ltc := by
  unfold Hub.ledgerRead; simp; (repeat' split) <;> simp

@[simp] theorem Hub.readValue_keeps (h : Hub) (x2 : Nat) (x3 : Nat) (x4 : Desc) :
    (Hub.readValue h x2 x3 x4).2.host.sram = h.host.sram ∧ (Hub.readValue h x2 x3 x4).2.time.ltc = h.time.ltc := by
  unfold Hub.readValue; simp

@[simp] theorem Hub.segStartRead_keeps (h : Hub) (x2 : KReq) :
    (Hub.segStartRead h x2).2.host.sram = h.host.sram ∧ (Hub.segStartRead h x2).2.time.ltc = h.time.ltc := by
  unfold Hub.segStartRead; simp

@[simp] theorem Hub.serveWrite_keeps (h : Hub) (x2 : KReq) :
    (Hub.serveWrite h x2).2.host.sram = h.host.sram ∧ (Hub.serveWrite h x2).2.time.ltc = h.time.ltc := by
  unfold Hub.serveWrite; simp

@[simp] theorem Hub.serveRead_keeps (h : Hub) (x2 : KReq) :
    (Hub.serveRead h x2).2.host.sram = h.host.sram ∧ (Hub.serveRead h x2).2.time.ltc = h.time.ltc := by
  unfold Hub.serveRead; simp

@[simp] theorem Hub.handle_keeps (h : Hub) (x2 : KReq) :
    (Hub.handle h x2).2.host.sram = h.host.sram ∧ (Hub.handle h x2).2.time.ltc = h.time.ltc := by
  unfold Hub.handle; simp

@[simp] theorem Hub.authFailed_keeps (h : Hub) (x2 : Nat) (x3 : Nat) (x4 : Nat) :
    (Hub.authFailed h x2 x3 x4).host.sram = h.host.sram ∧ (Hub.authFailed h x2 x3 x4).time.ltc = h.time.ltc := by
  unfold Hub.authFailed; simp

@[simp] theorem Hub.postWrite_keeps (h : Hub) (x2 : Nat) (x3 : Nat) (x4 : Nat) (x5 : Nat) (x6 : List Byte) :
    (Hub.postWrite h x2 x3 x4 x5 x6).host.sram = h.host.sram ∧ (Hub.postWrite h x2 x3 x4 x5 x6).time.ltc = h.time.ltc := by
  unfold Hub.postWrite; simp

@[simp] theorem Hub.bulkData_keeps (h : Hub) (x2 : Nat) (x3 : QDesc) (x4 : List Byte) (x5 : Nat) :
    (Hub.bulkData h x2 x3 x4 x5).host.sram = h.host.sram ∧ (Hub.bulkData h x2 x3 x4 x5).time.ltc = h.time.ltc := by
  first
    | (unfold Hub.bulkData; simp)
    | (unfold Hub.bulkData; split <;> simp)
    | (unfold Hub.bulkData; repeat' split) <;> simp
    | (unfold Hub.bulkData; simp; repeat' split) <;> simp
    | (unfold Hub.bulkData; simp; repeat' (first | intro _ | split)) <;> simp_all
    | (unfold Hub.bulkData; repeat' (first | split | (simp; done))) <;> simp_all

@[simp] theorem Hub.orphanRest_keeps (h : Hub) (x2 : Nat) :
    (Hub.orphanRest h x2).host.sram = h.host.sram ∧ (Hub.orphanRest h x2).time.ltc = h.time.ltc := by
  unfold Hub.orphanRest; simp

@[simp] theorem Hub.dataFailed_keeps (h : Hub) (x2 : Nat) (x3 : QDesc) (x4 : List Byte) :
    (Hub.dataFailed h x2 x3 x4).host.sram = h.host.sram ∧ (Hub.dataFailed h x2 x3 x4).time.ltc = h.time.ltc := by
  first
    | (unfold Hub.dataFailed; simp)
    | (unfold Hub.dataFailed; split <;> simp)
    | (unfold Hub.dataFailed; repeat' split) <;> simp
    | (unfold Hub.dataFailed; simp; repeat' split) <;> simp
    | (unfold Hub.dataFailed; simp; repeat' (first | intro _ | split)) <;> simp_all
    | (unfold Hub.dataFailed; repeat' (first | split | (simp; done))) <;> simp_all

@[simp] theorem Hub.dataRead_keeps (h : Hub) (x2 : Nat) (x3 : Bool) (x4 : List Byte) :
    (Hub.dataRead h x2 x3 x4).host.sram = h.host.sram ∧ (Hub.dataRead h x2 x3 x4).time.ltc = h.time.ltc := by
  unfold Hub.dataRead
  dsimp only
  split
  · simp
  · split
    · simp
    · split <;> simp
@[simp] theorem Hub.subCommand_keeps (h : Hub) (x2 : List Byte) (x3 : Nat) :
    (Hub.subCommand h x2 x3).host.sram = h.host.sram ∧ (Hub.subCommand h x2 x3).time.ltc = h.time.ltc := by
  unfold Hub.subCommand; simp

@[simp] theorem Hub.subDefault_keeps (h : Hub) (x2 : List Byte) :
    (Hub.subDefault h x2).host.sram = h.host.sram ∧ (Hub.subDefault h x2).time.ltc = h.time.ltc := by
  unfold Hub.subDefault; (repeat' split) <;> simp

@[simp] theorem Hub.subApply_keeps (h : Hub) (x2 : Nat) (x3 : GoosePdu) :
    (Hub.subApply h x2 x3).host.sram = h.host.sram ∧ (Hub.subApply h x2 x3).time.ltc = h.time.ltc := by
  unfold Hub.subApply
  refine foldl_keeps _ (fun h x => ?_) _ _
  dsimp only; split <;> simp

@[simp] theorem Hub.linkDelayMeasure_keeps (h : Hub) (x2 : Bool) :
    (Hub.linkDelayMeasure h x2).host.sram = h.host.sram ∧ (Hub.linkDelayMeasure h x2).time.ltc = h.time.ltc := by
  unfold Hub.linkDelayMeasure; simp

@[simp] theorem Hub.seqFloat_keeps (h : Hub) (x2 : Nat) :
    (Hub.seqFloat h x2).host.sram = h.host.sram ∧ (Hub.seqFloat h x2).time.ltc = h.time.ltc := by
  unfold Hub.seqFloat; simp

@[simp] theorem Hub.canCut_keeps (h : Hub) (x2 : Nat) :
    (Hub.canCut h x2).host.sram = h.host.sram ∧ (Hub.canCut h x2).time.ltc = h.time.ltc := by
  unfold Hub.canCut; simp

@[simp] theorem Hub.wetEnd_keeps (h : Hub) (x2 : Nat) :
    (Hub.wetEnd h x2).host.sram = h.host.sram ∧ (Hub.wetEnd h x2).time.ltc = h.time.ltc := by
  unfold Hub.wetEnd; simp

@[simp] theorem Hub.disableDriver_keeps (h : Hub) (x2 : Nat) :
    (Hub.disableDriver h x2).host.sram = h.host.sram ∧ (Hub.disableDriver h x2).time.ltc = h.time.ltc := by
  unfold Hub.disableDriver; simp

@[simp] theorem Hub.sampleStep_keeps (h : Hub) (x2 : Nat) (x3 : Bool) (x4 : Nat) :
    (Hub.sampleStep h x2 x3 x4).host.sram = h.host.sram ∧ (Hub.sampleStep h x2 x3 x4).time.ltc = h.time.ltc := by
  unfold Hub.sampleStep; simp

@[simp] theorem Hub.canArbLost_keeps (h : Hub) (x2 : Nat) :
    (Hub.canArbLost h x2).host.sram = h.host.sram ∧ (Hub.canArbLost h x2).time.ltc = h.time.ltc := by
  unfold Hub.canArbLost; simp

@[simp] theorem Hub.releaseHeldList_keeps (h : Hub) (x2 : List Notice) :
    (Hub.releaseHeldList h x2).host.sram = h.host.sram ∧ (Hub.releaseHeldList h x2).time.ltc = h.time.ltc := by
  induction x2 generalizing h with
  | nil => simp [Hub.releaseHeldList]
  | cons n ns ih => unfold Hub.releaseHeldList; simp [ih]

@[simp] theorem Hub.ptpInterval_keeps (h : Hub) (x2 : Nat) (x3 : PtpKind) :
    (Hub.ptpInterval h x2 x3).host.sram = h.host.sram ∧ (Hub.ptpInterval h x2 x3).time.ltc = h.time.ltc := by
  unfold Hub.ptpInterval; (repeat' split) <;> simp

@[simp] theorem Hub.takeUtc_keeps (h : Hub) (x2 : Option Int) :
    (Hub.takeUtc h x2).host.sram = h.host.sram ∧ (Hub.takeUtc h x2).time.ltc = h.time.ltc := by
  unfold Hub.takeUtc; (repeat' split) <;> simp

@[simp] theorem Hub.newSegment_keeps (h : Hub) (x2 : Nat) (x3 : Int) :
    (Hub.newSegment h x2 x3).host.sram = h.host.sram ∧ (Hub.newSegment h x2 x3).time.ltc = h.time.ltc := by
  unfold Hub.newSegment; simp

@[simp] theorem Hub.stepTime_keeps (h : Hub) (x2 : Int) :
    (Hub.stepTime h x2).host.sram = h.host.sram ∧ (Hub.stepTime h x2).time.ltc = h.time.ltc := by
  unfold Hub.stepTime; simp

@[simp] theorem Hub.removeOffset_keeps (h : Hub) (x2 : Int) :
    (Hub.removeOffset h x2).host.sram = h.host.sram ∧ (Hub.removeOffset h x2).time.ltc = h.time.ltc := by
  unfold Hub.removeOffset; simp

@[simp] theorem Hub.selectSource_keeps (h : Hub) (x2 : Nat) (x3 : Int) (x4 : Int) (x5 : Option Int) :
    (Hub.selectSource h x2 x3 x4 x5).host.sram = h.host.sram ∧ (Hub.selectSource h x2 x3 x4 x5).time.ltc = h.time.ltc := by
  unfold Hub.selectSource; simp

@[simp] theorem Hub.timeSourceQualified_keeps (h : Hub) (x2 : TimeSource) (x3 : Int) (x4 : Int) (x5 : Option Int) :
    (Hub.timeSourceQualified h x2 x3 x4 x5).host.sram = h.host.sram ∧ (Hub.timeSourceQualified h x2 x3 x4 x5).time.ltc = h.time.ltc := by
  unfold Hub.timeSourceQualified; simp; (repeat' split) <;> simp

@[simp] theorem Hub.gocbActive_keeps (h : Hub) :
    (Hub.gocbActive h).host.sram = h.host.sram ∧ (Hub.gocbActive h).time.ltc = h.time.ltc := by
  unfold Hub.gocbActive; simp

@[simp] theorem Hub.becomeActive_keeps (h : Hub) (x2 : Nat) (x3 : Nat) :
    (Hub.becomeActive h x2 x3).host.sram = h.host.sram ∧ (Hub.becomeActive h x2 x3).time.ltc = h.time.ltc := by
  unfold Hub.becomeActive; simp

@[simp] theorem Hub.neighbourFrame_keeps (h : Hub) (x2 : Bool) (x3 : RingFrame) (x4 : Nat) :
    (Hub.neighbourFrame h x2 x3 x4).2.host.sram = h.host.sram ∧ (Hub.neighbourFrame h x2 x3 x4).2.time.ltc = h.time.ltc := by
  first
    | (unfold Hub.neighbourFrame; simp)
    | (unfold Hub.neighbourFrame; split <;> simp)
    | (unfold Hub.neighbourFrame; repeat' split) <;> simp
    | (unfold Hub.neighbourFrame; simp; repeat' split) <;> simp
    | (unfold Hub.neighbourFrame; simp; repeat' (first | intro _ | split)) <;> simp_all
    | (unfold Hub.neighbourFrame; repeat' (first | split | (simp; done))) <;> simp_all

@[simp] theorem Hub.delayRespRx_keeps (h : Hub) (x2 : Bool) (x3 : RingFrame) :
    (Hub.delayRespRx h x2 x3).host.sram = h.host.sram ∧ (Hub.delayRespRx h x2 x3).time.ltc = h.time.ltc := by
  unfold Hub.delayRespRx; simp

@[simp] theorem Hub.takeRedSeq_keeps (h : Hub) :
    (Hub.takeRedSeq h).2.host.sram = h.host.sram ∧ (Hub.takeRedSeq h).2.time.ltc = h.time.ltc := by
  unfold Hub.takeRedSeq; simp

@[simp] theorem Hub.staSendBoth_keeps (h : Hub) (x2 : StaTx) :
    (Hub.staSendBoth h x2).host.sram = h.host.sram ∧ (Hub.staSendBoth h x2).time.ltc = h.time.ltc := by
  unfold Hub.staSendBoth; simp

@[simp] theorem Hub.faultOff_keeps (h : Hub) (x2 : Nat) (x3 : Nat) :
    (Hub.faultOff h x2 x3).host.sram = h.host.sram ∧ (Hub.faultOff h x2 x3).time.ltc = h.time.ltc := by
  unfold Hub.faultOff; simp

@[simp] theorem Hub.faultStop_keeps (h : Hub) (x2 : Nat) (x3 : Nat) :
    (Hub.faultStop h x2 x3).host.sram = h.host.sram ∧ (Hub.faultStop h x2 x3).time.ltc = h.time.ltc := by
  unfold Hub.faultStop; (repeat' split) <;> simp

@[simp] theorem Hub.pcieReset_keeps (h : Hub) :
    (Hub.pcieReset h).host.sram = h.host.sram ∧ (Hub.pcieReset h).time.ltc = h.time.ltc := by
  unfold Hub.pcieReset
  dsimp only
  split <;> simp
@[simp] theorem Hub.lockLost_keeps (h : Hub) (x2 : Bool) :
    (Hub.lockLost h x2).host.sram = h.host.sram ∧ (Hub.lockLost h x2).time.ltc = h.time.ltc := by
  unfold Hub.lockLost; simp

@[simp] theorem Hub.supplyOutNow_keeps (h : Hub) (x2 : Rail) :
    (Hub.supplyOutNow h x2).host.sram = h.host.sram ∧ (Hub.supplyOutNow h x2).time.ltc = h.time.ltc := by
  cases x2 <;> unfold Hub.supplyOutNow <;> simp

@[simp] theorem Hub.supplyOut_keeps (h : Hub) (x2 : Rail) :
    (Hub.supplyOut h x2).host.sram = h.host.sram ∧ (Hub.supplyOut h x2).time.ltc = h.time.ltc := by
  unfold Hub.supplyOut; (repeat' split) <;> simp

@[simp] theorem Hub.fetFault_keeps (h : Hub) (x2 : Nat) :
    (Hub.fetFault h x2).host.sram = h.host.sram ∧ (Hub.fetFault h x2).time.ltc = h.time.ltc := by
  unfold Hub.fetFault; simp

@[simp] theorem Hub.dormantWork_keeps (h : Hub) :
    (Hub.dormantWork h).host.sram = h.host.sram ∧ (Hub.dormantWork h).time.ltc = h.time.ltc := by
  unfold Hub.dormantWork; simp

@[simp] theorem Hub.loadWord_keeps (h : Hub) (x2 : Nat) (x3 : Nat) :
    (Hub.loadWord h x2 x3).host.sram = h.host.sram ∧ (Hub.loadWord h x2 x3).time.ltc = h.time.ltc := by
  unfold Hub.loadWord; simp

@[simp] theorem Hub.afterActive_keeps (h : Hub) :
    (Hub.afterActive h).host.sram = h.host.sram ∧ (Hub.afterActive h).time.ltc = h.time.ltc := by
  unfold Hub.afterActive; simp

@[simp] theorem Hub.takeAgain_keeps (h : Hub) (x2 : Nat) :
    (Hub.takeAgain h x2).host.sram = h.host.sram ∧ (Hub.takeAgain h x2).time.ltc = h.time.ltc := by
  unfold Hub.takeAgain; simp

@[simp] theorem Hub.takeOver_keeps (h : Hub) (x2 : Nat) (x3 : Nat) :
    (Hub.takeOver h x2 x3).host.sram = h.host.sram ∧ (Hub.takeOver h x2 x3).time.ltc = h.time.ltc := by
  unfold Hub.takeOver; simp

@[simp] theorem Hub.dupBoundary_keeps (h : Hub) :
    (Hub.dupBoundary h).host.sram = h.host.sram ∧ (Hub.dupBoundary h).time.ltc = h.time.ltc := by
  unfold Hub.dupBoundary; simp; (repeat' split) <;> simp

@[simp] theorem Hub.chanFaultOff_keeps (h : Hub) (x2 : Nat) (x3 : Nat) :
    (Hub.chanFaultOff h x2 x3).host.sram = h.host.sram ∧ (Hub.chanFaultOff h x2 x3).time.ltc = h.time.ltc := by
  unfold Hub.chanFaultOff; simp

@[simp] theorem Hub.readbackFail_keeps (h : Hub) (x2 : Nat) (x3 : Bool) :
    (Hub.readbackFail h x2 x3).host.sram = h.host.sram ∧ (Hub.readbackFail h x2 x3).time.ltc = h.time.ltc := by
  unfold Hub.readbackFail; simp

@[simp] theorem Hub.readbackWindow_keeps (h : Hub) (x2 : Nat) (x3 : Bool) :
    (Hub.readbackWindow h x2 x3).host.sram = h.host.sram ∧ (Hub.readbackWindow h x2 x3).time.ltc = h.time.ltc := by
  unfold Hub.readbackWindow; simp

@[simp] theorem Hub.seqBranch_keeps (h : Hub) (x2 : Nat) (x3 : Nat → Bool) (x4 : Hub → Nat → Bool) :
    (Hub.seqBranch h x2 x3 x4).host.sram = h.host.sram ∧ (Hub.seqBranch h x2 x3 x4).time.ltc = h.time.ltc := by
  unfold Hub.seqBranch; simp

@[simp] theorem Hub.toutTimedEdge_keeps (h : Hub) (x2 : Nat) (x3 : Bool) :
    (Hub.toutTimedEdge h x2 x3).host.sram = h.host.sram ∧ (Hub.toutTimedEdge h x2 x3).time.ltc = h.time.ltc := by
  unfold Hub.toutTimedEdge; simp

@[simp] theorem Hub.phcSourcePresent_keeps (h : Hub) (x2 : PhaseSource) :
    (Hub.phcSourcePresent h x2).host.sram = h.host.sram ∧ (Hub.phcSourcePresent h x2).time.ltc = h.time.ltc := by
  unfold Hub.phcSourcePresent; simp; (repeat' split) <;> simp

@[simp] theorem Hub.ptpStart_keeps (h : Hub) :
    (Hub.ptpStart h).host.sram = h.host.sram ∧ (Hub.ptpStart h).time.ltc = h.time.ltc := by
  unfold Hub.ptpStart; simp

@[simp] theorem Hub.dupStart_keeps (h : Hub) :
    (Hub.dupStart h).host.sram = h.host.sram ∧ (Hub.dupStart h).time.ltc = h.time.ltc := by
  unfold Hub.dupStart; simp

@[simp] theorem Hub.subStart_keeps (h : Hub) (x2 : Nat) :
    (Hub.subStart h x2).host.sram = h.host.sram ∧ (Hub.subStart h x2).time.ltc = h.time.ltc := by
  unfold Hub.subStart; simp

@[simp] theorem Hub.gocbStart_keeps (h : Hub) (x2 : Nat) :
    (Hub.gocbStart h x2).host.sram = h.host.sram ∧ (Hub.gocbStart h x2).time.ltc = h.time.ltc := by
  unfold Hub.gocbStart; simp

@[simp] theorem Hub.releaseHeld_keeps (h : Hub) :
    (Hub.releaseHeld h).host.sram = h.host.sram ∧ (Hub.releaseHeld h).time.ltc = h.time.ltc := by
  unfold Hub.releaseHeld; simp

@[simp] theorem Hub.canStart_keeps (h : Hub) (x2 : Nat) :
    (Hub.canStart h x2).host.sram = h.host.sram ∧ (Hub.canStart h x2).time.ltc = h.time.ltc := by
  unfold Hub.canStart; simp

@[simp] theorem Hub.ringPortStart_keeps (h : Hub) (x2 : Nat) :
    (Hub.ringPortStart h x2).host.sram = h.host.sram ∧ (Hub.ringPortStart h x2).time.ltc = h.time.ltc := by
  first
    | (unfold Hub.ringPortStart; simp)
    | (unfold Hub.ringPortStart; split <;> simp)
    | (unfold Hub.ringPortStart; repeat' split) <;> simp
    | (unfold Hub.ringPortStart; simp; repeat' split) <;> simp
    | (unfold Hub.ringPortStart; simp; repeat' (first | intro _ | split)) <;> simp_all
    | (unfold Hub.ringPortStart; repeat' (first | split | (simp; done))) <;> simp_all

@[simp] theorem Hub.fnOn_keeps (h : Hub) (x2 : Fn) :
    (Hub.fnOn h x2).host.sram = h.host.sram ∧ (Hub.fnOn h x2).time.ltc = h.time.ltc := by
  unfold Hub.fnOn; (repeat' split) <;> simp

@[simp] theorem Hub.startComplete_keeps (h : Hub) (x2 : Nat) (x3 : BankClass) :
    (Hub.startComplete h x2 x3).host.sram = h.host.sram ∧ (Hub.startComplete h x2 x3).time.ltc = h.time.ltc := by
  unfold Hub.startComplete; (repeat' split) <;> simp

@[simp] theorem Hub.readyNow_keeps (h : Hub) (x2 : Nat) :
    (Hub.readyNow h x2).host.sram = h.host.sram ∧ (Hub.readyNow h x2).time.ltc = h.time.ltc := by
  unfold Hub.readyNow; simp

@[simp] theorem Hub.uartSent_keeps (h : Hub) (x2 : Nat) :
    (Hub.uartSent h x2).host.sram = h.host.sram ∧ (Hub.uartSent h x2).time.ltc = h.time.ltc := by
  unfold Hub.uartSent; simp

@[simp] theorem Hub.storeFrame_keeps (h : Hub) (x2 : SwFrame) :
    (Hub.storeFrame h x2).host.sram = h.host.sram ∧ (Hub.storeFrame h x2).time.ltc = h.time.ltc := by
  unfold Hub.storeFrame; simp

@[simp] theorem Hub.gocbRetransmit_keeps (h : Hub) (x2 : Nat) :
    (Hub.gocbRetransmit h x2).host.sram = h.host.sram ∧ (Hub.gocbRetransmit h x2).time.ltc = h.time.ltc := by
  unfold Hub.gocbRetransmit; simp

@[simp] theorem Hub.parentUtc_keeps (h : Hub) :
    (Hub.parentUtc h).host.sram = h.host.sram ∧ (Hub.parentUtc h).time.ltc = h.time.ltc := by
  first
    | (unfold Hub.parentUtc; simp)
    | (unfold Hub.parentUtc; split <;> simp)
    | (unfold Hub.parentUtc; repeat' split) <;> simp
    | (unfold Hub.parentUtc; simp; repeat' split) <;> simp
    | (unfold Hub.parentUtc; simp; repeat' (first | intro _ | split)) <;> simp_all
    | (unfold Hub.parentUtc; repeat' (first | split | (simp; done))) <;> simp_all

@[simp] theorem Hub.ptpAnnounce_keeps (h : Hub) (x2 : Nat) (x3 : List Byte) :
    (Hub.ptpAnnounce h x2 x3).host.sram = h.host.sram ∧ (Hub.ptpAnnounce h x2 x3).time.ltc = h.time.ltc := by
  unfold Hub.ptpAnnounce; simp

@[simp] theorem Hub.measureOffset_keeps (h : Hub) (x2 : Int) :
    (Hub.measureOffset h x2).host.sram = h.host.sram ∧ (Hub.measureOffset h x2).time.ltc = h.time.ltc := by
  unfold Hub.measureOffset; simp

@[simp] theorem Hub.ptpMeasured_keeps (h : Hub) (x2 : Nat) (x3 : Int) :
    (Hub.ptpMeasured h x2 x3).host.sram = h.host.sram ∧ (Hub.ptpMeasured h x2 x3).time.ltc = h.time.ltc := by
  first
    | (unfold Hub.ptpMeasured; simp)
    | (unfold Hub.ptpMeasured; split <;> simp)
    | (unfold Hub.ptpMeasured; repeat' split) <;> simp
    | (unfold Hub.ptpMeasured; simp; repeat' split) <;> simp
    | (unfold Hub.ptpMeasured; simp; repeat' (first | intro _ | split)) <;> simp_all
    | (unfold Hub.ptpMeasured; repeat' (first | split | (simp; done))) <;> simp_all

@[simp] theorem Hub.tcForward_keeps (h : Hub) (x2 : Nat) (x3 : List Byte) (x4 : Nat) (x5 : Int) :
    (Hub.tcForward h x2 x3 x4 x5).host.sram = h.host.sram ∧ (Hub.tcForward h x2 x3 x4 x5).time.ltc = h.time.ltc := by
  unfold Hub.tcForward; simp

@[simp] theorem Hub.ptpMessage_keeps (h : Hub) (x2 : Nat) (x3 : Nat) (x4 : List Byte) :
    (Hub.ptpMessage h x2 x3 x4).host.sram = h.host.sram ∧ (Hub.ptpMessage h x2 x3 x4).time.ltc = h.time.ltc := by
  unfold Hub.ptpMessage; simp; (repeat' split) <;> simp

@[simp] theorem Hub.canIntegrate_keeps (h : Hub) (x2 : Nat) :
    (Hub.canIntegrate h x2).host.sram = h.host.sram ∧ (Hub.canIntegrate h x2).time.ltc = h.time.ltc := by
  unfold Hub.canIntegrate; simp

@[simp] theorem Hub.failDesc_keeps (h : Hub) (x2 : Nat) (x3 : QDesc) (x4 : Nat) :
    (Hub.failDesc h x2 x3 x4).host.sram = h.host.sram ∧ (Hub.failDesc h x2 x3 x4).time.ltc = h.time.ltc := by
  unfold Hub.failDesc; simp

@[simp] theorem Hub.moveCell_keeps (h : Hub) (x2 : Nat) (x3 : SwMatch) :
    (Hub.moveCell h x2 x3).host.sram = h.host.sram ∧ (Hub.moveCell h x2 x3).time.ltc = h.time.ltc := by
  unfold Hub.moveCell; (repeat' split) <;> simp

@[simp] theorem Hub.rga_keeps (h : Hub) (x2 : Bool) :
    (Hub.rga h x2).host.sram = h.host.sram ∧ (Hub.rga h x2).time.ltc = h.time.ltc := by
  unfold Hub.rga
  refine foldl_keeps _ (fun h x => ?_) _ _
  dsimp only; (repeat' split) <;> simp

@[simp] theorem Hub.writeCell_keeps (h : Hub) (x2 : Nat) (x3 : SwFrame) :
    (Hub.writeCell h x2 x3).host.sram = h.host.sram ∧ (Hub.writeCell h x2 x3).time.ltc = h.time.ltc := by
  first
    | (unfold Hub.writeCell; simp)
    | (unfold Hub.writeCell; split <;> simp)
    | (unfold Hub.writeCell; repeat' split) <;> simp
    | (unfold Hub.writeCell; simp; repeat' split) <;> simp
    | (unfold Hub.writeCell; simp; repeat' (first | intro _ | split)) <;> simp_all
    | (unfold Hub.writeCell; repeat' (first | split | (simp; done))) <;> simp_all

@[simp] theorem Hub.writeCells_keeps (h : Hub) :
    (Hub.writeCells h).host.sram = h.host.sram ∧ (Hub.writeCells h).time.ltc = h.time.ltc := by
  unfold Hub.writeCells
  exact foldl_keeps _ (fun h x => by split <;> simp) _ _
@[simp] theorem Hub.cellTime_keeps (h : Hub) :
    (h.cellTime).host.sram = h.host.sram ∧ (h.cellTime).time.ltc = h.time.ltc := by
  unfold Hub.cellTime
  dsimp only
  refine ⟨?_, ?_⟩
  · rw [foldl_sram _ (fun h x => by split <;> simp)]; simp
  · rw [foldl_ltc _ (fun h x => by split <;> simp)]; simp

@[simp] theorem Hub.laneSend_keeps (h : Hub) (x2 : Bool) (x3 : Lane) (x4 : RingFrame) :
    (Hub.laneSend h x2 x3 x4).host.sram = h.host.sram ∧ (Hub.laneSend h x2 x3 x4).time.ltc = h.time.ltc := by
  unfold Hub.laneSend; simp

@[simp] theorem Hub.txFrameDone_keeps (h : Hub) (x2 : Bool) :
    (Hub.txFrameDone h x2).host.sram = h.host.sram ∧ (Hub.txFrameDone h x2).time.ltc = h.time.ltc := by
  unfold Hub.txFrameDone; simp; (repeat' split) <;> simp

@[simp] theorem Hub.setPart_keeps (h : Hub) (x2 : ReadPart) :
    (Hub.setPart h x2).host.sram = h.host.sram ∧ (Hub.setPart h x2).time.ltc = h.time.ltc := by
  unfold Hub.setPart; simp

@[simp] theorem Hub.takeRdx_keeps (h : Hub) (x2 : RingFrame) :
    (Hub.takeRdx h x2).host.sram = h.host.sram ∧ (Hub.takeRdx h x2).time.ltc = h.time.ltc := by
  unfold Hub.takeRdx; (repeat' split) <;> simp

@[simp] theorem Hub.seqDecNz_keeps (h : Hub) (x2 : Nat) :
    (Hub.seqDecNz h x2).host.sram = h.host.sram ∧ (Hub.seqDecNz h x2).time.ltc = h.time.ltc := by
  unfold Hub.seqDecNz; simp

@[simp] theorem Hub.trip_keeps (h : Hub) (x2 : Nat) :
    (Hub.trip h x2).host.sram = h.host.sram ∧ (Hub.trip h x2).time.ltc = h.time.ltc := by
  unfold Hub.trip; simp

@[simp] theorem Hub.sampledTrip_keeps (h : Hub) (x2 : Nat) :
    (Hub.sampledTrip h x2).host.sram = h.host.sram ∧ (Hub.sampledTrip h x2).time.ltc = h.time.ltc := by
  unfold Hub.sampledTrip; simp

@[simp] theorem Hub.lanHeard_keeps (h : Hub) (x2 : Nat) :
    (Hub.lanHeard h x2).host.sram = h.host.sram ∧ (Hub.lanHeard h x2).time.ltc = h.time.ltc := by
  unfold Hub.lanHeard; simp

@[simp] theorem Hub.startEnabled_keeps (h : Hub) (pick : Nat → Bool) :
    (h.startEnabled pick).host.sram = h.host.sram ∧ (h.startEnabled pick).time.ltc = h.time.ltc := by
  unfold Hub.startEnabled
  generalize ([fidRingPort 0, fidRingPort 1] ++ (List.range 18).map fidPort ++ (List.range 16).map fidWindow
    ++ (List.range 16).map fidAperture ++ (List.range 64).map fidQueue ++ (List.range 192).map fidChannel ++ (List.range 48).map fidCan
    ++ (List.range 24).map fidSeq ++ [fidStation 0, fidStation 1, fidPtp] ++ (List.range 128).map fidGocb ++ (List.range 256).map fidSub
    ++ [fidDuplex, fidService] ++ (List.range 3).map fidScan) = order
  refine foldl_keeps _ (fun h x => ?_) _ _
  split <;> simp

@[simp] theorem Hub.wakeRecord_keeps (h : Hub) (x2 : Nat) :
    (Hub.wakeRecord h x2).host.sram = h.host.sram ∧ (Hub.wakeRecord h x2).time.ltc = h.time.ltc := by
  simp only [Hub.wakeRecord]; (repeat' split) <;> simp [*]

@[simp] theorem Hub.restWake_keeps (h : Hub) :
    (Hub.restWake h).host.sram = h.host.sram ∧ (Hub.restWake h).time.ltc = h.time.ltc := by
  unfold Hub.restWake; simp

@[simp] theorem Hub.entryRefused_keeps (h : Hub) :
    (Hub.entryRefused h).host.sram = h.host.sram ∧ (Hub.entryRefused h).time.ltc = h.time.ltc := by
  unfold Hub.entryRefused; simp; (repeat' split) <;> simp

@[simp] theorem Hub.claimPersisted_keeps (h : Hub) (x2 : Bool) :
    (Hub.claimPersisted h x2).host.sram = h.host.sram ∧ (Hub.claimPersisted h x2).time.ltc = h.time.ltc := by
  unfold Hub.claimPersisted; (repeat' split) <;> simp

@[simp] theorem Hub.ltcNowRead_keeps (h : Hub) (x2 : RegPath) :
    (Hub.ltcNowRead h x2).host.sram = h.host.sram ∧ (Hub.ltcNowRead h x2).time.ltc = h.time.ltc := by
  unfold Hub.ltcNowRead; simp

@[simp] theorem Hub.joinTimeout_keeps (h : Hub) :
    (Hub.joinTimeout h).host.sram = h.host.sram ∧ (Hub.joinTimeout h).time.ltc = h.time.ltc := by
  unfold Hub.joinTimeout; simp

@[simp] theorem Hub.gooseValue_keeps (h : Hub) :
    (h.gooseValue).host.sram = h.host.sram ∧ (h.gooseValue).time.ltc = h.time.ltc := by
  unfold Hub.gooseValue
  split
  · simp
  · next e =>
    dsimp only
    split
    · simp [Hub.takeService_keeps e]
    · simp [Hub.takeService_keeps e]

@[simp] theorem Hub.regStore_keeps (h : Hub) (a b : Nat) (d : List Byte) :
    (h.regStore a b d).host.sram = h.host.sram ∧ (h.regStore a b d).time.ltc = h.time.ltc := by
  induction a generalizing h b d with
  | zero => simp [Hub.regStore]
  | succ n ih =>
    unfold Hub.regStore
    split
    · simp
    · split <;> simp [ih]

@[simp] theorem Hub.boundaryK_keeps (h : Hub) :
    (Hub.boundaryK h).host.sram = h.host.sram ∧ (Hub.boundaryK h).time.ltc = h.time.ltc := by
  unfold Hub.boundaryK; (repeat' split) <;> simp

@[simp] theorem Hub.packetTaken_keeps (h : Hub) (x2 : SwPacket) (x3 : Bool) :
    (Hub.packetTaken h x2 x3).host.sram = h.host.sram ∧ (Hub.packetTaken h x2 x3).time.ltc = h.time.ltc := by
  unfold Hub.packetTaken; simp

@[simp] theorem Hub.copiesOf_keeps (h : Hub) (x2 : Nat) (x3 : SwPacket) (x4 : Nat) :
    (Hub.copiesOf h x2 x3 x4).2.host.sram = h.host.sram ∧ (Hub.copiesOf h x2 x3 x4).2.time.ltc = h.time.ltc := by
  unfold Hub.copiesOf; (repeat' split) <;> simp

@[simp] theorem Hub.onCopies_keeps (h : Hub) (x2 : List SwCopy) :
    (Hub.onCopies h x2).2.host.sram = h.host.sram ∧ (Hub.onCopies h x2).2.time.ltc = h.time.ltc := by
  unfold Hub.onCopies; simp

@[simp] theorem Hub.dropInput_keeps (h : Hub) (x2 : Nat) :
    (Hub.dropInput h x2).host.sram = h.host.sram ∧ (Hub.dropInput h x2).time.ltc = h.time.ltc := by
  unfold Hub.dropInput; simp

@[simp] theorem Hub.admissionDrop_keeps (h : Hub) (x2 : SwPacket) :
    (Hub.admissionDrop h x2).host.sram = h.host.sram ∧ (Hub.admissionDrop h x2).time.ltc = h.time.ltc := by
  first
    | (unfold Hub.admissionDrop; simp)
    | (unfold Hub.admissionDrop; split <;> simp)
    | (unfold Hub.admissionDrop; repeat' split) <;> simp
    | (unfold Hub.admissionDrop; simp; repeat' split) <;> simp
    | (unfold Hub.admissionDrop; simp; repeat' (first | intro _ | split)) <;> simp_all
    | (unfold Hub.admissionDrop; repeat' (first | split | (simp; done))) <;> simp_all

@[simp] theorem Hub.admitC0_keeps {h h' : Hub} {a : Account} {n m : Nat} {f : SwFrame} {b : Bool} (e : h.admitC0 a n m f b = some h') :
    h'.host.sram = h.host.sram ∧ h'.time.ltc = h.time.ltc := by
  unfold Hub.admitC0 at e
  dsimp only at e
  by_cases hc : (h.cellsPaid fun p => decide (p = a)) + n ≤ m
  · rw [if_pos hc] at e
    cases e; simp
  · rw [if_neg hc] at e
    by_cases hb : b = true
    · rw [if_pos hb] at e; cases e
    · rw [if_neg hb] at e
      cases e; simp

@[simp] theorem Hub.frameIn_keeps (h : Hub) (p : Nat) :
    (h.frameIn p).host.sram = h.host.sram ∧ (h.frameIn p).time.ltc = h.time.ltc := by
  unfold Hub.frameIn
  dsimp only
  split
  · simp
  · refine ite_eq_keeps _ _ _ _ (by simp) ?_
    split
    · refine ite_eq_keeps _ _ _ _ ?_ (by split <;> simp)
      split
      · simp
      · next e => simp [Hub.admitC0_keeps e]
    · refine ite_eq_keeps _ _ _ _ (by simp) ?_
      refine ite_eq_keeps _ _ _ _ (by simp) ?_
      refine ite_eq_keeps _ _ _ _ ?_ (ite_eq_keeps _ _ _ _ (by simp) (by simp))
      split
      · simp
      · next e =>
        simp only [Hub.dropInput_keeps]
        split at e <;> simpa using Hub.admitC0_keeps e

@[simp] theorem Hub.switchFrameIn_keeps (h : Hub) (x2 : Nat) :
    (Hub.switchFrameIn h x2).host.sram = h.host.sram ∧ (Hub.switchFrameIn h x2).time.ltc = h.time.ltc := by
  unfold Hub.switchFrameIn; (repeat' split) <;> simp

@[simp] theorem Hub.chipRead_keeps (h : Hub) (x2 : RingFrame) (x3 : Nat) (x4 : Nat) :
    (Hub.chipRead h x2 x3 x4).host.sram = h.host.sram ∧ (Hub.chipRead h x2 x3 x4).time.ltc = h.time.ltc := by
  unfold Hub.chipRead; simp

@[simp] theorem Hub.deny_keeps (h : Hub) (x2 : RingFrame) (x3 : Nat) :
    (Hub.deny h x2 x3).host.sram = h.host.sram ∧ (Hub.deny h x2 x3).time.ltc = h.time.ltc := by
  unfold Hub.deny; (repeat' split) <;> simp

@[simp] theorem Hub.dropLock_keeps (h : Hub) (x2 : Lock) :
    (Hub.dropLock h x2).host.sram = h.host.sram ∧ (Hub.dropLock h x2).time.ltc = h.time.ltc := by
  unfold Hub.dropLock; simp

@[simp] theorem Hub.takeLkrt_keeps (h : Hub) (x2 : RingFrame) :
    (Hub.takeLkrt h x2).host.sram = h.host.sram ∧ (Hub.takeLkrt h x2).time.ltc = h.time.ltc := by
  unfold Hub.takeLkrt; simp; (repeat' split) <;> simp

@[simp] theorem Hub.takeLkrd_keeps (h : Hub) (x2 : RingFrame) :
    (Hub.takeLkrd h x2).host.sram = h.host.sram ∧ (Hub.takeLkrd h x2).time.ltc = h.time.ltc := by
  unfold Hub.takeLkrd; simp; (repeat' split) <;> simp

@[simp] theorem Hub.takeWnak_keeps (h : Hub) (x2 : RingFrame) :
    (Hub.takeWnak h x2).host.sram = h.host.sram ∧ (Hub.takeWnak h x2).time.ltc = h.time.ltc := by
  unfold Hub.takeWnak; simp; (repeat' split) <;> simp

@[simp] theorem Hub.lockValue_keeps (h : Hub) (x2 : AtomicOp) (x3 : List Byte) :
    (Hub.lockValue h x2 x3).host.sram = h.host.sram ∧ (Hub.lockValue h x2 x3).time.ltc = h.time.ltc := by
  unfold Hub.lockValue; simp

@[simp] theorem Hub.takeRdr_keeps (h : Hub) (x2 : RingFrame) :
    (Hub.takeRdr h x2).host.sram = h.host.sram ∧ (Hub.takeRdr h x2).time.ltc = h.time.ltc := by
  unfold Hub.takeRdr; (repeat' split) <;> simp

@[simp] theorem Hub.sentinelLost_keeps (h : Hub) :
    (Hub.sentinelLost h).host.sram = h.host.sram ∧ (Hub.sentinelLost h).time.ltc = h.time.ltc := by
  unfold Hub.sentinelLost; simp

@[simp] theorem Hub.bootNotice_keeps (h : Hub) (x2 : Nat) (x3 : List Nat) :
    (Hub.bootNotice h x2 x3).host.sram = h.host.sram ∧ (Hub.bootNotice h x2 x3).time.ltc = h.time.ltc := by
  unfold Hub.bootNotice; simp

@[simp] theorem Hub.bootRecovery_keeps (h : Hub) :
    (Hub.bootRecovery h).host.sram = h.host.sram ∧ (Hub.bootRecovery h).time.ltc = h.time.ltc := by
  unfold Hub.bootRecovery; simp

@[simp] theorem Hub.thawConfig_keeps (h : Hub) :
    (Hub.thawConfig h).host.sram = h.host.sram ∧ (Hub.thawConfig h).time.ltc = h.time.ltc := by
  unfold Hub.thawConfig; simp

@[simp] theorem Hub.bootRevert_keeps (h : Hub) (x2 : Nat) :
    (Hub.bootRevert h x2).host.sram = h.host.sram ∧ (Hub.bootRevert h x2).time.ltc = h.time.ltc := by
  unfold Hub.bootRevert; simp

@[simp] theorem Hub.bootActive_keeps (h : Hub) :
    (Hub.bootActive h).host.sram = h.host.sram ∧ (Hub.bootActive h).time.ltc = h.time.ltc := by
  unfold Hub.bootActive; simp

@[simp] theorem Hub.bootTrial_keeps (h : Hub) (x2 : Nat) :
    (Hub.bootTrial h x2).host.sram = h.host.sram ∧ (Hub.bootTrial h x2).time.ltc = h.time.ltc := by
  unfold Hub.bootTrial; simp

@[simp] theorem Hub.bootPiece_keeps (h : Hub) :
    (Hub.bootPiece h).host.sram = h.host.sram ∧ (Hub.bootPiece h).time.ltc = h.time.ltc := by
  unfold Hub.bootPiece; simp

@[simp] theorem Hub.bootInPlace_keeps (h : Hub) :
    (Hub.bootInPlace h).host.sram = h.host.sram ∧ (Hub.bootInPlace h).time.ltc = h.time.ltc := by
  unfold Hub.bootInPlace; simp

@[simp] theorem Hub.bootArmed_keeps (h : Hub) :
    (Hub.bootArmed h).host.sram = h.host.sram ∧ (Hub.bootArmed h).time.ltc = h.time.ltc := by
  unfold Hub.bootArmed; simp

@[simp] theorem Hub.boot_keeps (h : Hub) :
    (Hub.boot h).host.sram = h.host.sram ∧ (Hub.boot h).time.ltc = h.time.ltc := by
  unfold Hub.boot; simp

@[simp] theorem Hub.bootStart_keeps (h : Hub) :
    (Hub.bootStart h).host.sram = h.host.sram ∧ (Hub.bootStart h).time.ltc = h.time.ltc := by
  unfold Hub.bootStart; simp

@[simp] theorem Hub.wrapAdd_keeps (h : Hub) (x2 : Nat) (x3 : Nat) :
    (Hub.wrapAdd h x2 x3).host.sram = h.host.sram ∧ (Hub.wrapAdd h x2 x3).time.ltc = h.time.ltc := by
  unfold Hub.wrapAdd; simp

@[simp] theorem Hub.setMsix_keeps (h : Hub) (x2 : Bool) (x3 : Bool) (x4 : List Nat) :
    (Hub.setMsix h x2 x3 x4).host.sram = h.host.sram ∧ (Hub.setMsix h x2 x3 x4).time.ltc = h.time.ltc := by
  simp [Hub.setMsix]

@[simp] theorem Hub.powerDown_keeps (h : Hub) (a b : Nat) :
    (h.powerDown a b).host.sram = h.host.sram ∧ (h.powerDown a b).time.ltc = h.time.ltc := by
  unfold Hub.powerDown
  generalize allFids = fs
  dsimp only
  refine ⟨?_, ?_⟩
  · simp only [when_sram, Hub.eavesLatch_keeps, implies_true]
    rw [foldl_sram _ (fun h i => by split; rfl; split <;> simp)]; simp
  · simp only [when_ltc, Hub.eavesLatch_keeps, implies_true]
    rw [foldl_ltc _ (fun h i => by split; rfl; split <;> simp)]; simp

@[simp] theorem Hub.reservationLapse_keeps (h : Hub) :
    (Hub.reservationLapse h).host.sram = h.host.sram ∧ (Hub.reservationLapse h).time.ltc = h.time.ltc := by
  unfold Hub.reservationLapse; simp

@[simp] theorem Hub.takeBeacon_keeps (h : Hub) (x2 : RingFrame) :
    (Hub.takeBeacon h x2).host.sram = h.host.sram ∧ (Hub.takeBeacon h x2).time.ltc = h.time.ltc := by
  first
    | (unfold Hub.takeBeacon; simp)
    | (unfold Hub.takeBeacon; split <;> simp)
    | (unfold Hub.takeBeacon; repeat' split) <;> simp
    | (unfold Hub.takeBeacon; simp; repeat' split) <;> simp
    | (unfold Hub.takeBeacon; simp; repeat' (first | intro _ | split)) <;> simp_all
    | (unfold Hub.takeBeacon; repeat' (first | split | (simp; done))) <;> simp_all

@[simp] theorem Hub.setOrder_keeps (h : Hub) (x2 : List Nat) :
    (Hub.setOrder h x2).host.sram = h.host.sram ∧ (Hub.setOrder h x2).time.ltc = h.time.ltc := by
  first
    | (unfold Hub.setOrder; simp)
    | (unfold Hub.setOrder; split <;> simp)
    | (unfold Hub.setOrder; repeat' split) <;> simp
    | (unfold Hub.setOrder; simp; repeat' split) <;> simp
    | (unfold Hub.setOrder; simp; repeat' (first | intro _ | split)) <;> simp_all
    | (unfold Hub.setOrder; repeat' (first | split | (simp; done))) <;> simp_all

@[simp] theorem Hub.beaconBack_keeps (h : Hub) (x2 : Nat) :
    (Hub.beaconBack h x2).host.sram = h.host.sram ∧ (Hub.beaconBack h x2).time.ltc = h.time.ltc := by
  unfold Hub.beaconBack; simp only; (repeat' split) <;> simp

@[simp] theorem Hub.bcnRx_keeps (h : Hub) (x2 : Bool) (x3 : RingFrame) :
    (Hub.bcnRx h x2 x3).host.sram = h.host.sram ∧ (Hub.bcnRx h x2 x3).time.ltc = h.time.ltc := by
  unfold Hub.bcnRx; simp

@[simp] theorem Hub.putWord_keeps {h h' : Hub} {s : Nat} (e : h.putWord s = some h') :
    h'.host.sram = h.host.sram ∧ h'.time.ltc = h.time.ltc := by
  unfold Hub.putWord at e
  dsimp only at e
  split at e
  · cases e
  · cases e; simp

@[simp] theorem Hub.seqStore_keeps (h : Hub) (s : Nat) (nb : Bool) :
    (h.seqStore s nb).host.sram = h.host.sram ∧ (h.seqStore s nb).time.ltc = h.time.ltc := by
  refine Hub.seqDo_keeps _ _ _ _ (fun h i => ?_)
  dsimp only
  split
  · next e => simp [Hub.putWord_keeps e]
  · split
    · split <;> simp
    · simp

@[simp] theorem Hub.fenceTimeout_keeps (h : Hub) (x2 : Nat) :
    (Hub.fenceTimeout h x2).host.sram = h.host.sram ∧ (Hub.fenceTimeout h x2).time.ltc = h.time.ltc := by
  unfold Hub.fenceTimeout; simp

@[simp] theorem Hub.loadRefused_keeps (h : Hub) :
    (Hub.loadRefused h).host.sram = h.host.sram ∧ (Hub.loadRefused h).time.ltc = h.time.ltc := by
  unfold Hub.loadRefused; simp

@[simp] theorem Hub.seqEmit_keeps (h : Hub) (x2 : Nat) :
    (Hub.seqEmit h x2).host.sram = h.host.sram ∧ (Hub.seqEmit h x2).time.ltc = h.time.ltc := by
  unfold Hub.seqEmit; simp

@[simp] theorem Hub.askData_keeps (h : Hub) (x2 : Nat) (x3 : QDesc) :
    (Hub.askData h x2 x3).host.sram = h.host.sram ∧ (Hub.askData h x2 x3).time.ltc = h.time.ltc := by
  unfold Hub.askData; simp

@[simp] theorem Hub.sampleSteps_keeps (h : Hub) (x2 : Nat) (x3 : Bool) (x4 : Nat) (x5 : List Nat) :
    (Hub.sampleSteps h x2 x3 x4 x5).host.sram = h.host.sram ∧ (Hub.sampleSteps h x2 x3 x4 x5).time.ltc = h.time.ltc := by
  induction x4 generalizing h x5 with
  | zero => simp [Hub.sampleSteps]
  | succ n ih => unfold Hub.sampleSteps; simp [ih]

@[simp] theorem Hub.grant_keeps (h : Hub) (x2 : Nat) (x3 : Nat) (x4 : Bool) (x5 : List Byte) :
    (Hub.grant h x2 x3 x4 x5).host.sram = h.host.sram ∧ (Hub.grant h x2 x3 x4 x5).time.ltc = h.time.ltc := by
  unfold Hub.grant; simp

@[simp] theorem Hub.creditPeriod_keeps (h : Hub) (x2 : Bool) :
    (Hub.creditPeriod h x2).host.sram = h.host.sram ∧ (Hub.creditPeriod h x2).time.ltc = h.time.ltc := by
  unfold Hub.creditPeriod; simp

@[simp] theorem Hub.canNextCycle_keeps (h : Hub) (x2 : Nat) (x3 : Nat) :
    (Hub.canNextCycle h x2 x3).host.sram = h.host.sram ∧ (Hub.canNextCycle h x2 x3).time.ltc = h.time.ltc := by
  unfold Hub.canNextCycle; simp

@[simp] theorem Hub.canRefMiss_keeps (h : Hub) (x2 : Nat) :
    (Hub.canRefMiss h x2).host.sram = h.host.sram ∧ (Hub.canRefMiss h x2).time.ltc = h.time.ltc := by
  unfold Hub.canRefMiss; simp

@[simp] theorem Hub.supReceive_keeps (h : Hub) (x2 : List Byte) :
    (Hub.supReceive h x2).host.sram = h.host.sram ∧ (Hub.supReceive h x2).time.ltc = h.time.ltc := by
  unfold Hub.supReceive; simp

@[simp] theorem Hub.followPhase_keeps (h : Hub) (x2 : Nat) (x3 : Nat) :
    (Hub.followPhase h x2 x3).host.sram = h.host.sram ∧ (Hub.followPhase h x2 x3).time.ltc = h.time.ltc := by
  first
    | (unfold Hub.followPhase; simp)
    | (unfold Hub.followPhase; split <;> simp)
    | (unfold Hub.followPhase; repeat' split) <;> simp
    | (unfold Hub.followPhase; simp; repeat' split) <;> simp
    | (unfold Hub.followPhase; simp; repeat' (first | intro _ | split)) <;> simp_all
    | (unfold Hub.followPhase; repeat' (first | split | (simp; done))) <;> simp_all

@[simp] theorem Hub.mainsZeroCrossing_keeps (h : Hub) (x2 : Nat) (x3 : Nat) :
    (Hub.mainsZeroCrossing h x2 x3).host.sram = h.host.sram ∧ (Hub.mainsZeroCrossing h x2 x3).time.ltc = h.time.ltc := by
  simp only [Hub.mainsZeroCrossing]; (repeat' split) <;> simp [*]

@[simp] theorem Hub.placeNeighbour_keeps (h : Hub) (x2 : Bool) (x3 : Nat) :
    (Hub.placeNeighbour h x2 x3).host.sram = h.host.sram ∧ (Hub.placeNeighbour h x2 x3).time.ltc = h.time.ltc := by
  first
    | (unfold Hub.placeNeighbour; simp)
    | (unfold Hub.placeNeighbour; split <;> simp)
    | (unfold Hub.placeNeighbour; repeat' split) <;> simp
    | (unfold Hub.placeNeighbour; simp; repeat' split) <;> simp
    | (unfold Hub.placeNeighbour; simp; repeat' (first | intro _ | split)) <;> simp_all
    | (unfold Hub.placeNeighbour; repeat' (first | split | (simp; done))) <;> simp_all

@[simp] theorem Hub.helloRx_keeps (h : Hub) (x2 : Bool) (x3 : RingFrame) :
    (Hub.helloRx h x2 x3).host.sram = h.host.sram ∧ (Hub.helloRx h x2 x3).time.ltc = h.time.ltc := by
  unfold Hub.helloRx; simp

@[simp] theorem Hub.tokenRefill_keeps (h : Hub) (x2 : Bool) :
    (Hub.tokenRefill h x2).host.sram = h.host.sram ∧ (Hub.tokenRefill h x2).time.ltc = h.time.ltc := by
  unfold Hub.tokenRefill; simp

@[simp] theorem Hub.declareFailure_keeps (h : Hub) (cause : Nat) :
    (h.declareFailure cause).host.sram = h.host.sram ∧ (h.declareFailure cause).time.ltc = h.time.ltc := by
  have hk := Hub.takeClaim_keeps h .takeover
  unfold Hub.declareFailure
  refine ite_eq_keeps _ _ _ _ ⟨rfl, rfl⟩ ?_
  revert hk
  generalize h.takeClaim .takeover = r
  obtain ⟨o, h'⟩ := r
  intro hk
  simp only at hk
  cases o <;> simp [hk]

@[simp] theorem Hub.retryRead_keeps (h : Hub) (x2 : Nat) :
    (Hub.retryRead h x2).host.sram = h.host.sram ∧ (Hub.retryRead h x2).time.ltc = h.time.ltc := by
  unfold Hub.retryRead; (repeat' split) <;> simp

@[simp] theorem Hub.subRecord_keeps (h : Hub) (x2 : Nat) (x3 : Nat) (x4 : List Byte) :
    (Hub.subRecord h x2 x3 x4).host.sram = h.host.sram ∧ (Hub.subRecord h x2 x3 x4).time.ltc = h.time.ltc := by
  unfold Hub.subRecord; simp

@[simp] theorem Hub.subFrame_keeps (h : Hub) (x2 : Nat) (x3 : Nat) (x4 : GoosePdu) :
    (Hub.subFrame h x2 x3 x4).host.sram = h.host.sram ∧ (Hub.subFrame h x2 x3 x4).time.ltc = h.time.ltc := by
  unfold Hub.subFrame; simp

@[simp] theorem Hub.loadImage_keeps (h : Hub) (x2 : SMap Val) :
    (Hub.loadImage h x2).host.sram = h.host.sram ∧ (Hub.loadImage h x2).time.ltc = h.time.ltc := by
  unfold Hub.loadImage; simp

@[simp] theorem Hub.freezeConfig_keeps (h : Hub) :
    (Hub.freezeConfig h).host.sram = h.host.sram ∧ (Hub.freezeConfig h).time.ltc = h.time.ltc := by
  unfold Hub.freezeConfig; simp

@[simp] theorem Hub.loadDictionary_keeps (h : Hub) :
    (Hub.loadDictionary h).host.sram = h.host.sram ∧ (Hub.loadDictionary h).time.ltc = h.time.ltc := by
  unfold Hub.loadDictionary; simp; (repeat' split) <;> simp

@[simp] theorem Hub.readTimeout_keeps (h : Hub) (x2 : Nat) :
    (Hub.readTimeout h x2).host.sram = h.host.sram ∧ (Hub.readTimeout h x2).time.ltc = h.time.ltc := by
  unfold Hub.readTimeout; (repeat' split) <;> simp

@[simp] theorem Hub.ctStall_keeps (h : Hub) (x2 : Nat) :
    (Hub.ctStall h x2).host.sram = h.host.sram ∧ (Hub.ctStall h x2).time.ltc = h.time.ltc := by
  unfold Hub.ctStall; (repeat' split) <;> simp

@[simp] theorem Hub.uartTx_keeps (h : Hub) (x2 : Nat) :
    (Hub.uartTx h x2).host.sram = h.host.sram ∧ (Hub.uartTx h x2).time.ltc = h.time.ltc := by
  unfold Hub.uartTx; simp; (repeat' split) <;> simp

@[simp] theorem Hub.seqPacket_keeps (h : Hub) (x2 : Nat) :
    (Hub.seqPacket h x2).host.sram = h.host.sram ∧ (Hub.seqPacket h x2).time.ltc = h.time.ltc := by
  unfold Hub.seqPacket; (repeat' split) <;> simp

@[simp] theorem Hub.closeTail_keeps (h : Hub) (x2 : Nat) :
    (Hub.closeTail h x2).host.sram = h.host.sram ∧ (Hub.closeTail h x2).time.ltc = h.time.ltc := by
  unfold Hub.closeTail; simp

@[simp] theorem Hub.packetDesc_keeps (h : Hub) (x2 : Nat) (x3 : QDesc) (x4 : Bool) :
    (Hub.packetDesc h x2 x3 x4).host.sram = h.host.sram ∧ (Hub.packetDesc h x2 x3 x4).time.ltc = h.time.ltc := by
  unfold Hub.packetDesc; simp

@[simp] theorem Hub.descFetched_keeps (h : Hub) (x2 : Nat) (x3 : Bool) (x4 : List Byte) :
    (Hub.descFetched h x2 x3 x4).host.sram = h.host.sram ∧ (Hub.descFetched h x2 x3 x4).time.ltc = h.time.ltc := by
  unfold Hub.descFetched; simp

@[simp] theorem Hub.receiveStamped_keeps (h : Hub) (x2 : Bool) (x3 : RingFrame) :
    (Hub.receiveStamped h x2 x3).2.host.sram = h.host.sram ∧ (Hub.receiveStamped h x2 x3).2.time.ltc = h.time.ltc := by
  first
    | (unfold Hub.receiveStamped; simp)
    | (unfold Hub.receiveStamped; split <;> simp)
    | (unfold Hub.receiveStamped; repeat' split) <;> simp
    | (unfold Hub.receiveStamped; simp; repeat' split) <;> simp
    | (unfold Hub.receiveStamped; simp; repeat' (first | intro _ | split)) <;> simp_all
    | (unfold Hub.receiveStamped; repeat' (first | split | (simp; done))) <;> simp_all

@[simp] theorem Hub.takePhase_keeps (h : Hub) (x2 : Bool) (x3 : RingFrame) :
    (Hub.takePhase h x2 x3).host.sram = h.host.sram ∧ (Hub.takePhase h x2 x3).time.ltc = h.time.ltc := by
  first
    | (unfold Hub.takePhase; simp)
    | (unfold Hub.takePhase; split <;> simp)
    | (unfold Hub.takePhase; repeat' split) <;> simp
    | (unfold Hub.takePhase; simp; repeat' split) <;> simp
    | (unfold Hub.takePhase; simp; repeat' (first | intro _ | split)) <;> simp_all
    | (unfold Hub.takePhase; repeat' (first | split | (simp; done))) <;> simp_all

@[simp] theorem Hub.followRing_keeps (h : Hub) :
    (Hub.followRing h).host.sram = h.host.sram ∧ (Hub.followRing h).time.ltc = h.time.ltc := by
  first
    | (unfold Hub.followRing; simp)
    | (unfold Hub.followRing; split <;> simp)
    | (unfold Hub.followRing; repeat' split) <;> simp
    | (unfold Hub.followRing; simp; repeat' split) <;> simp
    | (unfold Hub.followRing; simp; repeat' (first | intro _ | split)) <;> simp_all
    | (unfold Hub.followRing; repeat' (first | split | (simp; done))) <;> simp_all

@[simp] theorem Hub.phaseRx_keeps (h : Hub) (x2 : Bool) (x3 : RingFrame) :
    (Hub.phaseRx h x2 x3).host.sram = h.host.sram ∧ (Hub.phaseRx h x2 x3).time.ltc = h.time.ltc := by
  unfold Hub.phaseRx; simp

@[simp] theorem Hub.hardReset_keeps (h : Hub) :
    (Hub.hardReset h).host.sram = h.host.sram ∧ (Hub.hardReset h).time.ltc = h.time.ltc := by
  unfold Hub.hardReset; simp

@[simp] theorem Hub.loadMicrocode_keeps (h : Hub) :
    (Hub.loadMicrocode h).host.sram = h.host.sram ∧ (Hub.loadMicrocode h).time.ltc = h.time.ltc := by
  unfold Hub.loadMicrocode; simp

@[simp] theorem Hub.lsCycleEnd_keeps (h : Hub) (x2 : Nat) :
    (Hub.lsCycleEnd h x2).host.sram = h.host.sram ∧ (Hub.lsCycleEnd h x2).time.ltc = h.time.ltc := by
  unfold Hub.lsCycleEnd; simp

@[simp] theorem Hub.sumWeights_keeps (h : Hub) :
    (Hub.sumWeights h).host.sram = h.host.sram ∧ (Hub.sumWeights h).time.ltc = h.time.ltc := by
  first
    | (unfold Hub.sumWeights; simp)
    | (unfold Hub.sumWeights; split <;> simp)
    | (unfold Hub.sumWeights; repeat' split) <;> simp
    | (unfold Hub.sumWeights; simp; repeat' split) <;> simp
    | (unfold Hub.sumWeights; simp; repeat' (first | intro _ | split)) <;> simp_all
    | (unfold Hub.sumWeights; repeat' (first | split | (simp; done))) <;> simp_all

@[simp] theorem Hub.placeJoiner_keeps (h : Hub) (x2 : Bool) (x3 : Nat) (x4 : Nat) :
    (Hub.placeJoiner h x2 x3 x4).host.sram = h.host.sram ∧ (Hub.placeJoiner h x2 x3 x4).time.ltc = h.time.ltc := by
  unfold Hub.placeJoiner
  dsimp only
  split <;> simp
@[simp] theorem Hub.joinReqRx_keeps (h : Hub) (x2 : Bool) (x3 : RingFrame) :
    (Hub.joinReqRx h x2 x3).host.sram = h.host.sram ∧ (Hub.joinReqRx h x2 x3).time.ltc = h.time.ltc := by
  first
    | (unfold Hub.joinReqRx; simp)
    | (unfold Hub.joinReqRx; split <;> simp)
    | (unfold Hub.joinReqRx; repeat' split) <;> simp
    | (unfold Hub.joinReqRx; simp; repeat' split) <;> simp
    | (unfold Hub.joinReqRx; simp; repeat' (first | intro _ | split)) <;> simp_all
    | (unfold Hub.joinReqRx; repeat' (first | split | (simp; done))) <;> simp_all

@[simp] theorem Hub.fetchExpiry_keeps (h : Hub) (x2 : Nat) :
    (Hub.fetchExpiry h x2).host.sram = h.host.sram ∧ (Hub.fetchExpiry h x2).time.ltc = h.time.ltc := by
  unfold Hub.fetchExpiry; simp

@[simp] theorem Hub.flushDone1_keeps (h : Hub) :
    (Hub.flushDone1 h).host.sram = h.host.sram ∧ (Hub.flushDone1 h).time.ltc = h.time.ltc := by
  unfold Hub.flushDone1; simp only; (repeat' split) <;> simp

@[simp] theorem Hub.scanJobEnd_keeps (h : Hub) (x2 : Nat) (x3 : List Byte) :
    (Hub.scanJobEnd h x2 x3).host.sram = h.host.sram ∧ (Hub.scanJobEnd h x2 x3).time.ltc = h.time.ltc := by
  unfold Hub.scanJobEnd; dsimp only; (repeat' split) <;> simp

@[simp] theorem Hub.staRoute_keeps (h : Hub) (x2 : Nat) (x3 : Nat) (x4 : Nat) (x5 : List Byte) :
    (Hub.staRoute h x2 x3 x4 x5).host.sram = h.host.sram ∧ (Hub.staRoute h x2 x3 x4 x5).time.ltc = h.time.ltc := by
  unfold Hub.staRoute; simp

@[simp] theorem Hub.staClassify_keeps (h : Hub) (x2 : Nat) (x3 : Nat) (x4 : List Byte) :
    (Hub.staClassify h x2 x3 x4).host.sram = h.host.sram ∧ (Hub.staClassify h x2 x3 x4).time.ltc = h.time.ltc := by
  unfold Hub.staClassify; simp; (repeat' split) <;> simp

@[simp] theorem Hub.hsrForward_keeps (h : Hub) (x2 : Nat) (x3 : List Byte) (x4 : Option Nat) :
    (Hub.hsrForward h x2 x3 x4).host.sram = h.host.sram ∧ (Hub.hsrForward h x2 x3 x4).time.ltc = h.time.ltc := by
  unfold Hub.hsrForward; simp

@[simp] theorem Hub.staReceive_keeps (h : Hub) (x2 : Bool) (x3 : List Byte) (x4 : Nat) (x5 : Bool) :
    (Hub.staReceive h x2 x3 x4 x5).host.sram = h.host.sram ∧ (Hub.staReceive h x2 x3 x4 x5).time.ltc = h.time.ltc := by
  unfold Hub.staReceive; simp

@[simp] theorem Hub.listenExpired_keeps (h : Hub) :
    (Hub.listenExpired h).host.sram = h.host.sram ∧ (Hub.listenExpired h).time.ltc = h.time.ltc := by
  unfold Hub.listenExpired; simp

@[simp] theorem Hub.canFlashing_keeps (h : Hub) (x2 : Nat) (x3 : Nat) (x4 : Bool) :
    (Hub.canFlashing h x2 x3 x4).host.sram = h.host.sram ∧ (Hub.canFlashing h x2 x3 x4).time.ltc = h.time.ltc := by
  unfold Hub.canFlashing; simp

@[simp] theorem Hub.holderPoll_keeps (h : Hub) :
    (Hub.holderPoll h).host.sram = h.host.sram ∧ (Hub.holderPoll h).time.ltc = h.time.ltc := by
  unfold Hub.holderPoll; (repeat' split) <;> simp

@[simp] theorem Hub.svcNotice_keeps (h : Hub) (x2 : Nat) (x3 : List Nat) :
    (Hub.svcNotice h x2 x3).host.sram = h.host.sram ∧ (Hub.svcNotice h x2 x3).time.ltc = h.time.ltc := by
  unfold Hub.svcNotice; simp

@[simp] theorem Hub.claimHold_keeps (h : Hub) (x2 : Nat) :
    (Hub.claimHold h x2).host.sram = h.host.sram ∧ (Hub.claimHold h x2).time.ltc = h.time.ltc := by
  unfold Hub.claimHold; simp

@[simp] theorem Hub.rankWaitExpired_keeps (h : Hub) :
    (Hub.rankWaitExpired h).host.sram = h.host.sram ∧ (Hub.rankWaitExpired h).time.ltc = h.time.ltc := by
  unfold Hub.rankWaitExpired; simp

@[simp] theorem Hub.contract_keeps (h : Hub) (x2 : Nat) (x3 : Nat) :
    (Hub.contract h x2 x3).host.sram = h.host.sram ∧ (Hub.contract h x2 x3).time.ltc = h.time.ltc := by
  unfold Hub.contract; simp

@[simp] theorem Hub.mgmtIn_keeps (h : Hub) (x2 : Bool) (x3 : RingFrame) :
    (Hub.mgmtIn h x2 x3).2.host.sram = h.host.sram ∧ (Hub.mgmtIn h x2 x3).2.time.ltc = h.time.ltc := by
  unfold Hub.mgmtIn; simp

@[simp] theorem Hub.dispatchCmd_keeps (h : Hub) :
    (Hub.dispatchCmd h).host.sram = h.host.sram ∧ (Hub.dispatchCmd h).time.ltc = h.time.ltc := by
  unfold Hub.dispatchCmd; (repeat' split) <;> simp

@[simp] theorem Hub.loadSentinel_keeps (h : Hub) :
    (Hub.loadSentinel h).host.sram = h.host.sram ∧ (Hub.loadSentinel h).time.ltc = h.time.ltc := by
  unfold Hub.loadSentinel; simp

@[simp] theorem Hub.waitRetire_keeps (h : Hub) (x2 : Nat) :
    (Hub.waitRetire h x2).host.sram = h.host.sram ∧ (Hub.waitRetire h x2).time.ltc = h.time.ltc := by
  unfold Hub.waitRetire; (repeat' split) <;> simp

@[simp] theorem Hub.lineFault_keeps (h : Hub) (x2 : Nat) (x3 : Nat) (x4 : Int) :
    (Hub.lineFault h x2 x3 x4).host.sram = h.host.sram ∧ (Hub.lineFault h x2 x3 x4).time.ltc = h.time.ltc := by
  unfold Hub.lineFault; simp

@[simp] theorem Hub.lsSample_keeps (h : Hub) (x2 : Nat) (x3 : Nat) (x4 : Bool) :
    (Hub.lsSample h x2 x3 x4).host.sram = h.host.sram ∧ (Hub.lsSample h x2 x3 x4).time.ltc = h.time.ltc := by
  unfold Hub.lsSample; simp

@[simp] theorem Hub.repairWord_keeps (h : Hub) (x2 : Nat) (x3 : Nat) :
    (Hub.repairWord h x2 x3).host.sram = h.host.sram ∧ (Hub.repairWord h x2 x3).time.ltc = h.time.ltc := by
  unfold Hub.repairWord; simp

@[simp] theorem Hub.ramp_keeps (h : Hub) :
    (Hub.ramp h).host.sram = h.host.sram ∧ (Hub.ramp h).time.ltc = h.time.ltc := by
  unfold Hub.ramp; simp

@[simp] theorem Hub.ccBoundary_keeps (h : Hub) :
    (Hub.ccBoundary h).host.sram = h.host.sram ∧ (Hub.ccBoundary h).time.ltc = h.time.ltc := by
  unfold Hub.ccBoundary; simp

@[simp] theorem Hub.flushComplete_keeps (h : Hub) (x2 : Nat) :
    (Hub.flushComplete h x2).host.sram = h.host.sram ∧ (Hub.flushComplete h x2).time.ltc = h.time.ltc := by
  unfold Hub.flushComplete; simp

@[simp] theorem Hub.gooseSubIn_keeps (h : Hub) :
    (h.gooseSubIn).host.sram = h.host.sram ∧ (h.gooseSubIn).time.ltc = h.time.ltc := by
  unfold Hub.gooseSubIn
  split
  · simp
  · next e =>
    dsimp only
    split
    · simp [Hub.takeService_keeps e]
    · split <;> simp [Hub.takeService_keeps e]

@[simp] theorem Hub.followMaster_keeps (h : Hub) :
    (Hub.followMaster h).host.sram = h.host.sram ∧ (Hub.followMaster h).time.ltc = h.time.ltc := by
  first
    | (unfold Hub.followMaster; simp)
    | (unfold Hub.followMaster; split <;> simp)
    | (unfold Hub.followMaster; repeat' split) <;> simp
    | (unfold Hub.followMaster; simp; repeat' split) <;> simp
    | (unfold Hub.followMaster; simp; repeat' (first | intro _ | split)) <;> simp_all
    | (unfold Hub.followMaster; repeat' (first | split | (simp; done))) <;> simp_all

@[simp] theorem Hub.timeSyncRx_keeps (h : Hub) (x2 : Bool) (x3 : RingFrame) :
    (Hub.timeSyncRx h x2 x3).host.sram = h.host.sram ∧ (Hub.timeSyncRx h x2 x3).time.ltc = h.time.ltc := by
  unfold Hub.timeSyncRx; simp

@[simp] theorem Hub.armSaved_keeps (h : Hub) :
    (Hub.armSaved h).host.sram = h.host.sram ∧ (Hub.armSaved h).time.ltc = h.time.ltc := by
  unfold Hub.armSaved; simp

@[simp] theorem Hub.leaveStopping_keeps (h : Hub) (x2 : Nat) :
    (Hub.leaveStopping h x2).host.sram = h.host.sram ∧ (Hub.leaveStopping h x2).time.ltc = h.time.ltc := by
  unfold Hub.leaveStopping; (repeat' split) <;> simp

@[simp] theorem Hub.drained_keeps (h : Hub) (x2 : Nat) :
    (Hub.drained h x2).host.sram = h.host.sram ∧ (Hub.drained h x2).time.ltc = h.time.ltc := by
  unfold Hub.drained; simp

@[simp] theorem Hub.cclkLocked_keeps (h : Hub) :
    (Hub.cclkLocked h).host.sram = h.host.sram ∧ (Hub.cclkLocked h).time.ltc = h.time.ltc := by
  unfold Hub.cclkLocked; simp

@[simp] theorem Hub.takeWord_keeps {h h' : Hub} {s : Nat} (e : h.takeWord s = some h') :
    h'.host.sram = h.host.sram ∧ h'.time.ltc = h.time.ltc := by
  unfold Hub.takeWord at e
  dsimp only at e
  split at e
  · cases e
  · cases e; simp

@[simp] theorem Hub.seqLoad_keeps (h : Hub) (s : Nat) (nb : Bool) :
    (h.seqLoad s nb).host.sram = h.host.sram ∧ (h.seqLoad s nb).time.ltc = h.time.ltc := by
  refine Hub.seqDo_keeps _ _ _ _ (fun h i => ?_)
  dsimp only
  split
  · next e => simp [Hub.takeWord_keeps e]
  · split <;> simp

@[simp] theorem Hub.compareExpired_keeps (h : Hub) (x2 : Nat) :
    (Hub.compareExpired h x2).host.sram = h.host.sram ∧ (Hub.compareExpired h x2).time.ltc = h.time.ltc := by
  unfold Hub.compareExpired; simp

@[simp] theorem Hub.readbackChange_keeps (h : Hub) (x2 : Nat) (x3 : Bool) (x4 : Bool) :
    (Hub.readbackChange h x2 x3 x4).host.sram = h.host.sram ∧ (Hub.readbackChange h x2 x3 x4).time.ltc = h.time.ltc := by
  unfold Hub.readbackChange; simp

@[simp] theorem Hub.windowWrite_keeps (h : Hub) (x2 : Nat) (x3 : Nat) (x4 : List Byte) (x5 : Bool) :
    (Hub.windowWrite h x2 x3 x4 x5).host.sram = h.host.sram ∧ (Hub.windowWrite h x2 x3 x4 x5).time.ltc = h.time.ltc := by
  unfold Hub.windowWrite; simp

@[simp] theorem Hub.ptpTimeout_keeps (h : Hub) (x2 : Nat) :
    (Hub.ptpTimeout h x2).host.sram = h.host.sram ∧ (Hub.ptpTimeout h x2).time.ltc = h.time.ltc := by
  unfold Hub.ptpTimeout; simp

@[simp] theorem Hub.subDefaults_keeps (h : Hub) (x2 : Nat) :
    (Hub.subDefaults h x2).host.sram = h.host.sram ∧ (Hub.subDefaults h x2).time.ltc = h.time.ltc := by
  unfold Hub.subDefaults; simp

@[simp] theorem Hub.beaconMissed_keeps (h : Hub) :
    (Hub.beaconMissed h).host.sram = h.host.sram ∧ (Hub.beaconMissed h).time.ltc = h.time.ltc := by
  unfold Hub.beaconMissed; simp

@[simp] theorem Hub.boutAngle_keeps (h : Hub) (x2 : Nat) :
    (Hub.boutAngle h x2).host.sram = h.host.sram ∧ (Hub.boutAngle h x2).time.ltc = h.time.ltc := by
  unfold Hub.boutAngle; (repeat' split) <;> simp

@[simp] theorem Hub.uartOpen_keeps (h : Hub) (x2 : Nat) (x3 : Nat) (x4 : Nat) :
    (Hub.uartOpen h x2 x3 x4).host.sram = h.host.sram ∧ (Hub.uartOpen h x2 x3 x4).time.ltc = h.time.ltc := by
  unfold Hub.uartOpen; simp

@[simp] theorem Hub.loadCounters_keeps (h : Hub) :
    (Hub.loadCounters h).host.sram = h.host.sram ∧ (Hub.loadCounters h).time.ltc = h.time.ltc := by
  unfold Hub.loadCounters; simp

@[simp] theorem Hub.lanSilent_keeps (h : Hub) (x2 : Nat) :
    (Hub.lanSilent h x2).host.sram = h.host.sram ∧ (Hub.lanSilent h x2).time.ltc = h.time.ltc := by
  unfold Hub.lanSilent; simp

@[simp] theorem Hub.eccReaction_keeps (h : Hub) (x2 : EccMemory) (x3 : Nat) (x4 : Nat) :
    (Hub.eccReaction h x2 x3 x4).host.sram = h.host.sram ∧ (Hub.eccReaction h x2 x3 x4).time.ltc = h.time.ltc := by
  unfold Hub.eccReaction; simp; (repeat' split) <;> simp

@[simp] theorem Hub.eccDouble_keeps (h : Hub) (x2 : EccMemory) (x3 : Nat) (x4 : Nat) :
    (Hub.eccDouble h x2 x3 x4).host.sram = h.host.sram ∧ (Hub.eccDouble h x2 x3 x4).time.ltc = h.time.ltc := by
  unfold Hub.eccDouble; simp

@[simp] theorem Hub.joinRefuseRx_keeps (h : Hub) (x2 : Bool) (x3 : RingFrame) :
    (Hub.joinRefuseRx h x2 x3).host.sram = h.host.sram ∧ (Hub.joinRefuseRx h x2 x3).time.ltc = h.time.ltc := by
  unfold Hub.joinRefuseRx; simp

@[simp] theorem Hub.linkQualified_keeps (h : Hub) (x2 : Bool) :
    (Hub.linkQualified h x2).host.sram = h.host.sram ∧ (Hub.linkQualified h x2).time.ltc = h.time.ltc := by
  unfold Hub.linkQualified; simp

@[simp] theorem Hub.seqGap_keeps (h : Hub) (x2 : RingFrame) :
    (Hub.seqGap h x2).host.sram = h.host.sram ∧ (Hub.seqGap h x2).time.ltc = h.time.ltc := by
  unfold Hub.seqGap; simp

@[simp] theorem Hub.abortDone_keeps (h : Hub) (x2 : Nat) :
    (Hub.abortDone h x2).host.sram = h.host.sram ∧ (Hub.abortDone h x2).time.ltc = h.time.ltc := by
  unfold Hub.abortDone; (repeat' split) <;> simp

@[simp] theorem Hub.phaseFrameSend_keeps (h : Hub) :
    (Hub.phaseFrameSend h).host.sram = h.host.sram ∧ (Hub.phaseFrameSend h).time.ltc = h.time.ltc := by
  unfold Hub.phaseFrameSend; simp

@[simp] theorem Hub.requestPower_keeps (h : Hub) :
    (Hub.requestPower h).host.sram = h.host.sram ∧ (Hub.requestPower h).time.ltc = h.time.ltc := by
  unfold Hub.requestPower; (repeat' split) <;> simp

@[simp] theorem Hub.binEdge_keeps (h : Hub) (x2 : Nat) (x3 : Bool) :
    (Hub.binEdge h x2 x3).host.sram = h.host.sram ∧ (Hub.binEdge h x2 x3).time.ltc = h.time.ltc := by
  unfold Hub.binEdge; simp

@[simp] theorem Hub.contendExpired_keeps (h : Hub) :
    (Hub.contendExpired h).host.sram = h.host.sram ∧ (Hub.contendExpired h).time.ltc = h.time.ltc := by
  unfold Hub.contendExpired; simp

@[simp] theorem Hub.subLose_keeps (h : Hub) (x2 : Nat) :
    (Hub.subLose h x2).host.sram = h.host.sram ∧ (Hub.subLose h x2).time.ltc = h.time.ltc := by
  unfold Hub.subLose; simp

@[simp] theorem Hub.subFirst_keeps (h : Hub) (x2 : Nat) :
    (Hub.subFirst h x2).host.sram = h.host.sram ∧ (Hub.subFirst h x2).time.ltc = h.time.ltc := by
  unfold Hub.subFirst; simp

@[simp] theorem Hub.binDebounce_keeps (h : Hub) (x2 : Nat) :
    (Hub.binDebounce h x2).host.sram = h.host.sram ∧ (Hub.binDebounce h x2).time.ltc = h.time.ltc := by
  unfold Hub.binDebounce; simp; (repeat' split) <;> simp

@[simp] theorem Hub.uartBreak_keeps (h : Hub) (x2 : Nat) :
    (Hub.uartBreak h x2).host.sram = h.host.sram ∧ (Hub.uartBreak h x2).time.ltc = h.time.ltc := by
  unfold Hub.uartBreak; simp

@[simp] theorem Hub.arpAnswer_keeps (h : Hub) (x2 : Nat) (x3 : Option (BitVec 16)) (x4 : Nat) (x5 : Nat) :
    (Hub.arpAnswer h x2 x3 x4 x5).host.sram = h.host.sram ∧ (Hub.arpAnswer h x2 x3 x4 x5).time.ltc = h.time.ltc := by
  unfold Hub.arpAnswer; simp

@[simp] theorem Hub.phcLockAchieved_keeps (h : Hub) (a b : Nat) :
    (h.phcLockAchieved a b).host.sram = h.host.sram ∧ (h.phcLockAchieved a b).time.ltc = h.time.ltc := by
  unfold Hub.phcLockAchieved
  refine ite_eq_keeps _ _ _ _ ?_ (by simp)
  simp

@[simp] theorem Hub.helloPort_keeps (h : Hub) (x2 : Bool) :
    (Hub.helloPort h x2).host.sram = h.host.sram ∧ (Hub.helloPort h x2).time.ltc = h.time.ltc := by
  first
    | (unfold Hub.helloPort; simp)
    | (unfold Hub.helloPort; split <;> simp)
    | (unfold Hub.helloPort; repeat' split) <;> simp
    | (unfold Hub.helloPort; simp; repeat' split) <;> simp
    | (unfold Hub.helloPort; simp; repeat' (first | intro _ | split)) <;> simp_all
    | (unfold Hub.helloPort; repeat' (first | split | (simp; done))) <;> simp_all

@[simp] theorem Hub.helloSend_keeps (h : Hub) :
    (Hub.helloSend h).host.sram = h.host.sram ∧ (Hub.helloSend h).time.ltc = h.time.ltc := by
  unfold Hub.helloSend; simp

@[simp] theorem Hub.swapTimeout_keeps (h : Hub) :
    (Hub.swapTimeout h).host.sram = h.host.sram ∧ (Hub.swapTimeout h).time.ltc = h.time.ltc := by
  unfold Hub.swapTimeout; simp

@[simp] theorem Hub.subTal_keeps (h : Hub) (x2 : Nat) :
    (Hub.subTal h x2).host.sram = h.host.sram ∧ (Hub.subTal h x2).time.ltc = h.time.ltc := by
  unfold Hub.subTal; simp

@[simp] theorem Hub.fetchEvent_keeps (h : Hub) (x2 : PowerEvent) :
    (Hub.fetchEvent h x2).host.sram = h.host.sram ∧ (Hub.fetchEvent h x2).time.ltc = h.time.ltc := by
  unfold Hub.fetchEvent; (repeat' split) <;> simp

@[simp] theorem Hub.fetchEvents_keeps (h : Hub) :
    (Hub.fetchEvents h).host.sram = h.host.sram ∧ (Hub.fetchEvents h).time.ltc = h.time.ltc := by
  unfold Hub.fetchEvents; simp

@[simp] theorem Hub.toutsIdle_keeps (h : Hub) :
    (Hub.toutsIdle h).host.sram = h.host.sram ∧ (Hub.toutsIdle h).time.ltc = h.time.ltc := by
  unfold Hub.toutsIdle; simp

@[simp] theorem Hub.keeperStart_keeps (h : Hub) (x2 : Nat) :
    (Hub.keeperStart h x2).host.sram = h.host.sram ∧ (Hub.keeperStart h x2).time.ltc = h.time.ltc := by
  unfold Hub.keeperStart; simp

@[simp] theorem Hub.chatterQuiet_keeps (h : Hub) (x2 : Nat) :
    (Hub.chatterQuiet h x2).host.sram = h.host.sram ∧ (Hub.chatterQuiet h x2).time.ltc = h.time.ltc := by
  unfold Hub.chatterQuiet; simp

@[simp] theorem Hub.trigCommit_keeps (h : Hub) (x2 : Nat) :
    (Hub.trigCommit h x2).host.sram = h.host.sram ∧ (Hub.trigCommit h x2).time.ltc = h.time.ltc := by
  unfold Hub.trigCommit; simp

@[simp] theorem Hub.realigned_keeps (h : Hub) (c : Bool) :
    (h.realigned c).host.sram = h.host.sram ∧ (h.realigned c).time.ltc = h.time.ltc := by
  unfold Hub.realigned; split <;> simp

@[simp] theorem Hub.phcRealign_keeps (h : Hub) (x2 : Nat) (x3 : Nat) :
    (Hub.phcRealign h x2 x3).host.sram = h.host.sram ∧ (Hub.phcRealign h x2 x3).time.ltc = h.time.ltc := by
  first
    | (unfold Hub.phcRealign; simp)
    | (unfold Hub.phcRealign; split <;> simp)
    | (unfold Hub.phcRealign; repeat' split) <;> simp
    | (unfold Hub.phcRealign; simp; repeat' split) <;> simp
    | (unfold Hub.phcRealign; simp; repeat' (first | intro _ | split)) <;> simp_all
    | (unfold Hub.phcRealign; repeat' (first | split | (simp; done))) <;> simp_all

@[simp] theorem Hub.canRecovery_keeps (h : Hub) (x2 : Nat) :
    (Hub.canRecovery h x2).host.sram = h.host.sram ∧ (Hub.canRecovery h x2).time.ltc = h.time.ltc := by
  unfold Hub.canRecovery; simp

@[simp] theorem Hub.canUpdate_keeps (h : Hub) (x2 : Nat) (x3 : Bool) :
    (Hub.canUpdate h x2 x3).host.sram = h.host.sram ∧ (Hub.canUpdate h x2 x3).time.ltc = h.time.ltc := by
  unfold Hub.canUpdate; (repeat' split) <;> simp

@[simp] theorem Hub.failWaiting_keeps (h : Hub) (x2 : AtomicOp) (x3 : Nat) :
    (Hub.failWaiting h x2 x3).host.sram = h.host.sram ∧ (Hub.failWaiting h x2 x3).time.ltc = h.time.ltc := by
  first
    | (unfold Hub.failWaiting; simp)
    | (unfold Hub.failWaiting; split <;> simp)
    | (unfold Hub.failWaiting; repeat' split) <;> simp
    | (unfold Hub.failWaiting; simp; repeat' split) <;> simp
    | (unfold Hub.failWaiting; simp; repeat' (first | intro _ | split)) <;> simp_all
    | (unfold Hub.failWaiting; repeat' (first | split | (simp; done))) <;> simp_all

@[simp] theorem Hub.budgetExpired_keeps (h : Hub) (x2 : Nat) :
    (Hub.budgetExpired h x2).host.sram = h.host.sram ∧ (Hub.budgetExpired h x2).time.ltc = h.time.ltc := by
  unfold Hub.budgetExpired; (repeat' split) <;> simp

@[simp] theorem Hub.seqCount_keeps (h : Hub) (x2 : Nat) (x3 : Nat) :
    (Hub.seqCount h x2 x3).host.sram = h.host.sram ∧ (Hub.seqCount h x2 x3).time.ltc = h.time.ltc := by
  unfold Hub.seqCount; simp

@[simp] theorem Hub.deferred_keeps (l : List Out) (h : Hub) :
    (l.foldl (fun h o => match o with | .msix v _ _ => h.vector v | _ => h.emit o) h).host.sram = h.host.sram
      ∧ (l.foldl (fun h o => match o with | .msix v _ _ => h.vector v | _ => h.emit o) h).time.ltc = h.time.ltc :=
  foldl_keeps _ (fun h x => by split <;> simp) _ _
@[simp] theorem Hub.resumeHost_keeps (h : Hub) :
    (Hub.resumeHost h).host.sram = h.host.sram ∧ (Hub.resumeHost h).time.ltc = h.time.ltc := by
  unfold Hub.resumeHost
  split
  · refine ⟨?_, ?_⟩
    · rw [foldl_sram _ (by intro h q; split <;> simp), foldl_sram _ (by intro h o; split <;> simp)]
    · rw [foldl_ltc _ (by intro h q; split <;> simp), foldl_ltc _ (by intro h o; split <;> simp)]
  · simp

@[simp] theorem Hub.setBusMaster_keeps (h : Hub) (on : Bool) :
    (h.setBusMaster on).host.sram = h.host.sram ∧ (h.setBusMaster on).time.ltc = h.time.ltc := by
  unfold Hub.setBusMaster; simp

@[simp] theorem Hub.delayReqRx_keeps (h : Hub) (x2 : Bool) (x3 : RingFrame) :
    (Hub.delayReqRx h x2 x3).host.sram = h.host.sram ∧ (Hub.delayReqRx h x2 x3).time.ltc = h.time.ltc := by
  unfold Hub.delayReqRx; simp

@[simp] theorem Hub.uartStore_keeps (h : Hub) (x2 : Nat) (x3 : List Byte) :
    (Hub.uartStore h x2 x3).host.sram = h.host.sram ∧ (Hub.uartStore h x2 x3).time.ltc = h.time.ltc := by
  unfold Hub.uartStore; simp

@[simp] theorem Hub.heartbeatTimeout_keeps (h : Hub) :
    (Hub.heartbeatTimeout h).host.sram = h.host.sram ∧ (Hub.heartbeatTimeout h).time.ltc = h.time.ltc := by
  unfold Hub.heartbeatTimeout; simp

@[simp] theorem Hub.boutTake_keeps (h : Hub) (x2 : Nat) (x3 : Nat) :
    (Hub.boutTake h x2 x3).host.sram = h.host.sram ∧ (Hub.boutTake h x2 x3).time.ltc = h.time.ltc := by
  unfold Hub.boutTake; (repeat' split) <;> simp

@[simp] theorem Hub.trigPassed_keeps (h : Hub) (x2 : Nat) :
    (Hub.trigPassed h x2).host.sram = h.host.sram ∧ (Hub.trigPassed h x2).time.ltc = h.time.ltc := by
  unfold Hub.trigPassed; simp

@[simp] theorem Hub.tcodeTime_keeps (h : Hub) (x2 : Nat) (x3 : TcodeFrame) (x4 : Int) :
    (Hub.tcodeTime h x2 x3 x4).host.sram = h.host.sram ∧ (Hub.tcodeTime h x2 x3 x4).time.ltc = h.time.ltc := by
  unfold Hub.tcodeTime
  dsimp only
  split
  · simp
  · split <;> simp
@[simp] theorem Hub.latched_keeps (h : Hub) :
    (Hub.latched h).host.sram = h.host.sram ∧ (Hub.latched h).time.ltc = h.time.ltc := by
  unfold Hub.latched; simp

@[simp] theorem Hub.tcodeFrame_keeps (h : Hub) (x2 : Nat) (x3 : TcodeFrame) :
    (Hub.tcodeFrame h x2 x3).host.sram = h.host.sram ∧ (Hub.tcodeFrame h x2 x3).time.ltc = h.time.ltc := by
  unfold Hub.tcodeFrame; simp

@[simp] theorem Hub.seqStallEnd_keeps (h : Hub) (s : Nat) :
    (h.seqStallEnd s).host.sram = h.host.sram ∧ (h.seqStallEnd s).time.ltc = h.time.ltc := by
  unfold Hub.seqStallEnd
  dsimp only
  split
  · simp
  · split
    · split
      · next e => simp [Hub.takeWord_keeps e]
      · simp
    · split
      · split
        · next e => simp [Hub.putWord_keeps e]
        · simp
      · simp

@[simp] theorem Hub.boutPulseEnd_keeps (h : Hub) (x2 : Nat) :
    (Hub.boutPulseEnd h x2).host.sram = h.host.sram ∧ (Hub.boutPulseEnd h x2).time.ltc = h.time.ltc := by
  unfold Hub.boutPulseEnd; simp

@[simp] theorem Hub.measure_keeps (h : Hub) (x2 : PowerSample) :
    (Hub.measure h x2).host.sram = h.host.sram ∧ (Hub.measure h x2).time.ltc = h.time.ltc := by
  unfold Hub.measure; simp

@[simp] theorem Hub.seqWatchdog_keeps (h : Hub) (x2 : Nat) :
    (Hub.seqWatchdog h x2).host.sram = h.host.sram ∧ (Hub.seqWatchdog h x2).time.ltc = h.time.ltc := by
  unfold Hub.seqWatchdog; simp

@[simp] theorem Hub.mirrorRecordIn_keeps (h : Hub) :
    (Hub.mirrorRecordIn h).host.sram = h.host.sram ∧ (Hub.mirrorRecordIn h).time.ltc = h.time.ltc := by
  unfold Hub.mirrorRecordIn; simp

@[simp] theorem Hub.endSlowRun_keeps (h : Hub) (x2 : Nat) :
    (Hub.endSlowRun h x2).host.sram = h.host.sram ∧ (Hub.endSlowRun h x2).time.ltc = h.time.ltc := by
  first
    | (unfold Hub.endSlowRun; simp)
    | (unfold Hub.endSlowRun; split <;> simp)
    | (unfold Hub.endSlowRun; repeat' split) <;> simp
    | (unfold Hub.endSlowRun; simp; repeat' split) <;> simp
    | (unfold Hub.endSlowRun; simp; repeat' (first | intro _ | split)) <;> simp_all
    | (unfold Hub.endSlowRun; repeat' (first | split | (simp; done))) <;> simp_all

@[simp] theorem Hub.phcSourceLoss_keeps (h : Hub) (x2 : PhaseSource) :
    (Hub.phcSourceLoss h x2).host.sram = h.host.sram ∧ (Hub.phcSourceLoss h x2).time.ltc = h.time.ltc := by
  unfold Hub.phcSourceLoss; simp

@[simp] theorem Hub.leaseLapse_keeps (h : Hub) :
    (Hub.leaseLapse h).host.sram = h.host.sram ∧ (Hub.leaseLapse h).time.ltc = h.time.ltc := by
  unfold Hub.leaseLapse; simp

@[simp] theorem Hub.seqSample_keeps (h : Hub) (x2 : Nat) (x3 : List Nat) :
    (Hub.seqSample h x2 x3).host.sram = h.host.sram ∧ (Hub.seqSample h x2 x3).time.ltc = h.time.ltc := by
  unfold Hub.seqSample; simp

@[simp] theorem Hub.canTxEnd_keeps (h : Hub) (x2 : Nat) :
    (Hub.canTxEnd h x2).host.sram = h.host.sram ∧ (Hub.canTxEnd h x2).time.ltc = h.time.ltc := by
  unfold Hub.canTxEnd; simp; (repeat' split) <;> simp

@[simp] theorem Hub.timeSyncSend_keeps (h : Hub) :
    (Hub.timeSyncSend h).host.sram = h.host.sram ∧ (Hub.timeSyncSend h).time.ltc = h.time.ltc := by
  unfold Hub.timeSyncSend; simp

@[simp] theorem Hub.timeMapUpdate_keeps (h : Hub) (x2 : Int) :
    (Hub.timeMapUpdate h x2).host.sram = h.host.sram ∧ (Hub.timeMapUpdate h x2).time.ltc = h.time.ltc := by
  unfold Hub.timeMapUpdate; simp

@[simp] theorem Hub.pulseEdge_keeps (h : Hub) (x2 : Nat) (x3 : Bool) :
    (Hub.pulseEdge h x2 x3).host.sram = h.host.sram ∧ (Hub.pulseEdge h x2 x3).time.ltc = h.time.ltc := by
  unfold Hub.pulseEdge; simp

@[simp] theorem Hub.staPacket_keeps (h : Hub) (x2 : Bool) :
    (Hub.staPacket h x2).host.sram = h.host.sram ∧ (Hub.staPacket h x2).time.ltc = h.time.ltc := by
  unfold Hub.staPacket; simp; (repeat' split) <;> simp

@[simp] theorem Hub.hostAtomic_keeps (h : Hub) (x2 : AtomicOp) :
    (Hub.hostAtomic h x2).host.sram = h.host.sram ∧ (Hub.hostAtomic h x2).time.ltc = h.time.ltc := by
  unfold Hub.hostAtomic; simp

@[simp] theorem Hub.hostAtomicAt_keeps (h : Hub) (x2 : HostBar) (x3 : Nat) (x4 : Bool) (x5 : AtomicKind) (x6 x7 : Nat) :
    (Hub.hostAtomicAt h x2 x3 x4 x5 x6 x7).host.sram = h.host.sram ∧ (Hub.hostAtomicAt h x2 x3 x4 x5 x6 x7).time.ltc = h.time.ltc := by
  unfold Hub.hostAtomicAt; split <;> simp

@[simp] theorem Hub.pulseGateEnd_keeps (h : Hub) (x2 : Nat) :
    (Hub.pulseGateEnd h x2).host.sram = h.host.sram ∧ (Hub.pulseGateEnd h x2).time.ltc = h.time.ltc := by
  unfold Hub.pulseGateEnd; simp

@[simp] theorem Hub.unattached_keeps (h : Hub) :
    (Hub.unattached h).host.sram = h.host.sram ∧ (Hub.unattached h).time.ltc = h.time.ltc := by
  unfold Hub.unattached; simp

@[simp] theorem Hub.rxPd_keeps (h : Hub) (i : Fin 8) (f : Hub → Hub)
    (hf : ∀ h, (f h).host.sram = h.host.sram ∧ (f h).time.ltc = h.time.ltc) :
    (h.rxPd i f).host.sram = h.host.sram ∧ (h.rxPd i f).time.ltc = h.time.ltc := by
  unfold Hub.rxPd; simp [hf]

@[simp] theorem Hub.supSend_keeps (h : Hub) :
    (Hub.supSend h).host.sram = h.host.sram ∧ (Hub.supSend h).time.ltc = h.time.ltc := by
  unfold Hub.supSend; simp

@[simp] theorem Hub.bcnSend_keeps (h : Hub) :
    (Hub.bcnSend h).host.sram = h.host.sram ∧ (Hub.bcnSend h).time.ltc = h.time.ltc := by
  unfold Hub.bcnSend; simp

@[simp] theorem Hub.leaveRx_keeps (h : Hub) (x2 : Bool) (x3 : RingFrame) :
    (Hub.leaveRx h x2 x3).host.sram = h.host.sram ∧ (Hub.leaveRx h x2 x3).time.ltc = h.time.ltc := by
  first
    | (unfold Hub.leaveRx; simp)
    | (unfold Hub.leaveRx; split <;> simp)
    | (unfold Hub.leaveRx; repeat' split) <;> simp
    | (unfold Hub.leaveRx; simp; repeat' split) <;> simp
    | (unfold Hub.leaveRx; simp; repeat' (first | intro _ | split)) <;> simp_all
    | (unfold Hub.leaveRx; repeat' (first | split | (simp; done))) <;> simp_all

@[simp] theorem Hub.tcapEdge_keeps (h : Hub) (x2 : Nat) (x3 : Bool) (x4 : Nat) :
    (Hub.tcapEdge h x2 x3 x4).host.sram = h.host.sram ∧ (Hub.tcapEdge h x2 x3 x4).time.ltc = h.time.ltc := by
  unfold Hub.tcapEdge; simp

@[simp] theorem Hub.frameOutDone_keeps (h : Hub) (x2 : Nat) (x3 : Nat) (x4 : Nat) :
    (Hub.frameOutDone h x2 x3 x4).host.sram = h.host.sram ∧ (Hub.frameOutDone h x2 x3 x4).time.ltc = h.time.ltc := by
  unfold Hub.frameOutDone; (repeat' split) <;> simp

@[simp] theorem Hub.feedValid_keeps (h : Hub) (x2 : Bool) (x3 : Nat) :
    (Hub.feedValid h x2 x3).host.sram = h.host.sram ∧ (Hub.feedValid h x2 x3).time.ltc = h.time.ltc := by
  unfold Hub.feedValid; simp

@[simp] theorem Hub.joinAckRx_keeps (h : Hub) (x2 : Bool) (x3 : RingFrame) :
    (Hub.joinAckRx h x2 x3).host.sram = h.host.sram ∧ (Hub.joinAckRx h x2 x3).time.ltc = h.time.ltc := by
  unfold Hub.joinAckRx; simp

@[simp] theorem Hub.uartBegin_keeps (h : Hub) (x2 : Nat) (x3 : Nat) (x4 : Nat) :
    (Hub.uartBegin h x2 x3 x4).host.sram = h.host.sram ∧ (Hub.uartBegin h x2 x3 x4).time.ltc = h.time.ltc := by
  unfold Hub.uartBegin; simp

@[simp] theorem Hub.uartChar_keeps (h : Hub) (x2 : Nat) (x3 : Nat) (x4 : Nat) (x5 : Bool) (x6 : Bool) :
    (Hub.uartChar h x2 x3 x4 x5 x6).host.sram = h.host.sram ∧ (Hub.uartChar h x2 x3 x4 x5 x6).time.ltc = h.time.ltc := by
  unfold Hub.uartChar; simp

@[simp] theorem Hub.tcapHead_keeps (h : Hub) (x2 : RegPath) (x3 : Nat) :
    (Hub.tcapHead h x2 x3).host.sram = h.host.sram ∧ (Hub.tcapHead h x2 x3).time.ltc = h.time.ltc := by
  unfold Hub.tcapHead; simp

@[simp] theorem Hub.phcAlignSlowDone_keeps (h : Hub) :
    (Hub.phcAlignSlowDone h).host.sram = h.host.sram ∧ (Hub.phcAlignSlowDone h).time.ltc = h.time.ltc := by
  unfold Hub.phcAlignSlowDone; simp

@[simp] theorem Hub.masterSilent_keeps (h : Hub) :
    (Hub.masterSilent h).host.sram = h.host.sram ∧ (Hub.masterSilent h).time.ltc = h.time.ltc := by
  unfold Hub.masterSilent; simp

@[simp] theorem Hub.timeSourceLost_keeps (h : Hub) (x2 : TimeSource) (x3 : Int) (x4 : Int) (x5 : Option Int) :
    (Hub.timeSourceLost h x2 x3 x4 x5).host.sram = h.host.sram ∧ (Hub.timeSourceLost h x2 x3 x4 x5).time.ltc = h.time.ltc := by
  unfold Hub.timeSourceLost; simp; (repeat' split) <;> simp

@[simp] theorem Hub.nodeAgeOut_keeps (h : Hub) (x2 : Nat) :
    (Hub.nodeAgeOut h x2).host.sram = h.host.sram ∧ (Hub.nodeAgeOut h x2).time.ltc = h.time.ltc := by
  unfold Hub.nodeAgeOut; simp

@[simp] theorem Hub.tcodeEdge_keeps (h : Hub) (x2 : Nat) (x3 : Bool) :
    (Hub.tcodeEdge h x2 x3).host.sram = h.host.sram ∧ (Hub.tcodeEdge h x2 x3).time.ltc = h.time.ltc := by
  unfold Hub.tcodeEdge; simp

@[simp] theorem Hub.answerLock_keeps (h : Hub) (x2 : Lock) :
    (Hub.answerLock h x2).host.sram = h.host.sram ∧ (Hub.answerLock h x2).time.ltc = h.time.ltc := by
  unfold Hub.answerLock; simp only; (repeat' split) <;> simp

@[simp] theorem Hub.answerLocks_keeps (h : Hub) :
    (Hub.answerLocks h).host.sram = h.host.sram ∧ (Hub.answerLocks h).time.ltc = h.time.ltc := by
  unfold Hub.answerLocks; simp

@[simp] theorem Hub.canOffers_keeps (h : Hub) :
    (Hub.canOffers h).host.sram = h.host.sram ∧ (Hub.canOffers h).time.ltc = h.time.ltc := by
  unfold Hub.canOffers; simp

@[simp] theorem Hub.inputFreed_keeps (h : Hub) (x2 : Nat) :
    (Hub.inputFreed h x2).host.sram = h.host.sram ∧ (Hub.inputFreed h x2).time.ltc = h.time.ltc := by
  unfold Hub.inputFreed; simp

@[simp] theorem Hub.readFault_keeps (h : Hub) (x2 : ReadEnd) :
    (Hub.readFault h x2).host.sram = h.host.sram ∧ (Hub.readFault h x2).time.ltc = h.time.ltc := by
  unfold Hub.readFault; simp only; (repeat' split) <;> simp

@[simp] theorem Hub.configWrite_keeps (h : Hub) (x2 : Nat) (x3 : List Byte) :
    (Hub.configWrite h x2 x3).host.sram = h.host.sram ∧ (Hub.configWrite h x2 x3).time.ltc = h.time.ltc := by
  unfold Hub.configWrite; simp only; (repeat' split) <;> simp

@[simp] theorem Hub.settleEchoes_keeps (h : Hub) :
    (Hub.settleEchoes h).host.sram = h.host.sram ∧ (Hub.settleEchoes h).time.ltc = h.time.ltc := by
  unfold Hub.settleEchoes; simp

@[simp] theorem Hub.markUsable_keeps (h : Hub) :
    (Hub.markUsable h).host.sram = h.host.sram ∧ (Hub.markUsable h).time.ltc = h.time.ltc := by
  unfold Hub.markUsable; simp

end Sys2Proof.Machine
end

