-- ==== Sys2Proof/Laws/Maps.lean ====
section
/-!
SUPPORT. The laws of sparse maps and of memory: what is read after a write, and that every write keeps the canonical form.
-/
namespace Sys2Proof.Machine

variable {α : Type}

theorem SMap.get_put (d : Nat → α) (m : SMap α) (k j : Nat) (v : α) :
    SMap.get d (SMap.put m k v) j = if j = k then v else SMap.get d m j := by

  induction m with
  | nil => simp [SMap.put, SMap.get]
  | cons p m ih =>
    obtain ⟨k', v'⟩ := p
    unfold SMap.put
    split
    · rename_i hlt
      by_cases hj : j = k <;> simp [SMap.get, hj]
    · split
      · rename_i hk
        subst hk
        by_cases hj : j = k <;> simp [SMap.get, hj]
      · rename_i hk
        by_cases hj : j = k'
        · subst hj
          simp [SMap.get, Ne.symm hk]
        · simp only [SMap.get, hj, if_false, ih]

/-- Every key of a map in canonical form from `lo` lies at or above `lo`. -/
theorem SMap.wfFrom_ge [DecidableEq α] (d : Nat → α) : ∀ (m : SMap α) (lo : Nat), SMap.wfFrom d lo m = true → ∀ p ∈ m, lo ≤ p.1 := by
  intro m
  induction m with
  | nil => intro _ _ p hp; cases hp
  | cons q m ih =>
    intro lo h p hp
    simp only [SMap.wfFrom, Bool.and_eq_true, decide_eq_true_eq] at h
    cases hp with
    | head => exact h.1.1
    | tail _ hp => have := ih _ h.2 p hp; omega

theorem SMap.wfFrom_mono [DecidableEq α] (d : Nat → α) (m : SMap α) (a b : Nat) (hab : a ≤ b) (h : SMap.wfFrom d b m = true) :
    SMap.wfFrom d a m = true := by
  cases m with
  | nil => rfl
  | cons q m =>
    simp only [SMap.wfFrom, Bool.and_eq_true, decide_eq_true_eq] at h ⊢
    exact ⟨⟨by omega, h.1.2⟩, h.2⟩

theorem SMap.get_of_gt [DecidableEq α] (d : Nat → α) : ∀ (m : SMap α) (lo k : Nat), SMap.wfFrom d lo m = true → k < lo → SMap.get d m k = d k := by
  intro m
  induction m with
  | nil => intros; rfl
  | cons q m ih =>
    intro lo k h hk
    simp only [SMap.wfFrom, Bool.and_eq_true, decide_eq_true_eq] at h
    have : k ≠ q.1 := by omega
    simp only [SMap.get, this, if_false]
    exact ih _ _ h.2 (by omega)

theorem SMap.wfFrom_put [DecidableEq α] (d : Nat → α) (v : α) (k : Nat) (hv : v ≠ d k) :
    ∀ (m : SMap α) (lo : Nat), lo ≤ k → SMap.wfFrom d lo m = true → SMap.wfFrom d lo (SMap.put m k v) = true := by
  intro m
  induction m with
  | nil => intro lo hlo _; simp [SMap.put, SMap.wfFrom, hlo, hv]
  | cons q m ih =>
    obtain ⟨k', v'⟩ := q
    intro lo hlo h
    simp only [SMap.wfFrom, Bool.and_eq_true, decide_eq_true_eq] at h
    unfold SMap.put
    split
    · simp only [SMap.wfFrom, Bool.and_eq_true, decide_eq_true_eq]
      exact ⟨⟨hlo, hv⟩, ⟨⟨by omega, h.1.2⟩, h.2⟩⟩
    · split
      · rename_i hk
        simp only [SMap.wfFrom, Bool.and_eq_true, decide_eq_true_eq]
        exact ⟨⟨hlo, hv⟩, by rw [hk]; exact h.2⟩
      · simp only [SMap.wfFrom, Bool.and_eq_true, decide_eq_true_eq]
        exact ⟨h.1, ih _ (by omega) h.2⟩

theorem SMap.wfFrom_erase [DecidableEq α] (d : Nat → α) (k : Nat) :
    ∀ (m : SMap α) (lo : Nat), SMap.wfFrom d lo m = true → SMap.wfFrom d lo (SMap.erase m k) = true := by
  intro m
  induction m with
  | nil => intro _ _; rfl
  | cons q m ih =>
    obtain ⟨k', v'⟩ := q
    intro lo h
    simp only [SMap.wfFrom, Bool.and_eq_true, decide_eq_true_eq] at h
    unfold SMap.erase
    split
    · exact SMap.wfFrom_mono d _ lo (k' + 1) (by omega) (ih _ h.2)
    · simp only [SMap.wfFrom, Bool.and_eq_true, decide_eq_true_eq]
      exact ⟨h.1, ih _ h.2⟩

/-- A write keeps the canonical form. -/
theorem SMap.wf_set [DecidableEq α] (d : Nat → α) (m : SMap α) (k : Nat) (v : α) (h : SMap.wf d m = true) :
    SMap.wf d (SMap.set d m k v) = true := by
  unfold SMap.set SMap.wf at *
  split
  · exact SMap.wfFrom_erase d k m 0 h
  · rename_i hv
    exact SMap.wfFrom_put d v k hv m 0 (Nat.zero_le _) h

theorem SMap.get_erase (d : Nat → α) (k j : Nat) (m : SMap α) :
    SMap.get d (SMap.erase m k) j = if j = k then d k else SMap.get d m j := by
  induction m with
  | nil => by_cases hj : j = k <;> simp [SMap.erase, SMap.get, hj]
  | cons q m ih =>
    obtain ⟨k', v'⟩ := q
    unfold SMap.erase
    split
    · rename_i hk
      subst hk
      rw [ih]
      by_cases hj : j = k <;> simp [SMap.get, hj]
    · rename_i hk
      by_cases hj : j = k'
      · subst hj
        simp [SMap.get, Ne.symm hk]
      · simp only [SMap.get, hj, if_false, ih]

/-- What is read after a write: the value at the key, everything else as before, whatever the map. -/
theorem SMap.get_set [DecidableEq α] (d : Nat → α) (m : SMap α) (k j : Nat) (v : α) :
    SMap.get d (SMap.set d m k v) j = if j = k then v else SMap.get d m j := by
  unfold SMap.set
  split
  · rename_i hv
    rw [SMap.get_erase d k j m, hv]
  · exact SMap.get_put d m k j v

@[simp] theorem SMap.get_set_self [DecidableEq α] (d : Nat → α) (m : SMap α) (k : Nat) (v : α) : SMap.get d (SMap.set d m k v) k = v := by
  simp [SMap.get_set]

/-- A write leaves every other key as it was. -/
@[simp] theorem SMap.get_set_ne [DecidableEq α] (d : Nat → α) (m : SMap α) (k j : Nat) (v : α) (hj : j ≠ k) :
    SMap.get d (SMap.set d m k v) j = SMap.get d m j := by simp [SMap.get_set, hj]

/-! ### Memory -/

/-- A write of one octet keeps the canonical form. -/
theorem Memory.wf_write (m : Memory) (a : Nat) (b : Byte) (h : Memory.wf m = true) : Memory.wf (Memory.write m a b) = true :=
  SMap.wf_set _ m a b h

/-- A write of octets keeps the canonical form. -/
theorem Memory.wf_writeN (bs : List Byte) : ∀ (m : Memory) (a : Nat), Memory.wf m = true → Memory.wf (Memory.writeN m a bs) = true := by
  induction bs with
  | nil => intro m a h; exact h
  | cons b bs ih => intro m a h; exact ih _ _ (Memory.wf_write m a b h)

/-- Read after write of one octet. -/
theorem Memory.read_write (m : Memory) (a c : Nat) (b : Byte) :
    Memory.read (Memory.write m a b) c = if c = a then b else Memory.read m c :=
  SMap.get_set _ m a c b

/-- Octets outside a write are as they were. -/
theorem Memory.read_writeN_out (bs : List Byte) : ∀ (m : Memory) (a c : Nat), (c < a ∨ a + bs.length ≤ c) →
    Memory.read (Memory.writeN m a bs) c = Memory.read m c := by
  induction bs with
  | nil => intro m a c _; rfl
  | cons b bs ih =>
    intro m a c hc
    simp only [List.length_cons] at hc
    have h1 := ih (Memory.write m a b) (a + 1) c (by omega)
    simp only [Memory.writeN]
    rw [h1]
    exact SMap.get_set_ne _ m a c b (by omega)

end Sys2Proof.Machine
end

