-- ==== Sys2Proof/Laws/State.lean ====
section
/-!
SUPPORT. What the shared updates of the hub leave as it is: one law per field and update, and what an object reads after a write.
-/
namespace Sys2Proof.Machine

/-! setObj -/

@[simp] theorem Hub.setObj_time (h : Hub) (k : Nat) (v : Val) : (h.setObj k v).time = h.time := rfl
@[simp] theorem Hub.setObj_ring (h : Hub) (k : Nat) (v : Val) : (h.setObj k v).ring = h.ring := rfl
@[simp] theorem Hub.setObj_bridge (h : Hub) (k : Nat) (v : Val) : (h.setObj k v).bridge = h.bridge := rfl
@[simp] theorem Hub.setObj_sw (h : Hub) (k : Nat) (v : Val) : (h.setObj k v).sw = h.sw := rfl
@[simp] theorem Hub.setObj_host (h : Hub) (k : Nat) (v : Val) : (h.setObj k v).host = h.host := rfl
@[simp] theorem Hub.setObj_store (h : Hub) (k : Nat) (v : Val) : (h.setObj k v).store = h.store := rfl
@[simp] theorem Hub.setObj_chans (h : Hub) (k : Nat) (v : Val) : (h.setObj k v).chans = h.chans := rfl
@[simp] theorem Hub.setObj_ledger (h : Hub) (k : Nat) (v : Val) : (h.setObj k v).ledger = h.ledger := rfl
@[simp] theorem Hub.setObj_cans (h : Hub) (k : Nat) (v : Val) : (h.setObj k v).cans = h.cans := rfl
@[simp] theorem Hub.setObj_seqs (h : Hub) (k : Nat) (v : Val) : (h.setObj k v).seqs = h.seqs := rfl
@[simp] theorem Hub.setObj_sta (h : Hub) (k : Nat) (v : Val) : (h.setObj k v).sta = h.sta := rfl
@[simp] theorem Hub.setObj_ptp (h : Hub) (k : Nat) (v : Val) : (h.setObj k v).ptp = h.ptp := rfl
@[simp] theorem Hub.setObj_goose (h : Hub) (k : Nat) (v : Val) : (h.setObj k v).goose = h.goose := rfl
@[simp] theorem Hub.setObj_duplex (h : Hub) (k : Nat) (v : Val) : (h.setObj k v).duplex = h.duplex := rfl
@[simp] theorem Hub.setObj_keeper (h : Hub) (k : Nat) (v : Val) : (h.setObj k v).keeper = h.keeper := rfl
@[simp] theorem Hub.setObj_scans (h : Hub) (k : Nat) (v : Val) : (h.setObj k v).scans = h.scans := rfl
@[simp] theorem Hub.setObj_safety (h : Hub) (k : Nat) (v : Val) : (h.setObj k v).safety = h.safety := rfl
@[simp] theorem Hub.setObj_power (h : Hub) (k : Nat) (v : Val) : (h.setObj k v).power = h.power := rfl
@[simp] theorem Hub.setObj_pwr (h : Hub) (k : Nat) (v : Val) : (h.setObj k v).pwr = h.pwr := rfl
@[simp] theorem Hub.setObj_svc (h : Hub) (k : Nat) (v : Val) : (h.setObj k v).svc = h.svc := rfl
@[simp] theorem Hub.setObj_upd (h : Hub) (k : Nat) (v : Val) : (h.setObj k v).upd = h.upd := rfl
@[simp] theorem Hub.setObj_rwb (h : Hub) (k : Nat) (v : Val) : (h.setObj k v).rwb = h.rwb := rfl
@[simp] theorem Hub.setObj_funcs (h : Hub) (k : Nat) (v : Val) : (h.setObj k v).funcs = h.funcs := rfl
@[simp] theorem Hub.setObj_out (h : Hub) (k : Nat) (v : Val) : (h.setObj k v).out = h.out := rfl
@[simp] theorem Hub.setObj_freeCtr (h : Hub) (k : Nat) (v : Val) : (h.setObj k v).freeCtr = h.freeCtr := rfl

/-! setNum -/

@[simp] theorem Hub.setNum_time (h : Hub) (k n : Nat) : (h.setNum k n).time = h.time := rfl
@[simp] theorem Hub.setNum_ring (h : Hub) (k n : Nat) : (h.setNum k n).ring = h.ring := rfl
@[simp] theorem Hub.setNum_bridge (h : Hub) (k n : Nat) : (h.setNum k n).bridge = h.bridge := rfl
@[simp] theorem Hub.setNum_sw (h : Hub) (k n : Nat) : (h.setNum k n).sw = h.sw := rfl
@[simp] theorem Hub.setNum_host (h : Hub) (k n : Nat) : (h.setNum k n).host = h.host := rfl
@[simp] theorem Hub.setNum_store (h : Hub) (k n : Nat) : (h.setNum k n).store = h.store := rfl
@[simp] theorem Hub.setNum_chans (h : Hub) (k n : Nat) : (h.setNum k n).chans = h.chans := rfl
@[simp] theorem Hub.setNum_ledger (h : Hub) (k n : Nat) : (h.setNum k n).ledger = h.ledger := rfl
@[simp] theorem Hub.setNum_cans (h : Hub) (k n : Nat) : (h.setNum k n).cans = h.cans := rfl
@[simp] theorem Hub.setNum_seqs (h : Hub) (k n : Nat) : (h.setNum k n).seqs = h.seqs := rfl
@[simp] theorem Hub.setNum_sta (h : Hub) (k n : Nat) : (h.setNum k n).sta = h.sta := rfl
@[simp] theorem Hub.setNum_ptp (h : Hub) (k n : Nat) : (h.setNum k n).ptp = h.ptp := rfl
@[simp] theorem Hub.setNum_goose (h : Hub) (k n : Nat) : (h.setNum k n).goose = h.goose := rfl
@[simp] theorem Hub.setNum_duplex (h : Hub) (k n : Nat) : (h.setNum k n).duplex = h.duplex := rfl
@[simp] theorem Hub.setNum_keeper (h : Hub) (k n : Nat) : (h.setNum k n).keeper = h.keeper := rfl
@[simp] theorem Hub.setNum_scans (h : Hub) (k n : Nat) : (h.setNum k n).scans = h.scans := rfl
@[simp] theorem Hub.setNum_safety (h : Hub) (k n : Nat) : (h.setNum k n).safety = h.safety := rfl
@[simp] theorem Hub.setNum_power (h : Hub) (k n : Nat) : (h.setNum k n).power = h.power := rfl
@[simp] theorem Hub.setNum_pwr (h : Hub) (k n : Nat) : (h.setNum k n).pwr = h.pwr := rfl
@[simp] theorem Hub.setNum_svc (h : Hub) (k n : Nat) : (h.setNum k n).svc = h.svc := rfl
@[simp] theorem Hub.setNum_upd (h : Hub) (k n : Nat) : (h.setNum k n).upd = h.upd := rfl
@[simp] theorem Hub.setNum_rwb (h : Hub) (k n : Nat) : (h.setNum k n).rwb = h.rwb := rfl
@[simp] theorem Hub.setNum_funcs (h : Hub) (k n : Nat) : (h.setNum k n).funcs = h.funcs := rfl
@[simp] theorem Hub.setNum_out (h : Hub) (k n : Nat) : (h.setNum k n).out = h.out := rfl
@[simp] theorem Hub.setNum_freeCtr (h : Hub) (k n : Nat) : (h.setNum k n).freeCtr = h.freeCtr := rfl

/-! setFlag -/

@[simp] theorem Hub.setFlag_time (h : Hub) (k : Nat) (b : Bool) : (h.setFlag k b).time = h.time := rfl
@[simp] theorem Hub.setFlag_ring (h : Hub) (k : Nat) (b : Bool) : (h.setFlag k b).ring = h.ring := rfl
@[simp] theorem Hub.setFlag_bridge (h : Hub) (k : Nat) (b : Bool) : (h.setFlag k b).bridge = h.bridge := rfl
@[simp] theorem Hub.setFlag_sw (h : Hub) (k : Nat) (b : Bool) : (h.setFlag k b).sw = h.sw := rfl
@[simp] theorem Hub.setFlag_host (h : Hub) (k : Nat) (b : Bool) : (h.setFlag k b).host = h.host := rfl
@[simp] theorem Hub.setFlag_store (h : Hub) (k : Nat) (b : Bool) : (h.setFlag k b).store = h.store := rfl
@[simp] theorem Hub.setFlag_chans (h : Hub) (k : Nat) (b : Bool) : (h.setFlag k b).chans = h.chans := rfl
@[simp] theorem Hub.setFlag_ledger (h : Hub) (k : Nat) (b : Bool) : (h.setFlag k b).ledger = h.ledger := rfl
@[simp] theorem Hub.setFlag_cans (h : Hub) (k : Nat) (b : Bool) : (h.setFlag k b).cans = h.cans := rfl
@[simp] theorem Hub.setFlag_seqs (h : Hub) (k : Nat) (b : Bool) : (h.setFlag k b).seqs = h.seqs := rfl
@[simp] theorem Hub.setFlag_sta (h : Hub) (k : Nat) (b : Bool) : (h.setFlag k b).sta = h.sta := rfl
@[simp] theorem Hub.setFlag_ptp (h : Hub) (k : Nat) (b : Bool) : (h.setFlag k b).ptp = h.ptp := rfl
@[simp] theorem Hub.setFlag_goose (h : Hub) (k : Nat) (b : Bool) : (h.setFlag k b).goose = h.goose := rfl
@[simp] theorem Hub.setFlag_duplex (h : Hub) (k : Nat) (b : Bool) : (h.setFlag k b).duplex = h.duplex := rfl
@[simp] theorem Hub.setFlag_keeper (h : Hub) (k : Nat) (b : Bool) : (h.setFlag k b).keeper = h.keeper := rfl
@[simp] theorem Hub.setFlag_scans (h : Hub) (k : Nat) (b : Bool) : (h.setFlag k b).scans = h.scans := rfl
@[simp] theorem Hub.setFlag_safety (h : Hub) (k : Nat) (b : Bool) : (h.setFlag k b).safety = h.safety := rfl
@[simp] theorem Hub.setFlag_power (h : Hub) (k : Nat) (b : Bool) : (h.setFlag k b).power = h.power := rfl
@[simp] theorem Hub.setFlag_pwr (h : Hub) (k : Nat) (b : Bool) : (h.setFlag k b).pwr = h.pwr := rfl
@[simp] theorem Hub.setFlag_svc (h : Hub) (k : Nat) (b : Bool) : (h.setFlag k b).svc = h.svc := rfl
@[simp] theorem Hub.setFlag_upd (h : Hub) (k : Nat) (b : Bool) : (h.setFlag k b).upd = h.upd := rfl
@[simp] theorem Hub.setFlag_rwb (h : Hub) (k : Nat) (b : Bool) : (h.setFlag k b).rwb = h.rwb := rfl
@[simp] theorem Hub.setFlag_funcs (h : Hub) (k : Nat) (b : Bool) : (h.setFlag k b).funcs = h.funcs := rfl
@[simp] theorem Hub.setFlag_out (h : Hub) (k : Nat) (b : Bool) : (h.setFlag k b).out = h.out := rfl
@[simp] theorem Hub.setFlag_freeCtr (h : Hub) (k : Nat) (b : Bool) : (h.setFlag k b).freeCtr = h.freeCtr := rfl

/-! setInt -/

@[simp] theorem Hub.setInt_time (h : Hub) (k : Nat) (i : Int) : (h.setInt k i).time = h.time := rfl
@[simp] theorem Hub.setInt_ring (h : Hub) (k : Nat) (i : Int) : (h.setInt k i).ring = h.ring := rfl
@[simp] theorem Hub.setInt_bridge (h : Hub) (k : Nat) (i : Int) : (h.setInt k i).bridge = h.bridge := rfl
@[simp] theorem Hub.setInt_sw (h : Hub) (k : Nat) (i : Int) : (h.setInt k i).sw = h.sw := rfl
@[simp] theorem Hub.setInt_host (h : Hub) (k : Nat) (i : Int) : (h.setInt k i).host = h.host := rfl
@[simp] theorem Hub.setInt_store (h : Hub) (k : Nat) (i : Int) : (h.setInt k i).store = h.store := rfl
@[simp] theorem Hub.setInt_chans (h : Hub) (k : Nat) (i : Int) : (h.setInt k i).chans = h.chans := rfl
@[simp] theorem Hub.setInt_ledger (h : Hub) (k : Nat) (i : Int) : (h.setInt k i).ledger = h.ledger := rfl
@[simp] theorem Hub.setInt_cans (h : Hub) (k : Nat) (i : Int) : (h.setInt k i).cans = h.cans := rfl
@[simp] theorem Hub.setInt_seqs (h : Hub) (k : Nat) (i : Int) : (h.setInt k i).seqs = h.seqs := rfl
@[simp] theorem Hub.setInt_sta (h : Hub) (k : Nat) (i : Int) : (h.setInt k i).sta = h.sta := rfl
@[simp] theorem Hub.setInt_ptp (h : Hub) (k : Nat) (i : Int) : (h.setInt k i).ptp = h.ptp := rfl
@[simp] theorem Hub.setInt_goose (h : Hub) (k : Nat) (i : Int) : (h.setInt k i).goose = h.goose := rfl
@[simp] theorem Hub.setInt_duplex (h : Hub) (k : Nat) (i : Int) : (h.setInt k i).duplex = h.duplex := rfl
@[simp] theorem Hub.setInt_keeper (h : Hub) (k : Nat) (i : Int) : (h.setInt k i).keeper = h.keeper := rfl
@[simp] theorem Hub.setInt_scans (h : Hub) (k : Nat) (i : Int) : (h.setInt k i).scans = h.scans := rfl
@[simp] theorem Hub.setInt_safety (h : Hub) (k : Nat) (i : Int) : (h.setInt k i).safety = h.safety := rfl
@[simp] theorem Hub.setInt_power (h : Hub) (k : Nat) (i : Int) : (h.setInt k i).power = h.power := rfl
@[simp] theorem Hub.setInt_pwr (h : Hub) (k : Nat) (i : Int) : (h.setInt k i).pwr = h.pwr := rfl
@[simp] theorem Hub.setInt_svc (h : Hub) (k : Nat) (i : Int) : (h.setInt k i).svc = h.svc := rfl
@[simp] theorem Hub.setInt_upd (h : Hub) (k : Nat) (i : Int) : (h.setInt k i).upd = h.upd := rfl
@[simp] theorem Hub.setInt_rwb (h : Hub) (k : Nat) (i : Int) : (h.setInt k i).rwb = h.rwb := rfl
@[simp] theorem Hub.setInt_funcs (h : Hub) (k : Nat) (i : Int) : (h.setInt k i).funcs = h.funcs := rfl
@[simp] theorem Hub.setInt_out (h : Hub) (k : Nat) (i : Int) : (h.setInt k i).out = h.out := rfl
@[simp] theorem Hub.setInt_freeCtr (h : Hub) (k : Nat) (i : Int) : (h.setInt k i).freeCtr = h.freeCtr := rfl

/-! setOct -/

@[simp] theorem Hub.setOct_time (h : Hub) (k : Nat) (b : List Byte) : (h.setOct k b).time = h.time := rfl
@[simp] theorem Hub.setOct_ring (h : Hub) (k : Nat) (b : List Byte) : (h.setOct k b).ring = h.ring := rfl
@[simp] theorem Hub.setOct_bridge (h : Hub) (k : Nat) (b : List Byte) : (h.setOct k b).bridge = h.bridge := rfl
@[simp] theorem Hub.setOct_sw (h : Hub) (k : Nat) (b : List Byte) : (h.setOct k b).sw = h.sw := rfl
@[simp] theorem Hub.setOct_host (h : Hub) (k : Nat) (b : List Byte) : (h.setOct k b).host = h.host := rfl
@[simp] theorem Hub.setOct_store (h : Hub) (k : Nat) (b : List Byte) : (h.setOct k b).store = h.store := rfl
@[simp] theorem Hub.setOct_chans (h : Hub) (k : Nat) (b : List Byte) : (h.setOct k b).chans = h.chans := rfl
@[simp] theorem Hub.setOct_ledger (h : Hub) (k : Nat) (b : List Byte) : (h.setOct k b).ledger = h.ledger := rfl
@[simp] theorem Hub.setOct_cans (h : Hub) (k : Nat) (b : List Byte) : (h.setOct k b).cans = h.cans := rfl
@[simp] theorem Hub.setOct_seqs (h : Hub) (k : Nat) (b : List Byte) : (h.setOct k b).seqs = h.seqs := rfl
@[simp] theorem Hub.setOct_sta (h : Hub) (k : Nat) (b : List Byte) : (h.setOct k b).sta = h.sta := rfl
@[simp] theorem Hub.setOct_ptp (h : Hub) (k : Nat) (b : List Byte) : (h.setOct k b).ptp = h.ptp := rfl
@[simp] theorem Hub.setOct_goose (h : Hub) (k : Nat) (b : List Byte) : (h.setOct k b).goose = h.goose := rfl
@[simp] theorem Hub.setOct_duplex (h : Hub) (k : Nat) (b : List Byte) : (h.setOct k b).duplex = h.duplex := rfl
@[simp] theorem Hub.setOct_keeper (h : Hub) (k : Nat) (b : List Byte) : (h.setOct k b).keeper = h.keeper := rfl
@[simp] theorem Hub.setOct_scans (h : Hub) (k : Nat) (b : List Byte) : (h.setOct k b).scans = h.scans := rfl
@[simp] theorem Hub.setOct_safety (h : Hub) (k : Nat) (b : List Byte) : (h.setOct k b).safety = h.safety := rfl
@[simp] theorem Hub.setOct_power (h : Hub) (k : Nat) (b : List Byte) : (h.setOct k b).power = h.power := rfl
@[simp] theorem Hub.setOct_pwr (h : Hub) (k : Nat) (b : List Byte) : (h.setOct k b).pwr = h.pwr := rfl
@[simp] theorem Hub.setOct_svc (h : Hub) (k : Nat) (b : List Byte) : (h.setOct k b).svc = h.svc := rfl
@[simp] theorem Hub.setOct_upd (h : Hub) (k : Nat) (b : List Byte) : (h.setOct k b).upd = h.upd := rfl
@[simp] theorem Hub.setOct_rwb (h : Hub) (k : Nat) (b : List Byte) : (h.setOct k b).rwb = h.rwb := rfl
@[simp] theorem Hub.setOct_funcs (h : Hub) (k : Nat) (b : List Byte) : (h.setOct k b).funcs = h.funcs := rfl
@[simp] theorem Hub.setOct_out (h : Hub) (k : Nat) (b : List Byte) : (h.setOct k b).out = h.out := rfl
@[simp] theorem Hub.setOct_freeCtr (h : Hub) (k : Nat) (b : List Byte) : (h.setOct k b).freeCtr = h.freeCtr := rfl

/-! countN -/

@[simp] theorem Hub.countN_time (h : Hub) (k n : Nat) : (h.countN k n).time = h.time := rfl
@[simp] theorem Hub.countN_ring (h : Hub) (k n : Nat) : (h.countN k n).ring = h.ring := rfl
@[simp] theorem Hub.countN_bridge (h : Hub) (k n : Nat) : (h.countN k n).bridge = h.bridge := rfl
@[simp] theorem Hub.countN_sw (h : Hub) (k n : Nat) : (h.countN k n).sw = h.sw := rfl
@[simp] theorem Hub.countN_host (h : Hub) (k n : Nat) : (h.countN k n).host = h.host := rfl
@[simp] theorem Hub.countN_store (h : Hub) (k n : Nat) : (h.countN k n).store = h.store := rfl
@[simp] theorem Hub.countN_chans (h : Hub) (k n : Nat) : (h.countN k n).chans = h.chans := rfl
@[simp] theorem Hub.countN_ledger (h : Hub) (k n : Nat) : (h.countN k n).ledger = h.ledger := rfl
@[simp] theorem Hub.countN_cans (h : Hub) (k n : Nat) : (h.countN k n).cans = h.cans := rfl
@[simp] theorem Hub.countN_seqs (h : Hub) (k n : Nat) : (h.countN k n).seqs = h.seqs := rfl
@[simp] theorem Hub.countN_sta (h : Hub) (k n : Nat) : (h.countN k n).sta = h.sta := rfl
@[simp] theorem Hub.countN_ptp (h : Hub) (k n : Nat) : (h.countN k n).ptp = h.ptp := rfl
@[simp] theorem Hub.countN_goose (h : Hub) (k n : Nat) : (h.countN k n).goose = h.goose := rfl
@[simp] theorem Hub.countN_duplex (h : Hub) (k n : Nat) : (h.countN k n).duplex = h.duplex := rfl
@[simp] theorem Hub.countN_keeper (h : Hub) (k n : Nat) : (h.countN k n).keeper = h.keeper := rfl
@[simp] theorem Hub.countN_scans (h : Hub) (k n : Nat) : (h.countN k n).scans = h.scans := rfl
@[simp] theorem Hub.countN_safety (h : Hub) (k n : Nat) : (h.countN k n).safety = h.safety := rfl
@[simp] theorem Hub.countN_power (h : Hub) (k n : Nat) : (h.countN k n).power = h.power := rfl
@[simp] theorem Hub.countN_pwr (h : Hub) (k n : Nat) : (h.countN k n).pwr = h.pwr := rfl
@[simp] theorem Hub.countN_svc (h : Hub) (k n : Nat) : (h.countN k n).svc = h.svc := rfl
@[simp] theorem Hub.countN_upd (h : Hub) (k n : Nat) : (h.countN k n).upd = h.upd := rfl
@[simp] theorem Hub.countN_rwb (h : Hub) (k n : Nat) : (h.countN k n).rwb = h.rwb := rfl
@[simp] theorem Hub.countN_funcs (h : Hub) (k n : Nat) : (h.countN k n).funcs = h.funcs := rfl
@[simp] theorem Hub.countN_out (h : Hub) (k n : Nat) : (h.countN k n).out = h.out := rfl
@[simp] theorem Hub.countN_freeCtr (h : Hub) (k n : Nat) : (h.countN k n).freeCtr = h.freeCtr := rfl

/-! count -/

@[simp] theorem Hub.count_time (h : Hub) (k : Nat) : (h.count k).time = h.time := rfl
@[simp] theorem Hub.count_ring (h : Hub) (k : Nat) : (h.count k).ring = h.ring := rfl
@[simp] theorem Hub.count_bridge (h : Hub) (k : Nat) : (h.count k).bridge = h.bridge := rfl
@[simp] theorem Hub.count_sw (h : Hub) (k : Nat) : (h.count k).sw = h.sw := rfl
@[simp] theorem Hub.count_host (h : Hub) (k : Nat) : (h.count k).host = h.host := rfl
@[simp] theorem Hub.count_store (h : Hub) (k : Nat) : (h.count k).store = h.store := rfl
@[simp] theorem Hub.count_chans (h : Hub) (k : Nat) : (h.count k).chans = h.chans := rfl
@[simp] theorem Hub.count_ledger (h : Hub) (k : Nat) : (h.count k).ledger = h.ledger := rfl
@[simp] theorem Hub.count_cans (h : Hub) (k : Nat) : (h.count k).cans = h.cans := rfl
@[simp] theorem Hub.count_seqs (h : Hub) (k : Nat) : (h.count k).seqs = h.seqs := rfl
@[simp] theorem Hub.count_sta (h : Hub) (k : Nat) : (h.count k).sta = h.sta := rfl
@[simp] theorem Hub.count_ptp (h : Hub) (k : Nat) : (h.count k).ptp = h.ptp := rfl
@[simp] theorem Hub.count_goose (h : Hub) (k : Nat) : (h.count k).goose = h.goose := rfl
@[simp] theorem Hub.count_duplex (h : Hub) (k : Nat) : (h.count k).duplex = h.duplex := rfl
@[simp] theorem Hub.count_keeper (h : Hub) (k : Nat) : (h.count k).keeper = h.keeper := rfl
@[simp] theorem Hub.count_scans (h : Hub) (k : Nat) : (h.count k).scans = h.scans := rfl
@[simp] theorem Hub.count_safety (h : Hub) (k : Nat) : (h.count k).safety = h.safety := rfl
@[simp] theorem Hub.count_power (h : Hub) (k : Nat) : (h.count k).power = h.power := rfl
@[simp] theorem Hub.count_pwr (h : Hub) (k : Nat) : (h.count k).pwr = h.pwr := rfl
@[simp] theorem Hub.count_svc (h : Hub) (k : Nat) : (h.count k).svc = h.svc := rfl
@[simp] theorem Hub.count_upd (h : Hub) (k : Nat) : (h.count k).upd = h.upd := rfl
@[simp] theorem Hub.count_rwb (h : Hub) (k : Nat) : (h.count k).rwb = h.rwb := rfl
@[simp] theorem Hub.count_funcs (h : Hub) (k : Nat) : (h.count k).funcs = h.funcs := rfl
@[simp] theorem Hub.count_out (h : Hub) (k : Nat) : (h.count k).out = h.out := rfl
@[simp] theorem Hub.count_freeCtr (h : Hub) (k : Nat) : (h.count k).freeCtr = h.freeCtr := rfl

/-! wrapAdd -/

@[simp] theorem Hub.wrapAdd_time (h : Hub) (k n : Nat) : (h.wrapAdd k n).time = h.time := rfl
@[simp] theorem Hub.wrapAdd_ring (h : Hub) (k n : Nat) : (h.wrapAdd k n).ring = h.ring := rfl
@[simp] theorem Hub.wrapAdd_bridge (h : Hub) (k n : Nat) : (h.wrapAdd k n).bridge = h.bridge := rfl
@[simp] theorem Hub.wrapAdd_sw (h : Hub) (k n : Nat) : (h.wrapAdd k n).sw = h.sw := rfl
@[simp] theorem Hub.wrapAdd_host (h : Hub) (k n : Nat) : (h.wrapAdd k n).host = h.host := rfl
@[simp] theorem Hub.wrapAdd_store (h : Hub) (k n : Nat) : (h.wrapAdd k n).store = h.store := rfl
@[simp] theorem Hub.wrapAdd_chans (h : Hub) (k n : Nat) : (h.wrapAdd k n).chans = h.chans := rfl
@[simp] theorem Hub.wrapAdd_ledger (h : Hub) (k n : Nat) : (h.wrapAdd k n).ledger = h.ledger := rfl
@[simp] theorem Hub.wrapAdd_cans (h : Hub) (k n : Nat) : (h.wrapAdd k n).cans = h.cans := rfl
@[simp] theorem Hub.wrapAdd_seqs (h : Hub) (k n : Nat) : (h.wrapAdd k n).seqs = h.seqs := rfl
@[simp] theorem Hub.wrapAdd_sta (h : Hub) (k n : Nat) : (h.wrapAdd k n).sta = h.sta := rfl
@[simp] theorem Hub.wrapAdd_ptp (h : Hub) (k n : Nat) : (h.wrapAdd k n).ptp = h.ptp := rfl
@[simp] theorem Hub.wrapAdd_goose (h : Hub) (k n : Nat) : (h.wrapAdd k n).goose = h.goose := rfl
@[simp] theorem Hub.wrapAdd_duplex (h : Hub) (k n : Nat) : (h.wrapAdd k n).duplex = h.duplex := rfl
@[simp] theorem Hub.wrapAdd_keeper (h : Hub) (k n : Nat) : (h.wrapAdd k n).keeper = h.keeper := rfl
@[simp] theorem Hub.wrapAdd_scans (h : Hub) (k n : Nat) : (h.wrapAdd k n).scans = h.scans := rfl
@[simp] theorem Hub.wrapAdd_safety (h : Hub) (k n : Nat) : (h.wrapAdd k n).safety = h.safety := rfl
@[simp] theorem Hub.wrapAdd_power (h : Hub) (k n : Nat) : (h.wrapAdd k n).power = h.power := rfl
@[simp] theorem Hub.wrapAdd_pwr (h : Hub) (k n : Nat) : (h.wrapAdd k n).pwr = h.pwr := rfl
@[simp] theorem Hub.wrapAdd_svc (h : Hub) (k n : Nat) : (h.wrapAdd k n).svc = h.svc := rfl
@[simp] theorem Hub.wrapAdd_upd (h : Hub) (k n : Nat) : (h.wrapAdd k n).upd = h.upd := rfl
@[simp] theorem Hub.wrapAdd_rwb (h : Hub) (k n : Nat) : (h.wrapAdd k n).rwb = h.rwb := rfl
@[simp] theorem Hub.wrapAdd_funcs (h : Hub) (k n : Nat) : (h.wrapAdd k n).funcs = h.funcs := rfl
@[simp] theorem Hub.wrapAdd_out (h : Hub) (k n : Nat) : (h.wrapAdd k n).out = h.out := rfl
@[simp] theorem Hub.wrapAdd_freeCtr (h : Hub) (k n : Nat) : (h.wrapAdd k n).freeCtr = h.freeCtr := rfl

/-! emit -/

@[simp] theorem Hub.emit_time (h : Hub) (o : Out) : (h.emit o).time = h.time := rfl
@[simp] theorem Hub.emit_ring (h : Hub) (o : Out) : (h.emit o).ring = h.ring := rfl
@[simp] theorem Hub.emit_bridge (h : Hub) (o : Out) : (h.emit o).bridge = h.bridge := rfl
@[simp] theorem Hub.emit_sw (h : Hub) (o : Out) : (h.emit o).sw = h.sw := rfl
@[simp] theorem Hub.emit_host (h : Hub) (o : Out) : (h.emit o).host = h.host := rfl
@[simp] theorem Hub.emit_store (h : Hub) (o : Out) : (h.emit o).store = h.store := rfl
@[simp] theorem Hub.emit_chans (h : Hub) (o : Out) : (h.emit o).chans = h.chans := rfl
@[simp] theorem Hub.emit_ledger (h : Hub) (o : Out) : (h.emit o).ledger = h.ledger := rfl
@[simp] theorem Hub.emit_cans (h : Hub) (o : Out) : (h.emit o).cans = h.cans := rfl
@[simp] theorem Hub.emit_seqs (h : Hub) (o : Out) : (h.emit o).seqs = h.seqs := rfl
@[simp] theorem Hub.emit_sta (h : Hub) (o : Out) : (h.emit o).sta = h.sta := rfl
@[simp] theorem Hub.emit_ptp (h : Hub) (o : Out) : (h.emit o).ptp = h.ptp := rfl
@[simp] theorem Hub.emit_goose (h : Hub) (o : Out) : (h.emit o).goose = h.goose := rfl
@[simp] theorem Hub.emit_duplex (h : Hub) (o : Out) : (h.emit o).duplex = h.duplex := rfl
@[simp] theorem Hub.emit_keeper (h : Hub) (o : Out) : (h.emit o).keeper = h.keeper := rfl
@[simp] theorem Hub.emit_scans (h : Hub) (o : Out) : (h.emit o).scans = h.scans := rfl
@[simp] theorem Hub.emit_safety (h : Hub) (o : Out) : (h.emit o).safety = h.safety := rfl
@[simp] theorem Hub.emit_power (h : Hub) (o : Out) : (h.emit o).power = h.power := rfl
@[simp] theorem Hub.emit_pwr (h : Hub) (o : Out) : (h.emit o).pwr = h.pwr := rfl
@[simp] theorem Hub.emit_svc (h : Hub) (o : Out) : (h.emit o).svc = h.svc := rfl
@[simp] theorem Hub.emit_upd (h : Hub) (o : Out) : (h.emit o).upd = h.upd := rfl
@[simp] theorem Hub.emit_dict (h : Hub) (o : Out) : (h.emit o).dict = h.dict := rfl
@[simp] theorem Hub.emit_rwb (h : Hub) (o : Out) : (h.emit o).rwb = h.rwb := rfl
@[simp] theorem Hub.emit_funcs (h : Hub) (o : Out) : (h.emit o).funcs = h.funcs := rfl
@[simp] theorem Hub.emit_freeCtr (h : Hub) (o : Out) : (h.emit o).freeCtr = h.freeCtr := rfl

/-! nextFree -/

@[simp] theorem Hub.nextFree_time (h : Hub) : (h.nextFree).time = h.time := rfl
@[simp] theorem Hub.nextFree_ring (h : Hub) : (h.nextFree).ring = h.ring := rfl
@[simp] theorem Hub.nextFree_bridge (h : Hub) : (h.nextFree).bridge = h.bridge := rfl
@[simp] theorem Hub.nextFree_sw (h : Hub) : (h.nextFree).sw = h.sw := rfl
@[simp] theorem Hub.nextFree_host (h : Hub) : (h.nextFree).host = h.host := rfl
@[simp] theorem Hub.nextFree_store (h : Hub) : (h.nextFree).store = h.store := rfl
@[simp] theorem Hub.nextFree_chans (h : Hub) : (h.nextFree).chans = h.chans := rfl
@[simp] theorem Hub.nextFree_ledger (h : Hub) : (h.nextFree).ledger = h.ledger := rfl
@[simp] theorem Hub.nextFree_cans (h : Hub) : (h.nextFree).cans = h.cans := rfl
@[simp] theorem Hub.nextFree_seqs (h : Hub) : (h.nextFree).seqs = h.seqs := rfl
@[simp] theorem Hub.nextFree_sta (h : Hub) : (h.nextFree).sta = h.sta := rfl
@[simp] theorem Hub.nextFree_ptp (h : Hub) : (h.nextFree).ptp = h.ptp := rfl
@[simp] theorem Hub.nextFree_goose (h : Hub) : (h.nextFree).goose = h.goose := rfl
@[simp] theorem Hub.nextFree_duplex (h : Hub) : (h.nextFree).duplex = h.duplex := rfl
@[simp] theorem Hub.nextFree_keeper (h : Hub) : (h.nextFree).keeper = h.keeper := rfl
@[simp] theorem Hub.nextFree_scans (h : Hub) : (h.nextFree).scans = h.scans := rfl
@[simp] theorem Hub.nextFree_safety (h : Hub) : (h.nextFree).safety = h.safety := rfl
@[simp] theorem Hub.nextFree_power (h : Hub) : (h.nextFree).power = h.power := rfl
@[simp] theorem Hub.nextFree_pwr (h : Hub) : (h.nextFree).pwr = h.pwr := rfl
@[simp] theorem Hub.nextFree_svc (h : Hub) : (h.nextFree).svc = h.svc := rfl
@[simp] theorem Hub.nextFree_upd (h : Hub) : (h.nextFree).upd = h.upd := rfl
@[simp] theorem Hub.nextFree_dict (h : Hub) : (h.nextFree).dict = h.dict := rfl
@[simp] theorem Hub.nextFree_rwb (h : Hub) : (h.nextFree).rwb = h.rwb := rfl
@[simp] theorem Hub.nextFree_funcs (h : Hub) : (h.nextFree).funcs = h.funcs := rfl
@[simp] theorem Hub.nextFree_out (h : Hub) : (h.nextFree).out = h.out := rfl

/-! setFunc -/

@[simp] theorem Hub.setFunc_time (h : Hub) (i : Nat) (f : FState) : (h.setFunc i f).time = h.time := rfl
@[simp] theorem Hub.setFunc_ring (h : Hub) (i : Nat) (f : FState) : (h.setFunc i f).ring = h.ring := rfl
@[simp] theorem Hub.setFunc_bridge (h : Hub) (i : Nat) (f : FState) : (h.setFunc i f).bridge = h.bridge := rfl
@[simp] theorem Hub.setFunc_sw (h : Hub) (i : Nat) (f : FState) : (h.setFunc i f).sw = h.sw := rfl
@[simp] theorem Hub.setFunc_host (h : Hub) (i : Nat) (f : FState) : (h.setFunc i f).host = h.host := rfl
@[simp] theorem Hub.setFunc_store (h : Hub) (i : Nat) (f : FState) : (h.setFunc i f).store = h.store := rfl
@[simp] theorem Hub.setFunc_chans (h : Hub) (i : Nat) (f : FState) : (h.setFunc i f).chans = h.chans := rfl
@[simp] theorem Hub.setFunc_ledger (h : Hub) (i : Nat) (f : FState) : (h.setFunc i f).ledger = h.ledger := rfl
@[simp] theorem Hub.setFunc_cans (h : Hub) (i : Nat) (f : FState) : (h.setFunc i f).cans = h.cans := rfl
@[simp] theorem Hub.setFunc_seqs (h : Hub) (i : Nat) (f : FState) : (h.setFunc i f).seqs = h.seqs := rfl
@[simp] theorem Hub.setFunc_sta (h : Hub) (i : Nat) (f : FState) : (h.setFunc i f).sta = h.sta := rfl
@[simp] theorem Hub.setFunc_ptp (h : Hub) (i : Nat) (f : FState) : (h.setFunc i f).ptp = h.ptp := rfl
@[simp] theorem Hub.setFunc_goose (h : Hub) (i : Nat) (f : FState) : (h.setFunc i f).goose = h.goose := rfl
@[simp] theorem Hub.setFunc_duplex (h : Hub) (i : Nat) (f : FState) : (h.setFunc i f).duplex = h.duplex := rfl
@[simp] theorem Hub.setFunc_keeper (h : Hub) (i : Nat) (f : FState) : (h.setFunc i f).keeper = h.keeper := rfl
@[simp] theorem Hub.setFunc_scans (h : Hub) (i : Nat) (f : FState) : (h.setFunc i f).scans = h.scans := rfl
@[simp] theorem Hub.setFunc_safety (h : Hub) (i : Nat) (f : FState) : (h.setFunc i f).safety = h.safety := rfl
@[simp] theorem Hub.setFunc_power (h : Hub) (i : Nat) (f : FState) : (h.setFunc i f).power = h.power := rfl
@[simp] theorem Hub.setFunc_pwr (h : Hub) (i : Nat) (f : FState) : (h.setFunc i f).pwr = h.pwr := rfl
@[simp] theorem Hub.setFunc_svc (h : Hub) (i : Nat) (f : FState) : (h.setFunc i f).svc = h.svc := rfl
@[simp] theorem Hub.setFunc_upd (h : Hub) (i : Nat) (f : FState) : (h.setFunc i f).upd = h.upd := rfl
@[simp] theorem Hub.setFunc_dict (h : Hub) (i : Nat) (f : FState) : (h.setFunc i f).dict = h.dict := rfl
@[simp] theorem Hub.setFunc_rwb (h : Hub) (i : Nat) (f : FState) : (h.setFunc i f).rwb = h.rwb := rfl
@[simp] theorem Hub.setFunc_out (h : Hub) (i : Nat) (f : FState) : (h.setFunc i f).out = h.out := rfl
@[simp] theorem Hub.setFunc_freeCtr (h : Hub) (i : Nat) (f : FState) : (h.setFunc i f).freeCtr = h.freeCtr := rfl

/-! setChan -/

@[simp] theorem Hub.setChan_time (h : Hub) (c : Nat) (x : Chan) : (h.setChan c x).time = h.time := rfl
@[simp] theorem Hub.setChan_ring (h : Hub) (c : Nat) (x : Chan) : (h.setChan c x).ring = h.ring := rfl
@[simp] theorem Hub.setChan_bridge (h : Hub) (c : Nat) (x : Chan) : (h.setChan c x).bridge = h.bridge := rfl
@[simp] theorem Hub.setChan_sw (h : Hub) (c : Nat) (x : Chan) : (h.setChan c x).sw = h.sw := rfl
@[simp] theorem Hub.setChan_host (h : Hub) (c : Nat) (x : Chan) : (h.setChan c x).host = h.host := rfl
@[simp] theorem Hub.setChan_store (h : Hub) (c : Nat) (x : Chan) : (h.setChan c x).store = h.store := rfl
@[simp] theorem Hub.setChan_ledger (h : Hub) (c : Nat) (x : Chan) : (h.setChan c x).ledger = h.ledger := rfl
@[simp] theorem Hub.setChan_cans (h : Hub) (c : Nat) (x : Chan) : (h.setChan c x).cans = h.cans := rfl
@[simp] theorem Hub.setChan_seqs (h : Hub) (c : Nat) (x : Chan) : (h.setChan c x).seqs = h.seqs := rfl
@[simp] theorem Hub.setChan_sta (h : Hub) (c : Nat) (x : Chan) : (h.setChan c x).sta = h.sta := rfl
@[simp] theorem Hub.setChan_ptp (h : Hub) (c : Nat) (x : Chan) : (h.setChan c x).ptp = h.ptp := rfl
@[simp] theorem Hub.setChan_goose (h : Hub) (c : Nat) (x : Chan) : (h.setChan c x).goose = h.goose := rfl
@[simp] theorem Hub.setChan_duplex (h : Hub) (c : Nat) (x : Chan) : (h.setChan c x).duplex = h.duplex := rfl
@[simp] theorem Hub.setChan_keeper (h : Hub) (c : Nat) (x : Chan) : (h.setChan c x).keeper = h.keeper := rfl
@[simp] theorem Hub.setChan_scans (h : Hub) (c : Nat) (x : Chan) : (h.setChan c x).scans = h.scans := rfl
@[simp] theorem Hub.setChan_safety (h : Hub) (c : Nat) (x : Chan) : (h.setChan c x).safety = h.safety := rfl
@[simp] theorem Hub.setChan_power (h : Hub) (c : Nat) (x : Chan) : (h.setChan c x).power = h.power := rfl
@[simp] theorem Hub.setChan_pwr (h : Hub) (c : Nat) (x : Chan) : (h.setChan c x).pwr = h.pwr := rfl
@[simp] theorem Hub.setChan_svc (h : Hub) (c : Nat) (x : Chan) : (h.setChan c x).svc = h.svc := rfl
@[simp] theorem Hub.setChan_upd (h : Hub) (c : Nat) (x : Chan) : (h.setChan c x).upd = h.upd := rfl
@[simp] theorem Hub.setChan_dict (h : Hub) (c : Nat) (x : Chan) : (h.setChan c x).dict = h.dict := rfl
@[simp] theorem Hub.setChan_rwb (h : Hub) (c : Nat) (x : Chan) : (h.setChan c x).rwb = h.rwb := rfl
@[simp] theorem Hub.setChan_funcs (h : Hub) (c : Nat) (x : Chan) : (h.setChan c x).funcs = h.funcs := rfl
@[simp] theorem Hub.setChan_out (h : Hub) (c : Nat) (x : Chan) : (h.setChan c x).out = h.out := rfl
@[simp] theorem Hub.setChan_freeCtr (h : Hub) (c : Nat) (x : Chan) : (h.setChan c x).freeCtr = h.freeCtr := rfl

/-! setCan -/

@[simp] theorem Hub.setCan_time (h : Hub) (n : Nat) (x : Can) : (h.setCan n x).time = h.time := rfl
@[simp] theorem Hub.setCan_ring (h : Hub) (n : Nat) (x : Can) : (h.setCan n x).ring = h.ring := rfl
@[simp] theorem Hub.setCan_bridge (h : Hub) (n : Nat) (x : Can) : (h.setCan n x).bridge = h.bridge := rfl
@[simp] theorem Hub.setCan_sw (h : Hub) (n : Nat) (x : Can) : (h.setCan n x).sw = h.sw := rfl
@[simp] theorem Hub.setCan_host (h : Hub) (n : Nat) (x : Can) : (h.setCan n x).host = h.host := rfl
@[simp] theorem Hub.setCan_store (h : Hub) (n : Nat) (x : Can) : (h.setCan n x).store = h.store := rfl
@[simp] theorem Hub.setCan_chans (h : Hub) (n : Nat) (x : Can) : (h.setCan n x).chans = h.chans := rfl
@[simp] theorem Hub.setCan_ledger (h : Hub) (n : Nat) (x : Can) : (h.setCan n x).ledger = h.ledger := rfl
@[simp] theorem Hub.setCan_seqs (h : Hub) (n : Nat) (x : Can) : (h.setCan n x).seqs = h.seqs := rfl
@[simp] theorem Hub.setCan_sta (h : Hub) (n : Nat) (x : Can) : (h.setCan n x).sta = h.sta := rfl
@[simp] theorem Hub.setCan_ptp (h : Hub) (n : Nat) (x : Can) : (h.setCan n x).ptp = h.ptp := rfl
@[simp] theorem Hub.setCan_goose (h : Hub) (n : Nat) (x : Can) : (h.setCan n x).goose = h.goose := rfl
@[simp] theorem Hub.setCan_duplex (h : Hub) (n : Nat) (x : Can) : (h.setCan n x).duplex = h.duplex := rfl
@[simp] theorem Hub.setCan_keeper (h : Hub) (n : Nat) (x : Can) : (h.setCan n x).keeper = h.keeper := rfl
@[simp] theorem Hub.setCan_scans (h : Hub) (n : Nat) (x : Can) : (h.setCan n x).scans = h.scans := rfl
@[simp] theorem Hub.setCan_safety (h : Hub) (n : Nat) (x : Can) : (h.setCan n x).safety = h.safety := rfl
@[simp] theorem Hub.setCan_power (h : Hub) (n : Nat) (x : Can) : (h.setCan n x).power = h.power := rfl
@[simp] theorem Hub.setCan_pwr (h : Hub) (n : Nat) (x : Can) : (h.setCan n x).pwr = h.pwr := rfl
@[simp] theorem Hub.setCan_svc (h : Hub) (n : Nat) (x : Can) : (h.setCan n x).svc = h.svc := rfl
@[simp] theorem Hub.setCan_upd (h : Hub) (n : Nat) (x : Can) : (h.setCan n x).upd = h.upd := rfl
@[simp] theorem Hub.setCan_dict (h : Hub) (n : Nat) (x : Can) : (h.setCan n x).dict = h.dict := rfl
@[simp] theorem Hub.setCan_rwb (h : Hub) (n : Nat) (x : Can) : (h.setCan n x).rwb = h.rwb := rfl
@[simp] theorem Hub.setCan_funcs (h : Hub) (n : Nat) (x : Can) : (h.setCan n x).funcs = h.funcs := rfl
@[simp] theorem Hub.setCan_out (h : Hub) (n : Nat) (x : Can) : (h.setCan n x).out = h.out := rfl
@[simp] theorem Hub.setCan_freeCtr (h : Hub) (n : Nat) (x : Can) : (h.setCan n x).freeCtr = h.freeCtr := rfl

/-! setSq -/

@[simp] theorem Hub.setSq_time (h : Hub) (n : Nat) (x : SeqState) : (h.setSq n x).time = h.time := rfl
@[simp] theorem Hub.setSq_ring (h : Hub) (n : Nat) (x : SeqState) : (h.setSq n x).ring = h.ring := rfl
@[simp] theorem Hub.setSq_bridge (h : Hub) (n : Nat) (x : SeqState) : (h.setSq n x).bridge = h.bridge := rfl
@[simp] theorem Hub.setSq_sw (h : Hub) (n : Nat) (x : SeqState) : (h.setSq n x).sw = h.sw := rfl
@[simp] theorem Hub.setSq_host (h : Hub) (n : Nat) (x : SeqState) : (h.setSq n x).host = h.host := rfl
@[simp] theorem Hub.setSq_store (h : Hub) (n : Nat) (x : SeqState) : (h.setSq n x).store = h.store := rfl
@[simp] theorem Hub.setSq_chans (h : Hub) (n : Nat) (x : SeqState) : (h.setSq n x).chans = h.chans := rfl
@[simp] theorem Hub.setSq_ledger (h : Hub) (n : Nat) (x : SeqState) : (h.setSq n x).ledger = h.ledger := rfl
@[simp] theorem Hub.setSq_cans (h : Hub) (n : Nat) (x : SeqState) : (h.setSq n x).cans = h.cans := rfl
@[simp] theorem Hub.setSq_sta (h : Hub) (n : Nat) (x : SeqState) : (h.setSq n x).sta = h.sta := rfl
@[simp] theorem Hub.setSq_ptp (h : Hub) (n : Nat) (x : SeqState) : (h.setSq n x).ptp = h.ptp := rfl
@[simp] theorem Hub.setSq_goose (h : Hub) (n : Nat) (x : SeqState) : (h.setSq n x).goose = h.goose := rfl
@[simp] theorem Hub.setSq_duplex (h : Hub) (n : Nat) (x : SeqState) : (h.setSq n x).duplex = h.duplex := rfl
@[simp] theorem Hub.setSq_keeper (h : Hub) (n : Nat) (x : SeqState) : (h.setSq n x).keeper = h.keeper := rfl
@[simp] theorem Hub.setSq_scans (h : Hub) (n : Nat) (x : SeqState) : (h.setSq n x).scans = h.scans := rfl
@[simp] theorem Hub.setSq_safety (h : Hub) (n : Nat) (x : SeqState) : (h.setSq n x).safety = h.safety := rfl
@[simp] theorem Hub.setSq_power (h : Hub) (n : Nat) (x : SeqState) : (h.setSq n x).power = h.power := rfl
@[simp] theorem Hub.setSq_pwr (h : Hub) (n : Nat) (x : SeqState) : (h.setSq n x).pwr = h.pwr := rfl
@[simp] theorem Hub.setSq_svc (h : Hub) (n : Nat) (x : SeqState) : (h.setSq n x).svc = h.svc := rfl
@[simp] theorem Hub.setSq_upd (h : Hub) (n : Nat) (x : SeqState) : (h.setSq n x).upd = h.upd := rfl
@[simp] theorem Hub.setSq_dict (h : Hub) (n : Nat) (x : SeqState) : (h.setSq n x).dict = h.dict := rfl
@[simp] theorem Hub.setSq_rwb (h : Hub) (n : Nat) (x : SeqState) : (h.setSq n x).rwb = h.rwb := rfl
@[simp] theorem Hub.setSq_funcs (h : Hub) (n : Nat) (x : SeqState) : (h.setSq n x).funcs = h.funcs := rfl
@[simp] theorem Hub.setSq_out (h : Hub) (n : Nat) (x : SeqState) : (h.setSq n x).out = h.out := rfl
@[simp] theorem Hub.setSq_freeCtr (h : Hub) (n : Nat) (x : SeqState) : (h.setSq n x).freeCtr = h.freeCtr := rfl

/-! setScan -/

@[simp] theorem Hub.setScan_time (h : Hub) (e : Nat) (x : Scan) : (h.setScan e x).time = h.time := rfl
@[simp] theorem Hub.setScan_ring (h : Hub) (e : Nat) (x : Scan) : (h.setScan e x).ring = h.ring := rfl
@[simp] theorem Hub.setScan_bridge (h : Hub) (e : Nat) (x : Scan) : (h.setScan e x).bridge = h.bridge := rfl
@[simp] theorem Hub.setScan_sw (h : Hub) (e : Nat) (x : Scan) : (h.setScan e x).sw = h.sw := rfl
@[simp] theorem Hub.setScan_host (h : Hub) (e : Nat) (x : Scan) : (h.setScan e x).host = h.host := rfl
@[simp] theorem Hub.setScan_store (h : Hub) (e : Nat) (x : Scan) : (h.setScan e x).store = h.store := rfl
@[simp] theorem Hub.setScan_chans (h : Hub) (e : Nat) (x : Scan) : (h.setScan e x).chans = h.chans := rfl
@[simp] theorem Hub.setScan_ledger (h : Hub) (e : Nat) (x : Scan) : (h.setScan e x).ledger = h.ledger := rfl
@[simp] theorem Hub.setScan_cans (h : Hub) (e : Nat) (x : Scan) : (h.setScan e x).cans = h.cans := rfl
@[simp] theorem Hub.setScan_seqs (h : Hub) (e : Nat) (x : Scan) : (h.setScan e x).seqs = h.seqs := rfl
@[simp] theorem Hub.setScan_sta (h : Hub) (e : Nat) (x : Scan) : (h.setScan e x).sta = h.sta := rfl
@[simp] theorem Hub.setScan_ptp (h : Hub) (e : Nat) (x : Scan) : (h.setScan e x).ptp = h.ptp := rfl
@[simp] theorem Hub.setScan_goose (h : Hub) (e : Nat) (x : Scan) : (h.setScan e x).goose = h.goose := rfl
@[simp] theorem Hub.setScan_duplex (h : Hub) (e : Nat) (x : Scan) : (h.setScan e x).duplex = h.duplex := rfl
@[simp] theorem Hub.setScan_keeper (h : Hub) (e : Nat) (x : Scan) : (h.setScan e x).keeper = h.keeper := rfl
@[simp] theorem Hub.setScan_safety (h : Hub) (e : Nat) (x : Scan) : (h.setScan e x).safety = h.safety := rfl
@[simp] theorem Hub.setScan_power (h : Hub) (e : Nat) (x : Scan) : (h.setScan e x).power = h.power := rfl
@[simp] theorem Hub.setScan_pwr (h : Hub) (e : Nat) (x : Scan) : (h.setScan e x).pwr = h.pwr := rfl
@[simp] theorem Hub.setScan_svc (h : Hub) (e : Nat) (x : Scan) : (h.setScan e x).svc = h.svc := rfl
@[simp] theorem Hub.setScan_upd (h : Hub) (e : Nat) (x : Scan) : (h.setScan e x).upd = h.upd := rfl
@[simp] theorem Hub.setScan_dict (h : Hub) (e : Nat) (x : Scan) : (h.setScan e x).dict = h.dict := rfl
@[simp] theorem Hub.setScan_rwb (h : Hub) (e : Nat) (x : Scan) : (h.setScan e x).rwb = h.rwb := rfl
@[simp] theorem Hub.setScan_funcs (h : Hub) (e : Nat) (x : Scan) : (h.setScan e x).funcs = h.funcs := rfl
@[simp] theorem Hub.setScan_out (h : Hub) (e : Nat) (x : Scan) : (h.setScan e x).out = h.out := rfl
@[simp] theorem Hub.setScan_freeCtr (h : Hub) (e : Nat) (x : Scan) : (h.setScan e x).freeCtr = h.freeCtr := rfl

/-! setPtpPort -/

@[simp] theorem Hub.setPtpPort_time (h : Hub) (p : Nat) (x : PtpPort) : (h.setPtpPort p x).time = h.time := rfl
@[simp] theorem Hub.setPtpPort_ring (h : Hub) (p : Nat) (x : PtpPort) : (h.setPtpPort p x).ring = h.ring := rfl
@[simp] theorem Hub.setPtpPort_bridge (h : Hub) (p : Nat) (x : PtpPort) : (h.setPtpPort p x).bridge = h.bridge := rfl
@[simp] theorem Hub.setPtpPort_sw (h : Hub) (p : Nat) (x : PtpPort) : (h.setPtpPort p x).sw = h.sw := rfl
@[simp] theorem Hub.setPtpPort_host (h : Hub) (p : Nat) (x : PtpPort) : (h.setPtpPort p x).host = h.host := rfl
@[simp] theorem Hub.setPtpPort_store (h : Hub) (p : Nat) (x : PtpPort) : (h.setPtpPort p x).store = h.store := rfl
@[simp] theorem Hub.setPtpPort_chans (h : Hub) (p : Nat) (x : PtpPort) : (h.setPtpPort p x).chans = h.chans := rfl
@[simp] theorem Hub.setPtpPort_ledger (h : Hub) (p : Nat) (x : PtpPort) : (h.setPtpPort p x).ledger = h.ledger := rfl
@[simp] theorem Hub.setPtpPort_cans (h : Hub) (p : Nat) (x : PtpPort) : (h.setPtpPort p x).cans = h.cans := rfl
@[simp] theorem Hub.setPtpPort_seqs (h : Hub) (p : Nat) (x : PtpPort) : (h.setPtpPort p x).seqs = h.seqs := rfl
@[simp] theorem Hub.setPtpPort_sta (h : Hub) (p : Nat) (x : PtpPort) : (h.setPtpPort p x).sta = h.sta := rfl
@[simp] theorem Hub.setPtpPort_goose (h : Hub) (p : Nat) (x : PtpPort) : (h.setPtpPort p x).goose = h.goose := rfl
@[simp] theorem Hub.setPtpPort_duplex (h : Hub) (p : Nat) (x : PtpPort) : (h.setPtpPort p x).duplex = h.duplex := rfl
@[simp] theorem Hub.setPtpPort_keeper (h : Hub) (p : Nat) (x : PtpPort) : (h.setPtpPort p x).keeper = h.keeper := rfl
@[simp] theorem Hub.setPtpPort_scans (h : Hub) (p : Nat) (x : PtpPort) : (h.setPtpPort p x).scans = h.scans := rfl
@[simp] theorem Hub.setPtpPort_safety (h : Hub) (p : Nat) (x : PtpPort) : (h.setPtpPort p x).safety = h.safety := rfl
@[simp] theorem Hub.setPtpPort_power (h : Hub) (p : Nat) (x : PtpPort) : (h.setPtpPort p x).power = h.power := rfl
@[simp] theorem Hub.setPtpPort_pwr (h : Hub) (p : Nat) (x : PtpPort) : (h.setPtpPort p x).pwr = h.pwr := rfl
@[simp] theorem Hub.setPtpPort_svc (h : Hub) (p : Nat) (x : PtpPort) : (h.setPtpPort p x).svc = h.svc := rfl
@[simp] theorem Hub.setPtpPort_upd (h : Hub) (p : Nat) (x : PtpPort) : (h.setPtpPort p x).upd = h.upd := rfl
@[simp] theorem Hub.setPtpPort_dict (h : Hub) (p : Nat) (x : PtpPort) : (h.setPtpPort p x).dict = h.dict := rfl
@[simp] theorem Hub.setPtpPort_rwb (h : Hub) (p : Nat) (x : PtpPort) : (h.setPtpPort p x).rwb = h.rwb := rfl
@[simp] theorem Hub.setPtpPort_funcs (h : Hub) (p : Nat) (x : PtpPort) : (h.setPtpPort p x).funcs = h.funcs := rfl
@[simp] theorem Hub.setPtpPort_out (h : Hub) (p : Nat) (x : PtpPort) : (h.setPtpPort p x).out = h.out := rfl
@[simp] theorem Hub.setPtpPort_freeCtr (h : Hub) (p : Nat) (x : PtpPort) : (h.setPtpPort p x).freeCtr = h.freeCtr := rfl

/-! setQueue -/

@[simp] theorem Hub.setQueue_time (h : Hub) (q : Nat) (x : QState) : (h.setQueue q x).time = h.time := rfl
@[simp] theorem Hub.setQueue_ring (h : Hub) (q : Nat) (x : QState) : (h.setQueue q x).ring = h.ring := rfl
@[simp] theorem Hub.setQueue_bridge (h : Hub) (q : Nat) (x : QState) : (h.setQueue q x).bridge = h.bridge := rfl
@[simp] theorem Hub.setQueue_sw (h : Hub) (q : Nat) (x : QState) : (h.setQueue q x).sw = h.sw := rfl
@[simp] theorem Hub.setQueue_store (h : Hub) (q : Nat) (x : QState) : (h.setQueue q x).store = h.store := rfl
@[simp] theorem Hub.setQueue_chans (h : Hub) (q : Nat) (x : QState) : (h.setQueue q x).chans = h.chans := rfl
@[simp] theorem Hub.setQueue_ledger (h : Hub) (q : Nat) (x : QState) : (h.setQueue q x).ledger = h.ledger := rfl
@[simp] theorem Hub.setQueue_cans (h : Hub) (q : Nat) (x : QState) : (h.setQueue q x).cans = h.cans := rfl
@[simp] theorem Hub.setQueue_seqs (h : Hub) (q : Nat) (x : QState) : (h.setQueue q x).seqs = h.seqs := rfl
@[simp] theorem Hub.setQueue_sta (h : Hub) (q : Nat) (x : QState) : (h.setQueue q x).sta = h.sta := rfl
@[simp] theorem Hub.setQueue_ptp (h : Hub) (q : Nat) (x : QState) : (h.setQueue q x).ptp = h.ptp := rfl
@[simp] theorem Hub.setQueue_goose (h : Hub) (q : Nat) (x : QState) : (h.setQueue q x).goose = h.goose := rfl
@[simp] theorem Hub.setQueue_duplex (h : Hub) (q : Nat) (x : QState) : (h.setQueue q x).duplex = h.duplex := rfl
@[simp] theorem Hub.setQueue_keeper (h : Hub) (q : Nat) (x : QState) : (h.setQueue q x).keeper = h.keeper := rfl
@[simp] theorem Hub.setQueue_scans (h : Hub) (q : Nat) (x : QState) : (h.setQueue q x).scans = h.scans := rfl
@[simp] theorem Hub.setQueue_safety (h : Hub) (q : Nat) (x : QState) : (h.setQueue q x).safety = h.safety := rfl
@[simp] theorem Hub.setQueue_power (h : Hub) (q : Nat) (x : QState) : (h.setQueue q x).power = h.power := rfl
@[simp] theorem Hub.setQueue_pwr (h : Hub) (q : Nat) (x : QState) : (h.setQueue q x).pwr = h.pwr := rfl
@[simp] theorem Hub.setQueue_svc (h : Hub) (q : Nat) (x : QState) : (h.setQueue q x).svc = h.svc := rfl
@[simp] theorem Hub.setQueue_upd (h : Hub) (q : Nat) (x : QState) : (h.setQueue q x).upd = h.upd := rfl
@[simp] theorem Hub.setQueue_dict (h : Hub) (q : Nat) (x : QState) : (h.setQueue q x).dict = h.dict := rfl
@[simp] theorem Hub.setQueue_rwb (h : Hub) (q : Nat) (x : QState) : (h.setQueue q x).rwb = h.rwb := rfl
@[simp] theorem Hub.setQueue_funcs (h : Hub) (q : Nat) (x : QState) : (h.setQueue q x).funcs = h.funcs := rfl
@[simp] theorem Hub.setQueue_out (h : Hub) (q : Nat) (x : QState) : (h.setQueue q x).out = h.out := rfl
@[simp] theorem Hub.setQueue_freeCtr (h : Hub) (q : Nat) (x : QState) : (h.setQueue q x).freeCtr = h.freeCtr := rfl

/-! setWindow -/

@[simp] theorem Hub.setWindow_time (h : Hub) (a b : Nat) (w : SeqWindow) : (h.setWindow a b w).time = h.time := rfl
@[simp] theorem Hub.setWindow_bridge (h : Hub) (a b : Nat) (w : SeqWindow) : (h.setWindow a b w).bridge = h.bridge := rfl
@[simp] theorem Hub.setWindow_sw (h : Hub) (a b : Nat) (w : SeqWindow) : (h.setWindow a b w).sw = h.sw := rfl
@[simp] theorem Hub.setWindow_host (h : Hub) (a b : Nat) (w : SeqWindow) : (h.setWindow a b w).host = h.host := rfl
@[simp] theorem Hub.setWindow_store (h : Hub) (a b : Nat) (w : SeqWindow) : (h.setWindow a b w).store = h.store := rfl
@[simp] theorem Hub.setWindow_chans (h : Hub) (a b : Nat) (w : SeqWindow) : (h.setWindow a b w).chans = h.chans := rfl
@[simp] theorem Hub.setWindow_ledger (h : Hub) (a b : Nat) (w : SeqWindow) : (h.setWindow a b w).ledger = h.ledger := rfl
@[simp] theorem Hub.setWindow_cans (h : Hub) (a b : Nat) (w : SeqWindow) : (h.setWindow a b w).cans = h.cans := rfl
@[simp] theorem Hub.setWindow_seqs (h : Hub) (a b : Nat) (w : SeqWindow) : (h.setWindow a b w).seqs = h.seqs := rfl
@[simp] theorem Hub.setWindow_sta (h : Hub) (a b : Nat) (w : SeqWindow) : (h.setWindow a b w).sta = h.sta := rfl
@[simp] theorem Hub.setWindow_ptp (h : Hub) (a b : Nat) (w : SeqWindow) : (h.setWindow a b w).ptp = h.ptp := rfl
@[simp] theorem Hub.setWindow_goose (h : Hub) (a b : Nat) (w : SeqWindow) : (h.setWindow a b w).goose = h.goose := rfl
@[simp] theorem Hub.setWindow_duplex (h : Hub) (a b : Nat) (w : SeqWindow) : (h.setWindow a b w).duplex = h.duplex := rfl
@[simp] theorem Hub.setWindow_keeper (h : Hub) (a b : Nat) (w : SeqWindow) : (h.setWindow a b w).keeper = h.keeper := rfl
@[simp] theorem Hub.setWindow_scans (h : Hub) (a b : Nat) (w : SeqWindow) : (h.setWindow a b w).scans = h.scans := rfl
@[simp] theorem Hub.setWindow_safety (h : Hub) (a b : Nat) (w : SeqWindow) : (h.setWindow a b w).safety = h.safety := rfl
@[simp] theorem Hub.setWindow_power (h : Hub) (a b : Nat) (w : SeqWindow) : (h.setWindow a b w).power = h.power := rfl
@[simp] theorem Hub.setWindow_pwr (h : Hub) (a b : Nat) (w : SeqWindow) : (h.setWindow a b w).pwr = h.pwr := rfl
@[simp] theorem Hub.setWindow_svc (h : Hub) (a b : Nat) (w : SeqWindow) : (h.setWindow a b w).svc = h.svc := rfl
@[simp] theorem Hub.setWindow_upd (h : Hub) (a b : Nat) (w : SeqWindow) : (h.setWindow a b w).upd = h.upd := rfl
@[simp] theorem Hub.setWindow_dict (h : Hub) (a b : Nat) (w : SeqWindow) : (h.setWindow a b w).dict = h.dict := rfl
@[simp] theorem Hub.setWindow_rwb (h : Hub) (a b : Nat) (w : SeqWindow) : (h.setWindow a b w).rwb = h.rwb := rfl
@[simp] theorem Hub.setWindow_funcs (h : Hub) (a b : Nat) (w : SeqWindow) : (h.setWindow a b w).funcs = h.funcs := rfl
@[simp] theorem Hub.setWindow_out (h : Hub) (a b : Nat) (w : SeqWindow) : (h.setWindow a b w).out = h.out := rfl
@[simp] theorem Hub.setWindow_freeCtr (h : Hub) (a b : Nat) (w : SeqWindow) : (h.setWindow a b w).freeCtr = h.freeCtr := rfl

/-! setFence -/

@[simp] theorem Hub.setFence_time (h : Hub) (w : Nat) (f : Fence) : (h.setFence w f).time = h.time := rfl
@[simp] theorem Hub.setFence_ring (h : Hub) (w : Nat) (f : Fence) : (h.setFence w f).ring = h.ring := rfl
@[simp] theorem Hub.setFence_sw (h : Hub) (w : Nat) (f : Fence) : (h.setFence w f).sw = h.sw := rfl
@[simp] theorem Hub.setFence_host (h : Hub) (w : Nat) (f : Fence) : (h.setFence w f).host = h.host := rfl
@[simp] theorem Hub.setFence_store (h : Hub) (w : Nat) (f : Fence) : (h.setFence w f).store = h.store := rfl
@[simp] theorem Hub.setFence_chans (h : Hub) (w : Nat) (f : Fence) : (h.setFence w f).chans = h.chans := rfl
@[simp] theorem Hub.setFence_ledger (h : Hub) (w : Nat) (f : Fence) : (h.setFence w f).ledger = h.ledger := rfl
@[simp] theorem Hub.setFence_cans (h : Hub) (w : Nat) (f : Fence) : (h.setFence w f).cans = h.cans := rfl
@[simp] theorem Hub.setFence_seqs (h : Hub) (w : Nat) (f : Fence) : (h.setFence w f).seqs = h.seqs := rfl
@[simp] theorem Hub.setFence_sta (h : Hub) (w : Nat) (f : Fence) : (h.setFence w f).sta = h.sta := rfl
@[simp] theorem Hub.setFence_ptp (h : Hub) (w : Nat) (f : Fence) : (h.setFence w f).ptp = h.ptp := rfl
@[simp] theorem Hub.setFence_goose (h : Hub) (w : Nat) (f : Fence) : (h.setFence w f).goose = h.goose := rfl
@[simp] theorem Hub.setFence_duplex (h : Hub) (w : Nat) (f : Fence) : (h.setFence w f).duplex = h.duplex := rfl
@[simp] theorem Hub.setFence_keeper (h : Hub) (w : Nat) (f : Fence) : (h.setFence w f).keeper = h.keeper := rfl
@[simp] theorem Hub.setFence_scans (h : Hub) (w : Nat) (f : Fence) : (h.setFence w f).scans = h.scans := rfl
@[simp] theorem Hub.setFence_safety (h : Hub) (w : Nat) (f : Fence) : (h.setFence w f).safety = h.safety := rfl
@[simp] theorem Hub.setFence_power (h : Hub) (w : Nat) (f : Fence) : (h.setFence w f).power = h.power := rfl
@[simp] theorem Hub.setFence_pwr (h : Hub) (w : Nat) (f : Fence) : (h.setFence w f).pwr = h.pwr := rfl
@[simp] theorem Hub.setFence_svc (h : Hub) (w : Nat) (f : Fence) : (h.setFence w f).svc = h.svc := rfl
@[simp] theorem Hub.setFence_upd (h : Hub) (w : Nat) (f : Fence) : (h.setFence w f).upd = h.upd := rfl
@[simp] theorem Hub.setFence_dict (h : Hub) (w : Nat) (f : Fence) : (h.setFence w f).dict = h.dict := rfl
@[simp] theorem Hub.setFence_rwb (h : Hub) (w : Nat) (f : Fence) : (h.setFence w f).rwb = h.rwb := rfl
@[simp] theorem Hub.setFence_funcs (h : Hub) (w : Nat) (f : Fence) : (h.setFence w f).funcs = h.funcs := rfl
@[simp] theorem Hub.setFence_out (h : Hub) (w : Nat) (f : Fence) : (h.setFence w f).out = h.out := rfl
@[simp] theorem Hub.setFence_freeCtr (h : Hub) (w : Nat) (f : Fence) : (h.setFence w f).freeCtr = h.freeCtr := rfl

/-! setPart -/

@[simp] theorem Hub.setPart_time (h : Hub) (p : ReadPart) : (h.setPart p).time = h.time := rfl
@[simp] theorem Hub.setPart_ring (h : Hub) (p : ReadPart) : (h.setPart p).ring = h.ring := rfl
@[simp] theorem Hub.setPart_sw (h : Hub) (p : ReadPart) : (h.setPart p).sw = h.sw := rfl
@[simp] theorem Hub.setPart_host (h : Hub) (p : ReadPart) : (h.setPart p).host = h.host := rfl
@[simp] theorem Hub.setPart_store (h : Hub) (p : ReadPart) : (h.setPart p).store = h.store := rfl
@[simp] theorem Hub.setPart_chans (h : Hub) (p : ReadPart) : (h.setPart p).chans = h.chans := rfl
@[simp] theorem Hub.setPart_ledger (h : Hub) (p : ReadPart) : (h.setPart p).ledger = h.ledger := rfl
@[simp] theorem Hub.setPart_cans (h : Hub) (p : ReadPart) : (h.setPart p).cans = h.cans := rfl
@[simp] theorem Hub.setPart_seqs (h : Hub) (p : ReadPart) : (h.setPart p).seqs = h.seqs := rfl
@[simp] theorem Hub.setPart_sta (h : Hub) (p : ReadPart) : (h.setPart p).sta = h.sta := rfl
@[simp] theorem Hub.setPart_ptp (h : Hub) (p : ReadPart) : (h.setPart p).ptp = h.ptp := rfl
@[simp] theorem Hub.setPart_goose (h : Hub) (p : ReadPart) : (h.setPart p).goose = h.goose := rfl
@[simp] theorem Hub.setPart_duplex (h : Hub) (p : ReadPart) : (h.setPart p).duplex = h.duplex := rfl
@[simp] theorem Hub.setPart_keeper (h : Hub) (p : ReadPart) : (h.setPart p).keeper = h.keeper := rfl
@[simp] theorem Hub.setPart_scans (h : Hub) (p : ReadPart) : (h.setPart p).scans = h.scans := rfl
@[simp] theorem Hub.setPart_safety (h : Hub) (p : ReadPart) : (h.setPart p).safety = h.safety := rfl
@[simp] theorem Hub.setPart_power (h : Hub) (p : ReadPart) : (h.setPart p).power = h.power := rfl
@[simp] theorem Hub.setPart_pwr (h : Hub) (p : ReadPart) : (h.setPart p).pwr = h.pwr := rfl
@[simp] theorem Hub.setPart_svc (h : Hub) (p : ReadPart) : (h.setPart p).svc = h.svc := rfl
@[simp] theorem Hub.setPart_upd (h : Hub) (p : ReadPart) : (h.setPart p).upd = h.upd := rfl
@[simp] theorem Hub.setPart_dict (h : Hub) (p : ReadPart) : (h.setPart p).dict = h.dict := rfl
@[simp] theorem Hub.setPart_rwb (h : Hub) (p : ReadPart) : (h.setPart p).rwb = h.rwb := rfl
@[simp] theorem Hub.setPart_funcs (h : Hub) (p : ReadPart) : (h.setPart p).funcs = h.funcs := rfl
@[simp] theorem Hub.setPart_out (h : Hub) (p : ReadPart) : (h.setPart p).out = h.out := rfl
@[simp] theorem Hub.setPart_freeCtr (h : Hub) (p : ReadPart) : (h.setPart p).freeCtr = h.freeCtr := rfl

/-! dropRead -/

@[simp] theorem Hub.dropRead_time (h : Hub) (n : Nat) : (h.dropRead n).time = h.time := rfl
@[simp] theorem Hub.dropRead_ring (h : Hub) (n : Nat) : (h.dropRead n).ring = h.ring := rfl
@[simp] theorem Hub.dropRead_sw (h : Hub) (n : Nat) : (h.dropRead n).sw = h.sw := rfl
@[simp] theorem Hub.dropRead_host (h : Hub) (n : Nat) : (h.dropRead n).host = h.host := rfl
@[simp] theorem Hub.dropRead_store (h : Hub) (n : Nat) : (h.dropRead n).store = h.store := rfl
@[simp] theorem Hub.dropRead_chans (h : Hub) (n : Nat) : (h.dropRead n).chans = h.chans := rfl
@[simp] theorem Hub.dropRead_ledger (h : Hub) (n : Nat) : (h.dropRead n).ledger = h.ledger := rfl
@[simp] theorem Hub.dropRead_cans (h : Hub) (n : Nat) : (h.dropRead n).cans = h.cans := rfl
@[simp] theorem Hub.dropRead_seqs (h : Hub) (n : Nat) : (h.dropRead n).seqs = h.seqs := rfl
@[simp] theorem Hub.dropRead_sta (h : Hub) (n : Nat) : (h.dropRead n).sta = h.sta := rfl
@[simp] theorem Hub.dropRead_ptp (h : Hub) (n : Nat) : (h.dropRead n).ptp = h.ptp := rfl
@[simp] theorem Hub.dropRead_goose (h : Hub) (n : Nat) : (h.dropRead n).goose = h.goose := rfl
@[simp] theorem Hub.dropRead_duplex (h : Hub) (n : Nat) : (h.dropRead n).duplex = h.duplex := rfl
@[simp] theorem Hub.dropRead_keeper (h : Hub) (n : Nat) : (h.dropRead n).keeper = h.keeper := rfl
@[simp] theorem Hub.dropRead_scans (h : Hub) (n : Nat) : (h.dropRead n).scans = h.scans := rfl
@[simp] theorem Hub.dropRead_safety (h : Hub) (n : Nat) : (h.dropRead n).safety = h.safety := rfl
@[simp] theorem Hub.dropRead_power (h : Hub) (n : Nat) : (h.dropRead n).power = h.power := rfl
@[simp] theorem Hub.dropRead_pwr (h : Hub) (n : Nat) : (h.dropRead n).pwr = h.pwr := rfl
@[simp] theorem Hub.dropRead_svc (h : Hub) (n : Nat) : (h.dropRead n).svc = h.svc := rfl
@[simp] theorem Hub.dropRead_upd (h : Hub) (n : Nat) : (h.dropRead n).upd = h.upd := rfl
@[simp] theorem Hub.dropRead_dict (h : Hub) (n : Nat) : (h.dropRead n).dict = h.dict := rfl
@[simp] theorem Hub.dropRead_rwb (h : Hub) (n : Nat) : (h.dropRead n).rwb = h.rwb := rfl
@[simp] theorem Hub.dropRead_funcs (h : Hub) (n : Nat) : (h.dropRead n).funcs = h.funcs := rfl
@[simp] theorem Hub.dropRead_out (h : Hub) (n : Nat) : (h.dropRead n).out = h.out := rfl
@[simp] theorem Hub.dropRead_freeCtr (h : Hub) (n : Nat) : (h.dropRead n).freeCtr = h.freeCtr := rfl

/-! setInbox -/

@[simp] theorem Hub.setInbox_time (h : Hub) (k : Nat) (l : List Delivered) : (h.setInbox k l).time = h.time := rfl
@[simp] theorem Hub.setInbox_ring (h : Hub) (k : Nat) (l : List Delivered) : (h.setInbox k l).ring = h.ring := rfl
@[simp] theorem Hub.setInbox_bridge (h : Hub) (k : Nat) (l : List Delivered) : (h.setInbox k l).bridge = h.bridge := rfl
@[simp] theorem Hub.setInbox_host (h : Hub) (k : Nat) (l : List Delivered) : (h.setInbox k l).host = h.host := rfl
@[simp] theorem Hub.setInbox_store (h : Hub) (k : Nat) (l : List Delivered) : (h.setInbox k l).store = h.store := rfl
@[simp] theorem Hub.setInbox_chans (h : Hub) (k : Nat) (l : List Delivered) : (h.setInbox k l).chans = h.chans := rfl
@[simp] theorem Hub.setInbox_ledger (h : Hub) (k : Nat) (l : List Delivered) : (h.setInbox k l).ledger = h.ledger := rfl
@[simp] theorem Hub.setInbox_cans (h : Hub) (k : Nat) (l : List Delivered) : (h.setInbox k l).cans = h.cans := rfl
@[simp] theorem Hub.setInbox_seqs (h : Hub) (k : Nat) (l : List Delivered) : (h.setInbox k l).seqs = h.seqs := rfl
@[simp] theorem Hub.setInbox_sta (h : Hub) (k : Nat) (l : List Delivered) : (h.setInbox k l).sta = h.sta := rfl
@[simp] theorem Hub.setInbox_ptp (h : Hub) (k : Nat) (l : List Delivered) : (h.setInbox k l).ptp = h.ptp := rfl
@[simp] theorem Hub.setInbox_goose (h : Hub) (k : Nat) (l : List Delivered) : (h.setInbox k l).goose = h.goose := rfl
@[simp] theorem Hub.setInbox_duplex (h : Hub) (k : Nat) (l : List Delivered) : (h.setInbox k l).duplex = h.duplex := rfl
@[simp] theorem Hub.setInbox_keeper (h : Hub) (k : Nat) (l : List Delivered) : (h.setInbox k l).keeper = h.keeper := rfl
@[simp] theorem Hub.setInbox_scans (h : Hub) (k : Nat) (l : List Delivered) : (h.setInbox k l).scans = h.scans := rfl
@[simp] theorem Hub.setInbox_safety (h : Hub) (k : Nat) (l : List Delivered) : (h.setInbox k l).safety = h.safety := rfl
@[simp] theorem Hub.setInbox_power (h : Hub) (k : Nat) (l : List Delivered) : (h.setInbox k l).power = h.power := rfl
@[simp] theorem Hub.setInbox_pwr (h : Hub) (k : Nat) (l : List Delivered) : (h.setInbox k l).pwr = h.pwr := rfl
@[simp] theorem Hub.setInbox_svc (h : Hub) (k : Nat) (l : List Delivered) : (h.setInbox k l).svc = h.svc := rfl
@[simp] theorem Hub.setInbox_upd (h : Hub) (k : Nat) (l : List Delivered) : (h.setInbox k l).upd = h.upd := rfl
@[simp] theorem Hub.setInbox_dict (h : Hub) (k : Nat) (l : List Delivered) : (h.setInbox k l).dict = h.dict := rfl
@[simp] theorem Hub.setInbox_rwb (h : Hub) (k : Nat) (l : List Delivered) : (h.setInbox k l).rwb = h.rwb := rfl
@[simp] theorem Hub.setInbox_funcs (h : Hub) (k : Nat) (l : List Delivered) : (h.setInbox k l).funcs = h.funcs := rfl
@[simp] theorem Hub.setInbox_out (h : Hub) (k : Nat) (l : List Delivered) : (h.setInbox k l).out = h.out := rfl
@[simp] theorem Hub.setInbox_freeCtr (h : Hub) (k : Nat) (l : List Delivered) : (h.setInbox k l).freeCtr = h.freeCtr := rfl

/-! setStaTx -/

@[simp] theorem Hub.setStaTx_time (h : Hub) (p : Nat) (l : List StaTx) : (h.setStaTx p l).time = h.time := rfl
@[simp] theorem Hub.setStaTx_ring (h : Hub) (p : Nat) (l : List StaTx) : (h.setStaTx p l).ring = h.ring := rfl
@[simp] theorem Hub.setStaTx_bridge (h : Hub) (p : Nat) (l : List StaTx) : (h.setStaTx p l).bridge = h.bridge := rfl
@[simp] theorem Hub.setStaTx_sw (h : Hub) (p : Nat) (l : List StaTx) : (h.setStaTx p l).sw = h.sw := rfl
@[simp] theorem Hub.setStaTx_host (h : Hub) (p : Nat) (l : List StaTx) : (h.setStaTx p l).host = h.host := rfl
@[simp] theorem Hub.setStaTx_store (h : Hub) (p : Nat) (l : List StaTx) : (h.setStaTx p l).store = h.store := rfl
@[simp] theorem Hub.setStaTx_chans (h : Hub) (p : Nat) (l : List StaTx) : (h.setStaTx p l).chans = h.chans := rfl
@[simp] theorem Hub.setStaTx_ledger (h : Hub) (p : Nat) (l : List StaTx) : (h.setStaTx p l).ledger = h.ledger := rfl
@[simp] theorem Hub.setStaTx_cans (h : Hub) (p : Nat) (l : List StaTx) : (h.setStaTx p l).cans = h.cans := rfl
@[simp] theorem Hub.setStaTx_seqs (h : Hub) (p : Nat) (l : List StaTx) : (h.setStaTx p l).seqs = h.seqs := rfl
@[simp] theorem Hub.setStaTx_ptp (h : Hub) (p : Nat) (l : List StaTx) : (h.setStaTx p l).ptp = h.ptp := rfl
@[simp] theorem Hub.setStaTx_goose (h : Hub) (p : Nat) (l : List StaTx) : (h.setStaTx p l).goose = h.goose := rfl
@[simp] theorem Hub.setStaTx_duplex (h : Hub) (p : Nat) (l : List StaTx) : (h.setStaTx p l).duplex = h.duplex := rfl
@[simp] theorem Hub.setStaTx_keeper (h : Hub) (p : Nat) (l : List StaTx) : (h.setStaTx p l).keeper = h.keeper := rfl
@[simp] theorem Hub.setStaTx_scans (h : Hub) (p : Nat) (l : List StaTx) : (h.setStaTx p l).scans = h.scans := rfl
@[simp] theorem Hub.setStaTx_safety (h : Hub) (p : Nat) (l : List StaTx) : (h.setStaTx p l).safety = h.safety := rfl
@[simp] theorem Hub.setStaTx_power (h : Hub) (p : Nat) (l : List StaTx) : (h.setStaTx p l).power = h.power := rfl
@[simp] theorem Hub.setStaTx_pwr (h : Hub) (p : Nat) (l : List StaTx) : (h.setStaTx p l).pwr = h.pwr := rfl
@[simp] theorem Hub.setStaTx_svc (h : Hub) (p : Nat) (l : List StaTx) : (h.setStaTx p l).svc = h.svc := rfl
@[simp] theorem Hub.setStaTx_upd (h : Hub) (p : Nat) (l : List StaTx) : (h.setStaTx p l).upd = h.upd := rfl
@[simp] theorem Hub.setStaTx_dict (h : Hub) (p : Nat) (l : List StaTx) : (h.setStaTx p l).dict = h.dict := rfl
@[simp] theorem Hub.setStaTx_rwb (h : Hub) (p : Nat) (l : List StaTx) : (h.setStaTx p l).rwb = h.rwb := rfl
@[simp] theorem Hub.setStaTx_funcs (h : Hub) (p : Nat) (l : List StaTx) : (h.setStaTx p l).funcs = h.funcs := rfl
@[simp] theorem Hub.setStaTx_out (h : Hub) (p : Nat) (l : List StaTx) : (h.setStaTx p l).out = h.out := rfl
@[simp] theorem Hub.setStaTx_freeCtr (h : Hub) (p : Nat) (l : List StaTx) : (h.setStaTx p l).freeCtr = h.freeCtr := rfl

/-! setTrig -/

@[simp] theorem Hub.setTrig_ring (h : Hub) (t : Nat) (x : TrigState) : (h.setTrig t x).ring = h.ring := rfl
@[simp] theorem Hub.setTrig_bridge (h : Hub) (t : Nat) (x : TrigState) : (h.setTrig t x).bridge = h.bridge := rfl
@[simp] theorem Hub.setTrig_sw (h : Hub) (t : Nat) (x : TrigState) : (h.setTrig t x).sw = h.sw := rfl
@[simp] theorem Hub.setTrig_host (h : Hub) (t : Nat) (x : TrigState) : (h.setTrig t x).host = h.host := rfl
@[simp] theorem Hub.setTrig_store (h : Hub) (t : Nat) (x : TrigState) : (h.setTrig t x).store = h.store := rfl
@[simp] theorem Hub.setTrig_chans (h : Hub) (t : Nat) (x : TrigState) : (h.setTrig t x).chans = h.chans := rfl
@[simp] theorem Hub.setTrig_ledger (h : Hub) (t : Nat) (x : TrigState) : (h.setTrig t x).ledger = h.ledger := rfl
@[simp] theorem Hub.setTrig_cans (h : Hub) (t : Nat) (x : TrigState) : (h.setTrig t x).cans = h.cans := rfl
@[simp] theorem Hub.setTrig_seqs (h : Hub) (t : Nat) (x : TrigState) : (h.setTrig t x).seqs = h.seqs := rfl
@[simp] theorem Hub.setTrig_sta (h : Hub) (t : Nat) (x : TrigState) : (h.setTrig t x).sta = h.sta := rfl
@[simp] theorem Hub.setTrig_ptp (h : Hub) (t : Nat) (x : TrigState) : (h.setTrig t x).ptp = h.ptp := rfl
@[simp] theorem Hub.setTrig_goose (h : Hub) (t : Nat) (x : TrigState) : (h.setTrig t x).goose = h.goose := rfl
@[simp] theorem Hub.setTrig_duplex (h : Hub) (t : Nat) (x : TrigState) : (h.setTrig t x).duplex = h.duplex := rfl
@[simp] theorem Hub.setTrig_keeper (h : Hub) (t : Nat) (x : TrigState) : (h.setTrig t x).keeper = h.keeper := rfl
@[simp] theorem Hub.setTrig_scans (h : Hub) (t : Nat) (x : TrigState) : (h.setTrig t x).scans = h.scans := rfl
@[simp] theorem Hub.setTrig_safety (h : Hub) (t : Nat) (x : TrigState) : (h.setTrig t x).safety = h.safety := rfl
@[simp] theorem Hub.setTrig_power (h : Hub) (t : Nat) (x : TrigState) : (h.setTrig t x).power = h.power := rfl
@[simp] theorem Hub.setTrig_pwr (h : Hub) (t : Nat) (x : TrigState) : (h.setTrig t x).pwr = h.pwr := rfl
@[simp] theorem Hub.setTrig_svc (h : Hub) (t : Nat) (x : TrigState) : (h.setTrig t x).svc = h.svc := rfl
@[simp] theorem Hub.setTrig_upd (h : Hub) (t : Nat) (x : TrigState) : (h.setTrig t x).upd = h.upd := rfl
@[simp] theorem Hub.setTrig_dict (h : Hub) (t : Nat) (x : TrigState) : (h.setTrig t x).dict = h.dict := rfl
@[simp] theorem Hub.setTrig_rwb (h : Hub) (t : Nat) (x : TrigState) : (h.setTrig t x).rwb = h.rwb := rfl
@[simp] theorem Hub.setTrig_funcs (h : Hub) (t : Nat) (x : TrigState) : (h.setTrig t x).funcs = h.funcs := rfl
@[simp] theorem Hub.setTrig_out (h : Hub) (t : Nat) (x : TrigState) : (h.setTrig t x).out = h.out := rfl
@[simp] theorem Hub.setTrig_freeCtr (h : Hub) (t : Nat) (x : TrigState) : (h.setTrig t x).freeCtr = h.freeCtr := rfl

/-! putSession -/

@[simp] theorem Hub.putSession_time (h : Hub) (x : Session) : (h.putSession x).time = h.time := rfl
@[simp] theorem Hub.putSession_ring (h : Hub) (x : Session) : (h.putSession x).ring = h.ring := rfl
@[simp] theorem Hub.putSession_bridge (h : Hub) (x : Session) : (h.putSession x).bridge = h.bridge := rfl
@[simp] theorem Hub.putSession_sw (h : Hub) (x : Session) : (h.putSession x).sw = h.sw := rfl
@[simp] theorem Hub.putSession_host (h : Hub) (x : Session) : (h.putSession x).host = h.host := rfl
@[simp] theorem Hub.putSession_store (h : Hub) (x : Session) : (h.putSession x).store = h.store := rfl
@[simp] theorem Hub.putSession_chans (h : Hub) (x : Session) : (h.putSession x).chans = h.chans := rfl
@[simp] theorem Hub.putSession_ledger (h : Hub) (x : Session) : (h.putSession x).ledger = h.ledger := rfl
@[simp] theorem Hub.putSession_cans (h : Hub) (x : Session) : (h.putSession x).cans = h.cans := rfl
@[simp] theorem Hub.putSession_seqs (h : Hub) (x : Session) : (h.putSession x).seqs = h.seqs := rfl
@[simp] theorem Hub.putSession_sta (h : Hub) (x : Session) : (h.putSession x).sta = h.sta := rfl
@[simp] theorem Hub.putSession_ptp (h : Hub) (x : Session) : (h.putSession x).ptp = h.ptp := rfl
@[simp] theorem Hub.putSession_goose (h : Hub) (x : Session) : (h.putSession x).goose = h.goose := rfl
@[simp] theorem Hub.putSession_duplex (h : Hub) (x : Session) : (h.putSession x).duplex = h.duplex := rfl
@[simp] theorem Hub.putSession_scans (h : Hub) (x : Session) : (h.putSession x).scans = h.scans := rfl
@[simp] theorem Hub.putSession_safety (h : Hub) (x : Session) : (h.putSession x).safety = h.safety := rfl
@[simp] theorem Hub.putSession_power (h : Hub) (x : Session) : (h.putSession x).power = h.power := rfl
@[simp] theorem Hub.putSession_pwr (h : Hub) (x : Session) : (h.putSession x).pwr = h.pwr := rfl
@[simp] theorem Hub.putSession_svc (h : Hub) (x : Session) : (h.putSession x).svc = h.svc := rfl
@[simp] theorem Hub.putSession_upd (h : Hub) (x : Session) : (h.putSession x).upd = h.upd := rfl
@[simp] theorem Hub.putSession_dict (h : Hub) (x : Session) : (h.putSession x).dict = h.dict := rfl
@[simp] theorem Hub.putSession_rwb (h : Hub) (x : Session) : (h.putSession x).rwb = h.rwb := rfl
@[simp] theorem Hub.putSession_funcs (h : Hub) (x : Session) : (h.putSession x).funcs = h.funcs := rfl
@[simp] theorem Hub.putSession_out (h : Hub) (x : Session) : (h.putSession x).out = h.out := rfl
@[simp] theorem Hub.putSession_freeCtr (h : Hub) (x : Session) : (h.putSession x).freeCtr = h.freeCtr := rfl

@[simp] theorem Hub.setLane_time (h : Hub) (w : Bool) (l : Lane) : (h.setLane w l).time = h.time := by cases w <;> rfl
@[simp] theorem Hub.setLane_bridge (h : Hub) (w : Bool) (l : Lane) : (h.setLane w l).bridge = h.bridge := by cases w <;> rfl
@[simp] theorem Hub.setLane_sw (h : Hub) (w : Bool) (l : Lane) : (h.setLane w l).sw = h.sw := by cases w <;> rfl
@[simp] theorem Hub.setLane_host (h : Hub) (w : Bool) (l : Lane) : (h.setLane w l).host = h.host := by cases w <;> rfl
@[simp] theorem Hub.setLane_store (h : Hub) (w : Bool) (l : Lane) : (h.setLane w l).store = h.store := by cases w <;> rfl
@[simp] theorem Hub.setLane_chans (h : Hub) (w : Bool) (l : Lane) : (h.setLane w l).chans = h.chans := by cases w <;> rfl
@[simp] theorem Hub.setLane_ledger (h : Hub) (w : Bool) (l : Lane) : (h.setLane w l).ledger = h.ledger := by cases w <;> rfl
@[simp] theorem Hub.setLane_cans (h : Hub) (w : Bool) (l : Lane) : (h.setLane w l).cans = h.cans := by cases w <;> rfl
@[simp] theorem Hub.setLane_seqs (h : Hub) (w : Bool) (l : Lane) : (h.setLane w l).seqs = h.seqs := by cases w <;> rfl
@[simp] theorem Hub.setLane_sta (h : Hub) (w : Bool) (l : Lane) : (h.setLane w l).sta = h.sta := by cases w <;> rfl
@[simp] theorem Hub.setLane_ptp (h : Hub) (w : Bool) (l : Lane) : (h.setLane w l).ptp = h.ptp := by cases w <;> rfl
@[simp] theorem Hub.setLane_goose (h : Hub) (w : Bool) (l : Lane) : (h.setLane w l).goose = h.goose := by cases w <;> rfl
@[simp] theorem Hub.setLane_duplex (h : Hub) (w : Bool) (l : Lane) : (h.setLane w l).duplex = h.duplex := by cases w <;> rfl
@[simp] theorem Hub.setLane_keeper (h : Hub) (w : Bool) (l : Lane) : (h.setLane w l).keeper = h.keeper := by cases w <;> rfl
@[simp] theorem Hub.setLane_scans (h : Hub) (w : Bool) (l : Lane) : (h.setLane w l).scans = h.scans := by cases w <;> rfl
@[simp] theorem Hub.setLane_safety (h : Hub) (w : Bool) (l : Lane) : (h.setLane w l).safety = h.safety := by cases w <;> rfl
@[simp] theorem Hub.setLane_power (h : Hub) (w : Bool) (l : Lane) : (h.setLane w l).power = h.power := by cases w <;> rfl
@[simp] theorem Hub.setLane_pwr (h : Hub) (w : Bool) (l : Lane) : (h.setLane w l).pwr = h.pwr := by cases w <;> rfl
@[simp] theorem Hub.setLane_svc (h : Hub) (w : Bool) (l : Lane) : (h.setLane w l).svc = h.svc := by cases w <;> rfl
@[simp] theorem Hub.setLane_upd (h : Hub) (w : Bool) (l : Lane) : (h.setLane w l).upd = h.upd := by cases w <;> rfl
@[simp] theorem Hub.setLane_dict (h : Hub) (w : Bool) (l : Lane) : (h.setLane w l).dict = h.dict := by cases w <;> rfl
@[simp] theorem Hub.setLane_rwb (h : Hub) (w : Bool) (l : Lane) : (h.setLane w l).rwb = h.rwb := by cases w <;> rfl
@[simp] theorem Hub.setLane_funcs (h : Hub) (w : Bool) (l : Lane) : (h.setLane w l).funcs = h.funcs := by cases w <;> rfl
@[simp] theorem Hub.setLane_out (h : Hub) (w : Bool) (l : Lane) : (h.setLane w l).out = h.out := by cases w <;> rfl
@[simp] theorem Hub.setLane_freeCtr (h : Hub) (w : Bool) (l : Lane) : (h.setLane w l).freeCtr = h.freeCtr := by cases w <;> rfl
@[simp] theorem Hub.setAlt_time (h : Hub) (m : SMap Nat) : (h.setAlt m).time = h.time := by unfold Hub.setAlt; split <;> rfl
@[simp] theorem Hub.setAlt_ring (h : Hub) (m : SMap Nat) : (h.setAlt m).ring = h.ring := by unfold Hub.setAlt; split <;> rfl
@[simp] theorem Hub.setAlt_bridge (h : Hub) (m : SMap Nat) : (h.setAlt m).bridge = h.bridge := by unfold Hub.setAlt; split <;> rfl
@[simp] theorem Hub.setAlt_host (h : Hub) (m : SMap Nat) : (h.setAlt m).host = h.host := by unfold Hub.setAlt; split <;> rfl
@[simp] theorem Hub.setAlt_store (h : Hub) (m : SMap Nat) : (h.setAlt m).store = h.store := by unfold Hub.setAlt; split <;> rfl
@[simp] theorem Hub.setAlt_chans (h : Hub) (m : SMap Nat) : (h.setAlt m).chans = h.chans := by unfold Hub.setAlt; split <;> rfl
@[simp] theorem Hub.setAlt_ledger (h : Hub) (m : SMap Nat) : (h.setAlt m).ledger = h.ledger := by unfold Hub.setAlt; split <;> rfl
@[simp] theorem Hub.setAlt_cans (h : Hub) (m : SMap Nat) : (h.setAlt m).cans = h.cans := by unfold Hub.setAlt; split <;> rfl
@[simp] theorem Hub.setAlt_seqs (h : Hub) (m : SMap Nat) : (h.setAlt m).seqs = h.seqs := by unfold Hub.setAlt; split <;> rfl
@[simp] theorem Hub.setAlt_sta (h : Hub) (m : SMap Nat) : (h.setAlt m).sta = h.sta := by unfold Hub.setAlt; split <;> rfl
@[simp] theorem Hub.setAlt_ptp (h : Hub) (m : SMap Nat) : (h.setAlt m).ptp = h.ptp := by unfold Hub.setAlt; split <;> rfl
@[simp] theorem Hub.setAlt_goose (h : Hub) (m : SMap Nat) : (h.setAlt m).goose = h.goose := by unfold Hub.setAlt; split <;> rfl
@[simp] theorem Hub.setAlt_duplex (h : Hub) (m : SMap Nat) : (h.setAlt m).duplex = h.duplex := by unfold Hub.setAlt; split <;> rfl
@[simp] theorem Hub.setAlt_keeper (h : Hub) (m : SMap Nat) : (h.setAlt m).keeper = h.keeper := by unfold Hub.setAlt; split <;> rfl
@[simp] theorem Hub.setAlt_scans (h : Hub) (m : SMap Nat) : (h.setAlt m).scans = h.scans := by unfold Hub.setAlt; split <;> rfl
@[simp] theorem Hub.setAlt_safety (h : Hub) (m : SMap Nat) : (h.setAlt m).safety = h.safety := by unfold Hub.setAlt; split <;> rfl
@[simp] theorem Hub.setAlt_power (h : Hub) (m : SMap Nat) : (h.setAlt m).power = h.power := by unfold Hub.setAlt; split <;> rfl
@[simp] theorem Hub.setAlt_pwr (h : Hub) (m : SMap Nat) : (h.setAlt m).pwr = h.pwr := by unfold Hub.setAlt; split <;> rfl
@[simp] theorem Hub.setAlt_svc (h : Hub) (m : SMap Nat) : (h.setAlt m).svc = h.svc := by unfold Hub.setAlt; split <;> rfl
@[simp] theorem Hub.setAlt_upd (h : Hub) (m : SMap Nat) : (h.setAlt m).upd = h.upd := by unfold Hub.setAlt; split <;> rfl
@[simp] theorem Hub.setAlt_dict (h : Hub) (m : SMap Nat) : (h.setAlt m).dict = h.dict := by unfold Hub.setAlt; split <;> rfl
@[simp] theorem Hub.setAlt_rwb (h : Hub) (m : SMap Nat) : (h.setAlt m).rwb = h.rwb := by unfold Hub.setAlt; split <;> rfl
@[simp] theorem Hub.setAlt_funcs (h : Hub) (m : SMap Nat) : (h.setAlt m).funcs = h.funcs := by unfold Hub.setAlt; split <;> rfl
@[simp] theorem Hub.setAlt_out (h : Hub) (m : SMap Nat) : (h.setAlt m).out = h.out := by unfold Hub.setAlt; split <;> rfl
@[simp] theorem Hub.setAlt_freeCtr (h : Hub) (m : SMap Nat) : (h.setAlt m).freeCtr = h.freeCtr := by unfold Hub.setAlt; split <;> rfl
@[simp] theorem Hub.maxNum_time (h : Hub) (k n : Nat) : (h.maxNum k n).time = h.time := by unfold Hub.maxNum; split <;> rfl
@[simp] theorem Hub.maxNum_ring (h : Hub) (k n : Nat) : (h.maxNum k n).ring = h.ring := by unfold Hub.maxNum; split <;> rfl
@[simp] theorem Hub.maxNum_bridge (h : Hub) (k n : Nat) : (h.maxNum k n).bridge = h.bridge := by unfold Hub.maxNum; split <;> rfl
@[simp] theorem Hub.maxNum_sw (h : Hub) (k n : Nat) : (h.maxNum k n).sw = h.sw := by unfold Hub.maxNum; split <;> rfl
@[simp] theorem Hub.maxNum_host (h : Hub) (k n : Nat) : (h.maxNum k n).host = h.host := by unfold Hub.maxNum; split <;> rfl
@[simp] theorem Hub.maxNum_store (h : Hub) (k n : Nat) : (h.maxNum k n).store = h.store := by unfold Hub.maxNum; split <;> rfl
@[simp] theorem Hub.maxNum_chans (h : Hub) (k n : Nat) : (h.maxNum k n).chans = h.chans := by unfold Hub.maxNum; split <;> rfl
@[simp] theorem Hub.maxNum_ledger (h : Hub) (k n : Nat) : (h.maxNum k n).ledger = h.ledger := by unfold Hub.maxNum; split <;> rfl
@[simp] theorem Hub.maxNum_cans (h : Hub) (k n : Nat) : (h.maxNum k n).cans = h.cans := by unfold Hub.maxNum; split <;> rfl
@[simp] theorem Hub.maxNum_seqs (h : Hub) (k n : Nat) : (h.maxNum k n).seqs = h.seqs := by unfold Hub.maxNum; split <;> rfl
@[simp] theorem Hub.maxNum_sta (h : Hub) (k n : Nat) : (h.maxNum k n).sta = h.sta := by unfold Hub.maxNum; split <;> rfl
@[simp] theorem Hub.maxNum_ptp (h : Hub) (k n : Nat) : (h.maxNum k n).ptp = h.ptp := by unfold Hub.maxNum; split <;> rfl
@[simp] theorem Hub.maxNum_goose (h : Hub) (k n : Nat) : (h.maxNum k n).goose = h.goose := by unfold Hub.maxNum; split <;> rfl
@[simp] theorem Hub.maxNum_duplex (h : Hub) (k n : Nat) : (h.maxNum k n).duplex = h.duplex := by unfold Hub.maxNum; split <;> rfl
@[simp] theorem Hub.maxNum_keeper (h : Hub) (k n : Nat) : (h.maxNum k n).keeper = h.keeper := by unfold Hub.maxNum; split <;> rfl
@[simp] theorem Hub.maxNum_scans (h : Hub) (k n : Nat) : (h.maxNum k n).scans = h.scans := by unfold Hub.maxNum; split <;> rfl
@[simp] theorem Hub.maxNum_safety (h : Hub) (k n : Nat) : (h.maxNum k n).safety = h.safety := by unfold Hub.maxNum; split <;> rfl
@[simp] theorem Hub.maxNum_power (h : Hub) (k n : Nat) : (h.maxNum k n).power = h.power := by unfold Hub.maxNum; split <;> rfl
@[simp] theorem Hub.maxNum_pwr (h : Hub) (k n : Nat) : (h.maxNum k n).pwr = h.pwr := by unfold Hub.maxNum; split <;> rfl
@[simp] theorem Hub.maxNum_svc (h : Hub) (k n : Nat) : (h.maxNum k n).svc = h.svc := by unfold Hub.maxNum; split <;> rfl
@[simp] theorem Hub.maxNum_upd (h : Hub) (k n : Nat) : (h.maxNum k n).upd = h.upd := by unfold Hub.maxNum; split <;> rfl
@[simp] theorem Hub.maxNum_rwb (h : Hub) (k n : Nat) : (h.maxNum k n).rwb = h.rwb := by unfold Hub.maxNum; split <;> rfl
@[simp] theorem Hub.maxNum_funcs (h : Hub) (k n : Nat) : (h.maxNum k n).funcs = h.funcs := by unfold Hub.maxNum; split <;> rfl
@[simp] theorem Hub.maxNum_out (h : Hub) (k n : Nat) : (h.maxNum k n).out = h.out := by unfold Hub.maxNum; split <;> rfl
@[simp] theorem Hub.maxNum_freeCtr (h : Hub) (k n : Nat) : (h.maxNum k n).freeCtr = h.freeCtr := by unfold Hub.maxNum; split <;> rfl

/-! Objects after a write -/

theorem Hub.obj_setObj (h : Hub) (k j : Nat) (v : Val) : (h.setObj k v).obj j = if j = k then v else h.obj j := SMap.get_set dictDefault h.dict k j v

theorem Hub.num_setObj (h : Hub) (k j : Nat) (v : Val) : (h.setObj k v).num j = if j = k then v.nat else h.num j := by
  simp only [Hub.num, Hub.obj_setObj]
  split <;> rfl

theorem Hub.num_setNum (h : Hub) (k j n : Nat) : (h.setNum k n).num j = if j = k then n else h.num j := Hub.num_setObj h k j (.num n)

@[simp] theorem Hub.num_setNum_self (h : Hub) (k n : Nat) : (h.setNum k n).num k = n := by simp [Hub.num_setNum]

theorem Hub.num_count (h : Hub) (k j : Nat) : (h.count k).num j = if j = k then satAdd (maxWord 32) (h.num k) 1 else h.num j :=
  Hub.num_setNum h k j _

/-- An object reads the same in hubs with the same dictionary. -/
theorem Hub.num_congr (g h : Hub) (e : g.dict = h.dict) (k : Nat) : g.num k = h.num k := by simp [Hub.num, Hub.obj, e]

@[simp] theorem Hub.num_upd_time (h : Hub) (x) (k : Nat) : Hub.num { h with time := x } k = h.num k := rfl
@[simp] theorem Hub.num_upd_ring (h : Hub) (x) (k : Nat) : Hub.num { h with ring := x } k = h.num k := rfl
@[simp] theorem Hub.num_upd_bridge (h : Hub) (x) (k : Nat) : Hub.num { h with bridge := x } k = h.num k := rfl
@[simp] theorem Hub.num_upd_sw (h : Hub) (x) (k : Nat) : Hub.num { h with sw := x } k = h.num k := rfl
@[simp] theorem Hub.num_upd_host (h : Hub) (x) (k : Nat) : Hub.num { h with host := x } k = h.num k := rfl
@[simp] theorem Hub.num_upd_store (h : Hub) (x) (k : Nat) : Hub.num { h with store := x } k = h.num k := rfl
@[simp] theorem Hub.num_upd_chans (h : Hub) (x) (k : Nat) : Hub.num { h with chans := x } k = h.num k := rfl
@[simp] theorem Hub.num_upd_ledger (h : Hub) (x) (k : Nat) : Hub.num { h with ledger := x } k = h.num k := rfl
@[simp] theorem Hub.num_upd_cans (h : Hub) (x) (k : Nat) : Hub.num { h with cans := x } k = h.num k := rfl
@[simp] theorem Hub.num_upd_seqs (h : Hub) (x) (k : Nat) : Hub.num { h with seqs := x } k = h.num k := rfl
@[simp] theorem Hub.num_upd_sta (h : Hub) (x) (k : Nat) : Hub.num { h with sta := x } k = h.num k := rfl
@[simp] theorem Hub.num_upd_ptp (h : Hub) (x) (k : Nat) : Hub.num { h with ptp := x } k = h.num k := rfl
@[simp] theorem Hub.num_upd_goose (h : Hub) (x) (k : Nat) : Hub.num { h with goose := x } k = h.num k := rfl
@[simp] theorem Hub.num_upd_duplex (h : Hub) (x) (k : Nat) : Hub.num { h with duplex := x } k = h.num k := rfl
@[simp] theorem Hub.num_upd_keeper (h : Hub) (x) (k : Nat) : Hub.num { h with keeper := x } k = h.num k := rfl
@[simp] theorem Hub.num_upd_scans (h : Hub) (x) (k : Nat) : Hub.num { h with scans := x } k = h.num k := rfl
@[simp] theorem Hub.num_upd_safety (h : Hub) (x) (k : Nat) : Hub.num { h with safety := x } k = h.num k := rfl
@[simp] theorem Hub.num_upd_power (h : Hub) (x) (k : Nat) : Hub.num { h with power := x } k = h.num k := rfl
@[simp] theorem Hub.num_upd_pwr (h : Hub) (x) (k : Nat) : Hub.num { h with pwr := x } k = h.num k := rfl
@[simp] theorem Hub.num_upd_svc (h : Hub) (x) (k : Nat) : Hub.num { h with svc := x } k = h.num k := rfl
@[simp] theorem Hub.num_upd_upd (h : Hub) (x) (k : Nat) : Hub.num { h with upd := x } k = h.num k := rfl
@[simp] theorem Hub.num_upd_rwb (h : Hub) (x) (k : Nat) : Hub.num { h with rwb := x } k = h.num k := rfl
@[simp] theorem Hub.num_upd_funcs (h : Hub) (x) (k : Nat) : Hub.num { h with funcs := x } k = h.num k := rfl
@[simp] theorem Hub.num_upd_out (h : Hub) (x) (k : Nat) : Hub.num { h with out := x } k = h.num k := rfl
@[simp] theorem Hub.num_upd_freeCtr (h : Hub) (x) (k : Nat) : Hub.num { h with freeCtr := x } k = h.num k := rfl
@[simp] theorem Hub.num_emit (h : Hub) (o : Out) (j : Nat) : (h.emit o).num j = h.num j := rfl
@[simp] theorem Hub.num_nextFree (h : Hub) (j : Nat) : (h.nextFree).num j = h.num j := rfl
@[simp] theorem Hub.num_setFunc (h : Hub) (i : Nat) (f : FState) (j : Nat) : (h.setFunc i f).num j = h.num j := rfl
@[simp] theorem Hub.num_setChan (h : Hub) (c : Nat) (x : Chan) (j : Nat) : (h.setChan c x).num j = h.num j := rfl
@[simp] theorem Hub.num_setCan (h : Hub) (n : Nat) (x : Can) (j : Nat) : (h.setCan n x).num j = h.num j := rfl
@[simp] theorem Hub.num_setSq (h : Hub) (n : Nat) (x : SeqState) (j : Nat) : (h.setSq n x).num j = h.num j := rfl
@[simp] theorem Hub.num_setScan (h : Hub) (e : Nat) (x : Scan) (j : Nat) : (h.setScan e x).num j = h.num j := rfl
@[simp] theorem Hub.num_setPtpPort (h : Hub) (p : Nat) (x : PtpPort) (j : Nat) : (h.setPtpPort p x).num j = h.num j := rfl
@[simp] theorem Hub.num_setQueue (h : Hub) (q : Nat) (x : QState) (j : Nat) : (h.setQueue q x).num j = h.num j := rfl
@[simp] theorem Hub.num_setWindow (h : Hub) (a b : Nat) (w : SeqWindow) (j : Nat) : (h.setWindow a b w).num j = h.num j := rfl
@[simp] theorem Hub.num_setFence (h : Hub) (w : Nat) (f : Fence) (j : Nat) : (h.setFence w f).num j = h.num j := rfl
@[simp] theorem Hub.num_setPart (h : Hub) (p : ReadPart) (j : Nat) : (h.setPart p).num j = h.num j := rfl
@[simp] theorem Hub.num_dropRead (h : Hub) (n : Nat) (j : Nat) : (h.dropRead n).num j = h.num j := rfl
@[simp] theorem Hub.num_setInbox (h : Hub) (k : Nat) (l : List Delivered) (j : Nat) : (h.setInbox k l).num j = h.num j := rfl
@[simp] theorem Hub.num_setStaTx (h : Hub) (p : Nat) (l : List StaTx) (j : Nat) : (h.setStaTx p l).num j = h.num j := rfl
@[simp] theorem Hub.num_setTrig (h : Hub) (t : Nat) (x : TrigState) (j : Nat) : (h.setTrig t x).num j = h.num j := rfl
@[simp] theorem Hub.num_putSession (h : Hub) (x : Session) (j : Nat) : (h.putSession x).num j = h.num j := rfl

/-! What a reader finds after the update of its own part, and after those of others -/

theorem Hub.chan_setChan (h : Hub) (k j : Nat) (x : Chan) : (h.setChan k x).chan j = if j = k then x else h.chan j := SMap.get_set _ _ k j x
@[simp] theorem Hub.chan_setChan_self (h : Hub) (k : Nat) (x : Chan) : (h.setChan k x).chan k = x := by simp [Hub.chan_setChan]
@[simp] theorem Hub.chan_setObj (h : Hub) (k : Nat) (v : Val) (j : Nat) : (h.setObj k v).chan j = h.chan j := rfl
@[simp] theorem Hub.chan_setNum (h : Hub) (k n : Nat) (j : Nat) : (h.setNum k n).chan j = h.chan j := rfl
@[simp] theorem Hub.chan_setFlag (h : Hub) (k : Nat) (b : Bool) (j : Nat) : (h.setFlag k b).chan j = h.chan j := rfl
@[simp] theorem Hub.chan_setInt (h : Hub) (k : Nat) (i : Int) (j : Nat) : (h.setInt k i).chan j = h.chan j := rfl
@[simp] theorem Hub.chan_setOct (h : Hub) (k : Nat) (b : List Byte) (j : Nat) : (h.setOct k b).chan j = h.chan j := rfl
@[simp] theorem Hub.chan_countN (h : Hub) (k n : Nat) (j : Nat) : (h.countN k n).chan j = h.chan j := rfl
@[simp] theorem Hub.chan_count (h : Hub) (k : Nat) (j : Nat) : (h.count k).chan j = h.chan j := rfl
@[simp] theorem Hub.chan_wrapAdd (h : Hub) (k n : Nat) (j : Nat) : (h.wrapAdd k n).chan j = h.chan j := rfl
@[simp] theorem Hub.chan_emit (h : Hub) (o : Out) (j : Nat) : (h.emit o).chan j = h.chan j := rfl
theorem Hub.can_setCan (h : Hub) (k j : Nat) (x : Can) : (h.setCan k x).can j = if j = k then x else h.can j := SMap.get_set _ _ k j x
@[simp] theorem Hub.can_setCan_self (h : Hub) (k : Nat) (x : Can) : (h.setCan k x).can k = x := by simp [Hub.can_setCan]
@[simp] theorem Hub.can_setObj (h : Hub) (k : Nat) (v : Val) (j : Nat) : (h.setObj k v).can j = h.can j := rfl
@[simp] theorem Hub.can_setNum (h : Hub) (k n : Nat) (j : Nat) : (h.setNum k n).can j = h.can j := rfl
@[simp] theorem Hub.can_setFlag (h : Hub) (k : Nat) (b : Bool) (j : Nat) : (h.setFlag k b).can j = h.can j := rfl
@[simp] theorem Hub.can_setInt (h : Hub) (k : Nat) (i : Int) (j : Nat) : (h.setInt k i).can j = h.can j := rfl
@[simp] theorem Hub.can_setOct (h : Hub) (k : Nat) (b : List Byte) (j : Nat) : (h.setOct k b).can j = h.can j := rfl
@[simp] theorem Hub.can_countN (h : Hub) (k n : Nat) (j : Nat) : (h.countN k n).can j = h.can j := rfl
@[simp] theorem Hub.can_count (h : Hub) (k : Nat) (j : Nat) : (h.count k).can j = h.can j := rfl
@[simp] theorem Hub.can_wrapAdd (h : Hub) (k n : Nat) (j : Nat) : (h.wrapAdd k n).can j = h.can j := rfl
@[simp] theorem Hub.can_emit (h : Hub) (o : Out) (j : Nat) : (h.emit o).can j = h.can j := rfl
theorem Hub.sq_setSq (h : Hub) (k j : Nat) (x : SeqState) : (h.setSq k x).sq j = if j = k then x else h.sq j := SMap.get_set _ _ k j x
@[simp] theorem Hub.sq_setSq_self (h : Hub) (k : Nat) (x : SeqState) : (h.setSq k x).sq k = x := by simp [Hub.sq_setSq]
@[simp] theorem Hub.sq_setObj (h : Hub) (k : Nat) (v : Val) (j : Nat) : (h.setObj k v).sq j = h.sq j := rfl
@[simp] theorem Hub.sq_setNum (h : Hub) (k n : Nat) (j : Nat) : (h.setNum k n).sq j = h.sq j := rfl
@[simp] theorem Hub.sq_setFlag (h : Hub) (k : Nat) (b : Bool) (j : Nat) : (h.setFlag k b).sq j = h.sq j := rfl
@[simp] theorem Hub.sq_setInt (h : Hub) (k : Nat) (i : Int) (j : Nat) : (h.setInt k i).sq j = h.sq j := rfl
@[simp] theorem Hub.sq_setOct (h : Hub) (k : Nat) (b : List Byte) (j : Nat) : (h.setOct k b).sq j = h.sq j := rfl
@[simp] theorem Hub.sq_countN (h : Hub) (k n : Nat) (j : Nat) : (h.countN k n).sq j = h.sq j := rfl
@[simp] theorem Hub.sq_count (h : Hub) (k : Nat) (j : Nat) : (h.count k).sq j = h.sq j := rfl
@[simp] theorem Hub.sq_wrapAdd (h : Hub) (k n : Nat) (j : Nat) : (h.wrapAdd k n).sq j = h.sq j := rfl
@[simp] theorem Hub.sq_emit (h : Hub) (o : Out) (j : Nat) : (h.emit o).sq j = h.sq j := rfl
theorem Hub.scan_setScan (h : Hub) (k j : Nat) (x : Scan) : (h.setScan k x).scan j = if j = k then x else h.scan j := SMap.get_set _ _ k j x
@[simp] theorem Hub.scan_setScan_self (h : Hub) (k : Nat) (x : Scan) : (h.setScan k x).scan k = x := by simp [Hub.scan_setScan]
@[simp] theorem Hub.scan_setObj (h : Hub) (k : Nat) (v : Val) (j : Nat) : (h.setObj k v).scan j = h.scan j := rfl
@[simp] theorem Hub.scan_setNum (h : Hub) (k n : Nat) (j : Nat) : (h.setNum k n).scan j = h.scan j := rfl
@[simp] theorem Hub.scan_setFlag (h : Hub) (k : Nat) (b : Bool) (j : Nat) : (h.setFlag k b).scan j = h.scan j := rfl
@[simp] theorem Hub.scan_setInt (h : Hub) (k : Nat) (i : Int) (j : Nat) : (h.setInt k i).scan j = h.scan j := rfl
@[simp] theorem Hub.scan_setOct (h : Hub) (k : Nat) (b : List Byte) (j : Nat) : (h.setOct k b).scan j = h.scan j := rfl
@[simp] theorem Hub.scan_countN (h : Hub) (k n : Nat) (j : Nat) : (h.countN k n).scan j = h.scan j := rfl
@[simp] theorem Hub.scan_count (h : Hub) (k : Nat) (j : Nat) : (h.count k).scan j = h.scan j := rfl
@[simp] theorem Hub.scan_wrapAdd (h : Hub) (k n : Nat) (j : Nat) : (h.wrapAdd k n).scan j = h.scan j := rfl
@[simp] theorem Hub.scan_emit (h : Hub) (o : Out) (j : Nat) : (h.emit o).scan j = h.scan j := rfl
theorem Hub.queue_setQueue (h : Hub) (k j : Nat) (x : QState) : (h.setQueue k x).queue j = if j = k then x else h.queue j := SMap.get_set _ _ k j x
@[simp] theorem Hub.queue_setQueue_self (h : Hub) (k : Nat) (x : QState) : (h.setQueue k x).queue k = x := by simp [Hub.queue_setQueue]
@[simp] theorem Hub.queue_setObj (h : Hub) (k : Nat) (v : Val) (j : Nat) : (h.setObj k v).queue j = h.queue j := rfl
@[simp] theorem Hub.queue_setNum (h : Hub) (k n : Nat) (j : Nat) : (h.setNum k n).queue j = h.queue j := rfl
@[simp] theorem Hub.queue_setFlag (h : Hub) (k : Nat) (b : Bool) (j : Nat) : (h.setFlag k b).queue j = h.queue j := rfl
@[simp] theorem Hub.queue_setInt (h : Hub) (k : Nat) (i : Int) (j : Nat) : (h.setInt k i).queue j = h.queue j := rfl
@[simp] theorem Hub.queue_setOct (h : Hub) (k : Nat) (b : List Byte) (j : Nat) : (h.setOct k b).queue j = h.queue j := rfl
@[simp] theorem Hub.queue_countN (h : Hub) (k n : Nat) (j : Nat) : (h.countN k n).queue j = h.queue j := rfl
@[simp] theorem Hub.queue_count (h : Hub) (k : Nat) (j : Nat) : (h.count k).queue j = h.queue j := rfl
@[simp] theorem Hub.queue_wrapAdd (h : Hub) (k n : Nat) (j : Nat) : (h.wrapAdd k n).queue j = h.queue j := rfl
@[simp] theorem Hub.queue_emit (h : Hub) (o : Out) (j : Nat) : (h.emit o).queue j = h.queue j := rfl
theorem Hub.trig_setTrig (h : Hub) (k j : Nat) (x : TrigState) : (h.setTrig k x).trig j = if j = k then x else h.trig j := SMap.get_set _ _ k j x
@[simp] theorem Hub.trig_setTrig_self (h : Hub) (k : Nat) (x : TrigState) : (h.setTrig k x).trig k = x := by simp [Hub.trig_setTrig]
@[simp] theorem Hub.trig_setObj (h : Hub) (k : Nat) (v : Val) (j : Nat) : (h.setObj k v).trig j = h.trig j := rfl
@[simp] theorem Hub.trig_setNum (h : Hub) (k n : Nat) (j : Nat) : (h.setNum k n).trig j = h.trig j := rfl
@[simp] theorem Hub.trig_setFlag (h : Hub) (k : Nat) (b : Bool) (j : Nat) : (h.setFlag k b).trig j = h.trig j := rfl
@[simp] theorem Hub.trig_setInt (h : Hub) (k : Nat) (i : Int) (j : Nat) : (h.setInt k i).trig j = h.trig j := rfl
@[simp] theorem Hub.trig_setOct (h : Hub) (k : Nat) (b : List Byte) (j : Nat) : (h.setOct k b).trig j = h.trig j := rfl
@[simp] theorem Hub.trig_countN (h : Hub) (k n : Nat) (j : Nat) : (h.countN k n).trig j = h.trig j := rfl
@[simp] theorem Hub.trig_count (h : Hub) (k : Nat) (j : Nat) : (h.count k).trig j = h.trig j := rfl
@[simp] theorem Hub.trig_wrapAdd (h : Hub) (k n : Nat) (j : Nat) : (h.wrapAdd k n).trig j = h.trig j := rfl
@[simp] theorem Hub.trig_emit (h : Hub) (o : Out) (j : Nat) : (h.emit o).trig j = h.trig j := rfl
theorem Hub.func_setFunc (h : Hub) (k j : Nat) (x : FState) : (h.setFunc k x).func j = if j = k then x else h.func j := SMap.get_set _ _ k j x
@[simp] theorem Hub.func_setFunc_self (h : Hub) (k : Nat) (x : FState) : (h.setFunc k x).func k = x := by simp [Hub.func_setFunc]
@[simp] theorem Hub.func_setObj (h : Hub) (k : Nat) (v : Val) (j : Nat) : (h.setObj k v).func j = h.func j := rfl
@[simp] theorem Hub.func_setNum (h : Hub) (k n : Nat) (j : Nat) : (h.setNum k n).func j = h.func j := rfl
@[simp] theorem Hub.func_setFlag (h : Hub) (k : Nat) (b : Bool) (j : Nat) : (h.setFlag k b).func j = h.func j := rfl
@[simp] theorem Hub.func_setInt (h : Hub) (k : Nat) (i : Int) (j : Nat) : (h.setInt k i).func j = h.func j := rfl
@[simp] theorem Hub.func_setOct (h : Hub) (k : Nat) (b : List Byte) (j : Nat) : (h.setOct k b).func j = h.func j := rfl
@[simp] theorem Hub.func_countN (h : Hub) (k n : Nat) (j : Nat) : (h.countN k n).func j = h.func j := rfl
@[simp] theorem Hub.func_count (h : Hub) (k : Nat) (j : Nat) : (h.count k).func j = h.func j := rfl
@[simp] theorem Hub.func_wrapAdd (h : Hub) (k n : Nat) (j : Nat) : (h.wrapAdd k n).func j = h.func j := rfl
@[simp] theorem Hub.func_emit (h : Hub) (o : Out) (j : Nat) : (h.emit o).func j = h.func j := rfl
theorem Hub.fence_setFence (h : Hub) (k j : Nat) (x : Fence) : (h.setFence k x).fence j = if j = k then x else h.fence j := SMap.get_set _ _ k j x
@[simp] theorem Hub.fence_setFence_self (h : Hub) (k : Nat) (x : Fence) : (h.setFence k x).fence k = x := by simp [Hub.fence_setFence]
@[simp] theorem Hub.fence_setObj (h : Hub) (k : Nat) (v : Val) (j : Nat) : (h.setObj k v).fence j = h.fence j := rfl
@[simp] theorem Hub.fence_setNum (h : Hub) (k n : Nat) (j : Nat) : (h.setNum k n).fence j = h.fence j := rfl
@[simp] theorem Hub.fence_setFlag (h : Hub) (k : Nat) (b : Bool) (j : Nat) : (h.setFlag k b).fence j = h.fence j := rfl
@[simp] theorem Hub.fence_setInt (h : Hub) (k : Nat) (i : Int) (j : Nat) : (h.setInt k i).fence j = h.fence j := rfl
@[simp] theorem Hub.fence_setOct (h : Hub) (k : Nat) (b : List Byte) (j : Nat) : (h.setOct k b).fence j = h.fence j := rfl
@[simp] theorem Hub.fence_countN (h : Hub) (k n : Nat) (j : Nat) : (h.countN k n).fence j = h.fence j := rfl
@[simp] theorem Hub.fence_count (h : Hub) (k : Nat) (j : Nat) : (h.count k).fence j = h.fence j := rfl
@[simp] theorem Hub.fence_wrapAdd (h : Hub) (k n : Nat) (j : Nat) : (h.wrapAdd k n).fence j = h.fence j := rfl
@[simp] theorem Hub.fence_emit (h : Hub) (o : Out) (j : Nat) : (h.emit o).fence j = h.fence j := rfl
theorem Hub.inbox_setInbox (h : Hub) (k j : Nat) (x : List Delivered) : (h.setInbox k x).inbox j = if j = k then x else h.inbox j := SMap.get_set _ _ k j x
@[simp] theorem Hub.inbox_setInbox_self (h : Hub) (k : Nat) (x : List Delivered) : (h.setInbox k x).inbox k = x := by simp [Hub.inbox_setInbox]
@[simp] theorem Hub.inbox_setObj (h : Hub) (k : Nat) (v : Val) (j : Nat) : (h.setObj k v).inbox j = h.inbox j := rfl
@[simp] theorem Hub.inbox_setNum (h : Hub) (k n : Nat) (j : Nat) : (h.setNum k n).inbox j = h.inbox j := rfl
@[simp] theorem Hub.inbox_setFlag (h : Hub) (k : Nat) (b : Bool) (j : Nat) : (h.setFlag k b).inbox j = h.inbox j := rfl
@[simp] theorem Hub.inbox_setInt (h : Hub) (k : Nat) (i : Int) (j : Nat) : (h.setInt k i).inbox j = h.inbox j := rfl
@[simp] theorem Hub.inbox_setOct (h : Hub) (k : Nat) (b : List Byte) (j : Nat) : (h.setOct k b).inbox j = h.inbox j := rfl
@[simp] theorem Hub.inbox_countN (h : Hub) (k n : Nat) (j : Nat) : (h.countN k n).inbox j = h.inbox j := rfl
@[simp] theorem Hub.inbox_count (h : Hub) (k : Nat) (j : Nat) : (h.count k).inbox j = h.inbox j := rfl
@[simp] theorem Hub.inbox_wrapAdd (h : Hub) (k n : Nat) (j : Nat) : (h.wrapAdd k n).inbox j = h.inbox j := rfl
@[simp] theorem Hub.inbox_emit (h : Hub) (o : Out) (j : Nat) : (h.emit o).inbox j = h.inbox j := rfl
theorem Hub.staTx_setStaTx (h : Hub) (k j : Nat) (x : List StaTx) : (h.setStaTx k x).staTx j = if j = k then x else h.staTx j := SMap.get_set _ _ k j x
@[simp] theorem Hub.staTx_setStaTx_self (h : Hub) (k : Nat) (x : List StaTx) : (h.setStaTx k x).staTx k = x := by simp [Hub.staTx_setStaTx]
@[simp] theorem Hub.staTx_setObj (h : Hub) (k : Nat) (v : Val) (j : Nat) : (h.setObj k v).staTx j = h.staTx j := rfl
@[simp] theorem Hub.staTx_setNum (h : Hub) (k n : Nat) (j : Nat) : (h.setNum k n).staTx j = h.staTx j := rfl
@[simp] theorem Hub.staTx_setFlag (h : Hub) (k : Nat) (b : Bool) (j : Nat) : (h.setFlag k b).staTx j = h.staTx j := rfl
@[simp] theorem Hub.staTx_setInt (h : Hub) (k : Nat) (i : Int) (j : Nat) : (h.setInt k i).staTx j = h.staTx j := rfl
@[simp] theorem Hub.staTx_setOct (h : Hub) (k : Nat) (b : List Byte) (j : Nat) : (h.setOct k b).staTx j = h.staTx j := rfl
@[simp] theorem Hub.staTx_countN (h : Hub) (k n : Nat) (j : Nat) : (h.countN k n).staTx j = h.staTx j := rfl
@[simp] theorem Hub.staTx_count (h : Hub) (k : Nat) (j : Nat) : (h.count k).staTx j = h.staTx j := rfl
@[simp] theorem Hub.staTx_wrapAdd (h : Hub) (k n : Nat) (j : Nat) : (h.wrapAdd k n).staTx j = h.staTx j := rfl
@[simp] theorem Hub.staTx_emit (h : Hub) (o : Out) (j : Nat) : (h.emit o).staTx j = h.staTx j := rfl
theorem Hub.ptpPort_setPtpPort (h : Hub) (k j : Nat) (x : PtpPort) : (h.setPtpPort k x).ptpPort j = if j = k then x else h.ptpPort j := SMap.get_set _ _ k j x
@[simp] theorem Hub.ptpPort_setPtpPort_self (h : Hub) (k : Nat) (x : PtpPort) : (h.setPtpPort k x).ptpPort k = x := by simp [Hub.ptpPort_setPtpPort]
@[simp] theorem Hub.ptpPort_setObj (h : Hub) (k : Nat) (v : Val) (j : Nat) : (h.setObj k v).ptpPort j = h.ptpPort j := rfl
@[simp] theorem Hub.ptpPort_setNum (h : Hub) (k n : Nat) (j : Nat) : (h.setNum k n).ptpPort j = h.ptpPort j := rfl
@[simp] theorem Hub.ptpPort_setFlag (h : Hub) (k : Nat) (b : Bool) (j : Nat) : (h.setFlag k b).ptpPort j = h.ptpPort j := rfl
@[simp] theorem Hub.ptpPort_setInt (h : Hub) (k : Nat) (i : Int) (j : Nat) : (h.setInt k i).ptpPort j = h.ptpPort j := rfl
@[simp] theorem Hub.ptpPort_setOct (h : Hub) (k : Nat) (b : List Byte) (j : Nat) : (h.setOct k b).ptpPort j = h.ptpPort j := rfl
@[simp] theorem Hub.ptpPort_countN (h : Hub) (k n : Nat) (j : Nat) : (h.countN k n).ptpPort j = h.ptpPort j := rfl
@[simp] theorem Hub.ptpPort_count (h : Hub) (k : Nat) (j : Nat) : (h.count k).ptpPort j = h.ptpPort j := rfl
@[simp] theorem Hub.ptpPort_wrapAdd (h : Hub) (k n : Nat) (j : Nat) : (h.wrapAdd k n).ptpPort j = h.ptpPort j := rfl
@[simp] theorem Hub.ptpPort_emit (h : Hub) (o : Out) (j : Nat) : (h.emit o).ptpPort j = h.ptpPort j := rfl
@[simp] theorem Hub.now_setObj (h : Hub) (k : Nat) (v : Val) : (h.setObj k v).now = h.now := rfl
@[simp] theorem Hub.now_setNum (h : Hub) (k n : Nat) : (h.setNum k n).now = h.now := rfl
@[simp] theorem Hub.now_setFlag (h : Hub) (k : Nat) (b : Bool) : (h.setFlag k b).now = h.now := rfl
@[simp] theorem Hub.now_setInt (h : Hub) (k : Nat) (i : Int) : (h.setInt k i).now = h.now := rfl
@[simp] theorem Hub.now_setOct (h : Hub) (k : Nat) (b : List Byte) : (h.setOct k b).now = h.now := rfl
@[simp] theorem Hub.now_countN (h : Hub) (k n : Nat) : (h.countN k n).now = h.now := rfl
@[simp] theorem Hub.now_count (h : Hub) (k : Nat) : (h.count k).now = h.now := rfl
@[simp] theorem Hub.now_wrapAdd (h : Hub) (k n : Nat) : (h.wrapAdd k n).now = h.now := rfl
@[simp] theorem Hub.now_emit (h : Hub) (o : Out) : (h.emit o).now = h.now := rfl
@[simp] theorem Hub.now_setFunc (h : Hub) (i : Nat) (f : FState) : (h.setFunc i f).now = h.now := rfl
@[simp] theorem Hub.now_setChan (h : Hub) (c : Nat) (x : Chan) : (h.setChan c x).now = h.now := rfl
@[simp] theorem Hub.now_setCan (h : Hub) (n : Nat) (x : Can) : (h.setCan n x).now = h.now := rfl
@[simp] theorem Hub.now_setSq (h : Hub) (n : Nat) (x : SeqState) : (h.setSq n x).now = h.now := rfl
@[simp] theorem Hub.now_setQueue (h : Hub) (q : Nat) (x : QState) : (h.setQueue q x).now = h.now := rfl

end Sys2Proof.Machine
end

