-- ==== Sys2Proof/Laws/Notice.lean ====
section
/-!
SUPPORT. What raising a notice leaves as it is (R236 to R238): everything but the host interface beside its SRAM, the objects of queue 63 and of the
notices, what the hub emits, and the value that queue 63 waits to take.
-/
namespace Sys2Proof.Machine

/-- The hub `g` differs from `h` only in the host interface beside the SRAM, in objects of index `0x1900 + q`, of the notices and of the in-line
checks, in what was emitted, and in values that wait for their boundary. -/
def Hub.Quiet (q : Nat) (h g : Hub) : Prop :=
  g = { h with host := g.host, dict := g.dict, out := g.out, rwb := g.rwb } ∧ g.host.sram = h.host.sram
    ∧ ∀ k, k / 256 ≠ 0x1900 + q → k / 256 ≠ 0x1200 → k ≠ Obj.inlineCheckFailures → g.obj k = h.obj k

namespace Quietly
variable {q : Nat} {a h : Hub}

theorem refl (q : Nat) (h : Hub) : Hub.Quiet q h h := ⟨rfl, rfl, fun _ _ _ _ => rfl⟩

theorem host (H : Hub.Quiet q a h) (x : HostIf) (e : x.sram = h.host.sram) : Hub.Quiet q a { h with host := x } := by
  obtain ⟨e1, s1, o1⟩ := H
  exact ⟨by rw [e1], e.trans s1, o1⟩

theorem rwb (H : Hub.Quiet q a h) (x : SMap Val) : Hub.Quiet q a { h with rwb := x } := by
  obtain ⟨e1, s1, o1⟩ := H
  exact ⟨by rw [e1], s1, o1⟩

theorem emit (H : Hub.Quiet q a h) (o : Out) : Hub.Quiet q a (h.emit o) := by
  obtain ⟨e1, s1, o1⟩ := H
  exact ⟨by rw [e1]; rfl, s1, o1⟩

/-- A key that a notice, or a packet of queue `q`, may write. -/
def mayKey (q k : Nat) : Prop := k / 256 = 0x1900 + q ∨ k / 256 = 0x1200 ∨ k = Obj.inlineCheckFailures

theorem setObj (H : Hub.Quiet q a h) (k : Nat) (v : Val) (hk : mayKey q k) : Hub.Quiet q a (h.setObj k v) := by
  obtain ⟨e1, s1, o1⟩ := H
  refine ⟨by rw [e1]; rfl, s1, fun j x y z => ?_⟩
  rw [Hub.obj_setObj, if_neg, o1 j x y z]
  rintro rfl
  rcases hk with hk | hk | hk <;> contradiction

theorem setNum (H : Hub.Quiet q a h) (k n : Nat) (hk : mayKey q k) : Hub.Quiet q a (h.setNum k n) := setObj H k _ hk
theorem setOct (H : Hub.Quiet q a h) (k : Nat) (b : List Byte) (hk : mayKey q k) : Hub.Quiet q a (h.setOct k b) := setObj H k _ hk
theorem count (H : Hub.Quiet q a h) (k : Nat) (hk : mayKey q k) : Hub.Quiet q a (h.count k) := setObj H k _ hk
theorem setQueue (H : Hub.Quiet q a h) (r : Nat) (x : QState) : Hub.Quiet q a (h.setQueue r x) := host H _ rfl

theorem ite (c : Prop) [Decidable c] {g : Hub} (H : Hub.Quiet q a h) (G : Hub.Quiet q a g) : Hub.Quiet q a (if c then h else g) := by
  split
  · exact H
  · exact G

theorem when (H : Hub.Quiet q a h) (c : Bool) (f : Hub → Hub) (hf : ∀ {h}, Hub.Quiet q a h → Hub.Quiet q a (f h)) :
    Hub.Quiet q a (h.when c f) := ite _ (hf H) H

theorem foldl {α : Type} (f : Hub → α → Hub) (l : List α) (hf : ∀ {h}, ∀ x ∈ l, Hub.Quiet q a h → Hub.Quiet q a (f h x)) :
    ∀ {h}, Hub.Quiet q a h → Hub.Quiet q a (l.foldl f h) := by
  induction l with
  | nil => intro h H; exact H
  | cons x l ih => intro h H; exact ih (fun y hy => hf y (by simp [hy])) (hf x (by simp) H)

theorem emitHost (H : Hub.Quiet q a h) (o : Out) : Hub.Quiet q a (h.emitHost o) := ite _ (emit H o) (host H _ rfl)

theorem vector (H : Hub.Quiet q a h) (v : Nat) : Hub.Quiet q a (h.vector v) :=
  ite _ (ite _ (emit H _) (host H _ rfl)) (ite _ H (host H _ rfl))

theorem queueEvent (H : Hub.Quiet q a h) (r : Nat) (b : Bool) : Hub.Quiet q a (h.queueEvent r b) :=
  ite _ H (ite _ (vector H r) (ite _ (vector (setQueue H r _) r) (setQueue H r _)))

theorem completeD2H (H : Hub.Quiet q a h) (idx : Nat) (b c d : Bool) (st : Option Nat) (w x y z : Nat) :
    Hub.Quiet q a (h.completeD2H q idx b c d st w x y z) := by
  unfold Hub.completeD2H
  exact count (setQueue (emitHost H _) _ _) _ (.inl (by unfold Obj.itemsOut; omega))

theorem badGrants (n : Nat) : ∀ {h}, Hub.Quiet q a h → Hub.Quiet q a (h.badGrants q n) := by
  induction n with
  | zero => intro h H; exact H
  | succ n ih =>
    intro h H
    unfold Hub.badGrants
    split
    · exact ih (completeD2H (setQueue H _ _) _ _ _ _ _ _ _ _ _)
    · exact H

theorem fillBuffers (hold n : Nat) : ∀ {h}, Hub.Quiet q a h → Hub.Quiet q a (h.fillBuffers q hold n) := by
  induction n with
  | zero => intro h H; exact H
  | succ n ih =>
    intro h H
    unfold Hub.fillBuffers
    have H' := badGrants (h.queue q).bufs.length H
    revert H'
    generalize h.badGrants q _ = g
    intro G
    dsimp only
    split
    · refine ite _ G (ite _ ?_ (ite _ ?_ G))
      · exact ih (setQueue (completeD2H (emitHost G _) _ _ _ _ _ _ _ _ _) _ _)
      · exact queueEvent (setQueue (completeD2H (emitHost G _) _ _ _ _ _ _ _ _ _) _ _) _ _
    · exact G

theorem pushItem (H : Hub.Quiet q a h) (i : QItem) : Hub.Quiet q a (h.pushItem q i) := by
  unfold Hub.pushItem
  exact count (setQueue H _ _) _ (.inl (by unfold Obj.itemsIn; omega))

theorem placeItems (hold n : Nat) : ∀ {h}, Hub.Quiet q a h → Hub.Quiet q a (h.placeItems q hold n) := by
  induction n with
  | zero => intro h H; exact H
  | succ n ih =>
    intro h H
    unfold Hub.placeItems
    dsimp only
    split
    · exact H
    · refine ite _ ?_ (ite _ ?_ H)
      · exact ih (setQueue (pushItem H _) _ _)
      · exact setQueue (pushItem H _) _ _

theorem applyCtThresh (H : Hub.Quiet q a h) : Hub.Quiet q a (h.applyRwb [Obj.ctThresh q]) := by
  unfold Hub.applyRwb
  refine foldl _ _ (fun x hx G => setObj G _ _ (.inl ?_)) (rwb H _)
  simp only [List.mem_filter, List.contains_cons, List.contains_nil, Bool.or_false, beq_iff_eq] at hx
  rw [hx.2]
  unfold Obj.ctThresh
  omega

theorem d2hStart (H : Hub.Quiet q a h) (i r : Nat) (s : Option Nat) : Hub.Quiet q a (h.d2hStart q i r s) := by
  unfold Hub.d2hStart
  exact setQueue (applyCtThresh H) _ _

theorem d2hData (H : Hub.Quiet q a h) (b : List Byte) (e x y z : Bool) : Hub.Quiet q a (h.d2hData q b e x y z) := by
  unfold Hub.d2hData
  split
  · exact H
  · dsimp only
    generalize (if (e && !x) = true then _ else _ : Bool × List Byte) = p
    have G := when (when H p.1 (fun h => h.count Obj.inlineCheckFailures) (fun G => count G _ (.inr (.inr rfl))))
      (e && (x || p.1)) (fun h => h.count (Obj.qErrTerminated q)) (fun G => count G _ (.inl (by unfold Obj.qErrTerminated; omega)))
    revert G
    generalize Hub.when (Hub.when h _ _) _ _ = g
    intro G
    refine ite _ (setQueue G _ _) (ite _ ?_ (fillBuffers _ _ (setQueue G _ _)))
    refine ite _ ?_ (placeItems _ _ (setQueue G _ _))
    exact when (setQueue (placeItems _ _ (setQueue G _ _)) _ _) _ _ (fun G => queueEvent G _ _)

theorem putPacket (H : Hub.Quiet q a h) (b : List Byte) (e : Bool) (s : Option Nat) (i r : Nat) :
    Hub.Quiet q a (h.putPacket q b e s i r) := d2hData (d2hStart H _ _ _) _ _ _ _ _

theorem crossings (H : Hub.Quiet q a h) (old : Nat) : Hub.Quiet q a (h.crossings q old).1 := by
  unfold Hub.crossings
  dsimp only
  have G := setNum H (Obj.level q) (h.qLevel q) (.inl (by unfold Obj.level; omega))
  revert G
  generalize Hub.setNum h (Obj.level q) _ = g
  intro G
  have mark : ∀ {h : Hub} (c : Bool) (j k x y : Nat) (s : QState), Hub.Quiet q a h → mayKey q j → mayKey q k →
      Hub.Quiet q a (if c = true then ((h.setNum j x).setNum k y).setQueue q s else h) := by
    intro h c j k x y s H hj hk
    split
    · exact setQueue (setNum (setNum H j x hj) k y hk) q s
    · exact H
  exact mark _ _ _ _ _ _ (mark _ _ _ _ _ _ G (.inl (by unfold Obj.wmHighLevel; omega)) (.inl (by unfold Obj.wmHighLtc; omega)))
    (.inl (by unfold Obj.wmLowLevel; omega)) (.inl (by unfold Obj.wmLowLtc; omega))

theorem pend (H : Hub.Quiet q a h) (c : Nat) : Hub.Quiet q a (h.pend c) :=
  ite _ H (vector (host H { h.host with npend := setBit h.host.npend c } rfl) (64 + c))

theorem recordCore (H : Hub.Quiet 63 a h) (n : Notice) (s : Nat) : Hub.Quiet 63 a (h.recordCore n s).1 := by
  unfold Hub.recordCore
  have K := setOct (host (putPacket H (noticeRecord n s (h.num Obj.nodeIdInUse)) false none 16 0)
    { (h.putPacket 63 (noticeRecord n s (h.num Obj.nodeIdInUse)) false none 16 0).host with nseq := s } rfl)
    Obj.newestNotice (noticeRecord n s (h.num Obj.nodeIdInUse)) (.inr (.inl rfl))
  exact pend (crossings K (h.qLevel 63)) (n.code / 256)

theorem deliverBy (H : Hub.Quiet 63 a h) (w : Hub → Hub) (n : Notice) (s : Nat) (hw : ∀ {h}, Hub.Quiet 63 a h → Hub.Quiet 63 a (w h)) :
    Hub.Quiet 63 a (h.deliverBy w n s) := by
  unfold Hub.deliverBy
  refine ite _ (hw H) (ite _ ?_ ?_)
  · exact host H { h.host with backlog := h.host.backlog ++ [(n, s)] } rfl
  · exact pend (host H { h.host with nlost := satAdd (maxWord 32) h.host.nlost 1, lostRun := h.host.lostRun + 1 } rfl) (n.code / 256)

theorem ownNotice (H : Hub.Quiet 63 a h) (code : Nat) (args : List Nat) : Hub.Quiet 63 a (h.ownNotice code args) := by
  unfold Hub.ownNotice
  have G := count H Obj.noticesRaised (.inr (.inl rfl))
  refine ite _ (count H Obj.noticesSuppressed (.inr (.inl rfl))) ?_
  revert G
  generalize Hub.count h Obj.noticesRaised = g
  intro G
  exact deliverBy (host G { g.host with nextSeq := g.host.nextSeq + 1 } rfl) _ _ _ (fun G => recordCore G _ _)

theorem creditWordNow (H : Hub.Quiet 63 a h) : Hub.Quiet 63 a (h.creditWordNow 63) := by
  unfold Hub.creditWordNow
  rw [if_neg (by rintro ⟨_, e⟩; exact absurd e (by simp [Hub.isD2H]))]
  exact H

theorem countN (H : Hub.Quiet q a h) (k n : Nat) (hk : mayKey q k) : Hub.Quiet q a (h.countN k n) := setObj H k _ hk

theorem ptrClear (H : Hub.Quiet 63 a h) : Hub.Quiet 63 a (h.ptrClear 63) := by
  unfold Hub.ptrClear
  have e : h.isD2H 63 = true := rfl
  simp only [e, if_true]
  exact creditWordNow (count (countN (setQueue H _ _) _ _ (.inl rfl)) _ (.inl rfl))

theorem writeRecord (H : Hub.Quiet 63 a h) (n : Notice) (s : Nat) : Hub.Quiet 63 a (h.writeRecord n s) := by
  unfold Hub.writeRecord
  have G := recordCore H n s
  revert G
  generalize h.recordCore n s = r
  intro G
  dsimp only
  have K := when (when G r.2.1 (fun h => h.ownNotice N.queueWmHigh [63, h.num (Obj.wmHighLevel 63)]) (fun G => ownNotice G _ _))
    r.2.2 (fun h => h.ownNotice N.queueWmLow [63, h.num (Obj.wmLowLevel 63)]) (fun G => ownNotice G _ _)
  exact ite _ K (ownNotice (ptrClear K) _ _)

theorem flushBacklog (n : Nat) : ∀ {h}, Hub.Quiet 63 a h → Hub.Quiet 63 a (h.flushBacklog n) := by
  induction n with
  | zero => intro h H; exact H
  | succ n ih =>
    intro h H
    unfold Hub.flushBacklog
    split
    · exact H
    · rename_i r seq l _
      split
      · exact ih (writeRecord (host H { h.host with backlog := l } rfl) r seq)
      · exact H

theorem overflowNow (H : Hub.Quiet 63 a h) : Hub.Quiet 63 a h.overflowNow := by
  unfold Hub.overflowNow
  have G := flushBacklog h.host.backlog.length H
  revert G
  generalize h.flushBacklog _ = g
  intro G
  dsimp only
  split
  · exact writeRecord (host G { g.host with lostRun := 0, nextSeq := g.host.nextSeq + 1 } rfl) _ _
  · exact G

theorem deliverNotice (H : Hub.Quiet 63 a h) (n : Notice) (s : Nat) : Hub.Quiet 63 a (h.deliverNotice n s) :=
  deliverBy H _ n s (fun G => writeRecord G n s)

theorem numberNotice (H : Hub.Quiet 63 a h) (n : Notice) : Hub.Quiet 63 a (h.numberNotice n) := by
  unfold Hub.numberNotice
  have G := overflowNow H
  revert G
  generalize Hub.overflowNow h = g
  intro G
  exact deliverNotice (host G { g.host with nextSeq := g.host.nextSeq + 1 } rfl) _ _

theorem holdNotice (H : Hub.Quiet 63 a h) (n : Notice) : Hub.Quiet 63 a (h.holdNotice n) :=
  ite _ (host H { h.host with held := h.host.held ++ [n] } rfl)
    (host H { h.host with nlost := satAdd (maxWord 32) h.host.nlost 1, lostRun := h.host.lostRun + 1 } rfl)

theorem noticeStamped (H : Hub.Quiet 63 a h) (code fid stamp : Nat) (args : List Nat) : Hub.Quiet 63 a (h.noticeStamped code fid stamp args) := by
  unfold Hub.noticeStamped
  have G := count H Obj.noticesRaised (.inr (.inl rfl))
  refine ite _ (count H Obj.noticesSuppressed (.inr (.inl rfl))) ?_
  revert G
  generalize Hub.count h Obj.noticesRaised = g
  intro G
  dsimp only
  split
  · exact host G { g.host with batch := some _ } rfl
  · exact ite _ (holdNotice G _) (numberNotice G _)

theorem notice (H : Hub.Quiet 63 a h) (code fid : Nat) (args : List Nat) : Hub.Quiet 63 a (h.notice code fid args) := noticeStamped H code fid _ args
theorem noticeS (H : Hub.Quiet 63 a h) (code fid : Nat) (args : List Nat) : Hub.Quiet 63 a (h.noticeS code fid args) := noticeStamped H code fid _ args

end Quietly

/-- What an object outside the notices' own and queue 63's reads after a notice. -/
theorem Hub.num_notice (h : Hub) (code fid : Nat) (args : List Nat) (k : Nat) (h1 : k / 256 ≠ 0x193F) (h2 : k / 256 ≠ 0x1200)
    (h3 : k ≠ Obj.inlineCheckFailures) : (h.notice code fid args).num k = h.num k := by
  unfold Hub.num
  rw [(Quietly.notice (Quietly.refl 63 h) code fid args).2.2 k h1 h2 h3]

theorem Hub.num_noticeS (h : Hub) (code fid : Nat) (args : List Nat) (k : Nat) (h1 : k / 256 ≠ 0x193F) (h2 : k / 256 ≠ 0x1200)
    (h3 : k ≠ Obj.inlineCheckFailures) : (h.noticeS code fid args).num k = h.num k := by
  unfold Hub.num
  rw [(Quietly.noticeS (Quietly.refl 63 h) code fid args).2.2 k h1 h2 h3]

@[simp] theorem Hub.notice_time (h : Hub) (c f : Nat) (a : List Nat) : (h.notice c f a).time = h.time := by
  rw [(Quietly.notice (Quietly.refl 63 h) c f a).1]
@[simp] theorem Hub.notice_ring (h : Hub) (c f : Nat) (a : List Nat) : (h.notice c f a).ring = h.ring := by
  rw [(Quietly.notice (Quietly.refl 63 h) c f a).1]
@[simp] theorem Hub.notice_bridge (h : Hub) (c f : Nat) (a : List Nat) : (h.notice c f a).bridge = h.bridge := by
  rw [(Quietly.notice (Quietly.refl 63 h) c f a).1]
@[simp] theorem Hub.notice_sw (h : Hub) (c f : Nat) (a : List Nat) : (h.notice c f a).sw = h.sw := by
  rw [(Quietly.notice (Quietly.refl 63 h) c f a).1]
@[simp] theorem Hub.notice_store (h : Hub) (c f : Nat) (a : List Nat) : (h.notice c f a).store = h.store := by
  rw [(Quietly.notice (Quietly.refl 63 h) c f a).1]
@[simp] theorem Hub.notice_chans (h : Hub) (c f : Nat) (a : List Nat) : (h.notice c f a).chans = h.chans := by
  rw [(Quietly.notice (Quietly.refl 63 h) c f a).1]
@[simp] theorem Hub.notice_ledger (h : Hub) (c f : Nat) (a : List Nat) : (h.notice c f a).ledger = h.ledger := by
  rw [(Quietly.notice (Quietly.refl 63 h) c f a).1]
@[simp] theorem Hub.notice_cans (h : Hub) (c f : Nat) (a : List Nat) : (h.notice c f a).cans = h.cans := by
  rw [(Quietly.notice (Quietly.refl 63 h) c f a).1]
@[simp] theorem Hub.notice_seqs (h : Hub) (c f : Nat) (a : List Nat) : (h.notice c f a).seqs = h.seqs := by
  rw [(Quietly.notice (Quietly.refl 63 h) c f a).1]
@[simp] theorem Hub.notice_sta (h : Hub) (c f : Nat) (a : List Nat) : (h.notice c f a).sta = h.sta := by
  rw [(Quietly.notice (Quietly.refl 63 h) c f a).1]
@[simp] theorem Hub.notice_ptp (h : Hub) (c f : Nat) (a : List Nat) : (h.notice c f a).ptp = h.ptp := by
  rw [(Quietly.notice (Quietly.refl 63 h) c f a).1]
@[simp] theorem Hub.notice_goose (h : Hub) (c f : Nat) (a : List Nat) : (h.notice c f a).goose = h.goose := by
  rw [(Quietly.notice (Quietly.refl 63 h) c f a).1]
@[simp] theorem Hub.notice_duplex (h : Hub) (c f : Nat) (a : List Nat) : (h.notice c f a).duplex = h.duplex := by
  rw [(Quietly.notice (Quietly.refl 63 h) c f a).1]
@[simp] theorem Hub.notice_keeper (h : Hub) (c f : Nat) (a : List Nat) : (h.notice c f a).keeper = h.keeper := by
  rw [(Quietly.notice (Quietly.refl 63 h) c f a).1]
@[simp] theorem Hub.notice_scans (h : Hub) (c f : Nat) (a : List Nat) : (h.notice c f a).scans = h.scans := by
  rw [(Quietly.notice (Quietly.refl 63 h) c f a).1]
@[simp] theorem Hub.notice_safety (h : Hub) (c f : Nat) (a : List Nat) : (h.notice c f a).safety = h.safety := by
  rw [(Quietly.notice (Quietly.refl 63 h) c f a).1]
@[simp] theorem Hub.notice_power (h : Hub) (c f : Nat) (a : List Nat) : (h.notice c f a).power = h.power := by
  rw [(Quietly.notice (Quietly.refl 63 h) c f a).1]
@[simp] theorem Hub.notice_pwr (h : Hub) (c f : Nat) (a : List Nat) : (h.notice c f a).pwr = h.pwr := by
  rw [(Quietly.notice (Quietly.refl 63 h) c f a).1]
@[simp] theorem Hub.notice_svc (h : Hub) (c f : Nat) (a : List Nat) : (h.notice c f a).svc = h.svc := by
  rw [(Quietly.notice (Quietly.refl 63 h) c f a).1]
@[simp] theorem Hub.notice_upd (h : Hub) (c f : Nat) (a : List Nat) : (h.notice c f a).upd = h.upd := by
  rw [(Quietly.notice (Quietly.refl 63 h) c f a).1]
@[simp] theorem Hub.notice_funcs (h : Hub) (c f : Nat) (a : List Nat) : (h.notice c f a).funcs = h.funcs := by
  rw [(Quietly.notice (Quietly.refl 63 h) c f a).1]
@[simp] theorem Hub.notice_freeCtr (h : Hub) (c f : Nat) (a : List Nat) : (h.notice c f a).freeCtr = h.freeCtr := by
  rw [(Quietly.notice (Quietly.refl 63 h) c f a).1]
@[simp] theorem Hub.notice_sram (h : Hub) (c f : Nat) (a : List Nat) : (h.notice c f a).host.sram = h.host.sram :=
  (Quietly.notice (Quietly.refl 63 h) c f a).2.1
@[simp] theorem Hub.noticeS_time (h : Hub) (c f : Nat) (a : List Nat) : (h.noticeS c f a).time = h.time := by
  rw [(Quietly.noticeS (Quietly.refl 63 h) c f a).1]
@[simp] theorem Hub.noticeS_ring (h : Hub) (c f : Nat) (a : List Nat) : (h.noticeS c f a).ring = h.ring := by
  rw [(Quietly.noticeS (Quietly.refl 63 h) c f a).1]
@[simp] theorem Hub.noticeS_bridge (h : Hub) (c f : Nat) (a : List Nat) : (h.noticeS c f a).bridge = h.bridge := by
  rw [(Quietly.noticeS (Quietly.refl 63 h) c f a).1]
@[simp] theorem Hub.noticeS_sw (h : Hub) (c f : Nat) (a : List Nat) : (h.noticeS c f a).sw = h.sw := by
  rw [(Quietly.noticeS (Quietly.refl 63 h) c f a).1]
@[simp] theorem Hub.noticeS_store (h : Hub) (c f : Nat) (a : List Nat) : (h.noticeS c f a).store = h.store := by
  rw [(Quietly.noticeS (Quietly.refl 63 h) c f a).1]
@[simp] theorem Hub.noticeS_chans (h : Hub) (c f : Nat) (a : List Nat) : (h.noticeS c f a).chans = h.chans := by
  rw [(Quietly.noticeS (Quietly.refl 63 h) c f a).1]
@[simp] theorem Hub.noticeS_ledger (h : Hub) (c f : Nat) (a : List Nat) : (h.noticeS c f a).ledger = h.ledger := by
  rw [(Quietly.noticeS (Quietly.refl 63 h) c f a).1]
@[simp] theorem Hub.noticeS_cans (h : Hub) (c f : Nat) (a : List Nat) : (h.noticeS c f a).cans = h.cans := by
  rw [(Quietly.noticeS (Quietly.refl 63 h) c f a).1]
@[simp] theorem Hub.noticeS_seqs (h : Hub) (c f : Nat) (a : List Nat) : (h.noticeS c f a).seqs = h.seqs := by
  rw [(Quietly.noticeS (Quietly.refl 63 h) c f a).1]
@[simp] theorem Hub.noticeS_sta (h : Hub) (c f : Nat) (a : List Nat) : (h.noticeS c f a).sta = h.sta := by
  rw [(Quietly.noticeS (Quietly.refl 63 h) c f a).1]
@[simp] theorem Hub.noticeS_ptp (h : Hub) (c f : Nat) (a : List Nat) : (h.noticeS c f a).ptp = h.ptp := by
  rw [(Quietly.noticeS (Quietly.refl 63 h) c f a).1]
@[simp] theorem Hub.noticeS_goose (h : Hub) (c f : Nat) (a : List Nat) : (h.noticeS c f a).goose = h.goose := by
  rw [(Quietly.noticeS (Quietly.refl 63 h) c f a).1]
@[simp] theorem Hub.noticeS_duplex (h : Hub) (c f : Nat) (a : List Nat) : (h.noticeS c f a).duplex = h.duplex := by
  rw [(Quietly.noticeS (Quietly.refl 63 h) c f a).1]
@[simp] theorem Hub.noticeS_keeper (h : Hub) (c f : Nat) (a : List Nat) : (h.noticeS c f a).keeper = h.keeper := by
  rw [(Quietly.noticeS (Quietly.refl 63 h) c f a).1]
@[simp] theorem Hub.noticeS_scans (h : Hub) (c f : Nat) (a : List Nat) : (h.noticeS c f a).scans = h.scans := by
  rw [(Quietly.noticeS (Quietly.refl 63 h) c f a).1]
@[simp] theorem Hub.noticeS_safety (h : Hub) (c f : Nat) (a : List Nat) : (h.noticeS c f a).safety = h.safety := by
  rw [(Quietly.noticeS (Quietly.refl 63 h) c f a).1]
@[simp] theorem Hub.noticeS_power (h : Hub) (c f : Nat) (a : List Nat) : (h.noticeS c f a).power = h.power := by
  rw [(Quietly.noticeS (Quietly.refl 63 h) c f a).1]
@[simp] theorem Hub.noticeS_pwr (h : Hub) (c f : Nat) (a : List Nat) : (h.noticeS c f a).pwr = h.pwr := by
  rw [(Quietly.noticeS (Quietly.refl 63 h) c f a).1]
@[simp] theorem Hub.noticeS_svc (h : Hub) (c f : Nat) (a : List Nat) : (h.noticeS c f a).svc = h.svc := by
  rw [(Quietly.noticeS (Quietly.refl 63 h) c f a).1]
@[simp] theorem Hub.noticeS_upd (h : Hub) (c f : Nat) (a : List Nat) : (h.noticeS c f a).upd = h.upd := by
  rw [(Quietly.noticeS (Quietly.refl 63 h) c f a).1]
@[simp] theorem Hub.noticeS_funcs (h : Hub) (c f : Nat) (a : List Nat) : (h.noticeS c f a).funcs = h.funcs := by
  rw [(Quietly.noticeS (Quietly.refl 63 h) c f a).1]
@[simp] theorem Hub.noticeS_freeCtr (h : Hub) (c f : Nat) (a : List Nat) : (h.noticeS c f a).freeCtr = h.freeCtr := by
  rw [(Quietly.noticeS (Quietly.refl 63 h) c f a).1]
@[simp] theorem Hub.noticeS_sram (h : Hub) (c f : Nat) (a : List Nat) : (h.noticeS c f a).host.sram = h.host.sram :=
  (Quietly.noticeS (Quietly.refl 63 h) c f a).2.1

end Sys2Proof.Machine
end

