-- ==== Sys2Proof/Tests/Slice0.lean ====
section
/-!
SUPPORT. Tests on fixed values, each with its source in the spec; the well-formedness checks, each with a term it refuses; and for every statement
that has hypotheses a state and operands that meet them, clause by clause.
-/
open Sys2Proof Sys2Proof.Machine

namespace Sys2Proof.Tests

-- Each theorem's kernel evaluation in turn: many at once would ask for more threads than the memory limit allows.
set_option Elab.async false

/-! ### Values the spec writes out -/

/-- The nine octets "123456789" (R459). -/
def nine : List Byte := [0x31, 0x32, 0x33, 0x34, 0x35, 0x36, 0x37, 0x38, 0x39]

/-- The check value of a profile over them. -/
def checkOf (code : Nat) : Option Nat := (State.reset.hub.profile code).map (fun p => p.value nine)

/-- R459: the column of check values. -/
theorem test_check_values : [1, 2, 3, 4, 5, 6, 7].map checkOf
    = [some 0xCBF43926, some 0xE3069283, some 0x29B1, some 0x2189, some 0x4B37, some 0xF4, some 0xDF] := by decide +kernel

/-- R461: CRC-32 over the nine octets leaves the running value 0x9B63_D02C. -/
theorem test_running_value : (State.reset.hub.profile 1).map (fun p => p.run p.init nine) = some 0x9B63D02C := by decide +kernel

/-- R81 and the example after it: a sleep of 19,660,800 RTC ticks is 240,000,000,000 ticks of the LTC and adds 30.5 µs + 30 ms of uncertainty. -/
theorem test_sleep : sleepTicks 19660800 = 240000000000 ∧ sleepNs 240000000000 = 30500 + 30000000 := by decide

/-- R129: node 12's base is 0x1800_0000_0000. -/
theorem test_node_base : addrNode 0x180000000000 = 12 ∧ addrLocal 0x180000000000 = 0 := by decide

/-- The codes of SWAP_COLLISION and HUB_FAULT that chapter 14 writes out. -/
theorem test_notice_codes : N.swapCollision = 0x0B07 ∧ N.hubFault = 0x0004 := by decide

/-- R200: the forwarding table is 0x1710:01. -/
theorem test_key : Obj.forwardingTable = 0x1710 * 256 + 1 := by decide

/-- No row of the table has bits. -/
theorem test_decode : decodeTableWord 32 0x12345678 = none := by decide

/-- A read request on the wire. -/
def wireFrame : RingFrame :=
  { dst := 5, src := 2, cls := 2, path := 1, hops := 3, type := tRd, epoch := 2, stamp := true, seq := 0x1234, tag := 0x5678, payload := [1, 2, 3, 4] }

/-- R89: the fields in their bits, written out by hand. -/
theorem test_header : wireFrame.header = [0x0A, 0x09, 0x20, 0xD0, 0xA0, 4, 0x12, 0x34, 0x56, 0x78, 0, 0, 0, 0, 0, 0] := by decide +kernel

/-- R92: CRC-32C over those octets and the payload, worked out apart from the model. -/
theorem test_trailer : wireFrame.trailerOf = 0x7483340E := by decide +kernel

/-- R88: a Start block, two Data blocks of header octets, the payload and trailer as a Data block, a Terminate block and an Idle block. -/
theorem test_blocks : wireFrame.blocks.length = 6 ∧ wireFrame.occupancy = 48 := by decide +kernel

/-! ### Well-formedness: a term that each check refuses -/

/-- A requester and a frame that pass. -/
def goodUser : Requester := { path := .station, unit := 3, ip := 9 }
/-- A ring frame whose fields fit. -/
def goodFrame : RingFrame := { dst := 5, src := 2, cls := 4, type := tData, payload := [1] }

theorem test_wellFormed_requester :
    wellFormed (.who goodUser 65535) = true ∧ wellFormed (.who { path := .ring, unit := 64 } 0) = true ∧ wellFormed (.who { path := .pcie } 0) = true
    ∧ wellFormed (.who { path := .ring, unit := 65 } 0) = false ∧ wellFormed (.who { path := .ring, unit := 0 } 0) = false
    ∧ wellFormed (.who { path := .ring, unit := 1, ip := 1 } 0) = false ∧ wellFormed (.who { path := .station, unit := 4 } 0) = false
    ∧ wellFormed (.who { path := .station, ip := 2 ^ 32 } 0) = false ∧ wellFormed (.who { path := .pcie, unit := 1 } 0) = false
    ∧ wellFormed (.who { path := .service, ip := 1 } 0) = false ∧ wellFormed (.who goodUser 65536) = false
    ∧ wellFormed (.segSessionTimeout { path := .ring, unit := 0 }) = false := by decide +kernel

theorem test_wellFormed_data :
    wellFormed (.dictWrite goodUser 1 0 0 [1]) = true ∧ wellFormed (.dictWrite goodUser 1 0 0 (List.replicate 4081 0)) = false
    ∧ wellFormed (.segData goodUser 1 0 0 0 false (List.replicate 4081 0)) = false
    ∧ wellFormed (.regWrite goodUser 1 0 (List.replicate 4081 0)) = false
    ∧ wellFormed (.keyWrite goodUser 1 0 (List.replicate 4081 0)) = false := by decide +kernel

theorem test_wellFormed_frame :
    wellFormed (.dataRx true goodFrame) = true
    ∧ (∀ f ∈ [{ goodFrame with dst := 128 }, { goodFrame with src := 128 }, { goodFrame with cls := 8 }, { goodFrame with path := 4 },
        { goodFrame with hops := 128 }, { goodFrame with type := 64 }, { goodFrame with epoch := 4 }, { goodFrame with seq := 65536 },
        { goodFrame with tag := 65536 }, { goodFrame with claim := 2 ^ 32 }, { goodFrame with payload := List.replicate 8192 0 },
        { goodFrame with trailer := 2 ^ 32 }, { goodFrame with frac := 5 }, { goodFrame with stomp := true }, { goodFrame with waited := true },
        { goodFrame with rxAt := 1 }],
      wellFormed (.dataRx true f) = false) := by decide +kernel

theorem test_wellFormed_message :
    wellFormed (.serviceDictRequest { op := 1 }) = true
    ∧ (∀ m ∈ [({ op := 256 } : DictMsg), { op := 1, flags := 256 }, { op := 1, token := 65536 }, { op := 1, index := 65536 }, { op := 1, sub := 256 },
        { op := 1, abort := 65536 }, { op := 1, arg := 2 ^ 32 }, { op := 1, data := List.replicate 4081 0 }],
      wellFormed (.serviceDictRequest m) = false) := by decide +kernel

theorem test_wellFormed_bridge :
    wellFormed (.hostWindowRead .bar2 0 4096 false) = true ∧ wellFormed (.hostWindowRead .bar2 (2 ^ 30) 4 false) = false
    ∧ wellFormed (.hostWindowRead .bar4 (2 ^ 21) 4 false) = false ∧ wellFormed (.hostWindowRead .bar0 0 0 false) = false
    ∧ wellFormed (.hostWindowRead .bar2 0 0 false) = false ∧ wellFormed (.hostWindowRead .bar2 0 4097 false) = false
    ∧ wellFormed (.hostWindowWrite .bar2 (2 ^ 30) [1] .whole) = false ∧ wellFormed (.hostWindowWrite .bar2 0 [] .bytes) = false
    ∧ wellFormed (.hostWindowWrite .bar0 0 [1] .whole) = false ∧ wellFormed (.hostWindowWrite .bar0 0 [1] .poisoned) = true
    ∧ wellFormed (.hostAtomicop .bar2 (2 ^ 30) false .swap 0 0) = false ∧ wellFormed (.hostAtomicop .bar2 0 false .swap (2 ^ 32) 0) = false
    ∧ wellFormed (.hostAtomicop .bar2 0 true .cas (2 ^ 32) (2 ^ 64)) = false ∧ wellFormed (.lockWatchdogExpired (2 ^ 48)) = false := by decide +kernel

theorem test_wellFormed_field :
    wellFormed (.canFrameRx 0 { id := 5, data := [1], dlc := 1 } 0) = true ∧ wellFormed (.canFrameRx 0 { id := 2048, data := [], dlc := 0 } 0) = false
    ∧ wellFormed (.canFrameRx 0 { id := 5, data := List.replicate 9 0, dlc := 9 } 0) = false
    ∧ wellFormed (.tcodeFrameRx 0 { day := 366 }) = true ∧ wellFormed (.tcodeFrameRx 0 { day := 0 }) = false
    ∧ wellFormed (.tcodeFrameRx 0 { day := 367 }) = false ∧ wellFormed (.tcodeFrameRx 0 { secs := 86400 }) = false
    ∧ wellFormed (.tcodeFrameRx 0 { control := 2 ^ 32 }) = false ∧ wellFormed (.seqSample 0 (List.replicate 17 0)) = false
    ∧ wellFormed (.staFrameRx true (List.replicate 13 0) ⟨0, 0⟩ true) = false ∧ wellFormed (.ptpMessageRx true (List.replicate 1523 0) ⟨0, 0⟩) = false
    ∧ wellFormed (.prpSupervisionRx true [] ⟨0, 0⟩) = false := by decide +kernel

theorem test_wellFormed_rest :
    wellFormed (.phcLockAchieved 0 (2 ^ 32)) = false ∧ wellFormed (.phcRealign 0 (2 ^ 32)) = false ∧ wellFormed (.mainsZeroCrossing (2 ^ 32) 0) = false
    ∧ wellFormed (.mainsZeroCrossing 0 (2 ^ 32)) = false ∧ wellFormed (.ringOrphanBlocks true 65536) = false
    ∧ wellFormed (.msixUnmask true false [127]) = true ∧ wellFormed (.msixUnmask true false [128]) = false
    ∧ wellFormed (.scrubPass 0 [(.keeper, 2 ^ 32, 0)] []) = false ∧ wellFormed (.scrubPass 0 [] [(65536, 0)]) = false
    ∧ wellFormed (.pdSourceCapabilitiesRx 0 []) = false ∧ wellFormed (.pdSourceCapabilitiesRx 0 (List.replicate 8 0)) = false := by decide +kernel

/-! ### Witnesses: the hypotheses of the statements can be met -/

namespace Keeper

/-! Small states and operands that the witnesses of this family are built from. -/

/-- The station user of key slot 1. -/
def user : Requester := { path := .station, unit := 1, ip := 5 }

/-- A hub whose keeper is ready; the station user holds the stall and may write. -/
def hub0 : Hub := Hub.setNum { time := { cclk := true }, keeper := { ready := true, holder := some user } } Obj.keyRights 2

/-- A state of that hub, with what a test changes in it. -/
def at0 (f : Hub → Hub) : State := { pending := [.fenceAll .pcie], hub := f hub0 }

/-- The same with objects set. -/
def obj0 (l : List (Nat × Nat)) : State := at0 (fun h => l.foldl (fun h p => h.setNum p.1 p.2) h)

/-- The same with functions in a life-cycle state. -/
def fun0 (l : List (Nat × FState)) (o : List (Nat × Nat)) : State :=
  at0 (fun h => o.foldl (fun h p => h.setNum p.1 p.2) (l.foldl (fun h p => h.setFunc p.1 p.2) h))

/-- The same on the power path: its state, feeds and objects. -/
def pow0 (pp : Nat) (p : Power) (o : List (Nat × Nat)) : State :=
  at0 (fun h => o.foldl (fun h p => h.setNum p.1 p.2) ({ h with power := p }.setNum Obj.ppState pp))

/-- A sample of the power path in the middle of its ranges. -/
def sample0 : PowerSample := { vout := 23000, common := 24000, gateSource := 3000 }

/-- A session of the station user. -/
def ses0 (write : Bool) : Session := { by_ := user, write := write, idx := 0x1710, sub := 1, total := 8, got := 4, data := [1, 2, 3, 4, 5, 6, 7, 8] }

/-- A session that writes an object of GOOSE publish block 0, at its last segment. -/
def lst0 : Session := { by_ := user, write := true, idx := 0x2900, sub := 12, total := 8, got := 4, data := [0, 0, 0, 0] }

/-- A session that loads an update image, at its last segment. -/
def stg0 : Session := { by_ := user, write := true, idx := 0x3402, sub := 1, total := 6, got := 4 }

/-- The hypotheses of each clause of ReadsAnswerTheValue can be met. -/
theorem witness_ReadsAnswerTheValue :
  (∃ s : State, ∃ r : Requester, ∃ token : Nat, ∃ index : BitVec 16, ∃ sub : BitVec 8, (s.hub.serves r { op := opRead, token := token, index := index.toNat, sub := sub.toNat } = true ∧ s.hub.mayRead r = true ∧ s.hub.indexCheck index.toNat sub.toNat = 0) ∧ ∃ d, s.hub.descOf index.toNat sub.toNat = some d ∧ accessOf index.toNat sub.toNat d ≠ .wo ∧ (¬ (d.ty.isDomain = true ∧ pathMax r.path < (s.hub.readValue index.toNat sub.toNat d).1.length)))
  ∧ (∃ s : State, ∃ r : Requester, ∃ token : Nat, s.hub.serves r { op := opRead, token := token, index := Obj.ledgerRange / 256, sub := Obj.ledgerRange % 256 } = true ∧ s.hub.mayRead r = true ∧ s.hub.ledgerRead.1.length ≤ pathMax r.path)
  ∧ (∃ s : State, ∃ r : Requester, ∃ token : Nat, s.hub.serves r { op := opWho, token := token } = true ∧ s.hub.mayRead r = true)
  ∧ (∃ s : State, ∃ r : Requester, ∃ token : Nat, ∃ offset : BitVec 32, s.hub.serves r { op := opRegRead, token := token, arg := offset.toNat } = true ∧ (r.path = .station ∨ r.path = .service) ∧ qportAt offset.toNat = none ∧ regSize offset.toNat = 4 ∧ offset.toNat % 4 = 0) :=
  ⟨⟨at0 id, user, 7, 0x1100, 1, by decide +kernel, hub0.descAt 0x1100 1, by decide +kernel⟩,
   ⟨at0 id, user, 7, by decide +kernel⟩,
   ⟨at0 id, user, 7, by decide +kernel⟩,
   ⟨at0 id, user, 7, 0, by decide +kernel⟩⟩

/-- The hypotheses of each clause of WritesNeedTheStallAndWaitForTheirBoundary can be met. -/
theorem witness_WritesNeedTheStallAndWaitForTheirBoundary :
  (∃ s : State, ∃ r : Requester, ∃ token : Nat, ∃ index : BitVec 16, ∃ sub : BitVec 8, ∃ data : List Byte, ∃ (m : DictMsg), m = { op := opWrite, token := token, index := index.toNat, sub := sub.toNat, data := data } ∧ (s.hub.canWrite r m = true ∧ s.hub.indexCheck index.toNat sub.toNat = 0) ∧ ∃ d, s.hub.descOf index.toNat sub.toNat = some d ∧ accessOf index.toNat sub.toNat d = d.acc ∧ (d.acc = .rw ∨ d.acc = .rwb) ∧ (¬ (d.ty.isDomain = true ∧ pathMax r.path < data.length)) ∧ s.hub.writeCheck false index.toNat sub.toNat d data = 0)
  ∧ (∃ s : State, ∃ r : Requester, ∃ token : Nat, ∃ index : BitVec 16, ∃ sub : BitVec 8, ∃ data : List Byte, ∃ (m : DictMsg), m = { op := opWrite, token := token, index := index.toNat, sub := sub.toNat, data := data } ∧ (s.hub.serves r m = true ∧ s.hub.mayWrite r = true ∧ s.hub.holdsStall r = false ∧ s.hub.indexCheck index.toNat sub.toNat = 0) ∧ ∃ d, s.hub.descOf index.toNat sub.toNat = some d ∧ accessOf index.toNat sub.toNat d ≠ .const ∧ accessOf index.toNat sub.toNat d ≠ .ro)
  ∧ (∃ s : State, ∃ r : Requester, ∃ token : Nat, ∃ offset : BitVec 32, ∃ data : List Byte, ∃ (m : DictMsg), m = { op := opRegWrite, token := token, arg := offset.toNat, data := data } ∧ s.hub.canWrite r m = true ∧ (r.path = .station ∨ r.path = .service) ∧ writable offset.toNat = true ∧ offset.toNat % 4 = 0 ∧ regSize offset.toNat = 4 ∧ qportAt offset.toNat = none ∧ data.length = 4)
  ∧ (∃ s : State, ∃ r : Requester, ∃ token : Nat, ∃ index : BitVec 16, ∃ sub : BitVec 8, ∃ data : List Byte, ∃ (m : DictMsg), m = { op := opWrite, token := token, index := index.toNat, sub := sub.toNat, data := data } ∧ (s.hub.canWrite r m = true ∧ s.hub.readsLocked m = false ∧ index.toNat * 256 + sub.toNat ≠ Obj.updateRestart ∧ s.hub.indexCheck index.toNat sub.toNat = 0) ∧ ∃ d, s.hub.descOf index.toNat sub.toNat = some d ∧ accessOf index.toNat sub.toNat d = d.acc ∧ d.acc = .wo ∧ (¬ (d.ty.isDomain = true ∧ pathMax r.path < data.length)) ∧ (s.hub.woWrite index.toNat sub.toNat d data).1 = 0)
  ∧ (∃ s : State, ∃ index : BitVec 16, ∃ sub : BitVec 8, ∃ v : Val, ∃ (key : Nat), key = s.hub.keyOf index.toNat sub.toNat ∧ s.hub.rwb.filter (fun p => p.1 == key) = [(key, v)]) :=
  ⟨⟨at0 id, user, 7, 0x1100, 0x02, [3], _, rfl, by decide +kernel, hub0.descAt 0x1100 0x02, by decide +kernel⟩,
   ⟨at0 (fun h => { h with keeper := { h.keeper with holder := none } }), user, 7, 0x1100, 0x02, [3], _, rfl, by decide +kernel, hub0.descAt 0x1100 0x02, by decide +kernel⟩,
   ⟨at0 id, user, 7, 0x10, [1, 0, 0, 0], _, rfl, by decide +kernel⟩,
   ⟨at0 id, user, 7, BitVec.ofNat 16 (Obj.rejoin / 256), BitVec.ofNat 8 Obj.rejoin, [1], _, rfl, by decide +kernel, hub0.descAt (Obj.rejoin / 256) (Obj.rejoin % 256), by decide +kernel⟩,
   ⟨at0 (fun h => { h with rwb := [(Obj.ctThresh 3, .num 9)] }), BitVec.ofNat 16 (Obj.ctThresh 3 / 256), BitVec.ofNat 8 (Obj.ctThresh 3), .num 9, _, rfl, by decide +kernel⟩⟩

/-- The hypotheses of each clause of SegmentedTransfersKeepTheirSession can be met. -/
theorem witness_SegmentedTransfersKeepTheirSession :
  (∃ s : State, ∃ r : Requester, ∃ token : Nat, ∃ index : BitVec 16, ∃ sub : BitVec 8, ∃ total : BitVec 32, ∃ (m : DictMsg), m = { op := opSegStart, token := token, index := index.toNat, sub := sub.toNat, arg := total.toNat } ∧ (s.hub.canWrite r m = true ∧ s.hub.indexCheck index.toNat sub.toNat = 0) ∧ ∃ d, s.hub.descOf index.toNat sub.toNat = some d ∧ (accessOf index.toNat sub.toNat d ≠ .const ∧ accessOf index.toNat sub.toNat d ≠ .ro ∧ d.ty.isDomain = true ∧ total.toNat ≤ d.ty.maxLen ∧ (index = 0x3402 → s.hub.num Obj.stagingState ≠ stgArmed) ∧ (index.toNat * 256 + sub.toNat = Obj.forwardingTable → s.hub.drainCount = 0)) ∧ let g := s.hub.when (s.hub.session r).isSome (fun h => (h.closeSession r).count Obj.segAborts); g.keeper.sessions.length < 8)
  ∧ (∃ s : State, ∃ r : Requester, ∃ token : Nat, ∃ index : BitVec 16, ∃ sub : BitVec 8, ∃ total : BitVec 32, ∃ (m : DictMsg), m = { op := opSegStart, flags := 2, token := token, index := index.toNat, sub := sub.toNat, arg := total.toNat } ∧ (s.hub.serves r m = true ∧ s.hub.mayRead r = true ∧ s.hub.indexCheck index.toNat sub.toNat = 0) ∧ ∃ d, s.hub.descOf index.toNat sub.toNat = some d ∧ (accessOf index.toNat sub.toNat d ≠ .wo ∧ d.ty.isDomain = true) ∧ let v := s.hub.readValue index.toNat sub.toNat d; let g := v.2.when (v.2.session r).isSome (fun h => (h.closeSession r).count Obj.segAborts); g.keeper.sessions.length < 8)
  ∧ (∃ s : State, ∃ r : Requester, ∃ token : Nat, ∃ index : BitVec 16, ∃ sub : BitVec 8, ∃ offset : BitVec 32, ∃ data : List Byte, ∃ (m : DictMsg), m = { op := opSegData, token := token, index := index.toNat, sub := sub.toNat, arg := offset.toNat, data := data } ∧ (s.hub.canWrite r m = true) ∧ ∃ x, s.hub.session r = some x ∧ x.write = true ∧ x.staging = false ∧ offset.toNat = x.got ∧ x.got + data.length ≤ x.total)
  ∧ (∃ s : State, ∃ r : Requester, ∃ token : Nat, ∃ index : BitVec 16, ∃ sub : BitVec 8, ∃ offset : BitVec 32, ∃ data : List Byte, ∃ (m : DictMsg), m = { op := opSegData, flags := 1, token := token, index := index.toNat, sub := sub.toNat, arg := offset.toNat, data := data } ∧ (s.hub.canWrite r m = true) ∧ ∃ x, s.hub.session r = some x ∧ (x.write = true ∧ x.staging = false ∧ offset.toNat = x.got ∧ x.got + data.length = x.total) ∧ let w := (s.hub.closeSession r).writeObject false x.idx x.sub (s.hub.descAt x.idx x.sub) (x.data ++ data); w.1 = 0)
  ∧ (∃ s : State, ∃ r : Requester, ∃ token : Nat, ∃ index : BitVec 16, ∃ sub : BitVec 8, ∃ offset : BitVec 32, ∃ data : List Byte, ∃ last : Bool, ∃ (m : DictMsg), m = { op := opSegData, flags := b2n last, token := token, index := index.toNat, sub := sub.toNat, arg := offset.toNat, data := data } ∧ (s.hub.canWrite r m = true) ∧ ∃ x, s.hub.session r = some x ∧ x.staging = true ∧ offset.toNat + data.length ≤ imageSize ∧ x.got + data.length ≤ x.total ∧ (last = true → x.got + data.length = x.total) ∧ s.hub.num Obj.stagingState ≠ stgArmed ∧ s.hub.store.bad = false)
  ∧ (∃ s : State, ∃ r : Requester, ∃ token : Nat, ∃ index : BitVec 16, ∃ sub : BitVec 8, ∃ offset : BitVec 32, ∃ (m : DictMsg), m = { op := opSegData, token := token, index := index.toNat, sub := sub.toNat, arg := offset.toNat } ∧ (s.hub.serves r m = true ∧ s.hub.mayRead r = true) ∧ ∃ x, s.hub.session r = some x ∧ x.write = false ∧ offset.toNat < x.total)
  ∧ (∃ s : State, ∃ r : Requester, ∃ token : Nat, ∃ index : BitVec 16, ∃ sub : BitVec 8, ∃ (m : DictMsg), m = { op := opSegAbort, token := token, index := index.toNat, sub := sub.toNat } ∧ s.hub.serves r m = true ∧ s.hub.mayRead r = true) :=
  ⟨⟨at0 id, user, 7, 0x2400, 3, 8, _, rfl, by decide +kernel, hub0.descAt 0x2400 3, by decide +kernel⟩,
   ⟨at0 id, user, 7, 0x1710, 1, 0, _, rfl, by decide +kernel, hub0.descAt 0x1710 1, by decide +kernel⟩,
   ⟨at0 (fun h => { h with keeper := { h.keeper with sessions := [ses0 true] } }), user, 7, 0x1710, 1, 4, [1, 2], _, rfl, by decide +kernel, ses0 true, by decide +kernel⟩,
   ⟨at0 (fun h => { h with keeper := { h.keeper with sessions := [lst0] } }), user, 7, 0x2900, 12, 4, [0, 0, 0, 0], _, rfl, by decide +kernel, lst0, by decide +kernel⟩,
   ⟨at0 (fun h => { h with keeper := { h.keeper with sessions := [stg0] } }.setNum Obj.stagingState 1), user, 7, 0x3402, 1, 4, [1, 2], true, _, rfl, by decide +kernel, stg0, by decide +kernel⟩,
   ⟨at0 (fun h => { h with keeper := { h.keeper with sessions := [ses0 false] } }), user, 7, 0x1710, 1, 4, _, rfl, by decide +kernel, ses0 false, by decide +kernel⟩,
   ⟨at0 id, user, 7, 0x1710, 1, _, rfl, by decide +kernel⟩⟩

/-- The hypotheses of each clause of StallRequestsMoveTheStall can be met. -/
theorem witness_StallRequestsMoveTheStall :
  (∃ s : State, ∃ r : Requester, ∃ token : Nat, s.hub.serves r { op := opStallRequest, token := token } = true ∧ s.hub.mayWrite r = true ∧ s.hub.weight r.path ≠ 0 ∧ (s.hub.num Obj.stallState = 0 ∨ s.hub.num Obj.stallState = 1))
  ∧ (∃ s : State, ∃ r : Requester, ∃ token : Nat, s.hub.serves r { op := opStallRequest, token := token } = true ∧ s.hub.mayWrite r = true ∧ s.hub.weight r.path ≠ 0 ∧ s.hub.num Obj.stallState = 3 ∧ s.hub.num Obj.reservedFor = identityOf r)
  ∧ (∃ s : State, ∃ r : Requester, ∃ token : Nat, s.hub.canWrite r { op := opKeepalive, token := token } = true)
  ∧ (∃ s : State, ∃ r : Requester, ∃ token : Nat, s.hub.canWrite r { op := opStallRelease, token := token } = true)
  ∧ (∃ s : State, ∃ r : Requester, ∃ token : Nat, ∃ target : BitVec 32, s.hub.canWrite r { op := opStallHandover, token := token, arg := target.toNat } = true ∧ s.hub.targetCheck target.toNat = 0) :=
  ⟨⟨at0 (fun h => { h with keeper := { h.keeper with holder := none } }), user, 7, by decide +kernel⟩,
   ⟨obj0 [(Obj.stallState, 3), (Obj.reservedFor, identityOf user)], user, 7, by decide +kernel⟩,
   ⟨at0 id, user, 7, by decide +kernel⟩,
   ⟨at0 id, user, 7, by decide +kernel⟩,
   ⟨at0 id, user, 7, 0x01000000, by decide +kernel⟩⟩

/-- The hypotheses of each clause of StallTimersGrantAndVacate can be met. -/
theorem witness_StallTimersGrantAndVacate :
  (∃ s : State, ∃ (w : Requester), s.hub.elect s.hub.candidates = some w ∧ s.hub.num Obj.stallState = 1)
  ∧ (∃ s : State, s.hub.num Obj.stallState = 1 ∧ s.hub.elect s.hub.candidates = none)
  ∧ (∃ s : State, ∃ (r : Requester), s.hub.keeper.holder = some r ∧ s.hub.renewedNow = false)
  ∧ (∃ s : State, s.hub.num Obj.stallState = 3) :=
  ⟨⟨at0 (fun h => { h with keeper := { h.keeper with election := [{ by_ := user, msg := { op := opStallRequest } }] } }.setNum Obj.stallState 1), user, by decide +kernel⟩,
   ⟨obj0 [(Obj.stallState, 1)], by decide +kernel⟩,
   ⟨at0 id, user, by decide +kernel⟩,
   ⟨obj0 [(Obj.stallState, 3)], by decide +kernel⟩⟩

/-- The hypotheses of each clause of FunctionsStartAndDrain can be met. -/
theorem witness_FunctionsStartAndDrain :
  (∃ s : State, ∃ fid : BitVec 16, ∃ bank : BankClass, ∃ (f : Fn), fnOf fid.toNat = some f ∧ (s.hub.func fid.toNat).life = .starting ∧ (∀ c, f = .channel c → s.hub.isOn (fidCluster (c / 16)) = true ∧ s.hub.num (Obj.bankVoltage (c / 16)) ≠ 0) ∧ ((∃ n, f = .can n) ∨ (∃ q, f = .seq q) → s.hub.startWaits f = false ∧ s.hub.fnCheck f = 0))
  ∧ (∃ s : State, ∃ fid : BitVec 16, ∃ (f : Fn), fnOf fid.toNat = some f ∧ ∃ c ∈ [Instr.functionDrainComplete fid, .drainLimitExpired fid], s.hub.func fid.toNat = { life := .stopping, fault := (s.hub.func fid.toNat).fault }) :=
  ⟨⟨fun0 [(0x501, { life := .starting })] [], 0x0501, .v33, _, rfl, by decide +kernel, (by intro c h; cases h), (by rintro (⟨n, h⟩ | ⟨n, h⟩) <;> cases h)⟩,
   ⟨fun0 [(0x501, { life := .stopping })] [], 0x0501, _, rfl, _, List.mem_of_getElem? (i := 0) rfl, by decide +kernel⟩⟩

/-- The hypotheses of each clause of FunctionResetStopsTheFunction can be met. -/
theorem witness_FunctionResetStopsTheFunction :
  (∃ s : State, ∃ path : RegPath, ∃ fid : BitVec 16, ∃ (f : Fn), fnOf fid.toNat = some f ∧ (∀ k, f ≠ .cluster k) ∧ resettable fid.toNat = true ∧ s.hub.flag Obj.hubFault = false ∧ s.hub.resetMerges fid.toNat = false ∧ s.hub.isOff fid.toNat = false)
  ∧ (∃ s : State, ∃ path : RegPath, ∃ k : Nat, k < 12 ∧ s.hub.flag Obj.hubFault = false ∧ s.hub.resetMerges (fidCluster k) = false ∧ s.hub.isOff (fidCluster k) = false)
  ∧ (∃ s : State, ∃ path : RegPath, ∃ fid : BitVec 16, ∃ (f : Fn), fnOf fid.toNat = some f ∧ (∀ k, f ≠ .cluster k) ∧ resettable fid.toNat = true ∧ s.hub.flag Obj.hubFault = false ∧ s.hub.resetMerges fid.toNat = false ∧ s.hub.isOff fid.toNat = true ∧ (s.hub.restoreConfig fid.toNat).enabled f = false)
  ∧ (∃ s : State, ∃ path : RegPath, ∃ fid : BitVec 16, resettable fid.toNat = true ∧ s.hub.flag Obj.hubFault = false ∧ s.hub.resetMerges fid.toNat = true)
  ∧ (∃ s : State, ∃ fid : BitVec 16, ∃ (f : Fn), fnOf fid.toNat = some f ∧ (∀ k, f ≠ .cluster k) ∧ (s.hub.func fid.toNat).life = .stopping ∧ (s.hub.func fid.toNat).inReset = true ∧ (s.hub.func fid.toNat).pendingEn = false)
  ∧ (∃ s : State, ∃ fid : BitVec 16, ∃ (f : Fn), fnOf fid.toNat = some f ∧ (∀ k, f ≠ .cluster k) ∧ (s.hub.func fid.toNat).life = .stopping ∧ (s.hub.func fid.toNat).inReset = true ∧ (s.hub.func fid.toNat).pendingEn = true)
  ∧ (∃ s : State, ∃ k : Nat, k < 12 ∧ (s.hub.func (fidCluster k)).life = .stopping ∧ (s.hub.func (fidCluster k)).inReset = true) :=
  ⟨⟨fun0 [(0x501, { life := .on })] [], .pcie, 0x0501, _, rfl, (by intro k h; cases h), by decide +kernel⟩,
   ⟨fun0 [(fidCluster 3, { life := .on })] [], .pcie, 3, by decide +kernel⟩,
   ⟨at0 id, .pcie, 0x0501, _, rfl, (by intro k h; cases h), by decide +kernel⟩,
   ⟨fun0 [(0x501, { life := .stopping, inReset := true })] [], .pcie, 0x0501, by decide +kernel⟩,
   ⟨fun0 [(0x501, { life := .stopping, inReset := true })] [], 0x0501, _, rfl, (by intro k h; cases h), by decide +kernel⟩,
   ⟨fun0 [(0x501, { life := .stopping, inReset := true, pendingEn := true })] [], 0x0501, _, rfl, (by intro k h; cases h), by decide +kernel⟩,
   ⟨fun0 [(fidCluster 3, { life := .stopping, inReset := true })] [], 3, by decide +kernel⟩⟩

/-- The hypotheses of each clause of ResetsOfOtherIdsAreIgnored can be met. -/
theorem witness_ResetsOfOtherIdsAreIgnored :
  (∃ s : State, ∃ path : RegPath, ∃ fid : BitVec 16, (resettable fid.toNat = false ∨ s.hub.flag Obj.hubFault = true))
  ∧ (∃ s : State, ∃ r : Requester, ∃ token : Nat, ∃ fid : BitVec 16, s.hub.canWrite r (writeMsg token Obj.freset (leBytes 2 fid.toNat)) = true ∧ (resettable fid.toNat = false ∨ s.hub.flag Obj.hubFault = true)) :=
  ⟨⟨at0 id, .pcie, 0, by decide +kernel⟩,
   ⟨at0 id, user, 7, 0, by decide +kernel⟩⟩

/-- The hypotheses of each clause of FeedsFollowTheirVoltage can be met. -/
theorem witness_FeedsFollowTheirVoltage :
  (∃ s : State, ∃ b : Bool, ∃ m : PowerSample, let h := s.hub.round m; (if b then h.power.validB else h.power.validA) = false)
  ∧ (∃ s : State, ∃ b : Bool, ∃ m : PowerSample, let h := s.hub.round m; ∃ c ∈ [Instr.feedUndervoltage b m, .feedOvervoltage b m], (if b then h.power.validB else h.power.validA) = true)
  ∧ (∃ s : State, ∃ m : PowerSample, let h := s.hub.round m; (h.power.dead = 1 ∧ h.power.validA = true ∨ h.power.dead = 2 ∧ h.power.validB = true ∧ h.power.validA = false)) :=
  ⟨⟨at0 id, true, sample0, by decide +kernel⟩,
   ⟨pow0 ppOn { validB := true } [], true, sample0, _, List.mem_of_getElem? (i := 0) rfl, by decide +kernel⟩,
   ⟨pow0 ppOn { validA := true, dead := 1 } [], sample0, by decide +kernel⟩⟩

/-- The hypotheses of each clause of HotSwapPathMovesAsItsTable can be met. -/
theorem witness_HotSwapPathMovesAsItsTable :
  (∃ s : State, ∃ m : PowerSample, let h := s.hub.round m; h.pp = ppWaitSeat)
  ∧ (∃ s : State, ∃ m : PowerSample, let h := s.hub.round m; h.pp = ppRamp)
  ∧ (∃ s : State, ∃ m : PowerSample, let h := s.hub.round m; h.pp ∈ [ppRamp, ppOn, ppCool, ppLatched])
  ∧ (∃ s : State, ∃ m : PowerSample, let h := s.hub.round m; h.pp = ppCool)
  ∧ (∃ s : State, s.hub.pp = ppOn ∧ s.hub.flag Obj.pg = true) :=
  ⟨⟨pow0 ppWaitSeat {} [], sample0, by decide +kernel⟩,
   ⟨pow0 ppRamp {} [], sample0, by decide +kernel⟩,
   ⟨pow0 ppCool {} [], sample0, by decide +kernel⟩,
   ⟨pow0 ppCool {} [(Obj.retriesLeft, 1)], sample0, by decide +kernel⟩,
   ⟨pow0 ppOn {} [(Obj.pg, 1)], by decide +kernel⟩⟩

/-- The hypotheses of each clause of TripsAndChecksTurnTheGateOff can be met. -/
theorem witness_TripsAndChecksTurnTheGateOff :
  (∃ s : State, ∃ m : PowerSample, let h := s.hub.round m; (h.gateHs = true) ∧ ∃ p ∈ [((1 : Nat), Instr.faultTimerExpired m), (2, Instr.breakerTrip m), (3, Instr.fastComparatorTrip m), (4, Instr.fetTemperatureTrip m)], (p.1 = 1 → h.power.timerLimit * 100 ≤ m.timer.toNat) ∧ (p.1 = 2 → h.pset Obj.breakerEnable ≠ 0) ∧ (p.1 = 4 → h.pset Obj.fetNtcTrip ≠ 0))
  ∧ (∃ s : State, ∃ m : PowerSample, let h := s.hub.round m; h.gateHs = false)
  ∧ (∃ s : State, ∃ m : PowerSample, let h := s.hub.round m; h.gateHs = true ∧ h.flag Obj.pg = false ∧ m.timer = 0 ∧ (h.pset Obj.pgThreshold : Int) ≤ m.vout.toInt)
  ∧ (∃ s : State, ∃ m : PowerSample, let h := s.hub.round m; h.flag Obj.pg = true)
  ∧ (∃ s : State, ∃ m : PowerSample, let h := s.hub.round m; ∃ p ∈ [((1 : Nat), Instr.gateCheck m), (2, Instr.outputCheckFail m)], (p.1 = 1 → h.pp = ppOn ∧ h.pset Obj.gateCheckEnable ≠ 0 ∧ m.gateSource.toInt < 4000) ∧ (p.1 = 2 → h.gateHs = false ∧ h.pset Obj.outputCheckEnable ≠ 0)) :=
  ⟨⟨pow0 ppOn {} [], sample0, by decide +kernel, _, List.mem_of_getElem? (i := 2) rfl, by decide +kernel⟩,
   ⟨pow0 ppCool {} [], sample0, by decide +kernel⟩,
   ⟨pow0 ppOn {} [(Obj.pgThreshold, 20000)], sample0, by decide +kernel⟩,
   ⟨pow0 ppOn {} [(Obj.pg, 1)], sample0, by decide +kernel⟩,
   ⟨pow0 ppOn {} [(Obj.gateCheckEnable, 1)], sample0, _, List.mem_of_getElem? (i := 0) rfl, by decide +kernel⟩⟩

/-- The hypotheses of each clause of SentinelLosesItsStateAndFetchesItsEvents can be met. -/
theorem witness_SentinelLosesItsStateAndFetchesItsEvents :
  ∃ s : State, s.hub.keeper.ready = true :=
  ⟨at0 id, by decide +kernel⟩

/-- The hypotheses of each clause of HubWritesOfTrueTakeEffect can be met. -/
theorem witness_HubWritesOfTrueTakeEffect :
  (∃ s : State, ∃ r : Requester, ∃ token : Nat, ∃ fid : BitVec 16, s.hub.canWrite r (writeMsg token Obj.freset (leBytes 2 fid.toNat)) = true ∧ resettable fid.toNat = true ∧ s.hub.flag Obj.hubFault = false)
  ∧ (∃ s : State, ∃ r : Requester, ∃ token : Nat, ∃ index : BitVec 16, ∃ sub : BitVec 8, ∃ (b : Block), clearBlock index.toNat sub.toNat = some b ∧ s.hub.canWrite r (writeMsg token (index.toNat * 256 + sub.toNat) [1]) = true ∧ (s.hub.descOf index.toNat sub.toNat).map (fun d => (d.acc, d.ty)) = some (.wo, .bool) ∧ accessOf index.toNat sub.toNat (s.hub.descAt index.toNat sub.toNat) = .wo)
  ∧ (∃ s : State, ∃ r : Requester, ∃ token : Nat, s.hub.canWrite r (writeMsg token Obj.disarmAll [1]) = true)
  ∧ (∃ s : State, ∃ r : Requester, ∃ token : Nat, s.hub.canWrite r (writeMsg token Obj.rejoin [1]) = true)
  ∧ (∃ s : State, ∃ r : Requester, ∃ token : Nat, s.hub.canWrite r (writeMsg token Obj.clearFaultLog [1]) = true)
  ∧ (∃ s : State, ∃ r : Requester, ∃ token : Nat, s.hub.canWrite r (writeMsg token Obj.commit [1]) = true ∧ s.hub.drainCount = 0 ∧ s.hub.commitCheck = 0)
  ∧ (∃ s : State, ∃ r : Requester, ∃ token : Nat, s.hub.canWrite r (writeMsg token Obj.discard [1]) = true)
  ∧ (∃ s : State, ∃ r : Requester, ∃ token : Nat, ∃ q : Fin 64, s.hub.canWrite r (writeMsg token (Obj.flush q.val) [1]) = true ∧ s.hub.isOn (fidQueue q.val) = true)
  ∧ (∃ s : State, ∃ r : Requester, ∃ token : Nat, ∃ c : Fin 192, s.hub.canWrite r (writeMsg token ((0x2000 + c.val) * 256 + 0x23) [1]) = true ∧ s.hub.num (Obj.chMode c.val) = modePulse)
  ∧ (∃ s : State, ∃ r : Requester, ∃ token : Nat, ∃ c : Fin 192, s.hub.canWrite r (writeMsg token (Obj.lsRearm c.val) [1]) = true ∧ (s.hub.chan c.val).driverOff = true)
  ∧ (∃ s : State, ∃ r : Requester, ∃ token : Nat, ∃ from_ : BitVec 32, s.hub.canWrite r (writeMsg token Obj.exportFrom (leBytes 4 from_.toNat)) = true ∧ s.hub.num Obj.exportRoute ≠ 0xFFFF)
  ∧ (∃ s : State, ∃ r : Requester, ∃ token : Nat, s.hub.canWrite r (writeMsg token Obj.clearLedger [1]) = true)
  ∧ (∃ s : State, ∃ r : Requester, ∃ token : Nat, ∃ n : Fin 48, s.hub.canWrite r (writeMsg token (Obj.busOffRestart n.val) [1]) = true ∧ s.hub.isOn (fidCan n.val) = true ∧ s.hub.num (Obj.busState n.val) = canOff ∧ s.hub.num (Obj.busOffRecovery n.val) = 1)
  ∧ (∃ s : State, ∃ r : Requester, ∃ token : Nat, ∃ n : Fin 48, s.hub.canWrite r (writeMsg token (Obj.matrixStop n.val) [1]) = true) :=
  ⟨⟨fun0 [(0x501, { life := .on })] [], user, 7, 0x0501, by decide +kernel⟩,
   ⟨obj0 [(Obj.retries, 5)], user, 7, 0x3103, 0x0E, (clearBlock 0x3103 0x0E).getD { base := 0, count := 0, subs := [] }, by decide +kernel⟩,
   ⟨at0 id, user, 7, by decide +kernel⟩,
   ⟨at0 id, user, 7, by decide +kernel⟩,
   ⟨at0 id, user, 7, by decide +kernel⟩,
   ⟨at0 id, user, 7, by decide +kernel⟩,
   ⟨at0 id, user, 7, by decide +kernel⟩,
   ⟨fun0 [(fidQueue 5, { life := .on })] [], user, 7, 5, by decide +kernel⟩,
   ⟨obj0 [(Obj.chMode 7, modePulse), (Obj.pulseCount 7, 99)], user, 7, 7, by decide +kernel⟩,
   ⟨at0 (fun h => (h.setNum (Obj.chMode 7) modeBout).setChan 7 { driverOff := true }), user, 7, 7, by decide +kernel⟩,
   ⟨obj0 [(Obj.exportRoute, 3)], user, 7, 3, by decide +kernel⟩,
   ⟨at0 id, user, 7, by decide +kernel⟩,
   ⟨fun0 [(fidCan 3, { life := .on })] [(Obj.busState 3, canOff), (Obj.busOffRecovery 3, 1)], user, 7, 3, by decide +kernel⟩,
   ⟨at0 id, user, 7, 3, by decide +kernel⟩⟩

/-- The hypotheses of each clause of KeeperWritesOfTrueTakeEffect can be met. -/
theorem witness_KeeperWritesOfTrueTakeEffect :
  (∃ s : State, ∃ r : Requester, ∃ token : Nat, s.hub.canWrite r (writeMsg token Obj.dupSwap [1]) = true ∧ s.hub.num Obj.role = roleActive ∧ s.hub.num Obj.swapState = swapIdle ∧ s.hub.duplex.digestDiffers = false)
  ∧ (∃ s : State, ∃ r : Requester, ∃ token : Nat, s.hub.canWrite r (writeMsg token Obj.dupRejoin [1]) = true ∧ s.hub.num Obj.role = roleOut)
  ∧ (∃ s : State, ∃ r : Requester, ∃ token : Nat, s.hub.canWrite r (writeMsg token Obj.dupClaimClear [1]) = true ∧ s.hub.isOff fidDuplex = true)
  ∧ (∃ s : State, ∃ r : Requester, ∃ token : Nat, ∃ group : BitVec 8, s.hub.canWrite r (writeMsg token Obj.claimReset [group]) = true ∧ 1 ≤ group.toNat ∧ group.toNat ≤ 32 ∧ (SMap.get (fun _ => (0, 0)) s.hub.duplex.raisedAt group.toNat).1 ≠ s.hub.now + 1)
  ∧ (∃ s : State, ∃ r : Requester, ∃ token : Nat, ∃ slot : Fin 4, ∃ key : List Byte, s.hub.canWrite r (writeMsg token (Obj.key slot.val) key) = true ∧ key.length = 32 ∧ s.hub.store.bad = false)
  ∧ (∃ s : State, ∃ r : Requester, ∃ token : Nat, s.hub.canWrite r (writeMsg token Obj.saveConfig [1]) = true ∧ s.hub.store.bad = false)
  ∧ (∃ s : State, ∃ r : Requester, ∃ token : Nat, s.hub.canWrite r (writeMsg token Obj.restoreDefaults [1]) = true ∧ s.hub.store.bad = false)
  ∧ (∃ s : State, ∃ r : Requester, ∃ token : Nat, ∃ e : Fin 3, s.hub.canWrite r (writeMsg token (Obj.scanStop e.val) [1]) = true ∧ (s.hub.scan e.val).run = scanRunning)
  ∧ (∃ s : State, ∃ r : Requester, ∃ token : Nat, s.hub.canWrite r (writeMsg token Obj.faultTest [1]) = true ∧ s.hub.flag Obj.hubFault = false)
  ∧ (∃ s : State, ∃ r : Requester, ∃ token : Nat, s.hub.canWrite r (writeMsg token Obj.faultRecordClear [1]) = true)
  ∧ (∃ s : State, ∃ r : Requester, ∃ token : Nat, s.hub.canWrite r (writeMsg token Obj.fetFaultClear [1]) = true ∧ s.hub.pp = ppFetFault)
  ∧ (∃ s : State, ∃ r : Requester, ∃ token : Nat, ∃ mode : BitVec 8, s.hub.canWrite r (writeMsg token Obj.pwrModeRequest [mode]) = true ∧ mode.toNat < modeRest ∧ s.hub.pwr.entering = none)
  ∧ (∃ s : State, ∃ r : Requester, ∃ token : Nat, ∃ mode : BitVec 8, s.hub.canWrite r (writeMsg token Obj.pwrModeRequest [mode]) = true ∧ (mode.toNat = modeRest ∨ mode.toNat = modeDormant) ∧ s.hub.pwr.entering = none ∧ (∃ id, id < 8 ∧ sourceWorks id mode.toNat = true ∧ (s.hub.num Obj.wakeEnable).testBit id = true) ∧ ((s.hub.num Obj.wakeEnable).testBit 1 = true → s.hub.num Obj.wakeAfter ≠ 0))
  ∧ (∃ s : State, ∃ r : Requester, ∃ token : Nat, ∃ domains : BitVec 16, s.hub.canWrite r (writeMsg token Obj.eavesRelease (leBytes 2 domains.toNat)) = true ∧ domains.toNat < 8192) :=
  ⟨⟨obj0 [(Obj.role, roleActive)], user, 7, by decide +kernel⟩,
   ⟨obj0 [(Obj.role, roleOut)], user, 7, by decide +kernel⟩,
   ⟨at0 id, user, 7, by decide +kernel⟩,
   ⟨obj0 [(Obj.recordedClaim 8, 77)], user, 7, 9, by decide +kernel⟩,
   ⟨at0 id, user, 7, 2, List.replicate 32 7, by decide +kernel⟩,
   ⟨at0 id, user, 7, by decide +kernel⟩,
   ⟨at0 id, user, 7, by decide +kernel⟩,
   ⟨at0 (fun h => h.setScan 1 { run := scanRunning, hasJob := true }), user, 7, 1, by decide +kernel⟩,
   ⟨at0 id, user, 7, by decide +kernel⟩,
   ⟨at0 id, user, 7, by decide +kernel⟩,
   ⟨obj0 [(Obj.ppState, ppFetFault)], user, 7, by decide +kernel⟩,
   ⟨at0 id, user, 7, 1, by decide +kernel⟩,
   ⟨obj0 [(Obj.wakeEnable, 2), (Obj.wakeAfter, 1)], user, 7, BitVec.ofNat 8 modeDormant, by decide +kernel, by decide +kernel, by decide +kernel, ⟨1, by decide +kernel⟩, by decide +kernel⟩,
   ⟨obj0 [(Obj.eavesHeld, 7)], user, 7, 3, by decide +kernel⟩⟩

/-- The hypotheses of each clause of UpdateWritesMoveStagingAndJournal can be met. -/
theorem witness_UpdateWritesMoveStagingAndJournal :
  (∃ s : State, ∃ r : Requester, ∃ token : Nat, ∃ offset : BitVec 32, ∃ length : BitVec 32, s.hub.canWrite r (writeMsg token Obj.windowCommit (leBytes 4 offset.toNat ++ leBytes 4 length.toNat)) = true ∧ s.hub.windowOverlaps = false ∧ s.hub.sramLocked (s.hub.num Obj.windowBase) length.toNat = false ∧ length.toNat ≤ s.hub.num Obj.windowSize ∧ offset.toNat + length.toNat ≤ imageSize ∧ s.hub.num Obj.stagingState ≠ stgArmed ∧ s.hub.store.bad = false)
  ∧ (∃ s : State, ∃ r : Requester, ∃ token : Nat, s.hub.canWrite r (writeMsg token Obj.stagingVerify [1]) = true ∧ s.hub.num Obj.stagingState ∈ [stgLoading, stgLoaded, stgInvalid])
  ∧ (∃ s : State, ∃ r : Requester, ∃ token : Nat, s.hub.canWrite r (writeMsg token Obj.stagingErase [1]) = true ∧ s.hub.num Obj.stagingState ≠ stgArmed ∧ s.hub.store.bad = false)
  ∧ (∃ s : State, ∃ r : Requester, ∃ token : Nat, s.hub.canWrite r (writeMsg token Obj.updateArm [1]) = true ∧ s.hub.num Obj.stagingState = stgVerified ∧ (s.hub.num Obj.journalState = jnlIdle ∨ s.hub.num Obj.journalState = jnlArmed) ∧ s.hub.store.bad = false)
  ∧ (∃ s : State, ∃ r : Requester, ∃ token : Nat, s.hub.canWrite r (writeMsg token Obj.updateDisarm [1]) = true ∧ s.hub.num Obj.stagingState = stgArmed ∧ s.hub.store.bad = false)
  ∧ (∃ s : State, ∃ r : Requester, ∃ token : Nat, s.hub.canWrite r (writeMsg token Obj.updateConfirm [1]) = true ∧ (s.hub.num Obj.journalState = jnlTrial ∨ s.hub.expiresNow = true) ∧ s.hub.store.bad = false)
  ∧ (∃ s : State, ∃ r : Requester, ∃ token : Nat, ∃ part : BitVec 8, s.hub.canWrite r (writeMsg token Obj.fallbackPart [part]) = true ∧ 1 ≤ part.toNat ∧ part.toNat ≤ 5 ∧ (s.hub.num Obj.journalState = jnlIdle ∨ s.hub.num Obj.journalState = jnlTrial) ∧ s.hub.flag Obj.fallbackUsable = true ∧ s.hub.pieceFits part.toNat = true ∧ s.hub.store.bad = false)
  ∧ (∃ s : State, ∃ r : Requester, ∃ token : Nat, ∃ slot : BitVec 8, s.hub.canWrite r (writeMsg token Obj.keyRevoke [slot]) = true ∧ slot.toNat < 4 ∧ (∀ m ∈ s.hub.upd.active.manifests, s.hub.upd.active.nat (m + 3) ≠ slot.toNat) ∧ (∃ i, i < 4 ∧ i ≠ slot.toNat ∧ s.hub.slotOk i = true) ∧ s.hub.store.bad = false)
  ∧ (∃ s : State, ∃ r : Requester, ∃ token : Nat, s.hub.canWrite r (writeMsg token Obj.updateRestart [1]) = true ∧ (s.hub.num Obj.role ≠ roleActive ∨ s.hub.flag Obj.updateForce = true)) :=
  ⟨⟨obj0 [(Obj.windowSize, 64)], user, 7, 0, 16, by decide +kernel⟩,
   ⟨obj0 [(Obj.stagingState, stgLoaded)], user, 7, by decide +kernel⟩,
   ⟨at0 id, user, 7, by decide +kernel⟩,
   ⟨obj0 [(Obj.stagingState, stgVerified)], user, 7, by decide +kernel⟩,
   ⟨obj0 [(Obj.stagingState, stgArmed)], user, 7, by decide +kernel⟩,
   ⟨obj0 [(Obj.journalState, jnlTrial)], user, 7, by decide +kernel⟩,
   ⟨at0 (fun h => { h with upd := { h.upd with active := {}, fallback := {} } }.setNum Obj.fallbackUsable 1), user, 7, 1, by decide +kernel⟩,
   ⟨at0 (fun h => { h with dict := SMap.put (SMap.put h.dict Obj.keySlotsValid (.num 15)) Obj.keySlotsRevoked (.num 0), upd := { h.upd with active := {} } }), user, 7, 2, by decide +kernel, by decide +kernel, by decide +kernel, ⟨1, by decide +kernel⟩, by decide +kernel⟩,
   ⟨at0 id, user, 7, by decide +kernel⟩⟩

/-- The hypotheses of each clause of TheLtcCountsCclk can be met. -/
theorem witness_TheLtcCountsCclk :
  (∃ s : State, ∃ straps : BitVec 11, s.hub.time.cclk = false ∧ s.hub.mode ≠ modeDormant)
  ∧ (∃ s : State, s.pending = [] ∧ s.hub.time.cclk = false)
  ∧ (∃ s : State, s.pending = [] ∧ s.hub.time.cclk = true)
  ∧ (∃ c : Instr, ∃ s : State, ∃ t : State, exec c s = .next t) :=
  ⟨⟨State.reset, 0x5, by decide +kernel⟩,
   ⟨State.reset, by decide +kernel⟩,
   ⟨{ hub := hub0 }, by decide +kernel⟩,
   ⟨.beaconMissed, State.reset, _, rfl⟩⟩

/-- The hypotheses of EveryStepKeepsSound can be met. -/
theorem witness_EveryStepKeepsSound : ∃ s t : State, s.sound = true ∧ step s = .next t :=
  ⟨at0 id, _, by decide +kernel, rfl⟩

/-- The hypotheses of each clause of CheckProfilesAreTheTable can be met. -/
theorem witness_CheckProfilesAreTheTable :
  (∃ h : Hub, ∃ code : Nat, ∃ p : Profile, ∃ value : Nat, (code, p, value) ∈ [(1, ⟨32, 0x04C11DB7, 0xFFFFFFFF, true, true, 0xFFFFFFFF⟩, 0xCBF43926), (2, ⟨32, 0x1EDC6F41, 0xFFFFFFFF, true, true, 0xFFFFFFFF⟩, 0xE3069283), (3, ⟨16, 0x1021, 0xFFFF, false, false, 0⟩, 0x29B1), (4, ⟨16, 0x1021, 0, true, true, 0⟩, 0x2189), (5, ⟨16, 0x8005, 0xFFFF, true, true, 0⟩, 0x4B37), (6, ⟨8, 0x07, 0, false, false, 0⟩, 0xF4), (7, ⟨8, 0x2F, 0xFF, false, false, 0xFF⟩, 0xDF)])
  ∧ (∃ h : Hub, ∃ (p : Profile), h.profile 8 = some p)
  ∧ (∃ h : Hub, ∃ (code : Nat), code = 0 ∨ 8 < code) :=
  ⟨⟨hub0, 1, ⟨32, 0x04C11DB7, 0xFFFFFFFF, true, true, 0xFFFFFFFF⟩, 0xCBF43926, by decide⟩,
   ⟨hub0, ⟨hub0.num Obj.userWidth, hub0.num Obj.userPoly, hub0.num Obj.userInit, hub0.flag Obj.userRefin, hub0.flag Obj.userRefout, hub0.num Obj.userXorout⟩, rfl⟩,
   ⟨hub0, 9, by decide⟩⟩

end Keeper

namespace Time

/-! Small states and operands that the witnesses of this family are built from. -/

def r : Requester := { path := .station, unit := 1, ip := 5 }
def mk1 (sync slew src : Nat) (v : Nat) : State :=
  let h : Hub := { time := { cclk := true, ltc := 100000 + v * 7, slew := (slew : Int) * 1000 - 1000, segs := if v = 0 then [] else [{ l0 := 5, st0 := 77, rate := 3 }], qualified := if v = 0 then [] else [if src = 1 then .ptp else .ring], phcFreq := 50000000, phcBase := v * 0x40000000, phcCand := 0, phcSlow := if v = 1 then 5 else 0, phcSlowSrc := 1, phcSlowFreq := 49000000, present := if v = 2 then [.localMains] else [], cycles := [50000000,2,3,4,5,6,7] }, keeper := { ready := true, holder := some r } }
  let h := (h.setNum Obj.syncState sync).setNum Obj.timeSource src
  let h := (h.setNum Obj.sourcePriority (if v = 1 then 0x1 else 0x21)).setNum Obj.phcSourceList (if v = 2 then 0x21 else 0x1)
  let h := (h.setNum Obj.phcState sync).setNum Obj.phcSource src
  let h := h.setNum (Obj.tcapEnable 2) 1 |>.setNum (Obj.tcapEdge 2) (if v = 0 then 3 else 1) |>.setNum (Obj.tcapDelay 2) 5000
  let h := h.setNum (Obj.toutMode 2) 3 |>.setNum (Obj.toutIdle 2) 1 |>.setNum (Obj.toutDelay 2) 5000
  let h := if v = 2 then h else h.setNum Obj.portStateA 9 |>.setNum Obj.timeMasterId 2 |>.setNum Obj.minAmplitude 0 |>.setNum Obj.nominalFrequency 50000
  let h := { h with time := { h.time with pps := some (7, 2), ringGood := v = 0, ringL0 := 100000, ringPhase := 0x90000000, ringFreq := 49900000, slewCorr := if v = 0 then 3000000 else 0, slewAt := 5 } }
  let h := { h with time := { h.time with tcap := SMap.set (fun _ => []) [] 2 ((List.range (if v = 0 then 0 else 4)).map fun i => { ltc := 0x123456789A + i, frac := 1, rising := true }) } }
  { pending := [.fenceAll .pcie], hub := h }
def mk2 (act : Nat) (st shape late : Nat) : State :=
  let h := (mk1 1 0 1 1).hub
  let h := h.setNum (Obj.trigState 7) st |>.setNum (Obj.action 7) act |>.setNum (Obj.actionTarget 7) (if act = 6 then 2 else if act = 4 then late else 3) |>.setNum (Obj.actionArg 7) 1
  let h := h.setNum (Obj.trigShape 7) shape |>.setNum (Obj.latePolicy 7) late |>.setNum (Obj.period 7) 1000000 |>.setNum (Obj.repeatCount 7) (if late = 1 then 5 else 0)
  let h := h.setNum (Obj.toutMode 2) 1 |>.setNum (Obj.chMode 3) (if act = 2 then modeCstart else modeBout) |>.setFunc (fidChannel 3) { life := .on }
  let h := h.setTrig 7 { target := 12345, firing := 99999, fires := 4 }
  { pending := [.fenceAll .pcie], hub := h }

/-- The hypotheses of each clause of TimeSourcesMoveStationTime can be met. -/
theorem witness_TimeSourcesMoveStationTime :
  (∃ s : State, ∃ src : TimeSource, ∃ offset : Int, ∃ rate : Int, ∃ utc : Option Int, s.hub.sourceHolds src = true ∧ s.hub.num Obj.syncState = syncNever ∧ (rankIn (s.hub.num Obj.sourcePriority) 8 (timeCode src)).isSome = true)
  ∧ (∃ s : State, ∃ src : TimeSource, ∃ offset : Int, ∃ rate : Int, ∃ utc : Option Int, s.hub.sourceHolds src = true ∧ rankIn (s.hub.num Obj.sourcePriority) 8 (timeCode src) = none)
  ∧ (∃ s : State, ∃ offset : Int, ∃ rate : Int, ∃ utc : Option Int, ∃ (src : TimeSource), s.hub.time.qualified = [src] ∧ s.hub.num Obj.timeSource = timeCode src)
  ∧ (∃ s : State, ∃ rate : Int, s.hub.num Obj.syncState = syncNever)
  ∧ (∃ s : State, ∃ rate : Int, 1 ≤ s.hub.num Obj.syncState ∧ s.hub.num Obj.syncState ≤ 3) :=
  ⟨⟨mk1 0 0 1 0, .ptp, 5, 5, none, by decide +kernel⟩,
   ⟨mk1 0 0 1 1, .ring, 5, 5, none, by decide +kernel⟩,
   ⟨mk1 0 0 1 1, 5, 5, none, _, rfl, by decide +kernel⟩,
   ⟨mk1 0 0 1 0, 5, by decide +kernel⟩,
   ⟨mk1 1 0 1 0, 5, by decide +kernel⟩⟩

/-- The hypotheses of each clause of PhaseClockFollowsItsSources can be met. -/
theorem witness_PhaseClockFollowsItsSources :
  (∃ s : State, ∃ src : PhaseSource, src ≠ .nominal ∧ s.hub.phaseHolds src = true ∧ s.hub.num Obj.phcState = phcInvalid ∧ (rankIn (s.hub.num Obj.phcSourceList) 4 (phaseCode src)).isSome = true)
  ∧ (∃ s : State, ∃ src : PhaseSource, src ≠ .nominal ∧ s.hub.num Obj.phcSource = phaseCode src)
  ∧ (∃ s : State, ∃ fraction : BitVec 32, ∃ freq : Nat, let src := s.hub.num Obj.phcSource; let d := shortestWay (s.hub.phaseRaw s.hub.now) (s.hub.sourcePhase src fraction.toNat freq).1; let acquiring := s.hub.time.phcCand = 0 ∧ s.hub.num Obj.phcState = phcAcquiring; acquiring ∧ 0 ≤ d)
  ∧ (∃ s : State, ∃ fraction : BitVec 32, ∃ freq : Nat, let src := s.hub.num Obj.phcSource; let d := shortestWay (s.hub.phaseRaw s.hub.now) (s.hub.sourcePhase src fraction.toNat freq).1; let acquiring := s.hub.time.phcCand = 0 ∧ s.hub.num Obj.phcState = phcAcquiring; acquiring ∧ d < 0)
  ∧ (∃ s : State, ∃ fraction : BitVec 32, ∃ freq : Nat, let src := s.hub.num Obj.phcSource; let d := shortestWay (s.hub.phaseRaw s.hub.now) (s.hub.sourcePhase src fraction.toNat freq).1; let realigns := s.hub.num Obj.phcState = phcLocked ∧ withinDegree d = false; realigns ∧ 0 ≤ d)
  ∧ (∃ s : State, ∃ fraction : BitVec 32, ∃ freq : Nat, let src := s.hub.num Obj.phcSource; let d := shortestWay (s.hub.phaseRaw s.hub.now) (s.hub.sourcePhase src fraction.toNat freq).1; let realigns := s.hub.num Obj.phcState = phcLocked ∧ withinDegree d = false; realigns ∧ d < 0)
  ∧ (∃ s : State, ∃ fraction : BitVec 32, ∃ freq : Nat, let src := s.hub.num Obj.phcSource; let d := shortestWay (s.hub.phaseRaw s.hub.now) (s.hub.sourcePhase src fraction.toNat freq).1; let realigns := s.hub.num Obj.phcState = phcLocked ∧ withinDegree d = false; (¬ realigns))
  ∧ (∃ s : State, s.hub.time.phcSlow ≠ 0)
  ∧ (∃ s : State, s.hub.num Obj.phcState = phcCoasting)
  ∧ (∃ s : State, ∃ freq : Nat, ∃ amplitude : Nat, s.hub.num Obj.phcSource = 1 ∧ s.hub.num Obj.phcState = phcLocked ∧ s.hub.time.phcSlow = 0) :=
  ⟨⟨mk1 0 0 1 0, .localMains, by decide +kernel⟩,
   ⟨mk1 0 0 1 0, .localMains, by decide +kernel⟩,
   ⟨mk1 1 0 1 0, 0x50000000, 50100000, by decide +kernel⟩,
   ⟨mk1 1 0 1 0, 0, 50100000, by decide +kernel⟩,
   ⟨mk1 2 0 1 0, 0x50000000, 50100000, by decide +kernel⟩,
   ⟨mk1 2 0 1 0, 0, 50100000, by decide +kernel⟩,
   ⟨mk1 0 0 1 0, 0, 50100000, by decide +kernel⟩,
   ⟨mk1 0 0 1 1, by decide +kernel⟩,
   ⟨mk1 3 0 1 0, by decide +kernel⟩,
   ⟨mk1 2 0 1 0, 50100000, 50100000, by decide +kernel⟩⟩

/-- The hypotheses of each clause of CapturesAndOutputs can be met. -/
theorem witness_CapturesAndOutputs :
  (∃ s : State, ∃ i : Fin 4, ∃ rising : Bool, ∃ frac : Fin 5, s.hub.flag (Obj.tcapEnable i.val) = true ∧ (s.hub.num (Obj.tcapEdge i.val)).testBit (if rising then 0 else 1) = true)
  ∧ (∃ s : State, ∃ i : Fin 4, ∃ rising : Bool, (s.hub.num (Obj.toutMode i.val) = 2 ∨ s.hub.num (Obj.toutMode i.val) = 3)) :=
  ⟨⟨mk1 0 0 1 0, 2, false, 0, by decide +kernel⟩,
   ⟨mk1 0 0 1 0, 2, false, by decide +kernel⟩⟩

/-- The hypotheses of each clause of TriggersCommitFireAndPass can be met. -/
theorem witness_TriggersCommitFireAndPass :
  (∃ s : State, ∃ e : Fin 256, s.hub.flag Obj.hubFault = false ∧ s.hub.num (Obj.trigState e.val) = tsArmed ∧ s.hub.trigUsable e.val = true ∧ s.hub.trigCount tsCommitted < 64)
  ∧ (∃ s : State, ∃ e : Fin 256, ∃ c ∈ [(0, Instr.triggerFireNone e), (1, .triggerFireOutput e), (2, .triggerFireCstart e), (3, .triggerFireSeqEvent e), (4, .triggerFireCcNotice e), (5, .triggerFireCanStart e), (6, .triggerFireToutEdge e), (7, .triggerFireLtcCapture e)], s.hub.flag Obj.hubFault = false ∧ s.hub.num (Obj.trigState e.val) = tsCommitted ∧ s.hub.num (Obj.action e.val) = c.1)
  ∧ (∃ s : State, ∃ e : Fin 256, s.hub.flag Obj.hubFault = false ∧ s.hub.num (Obj.trigState e.val) = tsArmed ∧ s.hub.trigUsable e.val = true ∧ s.hub.num (Obj.latePolicy e.val) = 0)
  ∧ (∃ s : State, ∃ e : Fin 256, s.hub.flag Obj.hubFault = false ∧ s.hub.num (Obj.trigState e.val) = tsArmed ∧ s.hub.trigUsable e.val = true ∧ s.hub.num (Obj.latePolicy e.val) ≠ 0 ∧ s.hub.num (Obj.trigShape e.val) = 0 ∧ s.hub.num (Obj.action e.val) = 0) :=
  ⟨⟨mk2 0 1 0 0, 7, by decide +kernel⟩,
   ⟨mk2 0 2 0 0, 7, _, List.mem_of_getElem? (i := 0) rfl, by decide +kernel⟩,
   ⟨mk2 0 1 0 0, 7, by decide +kernel⟩,
   ⟨mk2 0 1 0 1, 7, by decide +kernel⟩⟩

end Time

namespace Ring

/-! Small states and operands that the witnesses of this family are built from. -/

def bf : RingFrame := { dst := 127, src := 3, cls := 7, type := tBrk, path := 3, payload := [1, 2] ++ beBytes 8 2 }
def mg (p : List Byte) (src : Nat := 0) : RingFrame := { dst := 127, src := src, cls := 7, type := tMgmt, path := 3, payload := p }
def tm (p : List Byte) (src : Nat := 2) : RingFrame := { dst := 127, src := src, cls := 1, type := tTime, path := 3, payload := p, seq := 7 }
def bc (src : Nat) : RingFrame := { dst := 127, src := src, cls := 7, type := tBcn, path := 3, payload := beBytes 8 7 ++ beBytes 8 2 ++ [3,2,1] ++ List.replicate 61 0 ++ beBytes 2 30 ++ beBytes 2 3 ++ [1,1,0,0,0,0,0,1] }
def d4 : RingFrame := { dst := 2, cls := 4, type := tData, path := 3, payload := [1] }
def mkR (js ls v : Nat) (ln : Lane) (st : Nat) : State :=
  let h : Hub := { time := { cclk := true, ltc := 100000 } }
  let h := (h.setFunc (fidRingPort 0) { life := .on }).setFunc (fidRingPort 1) { life := .on } |>.setNum (Obj.rportLinkState 0) ls |>.setNum (Obj.rportLinkState 1) ls
  let h := h.setNum Obj.joinState js |>.setNum Obj.nodeIdInUse (if js = joinMember then 5 else 0) |>.setNum Obj.memberMap 0x13 |>.setNum Obj.stewardId st |>.setNum Obj.neighbourW 2 |>.setNum Obj.neighbourE 1
  let h := h.setNum Obj.breakMap (if v = 1 then 0x12 else 0) |>.setOct Obj.ringOrder ([5,1,2] ++ List.replicate 61 0) |>.setNum Obj.nodeId (if v = 2 then 9 else 0) |>.setNum Obj.class01Rate 10 |>.setNum Obj.grantedClass01Rate 10
  let h := h.setNum Obj.ringTimeCandidate 1 |>.setNum Obj.phaseMaster 1 |>.setNum Obj.syncState 1 |>.setNum Obj.timeMasterId (if v = 1 then 4 else 0) |>.setNum Obj.timeSource 2
  let h := h.setNum Obj.refuseReason (if v = 2 then 1 else 0) |>.setNum (Obj.ringBase 3) (7 * 2^41) |>.setNum (Obj.asymmetry 0) 77
  let h := { h with bridge := { h.bridge with fences := if v = 1 then [(3, { tag := 9, seq := 3, held := true })] else [] } }
  let h := { h with ring := { h.ring with laneE := ln, laneW := { ln with lost := v = 1 }, listening := v != 0, heard := v / 2 * 3, heardWest := true, tries := v + 1, wantId := 5, nonce := 0x01020304, stewardLost := true, grants := if v = 1 then [(5, 517)] else [(5,10)], weights := [(5,1)], phaseMasterId := v, phaseSeen := [(v, 90000)], syncSeen := if v = 2 then [(1, 99000)] else [], helloWestW := v, windows := [(4, { valid := true, high := 9, map := 1 })], weightSum := 3 } }
  { pending := [.fenceAll .pcie], hub := h }
def lanes_ : List Lane := [ {}, { prio := [d4, d4], loc := [d4] }, { prio := [d4, bf], loc := [d4], bulk := [d4] }, { prio := [bf, d4] }, { loc := [bf, d4], tokens := 2 }, { loc := [d4], tokens := 2 }, { loc := [tm [1]], tokens := 2, delayT1 := 200, delays := [1,2,3,4,5,6,7,8] }, { bulk := [d4, bf], credit := 6 }, { loc := [{ tm [1,2,3] with type := tPhase, stamp := true }, bc 5], prio := [tm [0,1,2,3]], tokens := 3}, { loc := [bc 5] }, { loc := [tm ([1,0,0,0] ++ beBytes 16 0)], tokens := 3 }, { bulk := [{ d4 with aborted := true}] }, { bulk := [d4], loc := [{d4 with waited := true}] }, { bulk := [d4, bf], loc := [d4], credit := 600 }, { bulk := [d4, bf], loc := [d4], credit := 5 } ]
def ok_ (f : RingFrame) : RingFrame := { f with trailer := f.trailerOf }

/-- Operands the witnesses choose from. -/
def samplesRingFrame : List RingFrame := ([bf, { bf with payload := [2,5] ++ beBytes 8 0 }, mg ([0x80, 7, 3, 1] ++ beBytes 4 5), mg ([0x80, 2, 3, 1] ++ beBytes 4 5), mg ([0x81, 5, 3, 1, 1,2,3,4]) 3, mg ([0x82, 5, 1, 1, 1,2,3,4]) 3, mg ([0x83, 2, 1, 1, 1,2,3,4]) 3, mg ([0x84, 2, 1, 1, 1,2,3,4]) 3,
  bc 3, bc 4, bc 9, { bc 3 with payload := [1] }, tm ([1,0,0,0] ++ beBytes 16 7), tm ([2,0,0,0] ++ beBytes 16 (7 * 2 ^48) ++ beBytes 16 (900 * 2^48)), tm ([0,1,0,0] ++ beBytes 16 7 ++ beBytes 8 1 ++ [1,1,0,37,0,0,0,5]),
  { tm (beBytes 8 7 ++ beBytes 8 1 ++ beBytes 4 50000000 ++ beBytes 4 0 ++ [2,1]) with type := tPhase }, { tm (beBytes 8 7 ++ beBytes 8 1 ++ beBytes 4 50000000 ++ beBytes 4 0 ++ [2,1]) 1 with type := tPhase }, mg ([0x81, 2, 3, 1, 1,2,3,4]) 3, mg ([0x80, 2, 3, 1] ++ beBytes 4 5) 3, { mg ([0x84, 2, 2] ++ beBytes 5 0) 2 with path := 1 }, { tm ([1,0,0,0] ++ beBytes 16 7) with path := 1 , dst := 5 }, { d4 with src := 3 }, mg ([0x80, 60, 3, 1] ++ beBytes 4 5), mg ([0x80, 70, 3, 1] ++ beBytes 4 5), { d4 with src := 3, dst := 5 }].map ok_) ++ [bc 3]

/-- The hypotheses of each clause of RingLinksBreaksAndWindows can be met. -/
theorem witness_RingLinksBreaksAndWindows :
  (∃ s : State, ∃ west : Bool, s.hub.isOn (fidRingPort (portIx west)) = true ∧ s.hub.portUp west = false)
  ∧ (∃ s : State, ∃ west : Bool, s.hub.mayQualify west = true)
  ∧ (∃ s : State, ∃ west : Bool, ∃ mid : Option RingFrame, ∃ c ∈ [(linkDown, Instr.ringLockLoss ⟨west, mid⟩), (linkRemoteFault, Instr.remoteFaultRx west)], s.hub.isOn (fidRingPort (portIx west)) = true ∧ s.hub.num (Obj.rportLinkState (portIx west)) ≠ linkDown ∧ (c.1 ≠ linkRemoteFault ∨ s.hub.num (Obj.rportLinkState (portIx west)) ≠ linkRemoteFault))
  ∧ (∃ s : State, ∃ west : Bool, ∃ f : RingFrame, (s.hub.receive west f).1 = true ∧ s.hub.isMember = true ∧ f.type = tBrk ∧ 1 ≤ byteAt f.payload 1 ∧ byteAt f.payload 1 ≤ 64)
  ∧ (∃ s : State, ∃ west : Bool, ∃ f : RingFrame, s.hub.portUp west = true ∧ headerError f = false ∧ s.hub.num Obj.pwrMode ≠ 4 ∧ f.dst ≠ broadcastId ∧ f.dst ≠ s.hub.self ∧ (f.src = 0 ∨ f.src ≠ s.hub.self))
  ∧ (∃ s : State, ∃ west : Bool, ∃ n : Nat, s.hub.portUp west = true) :=
  ⟨⟨mkR 0 0 0 (lanes_.getD (0 * 4 + 0) {}) 3, false, by decide +kernel⟩,
   ⟨mkR 0 1 0 (lanes_.getD (0 * 4 + 1) {}) 3, false, by decide +kernel⟩,
   ⟨mkR 0 1 0 (lanes_.getD (0 * 4 + 1) {}) 3, false, none, _, List.mem_of_getElem? (i := 0) rfl, by decide +kernel⟩,
   ⟨mkR 2 2 0 (lanes_.getD (2 * 4 + 2) {}) 3, false, (samplesRingFrame.getD 0 { dst := 0, cls := 0, type := 0 }), by decide +kernel⟩,
   ⟨mkR 0 2 0 (lanes_.getD (0 * 4 + 2) {}) 3, false, (samplesRingFrame.getD 20 { dst := 0, cls := 0, type := 0 }), by decide +kernel⟩,
   ⟨mkR 0 2 0 (lanes_.getD (0 * 4 + 2) {}) 3, false, 0, by decide +kernel⟩⟩

set_option maxRecDepth 100000 in
/-- The hypotheses of each clause of RingJoinsAndStewardship can be met. -/
theorem witness_RingJoinsAndStewardship :
  (∃ s : State, s.hub.num Obj.joinState = joinJoining ∧ s.hub.ring.listening = true)
  ∧ (∃ s : State, s.hub.num Obj.joinState = joinJoining ∧ s.hub.ring.tries ≠ 0)
  ∧ (∃ s : State, ∃ west : Bool, ∃ f : RingFrame, ((s.hub.receive west f).1 = true) ∧ let op := byteAt f.payload 0; f.type = tMgmt ∧ op = 0x80 ∧ s.hub.isMember = true ∧ s.hub.num Obj.stewardId = s.hub.self)
  ∧ (∃ s : State, ∃ west : Bool, ∃ f : RingFrame, ((s.hub.receive west f).1 = true) ∧ let op := byteAt f.payload 0; let mine := s.hub.num Obj.joinState = joinJoining ∧ s.hub.ring.tries ≠ 0 ∧ beAt f.payload 4 4 = s.hub.ring.nonce.toNat; f.type = tMgmt ∧ op = 0x81 ∧ mine)
  ∧ (∃ s : State, ∃ west : Bool, ∃ f : RingFrame, ((s.hub.receive west f).1 = true) ∧ let op := byteAt f.payload 0; let mine := s.hub.num Obj.joinState = joinJoining ∧ s.hub.ring.tries ≠ 0 ∧ beAt f.payload 4 4 = s.hub.ring.nonce.toNat; f.type = tMgmt ∧ op = 0x82 ∧ mine)
  ∧ (∃ s : State, ∃ west : Bool, ∃ f : RingFrame, ((s.hub.receive west f).1 = true) ∧ let op := byteAt f.payload 0; let id := byteAt f.payload 1; f.type = tMgmt ∧ op = 0x83 ∧ s.hub.isMember = true ∧ s.hub.memberOf id = true)
  ∧ (∃ s : State, ∃ west : Bool, ∃ f : RingFrame, (s.hub.receive west f).1 = true ∧ f.type = tBcn)
  ∧ (∃ s : State, ∃ west : Bool, ∃ f : RingFrame, (s.hub.frameArrives west f).1 = true ∧ f.intact = true ∧ f.type = tMgmt ∧ byteAt f.payload 0 = 0x84)
  ∧ (∃ s : State, s.hub.isMember = true ∧ s.hub.num Obj.stewardId = s.hub.self ∧ s.hub.self ≠ 0 ∧ s.hub.flag Obj.hubFault = false)
  ∧ (∃ s : State, s.hub.isMember = true ∧ s.hub.num Obj.stewardId ≠ s.hub.self)
  ∧ (∃ s : State, s.hub.isMember = true ∧ s.hub.ring.stewardLost = true)
  ∧ (∃ s : State, s.hub.isMember = true ∧ s.hub.flag Obj.hubFault = false) :=
  ⟨⟨mkR 1 0 1 (lanes_.getD (1 * 4 + 0) {}) 3, by decide +kernel⟩,
   ⟨mkR 1 0 0 (lanes_.getD (1 * 4 + 0) {}) 3, by decide +kernel⟩,
   ⟨mkR 2 2 0 (lanes_.getD (2 * 4 + 2) {}) 5, false, (samplesRingFrame.getD 2 { dst := 0, cls := 0, type := 0 }), by decide +kernel, by decide +kernel⟩,
   ⟨mkR 1 2 0 (lanes_.getD (1 * 4 + 2) {}) 3, false, (samplesRingFrame.getD 4 { dst := 0, cls := 0, type := 0 }), by decide +kernel, by decide +kernel⟩,
   ⟨mkR 1 2 0 (lanes_.getD (1 * 4 + 2) {}) 3, false, (samplesRingFrame.getD 5 { dst := 0, cls := 0, type := 0 }), by decide +kernel, by decide +kernel⟩,
   ⟨mkR 2 2 0 (lanes_.getD (2 * 4 + 2) {}) 3, false, (samplesRingFrame.getD 6 { dst := 0, cls := 0, type := 0 }), by decide +kernel, by decide +kernel⟩,
   ⟨mkR 0 2 0 (lanes_.getD (0 * 4 + 2) {}) 3, false, (samplesRingFrame.getD 8 { dst := 0, cls := 0, type := 0 }), by decide +kernel⟩,
   ⟨mkR 0 2 0 (lanes_.getD (0 * 4 + 2) {}) 3, false, (samplesRingFrame.getD 7 { dst := 0, cls := 0, type := 0 }), by decide +kernel⟩,
   ⟨mkR 2 0 0 (lanes_.getD (2 * 4 + 0) {}) 5, by decide +kernel⟩,
   ⟨mkR 2 0 0 (lanes_.getD (2 * 4 + 0) {}) 3, by decide +kernel⟩,
   ⟨mkR 2 0 0 (lanes_.getD (2 * 4 + 0) {}) 3, by decide +kernel⟩,
   ⟨mkR 2 0 0 (lanes_.getD (2 * 4 + 0) {}) 3, by decide +kernel⟩⟩

/-- The hypotheses of each clause of RingLanesSendByRank can be met. -/
theorem witness_RingLanesSendByRank :
  (∃ s : State, ∃ west : Bool, s.hub.portUp west = false)
  ∧ (∃ s : State, ∃ west : Bool, let l := s.hub.lane west; (s.hub.portUp west = true) ∧ ∃ f fs, l.prio = f :: fs ∧ f.type = tBrk)
  ∧ (∃ s : State, ∃ west : Bool, let l := s.hub.lane west; let noBrk := fun (fs : List RingFrame) => fs.all (fun f => f.type != tBrk) = true; (s.hub.portUp west = true) ∧ ∃ f fs, l.loc = f :: fs ∧ f.type = tBrk ∧ noBrk l.prio ∧ s.hub.flag Obj.hubFault = false)
  ∧ (∃ s : State, ∃ west : Bool, let l := s.hub.lane west; let noBrk := fun (fs : List RingFrame) => fs.all (fun f => f.type != tBrk) = true; (s.hub.portUp west = true) ∧ ∃ f fs, l.prio = f :: fs ∧ noBrk l.prio ∧ noBrk l.loc)
  ∧ (∃ s : State, ∃ west : Bool, let l := s.hub.lane west; let noBrk := fun (fs : List RingFrame) => fs.all (fun f => f.type != tBrk) = true; let first := fun (f : RingFrame) => f.type = tBcn ∨ f.cls ≤ 1 ∧ 0 < l.tokens; (s.hub.portUp west = true) ∧ ∃ f fs, l.loc = f :: fs ∧ l.prio = [] ∧ noBrk l.loc ∧ s.hub.flag Obj.hubFault = false ∧ first f)
  ∧ (∃ s : State, ∃ west : Bool, let l := s.hub.lane west; (s.hub.portUp west = true) ∧ ∃ f, l.loc = [f] ∧ l.prio = [] ∧ l.bulk = [] ∧ f.type ≠ tBrk ∧ 2 ≤ f.cls ∧ f.cls ≤ 7 ∧ f.type ≠ tBcn ∧ s.hub.flag Obj.hubFault = false)
  ∧ (∃ s : State, ∃ west : Bool, let l := s.hub.lane west; (s.hub.portUp west = true) ∧ ∃ f fs, l.bulk = f :: fs ∧ l.prio = [] ∧ l.loc = [])
  ∧ (∃ s : State, ∃ west : Bool, let l := s.hub.lane west; (s.hub.portUp west = true) ∧ ∃ b bs, l.bulk = b :: bs ∧ ∃ f, l.loc = [f] ∧ l.prio = [] ∧ f.type ≠ tBrk ∧ 2 ≤ f.cls ∧ f.cls ≤ 7 ∧ f.type ≠ tBcn ∧ s.hub.flag Obj.hubFault = false ∧ bulkBytes l ≤ 16384)
  ∧ (∃ s : State, ∃ west : Bool, let l := s.hub.lane west; s.hub.portUp west = true ∧ l.prio = [] ∧ l.loc = [] ∧ l.bulk = []) :=
  ⟨⟨mkR 0 0 0 (lanes_.getD (0 * 4 + 0) {}) 3, false, by decide +kernel⟩,
   ⟨mkR 2 2 0 (lanes_.getD 3 {}) 5, false, by decide +kernel, _, _, rfl, by decide +kernel⟩,
   ⟨mkR 2 2 0 (lanes_.getD 4 {}) 5, false, by decide +kernel, _, _, rfl, by decide +kernel⟩,
   ⟨mkR 2 2 0 (lanes_.getD 1 {}) 5, false, by decide +kernel, _, _, rfl, by decide +kernel⟩,
   ⟨mkR 1 2 0 (lanes_.getD (1 * 4 + 2) {}) 3, false, by decide +kernel, _, _, rfl, by decide +kernel⟩,
   ⟨mkR 2 2 0 (lanes_.getD 5 {}) 5, false, by decide +kernel, _, rfl, by decide +kernel⟩,
   ⟨mkR 2 2 0 (lanes_.getD 7 {}) 5, false, by decide +kernel, _, _, rfl, by decide +kernel⟩,
   ⟨mkR 3 2 0 (lanes_.getD (3 * 4 + 2) {}) 3, false, by decide +kernel, _, _, rfl, _, rfl, by decide +kernel⟩,
   ⟨mkR 2 2 0 (lanes_.getD 0 {}) 5, false, by decide +kernel⟩⟩

/-- The hypotheses of each clause of RingTimeAndPhaseFrames can be met. -/
theorem witness_RingTimeAndPhaseFrames :
  (∃ s : State, ∃ west : Bool, let nb := s.hub.num (if west then Obj.neighbourW else Obj.neighbourE); s.hub.portUp west = true ∧ s.hub.isMember = true ∧ nb ≠ 0 ∧ s.hub.flag Obj.hubFault = false)
  ∧ (∃ s : State, ∃ west : Bool, ∃ f : RingFrame, (s.hub.neighbourFrame west f 1).1 = true)
  ∧ (∃ s : State, ∃ west : Bool, ∃ f : RingFrame, (s.hub.neighbourFrame west f 2).1 = true)
  ∧ (∃ s : State, s.hub.timeCandidate = true ∧ s.hub.flag Obj.hubFault = false)
  ∧ (∃ s : State, s.hub.flag Obj.phaseMaster = true ∧ s.hub.isMember = true ∧ s.hub.flag Obj.hubFault = false)
  ∧ (∃ s : State, ∃ west : Bool, ∃ f : RingFrame, f.type = tTime ∧ byteAt f.payload 0 = 0 ∧ (s.hub.receiveStamped west f).1 = true)
  ∧ (∃ s : State, ∃ west : Bool, ∃ f : RingFrame, f.type = tPhase ∧ (s.hub.receiveStamped west f).1 = true) :=
  ⟨⟨mkR 2 2 0 (lanes_.getD (2 * 4 + 2) {}) 3, false, by decide +kernel⟩,
   ⟨mkR 2 2 0 (lanes_.getD (2 * 4 + 2) {}) 3, false, (samplesRingFrame.getD 12 { dst := 0, cls := 0, type := 0 }), by decide +kernel⟩,
   ⟨mkR 2 2 0 (lanes_.getD (2 * 4 + 2) {}) 3, false, (samplesRingFrame.getD 13 { dst := 0, cls := 0, type := 0 }), by decide +kernel⟩,
   ⟨mkR 2 0 0 (lanes_.getD (2 * 4 + 0) {}) 3, by decide +kernel⟩,
   ⟨mkR 2 0 0 (lanes_.getD (2 * 4 + 0) {}) 3, by decide +kernel⟩,
   ⟨mkR 0 2 0 (lanes_.getD (0 * 4 + 2) {}) 3, false, (samplesRingFrame.getD 14 { dst := 0, cls := 0, type := 0 }), by decide +kernel⟩,
   ⟨mkR 0 2 0 (lanes_.getD (0 * 4 + 2) {}) 3, false, (samplesRingFrame.getD 15 { dst := 0, cls := 0, type := 0 }), by decide +kernel⟩⟩

end Ring

namespace Bridge

/-! Small states and operands that the witnesses of this family are built from. -/

def base5 : Nat := 5 * 2 ^ 41 + sramBase
def mkB (v : Nat) (b : Bridge) (rb : Nat) : State :=
  let h : Hub := { time := { cclk := true, ltc := 100000 } }
  let h := (h.setFunc (fidPort 12) { life := .on } |>.setFunc (fidPort 13) { life := .on } |>.setFunc (fidPort 16) { life := .on } |>.setNum (Obj.rportLinkState 0) linkUp |>.setNum (Obj.rportLinkState 1) linkUp).setFunc (fidWindow 0) { life := if v = 9 then .off else .on } |>.setFunc (fidAperture 0) { life := .on }
  let h := h.setNum Obj.joinState joinMember |>.setNum Obj.nodeIdInUse 5 |>.setNum Obj.memberMap 0x13 |>.setOct Obj.ringOrder ([5,1,2] ++ List.replicate 61 0) |>.setNum (Obj.ringBase 0) rb |>.setNum (Obj.accessMin 0) 1 |>.setNum (Obj.accessMax 0) 64
  let h := h.setNum (Obj.atomicEnable 0) (if v = 8 then 0 else 1) |>.setNum Obj.sramSources (if v = 7 then 0 else 0xFF) |>.setNum Obj.sramAccess 7 |>.setNum (Obj.apSources 0) 0xFF |>.setNum (Obj.apAccess 0) 7 |>.setNum (Obj.apSize 0) 20 |>.setNum Obj.lockRetries (v + 1) |>.setNum (Obj.faultedSinceFence 0) 4
  let h := { h with bridge := b, host := { h.host with busMaster := true, sram := [(3, 7), (9, 8), (30, 1)], queues := [(3, { bulkMarkers := if v = 0 then [(6, 2)] else [], bulkResent := b.nextTag == 65535, reads := if v = 1 then [7] else [] })] }, safety := { h.safety with poison := if v = 1 then [1] else [] } }
  { pending := [.fenceAll .pcie], hub := h }
def part : ReadPart := { tag := 6, host := 2, w := 0, addr := base5, len := 4 }
def at1 : AtomicOp := { w := 0, offset := 8, wide := false, kind := .swap, operand := 5, compare := 0, tag := 6, phase := 1 }
def lk : Lock := { granule := granuleOf base5, src := 2, init := 0, addr := base5 + 8, size := 4, tag := 6 }
def fb : FetchBuf := { retry := 6, src := 2, init := 0, addr := 5 * 2^41 + 2^40, len := 4, ap := 0 }
def bs_ : List Bridge := [ {}, { parts := [part], nextTag := 65535, nextHost := 3 }, { parts := [{ part with waits := true, retry := 8 }] }, { slot := some at1 }, { slot := some { at1 with phase := 2, old := [1] } }, { retrying := [{ at1 with phase := 3, lkrts := 1 }] }, { retrying := [{ at1 with phase := 3, lkrts := 1 }], slot := some { at1 with tag := 9 } }, { atomics := [{ at1 with phase := 0 }], slot := some { at1 with tag := 9 }, behind := [{ after := 6, frame := txn 5 tWrp 2 base5 0 0 4 [], label := 5 }] }, { slot := some at1, atomics := [at1] },
 { fences := [(0, { wrote := true, seq := 255 })] }, { fences := [(0, { tag := 7, wrote := true })] }, { fences := [(0, { tag := 7, wrote := true, resent := true })] }, { fences := [(0, { tag := 7, wrote := true, resent := true, held := true })], allRunning := true, allLeft := [0] }, { fences := [(4, { wrote := true })], allRunning := true },
 { locks := [lk], flushes := [txn 5 tWrn 2 base5 0 0 6 [1]] }, { locks := [{ lk with tag := 5 }] }, { locks := [{ lk with granule := 0 }] }, { fetches := [fb] }, { fetches := [{ fb with result := some (0, [1,2,3,4]) }] }, { logSeq := 7, log := [(0, [1])] } ]
def tx (f : RingFrame) : RingFrame := { f with src := 2, path := 1 }

def ok_ (f : RingFrame) : RingFrame := { f with trailer := f.trailerOf }

/-- Operands the witnesses choose from. -/
def samplesRingFrame : List RingFrame := [tx (txn 5 tRd 2 (base5+2) 0 0 6 ([0,12,0,0])), tx (txn 5 tRdr 3 base5 0 0 6 [1,2,3,4]), tx (txn 5 tRdr 3 base5 0 3 6 []), tx (txn 5 tRdx 3 base5 0 0 6 [0,9]), tx (txn 5 tWrp 2 (base5+8) 0 0 6 [1,0,3]), tx (txn 5 tWrn 2 (base5+8) 0 0 6 [1,0,3]), tx (txn 5 tWack 3 base5 0 0 6 []), tx (txn 5 tWack 3 (base5+8) 0 0 6 []), tx (txn 5 tWnak 3 base5 0 2 6 []),
 tx (txn 5 tLkrd 2 (base5+8) 0 4 6 []), tx (txn 5 tLkrd 2 (base5+72) 0 4 6 []), tx (txn 5 tLkrt 3 (base5+8) 0 0 6 []), tx (txn 5 tWrul 2 (base5+8) 0 0 6 [0,2,3,4]), tx (txn 5 tWrul 2 (base5+8) 0 1 6 []), tx (txn 5 tRd 2 (5 * 2^41 + 2^40) 0 0 6 ([0,4,0,0])), tx (txn 5 tRd 2 (5 * 2^41 + 2^40) 0 0 6 ([0,4,0,6]))].map ok_

/-- The hypotheses of each clause of WindowsReadWriteAndLock can be met. -/
theorem witness_WindowsReadWriteAndLock_a :
  (∃ s : State, ∃ x : Nat, ∃ len : Nat, ∃ whole : Bool, let w := (windowOf x).1; let r := s.hub.refusal w (windowOf x).2 len whole 2 (s.hub.readLabel w); s.hub.inD0 = true ∧ x + len ≤ 2 ^ 30 ∧ r ≠ 0)
  ∧ (∃ s : State, ∃ x : Nat, ∃ len : Nat, ∃ whole : Bool, let w := (windowOf x).1; let r := s.hub.refusal w (windowOf x).2 len whole 2 (s.hub.readLabel w); s.hub.inD0 = true ∧ x + len ≤ 2 ^ 30 ∧ r = 0 ∧ 0 < len ∧ (windowOf x).2 % s.hub.num (Obj.accessMax w) + len ≤ s.hub.num (Obj.accessMax w))
  ∧ (∃ s : State, ∃ x : Nat, ∃ len : Nat, ∃ whole : Bool, s.hub.inD0 = true ∧ x + len ≤ 2 ^ 21 ∧ s.hub.sramLocked x len = false ∧ s.hub.poisoned x len = false)
  ∧ (∃ s : State, ∃ x : Nat, ∃ len : Nat, ∃ whole : Bool, s.hub.inD0 = true ∧ x + 4 ≤ 2 ^ 24 ∧ x % 4 = 0 ∧ qportAt x = none)
  ∧ (∃ s : State, ∃ x : Nat, ∃ len : Nat, ∃ whole : Bool, x + len ≤ 4096)
  ∧ (∃ s : State, ∃ x : Nat, ∃ len : Nat, ∃ whole : Bool, ∃ bar ∈ [HostBar.bar0, .bar2, .bar4, .config, .outside], s.hub.barHolds bar x len = false)
  ∧ (∃ s : State, ∃ x : Nat, ∃ data : List Byte, ∃ whole : Bool, let w := (windowOf x).1; let cls := s.hub.num (Obj.writeClass w); let r := s.hub.refusal w (windowOf x).2 data.length whole cls (0x100 + w); let in2 := s.hub.inD0 = true ∧ x + data.length ≤ 2 ^ 30; in2 ∧ r ≠ 0) :=
  ⟨⟨mkB 0 (bs_.getD 0 {}) base5, 0, 0, false, by decide +kernel⟩,
   ⟨mkB 0 (bs_.getD 0 {}) base5, 0, 8, false, by decide +kernel⟩,
   ⟨mkB 0 (bs_.getD 0 {}) base5, 0, 0, false, by decide +kernel⟩,
   ⟨mkB 0 (bs_.getD 0 {}) base5, 0, 0, false, by decide +kernel⟩,
   ⟨mkB 0 (bs_.getD 0 {}) base5, 0, 0, false, by decide +kernel⟩,
   ⟨mkB 0 (bs_.getD 0 {}) base5, 0, 0, false, _, List.mem_of_getElem? (i := 4) rfl, by decide +kernel⟩,
   ⟨mkB 0 (bs_.getD 0 {}) base5, 0, [], false, by decide +kernel⟩⟩

/-- The hypotheses of each clause of WindowsReadWriteAndLock can be met. -/
theorem witness_WindowsReadWriteAndLock_b :
  (∃ s : State, ∃ x : Nat, ∃ data : List Byte, ∃ whole : Bool, let w := (windowOf x).1; let cls := s.hub.num (Obj.writeClass w); let r := s.hub.refusal w (windowOf x).2 data.length whole cls (0x100 + w); let in2 := s.hub.inD0 = true ∧ x + data.length ≤ 2 ^ 30; in2 ∧ r = 0 ∧ data ≠ [] ∧ (windowOf x).2 % s.hub.num (Obj.accessMax w) + data.length ≤ s.hub.num (Obj.accessMax w))
  ∧ (∃ s : State, ∃ x : Nat, ∃ data : List Byte, ∃ whole : Bool, let in4 := s.hub.inD0 = true ∧ x + data.length ≤ 2 ^ 21; in4 ∧ s.hub.sramLocked x data.length = false)
  ∧ (∃ s : State, ∃ x : Nat, ∃ data : List Byte, ∃ whole : Bool, let in2 := s.hub.inD0 = true ∧ x + data.length ≤ 2 ^ 30; in2)
  ∧ (∃ s : State, ∃ x : Nat, ∃ data : List Byte, ∃ whole : Bool, ∃ bar ∈ [HostBar.bar0, .bar2, .bar4, .config, .outside], s.hub.barHolds bar x data.length = false)
  ∧ (∃ s : State, ∃ x : Nat, ∃ wide : Bool, ∃ kind : AtomicKind, ∃ operand : Nat, ∃ compare : Nat, let w := (windowOf x).1; let a : AtomicOp := { w := w, offset := (windowOf x).2, wide := wide, kind := kind, operand := operand, compare := compare, tag := s.hub.bridge.nextTag }; let r := s.hub.refusal w (windowOf x).2 a.size true 2 (0x100 + w); let in2 := s.hub.inD0 = true ∧ x + a.size ≤ 2 ^ 30; in2 ∧ (r ≠ 0 ∨ s.hub.flag (Obj.atomicEnable w) = false))
  ∧ (∃ s : State, ∃ x : Nat, ∃ wide : Bool, ∃ kind : AtomicKind, ∃ operand : Nat, ∃ compare : Nat, let w := (windowOf x).1; let a : AtomicOp := { w := w, offset := (windowOf x).2, wide := wide, kind := kind, operand := operand, compare := compare, tag := s.hub.bridge.nextTag }; let r := s.hub.refusal w (windowOf x).2 a.size true 2 (0x100 + w); let in2 := s.hub.inD0 = true ∧ x + a.size ≤ 2 ^ 30; in2 ∧ r = 0 ∧ s.hub.flag (Obj.atomicEnable w) = true)
  ∧ (∃ s : State, ∃ west : Bool, ∃ f : RingFrame, (s.hub.bridgeTakes tRdr west f = true) ∧ ∃ p, s.hub.bridge.parts = [p] ∧ p.tag = f.tag ∧ p.w = txInit f) :=
  ⟨⟨mkB 0 (bs_.getD 0 {}) base5, 0, [1,2,3,4], false, by decide +kernel⟩,
   ⟨mkB 0 (bs_.getD 0 {}) base5, 0, [], false, by decide +kernel⟩,
   ⟨mkB 0 (bs_.getD 0 {}) base5, 0, [], false, by decide +kernel⟩,
   ⟨mkB 0 (bs_.getD 0 {}) base5, 0, [], false, _, List.mem_of_getElem? (i := 4) rfl, by decide +kernel⟩,
   ⟨mkB 0 (bs_.getD 0 {}) (9 * 2^41), 0, false, .fetchAdd, 0, 0, by decide +kernel⟩,
   ⟨mkB 0 (bs_.getD 0 {}) base5, 0, false, .fetchAdd, 0, 0, by decide +kernel⟩,
   ⟨mkB 0 (bs_.getD 1 {}) base5, false, (samplesRingFrame.getD 1 { dst := 0, cls := 0, type := 0 }), by decide +kernel, _, rfl, by decide +kernel⟩⟩

/-- The hypotheses of each clause of WindowsReadWriteAndLock can be met. -/
theorem witness_WindowsReadWriteAndLock_c :
  (∃ s : State, ∃ west : Bool, ∃ f : RingFrame, (s.hub.bridgeTakes tRdx west f = true) ∧ ∃ p, s.hub.bridge.parts = [p] ∧ p.tag = f.tag ∧ p.w = txInit f)
  ∧ (∃ s : State, ∃ west : Bool, ∃ f : RingFrame, (s.hub.bridgeTakes tLkrt west f = true) ∧ ∃ a, s.hub.bridge.slot = some a ∧ a.phase = 1 ∧ a.tag = f.tag ∧ s.hub.bridge.atomics = [])
  ∧ (∃ s : State, ∃ tag : BitVec 16, ∃ p, s.hub.bridge.parts = [p] ∧ p.tag = tag.toNat ∧ p.waits = true)
  ∧ (∃ s : State, ∃ tag : BitVec 16, ∃ p, s.hub.bridge.parts = [p] ∧ p.tag = tag.toNat ∧ p.waits = false ∧ p.data = none ∧ s.hub.isBehind tRd p.tag = false)
  ∧ (∃ s : State, ∃ tag : BitVec 16, (s.hub.bridge.parts = []) ∧ ∃ a, s.hub.atomicOf tag.toNat = some a ∧ s.hub.bridge.slot ≠ some a)
  ∧ (∃ s : State, ∃ a, s.hub.bridge.retrying = [a]) :=
  ⟨⟨mkB 0 (bs_.getD 1 {}) base5, false, (samplesRingFrame.getD 3 { dst := 0, cls := 0, type := 0 }), by decide +kernel, _, rfl, by decide +kernel⟩,
   ⟨mkB 0 (bs_.getD 3 {}) base5, false, (samplesRingFrame.getD 11 { dst := 0, cls := 0, type := 0 }), by decide +kernel, _, rfl, by decide +kernel⟩,
   ⟨mkB 0 (bs_.getD 2 {}) base5, 6, _, rfl, by decide +kernel⟩,
   ⟨mkB 0 (bs_.getD 1 {}) base5, 6, _, rfl, by decide +kernel⟩,
   ⟨mkB 0 (bs_.getD 5 {}) base5, 6, by decide +kernel, _, rfl, by decide +kernel⟩,
   ⟨mkB 0 (bs_.getD 5 {}) base5, _, rfl⟩⟩

/-- The hypotheses of each clause of FencesCompleteWithTheirReports can be met. -/
theorem witness_FencesCompleteWithTheirReports :
  (∃ s : State, ∃ path : RegPath, ∃ w : Fin 16, let f := s.hub.fence w.val; f.tag ≠ 0 ∧ f.held = false ∧ s.hub.bridge.allHeld = false)
  ∧ (∃ s : State, ∃ q : Fin 64, (s.hub.queue q.val).bulkMarkers ≠ [] ∧ (s.hub.queue q.val).descs.all (fun d => d.fence != 1) = true)
  ∧ (∃ s : State, ∃ west : Bool, ∃ f : RingFrame, (s.hub.bridgeTakes tWack west f = true ∧ txInit f < 16) ∧ ∃ w, s.hub.fenceOf f.tag = some w ∧ s.hub.bridge.slot = none ∧ w = txInit f ∧ (s.hub.fence w).held = false ∧ s.hub.bridge.allHeld = false)
  ∧ (∃ s : State, ∃ west : Bool, ∃ f : RingFrame, (s.hub.bridgeTakes tWack west f = true ∧ txInit f < 16) ∧ ∃ a, s.hub.bridge.slot = some a ∧ a.phase = 2 ∧ a.tag = f.tag ∧ a.w = txInit f ∧ s.hub.num (Obj.ringBase a.w) + a.offset = txAddr f ∧ s.hub.bridge.atomics = [])
  ∧ (∃ s : State, ∃ west : Bool, ∃ f : RingFrame, s.hub.bridgeTakes tWnak west f = true ∧ txInit f < 16 ∧ s.hub.bridge.slot = none ∧ s.hub.fenceOf f.tag = none) :=
  ⟨⟨mkB 0 (bs_.getD 10 {}) base5, .pcie, 0, by decide +kernel⟩,
   ⟨mkB 0 (bs_.getD 0 {}) base5, 3, by decide +kernel⟩,
   ⟨mkB 0 (bs_.getD 10 {}) base5, false, (samplesRingFrame.getD 6 { dst := 0, cls := 0, type := 0 }), by decide +kernel, _, rfl, by decide +kernel⟩,
   ⟨mkB 0 (bs_.getD 4 {}) base5, false, (samplesRingFrame.getD 7 { dst := 0, cls := 0, type := 0 }), by decide +kernel, _, rfl, by decide +kernel⟩,
   ⟨mkB 0 (bs_.getD 0 {}) base5, false, (samplesRingFrame.getD 8 { dst := 0, cls := 0, type := 0 }), by decide +kernel⟩⟩

/-- The hypotheses of each clause of TargetServesSramAndApertures can be met. -/
theorem witness_TargetServesSramAndApertures_a :
  (∃ s : State, ∃ west : Bool, ∃ f : RingFrame, let h := (s.hub.bridged west f).2; let n := reqLen f; let fits := h.flowWaits f = false ∧ 8 ≤ f.payload.length ∧ n ≤ 4088 ∧ (0 < n ∨ f.type = tWrn); ∃ c ∈ [(tRd, Instr.rdRx west f), (tWrp, Instr.wrpRx west f), (tWrn, Instr.wrnRx west f)], (s.hub.bridgeTakes c.1 west f = true ∧ fits) ∧ let g := h.guardTxn f n (if c.1 = tRd then 0 else 1); g ≠ 0)
  ∧ (∃ s : State, ∃ west : Bool, ∃ f : RingFrame, let h := (s.hub.bridged west f).2; let a := txAddr f; let n := reqLen f; let fits := h.flowWaits f = false ∧ 8 ≤ f.payload.length ∧ n ≤ 4088 ∧ (0 < n ∨ f.type = tWrn); let sram := inSram (addrLocal a) n = true ∧ h.lockedRange a n = false; s.hub.bridgeTakes tRd west f = true ∧ fits ∧ h.guardTxn f n 0 = 0 ∧ sram)
  ∧ (∃ s : State, ∃ west : Bool, ∃ f : RingFrame, let h := (s.hub.bridged west f).2; let a := txAddr f; let n := reqLen f; let fits := h.flowWaits f = false ∧ 8 ≤ f.payload.length ∧ n ≤ 4088 ∧ (0 < n ∨ f.type = tWrn); let sram := inSram (addrLocal a) n = true ∧ h.lockedRange a n = false; s.hub.bridgeTakes tWrp west f = true ∧ fits ∧ h.guardTxn f n 1 = 0 ∧ sram)
  ∧ (∃ s : State, ∃ west : Bool, ∃ f : RingFrame, let h := (s.hub.bridged west f).2; let a := txAddr f; let n := reqLen f; let fits := h.flowWaits f = false ∧ 8 ≤ f.payload.length ∧ n ≤ 4088 ∧ (0 < n ∨ f.type = tWrn); let sram := inSram (addrLocal a) n = true ∧ h.lockedRange a n = false; s.hub.bridgeTakes tWrn west f = true ∧ fits ∧ h.guardTxn f n 1 = 0 ∧ sram)
  ∧ (∃ s : State, ∃ west : Bool, ∃ f : RingFrame, let h := (s.hub.bridged west f).2; let a := txAddr f; let n := reqLen f; let fits := h.flowWaits f = false ∧ 8 ≤ f.payload.length ∧ n ≤ 4088 ∧ (0 < n ∨ f.type = tWrn); ∃ p, apertureOf a = some p ∧ (s.hub.bridgeTakes tRd west f = true ∧ fits ∧ h.guardTxn f n 0 = 0 ∧ h.lockedRange a n = false) ∧ let retry := beAt f.payload 10 2; retry = 0 ∧ h.bridge.fetches.length < 32)
  ∧ (∃ s : State, ∃ west : Bool, ∃ f : RingFrame, let h := (s.hub.bridged west f).2; let a := txAddr f; let n := reqLen f; let fits := h.flowWaits f = false ∧ 8 ≤ f.payload.length ∧ n ≤ 4088 ∧ (0 < n ∨ f.type = tWrn); ∃ p, apertureOf a = some p ∧ (s.hub.bridgeTakes tRd west f = true ∧ fits ∧ h.guardTxn f n 0 = 0 ∧ h.lockedRange a n = false) ∧ let retry := beAt f.payload 10 2; ∃ b, h.bridge.fetches = [b] ∧ retry ≠ 0 ∧ b.retry = retry ∧ b.src = f.src ∧ b.init = txInit f ∧ b.result.isSome = true)
  ∧ (∃ s : State, ∃ west : Bool, ∃ f : RingFrame, let h := (s.hub.bridged west f).2; let a := txAddr f; let off := addrLocal a - sramBase; s.hub.bridgeTakes tLkrd west f = true ∧ h.flowWaits f = false ∧ (txB7 f = 4 ∨ txB7 f = 8) ∧ addrLocal a % txB7 f = 0 ∧ h.guardTxn f (txB7 f) 2 = 0 ∧ (apertureOf (addrLocal a) = none → h.poisoned off (txB7 f) = false)) :=
  ⟨⟨mkB 7 {} base5, false, (samplesRingFrame.getD 0 { dst := 0, cls := 0, type := 0 }), _, List.mem_of_getElem? (i := 0) rfl, by decide +kernel, by decide +kernel⟩,
   ⟨mkB 0 (bs_.getD 0 {}) base5, false, (samplesRingFrame.getD 0 { dst := 0, cls := 0, type := 0 }), by decide +kernel⟩,
   ⟨mkB 0 (bs_.getD 0 {}) base5, false, (samplesRingFrame.getD 4 { dst := 0, cls := 0, type := 0 }), by decide +kernel⟩,
   ⟨mkB 0 (bs_.getD 0 {}) base5, false, (samplesRingFrame.getD 5 { dst := 0, cls := 0, type := 0 }), by decide +kernel⟩,
   ⟨mkB 0 (bs_.getD 0 {}) base5, false, (samplesRingFrame.getD 14 { dst := 0, cls := 0, type := 0 }), 0, by decide +kernel, by decide +kernel, by decide +kernel⟩,
   ⟨mkB 0 (bs_.getD 18 {}) base5, false, (samplesRingFrame.getD 15 { dst := 0, cls := 0, type := 0 }), 0, by decide +kernel, by decide +kernel, { fb with result := some (0, [1,2,3,4]) }, by decide +kernel, by decide +kernel⟩,
   ⟨mkB 0 (bs_.getD 0 {}) base5, false, (samplesRingFrame.getD 9 { dst := 0, cls := 0, type := 0 }), by decide +kernel⟩⟩

/-- The hypotheses of each clause of TargetServesSramAndApertures can be met. -/
theorem witness_TargetServesSramAndApertures_b :
  (∃ s : State, ∃ west : Bool, ∃ f : RingFrame, let h := (s.hub.bridged west f).2; (s.hub.bridgeTakes tWrul west f = true ∧ h.bridge.waiting = []) ∧ let g := h.guardTxn f (txData f).length 2; g ≠ 0)
  ∧ (∃ s : State, ∃ west : Bool, ∃ f : RingFrame, let h := (s.hub.bridged west f).2; (s.hub.bridgeTakes tWrul west f = true ∧ h.bridge.waiting = []) ∧ let g := h.guardTxn f (txData f).length 2; g = 0 ∧ h.bridge.locks = [])
  ∧ (∃ s : State, ∃ west : Bool, ∃ f : RingFrame, let h := (s.hub.bridged west f).2; let a := txAddr f; (s.hub.bridgeTakes tWrul west f = true ∧ h.bridge.waiting = []) ∧ let g := h.guardTxn f (txData f).length 2; ∃ k, h.bridge.locks = [k] ∧ g = 0 ∧ k.src = f.src ∧ k.init = txInit f ∧ k.addr = a ∧ k.tag = f.tag ∧ h.bridge.waiting = [] ∧ apertureOf (addrLocal a) = none)
  ∧ (∃ s : State, ∃ retry : BitVec 16, ∃ r : ReadEnd, ∃ data : List Byte, ∃ b, s.hub.bridge.fetches = [b] ∧ b.retry = retry.toNat ∧ b.result = none ∧ r ≠ ReadEnd.data)
  ∧ (∃ s : State, ∃ retry : BitVec 16, ∃ r : ReadEnd, ∃ data : List Byte, ∃ b, s.hub.bridge.fetches = [b] ∧ b.retry = retry.toNat ∧ b.result.isSome = true)
  ∧ (∃ s : State, ∃ (f : RingFrame) (fs : List RingFrame), s.hub.bridge.flushes = f :: fs)
  ∧ (∃ s : State, ∃ l : Nat, ∃ k, s.hub.bridge.locks = [k] ∧ k.granule = granuleOf l ∧ s.hub.bridge.waiting = []) :=
  ⟨⟨mkB 7 {} base5, false, (samplesRingFrame.getD 12 { dst := 0, cls := 0, type := 0 }), by decide +kernel, by decide +kernel⟩,
   ⟨mkB 0 (bs_.getD 0 {}) base5, false, (samplesRingFrame.getD 12 { dst := 0, cls := 0, type := 0 }), by decide +kernel, by decide +kernel⟩,
   ⟨mkB 0 (bs_.getD 14 {}) base5, false, (samplesRingFrame.getD 12 { dst := 0, cls := 0, type := 0 }), by decide +kernel, lk, by decide +kernel, by decide +kernel⟩,
   ⟨mkB 0 (bs_.getD 17 {}) base5, 6, .poisoned, [], _, rfl, by decide +kernel⟩,
   ⟨mkB 0 (bs_.getD 18 {}) base5, 6, .data, [], _, rfl, by decide +kernel⟩,
   ⟨mkB 0 (bs_.getD 14 {}) base5, _, _, rfl⟩,
   ⟨mkB 0 (bs_.getD 16 {}) base5, 0, _, rfl, by decide +kernel⟩⟩

/-- The hypotheses of each clause of TargetServesSramAndApertures can be met. -/
theorem witness_TargetServesSramAndApertures_c :
  (∃ s : State, ∃ path : RegPath, ∃ offset : BitVec 24, ∃ value : BitVec 32, ∃ west : Bool, ∃ f : RingFrame, path ≠ .ring ∧ (path ≠ .pcie ∨ offset.toNat < 0x10000 ∨ (0x11000 ≤ offset.toNat ∧ offset.toNat < 0x20000) ∨ 0x20800 ≤ offset.toNat))
  ∧ (∃ s : State, ∃ offset : BitVec 24, ∃ value : BitVec 32, ∃ west : Bool, ∃ f : RingFrame, ∃ (path : RegPath), path = .pcie ∧ (path ≠ .ring) ∧ ∃ q : Fin 64, offset.toNat = 0x10004 + 64 * q.val ∧ value.toNat % 2 = 0)
  ∧ (∃ s : State, ∃ offset : BitVec 24, ∃ value : BitVec 32, ∃ west : Bool, ∃ f : RingFrame, ∃ (path : RegPath), path = .pcie ∧ path ≠ .ring ∧ 0x20000 ≤ offset.toNat ∧ offset.toNat < 0x20800 ∧ offset.toNat % 4 = 0 ∧ offset.toNat % 16 ≠ 12) :=
  ⟨⟨mkB 0 (bs_.getD 0 {}) base5, .pcie, 6, 6, false, (samplesRingFrame.getD 0 { dst := 0, cls := 0, type := 0 }), by decide +kernel⟩,
   ⟨mkB 0 (bs_.getD 0 {}) base5, 0x100C4, 6, false, (samplesRingFrame.getD 0 { dst := 0, cls := 0, type := 0 }), _, rfl, by decide +kernel, 3, by decide +kernel⟩,
   ⟨mkB 0 (bs_.getD 0 {}) base5, 0x20014, 6, false, (samplesRingFrame.getD 0 { dst := 0, cls := 0, type := 0 }), _, rfl, by decide +kernel⟩⟩

end Bridge

namespace Queue

/-! Small states and operands that the witnesses of this family are built from. -/

def qs_ : List QState := [ {}, { pidxAcc := 65535, posted := 5, invPosted := 0xFFFFFFFF - 5, released := 4, invReleased := 0xFFFFFFFF - 4, items := [⟨true,false,false,[1,2]⟩, ⟨false,true,false,[3]⟩], creditDue := 3, irqGathered := 2, flushing := true, flushCount := 4, fetchIdx := 65530, reqIdx := 65532, wmHighSticky := true, creditViol := true, ptrFault := true, reads := [6, 7], descs := [{ idx := 6, addr := 77, len := 3, flags := 3, target := 0 }] },
 { pidxAcc := 5, posted := 20, released := 4, fetchIdx := 65530, reqIdx := 65533, invPosted := 0xFFFFFFFF - 20, invReleased := 0xFFFFFFFF - 4 },
 { pidxAcc := 5, posted := 20, released := 4, items := [⟨true,true,true,[1,2]⟩], held := 1, fetchIdx := 0, reqIdx := 3, irqGathered := 1, isOpen := true } ]
def mkQ (x : QState) (dir md v : Nat) : State :=
  let h : Hub := { time := { cclk := true, ltc := 100000 }, host := { busMaster := v != 1, msixEnable := v = 0, vectorMask := if v = 2 then List.range 128 else [], npend := 0x8000000000000005, pba := [3, 9], outstanding := 3, config := if dir = 1 && v = 0 then [(0x44, 3)] else [], readQueue := if v = 2 then [(9, 9)] else [], deferred := if v = 1 then [.msix 5 0 0, .hostRead 5 6] else [] } }
  let h := (h.setFunc (fidQueue 5) { life := .on }).setQueue 5 x |>.setNum (Obj.qDirection 5) dir |>.setNum (Obj.qMode 5) md |>.setNum (Obj.qDepth 5) 16 |>.setNum (Obj.bufferSize 5) 64 |>.setNum (Obj.creditMode 5) 1 |>.setNum (Obj.irqMode 5) 2 |>.setNum (Obj.creditWord 5) 4096
  let h := h.setNum (Obj.wmHigh 5) 2 |>.setNum (Obj.wmLow 5) 1
  { pending := [.fenceAll .pcie], hub := h }
def pk (route q : Nat) : SwPacket := { data := [1,2,3], route := route, queue := q }
def mkW (v o : Nat) : State :=
  let h : Hub := { time := { cclk := true, ltc := 100000 } }
  let h := (List.range 18).foldl (fun h p => if v = 1 ∧ p = 4 then h else h.setFunc (fidPort p) { life := .on }) h
  let h := (h.setNum (Obj.rportLinkState 0) linkUp).setNum (Obj.rportLinkState 1) linkUp
  let h := h.setNum Obj.joinState joinMember |>.setNum Obj.nodeIdInUse 5 |>.setNum Obj.memberMap 0x13
  let e := 2^31 + 4 * 2^27 + 2^o + 100 * 2^64
  let f : SwFrame := { pkt := { data := [1,2,3], ended := v != 2 }, input := 4, cls := 4, cells := 1, epoch := 0, copies := [{ port := o, clDest := 3, frame := some { dst := 1, cls := 4, type := tData } }], account := .shared }
  let h := { h with sw := { h.sw with inputs := [(4, [pk (if v = 3 then 9 else 7) 0, pk 7 0])], fwd0 := [(7, e)], nextId := 6, frames := [(2, some f)], matched := if v = 0 then [(o, some { input := 4, cls := 4, id := 2, moved := 1 })] else if v = 2 then [(o, some { input := 4, cls := 4, id := 2, moved := 1 })] else [], voq := [((4 * 18 + o) * 8 + 4, [2])] } }
  { pending := [.fenceAll .pcie], hub := h }
def ok_ (f : RingFrame) : RingFrame := { f with trailer := f.trailerOf }
def rfs : List RingFrame := [{ dst := 5, src := 2, cls := 4, path := 1, type := tData, stamp := true, payload := [0,7,0,0,9,9] }, { dst := 127, src := 2, cls := 4, path := 3, type := tData, payload := [0,7,0,0,9,9] }]

/-- The hypotheses of each clause of QueueWordPortsAndCredits can be met. -/
theorem witness_QueueWordPortsAndCredits :
  (∃ s : State, ∃ path : RegPath, ∃ q : Fin 64, ∃ w : BitVec 64, (s.hub.qOn q.val = true ∧ (s.hub.func (fidQueue q.val)).inReset = false ∧ s.hub.isD2H q.val = false ∧ s.hub.isWord q.val = true ∧ w.toNat.testBit 63 = true) ∧ let x := s.hub.queue q.val; let used := (x.posted + 2 ^ 32 - x.released) % 2 ^ 32; used < s.hub.num (Obj.qDepth q.val))
  ∧ (∃ s : State, ∃ path : RegPath, ∃ q : Fin 64, ∃ w : BitVec 64, (s.hub.qOn q.val = true ∧ (s.hub.func (fidQueue q.val)).inReset = false ∧ s.hub.isD2H q.val = false ∧ s.hub.isWord q.val = true ∧ w.toNat.testBit 63 = true) ∧ let x := s.hub.queue q.val; let used := (x.posted + 2 ^ 32 - x.released) % 2 ^ 32; s.hub.num (Obj.qDepth q.val) ≤ used)
  ∧ (∃ s : State, ∃ path : RegPath, ∃ q : Fin 64, ∃ (i : QItem) (rest : List QItem), (s.hub.queue q.val).items = i :: rest ∧ let x := s.hub.queue q.val; s.hub.qOn q.val = true ∧ s.hub.isD2H q.val = true ∧ s.hub.isWord q.val = true ∧ x.held < x.items.length ∧ q.val ≠ 63 ∧ (x.take 1).copiesAgree = true)
  ∧ (∃ s : State, ∃ path : RegPath, ∃ q : Fin 64, (s.hub.queue q.val).items = [] ∨ s.hub.qOn q.val = false)
  ∧ (∃ s : State, ∃ path : RegPath, ∃ m : BitVec 64, s.hub.host.lostRun = 0)
  ∧ (∃ s : State, ∃ path : RegPath, ∃ q : Fin 64, (s.hub.qOn q.val = true ∧ s.hub.isD2H q.val = false ∧ s.hub.num (Obj.creditMode q.val) = 1) ∧ ∃ c ∈ [Instr.creditSync path q, .creditHoldoffExpired q], (s.hub.func (fidQueue q.val)).inReset = false ∧ (s.hub.queue q.val).creditDue ≠ 0)
  ∧ (∃ s : State, ∃ q : Fin 64, s.hub.flushDone q.val = true)
  ∧ (∃ s : State, ∃ q : Fin 64, s.hub.num (Obj.irqMode q.val) = 2 ∧ (s.hub.queue q.val).irqGathered ≠ 0) :=
  ⟨⟨mkQ (qs_.getD 0 {}) 0 1 0, .pcie, 5, 0xC000000000000000 + 0x123456789A, by decide +kernel, by decide +kernel⟩,
   ⟨mkQ (qs_.getD 2 {}) 0 1 0, .pcie, 5, 0xC000000000000000 + 0x123456789A, by decide +kernel, by decide +kernel⟩,
   ⟨mkQ (qs_.getD 1 {}) 1 1 0, .pcie, 5, _, _, rfl, by decide +kernel⟩,
   ⟨mkQ (qs_.getD 0 {}) 0 0 0, .pcie, 5, by decide +kernel⟩,
   ⟨mkQ (qs_.getD 0 {}) 0 0 0, .pcie, 0, by decide +kernel⟩,
   ⟨mkQ (qs_.getD 1 {}) 0 0 0, .pcie, 5, by decide +kernel, _, List.mem_of_getElem? (i := 0) rfl, by decide +kernel⟩,
   ⟨mkQ (qs_.getD 1 {}) 0 0 0, 5, by decide +kernel⟩,
   ⟨mkQ (qs_.getD 1 {}) 0 0 0, 5, by decide +kernel⟩⟩

/-- The hypotheses of each clause of QueueDescriptorsAndInterrupts can be met. -/
theorem witness_QueueDescriptorsAndInterrupts :
  (∃ s : State, ∃ path : RegPath, ∃ q : Fin 64, ∃ pidx : BitVec 16, (s.hub.qOn q.val = true ∧ (s.hub.func (fidQueue q.val)).inReset = false ∧ s.hub.isD2H q.val = false ∧ s.hub.isWord q.val = false) ∧ let x := s.hub.queue q.val; let d := toSigned 16 (pidx.toNat + 65536 - x.pidxAcc); d ≤ 0)
  ∧ (∃ s : State, ∃ path : RegPath, ∃ q : Fin 64, ∃ pidx : BitVec 16, (s.hub.qOn q.val = true ∧ (s.hub.func (fidQueue q.val)).inReset = false ∧ s.hub.isD2H q.val = false ∧ s.hub.isWord q.val = false) ∧ let x := s.hub.queue q.val; let d := toSigned 16 (pidx.toNat + 65536 - x.pidxAcc); 0 < d ∧ d.toNat ≤ s.hub.num (Obj.qDepth q.val) - (x.posted + 2 ^ 32 - x.released) % 2 ^ 32)
  ∧ (∃ s : State, ∃ q : Fin 64, ∃ data : List Byte, ((s.hub.queue q.val).staleFetch = 0 ∧ s.hub.qSends q.val = true ∧ s.hub.isWord q.val = false ∧ (s.hub.queue q.val).fetchIdx ≠ (s.hub.queue q.val).reqIdx) ∧ let x := s.hub.queue q.val; let d : QDesc := { idx := x.fetchIdx, addr := leAt data 0 8, len := leAt data 8 2, flags := leAt data 10 2, target := leAt data 12 2 }; s.hub.isD2H q.val = false ∧ s.hub.isBulk q.val = false ∧ x.dropToEop = false ∧ x.flushTo = 0 ∧ x.fetchOpen = false ∧ (d.flags = 1 ∨ d.flags = 3) ∧ d.len ≠ 0 ∧ (slice data 14 4 ++ slice data 18 6).all (· == 0) = true)
  ∧ (∃ s : State, ∃ q : Fin 64, ∃ data : List Byte, ((s.hub.queue q.val).staleFetch = 0 ∧ s.hub.qSends q.val = true ∧ s.hub.isWord q.val = false ∧ (s.hub.queue q.val).fetchIdx ≠ (s.hub.queue q.val).reqIdx) ∧ let x := s.hub.queue q.val; let d : QDesc := { idx := x.fetchIdx, addr := leAt data 0 8, len := leAt data 8 2, flags := leAt data 10 2, target := leAt data 12 2 }; s.hub.isD2H q.val = true ∧ q.val ≠ 63 ∧ x.copiesAgree = true ∧ x.bufs = [] ∧ x.rest = none ∧ s.hub.num (Obj.bufferSize q.val) ≤ d.len ∧ (slice data 10 6).all (· == 0) = true)
  ∧ (∃ s : State, ∃ q : Fin 64, ∃ (i : Nat) (rest : List Nat), (s.hub.queue q.val).reads = i :: rest ∧ ∃ data : List Byte, ∃ d, (s.hub.queue q.val).descs = [d] ∧ (s.hub.queue q.val).descs.find? (fun (d : QDesc) => d.idx == i && !d.got && d.done.isNone) = some d ∧ d.flags = 3 ∧ s.hub.isBulk q.val = false ∧ s.hub.isCmdQueue q.val = false ∧ s.hub.isWord q.val = false ∧ s.hub.queueMax q.val = none)
  ∧ (∃ s : State, s.hub.inD0 = false)
  ∧ (∃ s : State, s.hub.inD0 = true) :=
  ⟨⟨mkQ (qs_.getD 0 {}) 0 0 0, .pcie, 5, 0, by decide +kernel, by decide +kernel⟩,
   ⟨mkQ (qs_.getD 0 {}) 0 0 0, .pcie, 5, 3, by decide +kernel, by decide +kernel⟩,
   ⟨mkQ (qs_.getD 1 {}) 0 0 0, 5, [1,2,3,4,5,6,7,8, 64,0, 1,0, 0,0] ++ List.replicate 20 0, by decide +kernel, by decide +kernel⟩,
   ⟨mkQ (qs_.getD 1 {}) 1 0 0, 5, [1,2,3,4,5,6,7,8, 64,0, 0,0, 0,0] ++ List.replicate 20 0, by decide +kernel, by decide +kernel⟩,
   ⟨mkQ (qs_.getD 1 {}) 0 0 0, 5, _, _, rfl, [1,2,3,4,5,6,7,8, 64,0, 1,0, 0,0] ++ List.replicate 20 0, _, rfl, by decide +kernel⟩,
   ⟨mkQ (qs_.getD 0 {}) 1 0 0, by decide +kernel⟩,
   ⟨mkQ (qs_.getD 0 {}) 0 0 0, by decide +kernel⟩⟩

/-- The hypotheses of each clause of SwitchCarriesFrames can be met. -/
theorem witness_SwitchCarriesFrames :
  (∃ s : State, ∃ i : Fin 18, ∃ (p : SwPacket) (rest : List SwPacket), SMap.get (fun _ => []) s.hub.sw.inputs i.val = p :: rest ∧ p.queue = 0 ∧ p.fixed = none ∧ (12 ≤ i.val ∨ (s.hub.sq (2 * i.val)).rx = [] ∧ (s.hub.sq (2 * i.val + 1)).rx = []) ∧ s.hub.portOn i.val = false)
  ∧ (∃ s : State, ∃ i : Fin 18, ∃ (p : SwPacket) (rest : List SwPacket), SMap.get (fun _ => []) s.hub.sw.inputs i.val = p :: rest ∧ (p.queue = 0 ∧ p.fixed = none ∧ (12 ≤ i.val ∨ (s.hub.sq (2 * i.val)).rx = [] ∧ (s.hub.sq (2 * i.val + 1)).rx = [])) ∧ let e := s.hub.route p.route; s.hub.portOn i.val = true ∧ rtValid e = false)
  ∧ (∃ s : State, ∃ i : Fin 18, ∃ (p : SwPacket) (rest : List SwPacket), SMap.get (fun _ => []) s.hub.sw.inputs i.val = p :: rest ∧ (p.queue = 0 ∧ p.fixed = none ∧ (12 ≤ i.val ∨ (s.hub.sq (2 * i.val)).rx = [] ∧ (s.hub.sq (2 * i.val + 1)).rx = [])) ∧ let e := s.hub.route p.route; let n := cellsOf (p.data.length + 4); ∃ o : Nat, o < 18 ∧ s.hub.portOn i.val = true ∧ rtValid e = true ∧ p.rxClass = 0 ∧ rtClass e ≠ 0 ∧ rtTargets e = 2 ^ o ∧ o ≠ 12 ∧ o ≠ 13 ∧ s.hub.portOn o = true ∧ s.hub.queuedCells o (rtClass e) + n ≤ s.hub.num (Obj.thresholdClass o (rtClass e - 1)) ∧ n ≤ s.hub.sharedFree)
  ∧ (∃ s : State, ∃ o : Nat, ∃ i : Nat, ∃ c : Nat, ∃ id : Nat, (s.hub.sw.matched = [] ∧ s.hub.sw.voq = [((i * 18 + o) * 8 + c, [id])] ∧ i < 18 ∧ o < 18 ∧ c < 8 ∧ o ≠ 16) ∧ ∃ f, SMap.get (fun _ => none) s.hub.sw.frames id = some f ∧ f.pkt.ended = true ∧ f.wrote = f.cells ∧ 0 < f.cells ∧ s.hub.frameReady id o = true)
  ∧ (∃ s : State, ∃ o : Fin 18, ∃ cell : BitVec 16, ∃ m, s.hub.swMatch o.val = some m ∧ ∃ f, SMap.get (fun _ => none) s.hub.sw.frames m.id = some f ∧ ∃ c, f.copies = [c] ∧ c.port = o.val ∧ f.pkt.ended = true ∧ f.wrote = f.cells ∧ f.pkt.err = false ∧ o.val ≤ 11 ∧ c.clDest ≤ 15)
  ∧ (∃ s : State, ∃ o : Fin 18, ∃ cell : BitVec 16, ∃ m, s.hub.swMatch o.val = some m ∧ ∃ f, SMap.get (fun _ => none) s.hub.sw.frames m.id = some f ∧ ∃ c, f.copies = [c] ∧ c.port = o.val ∧ f.pkt.ended = false ∧ o.val ≤ 11)
  ∧ (∃ s : State, ∃ west : Bool, ∃ f : RingFrame, (s.hub.receive west f).1 = true ∧ (s.hub.receive west f).2.isMember = true ∧ f.type = tData ∧ (f.cls = 4 ∨ f.cls = 5)) :=
  ⟨⟨mkW 1 0, 4, _, _, rfl, by decide +kernel⟩,
   ⟨mkW 3 0, 4, _, _, rfl, by decide +kernel, by decide +kernel⟩,
   ⟨mkW 0 0, 4, _, _, rfl, by decide +kernel, 0, by decide +kernel⟩,
   ⟨mkW 1 0, 0, 4, 4, 2, by decide +kernel, _, rfl, by decide +kernel⟩,
   ⟨mkW 0 0, 0, 0, _, rfl, _, rfl, _, rfl, by decide +kernel⟩,
   ⟨mkW 2 0, 0, 0, _, rfl, _, rfl, _, rfl, by decide +kernel⟩,
   ⟨mkW 0 0, false, ((rfs.map ok_ ++ rfs).getD 0 { dst := 0, cls := 0, type := 0 }), by decide +kernel⟩⟩

end Queue

namespace Chan

/-! Small states and operands that the witnesses of this family are built from. -/

def r : Requester := { path := .station, unit := 1, ip := 5 }
def chans : List Chan := [
 { rxOpen := true, rx := [1,2,3], rxStamp := 99, rxFlags := 32, recSeq := 65535, depart := some (5,6), inA := true, changes := [1,2], gateEdges := 3, gateFirst := 100, lastEdge := 500, cycN := 3, cycSum := 40000, pulse := true, angle := some (1,2,3,4), hold := true, coilWin := true },
 { tx := some [1,2], blocked := true, deb := true, rawStamp := 77, wet := true, depart := some (5,6), gateEdges := 1, tcodeOk := true, cstart := true, cycFault := true, angle := some (0,2,3,4), coilWin := true, coil := true, rbWin := true, rxFlags := 128, rxOpen := true, inA := true },
 { deb := false } ]
def mkC (mode : Nat) (x : Chan) (v : Nat) : State :=
  let h : Hub := { time := { cclk := true, ltc := 100000 }, keeper := { ready := true, holder := some r } }
  let h := (h.setFunc (fidChannel 35) { life := .on }).setChan 35 x |>.setNum (Obj.chMode 35) mode
  let h := h.setNum (Obj.chRoute 35) (if v = 1 then 0xFFFF else 9) |>.setNum (Obj.uartRxBuffer 35) (if x.rx.length = 5 then 20 else 100) |>.setNum (Obj.uartMaxCount 35) 20
  let h := h.setNum (Obj.uartCrcProfile 35) 0 |>.setNum (Obj.uartDataBits 35) (if v = 0 then 8 else 9) |>.setNum (Obj.uartEndChar 35) 0xFFFF |>.setNum (Obj.uartDuplex 35) v |>.setNum (Obj.uartCFunction 35) v
  let h := { h with sw := { h.sw with fwd0 := [(9, 1000 * 2 ^ 64 + 2^31)] } }
  let h := h.setNum (Obj.ledgerEnable 35) v |>.setNum (Obj.pulseEdge 35) (v+1) |>.setNum (Obj.boutGroup 35) (if v = 2 then 0 else 4) |>.setNum (Obj.recordedClaim 3) 7 |>.setNum (Obj.boutShape 35) v |>.setNum (Obj.boutSafeState 35) v |>.setNum (Obj.boutClaimHold 35) v |>.setNum (Obj.boutReadback 35) v |>.setNum (Obj.boutMismatchAction 35) (v/2)
  let h := h.setNum (Obj.tcodeFunction 35) (v % 2) |>.setNum Obj.syncState v |>.setNum (Obj.lsEnable 35) 1 |>.setNum (Obj.lineState 35) (if v = 2 then 0 else 5) |>.setNum (Obj.lsConfirm 35) v |>.setNum Obj.mirrorBatch 2 |>.setNum Obj.unmirrored 3 |>.setNum (Obj.chatterCount 35) 2
  let h := { h with ledger := { sram := if v = 2 then [] else [⟨5,1,2,3,4⟩,⟨4,1,2,3,4⟩,⟨3,1,2,3,4⟩,⟨2,1,2,3,4⟩], nextSeq := 6, mirrored := 2, gap := v == 1 } }
  let h := h.setInbox (inboxChannel 35) [{ target := 0, data := cmdRecord (if x.deb then 3 else 8) (if v = 2 then 0 else 4) (x.recSeq % 4) 35 1 60000, inPort := 12, route := 0 }]
  { pending := [.fenceAll .pcie], hub := h }
def chans2 : List Chan := chans ++ [{ depart := some (5, 0), inA := true, deb := true }, { depart := some (5, 0), inA := false, deb := true }, { recSeq := 1, lastCmd := some (100000, 100, 0) }, {recSeq := 2, lastCmd := some (100000, 2^31+5, 9) }, { recSeq := 1, lastCmd := some (100000, 8, 255), rx := [1,2,3,4,5], rxOpen := true }]

/-- The hypotheses of each clause of UartReceivesAndSends can be met. -/
theorem witness_UartReceivesAndSends :
  (∃ s : State, ∃ c : Fin 192, ∃ ch : BitVec 9, ∃ start : BitVec 64, ∃ perr : Bool, ∃ ferr : Bool, (s.hub.chanIn c.val modeUart = true ∧ s.hub.uartDeaf c.val = false ∧ s.hub.flag (Obj.uartAddressMode c.val) = false ∧ (s.hub.chan c.val).rxSkip = false) ∧ let x := s.hub.chan c.val; let bs : List Byte := if s.hub.num (Obj.uartDataBits c.val) = 9 then [BitVec.ofNat 8 ch.toNat, BitVec.ofNat 8 (ch.toNat / 256)] else [BitVec.ofNat 8 ch.toNat]; let rx := (if x.rxOpen then x.rx else []) ++ bs; s.hub.num (Obj.uartEndChar c.val) ≠ ch.toNat ∧ rx.length < s.hub.uartCount c.val ∧ s.hub.rxHeld c.val + (if x.rxOpen then 0 else 16) + bs.length ≤ s.hub.num (Obj.uartRxBuffer c.val))
  ∧ (∃ s : State, ∃ c : Fin 192, ∃ ch : BitVec 9, ∃ start : BitVec 64, ∃ perr : Bool, ∃ ferr : Bool, s.hub.chanIn c.val modeUart = true ∧ s.hub.uartDeaf c.val = true)
  ∧ (∃ s : State, ∃ c : Fin 192, ∃ ch : BitVec 9, ∃ start : BitVec 64, ∃ perr : Bool, ∃ ferr : Bool, s.hub.chanIn c.val modeUart = true ∧ s.hub.uartDeaf c.val = false ∧ s.hub.flag (Obj.uartAddressMode c.val) = false ∧ (s.hub.chan c.val).rxSkip = false ∧ s.hub.num (Obj.uartDataBits c.val) ≠ 9 ∧ s.hub.num (Obj.uartEndChar c.val) ≠ ch.toNat ∧ (s.hub.chan c.val).rxOpen = true ∧ (s.hub.chan c.val).rx.length < s.hub.uartCount c.val ∧ s.hub.num (Obj.uartRxBuffer c.val) < s.hub.rxHeld c.val + 1)
  ∧ (∃ s : State, ∃ c : Fin 192, s.hub.chanIn c.val modeUart = true ∧ (s.hub.chan c.val).rxOpen = true ∧ s.hub.profile (s.hub.num (Obj.uartCrcProfile c.val)) = none ∧ s.hub.num (Obj.chRoute c.val) ≠ 0xFFFF)
  ∧ (∃ s : State, ∃ c : Fin 192, s.hub.chanIn c.val modeUart = true ∧ (s.hub.chan c.val).rxOpen = true ∧ s.hub.uartDeaf c.val = false)
  ∧ (∃ s : State, ∃ c : Fin 192, ∃ (d : Delivered) (ds : List Delivered), s.hub.inbox (inboxChannel c.val) = d :: ds ∧ s.hub.chanSends c.val modeUart = true ∧ (s.hub.chan c.val).driverOff = false ∧ (s.hub.chan c.val).tx = none ∧ s.hub.num (Obj.uartDuplex c.val) ≠ 1 ∧ s.hub.profile (s.hub.num (Obj.uartCrcProfile c.val)) = none)
  ∧ (∃ s : State, ∃ c : Fin 192, ∃ (data : List Byte), (s.hub.chan c.val).tx = some data) :=
  ⟨⟨mkC 1 (chans2.getD 0 {}) 0, 35, 0, 1000, false, false, by decide +kernel, by decide +kernel⟩,
   ⟨mkC 1 (chans2.getD 1 {}) 1, 35, 0, 1000, false, false, by decide +kernel⟩,
   ⟨mkC 1 (chans2.getD 7 {}) 0, 35, 0, 1000, false, false, by decide +kernel⟩,
   ⟨mkC 1 (chans2.getD 0 {}) 0, 35, by decide +kernel⟩,
   ⟨mkC 1 (chans2.getD 0 {}) 0, 35, by decide +kernel⟩,
   ⟨mkC 1 (chans2.getD 0 {}) 0, 35, _, _, rfl, by decide +kernel⟩,
   ⟨mkC 0 (chans2.getD 1 {}) 0, 35, _, rfl⟩⟩

/-- The hypotheses of each clause of InputsAndPulses can be met. -/
theorem witness_InputsAndPulses :
  (∃ s : State, ∃ c : Fin 192, ∃ level : Bool, s.hub.chanIn c.val modeBin = true ∧ s.hub.binClosed c.val level ≠ (s.hub.chan c.val).deb ∧ (s.hub.chan c.val).depart = none)
  ∧ (∃ s : State, ∃ c : Fin 192, ∃ (l : Nat) (ph : Nat), (s.hub.chan c.val).depart = some (l, ph) ∧ (s.hub.chanIn c.val modeBin = true ∧ (s.hub.chan c.val).blocked = false) ∧ let closed := s.hub.binClosed c.val (s.hub.chan c.val).inA; closed = (s.hub.chan c.val).deb)
  ∧ (∃ s : State, ∃ c : Fin 192, ∃ (l : Nat) (ph : Nat), (s.hub.chan c.val).depart = some (l, ph) ∧ (s.hub.chanIn c.val modeBin = true ∧ (s.hub.chan c.val).blocked = false) ∧ let closed := s.hub.binClosed c.val (s.hub.chan c.val).inA; closed ≠ (s.hub.chan c.val).deb)
  ∧ (∃ s : State, ∃ c : Fin 192, s.hub.chanIn c.val modeBin = true ∧ (s.hub.chan c.val).blocked = true)
  ∧ (∃ s : State, ∃ c : Fin 192, (s.hub.chan c.val).wet = true)
  ∧ (∃ s : State, ∃ c : Fin 192, ∃ rising : Bool, s.hub.chanIn c.val modePulse = true ∧ (s.hub.num (Obj.pulseEdge c.val) = 3 ∨ s.hub.num (Obj.pulseEdge c.val) = (if rising then 1 else 2)))
  ∧ (∃ s : State, ∃ c : Fin 192, s.hub.chanIn c.val modePulse = true) :=
  ⟨⟨mkC 3 (chans2.getD 2 {}) 0, 35, true, by decide +kernel⟩,
   ⟨mkC 3 (chans2.getD 3 {}) 0, 35, _, _, rfl, by decide +kernel, by decide +kernel⟩,
   ⟨mkC 3 (chans2.getD 0 {}) 0, 35, _, _, rfl, by decide +kernel, by decide +kernel⟩,
   ⟨mkC 3 (chans2.getD 1 {}) 0, 35, by decide +kernel⟩,
   ⟨mkC 0 (chans2.getD 1 {}) 0, 35, by decide +kernel⟩,
   ⟨mkC 5 (chans2.getD 0 {}) 0, 35, true, by decide +kernel⟩,
   ⟨mkC 5 (chans2.getD 0 {}) 0, 35, by decide +kernel⟩⟩

/-- The hypotheses of each clause of OutputsObeyTheClaim can be met. -/
theorem witness_OutputsObeyTheClaim :
  (∃ s : State, ∃ c : Fin 192, ∃ (d : Delivered) (ds : List Delivered), s.hub.inbox (inboxChannel c.val) = d :: ds ∧ let r := d.data; let g := s.hub.num (Obj.boutGroup c.val); ∃ e ∈ [(0, Instr.boutCmdOpen c), (1, .boutCmdClose c), (2, .boutCmdPulse c), (3, .boutCmdSafe c)], d.inPort ≠ 16 ∧ r.length = 16 ∧ recCmd r = e.1 ∧ recChannel r = c.val ∧ recGroup r = g ∧ leAt r 12 4 = 0 ∧ recPulse r ≤ 60000 ∧ s.hub.chanIn c.val modeBout = true ∧ s.hub.flag Obj.hubFault = false ∧ s.hub.num (Obj.boutShape c.val) ≠ 2 ∧ s.hub.recorded g ≤ recClaim r ∧ s.hub.commandedNow c.val = false)
  ∧ (∃ s : State, ∃ c : Fin 192, ∃ (d : Delivered) (ds : List Delivered), s.hub.inbox (inboxChannel c.val) = d :: ds ∧ let r := d.data; let g := s.hub.num (Obj.boutGroup c.val); ∃ e ∈ [(0, Instr.boutCmdOpen c), (1, .boutCmdClose c), (2, .boutCmdPulse c), (3, .boutCmdSafe c)], (d.inPort ≠ 16 ∧ r.length = 16 ∧ recCmd r = e.1 ∧ recChannel r = c.val ∧ recGroup r = g ∧ leAt r 12 4 = 0 ∧ recPulse r ≤ 60000 ∧ s.hub.chanIn c.val modeBout = true ∧ s.hub.flag Obj.hubFault = false ∧ s.hub.num (Obj.boutShape c.val) ≠ 2) ∧ ∃ z, (s.hub.chan c.val).lastCmd = some z ∧ s.hub.recorded g ≤ recClaim r ∧ z.1 = s.hub.now ∧ recClaim r < z.2.1)
  ∧ (∃ s : State, ∃ c : Fin 192, ∃ (d : Delivered) (ds : List Delivered), s.hub.inbox (inboxChannel c.val) = d :: ds ∧ let r := d.data; let g := s.hub.num (Obj.boutGroup c.val); ∃ e ∈ [(0, Instr.boutCmdOpen c), (1, .boutCmdClose c), (2, .boutCmdPulse c), (3, .boutCmdSafe c)], (d.inPort ≠ 16 ∧ r.length = 16 ∧ recCmd r = e.1 ∧ recChannel r = c.val ∧ recGroup r = g ∧ leAt r 12 4 = 0 ∧ recPulse r ≤ 60000 ∧ s.hub.chanIn c.val modeBout = true ∧ s.hub.flag Obj.hubFault = false ∧ s.hub.num (Obj.boutShape c.val) ≠ 2) ∧ ∃ z, (s.hub.chan c.val).lastCmd = some z ∧ s.hub.recorded g ≤ recClaim r ∧ z.1 = s.hub.now ∧ z.2.1 = recClaim r ∧ recSource r < z.2.2)
  ∧ (∃ s : State, ∃ c : Fin 192, ∃ (d : Delivered) (ds : List Delivered), s.hub.inbox (inboxChannel c.val) = d :: ds ∧ let r := d.data; let g := s.hub.num (Obj.boutGroup c.val); ∃ e ∈ [(0, Instr.boutCmdOpen c), (1, .boutCmdClose c), (2, .boutCmdPulse c), (3, .boutCmdSafe c)], d.inPort ≠ 16 ∧ r.length = 16 ∧ recCmd r = e.1 ∧ recChannel r = c.val ∧ recGroup r = g ∧ leAt r 12 4 = 0 ∧ recPulse r ≤ 60000 ∧ s.hub.chanIn c.val modeBout = true ∧ s.hub.flag Obj.hubFault = false ∧ s.hub.num (Obj.boutShape c.val) ≠ 2 ∧ recClaim r < s.hub.recorded g)
  ∧ (∃ s : State, ∃ c : Fin 192, (s.hub.chanIn c.val modeBout = true) ∧ let x := s.hub.chan c.val; x.pulse = true)
  ∧ (∃ s : State, ∃ c : Fin 192, (s.hub.chanIn c.val modeBout = true) ∧ let x := s.hub.chan c.val; ∃ p cl at_, x.angle = some (0, p, cl, at_) ∨ x.angle = some (1, p, cl, at_))
  ∧ (∃ s : State, ∃ c : Fin 192, (s.hub.chanIn c.val modeBout = true) ∧ let x := s.hub.chan c.val; x.hold = true ∧ s.hub.commandedNow c.val = false)
  ∧ (∃ s : State, ∃ c : Fin 192, s.hub.chanIn c.val modeBout = true ∧ s.hub.num (Obj.boutMismatchAction c.val) ≠ 1 ∧ s.hub.num (Obj.boutReadback c.val) ≠ 0)
  ∧ (∃ s : State, ∃ c : Fin 192, (s.hub.chanIn c.val modeBout = true) ∧ let x := s.hub.chan c.val; s.hub.num (Obj.boutMismatchAction c.val) ≠ 1 ∧ x.coilWin = true) :=
  ⟨⟨mkC 4 (chans2.getD 0 {}) 0, 35, _, _, rfl, _, List.mem_of_getElem? (i := 3) rfl, by decide +kernel⟩,
   ⟨mkC 4 (chans2.getD 5 {}) 0, 35, _, _, rfl, _, List.mem_of_getElem? (i := 1) rfl, by decide +kernel, _, rfl, by decide +kernel⟩,
   ⟨mkC 4 (chans2.getD 7 {}) 0, 35, _, _, rfl, _, List.mem_of_getElem? (i := 1) rfl, by decide +kernel, _, rfl, by decide +kernel⟩,
   ⟨mkC 4 (chans2.getD 1 {}) 0, 35, _, _, rfl, _, List.mem_of_getElem? (i := 0) rfl, by decide +kernel⟩,
   ⟨mkC 4 (chans2.getD 0 {}) 0, 35, by decide +kernel, by decide +kernel⟩,
   ⟨mkC 4 (chans2.getD 1 {}) 0, 35, by decide +kernel, _, _, _, .inl rfl⟩,
   ⟨mkC 4 (chans2.getD 0 {}) 0, 35, by decide +kernel, by decide +kernel⟩,
   ⟨mkC 4 (chans2.getD 0 {}) 1, 35, by decide +kernel⟩,
   ⟨mkC 4 (chans2.getD 0 {}) 0, 35, by decide +kernel, by decide +kernel⟩⟩

/-- The hypotheses of each clause of TimeCodeLineSenseAndLedger can be met. -/
theorem witness_TimeCodeLineSenseAndLedger :
  (∃ s : State, ∃ c : Fin 192, ∃ f : TcodeFrame, s.hub.chanIn c.val modeTcode = true ∧ s.hub.num (Obj.tcodeFunction c.val) = 0)
  ∧ (∃ s : State, ∃ c : Fin 192, ∃ rising : Bool, s.hub.chanIn c.val modeTcode = true ∧ s.hub.num (Obj.tcodeFunction c.val) ≠ 0 ∧ (s.hub.chan c.val).driverOff = false)
  ∧ (∃ s : State, ∃ c : Fin 192, (s.hub.chan c.val).cstart = true ∧ (s.hub.chan c.val).driverOff = false)
  ∧ (∃ s : State, ∃ c : Fin 192, ∃ code : BitVec 12, s.hub.isOn (fidChannel c.val) = true ∧ s.hub.flag (Obj.lsEnable c.val) = true ∧ s.hub.lsQuiet c.val = true ∧ (s.hub.chan c.val).wet = false ∧ verdictOf (s.hub.num (Obj.chMode c.val)) (s.hub.lsBand c.val (s.hub.fieldMv c.val code.toNat)) = lsOk)
  ∧ (∃ s : State, ∃ c : Fin 192, s.hub.isOn (fidChannel c.val) = true ∧ s.hub.flag (Obj.lsEnable c.val) = true ∧ s.hub.num (Obj.lineState c.val) = lsNotTested)
  ∧ (∃ s : State, ∃ e ∈ [(s.hub.num Obj.mirrorBatch, Instr.ledgerMirrorIntervalExpired), (65536, .ledgerFlush), (s.hub.num Obj.mirrorBatch, .ledgerMirrorBatch)], s.hub.num Obj.mirrorBatch ≤ s.hub.num Obj.unmirrored) :=
  ⟨⟨mkC 6 (chans2.getD 0 {}) 0, 35, {}, by decide +kernel⟩,
   ⟨mkC 6 (chans2.getD 0 {}) 1, 35, false, by decide +kernel⟩,
   ⟨mkC 0 (chans2.getD 1 {}) 0, 35, by decide +kernel⟩,
   ⟨mkC 3 (chans2.getD 0 {}) 0, 35, 0x600, by decide +kernel⟩,
   ⟨mkC 0 (chans2.getD 0 {}) 0, 35, by decide +kernel⟩,
   ⟨mkC 0 (chans2.getD 0 {}) 0, _, List.mem_of_getElem? (i := 0) rfl, by decide +kernel⟩⟩

end Chan

namespace Can

/-! Small states and operands that the witnesses of this family are built from. -/

def r : Requester := { path := .station, unit := 1, ip := 5 }
def mat : List Byte := 
  let hdr : List Byte := [1, 2, 3, 0] ++ leBytes 4 100000 ++ leBytes 4 100 ++ leBytes 4 0
  let pit := (List.range 32).flatMap fun j => if j < 3 then leBytes 4 (j * 30000) ++ leBytes 4 30000 else leBytes 8 0
  let buf := (List.range 32).flatMap fun b => if b < 3 then leBytes 4 (0x80000000 + b) ++ [BitVec.ofNat 8 (0xC0 + b), BitVec.ofNat 8 (b % 2), 0, 0] else leBytes 8 0
  let cells := (List.range 16).flatMap fun i => (List.range 32).flatMap fun j => if i < 2 ∧ j < 3 then leBytes 2 (if j < 2 then 0x4000 + j else 0x8000) else [0,0]
  hdr ++ pit ++ buf ++ cells
def cans_ : List Can := [ {}, { data := [(0, some [1]), (1, some [2,3])], pend := [0,1], waiting := some { buf := 1, data := [2], kind := 0, latest := 90000 }, recSeq := 65535, lost := true, misses := 2 },
 { data := [(0, some [1]), (1, some [2,3])], cur := some { buf := 1, data := [5], kind := 0, updated := true }, stuck := true, recover := true }, { cur := some { buf := 2, data := [5], kind := 2 }, retries := [2], pend := [2] },
 { data := [(0, some [1]), (1, some [2,3])], pend := [0,1], settling := true},
 { data := [(0, some [1]), (1, some [2,3])], pend := [0,1], fresh := [(1, some { ltc := 100000, before := some [9,9], pended := false })]},
 { data := [(0, some [1]), (1, some [2,3])], pend := [1], fresh := [(0, some { ltc := 100000, before := none, pended := true })], cur := some { buf := 1, data := [5], kind := 0 } }]
def mkN (x : Can) (bs ms v : Nat) : State :=
  let h : Hub := { time := { cclk := true, ltc := 100000 }, keeper := { ready := true, holder := some r } }
  let h := (h.setFunc (fidChannel 5) { life := .on }).setFunc (fidCan 5) { life := .on } |>.setCan 5 x |>.setNum (Obj.chMode 5) modeCan
  let h := h.setNum (Obj.busState 5) bs |>.setNum (Obj.matrixState 5) ms |>.setNum (Obj.scheduleMode 5) (if v = 0 then 0 else 1) |>.setNum (Obj.matrixStart 5) (v % 2) |>.setNum (Obj.refMissLimit 5) 3
  let h := h.setNum (Obj.tec 5) (if v = 0 then 120 else if v = 1 then 250 else 0) |>.setNum (Obj.rec 5) (if v = 2 then 127 else 0) |>.setNum (Obj.canRoute 5) (if v = 3 then 0xFFFF else 8) |>.setNum (Obj.cycleStartLtc 5) 99000 |>.setNum (Obj.basicCycle 5) (v % 2)
  let h := h.setNum (Obj.busOffRecovery 5) (v % 2) |>.setNum (Obj.txReport 5) (v / 2) |>.setNum (Obj.ownFrames 5) v |>.setNum (Obj.nomPrescaler 5) 1 |>.setNum (Obj.nomTseg1 5) 10 |>.setNum (Obj.nomTseg2 5) 9
  let h := h.setOct (Obj.canSchedule 5) mat
  let h := h.setInbox (inboxChannel 5) [{ target := 0, data := [1,0,0,0,7], inPort := 12, route := 0 }]
  { pending := [.fenceAll .pcie], hub := h }
def drvOff (s : State) : State := { s with hub := s.hub.setChan 5 { driverOff := true } }

/-- The hypotheses of each clause of CanErrorStatesAndReception can be met. -/
theorem witness_CanErrorStatesAndReception :
  (∃ s : State, ∃ n : Fin 48, s.hub.isOn (fidCan n.val) = true ∧ s.hub.num (Obj.busState n.val) = canIntegrating ∧ (s.hub.chan n.val).driverOff = false ∧ (s.hub.can n.val).stuck = false)
  ∧ (∃ s : State, ∃ n : Fin 48, s.hub.isOn (fidCan n.val) = true ∧ s.hub.num (Obj.busState n.val) ≠ canIntegrating ∧ (s.hub.chan n.val).driverOff = false ∧ (s.hub.can n.val).stuck = false ∧ (s.hub.can n.val).settling = true)
  ∧ (∃ s : State, ∃ n : Fin 48, ∃ f : CanFrame, ∃ start : BitVec 64, s.hub.isOn (fidCan n.val) = true ∧ s.hub.num (Obj.busState n.val) = canActive ∧ (s.hub.can n.val).stuck = false ∧ (s.hub.can n.val).settling = false ∧ (f.fdf = false ∨ s.hub.flag (Obj.fdEnable n.val) = true) ∧ s.hub.num (Obj.tec n.val) ≤ 127 ∧ s.hub.num (Obj.rec n.val) ≤ 127)
  ∧ (∃ s : State, ∃ n : Fin 48, ∃ e : Fin 6, ∃ dataPhase : Bool, ∃ start : BitVec 64, ∃ special : Bool, ∃ runs : BitVec 8, s.hub.isOn (fidCan n.val) = true ∧ s.hub.num (Obj.busState n.val) ≤ canPassive)
  ∧ (∃ s : State, ∃ n : Fin 48, (s.hub.isOn (fidCan n.val) = true) ∧ ∃ start : BitVec 64, s.hub.num (Obj.busState n.val) ≤ canPassive)
  ∧ (∃ s : State, ∃ n : Fin 48, s.hub.isOn (fidCan n.val) = true ∧ s.hub.num (Obj.busState n.val) = canOff ∧ (s.hub.num (Obj.busOffRecovery n.val) ≠ 1 ∨ (s.hub.can n.val).recover = true))
  ∧ (∃ s : State, ∃ n : Fin 48, s.hub.isOn (fidCan n.val) = true ∧ (s.hub.can n.val).stuck = false)
  ∧ (∃ s : State, ∃ n : Fin 48, s.hub.isOn (fidCan n.val) = true ∧ (s.hub.can n.val).stuck = true) :=
  ⟨⟨mkN (cans_.getD 0 {}) 3 0 0, 5, by decide +kernel⟩,
   ⟨mkN (cans_.getD 4 {}) 0 0 0, 5, by decide +kernel⟩,
   ⟨mkN (cans_.getD 0 {}) 0 0 0, 5, { id := 5, data := [1,2,3], dlc := 3 }, 98000, by decide +kernel⟩,
   ⟨mkN (cans_.getD 0 {}) 0 0 0, 5, 0, false, 98000, false, 0, by decide +kernel⟩,
   ⟨mkN (cans_.getD 0 {}) 0 0 0, 5, by decide +kernel, 98000, by decide +kernel⟩,
   ⟨mkN (cans_.getD 0 {}) 2 0 0, 5, by decide +kernel⟩,
   ⟨mkN (cans_.getD 0 {}) 0 0 0, 5, by decide +kernel⟩,
   ⟨mkN (cans_.getD 2 {}) 0 0 0, 5, by decide +kernel⟩⟩

/-- The hypotheses of each clause of CanScheduleMatrix can be met. -/
theorem witness_CanScheduleMatrix :
  (∃ s : State, ∃ n : Fin 48, ∃ idle : Bool, ∃ (d : Delivered) (ds : List Delivered), s.hub.inbox (inboxChannel n.val) = d :: ds ∧ let m := s.hub.oct (Obj.canSchedule n.val); let b := byteAt d.data 0; s.hub.chanIn n.val modeCan = true ∧ s.hub.isOn (fidCan n.val) = true ∧ (s.hub.chan n.val).driverOff = false ∧ 4 ≤ d.data.length ∧ b < 32 ∧ bufValid m b = true ∧ leAt d.data 1 3 = 0 ∧ d.data.length = 4 + dlcLen (bufFdf m b) (bufDlc m b))
  ∧ (∃ s : State, ∃ n : Fin 48, ∃ j : Fin 32, s.hub.isOn (fidCan n.val) = true ∧ s.hub.canMatrix n.val = true ∧ s.hub.num (Obj.matrixState n.val) = matRunning ∧ s.hub.num (Obj.matrixStart n.val) = 0)
  ∧ (∃ s : State, ∃ n : Fin 48, ∃ j : Fin 32, (s.hub.isOn (fidCan n.val) = true ∧ s.hub.canMatrix n.val = true ∧ s.hub.num (Obj.matrixState n.val) = matRunning) ∧ let x := s.hub.can n.val; let m := s.hub.oct (Obj.canSchedule n.val); let i := s.hub.num (Obj.basicCycle n.val); let b := cellBuf m i j.val; let u := x.atLatch s.hub.now b; let scheduled := j.val < matPitches m ∧ cellKind m i j.val = 1 ∧ s.hub.num (Obj.busState n.val) ≠ canOff ∧ (s.hub.chan n.val).driverOff = false ∧ u.1.isSome = true ∧ (bufEvent m b = false ∨ u.2.1 = true ∧ ∀ k, x.cur = some k → k.buf = b → k.updated = true); scheduled)
  ∧ (∃ s : State, ∃ n : Fin 48, ∃ j : Fin 32, (s.hub.isOn (fidCan n.val) = true ∧ s.hub.canMatrix n.val = true ∧ s.hub.num (Obj.matrixState n.val) = matRunning) ∧ let x := s.hub.can n.val; let m := s.hub.oct (Obj.canSchedule n.val); let i := s.hub.num (Obj.basicCycle n.val); let b := cellBuf m i j.val; let u := x.atLatch s.hub.now b; let f : CanTx := { buf := b, data := u.1.getD [], kind := 0, cycle := i, pitch := j.val, latest := s.hub.latestStart n.val j.val b, updated := u.2.2 }; let scheduled := j.val < matPitches m ∧ cellKind m i j.val = 1 ∧ s.hub.num (Obj.busState n.val) ≠ canOff ∧ (s.hub.chan n.val).driverOff = false ∧ u.1.isSome = true ∧ (bufEvent m b = false ∨ u.2.1 = true ∧ ∀ k, x.cur = some k → k.buf = b → k.updated = true); scheduled ∧ s.hub.canSends n.val = true ∧ x.cur = none ∧ reached f.latest s.hub.now = true)
  ∧ (∃ s : State, ∃ n : Fin 48, ∃ j : Fin 32, (s.hub.isOn (fidCan n.val) = true ∧ s.hub.canMatrix n.val = true ∧ s.hub.num (Obj.matrixState n.val) = matRunning) ∧ let m := s.hub.oct (Obj.canSchedule n.val); let i := s.hub.num (Obj.basicCycle n.val); j.val < matPitches m ∧ cellKind m i j.val = 2)
  ∧ (∃ s : State, ∃ n : Fin 48, ∃ j : Fin 32, s.hub.isOn (fidCan n.val) = true ∧ s.hub.canMatrix n.val = true ∧ s.hub.num (Obj.matrixState n.val) = matRunning ∧ s.hub.num (Obj.matrixStart n.val) = 1)
  ∧ (∃ s : State, ∃ n : Fin 48, ∃ (f : CanTx), (s.hub.can n.val).waiting = some f)
  ∧ (∃ s : State, ∃ n : Fin 48, ∃ (f : CanTx), (s.hub.can n.val).cur = some f) :=
  ⟨⟨mkN (cans_.getD 0 {}) 0 0 0, 5, false, _, _, rfl, by decide +kernel⟩,
   ⟨mkN (cans_.getD 0 {}) 0 2 2, 5, 0, by decide +kernel⟩,
   ⟨mkN (cans_.getD 1 {}) 0 2 1, 5, 0, by decide +kernel, by decide +kernel⟩,
   ⟨mkN (cans_.getD 1 {}) 0 2 1, 5, 0, by decide +kernel, by decide +kernel⟩,
   ⟨mkN (cans_.getD 0 {}) 0 2 1, 5, 2, by decide +kernel, by decide +kernel⟩,
   ⟨mkN (cans_.getD 0 {}) 0 2 1, 5, 0, by decide +kernel⟩,
   ⟨mkN (cans_.getD 1 {}) 0 0 0, 5, _, rfl⟩,
   ⟨mkN (cans_.getD 2 {}) 0 0 0, 5, _, rfl⟩⟩

end Can

namespace Seq

/-! Small states and operands that the witnesses of this family are built from. -/

def r : Requester := { path := .station, unit := 1, ip := 5 }
def words : List Nat := [0x0000,0x0A00, 0x10A5,0x11FF, 0x2008,0x2108,0x2020,0x3008,0x3108,0x3820, 0x4000,0x4100,0x5000,0x5100, 0x6005,0x6105,0x6040,0x6140,0x6080,0x61C0,0x60C0, 0x7003,0x7083,0x7103,0x7183,0x8002,0x8042,0x8082,0x80C2,0x8102,0x9009,0x9109,0x9049,0x9149,0xA009,0xA049,0xB009,0xC009,0xC049,0xC089,0xC0C9,0xD009,0xD049]
def seqs : List SeqState := [
 { run := 1, pc := 63, shifter := 0x80000001, bitCount := 32, ca := 0, cb := 1, flags := 0x0A, events := 4, tx := [5,6], txWords := [7,8,9], last := 3, rx := [], ticks := 100, kick := 7 },
 { run := 1, pc := 5, shifter := 0x12345678, bitCount := 0, ca := 1, cb := 0, flags := 0xFF, tx := [], last := 0xFF, rx := [(1,2),(1,2),(1,2),(1,2),(1,2),(1,2),(1,2),(1,2)], words := [1,2], lost := true, recSeq := 65535, ticks := 3, sigAt := 5, dropAt := 2 },
 { run := 2, pc := 9, shifter := 0x12345678, bitCount := 9, events := 0xFF, tx := [1], rx := [(3,4)], words := [3] },
 { run := 2, pc := 9, shifter := 0x12345678, bitCount := 9, events := 0, tx := [], rx := [(3,4)], sigAt := 5 },
 { run := 0, pc := 9 }]
def mkS (w : Nat) (x : SeqState) (v : Nat) : State :=
  let h : Hub := { time := { cclk := true, ltc := if v = 0 then 100000 else 12 }, keeper := { ready := true, holder := some r } }
  let h := (h.setFunc (fidSeq 3) { life := .on }).setSq 3 x
  let h := h.setSq 4 x
  let prog := (List.range 64).flatMap (fun a => leBytes 2 (if a = x.pc then w else 0))
  let h := h.setOct (Obj.program 3) prog
  let h := (h.setNum (Obj.seqWordBits 3) (if v = 0 then 32 else 8)).setNum (Obj.seqShiftDir 3) v
  let h := ((h.setNum (Obj.seqRoute 3) (if v = 2 then 5 else 0xFFFF)).setNum (Obj.seqMatchCount 3) 9).setNum (Obj.seqSignalMask 3) 0x800011
  let h := ((h.setNum (Obj.seqShiftWidth 3) (if v = 0 then 1 else 4)).setNum (Obj.seqGroup0Mask 3) 0x0F).setNum (Obj.seqGroup1Mask 3) 0xF1
  let h := (((h.setNum (Obj.seqWdAddress 3) 63).setNum (Obj.seqWdLimit 3) 1000).setNum (Obj.seqWdAction 3) v).setNum (Obj.seqRxGap 3) 5
  let h := h.setOct (Obj.seqPinMap 3) ((List.range 8).flatMap (fun p => leBytes 2 (0xA000 + p)))
  let h := (h.setNum (Obj.seqCaReload 3) 77).setNum (Obj.seqCbReload 3) 78
  let h := (List.range 16).foldl (fun h c => (h.setNum (Obj.chMode (16+c)) modeSeq).setFunc (fidChannel (16+c)) { life := .on}) h
  let h := h.setInbox (inboxSeq 3) [{ target := 0, data := leBytes (if v = 0 then 40 else 5) 12345678901234567890, inPort := 0, route := 0 }]
  { pending := [.fenceAll .pcie], hub := h }

/-- The hypotheses of each clause of SequencerControlInstructions can be met. -/
theorem witness_SequencerControlInstructions :
  (∃ s : State, ∃ q : Fin 24, ∃ i : Nat, s.hub.seqRuns q.val i = true ∧ insOp i = 0)
  ∧ (∃ s : State, ∃ q : Fin 24, ∃ i : Nat, s.hub.seqRuns q.val i = true ∧ insOp i = 6 ∧ bits i 7 6 = 0)
  ∧ (∃ s : State, ∃ q : Fin 24, ∃ i : Nat, s.hub.seqRuns q.val i = true ∧ insOp i = 6 ∧ bits i 7 6 = 1)
  ∧ (∃ s : State, ∃ q : Fin 24, ∃ i : Nat, s.hub.seqRuns q.val i = true ∧ insOp i = 6 ∧ bits i 7 6 = 2)
  ∧ (∃ s : State, ∃ q : Fin 24, ∃ i : Nat, s.hub.seqRuns q.val i = true ∧ insOp i = 6 ∧ bits i 7 6 = 3)
  ∧ (∃ s : State, ∃ q : Fin 24, ∃ i : Nat, s.hub.seqRuns q.val i = true ∧ insOp i = 7 ∧ bits i 8 7 = 0)
  ∧ (∃ s : State, ∃ q : Fin 24, ∃ i : Nat, s.hub.seqRuns q.val i = true ∧ insOp i = 7 ∧ bits i 8 7 = 1)
  ∧ (∃ s : State, ∃ q : Fin 24, ∃ i : Nat, s.hub.seqRuns q.val i = true ∧ insOp i = 8)
  ∧ (∃ s : State, ∃ q : Fin 24, ∃ i : Nat, s.hub.seqRuns q.val i = true ∧ insOp i = 9 ∧ bits i 7 6 = 0)
  ∧ (∃ s : State, ∃ q : Fin 24, ∃ i : Nat, s.hub.seqRuns q.val i = true ∧ insOp i = 9 ∧ bits i 7 6 = 1)
  ∧ (∃ s : State, ∃ q : Fin 24, ∃ i : Nat, s.hub.seqRuns q.val i = true ∧ insOp i = 10)
  ∧ (∃ s : State, ∃ q : Fin 24, ∃ i : Nat, s.hub.seqRuns q.val i = true ∧ insOp i = 11)
  ∧ (∃ s : State, ∃ q : Fin 24, ∃ i : Nat, s.hub.seqRuns q.val i = true ∧ insOp i = 12 ∧ bits i 8 6 ≤ 3)
  ∧ (∃ s : State, ∃ q : Fin 24, ∃ i : Nat, s.hub.seqRuns q.val i = true ∧ insOp i = 13) :=
  ⟨⟨mkS (words.getD 0 0) (seqs.getD 0 {}) 0, 3, (words.getD 0 0), by decide +kernel⟩,
   ⟨mkS (words.getD 14 0) (seqs.getD 0 {}) 0, 3, (words.getD 14 0), by decide +kernel⟩,
   ⟨mkS (words.getD 16 0) (seqs.getD 0 {}) 0, 3, (words.getD 16 0), by decide +kernel⟩,
   ⟨mkS (words.getD 18 0) (seqs.getD 0 {}) 0, 3, (words.getD 18 0), by decide +kernel⟩,
   ⟨mkS (words.getD 19 0) (seqs.getD 0 {}) 0, 3, (words.getD 19 0), by decide +kernel⟩,
   ⟨mkS (words.getD 21 0) (seqs.getD 0 {}) 0, 3, (words.getD 21 0), by decide +kernel⟩,
   ⟨mkS (words.getD 22 0) (seqs.getD 0 {}) 0, 3, (words.getD 22 0), by decide +kernel⟩,
   ⟨mkS (words.getD 25 0) (seqs.getD 0 {}) 0, 3, (words.getD 25 0), by decide +kernel⟩,
   ⟨mkS (words.getD 30 0) (seqs.getD 0 {}) 0, 3, (words.getD 30 0), by decide +kernel⟩,
   ⟨mkS (words.getD 32 0) (seqs.getD 0 {}) 0, 3, (words.getD 32 0), by decide +kernel⟩,
   ⟨mkS (words.getD 34 0) (seqs.getD 0 {}) 0, 3, (words.getD 34 0), by decide +kernel⟩,
   ⟨mkS (words.getD 36 0) (seqs.getD 0 {}) 0, 3, (words.getD 36 0), by decide +kernel⟩,
   ⟨mkS (words.getD 37 0) (seqs.getD 0 {}) 0, 3, (words.getD 37 0), by decide +kernel⟩,
   ⟨mkS (words.getD 41 0) (seqs.getD 0 {}) 0, 3, (words.getD 41 0), by decide +kernel⟩⟩

/-- The hypotheses of each clause of SequencerPinInstructions can be met. -/
theorem witness_SequencerPinInstructions :
  (∃ s : State, ∃ q : Fin 24, ∃ i : Nat, s.hub.seqRuns q.val i = true ∧ insOp i = 1)
  ∧ (∃ s : State, ∃ q : Fin 24, ∃ i : Nat, (s.hub.seqRuns q.val i = true) ∧ let w := s.hub.num (Obj.seqShiftWidth q.val); let m := insN i / w; insOp i = 2 ∧ 0 < m)
  ∧ (∃ s : State, ∃ q : Fin 24, ∃ i : Nat, (s.hub.seqRuns q.val i = true) ∧ let x := s.hub.sq q.val; insOp i = 3 ∧ x.shifter < 2 ^ 32) :=
  ⟨⟨mkS (words.getD 2 0) (seqs.getD 0 {}) 0, 3, (words.getD 2 0), by decide +kernel⟩,
   ⟨mkS (words.getD 4 0) (seqs.getD 0 {}) 0, 3, (words.getD 4 0), by decide +kernel, by decide +kernel⟩,
   ⟨mkS (words.getD 7 0) (seqs.getD 0 {}) 0, 3, (words.getD 7 0), by decide +kernel, by decide +kernel⟩⟩

/-- The hypotheses of each clause of SequencerLoadsAndStores can be met. -/
theorem witness_SequencerLoadsAndStores :
  (∃ s : State, ∃ q : Fin 24, ∃ i : Nat, let x := s.hub.sq q.val; ∃ c ∈ [if insClk i then Instr.seqLoadNb q else .seqLoadB q], (s.hub.seqRuns q.val i = true ∧ insOp i = 4) ∧ ∃ v ws, x.tx = v :: ws)
  ∧ (∃ s : State, ∃ q : Fin 24, ∃ i : Nat, let x := s.hub.sq q.val; s.hub.seqRuns q.val i = true ∧ insOp i = 4 ∧ insClk i = false ∧ x.tx = [])
  ∧ (∃ s : State, ∃ q : Fin 24, ∃ i : Nat, let x := s.hub.sq q.val; s.hub.seqRuns q.val i = true ∧ insOp i = 4 ∧ insClk i = true ∧ x.tx = [])
  ∧ (∃ s : State, ∃ q : Fin 24, ∃ i : Nat, let x := s.hub.sq q.val; let full := 8 ≤ x.rx.length; ∃ c ∈ [if insClk i then Instr.seqStoreNb q else .seqStoreB q], s.hub.seqRuns q.val i = true ∧ insOp i = 5 ∧ (¬ full) ∧ s.hub.num (Obj.seqRoute q.val) = 0xFFFF)
  ∧ (∃ s : State, ∃ q : Fin 24, ∃ i : Nat, let x := s.hub.sq q.val; let full := 8 ≤ x.rx.length; s.hub.seqRuns q.val i = true ∧ insOp i = 5 ∧ insClk i = false ∧ full)
  ∧ (∃ s : State, ∃ q : Fin 24, ∃ i : Nat, let x := s.hub.sq q.val; let full := 8 ≤ x.rx.length; s.hub.seqRuns q.val i = true ∧ insOp i = 5 ∧ insClk i = true ∧ full)
  ∧ (∃ s : State, ∃ q : Fin 24, ∃ i : Nat, let x := s.hub.sq q.val; (s.hub.seqWaits q.val i = true ∧ insOp i = 4) ∧ ∃ v ws, x.tx = v :: ws)
  ∧ (∃ s : State, ∃ q : Fin 24, ∃ i : Nat, let x := s.hub.sq q.val; let full := 8 ≤ x.rx.length; s.hub.seqWaits q.val i = true ∧ insOp i = 5 ∧ (¬ full) ∧ s.hub.num (Obj.seqRoute q.val) = 0xFFFF) :=
  ⟨⟨mkS (words.getD 10 0) (seqs.getD 0 {}) 0, 3, (words.getD 10 0), _, List.mem_of_getElem? (i := 0) rfl, by decide +kernel, _, _, rfl⟩,
   ⟨mkS (words.getD 10 0) (seqs.getD 1 {}) 0, 3, (words.getD 10 0), by decide +kernel⟩,
   ⟨mkS (words.getD 11 0) (seqs.getD 1 {}) 0, 3, (words.getD 11 0), by decide +kernel⟩,
   ⟨mkS (words.getD 12 0) (seqs.getD 0 {}) 0, 3, (words.getD 12 0), _, List.mem_of_getElem? (i := 0) rfl, by decide +kernel⟩,
   ⟨mkS (words.getD 12 0) (seqs.getD 1 {}) 0, 3, (words.getD 12 0), by decide +kernel⟩,
   ⟨mkS (words.getD 13 0) (seqs.getD 1 {}) 0, 3, (words.getD 13 0), by decide +kernel⟩,
   ⟨mkS (words.getD 10 0) (seqs.getD 2 {}) 0, 3, (words.getD 10 0), by decide +kernel, _, _, rfl⟩,
   ⟨mkS (words.getD 12 0) (seqs.getD 2 {}) 0, 3, (words.getD 12 0), by decide +kernel⟩⟩

/-- The hypotheses of each clause of SequencerFlagsEventsAndWatchdog can be met. -/
theorem witness_SequencerFlagsEventsAndWatchdog :
  (∃ s : State, ∃ q : Fin 24, ∃ i : Nat, s.hub.seqRuns q.val i = true ∧ insOp i = 7 ∧ bits i 8 7 = 2)
  ∧ (∃ s : State, ∃ q : Fin 24, ∃ i : Nat, s.hub.seqRuns q.val i = true ∧ insOp i = 7 ∧ bits i 8 7 = 3)
  ∧ (∃ s : State, ∃ q : Fin 24, ∃ i : Nat, ∃ rising : Bool, (s.hub.seqWaits q.val i = true ∧ insOp i = 8 ∧ bits i 8 6 ≤ 4) ∧ let x := s.hub.sq q.val; let k := bits i 8 6; let e := bits i 2 0; let met := (k = 0 ∧ rising = true) ∨ (k = 1 ∧ rising = false) ∨ k = 2 ∨ (k = 3 ∧ x.events.testBit e = true) ∨ (k = 4 ∧ x.flags.testBit e = true); met)
  ∧ (∃ s : State, ∃ q : Fin 24, ∃ i : Nat, ∃ rising : Bool, (s.hub.seqWaits q.val i = true ∧ insOp i = 8 ∧ bits i 8 6 ≤ 4) ∧ let x := s.hub.sq q.val; let k := bits i 8 6; let e := bits i 2 0; let met := (k = 0 ∧ rising = true) ∨ (k = 1 ∧ rising = false) ∨ k = 2 ∨ (k = 3 ∧ x.events.testBit e = true) ∨ (k = 4 ∧ x.flags.testBit e = true); (¬ met))
  ∧ (∃ s : State, ∃ path : RegPath, ∃ q : Fin 32, ∃ set_ : BitVec 8, q.val < 24 ∧ (s.hub.func (fidSeq q.val)).inReset = false)
  ∧ (∃ s : State, ∃ q : Fin 24, s.hub.isOn (fidSeq q.val) = true ∧ (s.hub.sq q.val).run ≠ seqIdle ∧ s.hub.num (Obj.seqWdLimit q.val) ≠ 0 ∧ (s.hub.sq q.val).kick ≠ s.hub.now) :=
  ⟨⟨mkS (words.getD 23 0) (seqs.getD 0 {}) 0, 3, (words.getD 23 0), by decide +kernel⟩,
   ⟨mkS (words.getD 24 0) (seqs.getD 0 {}) 0, 3, (words.getD 24 0), by decide +kernel⟩,
   ⟨mkS (words.getD 25 0) (seqs.getD 2 {}) 0, 3, (words.getD 25 0), true, by decide +kernel, by decide +kernel⟩,
   ⟨mkS (words.getD 25 0) (seqs.getD 2 {}) 0, 3, (words.getD 25 0), false, by decide +kernel, by decide +kernel⟩,
   ⟨mkS (words.getD 0 0) (seqs.getD 0 {}) 0, .pcie, 3, 0, by decide +kernel⟩,
   ⟨mkS (words.getD 0 0) (seqs.getD 0 {}) 0, 3, by decide +kernel⟩⟩

/-- The hypotheses of each clause of SequencerRecordsAndPackets can be met. -/
theorem witness_SequencerRecordsAndPackets :
  (∃ s : State, ∃ q : Fin 24, s.hub.num (Obj.seqRxGap q.val) ≠ 0 ∧ (s.hub.sq q.val).words ≠ [])
  ∧ (∃ s : State, ∃ q : Fin 24, ∃ (d : Delivered) (ds : List Delivered), s.hub.inbox (inboxSeq q.val) = d :: ds) :=
  ⟨⟨mkS (words.getD 0 0) (seqs.getD 1 {}) 0, 3, by decide +kernel⟩,
   ⟨mkS (words.getD 0 0) (seqs.getD 0 {}) 0, 3, _, _, rfl⟩⟩

end Seq

namespace Sta

/-! Small states and operands that the witnesses of this family are built from. -/

def macA : List Byte := [2,1,1,1,1,5]
def hdrS (type : Nat) (extra : List Byte) (dst : Nat) : List Byte := beBytes 6 dst ++ [2,9,9,9,9,9] ++ beBytes 2 0x88F7 ++ ([BitVec.ofNat 8 type, 0x12] ++ beBytes 2 64 ++ [0, 0, 0, 0] ++ beBytes 8 3 ++ beBytes 4 0 ++ beBytes 10 77 ++ beBytes 2 6 ++ [0,0] ++ extra ++ List.replicate 40 0)
def gb (h : Hub) : Hub := h.setOct (Obj.gocbRef 3) [65,66] |>.setOct (Obj.gocbDataset 3) [67] |>.setOct (Obj.gocbId 3) [68] |>.setOct (Obj.gocbMembers 3) [1,2,7,0, 5,0,9,0] |>.setOct (Obj.gocbDestMac 3) [1,2,3,4,5,6] |>.setNum (Obj.gocbAppid 3) 9 |>.setNum (Obj.gocbConfrev 3) 4
def gfr (st sq tal : Nat) : List Byte := let h := gb {}; Hub.gooseFrame { h with dict := SMap.put h.dict (Obj.macAddress 0) (.oct macA) } 3 tal st sq 5 (h.allData 3)
def grec (st sq tal : Nat) : Delivered := { target := 0x100, data := [0x40, 0, 0,0,0,0,0,0] ++ leBytes 8 44 ++ gfr st sq tal, inPort := 14, route := 0 }
def dl (t : Nat) (d : List Byte) : Delivered := { target := t, data := d, inPort := 16, route := 0 }
def inb : List (List Delivered) := [ [dl 2 ([2,0,0,0,16,0,0,0] ++ List.replicate 8 0 ++ leBytes 8 777 ++ List.replicate 6 0 ++ [7, 0x82]), dl 1 [1]], [dl 2 [9,9]], [dl 2 ([0x42,9,0,0,8,0,0,0] ++ leBytes 8 333 ++ leBytes 4 1 ++ [4,0,0,0])], [grec 5 3 100, dl 1 [2]], [grec 5 3 0], [grec 7 3 100] ]
def mkSt (red v : Nat) (ib : List Delivered) (ib2 : List Delivered) (tx : List StaTx) : State :=
  let h : Hub := { time := { cclk := true, ltc := 100000 } }
  let h := gb h
  let h := h.setFunc (fidStation 0) { life := .on } |>.setFunc (fidStation 1) { life := if v = 1 then .off else .on } |>.setFunc fidPtp { life := if v = 2 then .off else .on } |>.setFunc (fidGocb 3) { life := .on } |>.setFunc (fidSub 6) { life := .on }
  let h := h.setNum (Obj.staPortLinkState 0) (if v = 3 then 0 else 1) |>.setNum (Obj.staPortLinkState 1) (if v = 3 then 2 else 1) |>.setNum Obj.staRedundancy red |>.setNum (Obj.promiscuous 1) 1
  let h := h.setNum Obj.defaultRoute (if v = 4 then 0xFFFF else 12) |>.setNum Obj.ptpPortMask 3 |>.setNum (Obj.portStateA) (if v = 0 then psMaster else psSlave) |>.setNum (Obj.portStateA + 1) (if v = 0 then psPreMaster else psSlave) |>.setNum Obj.ptpSlaveOnly (if v = 0 then 0 else 1)
  let h := h.setPtpPort 0 { foreign := [{ id := 77, n := 3, prio1 := 1, cls := 6, acc := 1, var := 1, prio2 := 1, gm := 9, steps := 0 }], pdSeq := 65535, syncSeq := 65535, pdWait := true, delay := 5 }
  let h := h.setNum (Obj.subState 6) (v % 4) |>.setNum (Obj.lastStNum 6) 5 |>.setNum (Obj.lastSqNum 6) (if v = 5 then 1 else 2) |>.setOct (Obj.subDestMac 6) [1,2,3,4,5,6] |>.setNum (Obj.subAppid 6) 9 |>.setOct (Obj.subGocbRef 6) [65,66] |>.setNum (Obj.subConfrev 6) (if v = 4 then 5 else 4) |>.setNum (Obj.subEntries 6) 2 |>.setOct (Obj.subMap 6) [0,0xFF,1,0,0,3,0,0]
  let h := { h with sta := { h.sta with nodes := [5, 6], seq := 65535, supSeq := 65535, dups := [(7, 6), (7, 7)], tx := [(0, tx)], silent := if v = 1 then [(0, true)] else [] }, goose := { h.goose with interval := [(3, 10)] } }
  let h := { h with dict := SMap.put (SMap.put h.dict (Obj.macAddress 0) (.oct macA)) (Obj.macAddress 1) (.oct [2,1,1,1,1,6]) }
  let h := h.setInbox inboxService ib |>.setInbox (inboxStation 0) ib2
  { pending := [.fenceAll .pcie], hub := h }
def txs : List (List StaTx) := [ [], [{ rank := 2, frame := [1,2,3] }, { rank := 1, frame := [4] }] ]

/-- The hypotheses of each clause of StationPortsReceiveAndSend can be met. -/
theorem witness_StationPortsReceiveAndSend :
  (∃ s : State, ∃ b : Bool, ∃ f : List Byte, ∃ start : PhyStamp, ∃ ok : Bool, s.hub.staUp (staIx b) = true)
  ∧ (∃ s : State, ∃ b : Bool, ∃ f : List Byte, ∃ start : PhyStamp, s.hub.staUp (staIx b) = true ∧ s.hub.red = redPrp ∧ 60 ≤ f.length ∧ f.length ≤ 1524 ∧ ethType f = 0x88FB ∧ s.hub.staAccepts (staIx b) f = true ∧ rctOf f = none ∧ s.hub.sta.nodes.contains (beAt f (ethOff f + 8) 6) = false ∧ s.hub.sta.nodes.length < 256)
  ∧ (∃ s : State, ∃ b : Bool, ∃ (d : Delivered) (ds : List Delivered), s.hub.inbox (inboxStation (staIx b)) = d :: ds ∧ s.hub.red = redNone)
  ∧ (∃ s : State, ∃ b : Bool, ∃ start : PhyStamp, (s.hub.flag Obj.hubFault = false ∧ s.hub.sends (fidStation (staIx b)) = true ∧ s.hub.num (Obj.staPortLinkState (staIx b)) = 1) ∧ ∃ x, nextTx (s.hub.staTx (staIx b)) = some x ∧ x.ins = none ∧ x.echo = none ∧ x.tag = 0 ∧ x.ptp = 0)
  ∧ (∃ s : State, s.hub.red ≠ redNone ∧ s.hub.staUp 0 = true ∧ s.hub.staUp 1 = true)
  ∧ (∃ s : State, ∃ b : Bool, s.hub.red ≠ redNone)
  ∧ (∃ s : State, ∃ b : Bool, s.hub.isOn (fidStation (staIx b)) = true ∧ s.hub.num (Obj.staPortLinkState (staIx b)) ≠ 1)
  ∧ (∃ s : State, ∃ b : Bool, s.hub.num (Obj.staPortLinkState (staIx b)) ≠ 0) :=
  ⟨⟨mkSt 0 0 (inb.getD 0 []) [dl 0 (if 0 = 1 then [1] else List.replicate 20 3), dl 0 [2]] (txs.getD 0 []), false, [1,2], ⟨90000, 0⟩, false, by decide +kernel⟩,
   ⟨mkSt 1 0 (inb.getD 0 []) [dl 0 (if 0 = 1 then [1] else List.replicate 20 3), dl 0 [2]] (txs.getD 0 []), false, beBytes 6 0xFFFFFFFFFFFF ++ [2,9,9,9,9,9, 0x88, 0xFB, 0,1,0,4] ++ [20, 6, 2,9,9,9,9,8] ++ List.replicate 50 0, ⟨90000, 0⟩, by decide +kernel⟩,
   ⟨mkSt 0 0 (inb.getD 0 []) [dl 0 (if 0 = 1 then [1] else List.replicate 20 3), dl 0 [2]] (txs.getD 0 []), false, _, _, rfl, by decide +kernel⟩,
   ⟨mkSt 0 0 (inb.getD 0 []) [dl 0 (if 0 = 1 then [1] else List.replicate 20 3), dl 0 [2]] (txs.getD 1 []), false, ⟨90000, 0⟩, by decide +kernel, _, rfl, by decide +kernel⟩,
   ⟨mkSt 1 0 (inb.getD 0 []) [dl 0 (if 0 = 1 then [1] else List.replicate 20 3), dl 0 [2]] (txs.getD 0 []), by decide +kernel⟩,
   ⟨mkSt 1 0 (inb.getD 0 []) [dl 0 (if 0 = 1 then [1] else List.replicate 20 3), dl 0 [2]] (txs.getD 0 []), false, by decide +kernel⟩,
   ⟨mkSt 0 3 (inb.getD 3 []) [dl 0 (if 3 = 1 then [1] else List.replicate 20 3), dl 0 [2]] (txs.getD 0 []), false, by decide +kernel⟩,
   ⟨mkSt 0 0 (inb.getD 0 []) [dl 0 (if 0 = 1 then [1] else List.replicate 20 3), dl 0 [2]] (txs.getD 0 []), false, by decide +kernel⟩⟩

/-- The hypotheses of each clause of PtpMessagesMoveTheUnit can be met. -/
theorem witness_PtpMessagesMoveTheUnit :
  (∃ s : State, ∃ b : Bool, ∃ f : List Byte, ∃ start : PhyStamp, let p := staIx b; let m := f.drop (ptpOff f); s.hub.staUp p = true ∧ s.hub.ptpServes p = true ∧ s.hub.red = redNone ∧ ethType f = 0x88F7 ∧ 60 ≤ f.length ∧ f.length ≤ 1518 ∧ s.hub.staAccepts p f = true ∧ byteAt m 4 = s.hub.ptpDomain ∧ byteAt m 0 % 16 = ptPdelayReq)
  ∧ (∃ s : State, ∃ b : Bool, ∃ f : List Byte, ∃ start : PhyStamp, let p := staIx b; let m := f.drop (ptpOff f); s.hub.staUp p = true ∧ s.hub.ptpServes p = true ∧ s.hub.red = redNone ∧ ethType f = 0x88F7 ∧ 60 ≤ f.length ∧ f.length ≤ 1518 ∧ s.hub.staAccepts p f = true ∧ byteAt m 4 = s.hub.ptpDomain ∧ byteAt m 0 % 16 = ptAnnounce ∧ (announceSet m).id / 65536 ≠ beNat s.hub.clockId ∧ (announceSet m).steps < 255)
  ∧ (∃ s : State, ∃ b : Bool, ∃ f : List Byte, ∃ start : PhyStamp, let p := staIx b; let m := f.drop (ptpOff f); s.hub.staUp p = true ∧ s.hub.ptpServes p = true ∧ s.hub.red = redNone ∧ ethType f = 0x88F7 ∧ 60 ≤ f.length ∧ f.length ≤ 1518 ∧ s.hub.staAccepts p f = true ∧ byteAt m 4 = s.hub.ptpDomain ∧ byteAt m 0 % 16 = ptSync ∧ msgTwoStep m = false ∧ s.hub.ptpState p = psSlave ∧ s.hub.ptpParent.map (·.id) = some (msgSrc m))
  ∧ (∃ s : State, ∃ b : Bool, let p := staIx b; s.hub.ptpLive p = true ∧ s.hub.ptpState p = psMaster)
  ∧ (∃ s : State, ∃ b : Bool, let p := staIx b; s.hub.ptpLive p = true ∧ s.hub.ptpState p = psPreMaster) :=
  ⟨⟨mkSt 0 0 (inb.getD 0 []) [dl 0 (if 0 = 1 then [1] else List.replicate 20 3), dl 0 [2]] (txs.getD 0 []), false, hdrS 2 [] 0x0180C200000E, ⟨90000, 0⟩, by decide +kernel⟩,
   ⟨mkSt 0 0 (inb.getD 0 []) [dl 0 (if 0 = 1 then [1] else List.replicate 20 3), dl 0 [2]] (txs.getD 0 []), false, hdrS 11 [] 0x011B19000000, ⟨90000, 0⟩, by decide +kernel⟩,
   ⟨mkSt 0 1 (inb.getD 1 []) [dl 0 (if 1 = 1 then [1] else List.replicate 20 3), dl 0 [2]] (txs.getD 0 []), false, hdrS 0 (beBytes 10 5) 0x011B19000000, ⟨90000, 0⟩, by decide +kernel⟩,
   ⟨mkSt 0 0 (inb.getD 0 []) [dl 0 (if 0 = 1 then [1] else List.replicate 20 3), dl 0 [2]] (txs.getD 0 []), false, by decide +kernel⟩,
   ⟨mkSt 0 0 (inb.getD 0 []) [dl 0 (if 0 = 1 then [1] else List.replicate 20 3), dl 0 [2]] (txs.getD 0 []), true, by decide +kernel⟩⟩

/-- The hypotheses of each clause of GooseBlocksAndSubscriptions can be met. -/
theorem witness_GooseBlocksAndSubscriptions :
  (∃ s : State, ∃ g : Fin 128, ∃ (d : Delivered) (ds : List Delivered), s.hub.inbox inboxService = d :: ds ∧ d.target < 64 ∧ byteAt d.data 0 = 0x02 ∧ d.data.length = 32 ∧ leAt d.data 4 2 = 16)
  ∧ (∃ s : State, ∃ g : Fin 128, ∃ (d : Delivered) (ds : List Delivered), s.hub.inbox inboxService = d :: ds ∧ d.target < 64 ∧ byteAt d.data 0 ≠ 0x42 ∧ byteAt d.data 0 ≠ 0x02)
  ∧ (∃ s : State, ∃ g : Fin 128, ∃ (d : Delivered) (ds : List Delivered), s.hub.inbox inboxService = d :: ds ∧ d.target < 64 ∧ byteAt d.data 0 = 0x42 ∧ d.data.length = 24 ∧ leAt d.data 4 2 = 8)
  ∧ (∃ s : State, ∃ g : Fin 128, s.hub.isOn (fidGocb g.val) = true ∧ s.hub.gocbSends g.val = true ∧ SMap.get (fun _ => 0) s.hub.goose.newAt g.val ≠ s.hub.now + 1)
  ∧ (∃ s : State, ∃ u : Fin 256, ∃ (d : Delivered) (ds : List Delivered), s.hub.inbox inboxService = d :: ds ∧ (d.target = 0x100) ∧ let p := decodeGoose (d.data.drop 16); 16 ≤ d.data.length ∧ byteAt d.data 0 = 0x40 ∧ s.hub.subMatches u.val p = true ∧ p.bool 0x87 = false)
  ∧ (∃ s : State, ∃ u : Fin 256, s.hub.isOn (fidSub u.val) = true ∧ s.hub.num (Obj.subState u.val) = subValid ∧ SMap.get (fun _ => 0) s.hub.goose.subAt u.val ≠ s.hub.now + 1)
  ∧ (∃ s : State, ∃ u : Fin 256, s.hub.isOn (fidSub u.val) = true ∧ s.hub.num (Obj.subState u.val) = subWaiting) :=
  ⟨⟨mkSt 0 0 (inb.getD 0 []) [dl 0 (if 0 = 1 then [1] else List.replicate 20 3), dl 0 [2]] (txs.getD 0 []), 3, _, _, rfl, by decide +kernel⟩,
   ⟨mkSt 0 1 (inb.getD 1 []) [dl 0 (if 1 = 1 then [1] else List.replicate 20 3), dl 0 [2]] (txs.getD 0 []), 3, _, _, rfl, by decide +kernel⟩,
   ⟨mkSt 0 2 (inb.getD 2 []) [dl 0 (if 2 = 1 then [1] else List.replicate 20 3), dl 0 [2]] (txs.getD 0 []), 3, _, _, rfl, by decide +kernel⟩,
   ⟨mkSt 0 0 (inb.getD 0 []) [dl 0 (if 0 = 1 then [1] else List.replicate 20 3), dl 0 [2]] (txs.getD 0 []), 3, by decide +kernel⟩,
   ⟨mkSt 0 3 (inb.getD 3 []) [dl 0 (if 3 = 1 then [1] else List.replicate 20 3), dl 0 [2]] (txs.getD 0 []), 6, _, _, rfl, by decide +kernel, by decide +kernel⟩,
   ⟨mkSt 0 1 (inb.getD 1 []) [dl 0 (if 1 = 1 then [1] else List.replicate 20 3), dl 0 [2]] (txs.getD 0 []), 6, by decide +kernel⟩,
   ⟨mkSt 0 0 (inb.getD 0 []) [dl 0 (if 0 = 1 then [1] else List.replicate 20 3), dl 0 [2]] (txs.getD 0 []), 6, by decide +kernel⟩⟩

end Sta

namespace Duplex

/-! Small states and operands that the witnesses of this family are built from. -/

def digest : Nat := ({} : Hub).dupDigest
def mkD (role st : Nat) (d : Duplex) (v : Nat) : State :=
  let h : Hub := { time := { cclk := true, ltc := 100000, ccNumber := 0xFFFFFFFE } }
  let h := h.setNum Obj.joinState joinMember |>.setNum Obj.nodeIdInUse 5 |>.setNum Obj.memberMap 0x13 |>.setNum Obj.role role |>.setNum Obj.swapState st |>.setNum Obj.dupGroup 1
  let h := h.setNum Obj.claim 7 |>.setNum Obj.maxClaimSeen (if v = 1 then 9 else 7) |>.setNum Obj.peerNode 2 |>.setNum Obj.mirrorSeqApplied 4 |>.setNum Obj.mirrorState (v % 3) |>.setNum (Obj.recordedClaim 0) 8
  let h := ([fidChannel 3, fidPort 0, fidPort 12, fidPort 13, fidPort 16, fidPort 17].foldl (fun h f => h.setFunc f { life := .on }) h).setNum (Obj.rportLinkState 0) (if v = 2 then 0 else linkUp) |>.setNum (Obj.rportLinkState 1) linkUp |>.setNum (Obj.chMode 3) modeBout |>.setNum (Obj.boutGroup 3) (if v = 2 then 2 else if v = 1 then 1 else 0) |>.setNum (Obj.recordedClaim 1) 6 |>.setNum Obj.mismatchRun (if v = 1 then 60000 else 0)
  let h := { h with duplex := d }
  let h := h.setInbox inboxCmd (if v = 0 then [{ target := 0, data := [1,2], inPort := 16, route := 0 }] else [{ target := 0, data := [9,9,9,9,(if v = 2 && st = 2 then 1 else 3),1,3,4, 1,0,0,0, 0,0,0,0, (if v = 2 then 2 else 0),0,0,0], inPort := 16, route := 0, queue := 2, credits := 3 }, { target := 0, data := [1,2], inPort := 16, route := 0 }])
  { pending := [.fenceAll .pcie], hub := h }
def ds_ : List Duplex := [ {}, { persisting := some (.start, 9), persisted := 4 }, { persisting := some (.takeover, 9) }, { persisting := some (.swap, 9), swapK := 3 }, { persisting := some (.dropped, 9) }, { ready := some (12, 1) }, { ready := some (12, 2), swapK := 0xFFFFFFFF, outs := [(1283, { s := some (1, 0), sRec := List.replicate 16 0 })] }, { outs := [(1283, { a := some (1,2), win := true })], requested := true, swapK := 4 }, { digestDiffers := true, prepareSeq := 9 } ]
def ok_ (f : RingFrame) : RingFrame := { f with trailer := f.trailerOf }
def cl (sub role arg claim : Nat) (dg : Nat := ({ (mkD 0 0 {} 0).hub with freeCtr := 0 }).dupDigest) : RingFrame := { dst := 127, src := 2, cls := 0, type := tClaim, path := 3, claim := claim, seq := 3, payload := [BitVec.ofNat 8 sub, 1, 0, BitVec.ofNat 8 role] ++ beBytes 4 0 ++ beBytes 4 dg ++ beBytes 4 3 ++ beBytes 4 4 ++ beBytes 4 arg }
def cmdf (c claim : Nat) (g : Nat) : RingFrame := { dst := 5, src := 2, cls := 0, type := tCmd, path := 3, claim := c, seq := 3, payload := leBytes 4 claim ++ [BitVec.ofNat 8 g, 1, 3, 0, 0,0,0,0,0,0,0,0, 0,0,0,0] }
def rfs : List RingFrame := ([cl 0 4 0 20, cl 0 4 1 20, cl 0 3 0 6, cl 0 2 4 6, cl 1 3 0 6, cl 2 4 3 6, cl 2 4 9 6, cl 3 3 0 6, cl 4 4 77 6, cl 5 4 0 6, cl 6 3 1 6, cl 6 3 2 6, cl 1 3 0 6 99, cmdf 9 9 0, cmdf 9 8 0, cmdf 9 9 2, cmdf 3 3 2, { cmdf 3 3 2 with dst := 9 }, { cmdf 3 3 2 with dst := 9, cls := 4, type := tData, path := 1 }, { cmdf 9 9 0 with payload := (cmdf 9 9 0).payload ++ [0,0,0,0] }, { cmdf 9 9 2 with payload := (cmdf 9 9 2).payload ++ [0,0,0,0] }, { cmdf 3 3 2 with payload := (cmdf 3 3 2).payload ++ [0,0,0,0] }]).map ok_

/-- The hypotheses of each clause of SupervisorRolesAndClaims can be met. -/
theorem witness_SupervisorRolesAndClaims :
  (∃ s : State, s.hub.num Obj.role = roleListening)
  ∧ (∃ s : State, let c := max s.hub.highestClaim s.hub.duplex.peerPersisted + 1; s.hub.num Obj.role = roleContending ∧ s.hub.duplex.persisting = none ∧ c ≤ 0xFFFFFFFF)
  ∧ (∃ s : State, let c := max s.hub.highestClaim s.hub.duplex.peerPersisted + 1; s.hub.num Obj.role = roleStandby ∧ s.hub.duplex.ready = none ∧ s.hub.duplex.persisting = none ∧ c ≤ 0xFFFFFFFF ∧ s.hub.duplex.digestDiffers = false ∧ s.hub.num Obj.dupMismatchLimit ≤ s.hub.num Obj.mismatchRun)
  ∧ (∃ s : State, (s.hub.duplex.digestDiffers = true ∨ s.hub.num Obj.mismatchRun < s.hub.num Obj.dupMismatchLimit))
  ∧ (∃ s : State, s.hub.num Obj.role = roleActive)
  ∧ (∃ s : State, ∃ node : Fin 128, ∃ c : BitVec 8, let k := node.val * 256 + c.toNat; let o := s.hub.dupOut k; o.win = true)
  ∧ (∃ s : State, ∃ ok : Bool, ∃ p, s.hub.duplex.persisting = some p ∧ p.1 ≠ Persist.dropped)
  ∧ (∃ s : State, ∃ west : Bool, ∃ f : RingFrame, s.hub.claimFromPeer west f 0 = true) :=
  ⟨⟨mkD 1 0 (ds_.getD 0 {}) 0, by decide +kernel⟩,
   ⟨mkD 2 0 (ds_.getD 0 {}) 0, by decide +kernel⟩,
   ⟨mkD 3 0 (ds_.getD 0 {}) 1, by decide +kernel⟩,
   ⟨mkD 0 0 (ds_.getD 0 {}) 0, by decide +kernel⟩,
   ⟨mkD 4 0 (ds_.getD 0 {}) 0, by decide +kernel⟩,
   ⟨mkD 0 0 (ds_.getD 7 {}) 0, 5, 3, by decide +kernel⟩,
   ⟨mkD 0 0 (ds_.getD 1 {}) 0, false, _, rfl, by decide +kernel⟩,
   ⟨mkD 1 0 (ds_.getD 0 {}) 0, false, (rfs.getD 0 { dst := 0, cls := 0, type := 0 }), by decide +kernel⟩⟩

/-- The hypotheses of each clause of PlannedSwapMovesRoles can be met. -/
theorem witness_PlannedSwapMovesRoles :
  (∃ s : State, ∃ west : Bool, ∃ f : RingFrame, let h := s.hub.claimHeard west f; let active := h.num Obj.role = roleActive; s.hub.claimFromPeer west f 1 = true ∧ active)
  ∧ (∃ s : State, ∃ west : Bool, ∃ f : RingFrame, let h := s.hub.claimHeard west f; let standby := h.num Obj.role = roleStandby; s.hub.claimFromPeer west f 2 = true ∧ standby ∧ h.duplex.digestDiffers = false)
  ∧ (∃ s : State, ∃ west : Bool, ∃ f : RingFrame, let h := s.hub.claimHeard west f; let active := h.num Obj.role = roleActive; s.hub.claimFromPeer west f 3 = true ∧ active ∧ h.num Obj.swapState = swapPrepare)
  ∧ (∃ s : State, ∃ west : Bool, ∃ f : RingFrame, let h := s.hub.claimHeard west f; let standby := h.num Obj.role = roleStandby; let c := max h.highestClaim h.duplex.peerPersisted + 1; s.hub.claimFromPeer west f 4 = true ∧ standby ∧ c ≤ 0xFFFFFFFF)
  ∧ (∃ s : State, ∃ west : Bool, ∃ f : RingFrame, let h := s.hub.claimHeard west f; let standby := h.num Obj.role = roleStandby; s.hub.claimFromPeer west f 5 = true ∧ standby)
  ∧ (∃ s : State, ∃ west : Bool, ∃ f : RingFrame, let h := s.hub.claimHeard west f; let active := h.num Obj.role = roleActive; s.hub.claimFromPeer west f 6 = true ∧ active ∧ h.num Obj.swapState = swapPrepare)
  ∧ (∃ s : State, ∃ west : Bool, ∃ f : RingFrame, let h := s.hub.claimHeard west f; let standby := h.num Obj.role = roleStandby; s.hub.claimFromPeer west f 6 = true ∧ standby)
  ∧ (∃ s : State, s.hub.sinceK ≠ some 0)
  ∧ (∃ s : State, s.hub.sinceK = some 0 ∧ s.hub.num Obj.role = roleActive)
  ∧ (∃ s : State, (s.hub.sinceK = some 0 ∧ s.hub.num Obj.role = roleStandby) ∧ ∃ p, s.hub.duplex.ready = some p ∧ p.2 = gainedSwap ∧ s.hub.claimUsed p.1 = false)
  ∧ (∃ s : State, s.hub.num Obj.role = roleActive ∧ s.hub.num Obj.swapState = swapPrepare)
  ∧ (∃ s : State, s.hub.num Obj.role = roleHandover) :=
  ⟨⟨mkD 4 0 (ds_.getD 0 {}) 0, false, (rfs.getD 4 { dst := 0, cls := 0, type := 0 }), by decide +kernel⟩,
   ⟨mkD 3 0 (ds_.getD 0 {}) 0, false, (rfs.getD 5 { dst := 0, cls := 0, type := 0 }), by decide +kernel⟩,
   ⟨mkD 4 1 (ds_.getD 0 {}) 0, false, (rfs.getD 7 { dst := 0, cls := 0, type := 0 }), by decide +kernel⟩,
   ⟨mkD 3 0 (ds_.getD 0 {}) 0, false, (rfs.getD 8 { dst := 0, cls := 0, type := 0 }), by decide +kernel⟩,
   ⟨mkD 3 0 (ds_.getD 0 {}) 0, false, (rfs.getD 9 { dst := 0, cls := 0, type := 0 }), by decide +kernel⟩,
   ⟨mkD 4 1 (ds_.getD 0 {}) 0, false, (rfs.getD 10 { dst := 0, cls := 0, type := 0 }), by decide +kernel⟩,
   ⟨mkD 3 0 (ds_.getD 0 {}) 0, false, (rfs.getD 10 { dst := 0, cls := 0, type := 0 }), by decide +kernel⟩,
   ⟨mkD 0 0 (ds_.getD 0 {}) 0, by decide +kernel⟩,
   ⟨mkD 4 0 (ds_.getD 6 {}) 0, by decide +kernel⟩,
   ⟨mkD 3 0 (ds_.getD 6 {}) 0, by decide +kernel, _, rfl, by decide +kernel⟩,
   ⟨mkD 4 1 (ds_.getD 0 {}) 0, by decide +kernel⟩,
   ⟨mkD 5 0 (ds_.getD 0 {}) 0, by decide +kernel⟩⟩

/-- The hypotheses of each clause of CommandsReachOutputsUnderTheirClaim can be met. -/
theorem witness_CommandsReachOutputsUnderTheirClaim :
  (∃ s : State, ∃ (d : Delivered) (ds : List Delivered), s.hub.inbox inboxCmd = d :: ds ∧ let node := byteAt d.data 16; let good := d.data.length = 20 ∧ leAt d.data 17 3 = 0 ∧ node ≤ 64; (¬ good))
  ∧ (∃ s : State, ∃ (d : Delivered) (ds : List Delivered), s.hub.inbox inboxCmd = d :: ds ∧ let h := (s.hub.setInbox inboxCmd ds).packetTaken { data := d.data, queue := d.queue, credits := d.credits, descs := d.descs } true; let node := byteAt d.data 16; let c := recChannel d.data; let here := node = 0 ∨ node = h.self; let g := if here ∧ c < 192 then h.num (Obj.boutGroup c) else recGroup d.data; let r := leBytes 4 (if h.inGroup g = true then d.claim else 0) ++ [BitVec.ofNat 8 g] ++ slice d.data 5 2 ++ [2] ++ slice d.data 8 8; let good := d.data.length = 20 ∧ leAt d.data 17 3 = 0 ∧ node ≤ 64; let goes := h.inGroup (recGroup r) = false ∨ h.flag Obj.hubFault = false ∧ h.num Obj.role = roleActive; good ∧ goes ∧ here ∧ c < 192)
  ∧ (∃ s : State, ∃ (d : Delivered) (ds : List Delivered), s.hub.inbox inboxCmd = d :: ds ∧ let h := (s.hub.setInbox inboxCmd ds).packetTaken { data := d.data, queue := d.queue, credits := d.credits, descs := d.descs } true; let node := byteAt d.data 16; let c := recChannel d.data; let here := node = 0 ∨ node = h.self; let g := if here ∧ c < 192 then h.num (Obj.boutGroup c) else recGroup d.data; let r := leBytes 4 (if h.inGroup g = true then d.claim else 0) ++ [BitVec.ofNat 8 g] ++ slice d.data 5 2 ++ [2] ++ slice d.data 8 8; let good := d.data.length = 20 ∧ leAt d.data 17 3 = 0 ∧ node ≤ 64; let goes := h.inGroup (recGroup r) = false ∨ h.flag Obj.hubFault = false ∧ h.num Obj.role = roleActive; good ∧ goes ∧ (¬ here) ∧ h.flag Obj.hubFault = false)
  ∧ (∃ s : State, ∃ (d : Delivered) (ds : List Delivered), s.hub.inbox inboxCmd = d :: ds ∧ let h := (s.hub.setInbox inboxCmd ds).packetTaken { data := d.data, queue := d.queue, credits := d.credits, descs := d.descs } true; let node := byteAt d.data 16; let c := recChannel d.data; let here := node = 0 ∨ node = h.self; let g := if here ∧ c < 192 then h.num (Obj.boutGroup c) else recGroup d.data; let r := leBytes 4 (if h.inGroup g = true then d.claim else 0) ++ [BitVec.ofNat 8 g] ++ slice d.data 5 2 ++ [2] ++ slice d.data 8 8; let good := d.data.length = 20 ∧ leAt d.data 17 3 = 0 ∧ node ≤ 64; good ∧ h.inGroup (recGroup r) = true ∧ h.flag Obj.hubFault = false ∧ h.num Obj.role = roleStandby)
  ∧ (∃ s : State, ∃ (d : Delivered) (ds : List Delivered), s.hub.inbox inboxCmd = d :: ds ∧ let h := (s.hub.setInbox inboxCmd ds).packetTaken { data := d.data, queue := d.queue, credits := d.credits, descs := d.descs } true; let node := byteAt d.data 16; let c := recChannel d.data; let here := node = 0 ∨ node = h.self; let g := if here ∧ c < 192 then h.num (Obj.boutGroup c) else recGroup d.data; let r := leBytes 4 (if h.inGroup g = true then d.claim else 0) ++ [BitVec.ofNat 8 g] ++ slice d.data 5 2 ++ [2] ++ slice d.data 8 8; let good := d.data.length = 20 ∧ leAt d.data 17 3 = 0 ∧ node ≤ 64; good ∧ h.inGroup (recGroup r) = true ∧ (h.flag Obj.hubFault = true ∨ h.num Obj.role ≠ roleActive ∧ h.num Obj.role ≠ roleStandby))
  ∧ (∃ s : State, ∃ west : Bool, ∃ f : RingFrame, (f.dst = s.hub.self ∧ s.hub.admits west f = true ∧ f.type = tCmd) ∧ let r := f.payload.take 16; let c := recChannel r; c < 192 ∧ (f.payload.length ≠ 20 ∨ recClaim r ≠ f.claim))
  ∧ (∃ s : State, ∃ west : Bool, ∃ f : RingFrame, (f.dst = s.hub.self ∧ s.hub.admits west f = true ∧ f.type = tCmd) ∧ let r := f.payload.take 16; let c := recChannel r; let h := s.hub.afterWindow west f; let x := h.crossCore (12 + portIx west) (c / 16) f; (c < 192 ∧ f.payload.length = 20 ∧ recClaim r = f.claim ∧ x.1 = true ∧ recGroup r = s.hub.num (Obj.boutGroup c) ∧ recCmd r ≤ 3 ∧ leAt r 12 4 = 0 ∧ recPulse r ≤ 60000 ∧ s.hub.chanIn c modeBout = true ∧ s.hub.flag Obj.hubFault = false ∧ s.hub.num (Obj.boutShape c) ≠ 2) ∧ ∃ t, t = s.withHub ((x.2.boutCommand c (r.take 7 ++ [3] ++ r.drop 8)).snoop f) ∧ s.hub.recorded (recGroup r) ≤ recClaim r ∧ s.hub.commandedNow c = false ∧ 1 ≤ recGroup r ∧ recGroup r ≤ 32)
  ∧ (∃ s : State, ∃ west : Bool, ∃ f : RingFrame, (f.dst = s.hub.self ∧ s.hub.admits west f = true ∧ f.type = tCmd) ∧ let r := f.payload.take 16; let c := recChannel r; let h := s.hub.afterWindow west f; let x := h.crossCore (12 + portIx west) (c / 16) f; (c < 192 ∧ f.payload.length = 20 ∧ recClaim r = f.claim ∧ x.1 = true ∧ recGroup r = s.hub.num (Obj.boutGroup c) ∧ recCmd r ≤ 3 ∧ leAt r 12 4 = 0 ∧ recPulse r ≤ 60000 ∧ s.hub.chanIn c modeBout = true ∧ s.hub.flag Obj.hubFault = false ∧ s.hub.num (Obj.boutShape c) ≠ 2) ∧ ∃ t, t = s.withHub ((x.2.boutCommand c (r.take 7 ++ [3] ++ r.drop 8)).snoop f) ∧ recClaim r < s.hub.recorded (recGroup r))
  ∧ (∃ s : State, ∃ west : Bool, ∃ f : RingFrame, ((s.hub.frameArrives west f).1 = true ∧ s.hub.strips f = false ∧ neighbourOnly f = false ∧ f.hops < 127) ∧ ∃ o k, s.hub.wayOut (!west) { f with hops := f.hops + 1, stomp := decide (f.crc ≠ .ok) } = some (o, k)) :=
  ⟨⟨mkD 0 0 (ds_.getD 0 {}) 0, _, _, rfl, by decide +kernel⟩,
   ⟨mkD 0 0 (ds_.getD 0 {}) 1, _, _, rfl, by decide +kernel⟩,
   ⟨mkD 0 0 (ds_.getD 0 {}) 2, _, _, rfl, by decide +kernel⟩,
   ⟨mkD 3 0 (ds_.getD 0 {}) 1, _, _, rfl, by decide +kernel⟩,
   ⟨mkD 1 0 (ds_.getD 0 {}) 1, _, _, rfl, by decide +kernel⟩,
   ⟨mkD 0 0 (ds_.getD 0 {}) 0, false, (rfs.getD 14 { dst := 0, cls := 0, type := 0 }), by decide +kernel, by decide +kernel⟩,
   ⟨mkD 0 0 (ds_.getD 0 {}) 2, true, (rfs.getD 15 { dst := 0, cls := 0, type := 0 }), by decide +kernel, by decide +kernel, _, rfl, by decide +kernel⟩,
   ⟨mkD 0 0 (ds_.getD 0 {}) 2, true, (rfs.getD 16 { dst := 0, cls := 0, type := 0 }), by decide +kernel, by decide +kernel, _, rfl, by decide +kernel⟩,
   ⟨mkD 0 0 (ds_.getD 0 {}) 0, false, (rfs.getD 0 { dst := 0, cls := 0, type := 0 }), by decide +kernel, _, _, rfl⟩⟩

end Duplex

namespace Scan

/-! Small states and operands that the witnesses of this family are built from. -/

def jb (src fl : Nat) : List Byte := [BitVec.ofNat 8 src, 1, BitVec.ofNat 8 fl, 0] ++ leBytes 8 0 ++ leBytes 4 9 ++ leBytes 8 0
def mkS (x : Scan) (on : Bool) (src v : Nat) (st : Store) : State :=
  let h : Hub := { time := { cclk := true, ltc := 100000 }, host := { busMaster := v == 0, sram := [(0,3)] } }
  let h := (List.range 3).foldl (fun h e => ((h.setFunc (fidScan e) { life := if on then .on else .off }).setScan e { x with job := jb src (2 * v) }).setOct (Obj.scanJob e) (jb src (2 * v))) h
  let h := { h with store := st, keeper := { ready := true } }.setNum Obj.journalState (v * jnlTrial)
  { pending := [.fenceAll .pcie], hub := h }
def sts_ : List Store := [ {}, { cur := some { rank := 1, part := 6, offset := 0, left := 3 } }, { cur := some { rank := 2, part := 6, offset := 0, left := 1 }, waiting := [{ rank := 1, part := 3, offset := 0, left := 1 }], tries := 2 }, { cur := some { rank := 4, part := 6, offset := 0, left := 1 }, tries := 2 }]

/-- The hypotheses of each clause of ScanEnginesAndTheStore can be met. -/
theorem witness_ScanEnginesAndTheStore :
  (∃ s : State, ∃ e : Fin 3, ∃ data : List Byte, ((s.hub.scan e.val).run = scanRunning) ∧ let x := s.hub.scan e.val; (x.startedAt = 0 ∨ x.startedAt ≠ x.stopAt) ∧ s.hub.jobLocked e.val = false ∧ s.hub.jobPoison e.val = [])
  ∧ (∃ s : State, ∃ j, s.hub.store.cur = some j)
  ∧ (∃ s : State, s.hub.store.cur = none ∧ s.hub.num Obj.journalState = jnlIdle)
  ∧ (∃ s : State, s.hub.num Obj.journalState = jnlTrial ∧ s.hub.keeper.ready = true) :=
  ⟨⟨mkS { run := 1, jobSeq := 255, hasJob := true } true 0 0 (sts_.getD 0 {}), 0, [], by decide +kernel, by decide +kernel⟩,
   ⟨mkS {} true 0 0 (sts_.getD 1 {}), _, rfl⟩,
   ⟨mkS {} true 0 0 (sts_.getD 0 {}), by decide +kernel⟩,
   ⟨mkS {} true 0 1 (sts_.getD 0 {}), by decide +kernel⟩⟩

end Scan

namespace Pwr

/-! Small states and operands that the witnesses of this family are built from. -/

def r : Requester := { path := .station, unit := 1, ip := 5 }
def mkP (mode : Nat) (ent : Option Nat) (armed : Bool) (v : Nat) : State :=
  let h : Hub := { time := { cclk := v != 3, ltc := 100000, dormantLtc := 0xFFFFFFFFFFFFFFF0 }, keeper := { ready := v = 0, holder := some r, keys := [(1,[5])] }, pwr := { entering := ent, armed := armed, latch := armed, sources := if v = 1 then 0x2A else if v = 2 then 0x80 else 0, details := [(3,77)] }, power := { events := [{event := 1, arg := 2, vout := 3, sense := 4, at_ := 5}]} }
  let h := [0,1].foldl (fun h i => (h.setNum (Obj.rportLinkState i) linkUp).setFunc (fidPort (12 + i)) { life := .on }) h
  let h := (h.setNum Obj.pwrMode mode).setNum Obj.wakeEnable 0xFE
  let h := h.setNum Obj.nodeIdInUse 5 |>.setNum Obj.joinState joinMember |>.setNum Obj.memberMap 0x10 |>.setNum Obj.hubFault (if v = 5 then 1 else 0)
  let h := h.setNum Obj.wakeMode (v % 3) |>.setNum Obj.startState (if v = 0 then 3 else 4) |>.setNum Obj.journalState v
  let h := [fidQueue 3, fidQueue 63, fidWindow 2, fidPort 3].foldl (fun h f => h.setFunc f { life := .on }) h
  let h := if v = 4 then [fidCluster 3, fidChannel 49, fidChannel 50, fidSeq 6, fidCan 3, fidPtp, fidGocb 5].foldl (fun h f => h.setFunc f { life := .on }) h else h
  let h := if v = 4 then h.setNum (Obj.chMode 49) modeBout |>.setNum (Obj.chMode 50) modeUart else h
  { pending := [.fenceAll .pcie], hub := h }
def ok_ (f : RingFrame) : RingFrame := { f with trailer := f.trailerOf }

/-- The hypotheses of each clause of PowerModeEntry can be met. -/
theorem witness_PowerModeEntry :
  (∃ s : State, ∃ (m : Nat), s.hub.pwr.entering = some m ∧ s.hub.pwr.armed = false ∧ s.hub.refusers m = [])
  ∧ (∃ s : State, ∃ (m : Nat), s.hub.pwr.entering = some m ∧ s.hub.pwr.armed = false ∧ s.hub.refusers m ≠ [])
  ∧ (∃ s : State, ∃ (m : Nat), s.hub.pwr.entering = some m ∧ (s.hub.pwr.armed = false) ∧ ∃ low rest, s.hub.refusers m = low :: rest)
  ∧ (∃ s : State, ∃ watch : BitVec 16, ∃ (m : Nat), s.hub.pwr.entering = some m ∧ s.hub.pwr.armed = true ∧ (m = modeRest ∨ m = modeDormant) ∧ s.hub.refusers m = [] ∧ (List.range 8).all (fun id => !(s.hub.pendingSources m).testBit id || s.hub.edgeSource id) = true)
  ∧ (∃ s : State, ∃ watch : BitVec 16, ∃ (m : Nat), s.hub.pwr.entering = some m ∧ (s.hub.pwr.armed = true) ∧ ∃ low rest, s.hub.refusers m = low :: rest)
  ∧ (∃ s : State, modeRest ≤ s.hub.mode) :=
  ⟨⟨mkP 0 (some 3) false 0, _, rfl, by decide +kernel⟩,
   ⟨mkP 0 (some 3) false 4, _, rfl, by decide +kernel⟩,
   ⟨mkP 0 (some 3) false 4, _, rfl, by decide +kernel, _, _, rfl⟩,
   ⟨mkP 0 (some 3) true 0, 0x1234, _, rfl, by decide +kernel⟩,
   ⟨mkP 0 (some 3) true 4, 0x1234, _, rfl, by decide +kernel, _, _, rfl⟩,
   ⟨mkP 3 none false 0, by decide +kernel⟩⟩

/-- The hypotheses of each clause of WakeSourcesWakeTheHub can be met. -/
theorem witness_WakeSourcesWakeTheHub :
  (∃ s : State, ∃ id : Fin 8, ∃ detail : BitVec 32, ∃ asserted : Bool, (id.val = 1 ∨ id.val = 3 ∨ id.val = 5 ∨ id.val = 7) ∧ (s.hub.num Obj.wakeEnable).testBit id.val = true)
  ∧ (∃ s : State, ∃ id : Fin 8, ∃ detail : BitVec 32, ∃ asserted : Bool, (s.hub.num Obj.wakeEnable).testBit id.val = false)
  ∧ (∃ s : State, ∃ west : Bool, ∃ f : RingFrame, (s.hub.receive west f).1 = true ∧ f.type = tMgmt ∧ byteAt f.payload 0 = 0x85 ∧ byteAt f.payload 1 = s.hub.self ∧ (s.hub.num Obj.wakeEnable).testBit 3 = true)
  ∧ (∃ s : State, s.hub.mode = modeRest ∧ s.hub.pwr.latch = true ∧ s.hub.pendingSources modeRest ≠ 0)
  ∧ (∃ s : State, s.hub.flag Obj.hubFault = false) :=
  ⟨⟨mkP 0 none false 0, 1, 0xFFFFFFFF, false, by decide +kernel⟩,
   ⟨mkP 0 none false 0, 0, 0xFFFFFFFF, false, by decide +kernel⟩,
   ⟨mkP 0 none false 0, false, ok_ { dst := 5, src := 2, cls := 7, path := 1, type := tMgmt, payload := [0x85, 5, 0, 0] }, by decide +kernel⟩,
   ⟨mkP 3 none true 1, by decide +kernel⟩,
   ⟨mkP 0 none false 0, by decide +kernel⟩⟩

/-- The hypotheses of each clause of StartAndHubReset can be met. -/
theorem witness_StartAndHubReset :
  (∃ s : State, ∃ straps : BitVec 11, s.hub.time.cclk = false ∧ s.hub.mode ≠ modeDormant)
  ∧ (∃ s : State, s.hub.time.cclk = false ∧ s.hub.mode ≠ modeDormant)
  ∧ (∃ s : State, ∃ us : BitVec 32, s.hub.time.cclk = true ∧ s.hub.keeper.ready = false ∧ s.hub.upd.halted = false ∧ s.hub.upd.recovery = false)
  ∧ (∃ s : State, ∃ us : BitVec 32, s.hub.keeper.ready = true ∧ s.hub.num Obj.startState ≠ startReady ∧ s.hub.stillStarting = false ∧ s.hub.ringSettled us.toNat = true)
  ∧ (∃ s : State, s.hub.num Obj.startState ≠ startReady ∧ s.hub.flag Obj.hubFault = false)
  ∧ (∃ s : State, ∃ rtc : BitVec 48, s.hub.mode = modeDormant ∧ s.hub.pwr.latch = true ∧ s.hub.pendingSources modeDormant ≠ 0) :=
  ⟨⟨mkP 0 none false 3, 0, by decide +kernel⟩,
   ⟨mkP 0 none false 3, by decide +kernel⟩,
   ⟨mkP 0 none false 1, 0xFFFFFFFF, by decide +kernel⟩,
   ⟨mkP 0 none false 0, 0xFFFFFFFF, by decide +kernel⟩,
   ⟨mkP 0 none false 0, by decide +kernel⟩,
   ⟨mkP 4 none true 1, 0x10000, by decide +kernel⟩⟩

/-- The hypotheses of each clause of MonitorsDeclareTheHubFault can be met. -/
theorem witness_MonitorsDeclareTheHubFault :
  (∃ s : State, s.hub.flag Obj.hubFault = false ∧ s.hub.mode < modeRest ∧ s.hub.keeper.gated = false ∧ s.hub.num Obj.startState = startReady)
  ∧ (∃ s : State, s.hub.flag Obj.hubFault = true)
  ∧ (∃ s : State, ∃ k : Fin 12, s.hub.mode < modeRest ∧ (s.hub.num Obj.napMap).testBit k.val = false ∧ s.hub.isOff (fidCluster k.val) = false)
  ∧ (∃ s : State, ∃ corrected : BitVec 32, ∃ a : Nat, ∃ w : Nat, s.hub.flag Obj.eccEscalate = false)
  ∧ (∃ s : State, ∃ corrected : BitVec 32, ∃ a : Nat, ∃ w : Nat, s.hub.flag Obj.hubFault = false) :=
  ⟨⟨mkP 0 none false 1, by decide +kernel⟩,
   ⟨mkP 0 none false 5, by decide +kernel⟩,
   ⟨mkP 0 none false 4, 3, by decide +kernel⟩,
   ⟨mkP 0 none false 0, 0xFFFFFFFF, 3, 3, by decide +kernel⟩,
   ⟨mkP 0 none false 0, 0xFFFFFFFF, 3, 3, by decide +kernel⟩⟩

end Pwr

namespace Svc

/-! Small states and operands that the witnesses of this family are built from. -/

def ring2 : Requester := { path := .ring, unit := 2 }
def mm : DictMsg := { op := opWho, token := 7 }
def ud (p : List Byte) : UdpRequest := { mac := 5, srcIp := 6, dstIp := 0x01020304, srcPort := 8, dstPort := 9, payload := p }
def good1 (k : List Byte) (c : Nat) : List Byte := let b := [1,2,0,0] ++ leBytes 8 c ++ msgBytes mm; b ++ hmacOctets k b
def st1 : KReq := { by_ := { path := .station, unit := 2 }, msg := mm, via := .station (ud (good1 [7] 50)) 50 }
def mkV (v : Nat) (k : Keeper) (sram : Memory) (x : Service) : State :=
  let h : Hub := { time := { cclk := true, ltc := 100000 } }
  let h := [0,1].foldl (fun h i => (h.setNum (Obj.rportLinkState i) linkUp).setFunc (fidPort (12 + i)) { life := .on }) h |>.setFunc (fidPort 17) { life := .on }
  let h := h.setNum Obj.joinState joinMember |>.setNum Obj.nodeIdInUse 5 |>.setNum Obj.memberMap 0x13 |>.setNum Obj.attachState (v % 3) |>.setNum Obj.dataRole (v / 3 % 3) |>.setNum Obj.pdState (v % 3) |>.setFlag Obj.pg true |>.setNum Obj.sourceEnable 1 |>.setFlag Obj.dryWait (v = 5) |>.setNum Obj.moistureEnable 1 |>.setNum Obj.moistureThreshold 100 |>.setNum Obj.sinkVoltages 7 |>.setNum Obj.sinkMaxCurrent 2000
  let h := h.setNum Obj.staAccessEnable 1 |>.setOct Obj.staIpAddress [1,2,3,4] |>.setNum Obj.dictUdpPort 9 |>.setNum Obj.role roleStandby |>.setNum Obj.mirrorSeqApplied 4 |>.setNum Obj.mirrorSize 4096 |>.setNum Obj.mirrorBase 0x3000 |>.setFunc fidService { life := .on } |>.setNum (Obj.counter 2) (v * 9)
  let h := { h with keeper := { k with ready := true }, host := { h.host with sram := sram }, svc := { x with usb := v % 2 = 1 }, duplex := { h.duplex with mirRead := 8 } }
  let h := { h with power := { h.power with validA := v < 3, validS := v % 2 = 0 } }
  { pending := [.fenceAll .pcie], hub := h }
def mem0 : Memory := []
def rec1 (kind idx : Nat) : List Byte := [BitVec.ofNat 8 kind, 0, 4, 0] ++ leBytes 4 5 ++ leBytes 2 idx ++ [5,0,0,0,0,0] ++ [1,2,3,4]
def ks_ : List Keeper := [ {}, { waiting := [{ by_ := ring2, msg := mm }], ceiling := [(st1, 2)], ceilings := [(2, 9)], keys := [(2, [7])] }, { forward := some (2, { op := opWho, token := 7 }, 0x01020304, 2), mboxBusy := true }, { forward := some (2, { op := opWho, token := 7 }, 6, 4), mboxBusy := true }, { keys := [(2, [7])], ceilings := [(2, 20)] }, { ceiling := [(st1, 2), (st1, 2)] } ]
def mems : List Memory := [ [], Memory.writeN [] 0 ([9,0,0,0, 2,0,0,0] ++ msgBytes mm), Memory.writeN [] 0x3008 (rec1 1 0x1234), Memory.writeN [] 0x3008 (rec1 2 99), Memory.writeN [] 0x3008 (rec1 2 3) ]
def xs_ : List Service := [ { vsrc := true, drWait := true, asked := some (9000, 1000), txId := 7 }, { sent := some (.request, 3, [5]), tries := 1, rxId := some 3 }, { sent := some (.request, 3, [5]), tries := 2, dryRounds := 1 }, { sent := some (.softReset, 3, []), tries := 2 } ]
def ok_ (f : RingFrame) : RingFrame := { f with trailer := f.trailerOf }

/-- R437: an envelope whose HMAC is that of its slot's key over its body, with a counter above the last one accepted, is accepted. -/
theorem envelope_accepted {h : Hub} {p body key : List Byte} (e : p = body ++ hmacOctets key body) (n : 12 ≤ body.length) (v : byteAt p 0 = 1)
    (k : SMap.get (fun _ => []) h.keeper.keys (byteAt p 1) = key) (ne : key ≠ []) (s : byteAt p 1 < 4)
    (c : h.num (Obj.counter (byteAt p 1)) < leAt p 4 8) : h.envelopeCheck p = 0 := by
  have l : (hmacOctets key body).length = 32 := by simp [hmacOctets, beBytes]; rfl
  have tk : p.take (p.length - 32) = body := by rw [e]; simp [l]
  have dr : p.drop (p.length - 32) = hmacOctets key body := by rw [e]; simp [l]
  have m : ¬ p.length < 44 := by rw [e, List.length_append, l]; omega
  unfold Hub.envelopeCheck
  simp only [v, tk, dr, k]
  rw [if_neg (by simp), if_neg (by simp [ne]; omega), if_neg (by simp [m]), if_neg (by omega)]

/-- An envelope with counter 50 under the key of slot 2 is accepted. -/
theorem good_accepted : (mkV 0 (ks_.getD 1 {}) (mems.getD 0 []) {}).hub.envelopeCheck (ud (good1 [7] 50)).payload = 0 :=
  envelope_accepted (body := [1,2,0,0] ++ leBytes 8 50 ++ msgBytes mm) (key := [7]) rfl (by decide) (by decide) (by decide) (by decide) (by decide) (by decide)

/-- The hypotheses of the clauses of RequestsArriveByEveryPath on an accepted envelope can be met: its counter above the slot's ceiling, and not. -/
theorem witness_AcceptedEnvelopes :
  (∃ s : State, ∃ u : UdpRequest, s.hub.envelopeCheck u.payload = 0 ∧ SMap.get (fun _ => 0) s.hub.keeper.ceilings (byteAt u.payload 1) < leAt u.payload 4 8)
  ∧ (∃ s : State, ∃ u : UdpRequest, s.hub.envelopeCheck u.payload = 0 ∧ leAt u.payload 4 8 ≤ SMap.get (fun _ => 0) s.hub.keeper.ceilings (byteAt u.payload 1)) :=
  ⟨⟨mkV 0 (ks_.getD 1 {}) (mems.getD 0 []) {}, ud (good1 [7] 50), good_accepted, by decide⟩,
   ⟨mkV 0 { keys := [(2, [7])], ceilings := [(2, 90)] } [] {}, ud (good1 [7] 50),
    envelope_accepted (body := [1,2,0,0] ++ leBytes 8 50 ++ msgBytes mm) (key := [7]) rfl (by decide) (by decide) (by decide) (by decide) (by decide) (by decide), by decide⟩⟩

/-- The hypotheses of each clause of RequestsArriveByEveryPath can be met. -/
theorem witness_RequestsArriveByEveryPath :
  (∃ s : State, ∃ m : DictMsg, s.hub.serves { path := .service } m = true)
  ∧ (∃ s : State, ∃ m : DictMsg, s.hub.time.cclk = true ∧ s.hub.mode ≠ modeDormant ∧ s.hub.upd.halted = false ∧ s.hub.upd.recovery = false ∧ s.hub.keeper.ready = true ∧ s.hub.keeper.waiting ≠ [] ∧ s.hub.keeper.waiting.length < 32)
  ∧ (∃ s : State, ∃ west : Bool, ∃ f : RingFrame, let h := (s.hub.mgmtIn west f).2; let r : Requester := { path := .ring, unit := f.src }; let m := parseMsg f.payload; (s.hub.mgmtIn west f).1 = true ∧ h.serves r m = true)
  ∧ (∃ s : State, ∃ west : Bool, ∃ f : RingFrame, let m := parseMsg f.payload; ((s.hub.mgmtIn west f).1 = true) ∧ ∃ k, s.hub.keeper.forward = some k ∧ f.src = k.1 ∧ m.op = k.2.1.op + 0x40 ∧ m.token = k.2.1.token)
  ∧ (∃ s : State, ∃ k, s.hub.keeper.forward = some k ∧ k.2.2.2 < 4)
  ∧ (∃ s : State, ∃ k, s.hub.keeper.forward = some k ∧ 4 ≤ k.2.2.2)
  ∧ (∃ s : State, ∃ path : RegPath, ∃ v : BitVec 32, v.toNat % 2 = 0)
  ∧ (∃ s : State, ∃ path : RegPath, ∃ v : BitVec 32, v.toNat % 2 = 1 ∧ path ≠ .pcie)
  ∧ (∃ s : State, ∃ v : BitVec 32, ∃ (path : RegPath), path = .pcie ∧ let node := (Memory.read s.hub.host.sram 4).toNat; v.toNat % 2 = 1 ∧ s.hub.keeper.mboxBusy = false ∧ s.hub.time.cclk = true ∧ s.hub.mode ≠ modeDormant ∧ s.hub.upd.halted = false ∧ s.hub.upd.recovery = false ∧ s.hub.keeper.ready = true ∧ 1 ≤ node ∧ node ≤ 64 ∧ node ≠ s.hub.self ∧ s.hub.self ≠ 0 ∧ s.hub.memberOf node = true)
  ∧ (∃ s : State, ∃ u : UdpRequest, s.hub.keeper.ready = true ∧ s.hub.flag Obj.staAccessEnable = true ∧ u.dstIp.toNat = beNat (s.hub.oct Obj.staIpAddress) ∧ u.dstPort.toNat = s.hub.num Obj.dictUdpPort)
  ∧ (∃ s : State, ∃ u : UdpRequest, ∃ counter : Nat, ∃ (ok : Bool), ok = false ∧ ∃ k ks, s.hub.keeper.ceiling = k :: ks ∧ k.1.via = Carrier.station u counter)
  ∧ (∃ s : State, ∃ u : UdpRequest, ∃ counter : Nat, ∃ (ok : Bool), ok = true ∧ ∃ k ks, s.hub.keeper.ceiling = k :: ks ∧ k.1.via = Carrier.station u counter ∧ s.hub.envelopeCheck u.payload ≠ 0)
  ∧ (∃ s : State, ∃ u : UdpRequest, ∃ counter : Nat, ∃ (ok : Bool), ok = true ∧ ∃ k ks, s.hub.keeper.ceiling = k :: ks ∧ k.1.via = Carrier.station u counter ∧ s.hub.envelopeCheck u.payload = 0 ∧ s.hub.time.cclk = true ∧ s.hub.mode ≠ modeDormant ∧ s.hub.upd.halted = false ∧ s.hub.upd.recovery = false ∧ s.hub.keeper.ready = true ∧ k.1.by_.path = Path.station ∧ s.hub.keeper.waiting ≠ [] ∧ s.hub.keeper.waiting.length < 32)
  ∧ (∃ s : State, ∃ mac : BitVec 48, ∃ tag : Option (BitVec 16), ∃ ip : BitVec 32, ∃ target : BitVec 32, s.hub.keeper.ready = true ∧ s.hub.flag Obj.staAccessEnable = true ∧ target.toNat = beNat (s.hub.oct Obj.staIpAddress))
  ∧ (∃ s : State, (s.hub.num Obj.role = roleStandby) ∧ let r := s.hub.recordAt s.hub.duplex.mirRead 16; let applied := s.hub.num Obj.mirrorSeqApplied; leAt r 4 4 = applied + 1 ∧ applied ≠ 0 ∧ byteAt r 0 = 1)
  ∧ (∃ s : State, (s.hub.num Obj.role = roleStandby) ∧ let r := s.hub.recordAt s.hub.duplex.mirRead 16; let applied := s.hub.num Obj.mirrorSeqApplied; leAt r 4 4 = applied + 1 ∧ applied ≠ 0 ∧ byteAt r 0 = 2) :=
  ⟨⟨mkV 0 {} [] (xs_.getD 0 {}), mm, by decide +kernel⟩,
   ⟨mkV 0 (ks_.getD 1 {}) (mems.getD 0 []) {}, mm, by decide +kernel⟩,
   ⟨mkV 0 {} [] (xs_.getD 0 {}), false, ok_ { dst := 5, src := 2, cls := 6, path := 1, type := tMgmt, payload := msgBytes mm }, by decide +kernel⟩,
   ⟨mkV 0 (ks_.getD 2 {}) (mems.getD 0 []) {}, false, ok_ { dst := 5, src := 2, cls := 6, path := 1, type := tMgmt, payload := msgBytes { op := opWho + 0x40, token := 7 } }, by decide +kernel, _, rfl, by decide +kernel⟩,
   ⟨mkV 0 (ks_.getD 2 {}) (mems.getD 0 []) {}, _, rfl, by decide +kernel⟩,
   ⟨mkV 0 (ks_.getD 3 {}) (mems.getD 0 []) {}, _, rfl, by decide +kernel⟩,
   ⟨mkV 0 {} [] (xs_.getD 0 {}), .pcie, 0, by decide +kernel⟩,
   ⟨mkV 0 {} [] (xs_.getD 0 {}), .ring, 3, by decide +kernel⟩,
   ⟨mkV 0 (ks_.getD 0 {}) (mems.getD 1 []) {}, 3, _, rfl, by decide +kernel⟩,
   ⟨mkV 0 {} [] (xs_.getD 0 {}), ud (good1 [7] 50), by decide +kernel⟩,
   ⟨mkV 0 (ks_.getD 1 {}) (mems.getD 0 []) {}, ud (good1 [7] 50), 50, _, rfl, _, _, rfl, rfl⟩,
   ⟨mkV 0 (ks_.getD 5 {}) (mems.getD 0 []) {}, ud (good1 [7] 50), 50, _, rfl, _, _, rfl, rfl, by decide +kernel⟩,
   ⟨mkV 0 (ks_.getD 1 {}) (mems.getD 0 []) {}, ud (good1 [7] 50), 50, _, rfl, _, _, rfl, rfl, good_accepted, by decide +kernel⟩,
   ⟨mkV 0 {} [] (xs_.getD 0 {}), 50, none, 0, 0x01020304, by decide +kernel⟩,
   ⟨mkV 0 (ks_.getD 0 {}) (mems.getD 2 []) {}, by decide +kernel, by decide +kernel⟩,
   ⟨mkV 0 (ks_.getD 0 {}) (mems.getD 3 []) {}, by decide +kernel, by decide +kernel⟩⟩

/-- The hypotheses of each clause of ServicePortNegotiates can be met. -/
theorem witness_ServicePortNegotiates :
  (∃ s : State, ∃ (source : Bool), (source = false ∨ s.hub.maySource = true ∧ (s.hub.serviceFeed false).flag Obj.pg = true) ∧ s.hub.num Obj.attachState = 0)
  ∧ (∃ s : State, ∃ id : Fin 8, (s.hub.num Obj.attachState ≠ 0 ∧ s.hub.svc.rxId ≠ some id.val) ∧ ∃ pdos : List (BitVec 32), s.hub.num Obj.attachState = 1)
  ∧ (∃ s : State, ∃ id : Fin 8, (s.hub.num Obj.attachState ≠ 0 ∧ s.hub.svc.rxId ≠ some id.val) ∧ ∃ rdo : BitVec 32, (s.hub.num Obj.attachState = 2) ∧ let w := bits rdo.toNat 19 10; let good := rdo.toNat / 2 ^ 28 % 8 = 1 ∧ w ≤ 150; good)
  ∧ (∃ s : State, ∃ id : Fin 8, (s.hub.num Obj.attachState ≠ 0 ∧ s.hub.svc.rxId ≠ some id.val) ∧ ∃ rdo : BitVec 32, (s.hub.num Obj.attachState = 2) ∧ let w := bits rdo.toNat 19 10; let good := rdo.toNat / 2 ^ 28 % 8 = 1 ∧ w ≤ 150; (¬ good))
  ∧ (∃ s : State, ∃ id : Fin 8, (s.hub.num Obj.attachState ≠ 0 ∧ s.hub.svc.rxId ≠ some id.val) ∧ ∃ x, s.hub.svc.asked = some x ∧ s.hub.flag Obj.dryWait = false)
  ∧ (∃ s : State, ∃ id : Fin 8, s.hub.num Obj.attachState ≠ 0 ∧ s.hub.svc.rxId ≠ some id.val ∧ s.hub.svc.drWait = true)
  ∧ (∃ s : State, s.hub.num Obj.attachState = 2 ∧ s.hub.num Obj.pdState = 2 ∧ s.hub.svc.drSent = false)
  ∧ (∃ s : State, (s.hub.num Obj.attachState = 2) ∧ ∃ mv : BitVec 32, s.hub.svc.vsrc = true)
  ∧ (∃ s : State, ∃ x, s.hub.svc.sent = some x)
  ∧ (∃ s : State, ∃ c1 : BitVec 16, ∃ c2 : BitVec 16, ∃ u1 : BitVec 16, ∃ u2 : BitVec 16, s.hub.num Obj.attachState = 0 ∧ s.hub.pset Obj.moistureEnable ≠ 0)
  ∧ (∃ s : State, s.hub.isOn fidService = true ∧ s.hub.keeper.ready = true ∧ s.hub.num Obj.dataRole = 1 ∧ s.hub.svc.usb = false)
  ∧ (∃ s : State, ∃ configured : Bool, ∃ suspended : Bool, s.hub.svc.usb = true) :=
  ⟨⟨mkV 0 {} [] (xs_.getD 0 {}), _, .inl rfl, by decide +kernel⟩,
   ⟨mkV 1 {} [] (xs_.getD 0 {}), 3, by decide +kernel, [], by decide +kernel⟩,
   ⟨mkV 2 {} [] (xs_.getD 0 {}), 3, by decide +kernel, 0x10000000 + 100 * 1024 + 100, by decide +kernel, by decide +kernel⟩,
   ⟨mkV 2 {} [] (xs_.getD 0 {}), 3, by decide +kernel, 0, by decide +kernel, by decide +kernel⟩,
   ⟨mkV 1 {} [] (xs_.getD 0 {}), 3, by decide +kernel, _, rfl, by decide +kernel⟩,
   ⟨mkV 1 {} [] (xs_.getD 0 {}), 3, by decide +kernel⟩,
   ⟨mkV 2 {} [] (xs_.getD 0 {}), by decide +kernel⟩,
   ⟨mkV 2 {} [] (xs_.getD 0 {}), by decide +kernel, 0, by decide +kernel⟩,
   ⟨mkV 0 {} [] (xs_.getD 1 {}), _, rfl⟩,
   ⟨mkV 0 {} [] (xs_.getD 0 {}), 50, 50, 50, 50, by decide +kernel⟩,
   ⟨mkV 4 {} [] (xs_.getD 0 {}), by decide +kernel⟩,
   ⟨mkV 1 {} [] (xs_.getD 0 {}), false, false, by decide +kernel⟩⟩

end Svc

end Sys2Proof.Tests
end

section
/-!
The WRITE of window-commit while a lock covers its window (R163): O11 fails, for the keeper keeps the request where the statement
has a NOT_OWNER leave at once.
-/
namespace Sys2Proof.Machine

/-- A hub whose keeper is ready and serves, with the first granule of the window of the post SRAM locked; nobody holds the stall. -/
def windowLocked : State :=
  { hub := {
      time := { cclk := true }
      keeper := { ready := true }
      bridge := { locks := [{ granule := granuleOf (sramBase + 0x100000), src := 2, init := 0, addr := sramBase + 0x100000, size := 8, tag := 0 }] } } }

/-- A WRITE of window-commit (0x3403:03) that names eight octets from the window's base. -/
def commitWindow : DictMsg := { op := opWrite, index := 0x3403, sub := 3, data := [0, 0, 0, 0, 8, 0, 0, 0] }

/-- The requests that wait at the keeper after a command. -/
def waitingAfter : Host.Outcome State Fault Refusal → List KReq
  | .next t => t.hub.keeper.waiting
  | _ => []

/-- The host's write of window-commit waits for the lock's end, whoever holds the stall. -/
theorem commitWindow_waits_at_lock :
    waitingAfter (exec (.dictWrite { path := .pcie } 0 0x3403 3 commitWindow.data) windowLocked)
      = [windowLocked.hub.request { path := .pcie } commitWindow] := by decide +kernel

/-- A refusal that leaves at once leaves nothing waiting. -/
theorem notOwner_leaves_nothing_waiting :
    waitingAfter (.next (windowLocked.withHub (windowLocked.hub.answers windowLocked.hub { path := .pcie } commitWindow
      { op := 0x42, index := 0x3403, sub := 3, abort := 10 }))) = [] := by decide +kernel

end Sys2Proof.Machine

open Sys2Proof Sys2Proof.Machine

/-- Refutes O11: the clause on NOT_OWNER leaves out the WRITE of window-commit while a granule it reads is locked (R163). There the keeper
takes no test yet: the request of one who does not hold the stall waits, and no NOT_OWNER leaves. -/
theorem not_writesNeedTheStallAndWaitForTheirBoundary : ¬ Obligations.WritesNeedTheStallAndWaitForTheirBoundary := by
  unfold Obligations.WritesNeedTheStallAndWaitForTheirBoundary
  rintro ⟨-, notOwner, -⟩
  have refused := notOwner windowLocked { path := .pcie } 0 0x3403 3 commitWindow.data commitWindow rfl
    (by decide +kernel) (by decide +kernel) (by decide +kernel) (by decide +kernel)
    (windowLocked.hub.descAt 0x3403 3) (by decide +kernel) (by decide +kernel) (by decide +kernel)
  have waits := commitWindow_waits_at_lock
  rw [refused] at waits
  exact absurd (waits.symm.trans notOwner_leaves_nothing_waiting) (by decide)
end

section
/-!
What the service port's departure leaves as it is (R445, R557, R563): the keeper, the service port, the host interface and what is emitted
may move, and of the objects only those of the listed indices.
-/
namespace Sys2Proof.Machine

/-- The objects of ownership, the notices, queue 63, the service port, the staging area and the in-line checks, by index. -/
def portIndices : List Nat := [0x1101, 0x1200, 0x193F, 0x3301, 0x3400, 0x3540]

/-- From `h` to `g` only the keeper, the service port, the host interface, what is emitted and objects of `portIndices` differ. -/
def PortOnly (h g : Hub) : Prop :=
  g = { h with keeper := g.keeper, svc := g.svc, host := g.host, dict := g.dict, out := g.out, rwb := g.rwb }
    ∧ ∀ k, k / 256 ∉ portIndices → g.obj k = h.obj k

namespace PortOnly
variable {a h g : Hub}

theorem refl (h : Hub) : PortOnly h h := ⟨rfl, fun _ _ => rfl⟩

/-- The keeper and the service port may be anything. -/
theorem roles (H : PortOnly a h) (k : Keeper) (x : Service) : PortOnly a { h with keeper := k, svc := x } := by
  obtain ⟨e, o⟩ := H
  exact ⟨by rw [e], o⟩

theorem setObj (H : PortOnly a h) {k : Nat} (v : Val) (hk : k / 256 ∈ portIndices) : PortOnly a (h.setObj k v) := by
  obtain ⟨e, o⟩ := H
  refine ⟨by rw [e]; rfl, fun j hj => ?_⟩
  rw [Hub.obj_setObj, if_neg (by rintro rfl; exact hj hk), o j hj]

theorem setNum (H : PortOnly a h) {k : Nat} (n : Nat) (hk : k / 256 ∈ portIndices) : PortOnly a (h.setNum k n) := setObj H _ hk

/-- A notice of the keeper moves nothing else. -/
theorem noticeS (H : PortOnly a h) (code fid : Nat) (args : List Nat) : PortOnly a (h.noticeS code fid args) := by
  obtain ⟨e, o⟩ := H
  obtain ⟨e', -, o'⟩ := Quietly.noticeS (Quietly.refl 63 h) code fid args
  refine ⟨by rw [e', e], fun k hk => ?_⟩
  simp only [portIndices, List.mem_cons, List.not_mem_nil, or_false, not_or] at hk
  rw [o' k (by omega) (by omega) (by rintro rfl; revert hk; decide), o k (by simp [portIndices]; omega)]

theorem when (H : PortOnly a h) (c : Bool) (f : Hub → Hub) (hf : PortOnly a (f h)) : PortOnly a (h.when c f) := by
  unfold Hub.when
  split
  · exact hf
  · exact H

theorem dropSessions (H : PortOnly a h) (gone : Session → Bool) : PortOnly a (h.dropSessions gone) := by
  unfold Hub.dropSessions
  have K := roles H { h.keeper with sessions := h.keeper.sessions.filter (fun s => !gone s) } h.svc
  exact when K _ _ (setNum K _ (by decide))

theorem clearHolder (H : PortOnly a h) (state : Nat) : PortOnly a (h.clearHolder state) := by
  unfold Hub.clearHolder
  exact setNum (setObj (setNum (setNum (roles H { h.keeper with holder := none } h.svc) _ (by decide)) _ (by decide)) _ (by decide)) _
    (by decide)

theorem stallPathGone (H : PortOnly a h) (gone : Requester → Bool) : PortOnly a (h.stallPathGone gone) := by
  unfold Hub.stallPathGone
  split
  · exact H
  · refine when H _ _ ?_
    unfold Hub.vacateStall
    split
    · exact H
    · exact noticeS (clearHolder (dropSessions H _) _) _ _ _

theorem usbDisconnect (H : PortOnly a h) : PortOnly a h.usbDisconnect := by
  unfold Hub.usbDisconnect
  split
  · exact dropSessions (stallPathGone (roles (setNum (roles H h.keeper { h.svc with usb := false }) 0 (by decide)) _ _) _) _
  · exact H

theorem sourceOff (H : PortOnly a h) : PortOnly a h.sourceOff := by
  unfold Hub.sourceOff
  split
  · exact usbDisconnect (roles (setObj (setNum (setNum (setNum (setNum (setNum H _ (by decide)) _ (by decide)) _ (by decide)) _ (by decide)) _
      (by decide)) _ (by decide)) _ _)
  · exact H

theorem power (H : PortOnly h g) : g.power = h.power := by rw [H.1]
theorem funcs (H : PortOnly h g) : g.funcs = h.funcs := by rw [H.1]
theorem num (H : PortOnly h g) {k : Nat} (hk : k / 256 ∉ portIndices) : g.num k = h.num k := congrArg Val.nat (H.2 k hk)

end PortOnly
end Sys2Proof.Machine
end

section
/-!
The feeds and their combination (R506 to R508): what an event of the power path leaves of the feeds' validity, gates and tallies.
-/
namespace Sys2Proof.Machine

/-- The tallies of the feeds (R528). -/
def feedTallies : List Nat := [Obj.feedALosses, Obj.feedBLosses, Obj.switchovers]

/-- From `h` to `g` the feeds keep their validity, gates and comparators, and their tallies: of the sentinel's state only its events move. -/
def FeedsKept (h g : Hub) : Prop :=
  g.power = { h.power with events := g.power.events, dropped := g.power.dropped, lost := g.power.lost }
    ∧ ∀ k ∈ feedTallies, g.num k = h.num k

namespace FeedsKept
variable {a h g : Hub}

theorem refl (h : Hub) : FeedsKept h h := ⟨rfl, fun _ _ => rfl⟩

theorem trans (H : FeedsKept a h) (G : FeedsKept h g) : FeedsKept a g := by
  obtain ⟨e, n⟩ := H
  obtain ⟨e', n'⟩ := G
  exact ⟨by rw [e', e], fun k hk => (n' k hk).trans (n k hk)⟩

theorem setNum (H : FeedsKept a h) {k : Nat} (n : Nat) (hk : k ∉ feedTallies) : FeedsKept a (h.setNum k n) := by
  refine trans H ⟨rfl, fun j hj => ?_⟩
  rw [Hub.num_setNum, if_neg (by rintro rfl; exact hk hj)]

theorem portOnly (H : FeedsKept a h) (G : PortOnly h g) : FeedsKept a g := by
  refine trans H ⟨by rw [G.power], fun k hk => G.num ?_⟩
  revert k
  decide

theorem powerEvent (H : FeedsKept a h) (event arg : Nat) (notice : Option (Nat × List Nat)) :
    FeedsKept a (h.powerEvent event arg notice) := by
  unfold Hub.powerEvent
  split
  · exact setNum (trans H (g := { h with power := { h.power with dropped := true } }) ⟨rfl, fun _ _ => rfl⟩) _ (by decide)
  · exact trans H ⟨rfl, fun _ _ => rfl⟩

/-- PG is withdrawn as the gate goes off (R518). -/
theorem gateOff (H : FeedsKept a h) (pp : Nat) : FeedsKept a (h.gateOff pp) := by
  unfold Hub.gateOff Hub.withdrawPg
  have K := setNum H (k := Obj.ppState) pp (by decide)
  split
  · exact portOnly (powerEvent (setNum (setNum K _ (by decide)) _ (by decide)) _ _ _) (PortOnly.sourceOff (PortOnly.refl _))
  · exact K

theorem waitSeat (H : FeedsKept a h) : FeedsKept a h.waitSeat := by
  unfold Hub.waitSeat
  split
  · exact setNum (gateOff H _) _ (by decide)
  · exact gateOff H _

theorem followSupply (H : FeedsKept a h) : FeedsKept a h.followSupply := by
  unfold Hub.followSupply
  split
  · split
    · exact waitSeat H
    · exact H
  · split
    · exact H
    · exact gateOff H _

theorem showFeeds (H : FeedsKept a h) : FeedsKept a h.showFeeds := setNum H _ (by decide)

theorem feedEvent (H : FeedsKept a h) (feed mv : Nat) (valid : Bool) : FeedsKept a (h.feedEvent feed mv valid) := by
  unfold Hub.feedEvent
  split
  · exact trans (powerEvent H _ _ _) ⟨rfl, fun _ _ => rfl⟩
  · exact trans (powerEvent H _ _ _) ⟨rfl, fun _ _ => rfl⟩

theorem validA (H : FeedsKept h g) : g.power.validA = h.power.validA := by rw [H.1]
theorem validB (H : FeedsKept h g) : g.power.validB = h.power.validB := by rw [H.1]
theorem validS (H : FeedsKept h g) : g.power.validS = h.power.validS := by rw [H.1]
theorem gateA (H : FeedsKept h g) : g.power.gateA = h.power.gateA := by rw [H.1]
theorem gateB (H : FeedsKept h g) : g.power.gateB = h.power.gateB := by rw [H.1]
theorem dead (H : FeedsKept h g) : g.power.dead = h.power.dead := by rw [H.1]
theorem priority (H : FeedsKept h g) : g.priority = h.priority := by unfold Hub.priority Hub.pset; rw [H.1]
theorem tally (H : FeedsKept h g) {k : Nat} (hk : k ∈ feedTallies) : g.num k = h.num k := H.2 k hk

end FeedsKept

/-- The gates and the dead time as the feed combination sets them; the rest as `FeedsKept` says. -/
theorem setGates_power (h : Hub) (a b : Bool) (d : Nat) : (h.setGates a b d).power = { h.power with gateA := a, gateB := b, dead := d } := rfl

theorem setGates_tally (h : Hub) (a b : Bool) (d : Nat) {k : Nat} (hk : k ∈ feedTallies) : (h.setGates a b d).num k = h.num k :=
  (FeedsKept.showFeeds (FeedsKept.refl _)).tally hk

/-- From `h` to `g` nothing of the sentinel's state but the gates and the dead time differs, and no feed's tally. -/
def GatesOnly (h g : Hub) : Prop :=
  g.power = { h.power with gateA := g.power.gateA, gateB := g.power.gateB, dead := g.power.dead } ∧ ∀ k ∈ feedTallies, g.num k = h.num k

theorem GatesOnly.refl (h : Hub) : GatesOnly h h := ⟨rfl, fun _ _ => rfl⟩

theorem GatesOnly.setGates {h g : Hub} (H : GatesOnly h g) (a b : Bool) (d : Nat) : GatesOnly h (g.setGates a b d) :=
  ⟨by rw [setGates_power, H.1], fun k hk => (setGates_tally g a b d hk).trans (H.2 k hk)⟩

theorem GatesOnly.selectFeed {h g : Hub} (H : GatesOnly h g) : GatesOnly h g.selectFeed := by
  unfold Hub.selectFeed
  split
  · exact H
  · exact H.setGates _ _ _

theorem GatesOnly.preferA {h g : Hub} (H : GatesOnly h g) : GatesOnly h g.preferA := by
  unfold Hub.preferA
  split
  · exact H.setGates _ _ _
  · exact H

theorem GatesOnly.combine {h g : Hub} (H : GatesOnly h g) : GatesOnly h g.combine := by
  unfold Hub.combine
  split
  · exact H.selectFeed.preferA
  · exact H.setGates _ _ _

theorem GatesOnly.valid {h g : Hub} (H : GatesOnly h g) :
    g.power.validA = h.power.validA ∧ g.power.validB = h.power.validB ∧ g.power.validS = h.power.validS := by
  rw [H.1]
  exact ⟨rfl, rfl, rfl⟩

/-- The gate of feed A, or of B. -/
def Power.gate (p : Power) (b : Bool) : Bool := if b then p.gateB else p.gateA

/-- The validity of feed A, or of B. -/
def Power.valid (p : Power) (b : Bool) : Bool := if b then p.validB else p.validA

/-- In NATIVE the gate of each feed follows its validity (R507). -/
theorem combine_native {h : Hub} (n : h.priority = false) : h.combine = h.setGates h.power.validA h.power.validB 0 := by
  simp [Hub.combine, n]

theorem selectFeed_gate_off {h : Hub} {b : Bool} (v : h.power.valid b = false) (g : h.power.gate b = false) :
    h.selectFeed.power.gate b = false := by
  unfold Hub.selectFeed
  split
  · exact g
  · cases b <;> simp_all [setGates_power, Power.gate, Power.valid]

theorem preferA_gate_off {h : Hub} {b : Bool} (g : h.power.gate b = false) : h.preferA.power.gate b = false := by
  unfold Hub.preferA
  split
  · cases b <;> rfl
  · exact g

/-- The combination turns on no gate of a feed that is not valid; PRIORITY leaves one that is on to the loss that turns it off (R508). -/
theorem combine_gate_off {h : Hub} {b : Bool} (v : h.power.valid b = false) (g : h.priority = true → h.power.gate b = false) :
    h.combine.power.gate b = false := by
  unfold Hub.combine
  split
  · exact preferA_gate_off (selectFeed_gate_off v (g (by assumption)))
  · cases b <;> exact v

/-- A feed that has qualified is valid, its reverse comparator clear (R506). -/
def Power.qualify (p : Power) (b : Bool) : Power :=
  if b then { p with validB := true, revB := false } else { p with validA := true, revA := false }

theorem feedValid_eq {h : Hub} {b : Bool} (mv : Nat) (n : h.power.valid b = false) :
    h.feedValid b mv = ((({ h with power := h.power.qualify b } : Hub).feedEvent (if b then 2 else 1) mv true).combine).followSupply := by
  cases b
  · have : h.power.validA = false := n
    simp [Hub.feedValid, Power.qualify, this]
  · have : h.power.validB = false := n
    simp [Hub.feedValid, Power.qualify, this]

/-- What a feed's qualification does to validity and, in NATIVE, to the gates. -/
theorem feedValid_spec {h : Hub} {b : Bool} (mv : Nat) (n : h.power.valid b = false) :
    (h.feedValid b mv).power.validA = (h.power.validA || !b) ∧ (h.feedValid b mv).power.validB = (h.power.validB || b)
      ∧ (h.feedValid b mv).power.validS = h.power.validS
      ∧ (h.priority = false → (h.feedValid b mv).power.gateA = (h.power.validA || !b) ∧ (h.feedValid b mv).power.gateB = (h.power.validB || b)) := by
  rw [feedValid_eq mv n]
  let q : Hub := { h with power := h.power.qualify b }
  let e := q.feedEvent (if b then 2 else 1) mv true
  have E : FeedsKept q e := FeedsKept.feedEvent (FeedsKept.refl _) _ _ _
  have S : FeedsKept e.combine e.combine.followSupply := FeedsKept.followSupply (FeedsKept.refl _)
  obtain ⟨cA, cB, cS⟩ := (GatesOnly.refl e).combine.valid
  have qA : q.power.validA = (h.power.validA || !b) := by cases b <;> simp [q, Power.qualify]
  have qB : q.power.validB = (h.power.validB || b) := by cases b <;> simp [q, Power.qualify]
  have qS : q.power.validS = h.power.validS := by cases b <;> rfl
  refine ⟨?_, ?_, ?_, fun native => ?_⟩
  · exact S.validA.trans (cA.trans (E.validA.trans qA))
  · exact S.validB.trans (cB.trans (E.validB.trans qB))
  · exact S.validS.trans (cS.trans (E.validS.trans qS))
  · have qn : q.priority = false := by
      rw [← native]
      cases b <;> rfl
    have nat := combine_native (E.priority.trans qn)
    have gA : e.combine.power.gateA = e.power.validA := by rw [nat]; rfl
    have gB : e.combine.power.gateB = e.power.validB := by rw [nat]; rfl
    exact ⟨S.gateA.trans (gA.trans (E.validA.trans qA)), S.gateB.trans (gB.trans (E.validB.trans qB))⟩

/-- A feed that is lost is no longer valid (R506). -/
def Power.lose (p : Power) (b : Bool) : Power := if b then { p with validB := false } else { p with validA := false }

/-- What follows a loss in the feed combination (R508): `selected` the lost feed's gate was on, `toward` the dead time ran toward it. -/
def Hub.recombine (h : Hub) (b selected toward : Bool) : Hub :=
  if !h.priority then h.combine
  else if selected then h.setGates false false (if b then 1 else 2)
  else if toward then (h.setGates false false 0).combine
  else h

/-- The tally of a feed's losses. -/
def lossTally (b : Bool) : Nat := if b then Obj.feedBLosses else Obj.feedALosses

theorem feedLost_eq {h : Hub} {b : Bool} (mv : Nat) (v : h.power.valid b = true) :
    h.feedLost b mv = ((((({ h with power := h.power.lose b } : Hub).count (lossTally b)).feedEvent (if b then 2 else 1) mv false).recombine b
      (h.power.gate b) (decide (h.power.dead = if b then 2 else 1)))).followSupply := by
  cases b
  · have : h.power.validA = true := v
    simp [Hub.feedLost, Power.lose, Hub.recombine, Power.gate, lossTally, this]
  · have : h.power.validB = true := v
    simp [Hub.feedLost, Power.lose, Hub.recombine, Power.gate, lossTally, this]

theorem GatesOnly.recombine {h g : Hub} (H : GatesOnly h g) (b selected toward : Bool) : GatesOnly h (g.recombine b selected toward) := by
  unfold Hub.recombine
  split
  · exact H.combine
  · split
    · exact H.setGates _ _ _
    · split
      · exact (H.setGates _ _ _).combine
      · exact H

/-- After a loss the lost feed's gate is off in either mode. -/
theorem recombine_gate_off {h : Hub} {b : Bool} (toward : Bool) (v : h.power.valid b = false) :
    (h.recombine b (h.power.gate b) toward).power.gate b = false := by
  unfold Hub.recombine
  split
  next native => exact combine_gate_off v (by simp_all)
  next =>
    split
    · cases b <;> rfl
    next off =>
      split
      · exact combine_gate_off (by cases b <;> exact v) (fun _ => by cases b <;> rfl)
      · simpa using off

theorem feedLost_spec {h : Hub} {b : Bool} (mv : Nat) (v : h.power.valid b = true) :
    (h.feedLost b mv).power.validA = (h.power.validA && b) ∧ (h.feedLost b mv).power.validB = (h.power.validB && !b)
      ∧ (h.feedLost b mv).power.validS = h.power.validS ∧ (h.feedLost b mv).power.gate b = false
      ∧ (h.feedLost b mv).num (lossTally b) = satAdd (maxWord 32) (h.num (lossTally b)) 1 := by
  rw [feedLost_eq mv v]
  let q : Hub := ({ h with power := h.power.lose b } : Hub).count (lossTally b)
  let e := q.feedEvent (if b then 2 else 1) mv false
  let toward := decide (h.power.dead = if b then 2 else 1)
  have tally : lossTally b ∈ feedTallies := by cases b <;> decide
  have E : FeedsKept q e := FeedsKept.feedEvent (FeedsKept.refl _) _ _ _
  have R := (GatesOnly.refl e).recombine b (h.power.gate b) toward
  have S : FeedsKept (e.recombine b (h.power.gate b) toward) (e.recombine b (h.power.gate b) toward).followSupply :=
    FeedsKept.followSupply (FeedsKept.refl _)
  obtain ⟨rA, rB, rS⟩ := R.valid
  have qA : q.power.validA = (h.power.validA && b) := by cases b <;> simp [q, Power.lose]
  have qB : q.power.validB = (h.power.validB && !b) := by cases b <;> simp [q, Power.lose]
  have qS : q.power.validS = h.power.validS := by cases b <;> rfl
  have ev : e.power.valid b = false := by
    cases b
    · exact E.validA.trans (by simp [qA])
    · exact E.validB.trans (by simp [qB])
  have eg : h.power.gate b = e.power.gate b := by
    cases b
    · exact E.gateA.symm
    · exact E.gateB.symm
  refine ⟨?_, ?_, ?_, ?_, ?_⟩
  · exact S.validA.trans (rA.trans (E.validA.trans qA))
  · exact S.validB.trans (rB.trans (E.validB.trans qB))
  · exact S.validS.trans (rS.trans (E.validS.trans qS))
  · have off : (e.recombine b (h.power.gate b) toward).power.gate b = false := by rw [eg]; exact recombine_gate_off toward ev
    cases b
    · exact S.gateA.trans off
    · exact S.gateB.trans off
  · rw [S.tally tally, R.2 _ tally, E.tally tally, Hub.num_count, if_pos rfl]
    rfl

/-- A reverse comparator takes its feed out of active-feed (R507). -/
theorem showFeeds_reversed {h : Hub} {b : Bool} (r : (if b then h.power.revB else h.power.revA) = true) :
    (h.showFeeds.num Obj.activeFeed).testBit (if b then 1 else 0) = false := by
  unfold Hub.showFeeds
  rw [Hub.num_setNum_self]
  cases b
  · have : h.power.revA = true := r
    cases h.power.gateB && !h.power.revB <;> cases h.power.validS <;> simp [this] <;> decide
  · have : h.power.revB = true := r
    cases h.power.gateA && !h.power.revA <;> cases h.power.validS <;> simp [this] <;> decide

/-- The end of a dead time toward a feed that is valid, with no return to A to follow (R508). -/
theorem deadTimeExpired_spec {s : State} {m : PowerSample} {h : Hub} (e : s.hub.round m = h)
    (c : h.power.dead = 1 ∧ h.power.validA = true ∨ h.power.dead = 2 ∧ h.power.validB = true ∧ h.power.validA = false) :
    ∃ t, exec (.deadTimeExpired m) s = .next t ∧ t.pending = s.pending
      ∧ t.hub.power.gateA = decide (h.power.dead = 1) ∧ t.hub.power.gateB = decide (h.power.dead = 2) ∧ t.hub.power.dead = 0
      ∧ t.hub.num Obj.switchovers = satAdd (maxWord 32) (h.num Obj.switchovers) 1 := by
  let d := h.power.dead
  let g := (h.setGates (d == 1) (d == 2) 0).count Obj.switchovers
  let t := g.powerEvent 17 d (some (N.powerSwitchover, [d]))
  have T : FeedsKept g t := FeedsKept.powerEvent (FeedsKept.refl _) _ _ _
  have ran : d ≠ 0 := by simp only [d]; omega
  have ready : (if d = 1 then h.power.validA else h.power.validB) = true := by
    rcases c with ⟨one, a⟩ | ⟨two, b, -⟩
    · simp [d, one, a]
    · simp [d, two, b]
  have stays : t.preferA = t := by
    unfold Hub.preferA
    rw [if_neg]
    rw [T.validA, T.gateB]
    rcases c with ⟨one, -⟩ | ⟨-, -, a⟩
    · simp [g, d, one, setGates_power]
    · simp [g, a, setGates_power]
  have run : exec (.deadTimeExpired m) s = .next { s with hub := t.preferA } := by
    show execDeadTimeExpired m s = _
    unfold execDeadTimeExpired State.answer
    dsimp only
    rw [e, if_neg ran, if_pos ready]
  refine ⟨_, run, rfl, ?_⟩
  show t.preferA.power.gateA = _ ∧ t.preferA.power.gateB = _ ∧ t.preferA.power.dead = 0 ∧ t.preferA.num Obj.switchovers = _
  rw [stays]
  refine ⟨T.gateA.trans ?_, T.gateB.trans ?_, T.dead, ?_⟩
  · rfl
  · rfl
  · rw [T.tally (by decide), Hub.num_count, if_pos rfl, setGates_tally _ _ _ _ (by decide)]

/-- The service feed takes the validity it is given, and nothing else of the feeds changes (R506). -/
theorem serviceFeed_spec (h : Hub) (v : Bool) :
    (h.serviceFeed v).power.validS = v ∧ (h.serviceFeed v).power.validA = h.power.validA ∧ (h.serviceFeed v).power.validB = h.power.validB
      ∧ (h.serviceFeed v).power.gateA = h.power.gateA ∧ (h.serviceFeed v).power.gateB = h.power.gateB := by
  unfold Hub.serviceFeed
  split
  next same => exact ⟨same.symm, rfl, rfl, rfl, rfl⟩
  next =>
    have K := FeedsKept.followSupply (FeedsKept.feedEvent (FeedsKept.showFeeds
      (FeedsKept.refl { h with power := { h.power with validS := v } })) 3
        ((({ h with power := { h.power with validS := v } } : Hub).showFeeds).num Obj.vbus) v)
    exact ⟨K.validS, K.validA, K.validB, K.gateA, K.gateB⟩

end Sys2Proof.Machine

open Sys2Proof Sys2Proof.Machine

/-- Settles O51: each command is a round of the converter followed by one event of the feeds, and no event touches more of them than its own. -/
theorem feedsFollowTheirVoltage : Obligations.FeedsFollowTheirVoltage := by
  unfold Obligations.FeedsFollowTheirVoltage
  refine ⟨fun s b m invalid => ?_, fun s b m c hc valid => ?_, fun s b m => ?_, fun s m c => deadTimeExpired_spec rfl c, fun s m inLimits => ?_⟩
  · exact ⟨_, rfl, rfl, feedValid_spec _ invalid⟩
  · have spec := feedLost_spec (if b then m.feedB.toNat else m.feedA.toNat) (h := s.hub.round m) (b := b) valid
    simp only [List.mem_cons, List.not_mem_nil, or_false] at hc
    rcases hc with rfl | rfl
    · exact ⟨_, rfl, rfl, spec⟩
    · exact ⟨_, rfl, rfl, spec⟩
  · refine ⟨_, rfl, rfl, ?_, showFeeds_reversed ?_, ?_⟩
    · cases b <;> rfl
    · cases b <;> rfl
    · cases b <;> exact ⟨rfl, rfl, rfl, rfl⟩
  · exact ⟨_, rfl, rfl, serviceFeed_spec _ _⟩
end

section
/-!
What the units' own work leaves of the life cycle (R30 to R35): the functions' states, the reset objects, and the enable objects of the
sequencers and scan engines. One lemma for each operation that a start, an end or an abort of a function runs.
-/
namespace Sys2Proof.Machine

/-- reset-count and last-func (R502), and the first subindexes of the indexes of the sequencers and the scan engines, which hold their enables. -/
def lifeKey (k : Nat) : Bool :=
  k == Obj.resetCount || k == Obj.lastFunc || (k % 256 == 1 && (k / 65536 == 0x24 || k / 65536 == 0x35 && k / 256 != 0x3540))

/-- A row of objects whose subindex is none of those is not touched, whatever its index. -/
theorem lifeKey_row {b i : Nat} (hb : b % 256 = 0 ∨ 3 < b % 256) : lifeKey (b + i * 256) = false := by
  simp only [lifeKey, Obj.resetCount, Obj.lastFunc, Bool.or_eq_false_iff, Bool.and_eq_false_iff, beq_eq_false_iff_ne, bne_eq_false_iff_eq, ne_eq]
  omega

/-- From `h` to `g` every function keeps its life cycle, and every object of `lifeKey` its value. -/
def Spares (h g : Hub) : Prop := g.funcs = h.funcs ∧ ∀ k, lifeKey k = true → g.obj k = h.obj k

namespace Spares
variable {a h g : Hub}

theorem refl (h : Hub) : Spares h h := ⟨rfl, fun _ _ => rfl⟩

theorem trans (H : Spares a h) (G : Spares h g) : Spares a g := ⟨G.1.trans H.1, fun k hk => (G.2 k hk).trans (H.2 k hk)⟩

theorem func (H : Spares h g) (j : Nat) : g.func j = h.func j := by rw [Hub.func, H.1, Hub.func]

theorem num (H : Spares h g) {k : Nat} (hk : lifeKey k = true) : g.num k = h.num k := congrArg Val.nat (H.2 k hk)

/-- An update of other parts of the hub. -/
theorem same (H : Spares a h) (f : g.funcs = h.funcs) (d : g.dict = h.dict) : Spares a g :=
  trans H ⟨f, fun k _ => congrArg (SMap.get dictDefault · k) d⟩

theorem setObj (H : Spares a h) {k : Nat} (v : Val) (hk : lifeKey k = false) : Spares a (h.setObj k v) := by
  refine trans H ⟨rfl, fun j hj => ?_⟩
  rw [Hub.obj_setObj, if_neg]
  rintro rfl
  rw [hk] at hj
  contradiction

theorem setNum (H : Spares a h) {k : Nat} (n : Nat) (hk : lifeKey k = false) : Spares a (h.setNum k n) := setObj H _ hk
theorem setFlag (H : Spares a h) {k : Nat} (b : Bool) (hk : lifeKey k = false) : Spares a (h.setFlag k b) := setObj H _ hk
theorem setOct (H : Spares a h) {k : Nat} (b : List Byte) (hk : lifeKey k = false) : Spares a (h.setOct k b) := setObj H _ hk
theorem countN (H : Spares a h) {k : Nat} (n : Nat) (hk : lifeKey k = false) : Spares a (h.countN k n) := setObj H _ hk
theorem count (H : Spares a h) {k : Nat} (hk : lifeKey k = false) : Spares a (h.count k) := setObj H _ hk

theorem ite (c : Prop) [Decidable c] (H : Spares a h) (G : Spares a g) : Spares a (if c then h else g) := by
  split
  · exact H
  · exact G

theorem maxNum (H : Spares a h) {k : Nat} (n : Nat) (hk : lifeKey k = false) : Spares a (h.maxNum k n) := ite _ (setNum H n hk) H

theorem when (H : Spares a h) (c : Bool) (f : Hub → Hub) (hf : Spares h (f h)) : Spares a (h.when c f) := ite _ (trans H hf) H

theorem foldl {α : Type} (f : Hub → α → Hub) (hf : ∀ h x, Spares h (f h x)) (l : List α) (H : Spares a h) : Spares a (l.foldl f h) := by
  induction l generalizing h with
  | nil => exact H
  | cons x l ih => exact ih (trans H (hf h x))

/-- What a notice, or a packet of queue 63, may write is none of it. -/
theorem quiet (H : Spares a h) (G : Hub.Quiet 63 h g) : Spares a g := by
  obtain ⟨e, -, o⟩ := G
  refine trans H ⟨by rw [e], fun k hk => o k ?_ ?_ ?_⟩
  all_goals
    simp only [lifeKey, Obj.resetCount, Obj.lastFunc, Obj.inlineCheckFailures, Bool.or_eq_true, Bool.and_eq_true, beq_iff_eq, bne_iff_ne] at *
    omega

theorem notice (H : Spares a h) (code fid : Nat) (args : List Nat) : Spares a (h.notice code fid args) :=
  quiet H (Quietly.notice (Quietly.refl 63 h) _ _ _)

theorem noticeS (H : Spares a h) (code fid : Nat) (args : List Nat) : Spares a (h.noticeS code fid args) :=
  quiet H (Quietly.noticeS (Quietly.refl 63 h) _ _ _)

theorem emit (H : Spares a h) (o : Out) : Spares a (h.emit o) := same H rfl rfl

theorem completerAbort (H : Spares a h) : Spares a h.completerAbort := same H rfl rfl

theorem setLane (H : Spares a h) (w : Bool) (l : Lane) : Spares a (h.setLane w l) := same H (by simp) (by simp)

/-! ### Queues -/

theorem emitHost (H : Spares a h) (o : Out) : Spares a (h.emitHost o) := quiet H (Quietly.emitHost (Quietly.refl 63 h) o)

theorem queueEvent (H : Spares a h) (q : Nat) (now_ : Bool) : Spares a (h.queueEvent q now_) :=
  quiet H (Quietly.queueEvent (Quietly.refl 63 h) q now_)

theorem setQueue (H : Spares a h) (q : Nat) (x : QState) : Spares a (h.setQueue q x) := same H rfl rfl

theorem crossings (H : Spares a h) (q old : Nat) : Spares a (h.crossings q old).1 := by
  unfold Hub.crossings
  have mark : ∀ {h : Hub} {j k : Nat} (c : Bool) (x y : Nat) (s : QState), Spares a h → lifeKey j = false → lifeKey k = false →
      Spares a (if c = true then ((h.setNum j x).setNum k y).setQueue q s else h) := fun _ x y s H hj hk =>
    ite _ (setQueue (setNum (setNum H x hj) y hk) q s) H
  exact mark _ _ _ _ (mark _ _ _ _ (setNum H _ (lifeKey_row (by decide))) (lifeKey_row (by decide)) (lifeKey_row (by decide)))
    (lifeKey_row (by decide)) (lifeKey_row (by decide))

theorem afterLevel (H : Spares a h) (q old : Nat) : Spares a (h.afterLevel q old) := by
  unfold Hub.afterLevel
  exact when (when (crossings H q old) _ _ (notice (refl _) _ _ _)) _ _ (notice (refl _) _ _ _)

theorem creditWordNow (H : Spares a h) (q : Nat) : Spares a (h.creditWordNow q) := by
  unfold Hub.creditWordNow
  exact ite _ (queueEvent (setQueue (emitHost H _) _ _) _ _) H

theorem dropWaiting (H : Spares a h) (q : Nat) : Spares a (h.dropWaiting q).2 := same H rfl rfl

theorem ptrClear (H : Spares a h) (q : Nat) : Spares a (h.ptrClear q) := by
  unfold Hub.ptrClear
  exact creditWordNow (count (countN (setQueue (ite _ H (dropWaiting H q)) _ _) _ (lifeKey_row (by decide))) (lifeKey_row (by decide))) q

theorem ptrFault (H : Spares a h) (q : Nat) : Spares a (h.ptrFault q) := by
  unfold Hub.ptrFault
  exact afterLevel (notice (ptrClear H q) _ _ _) _ _

theorem checkPtr (H : Spares a h) (q : Nat) : Spares a (h.checkPtr q) := ite _ (ptrFault H q) H

theorem completeD2H (H : Spares a h) (q idx : Nat) (b c d : Bool) (st : Option Nat) (w x y z : Nat) :
    Spares a (h.completeD2H q idx b c d st w x y z) := by
  unfold Hub.completeD2H
  exact count (setQueue (emitHost H _) _ _) (lifeKey_row (by decide))

theorem badGrants (q n : Nat) : ∀ {h}, Spares a h → Spares a (h.badGrants q n) := by
  induction n with
  | zero => exact fun H => H
  | succ n ih =>
    intro h H
    unfold Hub.badGrants
    split
    · exact ih (completeD2H (setQueue H _ _) _ _ _ _ _ _ _ _ _ _)
    · exact H

theorem fillBuffers (q hold n : Nat) : ∀ {h}, Spares a h → Spares a (h.fillBuffers q hold n) := by
  induction n with
  | zero => exact fun H => H
  | succ n ih =>
    intro h H
    unfold Hub.fillBuffers
    have G := badGrants q (h.queue q).bufs.length H
    revert G
    generalize h.badGrants q _ = g
    intro G
    dsimp only
    split
    · refine ite _ G (ite _ (ih ?_) (ite _ (queueEvent ?_ _ _) G))
      · exact setQueue (completeD2H (emitHost G _) _ _ _ _ _ _ _ _ _ _) _ _
      · exact setQueue (completeD2H (emitHost G _) _ _ _ _ _ _ _ _ _ _) _ _
    · exact G

theorem pushItem (H : Spares a h) (q : Nat) (i : QItem) : Spares a (h.pushItem q i) := by
  unfold Hub.pushItem
  exact count (setQueue H _ _) (lifeKey_row (by decide))

theorem placeItems (q hold n : Nat) : ∀ {h}, Spares a h → Spares a (h.placeItems q hold n) := by
  induction n with
  | zero => exact fun H => H
  | succ n ih =>
    intro h H
    unfold Hub.placeItems
    split
    · exact H
    · exact ite _ (ih (setQueue (pushItem H _ _) _ _)) (ite _ (setQueue (pushItem H _ _) _ _) H)

/-- A pending value that is taken is one of a key of the list (R23). -/
theorem applyRwb (H : Spares a h) {keys : List Nat} (hk : ∀ k ∈ keys, lifeKey k = false) : Spares a (h.applyRwb keys) := by
  unfold Hub.applyRwb
  have G : Spares a { h with rwb := h.rwb.filter (fun p => !keys.contains p.1) } := same H rfl rfl
  have taken : ∀ p ∈ h.rwb.filter (fun p => keys.contains p.1), lifeKey p.1 = false := by
    intro p hp
    simp only [List.mem_filter, List.contains_iff_mem] at hp
    exact hk _ hp.2
  revert taken G
  generalize h.rwb.filter (fun p => keys.contains p.1) = l
  generalize Hub.mk .. = g
  intro G taken
  induction l generalizing g with
  | nil => exact G
  | cons p l ih => exact ih _ (setObj G _ (taken p (by simp))) (fun q hq => taken q (by simp [hq]))

theorem d2hStart (H : Spares a h) (q i r : Nat) (s : Option Nat) : Spares a (h.d2hStart q i r s) := by
  unfold Hub.d2hStart
  refine setQueue (applyRwb H ?_) _ _
  simp only [List.mem_singleton, forall_eq]
  exact lifeKey_row (by decide)

theorem d2hData (H : Spares a h) (q : Nat) (b : List Byte) (e x y z : Bool) : Spares a (h.d2hData q b e x y z) := by
  unfold Hub.d2hData
  split
  · exact H
  · dsimp only
    generalize (if (e && !x) = true then _ else _ : Bool × List Byte) = p
    have G := when (when H p.1 (fun h => h.count Obj.inlineCheckFailures) (count (refl _) (by decide)))
      (e && (x || p.1)) (fun h => h.count (Obj.qErrTerminated q)) (count (refl _) (lifeKey_row (by decide)))
    revert G
    generalize Hub.when (Hub.when h _ _) _ _ = g
    intro G
    refine ite _ (setQueue G _ _) (ite _ (ite _ ?_ ?_) (fillBuffers _ _ _ (setQueue G _ _)))
    · exact when (setQueue (placeItems _ _ _ (setQueue G _ _)) _ _) _ _ (queueEvent (refl _) _ _)
    · exact placeItems _ _ _ (setQueue G _ _)

theorem release (H : Spares a h) (q n : Nat) : Spares a (h.release q n) := by
  unfold Hub.release
  exact ite _ H (checkPtr (afterLevel (when (setQueue H _ _) _ _ (creditWordNow (refl _) q)) _ _) _)

theorem completeH2D (H : Spares a h) (q : Nat) (d : QDesc) (status bytes : Nat) : Spares a (h.completeH2D q d status bytes) := by
  unfold Hub.completeH2D
  exact when (release (count (when (setQueue (ite _ (emitHost H _) (emitHost H _)) _ _) _ _ (setQueue (refl _) _ _))
    (lifeKey_row (by decide))) _ _) _ _ (queueEvent (refl _) _ _)

theorem drainDescs (q n : Nat) : ∀ {h}, Spares a h → Spares a (h.drainDescs q n) := by
  induction n with
  | zero => exact fun H => H
  | succ n ih =>
    intro h H
    unfold Hub.drainDescs
    split
    · exact H
    · split
      · exact H
      · exact ite _ H (ih (completeH2D (setQueue H _ _) _ _ _ _))

theorem drain (H : Spares a h) (q : Nat) : Spares a (h.drain q) := drainDescs q _ H

theorem finishDescs (H : Spares a h) (q : Nat) (ids : List Nat) (status : Nat) (sent noEcho : Bool) :
    Spares a (h.finishDescs q ids status sent noEcho) := drain (setQueue H _ _) q

theorem appendFrame (H : Spares a h) (id : Nat) (data : List Byte) (ended err : Bool) : Spares a (h.appendFrame id data ended err) := by
  unfold Hub.appendFrame
  split
  · exact H
  · exact same H rfl rfl

theorem feedOpen (H : Spares a h) (q n : Nat) (descs : List Nat) (data : List Byte) (ended err : Bool) :
    Spares a (h.feedOpen q n descs data ended err) := by
  unfold Hub.feedOpen
  refine ite _ (same H rfl rfl) ?_
  have fed : ∀ o : Option (Nat × Option SwFrame), Spares a (match o with | some x => h.appendFrame x.1 data ended err | none => h) := by
    rintro (_ | x)
    · exact H
    · exact appendFrame H _ _ _ _
  exact ite _ (release (countN (setQueue (fed _) _ _) _ (lifeKey_row (by decide))) _ _) (ite _ (finishDescs (fed _) _ _ _ _ _) (fed _))

theorem queueAbort (H : Spares a h) (q : Nat) : Spares a (h.queueAbort q) := by
  unfold Hub.queueAbort
  exact when (setNum (countN (setQueue (when (dropWaiting H q) _ _ (feedOpen (refl _) _ _ _ _ _ _)) _ _) _ (lifeKey_row (by decide))) _
    (lifeKey_row (by decide))) _ _ (same (refl _) rfl rfl)

theorem echoStamp (H : Spares a h) (q idx stamp : Nat) : Spares a (h.echoStamp q idx stamp) := drain (setQueue H _ _) q

theorem queueStart (H : Spares a h) (q : Nat) : Spares a (h.queueStart q) := by
  unfold Hub.queueStart
  exact creditWordNow (setNum (setQueue H _ _) _ (lifeKey_row (by decide))) q

theorem releaseHeld (H : Spares a h) : Spares a h.releaseHeld := by
  unfold Hub.releaseHeld
  have G : Spares a { h with host := { h.host with held := [], heldDone := true } } := same H rfl rfl
  revert G
  generalize Hub.mk .. = g
  generalize h.host.held = l
  intro G
  induction l generalizing g with
  | nil => exact G
  | cons n l ih => exact ih _ (quiet G (Quietly.numberNotice (Quietly.refl 63 g) n))

end Spares
end Sys2Proof.Machine
end

section
/-!
The ring, the bridge and the switch leave the life cycle as it is: sending, fences, a lost link, a window's reset, an aperture's stop, a
switch port's abort.
-/
namespace Sys2Proof.Machine
namespace Spares
variable {a h g : Hub}

/-! ### Sending -/

theorem takeSeq (H : Spares a h) (dst cls : Nat) : Spares a (h.takeSeq dst cls).2 := by
  unfold Hub.takeSeq
  split
  · exact same H rfl rfl
  · split
    · exact same H rfl rfl
    · exact same H rfl rfl

theorem sealFrame (H : Spares a h) (f : RingFrame) : Spares a (h.seal f).2 := takeSeq H _ _

theorem toLane (H : Spares a h) (w : Bool) (f : RingFrame) : Spares a (h.toLane w f) := by
  unfold Hub.toLane
  split
  · exact setLane H _ _
  · exact count H (by decide)

theorem sendPort (H : Spares a h) (w : Bool) (f : RingFrame) : Spares a (h.sendPort w f) := toLane (sealFrame H _) _ _

theorem transitOut (H : Spares a h) (out : Bool) (f : RingFrame) : Spares a (h.transitOut out f) := by
  unfold Hub.transitOut
  split
  · exact ite _ (setLane H _ _) (setLane H _ _)
  · exact count H (by decide)

theorem sendRing (H : Spares a h) (inPort : Nat) (f : RingFrame) (label : Nat) : Spares a (h.sendRing inPort f label).2 := by
  unfold Hub.sendRing
  split
  · split
    · exact count H (by decide)
    · exact same (sealFrame H { f with path := 3 }) rfl rfl
  · split
    · exact count H (by decide)
    next w _ => exact same (sealFrame H { f with path := if w = true then 2 else 1 }) rfl rfl

theorem sendTxn (H : Spares a h) (f : RingFrame) (label : Nat) : Spares a (h.sendTxn f label) :=
  ite _ (same H rfl rfl) (sendRing H _ _ _)

theorem sendWindow (H : Spares a h) (w : Nat) (f : RingFrame) (label : Nat) : Spares a (h.sendWindow w f label) := by
  unfold Hub.sendWindow
  split
  · exact same H rfl rfl
  · exact sendTxn H _ _

theorem markerTag (H : Spares a h) (init addr : Nat) : Spares a (h.markerTag init addr).2 := same H rfl rfl

theorem writesRetired (H : Spares a h) (init : Nat) (p : Nat → Bool) : Spares a (h.writesRetired init p) := same H rfl rfl

/-! ### Fences -/

theorem setFence (H : Spares a h) (w : Nat) (f : Fence) : Spares a (h.setFence w f) := same H rfl rfl

theorem addToAll (H : Spares a h) (w n : Nat) (i e : Bool) : Spares a (h.addToAll w n i e) := same H rfl rfl

theorem finishFence (H : Spares a h) (w : Nat) (inc : Bool) : Spares a (h.finishFence w inc) := by
  unfold Hub.finishFence
  exact when (when (setNum (setFence (when H _ _ (writesRetired (refl _) _ _)) _ _) _ (lifeKey_row (by decide))) _ _
    (notice (refl _) _ _ _)) _ _ (addToAll (refl _) _ _ _ _)

theorem beginFence (H : Spares a h) (w : Nat) : Spares a (h.beginFence w) := by
  unfold Hub.beginFence
  have G := setFence H w { h.fence w with forAll := h.bridge.allLeft.contains w, wrote := false }
  exact ite _ (finishFence G _ _) (ite _ (finishFence G _ _) (sendWindow (setFence (markerTag G _ _) _ _) _ _ _))

theorem reportRest (H : Spares a h) (w : Nat) : Spares a (h.reportRest w) := by
  unfold Hub.reportRest
  exact setNum (setFence (addToAll H _ _ _ _) _ _) _ (lifeKey_row (by decide))

theorem finishAll (H : Spares a h) : Spares a h.finishAll := by
  unfold Hub.finishAll
  refine ite _ (when ?_ _ _ (notice (refl _) _ _ _)) H
  exact same (foldl _ (fun h w => reportRest (refl h) w) h.bridge.allRest H) rfl rfl

theorem fenceOrHold (H : Spares a h) (w : Nat) : Spares a (h.fenceOrHold w) := ite _ (setFence H _ _) (beginFence H w)

theorem startAll (H : Spares a h) : Spares a h.startAll := by
  unfold Hub.startAll
  exact finishAll (foldl _ (fun h w => fenceOrHold (refl h) w) _ (same H rfl rfl))

theorem settleAll (H : Spares a h) : Spares a h.settleAll := ite _ (startAll (finishAll H)) (finishAll H)

theorem afterFence (H : Spares a h) (w : Nat) : Spares a (h.afterFence w) := by
  unfold Hub.afterFence
  exact settleAll (ite _ (beginFence (setFence H _ _) _) H)

theorem bulkFence (H : Spares a h) (q : Nat) : Spares a (h.bulkFence q) := by
  unfold Hub.bulkFence
  dsimp only
  split
  · exact H
  · refine ite _ H (drain (setQueue (foldl _ (fun h n => ?_) _ (setQueue H _ _)) _ _) _)
    exact ite _ (sendTxn (setQueue (markerTag (refl h) _ _) _ _) _ _) (setQueue (refl h) _ _)

theorem bulkSettle (H : Spares a h) (q : Nat) (left : List (Nat × Nat)) (inc : Bool) : Spares a (h.bulkSettle q left inc) := by
  unfold Hub.bulkSettle
  exact ite _ (setQueue H _ _) (bulkFence (drain (setQueue (when (setQueue H _ _) _ _ (writesRetired (refl _) _ _)) _ _) _) _)

theorem fencesReach (H : Spares a h) : Spares a h.fencesReach := by
  unfold Hub.fencesReach
  refine foldl _ (fun h q => ?_) _ (foldl _ (fun h w => ?_) _ H)
  · exact ite _ (refl h) (bulkSettle (refl h) _ _ _)
  · exact ite _ (refl h) (afterFence (finishFence (refl h) _ _) _)

/-! ### A lost link -/

theorem recompute (H : Spares a h) (old : Hub) : Spares a (Hub.recompute old h) := by
  unfold Hub.recompute
  exact ite _ H (ite _ (same H rfl rfl) (setNum (setNum (same H rfl rfl) _ (by decide)) _ (by decide)))

theorem mergeBreak (H : Spares a h) (broken : Bool) (m : Nat) : Spares a (h.mergeBreak broken m) := by
  unfold Hub.mergeBreak
  exact ite _ H (notice (fencesReach (recompute (setNum H _ (by decide)) _)) _ _ _)

theorem turnBack (H : Spares a h) (west : Bool) : Spares a (h.turnBack west) := by
  unfold Hub.turnBack
  exact foldl _ (fun h f => toLane (refl h) _ f) _ (foldl _ (fun h f => transitOut (refl h) _ f) _ (setLane H _ _))

/-- The link state of a ring port is no object of the life cycle. -/
theorem lifeKey_linkState (w : Bool) : lifeKey (Obj.rportLinkState (portIx w)) = false := by cases w <;> decide

theorem loseLink (H : Spares a h) (west : Bool) (cause : Nat) (sends : Bool) : Spares a (h.loseLink west cause sends) := by
  unfold Hub.loseLink
  refine ite _ (when H _ _ (count (refl _) (lifeKey_row (by decide)))) (ite _ H ?_)
  refine ite _ (sendPort (mergeBreak ?_ _ _) _ _) ?_
  all_goals
    refine notice (turnBack (when (setLane (count (setNum H _ (lifeKey_linkState west)) ?_) _ _) _ _ (emit (refl _) _)) _) _ _ _
    exact lifeKey_row (b := Obj.linkLossTally 0) (by decide)

/-! ### The bridge -/

theorem logFault (H : Spares a h) (reason init kind tag addr len : Nat) : Spares a (h.logFault reason init kind tag addr len) := by
  unfold Hub.logFault
  refine notice (when (setNum ?_ _ (by decide)) _ _ (count (refl _) (by decide))) _ _ _
  exact same H rfl rfl

theorem faultWrite (H : Spares a h) (w n : Nat) : Spares a (h.faultWrite w n) :=
  setNum (countN H _ (lifeKey_row (by decide))) _ (lifeKey_row (by decide))

theorem failRead (H : Spares a h) (p : ReadPart) (reason : Nat) : Spares a (h.failRead p reason) :=
  completerAbort (logFault (h := h.dropRead p.host) (same H rfl rfl) _ _ _ _ _ _)

theorem sendBehind (H : Spares a h) (x : AtomicOp) : Spares a (h.sendBehind x) := by
  unfold Hub.sendBehind
  dsimp only
  split
  · exact same H rfl rfl
  · refine foldl _ (fun h x => sendTxn (refl h) _ _) _ ?_
    exact same H rfl rfl

theorem startLock (H : Spares a h) (x : AtomicOp) : Spares a (h.startLock x) := by
  unfold Hub.startLock
  refine sendBehind (sendTxn ?_ _ _) _
  exact same H rfl rfl

theorem abortAtomic (H : Spares a h) (x : AtomicOp) (reason : Nat) : Spares a (h.abortAtomic x reason) :=
  completerAbort (logFault H _ _ _ _ _ _)

theorem failAtomic (H : Spares a h) (x : AtomicOp) (reason : Nat) : Spares a (h.failAtomic x reason) := by
  unfold Hub.failAtomic Hub.nextAtomic
  split
  · exact same (abortAtomic H _ _) rfl rfl
  · exact startLock (same (abortAtomic H _ _) rfl rfl) _

theorem windowReset (H : Spares a h) (w : Nat) : Spares a (h.windowReset w) := by
  unfold Hub.windowReset
  refine settleAll (when (when ?_ _ _ (finishFence (refl _) _ _)) _ _ (finishFence (setFence (refl _) _ _) _ _))
  have slot : ∀ {h : Hub} (o : Option AtomicOp), Spares a h → Spares a (match o with
      | some x =>
        if x.w = w then
          (h.when (x.phase == 1) (fun h =>
            h.sendTxn (txn (addrNode (h.atomicAddr x)) tWrul 2 (h.atomicAddr x) w 1 x.tag []) (0x100 + w))).failAtomic x stWindowOff
        else h
      | none => h) := by
    rintro h (_ | x) H
    · exact H
    · exact ite _ (failAtomic (when H _ _ (sendTxn (refl _) _ _)) _ _) H
  refine slot _ (foldl _ (fun h x => abortAtomic (refl h) x _) _ (foldl _ (fun h i => ?_) _ (faultWrite (same H rfl rfl) _ _)))
  split
  · exact failRead (refl h) _ _
  · exact refl h

theorem refuseTxn (H : Spares a h) (f : RingFrame) (status : Nat) : Spares a (h.refuseTxn f status) :=
  ite _ (sendTxn H _ _) (count (sendTxn H _ _) (by decide))

theorem apertureStop (H : Spares a h) (p : Nat) : Spares a (h.apertureStop p) := by
  unfold Hub.apertureStop
  refine foldl _ (fun h w => ?_) _ (setNum (countN (same H rfl rfl) _ (by decide)) _ (by decide))
  split
  · exact refuseTxn (refl h) _ _
  · exact refl h

/-! ### The switch -/

theorem toQueue (H : Spares a h) (q : Nat) (f : SwFrame) (x y : Nat) (s e r : Bool) : Spares a (h.toQueue q f x y s e r) := by
  unfold Hub.toQueue
  refine ite _ (when H _ _ (countN (refl _) _ (lifeKey_row (by decide)))) ?_
  dsimp only
  have G : Spares a (if s = true then
      (h.setQueue q { h.queue q with dropToEop := false }).d2hStart q f.input f.pkt.route f.pkt.stamp else h) :=
    ite _ (d2hStart (setQueue H _ _) _ _ _ _) H
  revert G
  generalize (if s = true then _ else h : Hub) = g
  intro G
  refine ite _ (ite _ (setQueue ?_ _ _) ?_) (checkPtr (afterLevel (when (d2hData G _ _ _ _ _ _) _ _ (same (refl _) rfl rfl)) _ _) _)
  all_goals exact when G _ _ (setQueue (refl _) _ _)

theorem serviceIn (H : Spares a h) (d : Delivered) : Spares a (h.serviceIn d) := by
  unfold Hub.serviceIn
  have counted : Spares a (h.count Obj.rxOverflow) := count H (by decide)
  refine ite _ H (ite _ (ite _ (notice ?_ _ _ _) counted) (same H rfl rfl))
  exact same counted rfl rfl

theorem output (H : Spares a h) (p : Nat) (c : SwCopy) (f : SwFrame) (m : SwMatch) (err : Bool) : Spares a (h.output p c f m err) := by
  unfold Hub.output
  have G : Spares a ((h.count (Obj.framesOut p)).when err (fun h => h.count (Obj.portErrTerminated p))) :=
    when (count H (lifeKey_row (by decide))) _ _ (count (refl _) (lifeKey_row (by decide)))
  refine ite _ ?_ (ite _ (toQueue G _ _ _ _ _ _ _) (ite _ (ite _ (emit G _) G)
    (ite _ (ite _ (same G rfl rfl) (same G rfl rfl)) (ite _ (serviceIn G _) (same G rfl rfl)))))
  split
  · exact ite _ (emit G _) (toLane G _ _)
  · exact G

theorem releaseCopy (H : Spares a h) (p id : Nat) : Spares a (h.releaseCopy p id) := by
  unfold Hub.releaseCopy
  split
  · exact H
  · exact same H rfl rfl

theorem portAbort (H : Spares a h) (p : Nat) : Spares a (h.portAbort p) := by
  unfold Hub.portAbort
  refine foldl _ (fun h id => count (releaseCopy (refl h) _ _) (lifeKey_row (by decide))) _ ?_
  split
  · exact H
  · split
    · exact H
    · split
      · exact H
      · exact releaseCopy (output H _ _ _ _ _) _ _

end Spares
end Sys2Proof.Machine
end

section
/-!
The channels, the CAN controllers and the sequencers leave the life cycle as it is: driving pins, records, the ledger, draining and
aborting.
-/
namespace Sys2Proof.Machine

/-- A third subindex in a page below 0x3600 is none of `lifeKey`. -/
theorem lifeKey_third {b i : Nat} (hb : b % 256 = 3) (below : b + i * 256 < 0x360000) : lifeKey (b + i * 256) = false := by
  simp only [lifeKey, Obj.resetCount, Obj.lastFunc, Bool.or_eq_false_iff, Bool.and_eq_false_iff, beq_eq_false_iff_ne, bne_eq_false_iff_eq, ne_eq]
  omega

namespace Spares
variable {a h g : Hub}

/-! ### Pins -/

theorem setChan (H : Spares a h) (c : Nat) (x : Chan) : Spares a (h.setChan c x) := same H rfl rfl

theorem drive (H : Spares a h) (c pin : Nat) (level : Bool) : Spares a (h.drive c pin level) := by
  unfold Hub.drive
  exact ite _ H (when (setChan H _ _) _ _ (emit (refl _) _))

theorem floatPin (H : Spares a h) (c pin : Nat) : Spares a (h.floatPin c pin) := setChan H _ _

/-! ### CAN controllers -/

theorem setCan (H : Spares a h) (n : Nat) (x : Can) : Spares a (h.setCan n x) := same H rfl rfl

theorem cycleEnds (H : Spares a h) (n ltc : Nat) : Spares a (h.cycleEnds n ltc) := when H _ _ (setCan (refl _) _ _)

theorem matrixStop (H : Spares a h) (n : Nat) : Spares a (h.matrixStop n) :=
  setNum (setCan (cycleEnds H _ _) _ _) _ (lifeKey_row (by decide))

theorem canStart (H : Spares a h) (n : Nat) : Spares a (h.canStart n) := by
  unfold Hub.canStart
  exact setNum (setNum (setNum (setNum (setCan H _ _) _ (lifeKey_row (by decide))) _ (lifeKey_row (by decide))) _
    (lifeKey_row (by decide))) _ (lifeKey_row (by decide))

theorem canStop (H : Spares a h) (n : Nat) : Spares a (h.canStop n) := by
  unfold Hub.canStop
  exact setNum (setNum (setCan (countN H _ (lifeKey_row (by decide))) _ _) _ (lifeKey_row (by decide))) _ (lifeKey_row (by decide))

/-! ### Sequencers -/

theorem setSq (H : Spares a h) (s : Nat) (x : SeqState) : Spares a (h.setSq s x) := same H rfl rfl

theorem swArrive (H : Spares a h) (port : Nat) (p : SwPacket) : Spares a (h.swArrive port p) := same H rfl rfl

theorem setInbox (H : Spares a h) (key : Nat) (l : List Delivered) : Spares a (h.setInbox key l) := same H rfl rfl

theorem applyPin (H : Spares a h) (s p : Nat) : Spares a (h.applyPin s p) := by
  unfold Hub.applyPin
  refine ite _ H ?_
  split
  · exact floatPin H _ _
  · exact ite _ (floatPin H _ _) (drive H _ _ _)

theorem seqDrive (H : Spares a h) (s p : Nat) (l : Option Bool) : Spares a (h.seqDrive s p l) := applyPin (setSq H _ _) _ _

theorem restPin (H : Spares a h) (s p : Nat) : Spares a (h.restPin s p) := by
  unfold Hub.restPin
  exact ite _ (seqDrive H _ _ _) H

theorem seqRest (H : Spares a h) (s : Nat) : Spares a (h.seqRest s) := foldl _ (fun h p => restPin (refl h) s p) _ H

theorem startPin (H : Spares a h) (s p : Nat) : Spares a (h.startPin s p) := by
  unfold Hub.startPin
  exact ite _ H (ite _ (setSq H _ _) (restPin (setChan H _ _) _ _))

theorem seqStart (H : Spares a h) (s : Nat) : Spares a (h.seqStart s) := by
  unfold Hub.seqStart
  have G := foldl _ (fun h p => startPin (refl h) s p) (List.range 8) H
  exact ite _ (setSq G _ _) G

theorem seqLoadStart (H : Spares a h) (s : Nat) : Spares a (h.seqLoadStart s) := setSq H _ _

theorem seqClose (H : Spares a h) (s flag : Nat) : Spares a (h.seqClose s flag) := by
  unfold Hub.seqClose
  exact ite _ H (swArrive (count (setSq H _ _) (lifeKey_row (by decide))) _ _)

theorem seqPump (s n : Nat) : ∀ {h}, Spares a h → Spares a (h.seqPump s n) := by
  induction n with
  | zero => exact fun H => H
  | succ n ih =>
    intro h H
    unfold Hub.seqPump
    dsimp only
    split
    · exact H
    · exact ite _ H (ih (ite _ (seqClose (setSq H _ _) _ _) (setSq H _ _)))

theorem seqHalt (H : Spares a h) (s : Nat) : Spares a (h.seqHalt s) := by
  unfold Hub.seqHalt
  exact seqClose (setSq (seqPump s 9 (when H _ _ (count (refl _) (lifeKey_row (by decide))))) _ _) _ _

theorem seqLost (H : Spares a h) (s : Nat) : Spares a (h.seqLost s) := by
  unfold Hub.seqLost
  exact countN (countN (setSq H _ _) _ (lifeKey_row (by decide))) _ (lifeKey_row (by decide))

theorem seqAbort (H : Spares a h) (s : Nat) : Spares a (h.seqAbort s) := setInbox (setSq (seqLost (seqRest H _) _) _ _) _ _

/-! ### Records and the ledger -/

theorem recordOn (H : Spares a h) (c route type flags stamp : Nat) (data : List Byte) :
    Spares a (h.recordOn c route type flags stamp data) := by
  unfold Hub.recordOn
  exact ite _ H (swArrive (setChan H _ _) _ _)

theorem record (H : Spares a h) (c type flags stamp : Nat) (data : List Byte) : Spares a (h.record c type flags stamp data) :=
  recordOn H _ _ _ _ _ _

theorem ledgerObjects (H : Spares a h) : Spares a h.ledgerObjects :=
  setNum (setNum (setNum (setNum H _ (by decide)) _ (by decide)) _ (by decide)) _ (by decide)

theorem exportPump (H : Spares a h) : Spares a h.exportPump := by
  unfold Hub.exportPump
  refine ite _ H (setNum ?_ _ (by decide))
  exact same (foldl _ (fun h g => recordOn (refl h) _ _ _ _ _ _) _ H) rfl rfl

theorem ledgerAdd (H : Spares a h) (c stamp phase : Nat) (usable state : Bool) (flags : Nat) :
    Spares a (h.ledgerAdd c stamp phase usable state flags) := by
  unfold Hub.ledgerAdd
  refine exportPump (record (ledgerObjects (setChan (when ?_ _ _ (notice (count (refl _) (by decide)) _ _ _)) _ _)) _ _ _ _ _)
  exact same H rfl rfl

/-! ### Channels -/

theorem rts (H : Spares a h) (c : Nat) : Spares a (h.rts c) := by
  unfold Hub.rts
  exact ite _ H (ite _ (drive H _ _ _) (ite _ (drive H _ _ _) H))

theorem uartClose (H : Spares a h) {c : Nat} (hc : c < 192) (closer : Nat) : Spares a (h.uartClose c closer) := by
  unfold Hub.uartClose
  refine ite _ H ?_
  have packets : lifeKey (Obj.packetsRx c) = false := lifeKey_third (by decide) (by omega)
  refine rts (ite _ (notice (setChan ?_ _ _) _ _ _) ?_) c
  all_goals
    exact when (count (record (setChan (when H _ _ (count (count (refl _) (lifeKey_row (by decide))) (by decide))) _ _) _ _ _ _ _) packets) _ _
      (count (refl _) (lifeKey_row (by decide)))

theorem setQuality (H : Spares a h) (c flags : Nat) : Spares a (h.setQuality c flags) := setNum H _ (lifeKey_row (by decide))

theorem boutDrive (H : Spares a h) (c : Nat) (high : Bool) : Spares a (h.boutDrive c high) := by
  unfold Hub.boutDrive
  have G := when (setNum H (b2n high) (lifeKey_row (i := c) (b := Obj.outputCommand 0) (by decide))) (h.commanded c != high)
    (fun h => h.setChan c { h.chan c with rbWin := h.num (Obj.boutReadback c) != 0, coilWin := h.num (Obj.boutCoilSense c) != 0 })
    (setChan (refl _) _ _)
  exact ite _ G (drive G _ _ _)

theorem boutSafe (H : Spares a h) (c : Nat) (cause : Option Nat) : Spares a (h.boutSafe c cause) := by
  unfold Hub.boutSafe
  have G := setChan H c { h.chan c with pulse := false, angle := none }
  have safe := ite ((h.setChan c { h.chan c with pulse := false, angle := none }).num (Obj.boutSafeState c) = 0) (boutDrive G c false)
    (ite ((h.setChan c { h.chan c with pulse := false, angle := none }).num (Obj.boutSafeState c) = 1) (boutDrive G c true) G)
  cases cause with
  | none => exact safe
  | some k => exact notice (count safe (lifeKey_row (by decide))) _ _ _

theorem cstartEnd (H : Spares a h) (c : Nat) : Spares a (h.cstartEnd c) := by
  unfold Hub.cstartEnd
  exact ite _ (when (setChan H _ _) _ _ (drive (refl _) _ _ _)) H

theorem chanStart (H : Spares a h) (c : Nat) : Spares a (h.chanStart c) := by
  unfold Hub.chanStart
  dsimp only
  have G : ∀ k : Chan, Spares a ((h.setChan c k).setQuality c 0) := fun k => setQuality (setChan H c k) c 0
  have input : ∀ {g : Hub} (x y : Nat), Spares a g → Spares a ((g.setNum (Obj.inputState c) x).setNum (Obj.chStLastChange c) y) := fun x y G =>
    setNum (setNum G x (lifeKey_row (by decide))) y (lifeKey_row (by decide))
  refine ite _ ?uart (ite _ ?can (ite _ ?bin (ite _ ?bout (ite _ ?tcode (ite _ ?cstart (G _))))))
  case uart => exact ite _ (drive (drive (setChan (G _) _ _) _ _ _) _ _ _) (rts (drive (setChan (G _) _ _) _ _ _) _)
  case can => exact drive (drive (G _) _ _ _) _ _ _
  case bin =>
    exact when (when (input _ _ (setChan (G _) _ _)) _ _ (drive (refl _) _ _ _)) _ _ (ledgerAdd (refl _) _ _ _ _ _ _)
  case bout =>
    exact drive (setFlag (setNum (setChan (G _) _ _) _ (lifeKey_row (by decide))) _ (lifeKey_row (by decide))) _ _ _
  case tcode => exact ite _ (G _) (drive (G _) _ _ _)
  case cstart => exact drive (G _) _ _ _

end Spares
end Sys2Proof.Machine
end

section
/-!
The stations, PTP, GOOSE, the duplex partner, the scan engines and the ring ports leave the life cycle as it is; so does what every
function does as it enters ON, aborts or leaves.
-/
namespace Sys2Proof.Machine
namespace Spares
variable {a h g : Hub}

/-! ### Stations and PTP -/

theorem setStaTx (H : Spares a h) (p : Nat) (l : List StaTx) : Spares a (h.setStaTx p l) := same H rfl rfl

theorem setPtpPort (H : Spares a h) (p : Nat) (x : PtpPort) : Spares a (h.setPtpPort p x) := same H rfl rfl

theorem echoLost (H : Spares a h) (e : Option (Nat × Nat)) : Spares a (h.echoLost e) := by
  cases e with
  | none => exact H
  | some x => exact echoStamp H _ _ _

theorem copyLost (H : Spares a h) (p : Nat) (e : Option (Nat × Nat)) : Spares a (h.copyLost p e) := by
  unfold Hub.copyLost
  split
  · exact H
  · split
    · refine echoStamp ?_ _ _ _
      exact same H rfl rfl
    · exact ite _ H (echoLost H _)

theorem staFlush (H : Spares a h) (p : Nat) : Spares a (h.staFlush p) := by
  unfold Hub.staFlush
  exact foldl _ (fun h t => copyLost (refl h) _ _) _ (countN (setStaTx H _ _) _ (lifeKey_row (by decide)))

/-- The state of a PTP port is no object of the life cycle. -/
theorem lifeKey_portState {p : Nat} (hp : p < 2) : lifeKey (Obj.portStateA + p) = false := by
  obtain rfl | rfl : p = 0 ∨ p = 1 := by omega
  · decide
  · decide

theorem setPortState (H : Spares a h) {p : Nat} (hp : p < 2) (s : Nat) : Spares a (h.setPortState p s) := by
  unfold Hub.setPortState
  exact ite _ H (notice (setNum (setPtpPort H _ _) _ (lifeKey_portState hp)) _ _ _)

theorem setParent (H : Spares a h) (f : Foreign) (own : Bool) : Spares a (h.setParent f own) := by
  unfold Hub.setParent
  have G : ∀ x y z v w, Spares a (((((h.setOct Obj.parentPortIdentity x).setOct Obj.grandmasterIdentity y).setNum Obj.gmClockClass z).setNum
      Obj.stepsRemoved v).setNum Obj.totalTimeInaccuracy w) := fun x y z v w =>
    setNum (setNum (setNum (setOct (setOct H x (by decide)) y (by decide)) z (by decide)) v (by decide)) w (by decide)
  exact ite _ (G _ _ _ _ _) (notice (G _ _ _ _ _) _ _ _)

theorem ptpDecide (H : Spares a h) (timeout : Option Nat) : Spares a (h.ptpDecide timeout) := by
  unfold Hub.ptpDecide
  have G := setPortState (setPortState H (p := 0) (by decide) (h.decidePort 0 (timeout == some 0))) (p := 1) (by decide)
    (h.decidePort 1 (timeout == some 1))
  refine ite _ G ?_
  split
  · exact setParent G _ _
  · exact ite _ (setParent G _ _) G

theorem staLinkDown (H : Spares a h) (p : Nat) (loss : Bool) : Spares a (h.staLinkDown p loss) := by
  unfold Hub.staLinkDown
  exact ite _ H (when (staFlush (notice (setNum (when H _ _ (count (refl _) (lifeKey_row (by decide)))) _ (lifeKey_row (by decide))) _ _ _) _) _ _
    (ptpDecide (setPtpPort (refl _) _ _) _))

theorem ptpStart (H : Spares a h) : Spares a h.ptpStart := by
  unfold Hub.ptpStart
  have G : Spares a { h with ptp := [] } := same H rfl rfl
  have listening : ∀ {g : Hub} {p : Nat}, p < 2 → Spares a g → Spares a (if g.ptpLive p then g.setPortState p psListening else g) :=
    fun hp G => ite _ (setPortState G hp _) G
  exact listening (by decide) (listening (by decide) G)

theorem ptpStop (H : Spares a h) : Spares a h.ptpStop := by
  unfold Hub.ptpStop
  have G : Spares a { h with ptp := [] } := same H rfl rfl
  exact setPortState (setPortState G (by decide) _) (by decide) _

/-! ### GOOSE -/

theorem nextFree (H : Spares a h) : Spares a h.nextFree := same H rfl rfl

theorem gocbHand (H : Spares a h) (g : Nat) (newState : Bool) : Spares a (h.gocbHand g newState) := by
  unfold Hub.gocbHand
  exact count (count (setNum (swArrive (maxNum (nextFree H) _ (by decide)) _ _) _ (lifeKey_row (by decide))) (lifeKey_row (by decide)))
    (by decide)

theorem gocbNewState (H : Spares a h) (g st t : Nat) : Spares a (h.gocbNewState g st t) := by
  unfold Hub.gocbNewState
  refine when ?_ _ _ (gocbHand (refl _) _ _)
  exact same (setNum (setNum (setNum H st (k := Obj.stNum g) (lifeKey_row (by decide))) 0 (k := Obj.sqNum g) (lifeKey_row (by decide))) t
    (k := Obj.gocbLastChange g) (lifeKey_row (by decide))) rfl rfl

theorem gocbStart (H : Spares a h) (g : Nat) : Spares a (h.gocbStart g) := by
  unfold Hub.gocbStart
  refine gocbNewState ?_ _ _ _
  exact same H rfl rfl

theorem subStart (H : Spares a h) (u : Nat) : Spares a (h.subStart u) :=
  same (setNum H subWaiting (k := Obj.subState u) (lifeKey_row (by decide))) rfl rfl

/-! ### The duplex partner -/

theorem dropPersisting (H : Spares a h) : Spares a h.dropPersisting := same H rfl rfl

theorem clearCompare (H : Spares a h) : Spares a h.clearCompare := by
  unfold Hub.clearCompare
  refine setNum (setNum ?_ _ (by decide)) _ (by decide)
  exact same H rfl rfl

theorem endSwap (H : Spares a h) : Spares a h.endSwap := by
  unfold Hub.endSwap
  refine setNum ?_ _ (by decide)
  exact same H rfl rfl

theorem dupStart (H : Spares a h) : Spares a h.dupStart := by
  unfold Hub.dupStart
  refine setNum (setNum (setNum (maxNum (setNum (setNum (endSwap (clearCompare (dropPersisting ?_))) _ (by decide)) _ (by decide)) _
    (by decide)) _ (by decide)) _ (by decide)) _ (by decide)
  exact same H rfl rfl

theorem dupStop (H : Spares a h) : Spares a h.dupStop := by
  unfold Hub.dupStop
  refine setNum (setNum (endSwap (clearCompare (dropPersisting ?_))) _ (by decide)) _ (by decide)
  exact same H rfl rfl

/-! ### Scan engines and the service port -/

theorem askHost (H : Spares a h) (addr len : Nat) : Spares a (h.askHost addr len) := by
  unfold Hub.askHost
  refine ite _ (same H rfl rfl) (ite _ (emit ?_ _) (same H rfl rfl))
  exact same H rfl rfl

theorem readEnded (H : Spares a h) : Spares a h.readEnded := by
  unfold Hub.readEnded
  dsimp only
  split
  · exact same H rfl rfl
  · refine askHost ?_ _ _
    exact same H rfl rfl

theorem storeNext (H : Spares a h) : Spares a h.storeNext := by
  unfold Hub.storeNext
  split
  · exact same H rfl rfl
  · exact same H rfl rfl

theorem storeDrop (H : Spares a h) (rank : Nat) : Spares a (h.storeDrop rank) := by
  unfold Hub.storeDrop
  have G : Spares a { h with store := { h.store with waiting := h.store.waiting.filter (fun j => j.rank != rank) } } := same H rfl rfl
  dsimp only
  split
  · exact ite _ (storeNext G) G
  · exact G

theorem setScan (H : Spares a h) (e : Nat) (x : Scan) : Spares a (h.setScan e x) := same H rfl rfl

theorem scanAbort (H : Spares a h) (e : Nat) : Spares a (h.scanAbort e) := by
  unfold Hub.scanAbort
  exact setScan (storeDrop (when H _ _ (readEnded (refl _))) _) _ _

theorem usbDisconnect (H : Spares a h) : Spares a h.usbDisconnect := by
  have port := PortOnly.usbDisconnect (PortOnly.refl h)
  refine trans H ⟨port.funcs, fun k hk => port.2 k ?_⟩
  simp only [lifeKey, Obj.resetCount, Obj.lastFunc, Bool.or_eq_true, Bool.and_eq_true, beq_iff_eq, bne_iff_ne] at hk
  simp only [portIndices, List.mem_cons, List.not_mem_nil, or_false]
  omega

/-! ### Ring ports -/

/-- The link state of one of the two ring ports is no object of the life cycle. -/
theorem lifeKey_rportLinkState {i : Nat} (hi : i < 2) : lifeKey (Obj.rportLinkState i) = false := lifeKey_third (by decide) (by omega)

theorem ringPortDown (H : Spares a h) {i : Nat} (hi : i < 2) : Spares a (h.ringPortDown i) := by
  unfold Hub.ringPortDown
  exact setNum (setLane (countN (when H _ _ (setNum (loseLink (refl _) _ _ _) _ (lifeKey_rportLinkState hi))) _ (by decide)) _ _) _
    (lifeKey_row (by decide))

theorem ringPortStart (H : Spares a h) {i : Nat} (hi : i < 2) : Spares a (h.ringPortStart i) :=
  when H _ _ (setNum (refl _) _ (lifeKey_rportLinkState hi))

end Spares
end Sys2Proof.Machine
end

section
/-!
What a function does as it enters ON, aborts or leaves is spared the life cycle (R31): of the functions, a channel that leaves moves only
CAN controllers and sequencers (R290, R330).
-/
namespace Sys2Proof.Machine

/-! ### The functions and their ids -/

/-- The FUNC_ID of a function (R479). -/
def Fn.funcId : Fn → Nat
  | .channel c => fidChannel c | .cluster k => fidCluster k | .can n => fidCan n | .seq s => fidSeq s | .queue q => fidQueue q
  | .window w => fidWindow w | .aperture a => fidAperture a | .port p => fidPort p | .ringPort i => fidRingPort i
  | .station p => fidStation p | .gocb g => fidGocb g | .sub u => fidSub u | .scan e => fidScan e
  | .duplex => fidDuplex | .service => fidService | .ptp => fidPtp

/-- The channels, sequencers, ring ports and scan engines there are. -/
def Fn.exists : Fn → Prop
  | .channel c => c < 192
  | .seq s => s < 24
  | .scan e => e < 3
  | .ringPort i => i < 2
  | _ => True

/-- An id names the function that has it, and only functions there are. -/
theorem funcId_of_fnOf {fid : Nat} {f : Fn} (hf : fnOf fid = some f) : f.funcId = fid ∧ f.exists := by
  unfold fnOf at hf
  dsimp only at hf
  repeat' split at hf
  all_goals cases hf
  all_goals
    refine ⟨?_, by simp only [Fn.exists, *]⟩
    simp only [Fn.funcId, fidDuplex, fidService, fidPtp, fidChannel, fidCluster, fidCan, fidSeq, fidQueue, fidWindow, fidAperture, fidPort,
      fidRingPort, fidStation, fidGocb, fidSub, fidScan]
    omega

namespace Spares
variable {a h g : Hub}

/-! ### Entering ON, aborting -/

theorem fnStarting (H : Spares a h) (f : Fn) : Spares a (h.fnStarting f) := by
  cases f with
  | seq s => exact seqLoadStart H s
  | ringPort i =>
    refine ite _ (applyRwb H ?_) H
    simp only [List.mem_singleton, forall_eq]
    decide
  | _ => exact H

theorem fnOn (H : Spares a h) {f : Fn} (there : f.exists) : Spares a (h.fnOn f) := by
  cases f with
  | channel c => exact chanStart H c
  | can n => exact canStart H n
  | seq s => exact seqStart H s
  | queue q => exact when (queueStart H q) _ _ (releaseHeld (refl _))
  | gocb g => exact gocbStart H g
  | sub u => exact subStart H u
  | duplex => exact dupStart H
  | ptp => exact ptpStart H
  | ringPort i => exact ringPortStart H there
  | _ => exact H

theorem fnAbort (H : Spares a h) {f : Fn} (there : f.exists) : Spares a (h.fnAbort f) := by
  cases f with
  | can n => exact canStop H n
  | seq s => exact seqAbort H s
  | queue q => exact queueAbort H q
  | window w => exact windowReset H w
  | aperture p => exact apertureStop H p
  | port p => exact portAbort H p
  | ringPort i => exact ringPortDown H there
  | station p => exact staLinkDown (staFlush H p) p false
  | scan e => exact scanAbort H e
  | _ => exact H

end Spares

/-! ### Leaving ON -/

/-- From `h` to `g` the functions up to the clusters keep their life cycle, and every object of `lifeKey` its value. -/
def SparesLow (h g : Hub) : Prop := (∀ j < 0x300, g.func j = h.func j) ∧ ∀ k, lifeKey k = true → g.obj k = h.obj k

/-- The life cycle a function is given, and that of another. -/
theorem func_setFunc (h : Hub) (i j : Nat) (x : FState) : (h.setFunc i x).func j = if j = i then x else h.func j := SMap.get_set _ h.funcs i j x

namespace SparesLow
variable {a h g : Hub}

theorem refl (h : Hub) : SparesLow h h := ⟨fun _ _ => rfl, fun _ _ => rfl⟩

theorem trans (H : SparesLow a h) (G : SparesLow h g) : SparesLow a g :=
  ⟨fun j hj => (G.1 j hj).trans (H.1 j hj), fun k hk => (G.2 k hk).trans (H.2 k hk)⟩

theorem spares (H : SparesLow a h) (G : Spares h g) : SparesLow a g := trans H ⟨fun j _ => G.func j, G.2⟩

theorem setFunc (H : SparesLow a h) {i : Nat} (x : FState) (hi : 0x300 ≤ i) : SparesLow a (h.setFunc i x) := by
  refine trans H ⟨fun j hj => ?_, fun _ _ => rfl⟩
  rw [func_setFunc, if_neg (by omega)]

theorem ite (c : Prop) [Decidable c] (H : SparesLow a h) (G : SparesLow a g) : SparesLow a (if c then h else g) := by
  split
  · exact H
  · exact G

theorem seqLeave (H : SparesLow a h) (s : Nat) : SparesLow a (h.seqLeave s) := by
  unfold Hub.seqLeave
  have halted := spares H (Spares.seqHalt (Spares.refl h) s)
  exact ite _ (setFunc halted _ (by unfold fidSeq; omega)) halted

theorem chanLeave (H : SparesLow a h) {c : Nat} (hc : c < 192) (cause : Option Nat) : SparesLow a (h.chanLeave c cause) := by
  unfold Hub.chanLeave
  have stopped := spares H (Spares.when (Spares.refl h) (!h.isOff (fidCan c)) (fun h => h.matrixStop c) (Spares.matrixStop (Spares.refl h) c))
  refine ite _ (spares H (Spares.uartClose (Spares.refl h) hc _)) (ite _ (spares H (Spares.boutSafe (Spares.refl h) c cause))
    (ite _ (spares H (Spares.cstartEnd (Spares.refl h) c)) (ite _ (ite _ (setFunc stopped _ (by unfold fidCan; omega)) stopped) (ite _ ?_ H))))
  exact ite _ (seqLeave (ite _ (seqLeave H _) H) _) (ite _ (seqLeave H _) H)

theorem fnLeave (H : SparesLow a h) {f : Fn} (there : f.exists) (abort : Bool) (cause : Option Nat) : SparesLow a (h.fnLeave f abort cause) := by
  have aborted := Spares.when (Spares.refl h) abort (fun h => h.fnAbort f) (Spares.fnAbort (Spares.refl h) there)
  cases f with
  | channel c => exact chanLeave H there cause
  | seq s => exact spares H (Spares.ite _ (Spares.seqAbort (Spares.refl h) s) (Spares.seqHalt (Spares.refl h) s))
  | can n => exact spares H (Spares.ite _ (Spares.canStop (Spares.refl h) n) (Spares.matrixStop (Spares.refl h) n))
  | sub u => exact spares H (Spares.setNum (Spares.refl h) _ (lifeKey_row (by decide)))
  | duplex => exact spares H (Spares.dupStop (Spares.refl h))
  | service => exact spares H (Spares.usbDisconnect (Spares.refl h))
  | ptp => exact spares H (Spares.ptpStop (Spares.refl h))
  | cluster _ => exact H
  | gocb _ => exact H
  | _ => exact spares H aborted

end SparesLow
end Sys2Proof.Machine
end

section
/-! A function enters ON and leaves STOPPING (R31, R33, R243). -/
namespace Sys2Proof.Machine
variable {h : Hub} {fid : Nat} {f : Fn}

/-- A cluster that follows its channels moves no other function. -/
theorem func_clusterFollow {j k : Nat} (hj : j ≠ fidCluster k) : (h.clusterFollow k).func j = h.func j := by
  unfold Hub.clusterFollow
  dsimp only
  split_ifs
  · rfl
  · exact (func_setFunc _ _ _ _).trans (if_neg hj)
  · exact (func_setFunc _ _ _ _).trans (if_neg hj)
  · rfl

/-- The function that moved is not its cluster. -/
theorem func_follow (hf : fnOf fid = some f) : (h.follow f).func fid = h.func fid := by
  obtain ⟨id, there⟩ := funcId_of_fnOf hf
  cases f with
  | channel c =>
    refine func_clusterFollow ?_
    rw [← id]
    simp only [Fn.exists] at there
    simp only [Fn.funcId, fidChannel, fidCluster]
    omega
  | _ => rfl

/-- A function that enters ON is ON, whatever its unit then does. -/
theorem life_fnOn (there : f.exists) (x : FState) : (((h.setFunc fid { x with life := .on }).fnOn f).func fid).life = .on := by
  rw [(Spares.fnOn (Spares.refl _) there).func, func_setFunc, if_pos rfl]

/-- R31: prepared, with what it needs in place, a function enters ON. -/
theorem life_startComplete (hf : fnOf fid = some f) (starting : (h.func fid).life = .starting) (bank : BankClass)
    (cluster : ∀ c, f = .channel c → h.isOn (fidCluster (c / 16)) = true ∧ h.num (Obj.bankVoltage (c / 16)) ≠ 0)
    (pins : (∃ n, f = .can n) ∨ (∃ q, f = .seq q) → h.startWaits f = false ∧ h.fnCheck f = 0) :
    ((h.startComplete fid bank).func fid).life = .on := by
  have on := life_fnOn (h := h) (fid := fid) (funcId_of_fnOf hf).2 (h.func fid)
  unfold Hub.startComplete
  rw [hf]
  dsimp only
  rw [if_neg (not_not_intro starting)]
  cases f with
  | cluster k => simp only [func_setFunc, if_true]
  | channel c =>
    obtain ⟨up, valid⟩ := cluster c rfl
    simp only [up, valid, Bool.not_true, Bool.false_eq_true, if_false]
    exact on
  | can n =>
    obtain ⟨ready, passed⟩ := pins (.inl ⟨n, rfl⟩)
    simp only [ready, passed, Bool.false_eq_true, if_false, ne_eq, not_true_eq_false]
    exact on
  | seq q =>
    obtain ⟨ready, passed⟩ := pins (.inr ⟨q, rfl⟩)
    simp only [ready, passed, Bool.false_eq_true, if_false, ne_eq, not_true_eq_false]
    exact on
  | _ => exact on

/-- R242: a cluster that is prepared reports the class of its bank. -/
theorem bankVoltage_startComplete {k : Nat} (hf : fnOf fid = some (.cluster k)) (starting : (h.func fid).life = .starting) (bank : BankClass) :
    (h.startComplete fid bank).num (Obj.bankVoltage k) = bankCode bank := by
  unfold Hub.startComplete
  rw [hf]
  dsimp only
  rw [if_neg (not_not_intro starting), Hub.num_setFunc, Hub.num_setNum_self]

/-- R31, R33: a function that leaves STOPPING without PENDING_EN is OFF, and keeps only FAULT. -/
theorem func_leaveStopping (hf : fnOf fid = some f) (still : (h.func fid).pendingEn = false) :
    (h.leaveStopping fid).func fid = { fault := (h.func fid).fault } := by
  unfold Hub.leaveStopping
  rw [hf]
  dsimp only
  rw [still, if_neg Bool.false_ne_true, func_follow hf, func_setFunc, if_pos rfl]

/-- A function that drains, and is not in reset, leaves STOPPING (R31). -/
theorem drained_stopping (life : (h.func fid).life = .stopping) (free : (h.func fid).inReset = false) :
    h.drained fid = h.leaveStopping fid := if_pos ⟨life, free⟩

end Sys2Proof.Machine

open Sys2Proof Sys2Proof.Machine

/-- Settles O7: what a unit does as it enters ON spares the life cycle, and a function that leaves STOPPING is stored last. -/
theorem functionsStartAndDrain : Obligations.FunctionsStartAndDrain := by
  unfold Obligations.FunctionsStartAndDrain
  refine ⟨fun s fid bank f hf starting cluster pins => ?_, fun s fid f hf c hc stopping => ?_⟩
  · refine ⟨_, rfl, rfl, life_startComplete hf starting bank cluster pins, fun k e => ?_⟩
    subst e
    exact bankVoltage_startComplete hf starting bank
  · have off : (s.hub.drained fid.toNat).func fid.toNat = { fault := (s.hub.func fid.toNat).fault } := by
      rw [drained_stopping (by rw [stopping]) (by rw [stopping]), func_leaveStopping hf (by rw [stopping])]
    simp only [List.mem_cons, List.not_mem_nil, or_false] at hc
    rcases hc with rfl | rfl
    · exact ⟨_, rfl, rfl, off⟩
    · exact ⟨_, rfl, rfl, off⟩
end

section
/-!
The parts of a function reset (R34, R492): the restored configuration, a start that is begun, what a reset leaves of the other functions
of a cluster, and the count.
-/
namespace Sys2Proof.Machine
variable {a h g : Hub} {fid m : Nat} {f : Fn}

/-! ### The restored configuration -/

/-- What values are put in force leaves the life cycle. -/
theorem foldl_setObj_funcs (l : List (Nat × Val)) (h : Hub) : (l.foldl (fun h p => h.setObj p.1 p.2) h).funcs = h.funcs := by
  induction l generalizing h with
  | nil => rfl
  | cons p l ih => exact ih _

/-- An object none of the values belongs to keeps its own. -/
theorem foldl_setObj_obj {k : Nat} (l : List (Nat × Val)) (h : Hub) (hk : ∀ p ∈ l, p.1 ≠ k) :
    (l.foldl (fun h p => h.setObj p.1 p.2) h).obj k = h.obj k := by
  induction l generalizing h with
  | nil => rfl
  | cons p l ih =>
    rw [List.foldl_cons, ih _ (fun q hq => hk q (List.mem_cons_of_mem _ hq)), Hub.obj_setObj, if_neg (Ne.symm (hk p List.mem_cons_self))]

/-- The values put in force do not ask what else the objects hold. -/
theorem foldl_setObj_congr {k : Nat} (l : List (Nat × Val)) (e : g.obj k = h.obj k) :
    (l.foldl (fun h p => h.setObj p.1 p.2) g).obj k = (l.foldl (fun h p => h.setObj p.1 p.2) h).obj k := by
  induction l generalizing g h with
  | nil => exact e
  | cons p l ih =>
    refine ih ?_
    rw [Hub.obj_setObj, Hub.obj_setObj, e]

theorem restoreConfig_funcs (h : Hub) (fid : Nat) : (h.restoreConfig fid).funcs = h.funcs := foldl_setObj_funcs _ _

/-- An object of another table is not restored (R452). -/
theorem restoreConfig_obj {k : Nat} (hk : indexFid (k / 256 % 65536) ≠ some fid) : (h.restoreConfig fid).obj k = h.obj k := by
  refine foldl_setObj_obj _ _ (fun p hp => ?_)
  rintro rfl
  simp only [List.mem_filter, List.contains_iff_mem, List.mem_map] at hp
  obtain ⟨-, q, ⟨-, own⟩, e⟩ := hp
  rw [← e] at hk
  exact hk (by simpa using own)

/-- What an object is restored to hangs on its own value and the values accepted only. -/
theorem restoreConfig_congr {k : Nat} (r : g.rwb = h.rwb) (e : g.obj k = h.obj k) : (g.restoreConfig fid).obj k = (h.restoreConfig fid).obj k := by
  unfold Hub.restoreConfig Hub.applyRwb
  rw [r]
  exact foldl_setObj_congr _ e

/-- The objects of the resets belong to no function's table. -/
theorem restoreConfig_resets {k : Nat} (hk : k / 256 = 0x3600) : (h.restoreConfig fid).obj k = h.obj k := by
  refine restoreConfig_obj ?_
  rw [hk]
  exact (by decide : indexFid (0x3600 % 65536) = none) ▸ Option.some_ne_none fid |>.symm

/-! ### What one function's reset leaves of the others -/

/-- A function is stopping, in reset. -/
def Resetting (h : Hub) (j : Nat) : Prop := (h.func j).life = .stopping ∧ (h.func j).inReset = true

/-- From `h` to `g` the functions below the clusters, `m` aside, keep their life cycle, and a cluster that is stopping in reset stays so. -/
def Beside (m : Nat) (h g : Hub) : Prop :=
  (∀ j < 0x200, j ≠ m → g.func j = h.func j) ∧ ∀ k < 256, Resetting h (fidCluster k) → Resetting g (fidCluster k)

namespace Beside

theorem refl (m : Nat) (h : Hub) : Beside m h h := ⟨fun _ _ _ => rfl, fun _ _ => id⟩

theorem trans (H : Beside m a h) (G : Beside m h g) : Beside m a g :=
  ⟨fun j hj ne => (G.1 j hj ne).trans (H.1 j hj ne), fun k hk => G.2 k hk ∘ H.2 k hk⟩

theorem low (H : Beside m a h) (G : SparesLow h g) : Beside m a g := by
  refine trans H ⟨fun j hj _ => G.1 j (by omega), fun k hk r => ?_⟩
  rw [Resetting, G.1 _ (by unfold fidCluster; omega)]
  exact r

theorem sameFuncs (H : Beside m a h) (e : g.funcs = h.funcs) : Beside m a g := by
  refine trans H ⟨fun j _ _ => by rw [Hub.func, e, Hub.func], fun k _ r => ?_⟩
  rw [Resetting, Hub.func, e]
  exact r

theorem setFunc (H : Beside m a h) (x : FState) (hm : m < 0x200 ∨ 0x300 ≤ m) : Beside m a (h.setFunc m x) := by
  refine trans H ⟨fun j _ ne => ?_, fun k hk r => ?_⟩
  · rw [func_setFunc, if_neg ne]
  · rw [Resetting, func_setFunc, if_neg (by unfold fidCluster; omega)]
    exact r

/-- A cluster that is stopping may take another PENDING_EN. -/
theorem pending (H : Beside m a h) (k : Nat) (b : Bool) : Beside m a (h.setFunc (fidCluster k) { h.func (fidCluster k) with pendingEn := b }) := by
  refine trans H ⟨fun j hj _ => ?_, fun i _ r => ?_⟩
  · rw [func_setFunc, if_neg (by unfold fidCluster; omega)]
  · rw [Resetting, func_setFunc]
    split
    next e => rwa [← e]
    next => exact r

/-- A cluster that is not stopping in reset may be anything. -/
theorem otherCluster (H : Beside m a h) {k : Nat} (x : FState) (hk : (h.func (fidCluster k)).life ≠ .stopping) :
    Beside m a (h.setFunc (fidCluster k) x) := by
  refine trans H ⟨fun j hj _ => ?_, fun i _ r => ?_⟩
  · rw [func_setFunc, if_neg (by unfold fidCluster; omega)]
  · rw [Resetting, func_setFunc]
    split
    next e => exact absurd (e ▸ r.1) hk
    next => exact r

theorem ite (c : Prop) [Decidable c] (H : Beside m a h) (G : Beside m a g) : Beside m a (if c then h else g) := by
  split
  · exact H
  · exact G

theorem clusterNeeded (H : Beside m a h) (k : Nat) : Beside m a (h.clusterNeeded k) := by
  unfold Hub.clusterNeeded
  dsimp only
  split_ifs with off
  · exact otherCluster H _ (by rw [off]; decide)
  · exact pending H k true
  · exact H

theorem clusterFollow (H : Beside m a h) (k : Nat) : Beside m a (h.clusterFollow k) := by
  unfold Hub.clusterFollow
  dsimp only
  split_ifs with _ up
  · exact H
  · exact otherCluster H _ (by rcases up with e | e <;> rw [e] <;> decide)
  · exact pending H k false
  · exact H

theorem follow (H : Beside m a h) (f : Fn) : Beside m a (h.follow f) := by
  cases f with
  | channel c => exact clusterFollow H _
  | _ => exact H

theorem startRefused (H : Beside m a h) (code : Nat) (hm : m < 0x200 ∨ 0x300 ≤ m) : Beside m a (h.startRefused m code) := by
  unfold Hub.startRefused
  exact sameFuncs (setFunc H _ hm) (Spares.noticeS (Spares.refl _) _ _ _).1

theorem beginStart (H : Beside m a h) (hm : m < 0x200 ∨ 0x300 ≤ m) : Beside m a (h.beginStart m) := by
  unfold Hub.beginStart
  split
  · exact H
  next f hf =>
    have entered : ∀ {g : Hub} (code : Nat), Beside m a g → Beside m a (if code = 0 then g.fnStarting f else (g.startRefused m code).follow f) :=
      fun code G => ite _ (sameFuncs G (Spares.fnStarting (Spares.refl _) f).1) (follow (startRefused G _ hm) f)
    cases f with
    | channel c => exact entered _ (clusterNeeded (setFunc H _ hm) _)
    | _ => exact entered _ (setFunc H _ hm)

end Beside

/-! ### A function enters its reset -/

/-- No other function's id is a cluster's. -/
theorem funcId_apart (hf : fnOf fid = some f) (apart : ∀ k, f ≠ .cluster k) : fid < 0x200 ∨ 0x300 ≤ fid := by
  obtain ⟨id, there⟩ := funcId_of_fnOf hf
  rw [← id]
  cases f with
  | cluster k => exact absurd rfl (apart k)
  | channel c =>
    simp only [Fn.exists] at there
    simp only [Fn.funcId, fidChannel]
    omega
  | _ =>
    simp only [Fn.funcId, fidDuplex, fidService, fidPtp, fidCan, fidSeq, fidQueue, fidWindow, fidAperture, fidPort, fidRingPort, fidStation,
      fidGocb, fidSub, fidScan]
    omega

/-- What a function gives up as it enters its reset: it leaves ON, or aborts what it is draining (R492). -/
def Hub.givenUp (h : Hub) (fid : Nat) (f : Fn) : Hub :=
  if (h.func fid).life = .on then h.fnLeave f true (some 3) else h.when ((h.func fid).life != .off) (fun h => h.fnAbort f)

theorem givenUp_low (there : f.exists) : SparesLow h (h.givenUp fid f) :=
  SparesLow.ite _ (SparesLow.fnLeave (SparesLow.refl h) there _ _)
    (SparesLow.spares (SparesLow.refl h) (Spares.when (Spares.refl h) _ _ (Spares.fnAbort (Spares.refl h) there)))

/-- A function that is OFF gives nothing up, but for a scan engine and a sequencer. -/
def Hub.offAborted (h : Hub) : Fn → Hub
  | .scan e => h.scanAbort e
  | .seq s => h.seqAbort s
  | _ => h

theorem offAborted_spares (h : Hub) (f : Fn) : Spares h (h.offAborted f) := by
  cases f with
  | scan e => exact Spares.scanAbort (Spares.refl h) e
  | seq s => exact Spares.seqAbort (Spares.refl h) s
  | _ => exact Spares.refl h

/-- A function in reset does not enter it again (R34). -/
theorem enterReset_inReset (r : (h.func fid).inReset = true) : h.enterReset fid = h := by
  unfold Hub.enterReset
  split
  · rfl
  · exact if_pos r

/-- A function that is not OFF stops, in reset, with PENDING_EN as its restored enable object (R34, R492). -/
theorem enterReset_stops (hf : fnOf fid = some f) (free : (h.func fid).inReset = false) (up : h.isOff fid = false) :
    h.enterReset fid = ((((h.givenUp fid f).restoreConfig fid).setFunc fid
      { life := .stopping, pendingEn := ((h.givenUp fid f).restoreConfig fid).enabled f, inReset := true })).follow f := by
  unfold Hub.enterReset
  rw [hf]
  dsimp only
  rw [free, if_neg Bool.false_ne_true, if_neg (of_decide_eq_false up)]
  rfl

/-- An OFF function has its configuration restored, and starts when its enable object is true (R492). -/
theorem enterReset_off (hf : fnOf fid = some f) (free : (h.func fid).inReset = false) (off : h.isOff fid = true) :
    h.enterReset fid = if (((h.restoreConfig fid).offAborted f).enabled f) = true then ((h.restoreConfig fid).offAborted f).beginStart fid
      else (h.restoreConfig fid).offAborted f := by
  have off := of_decide_eq_true off
  unfold Hub.enterReset
  rw [hf]
  dsimp only
  simp only [free, off, Hub.when, Bool.false_eq_true, if_false, if_true, reduceCtorEq, bne_self_eq_false]
  cases f <;> rfl

/-- A function that enters its reset is stopping, in reset. -/
theorem resetting_enterReset (hf : fnOf fid = some f) (free : (h.func fid).inReset = false) (up : h.isOff fid = false) :
    Resetting (h.enterReset fid) fid := by
  rw [enterReset_stops hf free up, Resetting, func_follow hf, func_setFunc, if_pos rfl]
  exact ⟨rfl, rfl⟩

theorem Beside.enterReset (hf : fnOf m = some f) (apart : ∀ k, f ≠ .cluster k) : Beside m h (h.enterReset m) := by
  have hm := funcId_apart hf apart
  have restored : ∀ {g : Hub}, Beside m h g → Beside m h (g.restoreConfig m) := fun G => sameFuncs G (restoreConfig_funcs _ _)
  cases free : (h.func m).inReset with
  | true =>
    rw [enterReset_inReset free]
    exact refl m h
  | false =>
    cases off : h.isOff m with
    | true =>
      rw [enterReset_off hf free off]
      have aborted := sameFuncs (restored (refl m h)) (offAborted_spares (h.restoreConfig m) f).1
      exact ite _ (beginStart aborted hm) aborted
    | false =>
      rw [enterReset_stops hf free off]
      exact follow (setFunc (restored (low (refl m h) (givenUp_low (funcId_of_fnOf hf).2))) _ hm) f

end Sys2Proof.Machine
end

section
/-! What a function reset counts, and how the members of a cluster enter theirs (R34, R492, R493, R495). -/
namespace Sys2Proof.Machine
variable {h g : Hub} {fid m k : Nat} {f : Fn} {path : RegPath}

/-! ### The members of a cluster -/

theorem fnOf_cluster (hk : k < 12) : fnOf (fidCluster k) = some (.cluster k) := by
  have page : fidCluster k / 256 = 2 := by unfold fidCluster; omega
  have index : fidCluster k % 256 = k := by unfold fidCluster; omega
  unfold fnOf
  dsimp only
  rw [if_neg (by unfold fidCluster; omega), if_neg (by unfold fidCluster; omega), if_neg (by unfold fidCluster; omega), page, index]
  exact if_pos hk

theorem fnOf_channel {c : Nat} (hc : c < 192) : fnOf (fidChannel c) = some (.channel c) := by
  have page : fidChannel c / 256 = 1 := by unfold fidChannel; omega
  have index : fidChannel c % 256 = c := by unfold fidChannel; omega
  unfold fnOf
  dsimp only
  rw [if_neg (by unfold fidChannel; omega), if_neg (by unfold fidChannel; omega), if_neg (by unfold fidChannel; omega), page, index]
  exact if_pos hc

theorem fnOf_seq {q : Nat} (hq : q < 24) : fnOf (fidSeq q) = some (.seq q) := by
  have page : fidSeq q / 256 = 4 := by unfold fidSeq; omega
  have index : fidSeq q % 256 = q := by unfold fidSeq; omega
  unfold fnOf
  dsimp only
  rw [if_neg (by unfold fidSeq; omega), if_neg (by unfold fidSeq; omega), if_neg (by unfold fidSeq; omega), page, index]
  exact if_pos hq

/-- The members of a cluster are channels and sequencers (R493). -/
theorem fnOf_clusterMember (hk : k < 12) (hm : m ∈ clusterMembers k) : ∃ f, fnOf m = some f ∧ ∀ j, f ≠ .cluster j := by
  simp only [clusterMembers, List.mem_append, List.mem_map, List.mem_range, List.mem_cons, List.not_mem_nil, or_false] at hm
  rcases hm with ⟨i, hi, rfl⟩ | rfl | rfl
  · exact ⟨_, fnOf_channel (by omega), by simp⟩
  · exact ⟨_, fnOf_seq (by omega), by simp⟩
  · exact ⟨_, fnOf_seq (by omega), by simp⟩

/-- A channel is among the members of its cluster. -/
theorem fidChannel_mem_clusterMembers {i : Nat} (hi : i < 16) : fidChannel (16 * k + i) ∈ clusterMembers k :=
  List.mem_append_left _ (List.mem_map.mpr ⟨i, List.mem_range.mpr hi, rfl⟩)

/-- A cluster that is stopping in reset stays so while its members enter theirs. -/
theorem resetting_cluster_foldl {l : List Nat} (hl : ∀ m ∈ l, ∃ f, fnOf m = some f ∧ ∀ j, f ≠ .cluster j) (hk : k < 256)
    (r : Resetting h (fidCluster k)) : Resetting (l.foldl (fun h m => h.enterReset m) h) (fidCluster k) := by
  induction l generalizing h with
  | nil => exact r
  | cons m l ih =>
    obtain ⟨f, hf, apart⟩ := hl m List.mem_cons_self
    exact ih (fun n hn => hl n (List.mem_cons_of_mem _ hn)) ((Beside.enterReset hf apart).2 k hk r)

/-- A channel in reset stays so while members enter theirs. -/
theorem resetting_enterReset_of_resetting {c : Nat} (hc : fidChannel c < 0x200) (hm : ∃ f, fnOf m = some f ∧ ∀ j, f ≠ .cluster j)
    (r : Resetting h (fidChannel c)) : Resetting (h.enterReset m) (fidChannel c) := by
  obtain ⟨f, hf, apart⟩ := hm
  by_cases e : fidChannel c = m
  · rw [← e, enterReset_inReset r.2]
    exact r
  · rw [Resetting, (Beside.enterReset hf apart).1 _ hc e]
    exact r

/-- A member that is neither OFF nor in reset is stopping, in reset, once all have entered theirs. -/
theorem resetting_channel_foldl {c : Nat} {l : List Nat} (hl : ∀ m ∈ l, ∃ f, fnOf m = some f ∧ ∀ j, f ≠ .cluster j)
    (hc : fidChannel c < 0x200)
    (start : Resetting h (fidChannel c) ∨ fidChannel c ∈ l ∧ (h.func (fidChannel c)).inReset = false ∧ h.isOff (fidChannel c) = false) :
    Resetting (l.foldl (fun h m => h.enterReset m) h) (fidChannel c) := by
  induction l generalizing h with
  | nil =>
    rcases start with r | ⟨hm, -⟩
    · exact r
    · exact absurd hm List.not_mem_nil
  | cons m l ih =>
    have member := hl m List.mem_cons_self
    refine ih (fun n hn => hl n (List.mem_cons_of_mem _ hn)) ?_
    rcases start with r | ⟨hm, free, up⟩
    · exact .inl (resetting_enterReset_of_resetting hc member r)
    · obtain ⟨f, hf, apart⟩ := member
      by_cases e : fidChannel c = m
      · subst e
        exact .inl (resetting_enterReset hf free up)
      · have same := (Beside.enterReset (h := h) hf apart).1 _ hc e
        refine .inr ⟨List.mem_of_ne_of_mem e hm, ?_, ?_⟩
        · rwa [same]
        · rwa [Hub.isOff, same]

/-! ### The count -/

theorem when_funcs (h : Hub) (c : Bool) (u : Hub → Hub) (e : (u h).funcs = h.funcs) : (h.when c u).funcs = h.funcs := by
  cases c with
  | true => exact e
  | false => rfl

theorem resetCounted_funcs (h : Hub) (fid : Nat) : (h.resetCounted fid).funcs = h.funcs := by
  unfold Hub.resetCounted
  dsimp only
  rw [Hub.setNum_funcs, when_funcs _ _ _ (Hub.setNum_funcs _ _ _), Hub.setNum_funcs, Hub.count_funcs]

theorem resetCounted_func (h : Hub) (fid j : Nat) : (h.resetCounted fid).func j = h.func j := by
  rw [Hub.func, resetCounted_funcs, Hub.func]

theorem resetCounted_isOff (h : Hub) (fid j : Nat) : (h.resetCounted fid).isOff j = h.isOff j := by
  rw [Hub.isOff, resetCounted_func, Hub.isOff]

/-- The reset of another function than a cluster takes the place of none (R492). -/
theorem resetCounted_eq (hf : fnOf fid = some f) (apart : ∀ k, f ≠ .cluster k) : ∃ st x, h.resetCounted fid =
    { (((h.count Obj.resetCount).setNum Obj.lastFunc fid).setNum Obj.lastReset st) with safety := x } := by
  unfold Hub.resetCounted
  rw [hf]
  cases f with
  | cluster k => exact absurd rfl (apart k)
  | _ =>
    simp only [Hub.when, bne_self_eq_false, Bool.false_eq_true, if_false]
    exact ⟨_, _, rfl⟩

/-- What a counted reset of another function than a cluster writes. -/
theorem resetCounted_num {k : Nat} (hf : fnOf fid = some f) (apart : ∀ k, f ≠ .cluster k) (hk : k ≠ Obj.lastReset) :
    (h.resetCounted fid).num k = if k = Obj.lastFunc then fid else if k = Obj.resetCount then satAdd (maxWord 32) (h.num Obj.resetCount) 1
      else h.num k := by
  obtain ⟨st, x, e⟩ := resetCounted_eq (h := h) hf apart
  rw [e, Hub.num_upd_safety, Hub.num_setNum, if_neg hk, Hub.num_setNum, Hub.num_count]

theorem resetCounted_rwb (hf : fnOf fid = some f) (apart : ∀ k, f ≠ .cluster k) : (h.resetCounted fid).rwb = h.rwb := by
  obtain ⟨st, x, e⟩ := resetCounted_eq (h := h) hf apart
  rw [e]
  rfl

/-- The enable objects are none of the count's. -/
theorem resetCounted_obj {k : Nat} (hf : fnOf fid = some f) (apart : ∀ k, f ≠ .cluster k) (hk : k % 256 = 1) :
    (h.resetCounted fid).obj k = h.obj k := by
  have other : k ≠ Obj.resetCount ∧ k ≠ Obj.lastFunc ∧ k ≠ Obj.lastReset := by
    unfold Obj.resetCount Obj.lastFunc Obj.lastReset
    omega
  obtain ⟨one, two, three⟩ := other
  obtain ⟨st, x, e⟩ := resetCounted_eq (h := h) hf apart
  calc (h.resetCounted fid).obj k
      = (((h.count Obj.resetCount).setNum Obj.lastFunc fid).setNum Obj.lastReset st).obj k := by rw [e]; rfl
    _ = ((h.count Obj.resetCount).setNum Obj.lastFunc fid).obj k := (Hub.obj_setObj _ _ _ _).trans (if_neg three)
    _ = (h.count Obj.resetCount).obj k := (Hub.obj_setObj _ _ _ _).trans (if_neg two)
    _ = h.obj k := (Hub.obj_setObj _ _ _ _).trans (if_neg one)

/-! ### What else a reset writes -/

theorem follow_dict (h : Hub) (f : Fn) : (h.follow f).dict = h.dict := by
  cases f with
  | channel c =>
    show (h.clusterFollow (c / 16)).dict = _
    unfold Hub.clusterFollow
    dsimp only
    split_ifs <;> rfl
  | _ => rfl

/-- A function that stops in its reset leaves the objects of the resets as they are. -/
theorem enterReset_stops_num (hf : fnOf fid = some f) (free : (h.func fid).inReset = false) (up : h.isOff fid = false) (hk : lifeKey k = true)
    (reset : k / 256 = 0x3600) : (h.enterReset fid).num k = h.num k := by
  rw [enterReset_stops hf free up, Hub.num_congr _ _ (follow_dict _ _), Hub.num_setFunc, Hub.num, restoreConfig_resets reset,
    (givenUp_low (funcId_of_fnOf hf).2).2 k hk, Hub.num]

/-- The first subindex of a function's table is its enable object. -/
theorem enableKey_sub (hk : f.enableKey = some k) : k % 256 = 1 := by
  cases f with
  | cluster _ => cases hk
  | duplex => cases hk; rfl
  | service => cases hk; rfl
  | ptp => cases hk; rfl
  | _ =>
    cases hk
    simp only [Obj.chEnable, Obj.canEnable, Obj.seqEnable, Obj.qEnable, Obj.winEnable, Obj.apEnable, Obj.portPortEnable, Obj.rportPortEnable,
      Obj.staPortPortEnable, Obj.gocbEnable, Obj.subEnable, Obj.scanEnable]
    omega

/-- An enable object reads the same where its value is the same. -/
theorem enabled_congr (e : ∀ k, f.enableKey = some k → g.obj k = h.obj k) : g.enabled f = h.enabled f := by
  unfold Hub.enabled
  split
  next k hk => rw [Hub.flag, Hub.num, e k hk, Hub.flag, Hub.num]
  next => rfl

/-- What an OFF function gives up leaves its enable object. -/
theorem offAborted_enabled (there : f.exists) : (h.offAborted f).enabled f = h.enabled f := by
  refine enabled_congr (fun k hk => ?_)
  cases f with
  | seq q =>
    cases hk
    refine (offAborted_spares h (.seq q)).2 _ ?_
    simp only [Fn.exists] at there
    simp only [lifeKey, Obj.seqEnable, Bool.or_eq_true, Bool.and_eq_true, beq_iff_eq, bne_iff_ne]
    omega
  | scan e =>
    cases hk
    refine (offAborted_spares h (.scan e)).2 _ ?_
    simp only [Fn.exists] at there
    simp only [lifeKey, Obj.scanEnable, Bool.or_eq_true, Bool.and_eq_true, beq_iff_eq, bne_iff_ne]
    omega
  | _ => rfl

end Sys2Proof.Machine
end

section
/-! A function reset as a whole, and the end of its abort (R34, R35, R492, R493, R498). -/
namespace Sys2Proof.Machine
variable {h : Hub} {fid k : Nat} {f : Fn} {path : RegPath}

/-! ### The whole reset -/

/-- What a reset takes with its function: the members of a cluster, and the states of the PTP ports (R493). -/
def Hub.withMembers (h : Hub) : Fn → Hub
  | .cluster k => (clusterMembers k).foldl (fun h m => h.enterReset m) h
  | .ptp => (h.setPortState 0 1).setPortState 1 1
  | _ => h

/-- A reset that stands for itself counts, and the function enters it (R35, R492). -/
theorem functionReset_eq (hf : fnOf fid = some f) (ok : resettable fid = true) (quiet : h.flag Obj.hubFault = false)
    (alone : h.resetMerges fid = false) : h.functionReset fid =
      (true, if h.isOff fid = true then (((h.resetCounted fid).enterReset fid).withMembers f).resetDone fid
        else ((h.resetCounted fid).enterReset fid).withMembers f) := by
  unfold Hub.functionReset
  rw [ok, quiet, alone, hf]
  dsimp only
  cases f <;> rfl

/-- A reset that is merged does nothing (R34, R35). -/
theorem functionReset_merged (ok : resettable fid = true) (quiet : h.flag Obj.hubFault = false) (merged : h.resetMerges fid = true) :
    h.functionReset fid = (true, h) := by
  unfold Hub.functionReset
  rw [ok, quiet, merged]
  rfl

/-- A reset on a path is the reset, and last-func is left to a later path of the same cycle (R35). -/
theorem resetBy_spec (done : (h.functionReset fid).1 = true) (alone : h.resetMerges fid = false) :
    (h.resetBy path fid).2.funcs = (h.functionReset fid).2.funcs ∧ ∀ k, (h.resetBy path fid).2.num k
      = if k = Obj.lastFunc ∧ h.safety.lastBy.1 = h.now + 1 ∧ pathCode path < h.safety.lastBy.2 then h.num k
        else (h.functionReset fid).2.num k := by
  unfold Hub.resetBy
  dsimp only
  rw [if_neg (by rw [done, alone]; decide)]
  split
  next later => exact ⟨rfl, fun k => by rw [Hub.num_setNum]; split <;> simp_all⟩
  next own => exact ⟨rfl, fun k => by rw [if_neg (fun c => own c.2), Hub.num_upd_safety]⟩

/-- A reset that is merged does nothing on any path. -/
theorem resetBy_merged (ok : resettable fid = true) (quiet : h.flag Obj.hubFault = false) (merged : h.resetMerges fid = true) :
    (h.resetBy path fid).2 = h := by
  unfold Hub.resetBy
  dsimp only
  rw [functionReset_merged ok quiet merged, if_pos (.inr merged)]

/-- The members of another function than a cluster are none: the life cycle is spared. -/
theorem withMembers_spares (apart : ∀ k, f ≠ .cluster k) (h : Hub) : Spares h (h.withMembers f) := by
  cases f with
  | cluster k => exact absurd rfl (apart k)
  | ptp => exact Spares.setPortState (Spares.setPortState (Spares.refl h) (by decide) _) (by decide) _
  | _ => exact Spares.refl h

/-- A reset that stands for itself meets no other one. -/
theorem inReset_of_resetMerges (alone : h.resetMerges fid = false) : (h.func fid).inReset = false := by
  simp only [Hub.resetMerges, Bool.or_eq_false_iff] at alone
  exact alone.1.1.1

/-- A reset of a function that is not OFF stops it, counts, and names it (R34, R35, R492). -/
theorem resetBy_stops (hf : fnOf fid = some f) (apart : ∀ k, f ≠ .cluster k) (ok : resettable fid = true)
    (quiet : h.flag Obj.hubFault = false) (alone : h.resetMerges fid = false) (up : h.isOff fid = false) :
    Resetting (h.resetBy path fid).2 fid ∧ (h.resetBy path fid).2.num Obj.resetCount = satAdd (maxWord 32) (h.num Obj.resetCount) 1
      ∧ (h.resetBy path fid).2.num Obj.lastFunc =
          if h.safety.lastBy.1 = h.now + 1 ∧ pathCode path < h.safety.lastBy.2 then h.num Obj.lastFunc else fid := by
  have whole := functionReset_eq hf ok quiet alone
  rw [up, if_neg Bool.false_ne_true] at whole
  have spared := withMembers_spares apart ((h.resetCounted fid).enterReset fid)
  have free : ((h.resetCounted fid).func fid).inReset = false := by
    rw [resetCounted_func]
    exact inReset_of_resetMerges alone
  have counting : (h.resetCounted fid).isOff fid = false := by rwa [resetCounted_isOff]
  have number : ∀ {k : Nat}, lifeKey k = true → k / 256 = 0x3600 → (h.functionReset fid).2.num k = (h.resetCounted fid).num k :=
      fun hk reset => by
    rw [whole, spared.num hk, enterReset_stops_num hf free counting hk reset]
  obtain ⟨funcs, nums⟩ := resetBy_spec (path := path) (congrArg Prod.fst whole) alone
  refine ⟨?_, ?_, ?_⟩
  · rw [Resetting, Hub.func, funcs, ← Hub.func, whole, spared.func]
    exact resetting_enterReset hf free counting
  · rw [nums, if_neg (fun c => absurd c.1 (by decide)), number (by decide) (by decide), resetCounted_num hf apart (by decide)]
    rfl
  · rw [nums, number (by decide) (by decide), resetCounted_num hf apart (by decide)]
    simp only [true_and, if_true]

/-- A cluster that enters its reset leaves its channels' life cycle to theirs. -/
theorem func_enterReset_cluster (hk : k < 12) (free : (h.func (fidCluster k)).inReset = false) (up : h.isOff (fidCluster k) = false) {j : Nat}
    (hj : j < 0x200) : (h.enterReset (fidCluster k)).func j = h.func j := by
  rw [enterReset_stops (fnOf_cluster hk) free up]
  refine (func_setFunc _ _ _ _).trans ?_
  rw [if_neg (by unfold fidCluster; omega), Hub.func, restoreConfig_funcs, ← Hub.func]
  exact (givenUp_low (f := .cluster k) trivial).1 j (by omega)

/-- A reset of a cluster that is not OFF stops it and its channels that are not (R493). -/
theorem resetBy_cluster (hk : k < 12) (quiet : h.flag Obj.hubFault = false) (alone : h.resetMerges (fidCluster k) = false)
    (up : h.isOff (fidCluster k) = false) :
    Resetting (h.resetBy path (fidCluster k)).2 (fidCluster k) ∧ ∀ i < 16, (h.func (fidChannel (16 * k + i))).inReset = false →
      h.isOff (fidChannel (16 * k + i)) = false → Resetting (h.resetBy path (fidCluster k)).2 (fidChannel (16 * k + i)) := by
  have ok : resettable (fidCluster k) = true := by
    unfold resettable fidCluster
    exact decide_eq_true (by omega)
  have hf := fnOf_cluster hk
  have whole := functionReset_eq hf ok quiet alone
  rw [up, if_neg Bool.false_ne_true] at whole
  obtain ⟨funcs, -⟩ := resetBy_spec (path := path) (congrArg Prod.fst whole) alone
  have result : ∀ j, Resetting (((h.resetCounted (fidCluster k)).enterReset (fidCluster k)).withMembers (.cluster k)) j →
      Resetting (h.resetBy path (fidCluster k)).2 j := fun j r => by
    rw [Resetting, Hub.func, funcs, ← Hub.func, whole]
    exact r
  have free : ((h.resetCounted (fidCluster k)).func (fidCluster k)).inReset = false := by
    rw [resetCounted_func]
    exact inReset_of_resetMerges alone
  have counting : (h.resetCounted (fidCluster k)).isOff (fidCluster k) = false := by rwa [resetCounted_isOff]
  refine ⟨result _ ?_, fun i hi inReset on => result _ ?_⟩
  · exact resetting_cluster_foldl (fun m hm => fnOf_clusterMember hk hm) (by omega) (resetting_enterReset hf free counting)
  · have kept : ((h.resetCounted (fidCluster k)).enterReset (fidCluster k)).func (fidChannel (16 * k + i)) = h.func (fidChannel (16 * k + i)) := by
      rw [func_enterReset_cluster hk free counting (by unfold fidChannel; omega), resetCounted_func]
    refine resetting_channel_foldl (fun m hm => fnOf_clusterMember hk hm) (by unfold fidChannel; omega)
      (.inr ⟨fidChannel_mem_clusterMembers hi, ?_, ?_⟩)
    · rwa [kept]
    · rwa [Hub.isOff, kept]

/-- An OFF function whose restored enable object is false stays OFF, and its reset counts (R492). -/
theorem resetBy_off (hf : fnOf fid = some f) (apart : ∀ k, f ≠ .cluster k) (ok : resettable fid = true)
    (quiet : h.flag Obj.hubFault = false) (alone : h.resetMerges fid = false) (off : h.isOff fid = true)
    (disabled : (h.restoreConfig fid).enabled f = false) :
    (h.resetBy path fid).2.isOff fid = true ∧ (h.resetBy path fid).2.num Obj.resetCount = satAdd (maxWord 32) (h.num Obj.resetCount) 1 := by
  have whole := functionReset_eq hf ok quiet alone
  rw [off, if_pos rfl] at whole
  have free : ((h.resetCounted fid).func fid).inReset = false := by
    rw [resetCounted_func]
    exact inReset_of_resetMerges alone
  have still : ((h.resetCounted fid).restoreConfig fid).enabled f = false := by
    rw [← disabled]
    exact enabled_congr (fun k hk => restoreConfig_congr (resetCounted_rwb hf apart) (resetCounted_obj hf apart (enableKey_sub hk)))
  have entered : (h.resetCounted fid).enterReset fid = ((h.resetCounted fid).restoreConfig fid).offAborted f := by
    rw [enterReset_off hf free (by rwa [resetCounted_isOff]), offAborted_enabled (funcId_of_fnOf hf).2, still, if_neg Bool.false_ne_true]
  rw [entered] at whole
  have spared : Spares ((h.resetCounted fid).restoreConfig fid)
      (((((h.resetCounted fid).restoreConfig fid).offAborted f).withMembers f).resetDone fid) :=
    Spares.notice (Spares.trans (offAborted_spares _ f) (withMembers_spares apart _)) _ _ _
  obtain ⟨funcs, nums⟩ := resetBy_spec (path := path) (congrArg Prod.fst whole) alone
  refine ⟨?_, ?_⟩
  · rw [Hub.isOff, Hub.func, funcs, ← Hub.func, whole, spared.func, Hub.func, restoreConfig_funcs, resetCounted_funcs, ← Hub.func]
    exact off
  · rw [nums, if_neg (fun c => absurd c.1 (by decide)), whole, spared.num (by decide), Hub.num, restoreConfig_resets (by decide), ← Hub.num,
      resetCounted_num hf apart (by decide)]
    rfl

/-! ### The end of the abort -/

/-- The abort of another function than a cluster ends its reset, with its notice (R492, R498). -/
theorem abortDone_eq (hf : fnOf fid = some f) (apart : ∀ k, f ≠ .cluster k) (r : Resetting h fid) :
    h.abortDone fid = (h.resetDone fid).leaveStopping fid := by
  obtain ⟨stopping, inReset⟩ := r
  unfold Hub.abortDone
  dsimp only
  rw [stopping, inReset, hf, if_neg (by decide)]
  cases f with
  | cluster k => exact absurd rfl (apart k)
  | _ => rfl

/-- A function that leaves STOPPING with PENDING_EN starts again (R31). -/
theorem leaveStopping_again (hf : fnOf fid = some f) (again : (h.func fid).pendingEn = true) :
    h.leaveStopping fid = ((h.fnStopped f).setFunc fid { fault := (h.func fid).fault }).beginStart fid := by
  unfold Hub.leaveStopping
  rw [hf]
  dsimp only
  rw [again, if_pos rfl]

/-- The notice of a reset's end moves no function. -/
theorem func_resetDone (h : Hub) (fid j : Nat) : (h.resetDone fid).func j = h.func j := (Spares.notice (Spares.refl h) _ _ _).func j

/-- Whether a cluster is used is its channels' matter, not its own life cycle's (R243). -/
theorem clusterUsed_setFunc (x : FState) (hk : k < 12) : (h.setFunc (fidCluster k) x).clusterUsed k = h.clusterUsed k := by
  have kept : ∀ i < 16, (h.setFunc (fidCluster k) x).func (fidChannel (16 * k + i)) = h.func (fidChannel (16 * k + i)) := fun i hi => by
    rw [func_setFunc, if_neg (by unfold fidChannel fidCluster; omega)]
  unfold Hub.clusterUsed
  rw [Bool.eq_iff_iff, List.any_eq_true, List.any_eq_true]
  refine exists_congr (fun i => and_congr_right (fun hi => ?_))
  rw [kept i (List.mem_range.mp hi)]

/-- R243, R493: as the abort of a cluster's reset ends, the cluster starts again when a channel needs it, and is OFF when none does. -/
theorem abortDone_cluster (hk : k < 12) (r : Resetting h (fidCluster k)) :
    (h.abortDone (fidCluster k)).func (fidCluster k)
      = if (h.abortDone (fidCluster k)).clusterUsed k = true then { life := .starting } else {} := by
  obtain ⟨stopping, inReset⟩ := r
  have stored : ∃ g : Hub, h.abortDone (fidCluster k)
      = g.setFunc (fidCluster k) (if g.clusterUsed k = true then { life := .starting } else {}) := by
    unfold Hub.abortDone
    dsimp only
    rw [stopping, inReset, fnOf_cluster hk, if_neg (by decide)]
    exact ⟨_, rfl⟩
  obtain ⟨g, e⟩ := stored
  rw [e, func_setFunc, if_pos rfl, clusterUsed_setFunc _ hk]

/-- A cluster's id fits its field. -/
theorem toNat_fidCluster (hk : k < 12) : (BitVec.ofNat 16 (fidCluster k)).toNat = fidCluster k :=
  Nat.mod_eq_of_lt (by unfold fidCluster; omega)

end Sys2Proof.Machine

open Sys2Proof Sys2Proof.Machine

/-- Settles O8: giving up traffic spares the life cycle and the count, and entering one function's reset leaves the other members of its cluster. -/
theorem functionResetStopsTheFunction : Obligations.FunctionResetStopsTheFunction := by
  unfold Obligations.FunctionResetStopsTheFunction
  refine ⟨fun s path fid f hf apart ok quiet alone up => ?stops, fun s path k hk quiet alone up => ?cluster,
    fun s path fid f hf apart ok quiet alone off disabled => ?off, fun s path fid ok quiet merged => ?merged,
    fun s fid f hf apart stopping inReset still => ?done, fun s fid f hf apart stopping inReset again => ?again,
    fun s k hk stopping inReset => ?members⟩
  case stops =>
    obtain ⟨⟨stopping, inReset⟩, counts, names⟩ := resetBy_stops (path := path) hf apart ok quiet alone up
    exact ⟨_, rfl, rfl, stopping, inReset, counts, names⟩
  case cluster =>
    obtain ⟨⟨stopping, inReset⟩, channels⟩ := resetBy_cluster (path := path) hk quiet alone up
    refine ⟨s.withHub (s.hub.resetBy path (fidCluster k)).2, ?_, rfl, stopping, inReset, channels⟩
    show Host.Outcome.next (s.withHub (s.hub.resetBy path (BitVec.ofNat 16 (fidCluster k)).toNat).2) = _
    rw [toNat_fidCluster hk]
  case off => exact ⟨_, rfl, rfl, resetBy_off hf apart ok quiet alone off disabled⟩
  case merged =>
    show Host.Outcome.next (s.withHub (s.hub.resetBy path fid.toNat).2) = _
    rw [resetBy_merged ok quiet merged]
    rfl
  case done =>
    refine ⟨_, rfl, rfl, ?_⟩
    show (s.hub.abortDone fid.toNat).func fid.toNat = _
    rw [abortDone_eq hf apart ⟨stopping, inReset⟩, func_leaveStopping hf (by rwa [func_resetDone]), func_resetDone]
  case again =>
    show Host.Outcome.next (s.withHub (s.hub.abortDone fid.toNat)) = _
    rw [abortDone_eq hf apart ⟨stopping, inReset⟩, leaveStopping_again hf (by rwa [func_resetDone]), func_resetDone]
  case members =>
    refine ⟨s.withHub (s.hub.abortDone (fidCluster k)), ?_, rfl, abortDone_cluster hk ⟨stopping, inReset⟩⟩
    show Host.Outcome.next (s.withHub (s.hub.abortDone (BitVec.ofNat 16 (fidCluster k)).toNat)) = _
    rw [toNat_fidCluster hk]
end

section
/-!
The machine before nPOR_OUT first releases (R38, R442, R594).
-/
namespace Sys2Proof.Machine

/-- Every object holds its default before the first release: the dictionary lists none. -/
theorem reset_obj (k : Nat) : State.reset.hub.obj k = dictDefault k := rfl

/-- No octet of the post SRAM is listed before the first release. -/
theorem reset_sram (a : Nat) : Memory.read State.reset.hub.host.sram a = 0 := rfl

/-- The stall is free before the first release: stall-state's default in the object dictionary is 0 (R442). -/
theorem reset_stallState : State.reset.hub.num Obj.stallState = 0 := by
  show (dictDefault Obj.stallState).nat = 0
  decide +kernel

end Sys2Proof.Machine

/-- Settles O3: the machine holds nothing but defaults, of which only the stall's has to be looked up in the dictionary's tables. -/
theorem resetLeavesTheBlock : Obligations.ResetLeavesTheBlock :=
  ⟨rfl, rfl, Sys2Proof.Machine.reset_sram, Sys2Proof.Machine.reset_obj, rfl, rfl, rfl, fun _ => rfl,
    Sys2Proof.Machine.reset_stallState, fun _ _ => rfl⟩
end

section
/-!
The LTC under the operations that write the post SRAM (Sys2Proof/Laws/Keeps.lean has those that do not): the target of a transaction, the requests that
wait for a lock, the mailbox, the power path's round.
-/
namespace Sys2Proof.Machine
/-- A conditional operation reads the LTC of the branch taken. -/
@[simp] theorem ltc_when (h : Hub) (c : Bool) (f : Hub → Hub) : (h.when c f).time.ltc = if c = true then (f h).time.ltc else h.time.ltc := by
  unfold Hub.when
  split <;> rfl

namespace Ltc

@[simp] theorem sramWrite (h : Hub) (off : Nat) (data : List Byte) : (h.sramWrite off data).time = h.time := rfl

@[simp] theorem seqGap (h : Hub) (f : RingFrame) : (h.seqGap f).time.ltc = h.time.ltc := by unfold Hub.seqGap; simp

@[simp] theorem retire (h : Hub) (l : Nat) (data : List Byte) : (h.retire l data).time.ltc = h.time.ltc := by
  unfold Hub.retire
  repeat' split
  all_goals simp

@[simp] theorem serveTxn (h : Hub) (f : RingFrame) : (h.serveTxn f).time.ltc = h.time.ltc := by
  unfold Hub.serveTxn
  dsimp only
  repeat' split
  all_goals simp

@[simp] theorem sramStore (h : Hub) (off : Nat) (data : List Byte) : (h.sramStore off data).time.ltc = h.time.ltc := by
  unfold Hub.sramStore
  split <;> simp

@[simp] theorem mailAnswer (h : Hub) (seq target code : Nat) (b : List Byte) : (h.mailAnswer seq target code b).time.ltc = h.time.ltc := by
  unfold Hub.mailAnswer
  split <;> simp

@[simp] theorem unlockWrite (h : Hub) (f : RingFrame) : (h.unlockWrite f).time.ltc = h.time.ltc := by
  unfold Hub.unlockWrite
  dsimp only
  repeat' split
  all_goals simp

@[simp] theorem serveAgain (h : Hub) (w : Waiting) : (h.serveAgain w).time.ltc = h.time.ltc := by
  cases w with
  | ring f =>
    unfold Hub.serveAgain
    repeat' split
    all_goals simp
  | hostRead off n => exact (Hub.sramRead_keeps h off n).2
  | hostWrite off data => exact sramStore h off data
  | mailbox seq target code data => exact mailAnswer h seq target code data

@[simp] theorem servePass (h : Hub) : h.servePass.time.ltc = h.time.ltc := foldl_ltc _ serveAgain _ _

@[simp] theorem serveWaiting (h : Hub) : h.serveWaiting.time.ltc = h.time.ltc := foldl_ltc _ (fun h _ => servePass h) _ _

@[simp] theorem takeWrul (h : Hub) (f : RingFrame) : (h.takeWrul f).time.ltc = h.time.ltc := by unfold Hub.takeWrul; simp

@[simp] theorem lockExpired (h : Hub) (l : Nat) : (h.lockExpired l).time.ltc = h.time.ltc := by
  unfold Hub.lockExpired
  split <;> simp

@[simp] theorem fetchDone (h : Hub) (retry : Nat) (ok : Bool) (data : List Byte) : (h.fetchDone retry ok data).time.ltc = h.time.ltc := by
  unfold Hub.fetchDone
  dsimp only
  repeat' split
  all_goals simp

@[simp] theorem bridgeRx (h : Hub) (f : RingFrame) : (h.bridgeRx f).time.ltc = h.time.ltc := by
  unfold Hub.bridgeRx
  repeat' split
  all_goals simp

@[simp] theorem bridgeFrame (h : Hub) (type : Nat) (west : Bool) (f : RingFrame) : (h.bridgeFrame type west f).time.ltc = h.time.ltc := by
  unfold Hub.bridgeFrame
  dsimp only
  repeat' split
  all_goals simp

@[simp] theorem bridgeLoop (h : Hub) : h.bridgeLoop.time.ltc = h.time.ltc := by
  unfold Hub.bridgeLoop
  split <;> simp

@[simp] theorem hostStore (h : Hub) (bar : HostBar) (offset : Nat) (data : List Byte) (mark : WriteMark) :
    (h.hostStore bar offset data mark).time.ltc = h.time.ltc := by
  unfold Hub.hostStore
  repeat' split
  all_goals simp

@[simp] theorem dataIn (h : Hub) (west : Bool) (f : RingFrame) : (h.dataIn west f).time.ltc = h.time.ltc := by
  unfold Hub.dataIn
  dsimp only
  repeat' split
  all_goals simp

@[simp] theorem abortedIn (h : Hub) (west : Bool) (f : RingFrame) : (h.abortedIn west f).time.ltc = h.time.ltc := by
  unfold Hub.abortedIn
  dsimp only
  repeat' split
  all_goals simp

@[simp] theorem lockGained (h : Hub) (west : Bool) : (h.lockGained west).time.ltc = h.time.ltc := by unfold Hub.lockGained; simp

@[simp] theorem bulkTimeout (h : Hub) (q : Nat) : (h.bulkTimeout q).time.ltc = h.time.ltc := by
  unfold Hub.bulkTimeout
  dsimp only
  repeat' split
  all_goals simp

@[simp] theorem round (h : Hub) (m : PowerSample) : (h.round m).time.ltc = h.time.ltc := by
  unfold Hub.round Hub.timerStarts Hub.settingsAct Hub.takeSettings
  simp

@[simp] theorem carry (h : Hub) (q : KReq) (code : Nat) (b : List Byte) : (h.carry q code b).time.ltc = h.time.ltc := by
  unfold Hub.carry
  split <;> simp

@[simp] theorem deliverResponse (h : Hub) (q : KReq) (m : DictMsg) : (h.deliverResponse q m).time.ltc = h.time.ltc := by
  unfold Hub.deliverResponse; simp

@[simp] theorem electionAnswers (w : Option Requester) (qs : List KReq) (h : Hub) : (h.electionAnswers w qs).time.ltc = h.time.ltc := by
  induction qs generalizing h with
  | nil => rfl
  | cons q qs ih => exact (ih _).trans (deliverResponse h q _)

@[simp] theorem electionClose (h : Hub) : h.electionClose.time.ltc = h.time.ltc := by
  unfold Hub.electionClose
  dsimp only
  repeat' split
  all_goals simp

@[simp] theorem forwardRetry (h : Hub) : h.forwardRetry.time.ltc = h.time.ltc := by
  unfold Hub.forwardRetry
  repeat' split
  all_goals simp

@[simp] theorem mgmtResponse (h : Hub) (west : Bool) (f : RingFrame) : (h.mgmtResponse west f).time.ltc = h.time.ltc := by
  unfold Hub.mgmtResponse
  dsimp only
  repeat' split
  all_goals simp

theorem rxPd (h : Hub) (i : Fin 8) {f : Hub → Hub} (hf : ∀ h, (f h).time.ltc = h.time.ltc) : (h.rxPd i f).time.ltc = h.time.ltc := by
  unfold Hub.rxPd
  dsimp only
  repeat' split
  · rfl
  · rfl
  · exact hf _

@[simp] theorem msixWrite (h : Hub) (offset v : Nat) : (h.msixWrite offset v).time.ltc = h.time.ltc := by
  unfold Hub.msixWrite
  repeat' split
  all_goals simp

@[simp] theorem acquireListed (h : Hub) : h.acquireListed.time.ltc = h.time.ltc := by
  unfold Hub.acquireListed
  repeat' split
  all_goals simp

end Ltc
end Sys2Proof.Machine
end

section
/-!
The keeper may restart the hub as it serves update-restart (R578), and only there: what it serves keeps the LTC or leaves a hub that has just been reset.
-/
namespace Sys2Proof.Machine

/-- What a hub reset leaves that a period of CCLK and the keeper ask for: no CCLK, a keeper that has not started, no mirror, and nothing that waits. -/
structure Hub.Stopped (h : Hub) : Prop where
  cclk : h.time.cclk = false
  ready : h.keeper.ready = false
  waits : h.duplex.mirWaits = 0
  loop : h.bridge.loop = []
  mirrors : h.mirrors = false

/-- From `h` to `g` the LTC stands, or the hub has been reset. -/
def LtcOrReset (h g : Hub) : Prop := g.time.ltc = h.time.ltc ∨ g.Stopped

/-- What a map without the keys that a condition drops reads at one of them. -/
theorem SMap.get_filter_dropped {α : Type} (d : Nat → α) (keep : Nat → Bool) {k : Nat} (hk : keep k = false) (m : SMap α) :
    SMap.get d (m.filter (fun p => keep p.1)) k = d k := by
  induction m with
  | nil => rfl
  | cons p m ih =>
    by_cases kept : keep p.1 = true
    · have apart : k ≠ p.1 := fun e => by simp [← e, hk] at kept
      rw [List.filter_cons_of_pos (p := fun p : Nat × α => keep p.1) kept]
      exact (if_neg apart).trans ih
    · rw [List.filter_cons_of_neg (p := fun p : Nat × α => keep p.1) kept]
      exact ih

/-- A hub reset leaves an object that it does not keep at its default (R597). -/
theorem num_hubReset (h : Hub) (cause : Nat) {k : Nat} (hk : keptObject k = false) (apart : k ≠ Obj.lastResetCause) :
    (h.hubReset cause).num k = (dictDefault k).nat := by
  unfold Hub.hubReset
  rw [Hub.num_setNum, if_neg apart]
  exact congrArg Val.nat (SMap.get_filter_dropped dictDefault keptObject hk _)

theorem stopped_hubReset (h : Hub) (cause : Nat) : (h.hubReset cause).Stopped where
  cclk := rfl
  ready := rfl
  waits := rfl
  loop := rfl
  mirrors := by
    have off : (h.hubReset cause).num Obj.role = 0 := (num_hubReset h cause (by decide) (by decide)).trans (by decide +kernel)
    unfold Hub.mirrors
    rw [off]
    rfl

namespace LtcOrReset

theorem refl (h : Hub) : LtcOrReset h h := .inl rfl

/-- An operation that keeps the LTC, then one that may reset. -/
theorem after {a h g : Hub} (e : h.time.ltc = a.time.ltc) (H : LtcOrReset h g) : LtcOrReset a g := H.imp_left (fun k => k.trans e)

theorem ite (c : Prop) [Decidable c] {a h g : Hub} (H : LtcOrReset a h) (G : LtcOrReset a g) : LtcOrReset a (if c then h else g) := by
  split
  · exact H
  · exact G

theorem hubReset (h : Hub) (cause : Nat) : LtcOrReset h (h.hubReset cause) := .inr (stopped_hubReset h cause)

theorem updateRestart (h : Hub) : LtcOrReset h h.updateRestart := .inr (stopped_hubReset _ _)

theorem railLeaves (h : Hub) (rail : Rail) : LtcOrReset h (h.railLeaves rail) := ite _ (hubReset h _) (.inl (by simp))

theorem serve (h : Hub) (q : KReq) : LtcOrReset h (h.serve q) := by
  unfold Hub.serve
  refine ite _ (.inl rfl) ?_
  dsimp only
  split
  · exact .inl (Hub.handle_keeps h q).2
  · exact ite _ (after (by simp) (updateRestart _)) (.inl (by simp))

theorem ringRepeat {h g : Hub} {q : KReq} (e : h.ringRepeat q = some g) : g.time.ltc = h.time.ltc := by
  have waiting : h.waitingRepeat q = some g → g.time.ltc = h.time.ltc := by
    unfold Hub.waitingRepeat
    split
    · rintro ⟨⟩; simp
    · rintro ⟨⟩
  unfold Hub.ringRepeat at e
  split at e
  · cases e
  · split at e
    · split at e
      · cases e; simp
      · exact waiting e
    · exact waiting e

theorem arrive (h : Hub) (q : KReq) : LtcOrReset h (h.arrive q) := by
  unfold Hub.arrive
  refine ite _ (refl h) (ite _ (ite _ (serve h _) (refl h)) (ite _ (ite _ (.inl rfl) (refl h)) ?_))
  split
  next g e => exact .inl (ringRepeat e)
  next => exact ite _ (.inl (by simp)) (ite _ (serve h _) (.inl rfl))

theorem ask (h : Hub) (r : Requester) (m : DictMsg) : LtcOrReset h (h.ask r m) := arrive h _

theorem askTrue (h : Hub) (r : Requester) (token key : Nat) : LtcOrReset h (h.askTrue r token key) := ask h r _

theorem mailTake (h : Hub) : LtcOrReset h h.mailTake := by
  unfold Hub.mailTake
  refine ite _ (.inl rfl) (ite _ (after ?_ (arrive _ _)) (ite _ (.inl ?_) (ite _ (.inl ?_) (.inl ?_))))
  all_goals simp

theorem mailPost (h : Hub) (path : RegPath) (v : Nat) : LtcOrReset h (h.mailPost path v) := by
  unfold Hub.mailPost
  refine ite _ (refl h) (ite _ (.inl (by simp)) (ite _ (.inl (by simp)) (ite _ (refl h) (ite _ ?_ (ite _ (mailTake h) (.inl rfl))))))
  exact ite _ (mailTake h) (refl h)

theorem mgmtRequest (h : Hub) (west : Bool) (f : RingFrame) : LtcOrReset h (h.mgmtRequest west f) := by
  have taken : (h.mgmtIn west f).2.time.ltc = h.time.ltc := (Hub.mgmtIn_keeps h west f).2
  exact ite _ (after taken (arrive _ _)) (.inl taken)

theorem stationRequest (h : Hub) (u : UdpRequest) : LtcOrReset h (h.stationRequest u) := by
  unfold Hub.stationRequest
  refine ite _ (refl h) (ite _ (.inl (by simp)) (ite _ (.inl (by simp)) (after ?_ (arrive _ _))))
  simp

theorem ceilingPersisted (h : Hub) (ok : Bool) : LtcOrReset h (h.ceilingPersisted ok) := by
  unfold Hub.ceilingPersisted
  dsimp only
  split
  · exact refl h
  · split
    · exact ite _ (.inl (by simp)) (ite _ (after (by simp) (arrive _ _)) (.inl (by simp)))
    · exact .inl rfl

theorem keeperReady (h : Hub) (us : Nat) : LtcOrReset h (h.keeperReady us) :=
  ite _ (after (Hub.keeperStart_keeps h us).2 (mailTake _)) (.inl (Hub.keeperStart_keeps h us).2)

/-- nPOR_OUT releases while no CCLK runs, or does nothing (R594). -/
theorem porRelease (h : Hub) (straps : Nat) : (h.porRelease straps).time.ltc = h.time.ltc ∨ (h.porRelease straps).time.cclk = false := by
  unfold Hub.porRelease
  split
  · exact .inl rfl
  next still => exact .inr (by simpa using (not_or.mp still).1)

/-! ### One period of CCLK -/

theorem keeperReads (h : Hub) : LtcOrReset h h.keeperReads := by
  have took : LtcOrReset h (h.when (h.keeper.mboxEarly && (h.keeper.ready || h.upd.recovery)) Hub.mailTake) := ite _ (mailTake h) (refl h)
  unfold Hub.keeperReads
  dsimp only
  revert took
  generalize h.when _ Hub.mailTake = g
  rintro (e | s)
  · exact .inl (by simpa using e)
  · rw [s.waits]
    exact .inr s

theorem keeperTurn {a h : Hub} (H : LtcOrReset a h) : LtcOrReset a h.keeperTurn := by
  unfold Hub.keeperTurn
  split
  · exact H
  next runs =>
    obtain e | s := H
    · split
      next q qs _ =>
        have served := serve { h with keeper := { h.keeper with waiting := qs } } q
        exact after e served
      next => exact .inl (by simpa using e)
    · exact absurd (.inl s.ready) runs

theorem mirrorPump {a h : Hub} (H : LtcOrReset a h) : LtcOrReset a h.mirrorPump := by
  obtain e | s := H
  · exact .inl (by simpa using e)
  · refine .inr ?_
    unfold Hub.mirrorPump
    simp only [s.mirrors, Bool.not_false, if_true]
    split
    · exact s
    · exact ⟨s.cclk, s.ready, s.waits, s.loop, s.mirrors⟩

theorem bridgeLoop {a h : Hub} (H : LtcOrReset a h) : LtcOrReset a h.bridgeLoop := by
  obtain e | s := H
  · exact .inl (by simpa using e)
  · unfold Hub.bridgeLoop
    rw [s.loop]
    exact .inr s

/-- What a period of CCLK does once the LTC has been counted. -/
theorem periodEnds (h : Hub) :
    LtcOrReset h h.settleEchoes.canOffers.acquireListed.keeperReads.keeperTurn.mirrorPump.bridgeLoop :=
  after (h := h.settleEchoes.canOffers.acquireListed) (by simp) (bridgeLoop (mirrorPump (keeperTurn (keeperReads _))))

end LtcOrReset

/-- A period of CCLK counts the LTC by one, or the request it served has reset the hub (R38, R578). -/
theorem tick_ltc {h : Hub} (runs : h.time.cclk = true) : h.tick.time.ltc = h.time.ltc + 1 ∨ h.tick.time.cclk = false := by
  have answered : h.answerLocks.markUsable.time.ltc = h.time.ltc := by simp
  unfold Hub.tick
  rw [if_neg (by simp [runs]), ← answered]
  generalize h.answerLocks.markUsable = g
  exact (LtcOrReset.periodEnds { g with time := { g.time with ltc := g.time.ltc + 1 } }).imp_right Hub.Stopped.cclk

/-- No CCLK, no period. -/
theorem tick_off {h : Hub} (off : h.time.cclk = false) : h.tick = h := if_pos off

/-- With no command waiting a step is a period of CCLK. -/
theorem step_idle {s : State} (idle : s.pending = []) : step s = .next (s.withHub s.hub.tick) := by
  obtain ⟨waiting, h⟩ := s
  obtain rfl : waiting = [] := idle
  rfl

/-- A command that the keeper serves, or that may reset the hub. -/
theorem ltc_of_next {s t u : State} (e : (.next u : Host.Outcome State Fault Refusal) = .next t) (H : LtcOrReset s.hub u.hub) :
    t.hub.time.ltc = s.hub.time.ltc ∨ t.hub.time.cclk = false := by
  obtain rfl := Host.Outcome.next.inj e
  exact H.imp_right Hub.Stopped.cclk

/-- No command but the wake from DORMANT changes the LTC while CCLK runs (R38): requests go through the keeper, starts leave no CCLK, and every other
command keeps the LTC by the lemma of its operation. -/
theorem exec_ltc {c : Instr} {s t : State} (e : exec c s = .next t) (awake : ∀ rtc, c ≠ .dormantWake rtc) :
    t.hub.time.ltc = s.hub.time.ltc ∨ t.hub.time.cclk = false := by
  cases c
  case dormantWake rtc => exact absurd rfl (awake rtc)
  case nporRelease straps =>
    obtain rfl := Host.Outcome.next.inj e
    exact LtcOrReset.porRelease s.hub straps.toNat
  case hubResetIn | vddSenLow | coreRailLow => exact ltc_of_next e (.hubReset _ _)
  case supplyOutOfWindow => exact ltc_of_next e (.railLeaves _ _)
  case keeperReady => exact ltc_of_next e (.keeperReady _ _)
  case mboxPost => exact ltc_of_next e (.mailPost _ _ _)
  case mgmtDictRequestRx => exact ltc_of_next e (.mgmtRequest _ _ _)
  case stationDictRequest => exact ltc_of_next e (.stationRequest _ _)
  case keyCeilingPersisted => exact ltc_of_next e (.ceilingPersisted _ _)
  case serviceDictRequest => exact ltc_of_next e (.arrive _ _)
  case dictRead | dictWrite | segStart | segData | segAbort | stallRequest | keepalive | stallRelease | stallHandover | who
      | regRead | regWrite | fresetObjectWrite | pulseCountReset | ledgerRangeRead | ledgerExportStart | claimReset | keyWrite | pwrModeRequest
      | eavesRelease | windowCommit | fallbackPart | keyRevoke => exact ltc_of_next e (.ask _ _ _)
  case clearTallies | triggerDisarmAll | rejoin | clearFaultLog | fwdCommit | fwdDiscard | queueFlush | lsRearm | ledgerClear | canBusOffRestart
      | canMatrixStop | dupSwap | dupRejoin | dupClaimClear | saveConfig | restoreDefaults | scanStop | faultTest | faultRecordClear | fetFaultClear
      | stagingVerify | stagingErase | updateArm | updateDisarm | updateRestart | updateConfirm => exact ltc_of_next e (.askTrue _ _ _ _)
  all_goals
    left
    obtain rfl := Host.Outcome.next.inj e
    dsimp only
  case pdPsRdyRx =>
    refine Ltc.rxPd _ _ (fun h => ?_)
    split <;> simp
  case pdDrSwapResponseRx =>
    refine Ltc.rxPd _ _ (fun h => ?_)
    split <;> simp
  case registerWriteOther | ringLockLoss | fenceTimeout | pdGoodcrcTimeout | moistureTest | storeBurstComplete =>
    repeat' split
    all_goals simp
  all_goals simp

end Sys2Proof.Machine

open Sys2Proof Sys2Proof.Machine

/-- Settles O2: a start leaves no CCLK, a period of CCLK counts the LTC unless it serves the request that resets the hub, and a command keeps it. -/
theorem theLtcCountsCclk : Obligations.TheLtcCountsCclk := by
  unfold Obligations.TheLtcCountsCclk
  refine ⟨fun s straps off mode => ?release, fun s idle off => ?still, fun s idle runs => ?period, fun c s t e => ?command⟩
  case release =>
    refine ⟨_, rfl, ?_⟩
    show (s.hub.porRelease straps.toNat).time.ltc = 0
    unfold Hub.porRelease
    rw [if_neg (by simp [off, mode])]
    rfl
  case still => rw [step_idle idle, tick_off off]; rfl
  case period => exact ⟨_, step_idle idle, idle, tick_ltc runs⟩
  case command =>
    by_cases wake : ∃ rtc, c = .dormantWake rtc
    · exact .inr (.inr wake)
    · exact (exec_ltc e (fun rtc is => wake ⟨rtc, is⟩)).imp_right .inl
end

section
/-!
What the time unit's captures and outputs do (R40, R72 to R78): one equation per case.
-/
namespace Sys2Proof.Machine
variable (h : Hub)

/-- The captures that a TCAP pin holds, oldest first. -/
def TimeUnit.held (t : TimeUnit) (i : Nat) : List Capture := SMap.get (fun _ => []) t.tcap i

/-- The hub once a capture at `at_` half nanoseconds has come on a pin: the 1PPS edge of TCODE is noted where the pin is the one that brings it (R41). -/
def Hub.notesPps (i : Nat) (rising : Bool) (at_ : Nat) : Hub :=
  if rising && h.num Obj.tcapPpsPin == i then { h with time := { h.time with pps := some (at_ / 5, at_ % 5) } } else h

/-- A capture is kept: the last in the FIFO, and counted (R72). -/
def Hub.keepsCapture (i : Nat) (c : Capture) : Hub :=
  ((Hub.setNum { h with time := { h.time with
      tcap := SMap.set (fun _ => []) h.time.tcap i (h.time.held i ++ [c]), tcapRun := SMap.set (fun _ => false) h.time.tcapRun i false } }
    (Obj.lastCapture i) (h.stamp128At .H c.ltc c.frac)).count (Obj.tcapCount i))

/-- A capture beyond the fourth is lost and counted; the first of a run is notified (R72, R79). -/
def Hub.losesCapture (i : Nat) : Hub :=
  let run := SMap.get (fun _ => false) h.time.tcapRun i
  let ovf := min 0xFFFF (SMap.get (fun _ => 0) h.time.tcapOvf i + 1)
  let g := Hub.count { h with time := { h.time with
    tcapRun := SMap.set (fun _ => false) h.time.tcapRun i true, tcapOvf := SMap.set (fun _ => 0) h.time.tcapOvf i ovf } } (Obj.tcapOverflows i)
  if run then g else g.notice N.tcapOverflow fidTime [i, ovf]

/-- An edge that its pin captures (R72). -/
theorem tcapEdge_eq {i : Nat} {rising : Bool} (frac : Nat) (on : h.flag (Obj.tcapEnable i) = true)
    (sel : (h.num (Obj.tcapEdge i)).testBit (if rising then 0 else 1) = true) :
    let at_ := ((h.now * 5 + frac : Nat) - h.int (Obj.tcapDelay i) / 500 : Int).toNat
    h.tcapEdge i rising frac = if ((h.notesPps i rising at_).time.held i).length < 4
      then (h.notesPps i rising at_).keepsCapture i { ltc := at_ / 5, frac := at_ % 5, rising := rising }
      else (h.notesPps i rising at_).losesCapture i := by
  intro at_
  have taken : (!(h.flag (Obj.tcapEnable i)
      && (if rising then (h.num (Obj.tcapEdge i)).testBit 0 else (h.num (Obj.tcapEdge i)).testBit 1))) = false := by
    cases rising <;> simpa [on] using sel
  unfold Hub.tcapEdge
  dsimp only
  rw [taken, if_neg Bool.false_ne_true]
  rfl

theorem notesPps_held (i j : Nat) (rising : Bool) (at_ : Nat) : (h.notesPps i rising at_).time.held j = h.time.held j := by
  unfold Hub.notesPps
  split <;> rfl

theorem notesPps_num (i : Nat) (rising : Bool) (at_ k : Nat) : (h.notesPps i rising at_).num k = h.num k := by
  unfold Hub.notesPps
  split <;> rfl

theorem keepsCapture_held (i : Nat) (c : Capture) : (h.keepsCapture i c).time.held i = h.time.held i ++ [c] :=
  SMap.get_set_self _ h.time.tcap i _

theorem keepsCapture_count (i : Nat) (c : Capture) :
    (h.keepsCapture i c).num (Obj.tcapCount i) = satAdd (maxWord 32) (h.num (Obj.tcapCount i)) 1 := by
  have apart : Obj.tcapCount i ≠ Obj.lastCapture i := by unfold Obj.tcapCount Obj.lastCapture; omega
  unfold Hub.keepsCapture
  rw [Hub.num_count, if_pos rfl, Hub.num_setNum, if_neg apart]
  rfl

theorem losesCapture_held (i : Nat) : (h.losesCapture i).time.held i = h.time.held i := by
  unfold Hub.losesCapture
  dsimp only
  split
  · rfl
  · rw [Hub.notice_time]
    rfl

theorem losesCapture_overflows {i : Nat} (hi : i < 4) :
    (h.losesCapture i).num (Obj.tcapOverflows i) = satAdd (maxWord 32) (h.num (Obj.tcapOverflows i)) 1 := by
  unfold Hub.losesCapture
  dsimp only
  split
  · exact (Hub.num_count _ _ _).trans (if_pos rfl)
  · rw [Hub.num_notice _ _ _ _ _ (by unfold Obj.tcapOverflows; omega) (by unfold Obj.tcapOverflows; omega)
      (by unfold Obj.tcapOverflows Obj.inlineCheckFailures; omega)]
    exact (Hub.num_count _ _ _).trans (if_pos rfl)

/-- A read of TCAPi_HI takes the head capture (R75), and answers the high word of its LTC; 0 when none is held. -/
theorem tcapTake_eq (i : Nat) :
    (h.tcapTake i).1 = (match (h.time.held i).head? with | some c => c.ltc / 2 ^ 32 % 2 ^ 32 | none => 0)
      ∧ (h.tcapTake i).2.time.held i = (h.time.held i).tail ∧ (h.tcapTake i).2.out = h.out := by
  unfold Hub.tcapTake TimeUnit.held
  split
  next e => rw [e]; exact ⟨rfl, rfl, rfl⟩
  next c cs e => rw [e]; exact ⟨rfl, SMap.get_set_self _ _ _ _, rfl⟩

/-- In NEVER a timed output stands at its idle level, and no edge leaves (R73). -/
theorem toutTimedEdge_never {i : Nat} (rising : Bool) (timed : h.num (Obj.toutMode i) = 2 ∨ h.num (Obj.toutMode i) = 3)
    (never : h.num Obj.syncState = syncNever) :
    h.toutTimedEdge i rising
      = { h with time := { h.time with toutLevel := SMap.set (fun _ => false) h.time.toutLevel i (h.flag (Obj.toutIdle i)) } } := by
  unfold Hub.toutTimedEdge
  rw [if_neg (by omega), if_pos never]

/-- With ST known a timed output is driven for the instant its edge marks, tout-delay earlier (R73). -/
theorem toutTimedEdge_known {i : Nat} (rising : Bool) (timed : h.num (Obj.toutMode i) = 2 ∨ h.num (Obj.toutMode i) = 3)
    (known : h.num Obj.syncState ≠ syncNever) :
    h.toutTimedEdge i rising
      = h.driveTout i rising ((h.now : Int)
          + h.ticksToSt (h.toutInstant i rising ((h.stNs h.now : Nat) + h.int (Obj.toutDelay i) / 1000))).toNat := by
  unfold Hub.toutTimedEdge
  rw [if_neg (by omega), if_neg known]

end Sys2Proof.Machine

open Sys2Proof Sys2Proof.Machine

/-- Settles O20: reads and snapshots are their definitions; a capture is kept or lost by the FIFO's length; a timed output follows SYNC_STATE. -/
theorem capturesAndOutputs : Obligations.CapturesAndOutputs := by
  unfold Obligations.CapturesAndOutputs
  refine ⟨fun s path => ⟨_, rfl, rfl, rfl, SMap.get_set_self _ _ _ _, rfl⟩, fun s path => rfl,
    ?capture, fun s path i => ?head, fun s i rising timed => ?timedEdge⟩
  case capture =>
    intro s i rising frac held at_ on sel
    refine ⟨s.withHub (s.hub.tcapEdge i.val rising frac.val), rfl, rfl, fun room => ?_, fun full => ?_⟩
    · have kept : s.hub.tcapEdge i.val rising frac.val = _ :=
        (tcapEdge_eq s.hub frac.val on sel).trans (if_pos (by rwa [notesPps_held]))
      show (s.hub.tcapEdge i.val rising frac.val).time.held i.val = _ ∧ (s.hub.tcapEdge i.val rising frac.val).num _ = _
      rw [kept, keepsCapture_held, keepsCapture_count, notesPps_held, notesPps_num]
      exact ⟨rfl, rfl⟩
    · have lost : s.hub.tcapEdge i.val rising frac.val = _ :=
        (tcapEdge_eq s.hub frac.val on sel).trans (if_neg (by rw [notesPps_held]; exact Nat.not_lt.mpr full))
      show (s.hub.tcapEdge i.val rising frac.val).time.held i.val = _ ∧ (s.hub.tcapEdge i.val rising frac.val).num _ = _
      rw [lost, losesCapture_held, losesCapture_overflows _ i.isLt, notesPps_held, notesPps_num]
      exact ⟨rfl, rfl⟩
  case head =>
    obtain ⟨word, rest, out⟩ := tcapTake_eq s.hub i.val
    refine ⟨s.withHub (s.hub.tcapHead path i.val), rfl, rfl, rest, ?_⟩
    show Out.regValue path (s.hub.tcapTake i.val).1 :: (s.hub.tcapTake i.val).2.out = _
    rw [word, out]
    rfl
  case timedEdge =>
    refine ⟨s.withHub (s.hub.toutTimedEdge i.val rising), rfl, rfl, fun never => ?_, fun known => ?_⟩
    · show SMap.get _ (s.hub.toutTimedEdge i.val rising).time.toutLevel i.val = _ ∧ (s.hub.toutTimedEdge i.val rising).out = _
      rw [toutTimedEdge_never s.hub rising timed never]
      exact ⟨SMap.get_set_self _ _ _ _, rfl⟩
    · show SMap.get _ (s.hub.toutTimedEdge i.val rising).time.toutLevel i.val = _ ∧ (s.hub.toutTimedEdge i.val rising).out = _
      rw [toutTimedEdge_known s.hub rising timed known]
      exact ⟨SMap.get_set_self _ _ _ _, rfl⟩
end

section
/-!
Time sources and map updates (R41 to R47): the phase clock's line moves without any other state of the time unit, a step of ST is a segment and its notice,
and a source is followed or lost by them.
-/
namespace Sys2Proof.Machine

/-- From `h` to `g` only the phase clock's line moves (R50, R53). -/
def Hub.LineMoves (h g : Hub) : Prop :=
  ∃ past l0 base freq trim nom, g = { h with time := { h.time with
    phcPast := past, phcL0 := l0, phcBase := base, phcFreq := freq, phcTrim := trim, phcNominal := nom } }

namespace LineMoves

theorem refl (h : Hub) : h.LineMoves h := ⟨_, _, _, _, _, _, rfl⟩

theorem trans {a b c : Hub} (H : a.LineMoves b) (G : b.LineMoves c) : a.LineMoves c := by
  obtain ⟨_, _, _, _, _, _, rfl⟩ := H
  obtain ⟨_, _, _, _, _, _, rfl⟩ := G
  exact ⟨_, _, _, _, _, _, rfl⟩

theorem rebase (h : Hub) (freq : Nat) : h.LineMoves (h.rebase freq) := ⟨_, _, _, _, _, _, rfl⟩

theorem leaveNominal (h : Hub) : h.LineMoves h.leaveNominal := by
  unfold Hub.leaveNominal
  split
  · exact refl h
  · exact rebase h _

theorem trackNominal (h : Hub) : h.LineMoves h.trackNominal := by
  unfold Hub.trackNominal
  dsimp only
  repeat' split
  · exact refl h
  · exact trans (rebase h _) ⟨_, _, _, _, _, _, rfl⟩
  · exact trans (rebase h _) ⟨_, _, _, _, _, _, rfl⟩
  · exact refl h

/-- The phase clock's line is no object. -/
theorem num {h g : Hub} (H : h.LineMoves g) (k : Nat) : g.num k = h.num k := by
  obtain ⟨_, _, _, _, _, _, rfl⟩ := H
  rfl

end LineMoves

/-- What the time unit keeps of ST: its segments, the tracking rate and the offset left, the sources qualified, and the instant of the last lock. -/
structure StKept where
  ltc : BitVec 64
  segs : List Segment
  track : Int
  slew : Int
  slewCorr : Int
  slewAt : Nat
  lastLocked : Nat
  qualified : List TimeSource

/-- What a hub keeps of ST. -/
def Hub.st (h : Hub) : StKept :=
  { ltc := h.time.ltc, segs := h.time.segs, track := h.time.track, slew := h.time.slew, slewCorr := h.time.slewCorr, slewAt := h.time.slewAt,
    lastLocked := h.time.lastLocked, qualified := h.time.qualified }

theorem LineMoves.st {h g : Hub} (H : h.LineMoves g) : g.st = h.st := by
  obtain ⟨_, _, _, _, _, _, rfl⟩ := H
  rfl

@[simp] theorem st_trackNominal (h : Hub) : h.trackNominal.st = h.st := LineMoves.st (LineMoves.trackNominal h)
@[simp] theorem st_leaveNominal (h : Hub) : h.leaveNominal.st = h.st := LineMoves.st (LineMoves.leaveNominal h)
@[simp] theorem num_trackNominal (h : Hub) (k : Nat) : h.trackNominal.num k = h.num k := LineMoves.num (LineMoves.trackNominal h) k
@[simp] theorem num_leaveNominal (h : Hub) (k : Nat) : h.leaveNominal.num k = h.num k := LineMoves.num (LineMoves.leaveNominal h) k
@[simp] theorem st_setNum (h : Hub) (k n : Nat) : (h.setNum k n).st = h.st := rfl
@[simp] theorem st_count (h : Hub) (k : Nat) : (h.count k).st = h.st := rfl
@[simp] theorem st_notice (h : Hub) (c f : Nat) (a : List Nat) : (h.notice c f a).st = h.st := by
  unfold Hub.st
  rw [Hub.notice_time]

/-- ST at a tick is by the segments. -/
theorem stAt_of_segs {g h : Hub} (e : g.st.segs = h.st.segs) (l : Nat) : g.stAt l = h.stAt l := by
  have segs : g.time.segs = h.time.segs := e
  unfold Hub.stAt
  rw [segs]

theorem now_of_ltc {g h : Hub} (e : g.st.ltc = h.st.ltc) : g.now = h.now := congrArg BitVec.toNat e

/-- A new segment joins those kept, and the time unit shows its correction from now on (R25). -/
@[simp] theorem st_newSegment (h : Hub) (st0 : Nat) (rate : Int) : (h.newSegment st0 rate).st
    = { h.st with segs := ({ l0 := h.now, st0 := st0, rate := rate } :: h.st.segs).take 64, slewCorr := rate - h.st.track, slewAt := h.now } := rfl

theorem num_newSegment (h : Hub) (st0 : Nat) (rate : Int) {k : Nat} (apart : k ≠ Obj.mapRate) : (h.newSegment st0 rate).num k = h.num k :=
  (Hub.num_setNum _ _ _ _).trans (if_neg apart)

/-- A step of ST (R44): no offset is left, and a segment begins at ST moved by it, at the tracking rate. -/
theorem st_stepTime (h : Hub) (ns : Int) : (h.stepTime ns).st
    = { h.st with
        slew := 0, lastLocked := h.now, slewCorr := 0, slewAt := h.now,
        segs := ({ l0 := h.now, st0 := ((h.stAt h.now : Int) + ns * stPerNs).toNat, rate := h.st.track } :: h.st.segs).take 64 } := by
  have left := st_leaveNominal h
  have now := now_of_ltc (congrArg StKept.ltc left)
  have same := stAt_of_segs (congrArg StKept.segs left)
  unfold Hub.stepTime
  revert left now same
  generalize h.leaveNominal = g
  intro left now same
  rw [st_trackNominal, st_notice, st_count, st_setNum, st_newSegment, ← left, ← now, ← same]
  have none_left : g.time.track - g.time.track = 0 := Int.sub_self _
  exact congrArg (fun c => ({ g.st with
        slew := 0, lastLocked := g.now, slewCorr := c, slewAt := g.now,
        segs := ({ l0 := g.now, st0 := ((g.stAt g.now : Int) + ns * stPerNs).toNat, rate := g.st.track } :: g.st.segs).take 64 } : StKept)) none_left

/-- A step of ST leaves every object but those it is kept in, its tally and the notices'. -/
theorem num_stepTime (h : Hub) (ns : Int) {k : Nat} (rate : k ≠ Obj.mapRate) (last : k ≠ Obj.lastStep) (tally : k ≠ Obj.stepTally)
    (page : k / 256 ≠ 0x193F ∧ k / 256 ≠ 0x1200 ∧ k ≠ Obj.inlineCheckFailures) : (h.stepTime ns).num k = h.num k := by
  obtain ⟨log, queue, inl⟩ := page
  unfold Hub.stepTime
  rw [num_trackNominal, Hub.num_notice _ _ _ _ _ log queue inl, Hub.num_count, if_neg tally, Hub.num_setNum, if_neg last,
    num_newSegment _ _ _ rate]
  exact num_leaveNominal h k

theorem lastStep_stepTime (h : Hub) (ns : Int) : (h.stepTime ns).num Obj.lastStep = ofSigned 64 ns := by
  unfold Hub.stepTime
  rw [num_trackNominal, Hub.num_notice _ _ _ _ _ (by decide) (by decide) (by decide), Hub.num_count, if_neg (by decide), Hub.num_setNum_self]

theorem st_takeUtc (h : Hub) (utc : Option Int) : (h.takeUtc utc).st = h.st := by cases utc <;> rfl

theorem num_takeUtc (h : Hub) (utc : Option Int) {k : Nat} (offset : k ≠ Obj.utcOffset) (known : k ≠ Obj.utcOffsetKnown) :
    (h.takeUtc utc).num k = h.num k := by
  cases utc with
  | none => rfl
  | some u => exact (Hub.num_setNum _ _ _ _).trans ((if_neg known).trans ((Hub.num_setNum _ _ _ _).trans (if_neg offset)))

theorem utcOffset_takeUtc (h : Hub) (u : Int) : (h.takeUtc (some u)).num Obj.utcOffset = ofSigned 16 u
    ∧ (h.takeUtc (some u)).num Obj.utcOffsetKnown = 1 :=
  ⟨(Hub.num_setNum _ _ _ _).trans ((if_neg (by decide)).trans (Hub.num_setNum_self _ _ _)), Hub.num_setNum_self _ _ _⟩

/-- The hub as a source is selected, before ST moves to it. -/
def Hub.turnsTo (h : Hub) (code : Nat) (rate : Int) (utc : Option Int) : Hub :=
  (((Hub.setNum { h with time := { h.time with track := rate } } Obj.syncState code).setNum Obj.timeSource code).takeUtc utc)

/-- In NEVER a source that is selected is stepped to (R43, R46). -/
theorem selectSource_never {h : Hub} (never : h.num Obj.syncState = syncNever) (code : Nat) (offset rate : Int) (utc : Option Int) :
    h.selectSource code offset rate utc
      = ((h.turnsTo code rate utc).stepTime offset).notice N.timeSourceChanged fidTime [h.num Obj.timeSource, code] := by
  unfold Hub.selectSource Hub.turnsTo lockState
  simp [never]

theorem st_turnsTo (h : Hub) (code : Nat) (rate : Int) (utc : Option Int) : (h.turnsTo code rate utc).st = { h.st with track := rate } :=
  st_takeUtc _ _

theorem num_turnsTo (h : Hub) (code : Nat) (rate : Int) (utc : Option Int) :
    (h.turnsTo code rate utc).num Obj.syncState = code ∧ (h.turnsTo code rate utc).num Obj.timeSource = code := by
  unfold Hub.turnsTo
  rw [num_takeUtc _ _ (by decide) (by decide), num_takeUtc _ _ (by decide) (by decide), Hub.num_setNum_self, Hub.num_setNum, if_neg (by decide),
    Hub.num_setNum_self]
  exact ⟨rfl, rfl⟩

/-- What the objects other than the notices' and those of a step read once a source is selected in NEVER. -/
theorem num_selectSource_never {h : Hub} (never : h.num Obj.syncState = syncNever) (code : Nat) (offset rate : Int) (utc : Option Int) {k : Nat}
    (apart : k ≠ Obj.mapRate ∧ k ≠ Obj.lastStep ∧ k ≠ Obj.stepTally) (page : k / 256 ≠ 0x193F ∧ k / 256 ≠ 0x1200 ∧ k ≠ Obj.inlineCheckFailures) :
    (h.selectSource code offset rate utc).num k = (h.turnsTo code rate utc).num k := by
  obtain ⟨mapRate, last, tally⟩ := apart
  rw [selectSource_never never, Hub.num_notice _ _ _ _ _ page.1 page.2.1 page.2.2, num_stepTime _ _ mapRate last tally page]

/-- ST once a source is selected in NEVER: a step by its offset, at its rate. -/
theorem st_selectSource_never {h : Hub} (never : h.num Obj.syncState = syncNever) (code : Nat) (offset rate : Int) (utc : Option Int) :
    (h.selectSource code offset rate utc).st = { h.st with
      track := rate, slew := 0, lastLocked := h.now, slewCorr := 0, slewAt := h.now,
      segs := ({ l0 := h.now, st0 := ((h.stAt h.now : Int) + offset * stPerNs).toNat, rate := rate } :: h.st.segs).take 64 } := by
  have turned := st_turnsTo h code rate utc
  have now : (h.turnsTo code rate utc).now = h.now := now_of_ltc (by rw [turned])
  have same := stAt_of_segs (g := h.turnsTo code rate utc) (h := h) (by rw [turned])
  rw [selectSource_never never, st_notice, st_stepTime, now, same, turned]

/-- The hub with a source among those qualified. -/
def Hub.qualifies (h : Hub) (src : TimeSource) : Hub :=
  { h with time := { h.time with qualified := if h.time.qualified.contains src then h.time.qualified else src :: h.time.qualified } }

theorem qualifies_contains (h : Hub) (src : TimeSource) : (h.qualifies src).time.qualified.contains src = true := by
  unfold Hub.qualifies
  dsimp only
  split
  next held => exact held
  next => simp

/-- A source that the list names is selected in NEVER (R43). -/
theorem timeSourceQualified_never {h : Hub} {src : TimeSource} (holds : h.sourceHolds src = true) (never : h.num Obj.syncState = syncNever)
    (listed : (rankIn (h.num Obj.sourcePriority) 8 (timeCode src)).isSome = true) (offset rate : Int) (utc : Option Int) :
    h.timeSourceQualified src offset rate utc = (h.qualifies src).selectSource (timeCode src) offset rate utc := by
  unfold Hub.timeSourceQualified
  rw [if_neg (by simp [holds])]
  dsimp only
  split
  next rank => exact absurd (rank ▸ listed) (by simp)
  next => exact if_pos (.inl never)

/-- A source that the list does not name is only noted (R42). -/
theorem timeSourceQualified_unlisted {h : Hub} {src : TimeSource} (holds : h.sourceHolds src = true)
    (unlisted : rankIn (h.num Obj.sourcePriority) 8 (timeCode src) = none) (offset rate : Int) (utc : Option Int) :
    h.timeSourceQualified src offset rate utc = h.qualifies src := by
  unfold Hub.timeSourceQualified
  rw [if_neg (by simp [holds])]
  dsimp only
  split
  next => rfl
  next rank => exact absurd (unlisted.symm.trans rank) (by simp)

/-! ### The loss of a source -/

theorem st_followMaster (h : Hub) : h.followMaster.st = h.st := by
  unfold Hub.followMaster
  dsimp only
  split
  · rfl
  · rw [st_notice, st_setNum]

theorem num_followMaster (h : Hub) {k : Nat} (master : k ≠ Obj.timeMasterId)
    (page : k / 256 ≠ 0x193F ∧ k / 256 ≠ 0x1200 ∧ k ≠ Obj.inlineCheckFailures) : h.followMaster.num k = h.num k := by
  unfold Hub.followMaster
  dsimp only
  split
  · rfl
  · rw [Hub.num_notice _ _ _ _ _ page.1 page.2.1 page.2.2, Hub.num_setNum, if_neg master]

/-- The ring master falls silent where RING is the source that is lost. -/
theorem st_ringSilent (h : Hub) (c : Bool) : (h.when c Hub.masterSilent).st = h.st := by
  unfold Hub.when
  split
  · exact st_followMaster _
  · rfl

theorem num_ringSilent (h : Hub) (c : Bool) {k : Nat} (master : k ≠ Obj.timeMasterId)
    (page : k / 256 ≠ 0x193F ∧ k / 256 ≠ 0x1200 ∧ k ≠ Obj.inlineCheckFailures) : (h.when c Hub.masterSilent).num k = h.num k := by
  unfold Hub.when
  split
  · exact num_followMaster _ master page
  · rfl

/-- No source is the best where none is qualified. -/
theorem bestSource_none {h : Hub} (none_ : h.time.qualified = []) : h.bestSource = none := by
  unfold Hub.bestSource Hub.qualifiedCodes
  rw [none_]
  simp

/-- The hub that has lost a source: qualified no more, counted, and notified (R47). -/
def Hub.notesLoss (h : Hub) (src : TimeSource) : Hub :=
  (Hub.count { h with time := { h.time with qualified := h.time.qualified.filter (· != src) } } Obj.sourceLossTally).notice
    N.timeSourceLost fidTime [timeCode src]

/-- HOLDOVER from now on (R43, R47): no source, no offset left, and a segment that goes on from ST at the tracking rate. -/
def Hub.holdsOver (h : Hub) : Hub :=
  let g := (h.setNum Obj.syncState syncHoldover).setNum Obj.timeSource 0
  let g : Hub := { g with time := { g.time with slew := 0 } }
  let g := g.newSegment (g.stAt g.now) g.time.track
  g.setNum Obj.holdoverSince (g.stamp .S)

theorem st_notesLoss (h : Hub) (src : TimeSource) : (h.notesLoss src).st = { h.st with qualified := h.st.qualified.filter (· != src) } :=
  st_notice _ _ _ _

theorem tally_notesLoss (h : Hub) (src : TimeSource) :
    (h.notesLoss src).num Obj.sourceLossTally = satAdd (maxWord 32) (h.num Obj.sourceLossTally) 1 := by
  unfold Hub.notesLoss
  rw [Hub.num_notice _ _ _ _ _ (by decide) (by decide) (by decide), Hub.num_count, if_pos rfl]
  rfl

theorem st_holdsOver (h : Hub) : h.holdsOver.st = { h.st with
    slew := 0, slewCorr := 0, slewAt := h.now, segs := ({ l0 := h.now, st0 := h.stAt h.now, rate := h.st.track } :: h.st.segs).take 64 } :=
  congrArg (fun c => ({ h.st with
    slew := 0, slewCorr := c, slewAt := h.now, segs := ({ l0 := h.now, st0 := h.stAt h.now, rate := h.st.track } :: h.st.segs).take 64 } : StKept))
    (Int.sub_self h.time.track)

theorem num_holdsOver (h : Hub) {k : Nat} (since : k ≠ Obj.holdoverSince) (rate : k ≠ Obj.mapRate) :
    h.holdsOver.num k = if k = Obj.timeSource then 0 else if k = Obj.syncState then syncHoldover else h.num k := by
  unfold Hub.holdsOver
  dsimp only
  rw [Hub.num_setNum, if_neg since, num_newSegment _ _ _ rate, Hub.num_upd_time, Hub.num_setNum, Hub.num_setNum]

/-- The loss of the only source, which is the one in use. -/
theorem timeSourceLost_only {h : Hub} {src : TimeSource} (only : h.time.qualified = [src]) (used : h.num Obj.timeSource = timeCode src)
    (offset rate : Int) (utc : Option Int) :
    h.timeSourceLost src offset rate utc = ((h.when (src == .ring) Hub.masterSilent).notesLoss src).holdsOver := by
  have st := st_ringSilent h (src == .ring)
  have used' := num_ringSilent h (src == .ring) (k := Obj.timeSource) (by decide) (by decide)
  unfold Hub.timeSourceLost
  revert st used'
  generalize h.when (src == .ring) Hub.masterSilent = g
  intro st used'
  have only' : g.time.qualified = [src] := (congrArg StKept.qualified st).trans only
  have kept : (g.notesLoss src).bestSource = none := by
    have q := congrArg StKept.qualified (st_notesLoss g src)
    refine bestSource_none (q.trans ?_)
    show g.time.qualified.filter (· != src) = []
    rw [only']
    simp
  dsimp only
  rw [if_neg (by simp [only']), if_neg]
  · split
    next c best => exact absurd (kept.symm.trans best) (by simp)
    next => rfl
  · rw [Hub.num_count, if_neg (by decide)]
    exact not_not.mpr (used'.trans used)

/-! ### Map updates -/

/-- The hub as a map update starts: the tracking rate measured, and what is left of the offset (R44). -/
def Hub.measures (h : Hub) (rate : Int) : Hub :=
  { h with time := { h.time with track := rate, slew := h.time.slew - h.slewRemoved, lastLocked := h.now } }

/-- A map update while a source is followed (R44). -/
theorem timeMapUpdate_locked {h : Hub} (lower : 1 ≤ h.num Obj.syncState) (upper : h.num Obj.syncState ≤ 3) (rate : Int) :
    h.timeMapUpdate rate = ((h.measures rate).newSegment ((h.measures rate).stAt h.now) (h.measures rate).slewRate).trackNominal := by
  unfold Hub.timeMapUpdate
  dsimp only
  rw [if_neg (by unfold syncNever; omega), if_pos (by simpa using ⟨lower, upper⟩)]
  rfl

end Sys2Proof.Machine

open Sys2Proof Sys2Proof.Machine

/-- Settles O18: a source in NEVER is stepped to; one not listed joins the qualified; the loss of the only one holds over; a map update is a segment at
ST with the correction of what is left. -/
theorem timeSourcesMoveStationTime : Obligations.TimeSourcesMoveStationTime := by
  unfold Obligations.TimeSourcesMoveStationTime
  refine ⟨?selected, ?noted, ?lost, fun s rate never => ?never, fun s rate lower upper => ?update⟩
  case selected =>
    intro s src offset rate utc holds never listed
    have never' : (s.hub.qualifies src).num Obj.syncState = syncNever := never
    have st := st_selectSource_never never' (timeCode src) offset rate utc
    have objects := fun k => num_selectSource_never never' (timeCode src) offset rate utc (k := k)
    have last : ((s.hub.qualifies src).selectSource (timeCode src) offset rate utc).num Obj.lastStep = ofSigned 64 offset := by
      rw [selectSource_never never', Hub.num_notice _ _ _ _ _ (by decide) (by decide) (by decide), lastStep_stepTime]
    obtain ⟨state, source⟩ := num_turnsTo (s.hub.qualifies src) (timeCode src) rate utc
    refine ⟨s.withHub ((s.hub.qualifies src).selectSource (timeCode src) offset rate utc),
      congrArg (fun h => Host.Outcome.next (s.withHub h)) (timeSourceQualified_never holds never listed offset rate utc), rfl,
      (objects _ (by decide) (by decide)).trans state, (objects _ (by decide) (by decide)).trans source,
      (congrArg (fun k => k.qualified.contains src) st).trans (qualifies_contains s.hub src), last, congrArg StKept.track st, congrArg StKept.ltc st,
      congrArg StKept.segs st, ?_⟩
    rintro u rfl
    have shown := utcOffset_takeUtc
      ((Hub.setNum { s.hub.qualifies src with time := { (s.hub.qualifies src).time with track := rate } } Obj.syncState (timeCode src)).setNum
        Obj.timeSource (timeCode src)) u
    have known := (objects Obj.utcOffsetKnown (by decide) (by decide)).trans shown.2
    exact ⟨(objects _ (by decide) (by decide)).trans shown.1, congrArg (· != 0) known⟩
  case noted =>
    intro s src offset rate utc holds unlisted
    refine ⟨s.withHub (s.hub.qualifies src), ?_, rfl, qualifies_contains s.hub src, rfl⟩
    exact congrArg (fun h => Host.Outcome.next (s.withHub h)) (timeSourceQualified_unlisted holds unlisted offset rate utc)
  case lost =>
    intro s src offset rate utc only used
    have eq := timeSourceLost_only only used offset rate utc
    have silent := st_ringSilent s.hub (src == .ring)
    have tally := num_ringSilent s.hub (src == .ring) (k := Obj.sourceLossTally) (by decide) (by decide)
    revert eq silent tally
    generalize s.hub.when (src == .ring) Hub.masterSilent = g
    intro eq silent tally
    have st := st_holdsOver (g.notesLoss src)
    rw [now_of_ltc (h := s.hub) (by rw [st_notesLoss, silent]), stAt_of_segs (h := s.hub) (by rw [st_notesLoss, silent]), st_notesLoss, silent] at st
    have objects := fun k => num_holdsOver (g.notesLoss src) (k := k)
    refine ⟨s.withHub (g.notesLoss src).holdsOver, congrArg (fun h => Host.Outcome.next (s.withHub h)) eq, rfl,
      objects Obj.syncState (by decide) (by decide), objects Obj.timeSource (by decide) (by decide), ?_, congrArg StKept.slew st,
      (objects Obj.sourceLossTally (by decide) (by decide)).trans ((tally_notesLoss g src).trans (by rw [tally])), congrArg StKept.segs st⟩
    refine (congrArg StKept.qualified st).trans ?_
    show s.hub.time.qualified.filter (· != src) = []
    rw [only]
    simp
  case never => exact congrArg (fun h => Host.Outcome.next (s.withHub h)) (if_pos never)
  case update =>
    intro rest lim corr
    have moved := timeMapUpdate_locked lower upper rate
    have st : (s.hub.timeMapUpdate rate).st = { (s.hub.measures rate).st with
        segs := ({ l0 := s.hub.now, st0 := s.hub.stAt s.hub.now, rate := rate + corr } :: s.hub.st.segs).take 64,
        slewCorr := rate + corr - rate, slewAt := s.hub.now } := by
      rw [moved, st_trackNominal, st_newSegment]
      rfl
    exact ⟨s.withHub (s.hub.timeMapUpdate rate), rfl, rfl, congrArg StKept.track st, congrArg StKept.lastLocked st, congrArg StKept.slew st,
      congrArg StKept.segs st⟩
end

section
/-!
The phase clock (R50 to R53): it runs on from where it stands at every change of its line, and its source is acquired, locked on and lost by objects and
notices that leave the line alone, but where it follows NOMINAL.
-/
namespace Sys2Proof.Machine

/-- The state after a command that changes the hub alone. -/
theorem next_hub {c : Instr} {s : State} {g : Hub} (e : exec c s = .next (s.withHub g)) :
    ∃ t, exec c s = .next t ∧ t.pending = s.pending ∧ t.hub = g := ⟨_, e, rfl, rfl⟩

/-! ### The line -/

theorem later64_self (a : Nat) : later64 a a = 0 := by
  have turn : (a + 2 ^ 64 - a % 2 ^ 64) % 2 ^ 64 = 0 := by omega
  unfold later64 toSigned
  rw [turn]
  rfl

theorem reached_self (a : Nat) : reached a a = true := by
  unfold reached
  rw [later64_self]
  rfl

theorem phaseAdvance_zero (freq : Nat) : phaseAdvance freq 0 = 0 := by
  simp only [phaseAdvance, Nat.mul_zero, Nat.zero_mul, Nat.zero_div]

theorem ticksBetween_self (a : Nat) : ticksBetween a a = 0 := by
  unfold ticksBetween
  rw [later64_self]
  rfl

/-- On a line the phase is by the segments of ST. -/
theorem phaseOn_of_segs {g h : Hub} (segs : g.time.segs = h.time.segs) (p : PhaseLine) (l : Nat) : g.phaseOn p l = h.phaseOn p l := by
  have nominal (f : Nat) : g.nominalPhaseOf f l = h.nominalPhaseOf f l := by
    unfold Hub.nominalPhaseOf
    rw [stAt_of_segs segs]
  unfold Hub.phaseOn
  split
  · rw [nominal]
  · rfl

/-- The phase is by the lines and the segments of ST. -/
theorem phaseRaw_of_line {g h : Hub} (line : g.phaseLine = h.phaseLine) (past : g.time.phcPast = h.time.phcPast) (segs : g.time.segs = h.time.segs)
    (ltc : g.time.ltc = h.time.ltc) : g.phaseRaw g.now = h.phaseRaw h.now := by
  have now : g.now = h.now := congrArg BitVec.toNat ltc
  have same : g.lineAt h.now = h.lineAt h.now := by
    unfold Hub.lineAt
    rw [line, past]
  unfold Hub.phaseRaw
  rw [now, same, phaseOn_of_segs segs]

theorem phase_candidate (h : Hub) (cand : Nat) :
    Hub.phaseRaw { h with time := { h.time with phcCand := cand } } (Hub.now { h with time := { h.time with phcCand := cand } })
      = h.phaseRaw h.now := phaseRaw_of_line rfl rfl rfl rfl

theorem phase_present (h : Hub) (present : List PhaseSource) (cycles : List Nat) :
    Hub.phaseRaw { h with time := { h.time with present := present, cycles := cycles } }
        (Hub.now { h with time := { h.time with present := present, cycles := cycles } })
      = h.phaseRaw h.now := phaseRaw_of_line rfl rfl rfl rfl

/-- A line stands at its base where it starts. -/
theorem phaseOn_start (h : Hub) {p : PhaseLine} {l : Nat} (start : p.l0 = l) (own : p.nominal = none) : h.phaseOn p l = p.base := by
  unfold Hub.phaseOn
  rw [own, start]
  dsimp only
  rw [if_pos (reached_self l), ticksBetween_self, phaseAdvance_zero, Nat.add_zero]

/-- The line in force is the present one where that starts now. -/
theorem lineAt_start {h : Hub} {l : Nat} (start : h.phaseLine.l0 = l) : h.lineAt l = h.phaseLine := by
  have here : reached l h.phaseLine.l0 = true := by rw [start, reached_self]
  unfold Hub.lineAt
  rw [List.find?_cons_of_pos (p := fun p : PhaseLine => reached l p.l0) here, Option.getD_some]

/-- A clock whose line starts now stands at the line's base. -/
theorem phaseRaw_of_start {h : Hub} (start : h.time.phcL0 = h.now) (own : h.time.phcNominal = none) : h.phaseRaw h.now = h.time.phcBase := by
  unfold Hub.phaseRaw
  rw [lineAt_start start, phaseOn_start h start own]
  rfl

/-- A line that a source's alignment leaves (R53): from now on, at the frequency given, with the phase moved ahead by `d` of 2^-32 cycle. -/
structure Hub.RunsFrom (h g : Hub) (freq d : Nat) : Prop where
  now : g.now = h.now
  start : g.time.phcL0 = g.now
  own : g.time.phcNominal = none
  base : g.time.phcBase = h.phaseRaw h.now + d
  freq : g.time.phcFreq = freq

namespace Hub.RunsFrom
variable {h g k : Hub} {freq d : Nat}

theorem phase (R : h.RunsFrom g freq d) : g.phaseRaw g.now = h.phaseRaw h.now + d := (phaseRaw_of_start R.start R.own).trans R.base

theorem still (R : h.RunsFrom g freq 0) : g.phaseRaw g.now = h.phaseRaw h.now := R.phase.trans (Nat.add_zero _)

theorem rebase (h : Hub) (freq : Nat) : h.RunsFrom (h.rebase freq) freq 0 := ⟨rfl, rfl, rfl, (Nat.add_zero _).symm, rfl⟩

/-- What does not touch the line runs on with it. -/
theorem keep (R : h.RunsFrom g freq d) (ltc : k.time.ltc = g.time.ltc) (l0 : k.time.phcL0 = g.time.phcL0) (nom : k.time.phcNominal = g.time.phcNominal)
    (base : k.time.phcBase = g.time.phcBase) (run : k.time.phcFreq = g.time.phcFreq) : h.RunsFrom k freq d := by
  have same : k.now = g.now := congrArg BitVec.toNat ltc
  exact ⟨same.trans R.now, l0.trans (R.start.trans same.symm), nom.trans R.own, base.trans R.base, run.trans R.freq⟩

/-- Objects are not the line. -/
theorem setNum (R : h.RunsFrom g freq d) (o n : Nat) : h.RunsFrom (g.setNum o n) freq d := R.keep rfl rfl rfl rfl rfl

/-- The end of a run at half frequency leaves the line. -/
theorem endsSlow (R : h.RunsFrom g freq d) : h.RunsFrom { g with time := { g.time with phcSlow := 0 } } freq d := R.keep rfl rfl rfl rfl rfl

end Hub.RunsFrom

/-! ### The sources -/

/-- From `h` to `g` the list of phase sources and those present stay. -/
def Hub.SameSources (h g : Hub) : Prop := g.time.present = h.time.present ∧ g.num Obj.phcSourceList = h.num Obj.phcSourceList

theorem Hub.SameSources.trans {h g k : Hub} (H : h.SameSources g) (G : g.SameSources k) : h.SameSources k :=
  ⟨G.1.trans H.1, G.2.trans H.2⟩

/-- The best source present is by the list and the sources present. -/
theorem Hub.SameSources.best {h g : Hub} (H : h.SameSources g) : g.bestPhase = h.bestPhase := by
  unfold Hub.bestPhase
  rw [H.1, H.2]

/-- A listed source that is present leaves no list without a best one. -/
theorem bestPhase_isSome {h : Hub} {src : PhaseSource} (listed : (rankIn (h.num Obj.phcSourceList) 4 (phaseCode src)).isSome = true)
    (present : h.time.present.contains src = true) : h.bestPhase.isSome = true := by
  unfold rankIn at listed
  rw [List.findIdx?_isSome] at listed
  obtain ⟨c, named, code⟩ := List.any_eq_true.mp listed
  unfold Hub.bestPhase
  rw [List.find?_isSome]
  refine ⟨c, named, ?_⟩
  have held : phaseCode src ∈ h.time.present.map phaseCode := List.mem_map_of_mem (List.contains_iff_mem.mp present)
  rw [beq_iff_eq.mp code]
  simp [held]

/-- A clock that is not LOCKED on NOMINAL is not moved with ST (R54). -/
theorem trackNominal_other {h : Hub} (other : h.num Obj.phcSource ≠ 3) : h.trackNominal = h := if_neg fun H => other H.2.1

/-- A clock that runs at half frequency is not moved with ST. -/
theorem trackNominal_slow {h : Hub} (slow : h.time.phcSlow ≠ 0) : h.trackNominal = h := if_neg fun H => slow H.2.2.1

/-- A source locked on, before the clock that follows NOMINAL is moved with ST. -/
def Hub.locksOn (h : Hub) (src : Nat) : Hub :=
  let h := (h.setNum Obj.phcState phcLocked).setNum Obj.phcSource src
  let h := (h.candidateFrom src).setInt Obj.rocof (h.sourceRocof src)
  h.notice N.phcSourceChanged fidTime [src, h.num Obj.lastPhaseStep]

theorem num_locksOn (h : Hub) (src : Nat) {k : Nat} (roc : k ≠ Obj.rocof) (page : k / 256 ≠ 0x193F ∧ k / 256 ≠ 0x1200 ∧ k ≠ Obj.inlineCheckFailures) :
    (h.locksOn src).num k = if k = Obj.phcSource then src else if k = Obj.phcState then phcLocked else h.num k := by
  unfold Hub.locksOn
  dsimp only
  rw [Hub.num_notice _ _ _ _ _ page.1 page.2.1 page.2.2]
  unfold Hub.setInt
  rw [Hub.num_setNum, if_neg roc]
  exact (Hub.num_setNum _ _ _ _).trans (by rw [Hub.num_setNum])

theorem time_locksOn (h : Hub) (src : Nat) : ∃ cand, (h.locksOn src).time = { h.time with phcCand := cand } :=
  ⟨_, Hub.notice_time _ _ _ _⟩

/-- The objects once the clock is LOCKED on a source. -/
theorem num_phaseLocked (h : Hub) (src : Nat) {k : Nat} (roc : k ≠ Obj.rocof) (page : k / 256 ≠ 0x193F ∧ k / 256 ≠ 0x1200 ∧ k ≠ Obj.inlineCheckFailures) :
    (h.phaseLocked src).num k = if k = Obj.phcSource then src else if k = Obj.phcState then phcLocked else h.num k :=
  (num_trackNominal (h.locksOn src) k).trans (num_locksOn h src roc page)

/-- On another source than NOMINAL the clock runs on as it does. -/
theorem time_phaseLocked (h : Hub) {src : Nat} (other : src ≠ 3) : ∃ cand, (h.phaseLocked src).time = { h.time with phcCand := cand } := by
  have source : (h.locksOn src).num Obj.phcSource ≠ 3 := by
    rw [num_locksOn _ _ (by decide) (by decide), if_pos rfl]
    exact other
  obtain ⟨cand, time⟩ := time_locksOn h src
  exact ⟨cand, (congrArg Hub.time (trackNominal_other source)).trans time⟩

/-- A run of the clock is kept as it is LOCKED on another source than NOMINAL. -/
theorem Hub.RunsFrom.phaseLocked {h g : Hub} {freq d src : Nat} (R : h.RunsFrom g freq d) (other : src ≠ 3) : h.RunsFrom (g.phaseLocked src) freq d := by
  obtain ⟨cand, time⟩ := time_phaseLocked g other
  exact R.keep (by rw [time]) (by rw [time]) (by rw [time]) (by rw [time]) (by rw [time])

/-! ### Alignment -/

/-- The difference of the source's phase from the clock's, by the shortest way. -/
def Hub.phaseGap (h : Hub) (src fraction freq : Nat) : Int := shortestWay (h.phaseRaw h.now) (h.sourcePhase src fraction freq).1

/-- The hub as an alignment begins: its step is noted (R53). -/
def Hub.notesStep (h : Hub) (d : Int) : Hub := h.setInt Obj.lastPhaseStep (millideg d)

/-- The hub with its clock stepped ahead, at a frequency (R53). -/
def Hub.stepsAhead (h : Hub) (freq d : Nat) : Hub :=
  let g := h.rebase freq
  { g with time := { g.time with phcBase := g.time.phcBase + d } }

/-- The hub with its clock at half the frequency of a source that it has run ahead of (R53). -/
def Hub.slowsTo (h : Hub) (src freq d : Nat) : Hub :=
  let g := h.rebase (freq / 2)
  { g with time := { g.time with phcSlow := d, phcSlowSrc := src, phcSlowFreq := freq } }

theorem alignBy_forward (h : Hub) {d : Int} (ahead : 0 ≤ d) (src freq : Nat) :
    h.alignBy d src freq = (true, (h.notesStep d).stepsAhead freq d.toNat) := if_pos ahead

theorem alignBy_backward (h : Hub) {d : Int} (behind : d < 0) (src freq : Nat) :
    h.alignBy d src freq = (false, (h.notesStep d).slowsTo src freq d.natAbs) := if_neg (Int.not_le.mpr behind)

/-- An alignment notes its step, and leaves every other object. -/
theorem num_alignBy (h : Hub) (d : Int) (src freq k : Nat) :
    (h.alignBy d src freq).2.num k = if k = Obj.lastPhaseStep then ofSigned 32 (millideg d) else h.num k := by
  have noted : (h.notesStep d).num k = if k = Obj.lastPhaseStep then ofSigned 32 (millideg d) else h.num k := Hub.num_setNum _ _ _ _
  rcases Int.lt_or_le d 0 with behind | ahead
  · rw [alignBy_backward h behind]
    exact noted
  · rw [alignBy_forward h ahead]
    exact noted

/-- A run that starts as the step of an alignment is noted. -/
theorem Hub.RunsFrom.noted {h g : Hub} {gap : Int} {freq d : Nat} (R : (h.notesStep gap).RunsFrom g freq d) : h.RunsFrom g freq d := by
  have phase : (h.notesStep gap).phaseRaw (h.notesStep gap).now = h.phaseRaw h.now := phaseRaw_of_line rfl rfl rfl rfl
  exact ⟨R.now, R.start, R.own, R.base.trans (congrArg (· + d) phase), R.freq⟩

theorem Hub.RunsFrom.stepsAhead (h : Hub) (freq d : Nat) : h.RunsFrom (h.stepsAhead freq d) freq d := ⟨rfl, rfl, rfl, rfl, rfl⟩

theorem Hub.RunsFrom.slowsTo (h : Hub) (src freq d : Nat) : h.RunsFrom (h.slowsTo src freq d) (freq / 2) 0 :=
  (rebase h (freq / 2)).keep rfl rfl rfl rfl rfl

/-! ### What the sources do -/

/-- A run at half frequency goes on through a lock. -/
theorem slow_phaseLocked (h : Hub) (src : Nat) : (h.phaseLocked src).time.phcSlow = h.time.phcSlow := by
  obtain ⟨cand, time⟩ := time_locksOn h src
  obtain ⟨_, _, _, _, _, _, eq⟩ := LineMoves.trackNominal (h.locksOn src)
  have slow : (h.phaseLocked src).time.phcSlow = (h.locksOn src).time.phcSlow := congrArg (fun g => g.time.phcSlow) eq
  exact slow.trans (by rw [time])

theorem sources_phaseLocked (h : Hub) (src : Nat) : h.SameSources (h.phaseLocked src) := by
  obtain ⟨cand, time⟩ := time_locksOn h src
  obtain ⟨_, _, _, _, _, _, eq⟩ := LineMoves.trackNominal (h.locksOn src)
  have present : (h.phaseLocked src).time.present = (h.locksOn src).time.present := congrArg (fun g => g.time.present) eq
  exact ⟨present.trans (by rw [time]), num_phaseLocked h src (by decide) (by decide)⟩

theorem sources_alignBy (h : Hub) (d : Int) (src freq : Nat) : h.SameSources (h.alignBy d src freq).2 := by
  refine ⟨?_, num_alignBy h d src freq _⟩
  rcases Int.lt_or_le d 0 with behind | ahead
  · rw [alignBy_backward h behind]
    rfl
  · rw [alignBy_forward h ahead]
    rfl

/-- The hub as it turns to a source to acquire (R52). -/
def Hub.turnsToPhase (h : Hub) (src : Nat) : Hub :=
  (((h.setNum Obj.phcState phcAcquiring).setNum Obj.phcSource src).candidateFrom src).setInt Obj.rocof (h.sourceRocof src)

theorem num_turnsToPhase (h : Hub) (src : Nat) {k : Nat} (roc : k ≠ Obj.rocof) :
    (h.turnsToPhase src).num k = if k = Obj.phcSource then src else if k = Obj.phcState then phcAcquiring else h.num k :=
  (Hub.num_setNum _ _ _ _).trans ((if_neg roc).trans ((Hub.num_setNum _ _ _ _).trans (by rw [Hub.num_setNum])))

theorem acquire_eq (h : Hub) (src : Nat) : h.acquire src = if src = 3 then
      (if ((h.turnsToPhase src).alignPhase 3 0 0).1 = true then ((h.turnsToPhase src).alignPhase 3 0 0).2.phaseLocked 3
      else ((h.turnsToPhase src).alignPhase 3 0 0).2)
    else h.turnsToPhase src := rfl

/-- Whatever the clock acquires, the list and the sources present stay. -/
theorem sources_acquire (h : Hub) (src : Nat) : h.SameSources (h.acquire src) := by
  have turned : h.SameSources (h.turnsToPhase src) := ⟨rfl, num_turnsToPhase h src (by decide)⟩
  have aligned : h.SameSources ((h.turnsToPhase src).alignPhase 3 0 0).2 := turned.trans (sources_alignBy _ _ _ _)
  rw [acquire_eq]
  split
  · split
    · exact aligned.trans (sources_phaseLocked _ _)
    · exact aligned
  · exact turned

/-- Another source than NOMINAL is acquired by objects alone (R52). -/
theorem acquire_other (h : Hub) {src : Nat} (other : src ≠ 3) :
    (h.acquire src).num Obj.phcState = phcAcquiring ∧ (h.acquire src).num Obj.phcSource = src := by
  have eq : h.acquire src = h.turnsToPhase src := if_neg other
  rw [eq, num_turnsToPhase _ _ (by decide), num_turnsToPhase _ _ (by decide)]
  exact ⟨rfl, rfl⟩

/-- INVALID reads no source, and the clock goes on at a frequency (R52, R53). -/
theorem phaseInvalidAt_reads (h : Hub) (freq : Nat) : (h.phaseInvalidAt freq).num Obj.phcState = phcInvalid
    ∧ (h.phaseInvalidAt freq).num Obj.phcSource = 0 ∧ (h.phaseInvalidAt freq).time.phcFreq = freq := by
  have objects (k : Nat) (page : k / 256 ≠ 0x193F ∧ k / 256 ≠ 0x1200 ∧ k ≠ Obj.inlineCheckFailures) : (h.phaseInvalidAt freq).num k
      = ((((h.rebase freq).setNum Obj.phcState phcInvalid).setNum Obj.phcSource 0).setNum Obj.rocof 0).num k :=
    Hub.num_notice _ _ _ _ _ page.1 page.2.1 page.2.2
  refine ⟨(objects _ (by decide)).trans ?_, (objects _ (by decide)).trans ?_, congrArg (fun t => t.phcFreq) (Hub.notice_time _ _ _ _)⟩
  · rw [Hub.num_setNum, if_neg (by decide), Hub.num_setNum, if_neg (by decide), Hub.num_setNum_self]
  · rw [Hub.num_setNum, if_neg (by decide), Hub.num_setNum_self]

/-- The hub with a phase source among those present. -/
def Hub.presents (h : Hub) (src : PhaseSource) : Hub :=
  { h with time := { h.time with present := if h.time.present.contains src then h.time.present else src :: h.time.present } }

theorem presents_contains (h : Hub) (src : PhaseSource) : (h.presents src).time.present.contains src = true := by
  unfold Hub.presents
  dsimp only
  split
  next held => exact held
  next => simp

/-- In INVALID the best source is acquired as a listed one becomes present (R52). -/
theorem phcSourcePresent_invalid {h : Hub} {src : PhaseSource} (holds : h.phaseHolds src = true) (invalid : h.num Obj.phcState = phcInvalid)
    (listed : (rankIn (h.num Obj.phcSourceList) 4 (phaseCode src)).isSome = true) :
    h.phcSourcePresent src = (h.presents src).acquire ((h.presents src).bestPhase.getD (phaseCode src)) := by
  unfold Hub.phcSourcePresent
  rw [if_neg (by simp [holds])]
  dsimp only
  split
  next rank => exact absurd (rank ▸ listed) (by simp)
  next => exact if_pos invalid

/-- The hub once a phase source is present no more: no run toward it, and no candidate of it (R52). -/
def Hub.losesPhase (h : Hub) (src : PhaseSource) : Hub :=
  let g := Hub.endSlowRun { h with time := { h.time with
    present := h.time.present.filter (· != src), cycles := if src = PhaseSource.localMains then [] else h.time.cycles } } (phaseCode src)
  g.when (g.time.phcCand == phaseCode src) (fun h => h.candidateFrom (h.num Obj.phcSource))

/-- A run toward a source that is lost ends in the line alone, and the phase stays where it is (R52). -/
theorem endSlowRun_eq (h : Hub) (code : Nat) : h.endSlowRun code = h
    ∨ ∃ freq, h.endSlowRun code = (let g := h.rebase freq; { g with time := { g.time with phcSlow := 0 } }) := by
  unfold Hub.endSlowRun
  split
  · exact .inl rfl
  · exact .inr ⟨_, rfl⟩

theorem endSlowRun_phase (h : Hub) (code : Nat) : (h.endSlowRun code).phaseRaw (h.endSlowRun code).now = h.phaseRaw h.now := by
  rcases endSlowRun_eq h code with eq | ⟨freq, eq⟩
  · rw [eq]
  · rw [eq]
    have run : h.RunsFrom (let g := h.rebase freq; { g with time := { g.time with phcSlow := 0 } }) freq 0 :=
      (Hub.RunsFrom.rebase h freq).keep rfl rfl rfl rfl rfl
    exact run.still

theorem num_endSlowRun (h : Hub) (code k : Nat) : (h.endSlowRun code).num k = h.num k := by
  rcases endSlowRun_eq h code with eq | ⟨freq, eq⟩
  · rw [eq]
  · rw [eq]
    rfl

theorem endSlowRun_present (h : Hub) (code : Nat) : (h.endSlowRun code).time.present = h.time.present := by
  rcases endSlowRun_eq h code with eq | ⟨freq, eq⟩
  · rw [eq]
  · rw [eq]
    rfl

/-- The candidate may be another one. -/
theorem when_candidate (h : Hub) (c : Bool) : ∃ cand,
    h.when c (fun h => h.candidateFrom (h.num Obj.phcSource)) = { h with time := { h.time with phcCand := cand } } := by
  unfold Hub.when
  split
  · exact ⟨_, rfl⟩
  · exact ⟨h.time.phcCand, rfl⟩

/-- What is lost leaves the objects alone. -/
theorem num_losesPhase (h : Hub) (src : PhaseSource) (k : Nat) : (h.losesPhase src).num k = h.num k := by
  unfold Hub.losesPhase
  dsimp only
  obtain ⟨cand, eq⟩ := when_candidate (Hub.endSlowRun _ (phaseCode src)) _
  rw [eq]
  exact num_endSlowRun _ _ k

theorem losesPhase_present (h : Hub) (src : PhaseSource) : (h.losesPhase src).time.present.contains src = false := by
  unfold Hub.losesPhase
  dsimp only
  obtain ⟨cand, eq⟩ := when_candidate (Hub.endSlowRun _ (phaseCode src)) _
  rw [eq]
  dsimp only
  rw [endSlowRun_present]
  simp

/-- The clock goes on from the phase where it is (R52). -/
theorem losesPhase_phase (h : Hub) (src : PhaseSource) : (h.losesPhase src).phaseRaw (h.losesPhase src).now = h.phaseRaw h.now := by
  unfold Hub.losesPhase
  dsimp only
  obtain ⟨cand, eq⟩ := when_candidate (Hub.endSlowRun _ (phaseCode src)) _
  rw [eq]
  rw [phase_candidate, endSlowRun_phase, phase_present]

/-- COASTING from now on, at the last frequency of the source (R52). -/
def Hub.coasts (h : Hub) (code : Nat) : Hub :=
  (((h.rebase h.time.phcFreq).setNum Obj.phcState phcCoasting).setNum Obj.rocof 0).notice N.phcCoasting fidTime [code, argSat h.time.phcFreq]

theorem time_coasts (h : Hub) (code : Nat) : (h.coasts code).time = (h.rebase h.time.phcFreq).time := Hub.notice_time _ _ _ _

theorem num_coasts (h : Hub) (code : Nat) {k : Nat} (page : k / 256 ≠ 0x193F ∧ k / 256 ≠ 0x1200 ∧ k ≠ Obj.inlineCheckFailures) :
    (h.coasts code).num k = if k = Obj.rocof then 0 else if k = Obj.phcState then phcCoasting else h.num k :=
  (Hub.num_notice _ _ _ _ _ page.1 page.2.1 page.2.2).trans ((Hub.num_setNum _ _ _ _).trans (by rw [Hub.num_setNum]; rfl))

theorem coasts_phase (h : Hub) (code : Nat) : (h.coasts code).phaseRaw (h.coasts code).now = h.phaseRaw h.now := by
  have time := time_coasts h code
  have run : h.RunsFrom (h.coasts code) h.time.phcFreq 0 :=
    (Hub.RunsFrom.rebase h h.time.phcFreq).keep (by rw [time]) (by rw [time]) (by rw [time]) (by rw [time]) (by rw [time])
  exact run.still

theorem time_phaseInvalid (h : Hub) (freq : Nat) : (h.phaseInvalidAt freq).time = { (h.rebase freq).time with phcSlow := 0, phcCand := 0 } :=
  Hub.notice_time _ _ _ _

/-- The loss of the source in use (R52). -/
theorem phcSourceLoss_used {h : Hub} {src : PhaseSource} (real : src ≠ .nominal) (used : h.num Obj.phcSource = phaseCode src) :
    h.phcSourceLoss src = (let g := h.losesPhase src
      if h.num Obj.phcState = phcLocked then g.coasts (phaseCode src)
      else if h.num Obj.phcState = phcAcquiring then g.phaseInvalidAt (h.num Obj.nominalFrequency * 1000) else g) := by
  have used' : (h.losesPhase src).num Obj.phcSource = phaseCode src := (num_losesPhase h src _).trans used
  unfold Hub.phcSourceLoss
  rw [if_neg real, ← num_losesPhase h src Obj.phcState, ← num_losesPhase h src Obj.nominalFrequency]
  exact if_neg (not_not.mpr used')

theorem phcAlignSlowDone_slow {h : Hub} (slow : h.time.phcSlow ≠ 0) :
    let g := h.rebase h.time.phcSlowFreq
    h.phcAlignSlowDone = Hub.phaseLocked { g with time := { g.time with phcSlow := 0 } } h.time.phcSlowSrc := if_neg slow

section Aligning
variable {h : Hub} {src f fraction freq : Nat} {d : Int}
  (source : h.num Obj.phcSource = src) (gap : h.phaseGap src fraction freq = d) (run : (h.sourcePhase src fraction freq).2 = f)
include source gap run

/-- The clock aligns to the source it acquires, and locks on it once aligned (R52, R53). -/
theorem phcLockAchieved_acquiring (own : h.time.phcCand = 0) (acquiring : h.num Obj.phcState = phcAcquiring) :
    h.phcLockAchieved fraction freq = if (h.alignBy d src f).1 then (h.alignBy d src f).2.phaseLocked src else (h.alignBy d src f).2 := by
  subst source gap run
  unfold Hub.phcLockAchieved
  rw [if_pos (.inr acquiring), if_neg (not_not.mpr own)]
  rfl

/-- A difference above 1° is removed on the same source (R53). -/
theorem phcRealign_far (locked : h.num Obj.phcState = phcLocked) (far : withinDegree d = false) :
    h.phcRealign fraction freq = ((h.alignBy d src f).2.realigned (h.alignBy d src f).1).trackNominal := by
  subst source gap run
  exact if_pos ⟨locked, far⟩

end Aligning

/-- The end of the coast limit with no source present (R52). -/
theorem phcCoastLimit_none {h : Hub} (coasting : h.num Obj.phcState = phcCoasting) (none_ : h.bestPhase = none) :
    h.phcCoastLimit = h.phaseInvalidAt (h.num Obj.nominalFrequency * 1000) := by
  unfold Hub.phcCoastLimit
  rw [if_pos coasting, none_]
  rfl

/-- The end of the coast limit with one present: it is acquired (R52). -/
theorem phcCoastLimit_some {h : Hub} {c : Nat} (coasting : h.num Obj.phcState = phcCoasting) (best : h.bestPhase = some c) :
    h.phcCoastLimit = h.acquire c := by
  unfold Hub.phcCoastLimit
  rw [if_pos coasting, best]

/-- The notice of an alignment that is complete is the only thing it adds. -/
theorem num_realigned (h : Hub) (complete : Bool) {k : Nat} (page : k / 256 ≠ 0x193F ∧ k / 256 ≠ 0x1200 ∧ k ≠ Obj.inlineCheckFailures) :
    (h.realigned complete).num k = h.num k := by
  cases complete with
  | false => rfl
  | true => exact Hub.num_notice _ _ _ _ _ page.1 page.2.1 page.2.2

/-- What an alignment that is notified leaves the objects, tracked to NOMINAL or not. -/
theorem num_realigned_track (h : Hub) (complete : Bool) {k : Nat} (page : k / 256 ≠ 0x193F ∧ k / 256 ≠ 0x1200 ∧ k ≠ Obj.inlineCheckFailures) :
    (h.realigned complete).trackNominal.num k = h.num k := (num_trackNominal _ _).trans (num_realigned h complete page)

theorem time_realigned (h : Hub) (complete : Bool) : (h.realigned complete).time = h.time := by
  cases complete with
  | false => rfl
  | true => exact Hub.notice_time _ _ _ _

/-- A run is kept through the notice of an alignment on another source than NOMINAL. -/
theorem Hub.RunsFrom.realigned {h g : Hub} {freq d : Nat} (R : h.RunsFrom g freq d) (complete : Bool) (other : g.num Obj.phcSource ≠ 3) :
    h.RunsFrom (g.realigned complete).trackNominal freq d := by
  have source : (g.realigned complete).num Obj.phcSource ≠ 3 := by
    rw [num_realigned g complete (by decide)]
    exact other
  have time := time_realigned g complete
  rw [trackNominal_other source]
  exact R.keep (by rw [time]) (by rw [time]) (by rw [time]) (by rw [time]) (by rw [time])

/-- A run at half frequency is not moved with ST, nor notified yet. -/
theorem slowsTo_realigned (h : Hub) (src freq : Nat) {d : Nat} (behind : d ≠ 0) :
    ((h.slowsTo src freq d).realigned false).trackNominal = h.slowsTo src freq d := trackNominal_slow behind

theorem slow_slowsTo (h : Hub) (src freq d : Nat) : (h.slowsTo src freq d).time.phcSlow = d := rfl

theorem num_stepsAhead (h : Hub) (freq d k : Nat) : (h.stepsAhead freq d).num k = h.num k := rfl

theorem num_slowsTo (h : Hub) (src freq d k : Nat) : (h.slowsTo src freq d).num k = h.num k := rfl

theorem num_notesStep (h : Hub) (d : Int) (k : Nat) :
    (h.notesStep d).num k = if k = Obj.lastPhaseStep then ofSigned 32 (millideg d) else h.num k := Hub.num_setNum _ _ _ _

/-- A clock that follows a source runs on at the source's frequency, and at most a trim besides (R53). -/
theorem followPhase_eq (h : Hub) (fraction freq : Nat) :
    ∃ trim, h.followPhase fraction freq = (let g := h.rebase freq; { g with time := { g.time with phcTrim := trim } }) := by
  unfold Hub.followPhase
  generalize shortestWay (h.phaseRaw h.now) fraction = d
  generalize h.rebase freq = g
  dsimp only
  split
  · exact ⟨_, rfl⟩
  · exact ⟨g.time.phcTrim, rfl⟩

theorem Hub.RunsFrom.followPhase (h : Hub) (fraction freq : Nat) : h.RunsFrom (h.followPhase fraction freq) freq 0 := by
  obtain ⟨trim, eq⟩ := followPhase_eq h fraction freq
  rw [eq]
  exact (rebase h freq).keep rfl rfl rfl rfl rfl

theorem num_followPhase (h : Hub) (fraction freq k : Nat) : (h.followPhase fraction freq).num k = h.num k := by
  obtain ⟨trim, eq⟩ := followPhase_eq h fraction freq
  rw [eq]
  rfl

theorem cycles_followPhase (h : Hub) (fraction freq : Nat) : (h.followPhase fraction freq).time.cycles = h.time.cycles := by
  obtain ⟨trim, eq⟩ := followPhase_eq h fraction freq
  rw [eq]
  rfl

/-- The hub as a cycle of the mains ends: its frequency and amplitude are noted (R50). -/
def Hub.notesCycle (h : Hub) (freq amplitude : Nat) : Hub :=
  Hub.setNum { h with time := { h.time with cycles := (freq :: h.time.cycles).take 8 } } Obj.amplitude (amplitude % 65536)

theorem notesCycle_phase (h : Hub) (freq amplitude : Nat) :
    (h.notesCycle freq amplitude).phaseRaw (h.notesCycle freq amplitude).now = h.phaseRaw h.now := phaseRaw_of_line rfl rfl rfl rfl

/-- LOCKED on LOCAL the clock follows each cycle (R53). -/
theorem mainsZeroCrossing_followed {h : Hub} (mains : h.num Obj.phcSource = 1) (locked : h.num Obj.phcState = phcLocked) (run : h.time.phcSlow = 0)
    (freq amplitude : Nat) : ∃ fraction roc,
      h.mainsZeroCrossing freq amplitude = ((h.notesCycle freq amplitude).followPhase fraction freq).setNum Obj.rocof roc := by
  have source : (h.notesCycle freq amplitude).num Obj.phcSource = 1 := (Hub.num_setNum _ _ _ _).trans mains
  have state : (h.notesCycle freq amplitude).num Obj.phcState = phcLocked := (Hub.num_setNum _ _ _ _).trans locked
  refine ⟨((h.notesCycle freq amplitude).sourcePhase 1 0 freq).1, ofSigned 32
    (((h.notesCycle freq amplitude).followPhase ((h.notesCycle freq amplitude).sourcePhase 1 0 freq).1 freq).sourceRocof 1), ?_⟩
  exact (if_pos ⟨source, .inl state⟩).trans (congrArg (fun g => Hub.setInt g Obj.rocof (g.sourceRocof 1)) (if_pos ⟨state, run⟩))

/-- What a cycle that the clock follows leaves (R50, R53). -/
theorem mainsZeroCrossing_reads {h : Hub} (mains : h.num Obj.phcSource = 1) (locked : h.num Obj.phcState = phcLocked) (run : h.time.phcSlow = 0)
    (freq amplitude : Nat) :
    let g := h.mainsZeroCrossing freq amplitude
    g.num Obj.amplitude = amplitude % 65536 ∧ g.time.cycles = (freq :: h.time.cycles).take 8 ∧ g.time.phcFreq = freq
      ∧ g.phaseRaw g.now = h.phaseRaw h.now := by
  obtain ⟨fraction, roc, eq⟩ := mainsZeroCrossing_followed mains locked run freq amplitude
  have phase := notesCycle_phase h freq amplitude
  have noted : (h.notesCycle freq amplitude).num Obj.amplitude = amplitude % 65536 := Hub.num_setNum_self _ _ _
  have cycles : (h.notesCycle freq amplitude).time.cycles = (freq :: h.time.cycles).take 8 := rfl
  rw [eq]
  revert phase noted cycles
  generalize h.notesCycle freq amplitude = c
  intro phase noted cycles
  have run := (Hub.RunsFrom.followPhase c fraction freq).setNum Obj.rocof roc
  refine ⟨?_, ?_, run.freq, run.still.trans phase⟩
  · rw [Hub.num_setNum, if_neg (by decide), num_followPhase, noted]
  · rw [Hub.setNum_time, cycles_followPhase, cycles]

end Sys2Proof.Machine

open Sys2Proof Sys2Proof.Machine

/-- Settles O19: the sources move the objects, and every line begins at the phase where the clock stands, or ahead of it by what it aligns. -/
theorem phaseClockFollowsItsSources : Obligations.PhaseClockFollowsItsSources := by
  unfold Obligations.PhaseClockFollowsItsSources
  refine ⟨?present, ?lost, ?align, ?slowDone, ?coast, ?crossing⟩
  case present =>
    intro s src real holds invalid listed
    have best := bestPhase_isSome (h := s.hub.presents src) listed (presents_contains s.hub src)
    have same := sources_acquire (s.hub.presents src) ((s.hub.presents src).bestPhase.getD (phaseCode src))
    refine ⟨s.withHub ((s.hub.presents src).acquire ((s.hub.presents src).bestPhase.getD (phaseCode src))),
      congrArg (fun h => Host.Outcome.next (s.withHub h)) (phcSourcePresent_invalid holds invalid listed), rfl,
      (congrArg (fun l => l.contains src) same.1).trans (presents_contains s.hub src), (congrArg Option.isSome same.best).trans best,
      fun c eq other => ?_⟩
    have chosen : (s.hub.presents src).bestPhase.getD (phaseCode src) = c := congrArg (fun b => b.getD (phaseCode src)) (same.best.symm.trans eq)
    show ((s.hub.presents src).acquire ((s.hub.presents src).bestPhase.getD (phaseCode src))).num _ = _ ∧ _
    rw [chosen]
    exact acquire_other _ other
  case lost =>
    intro s src real used
    have eq := phcSourceLoss_used real used
    have gone := losesPhase_present s.hub src
    have phase := losesPhase_phase s.hub src
    have objects := num_losesPhase s.hub src
    revert eq gone phase objects
    generalize s.hub.losesPhase src = g
    intro eq gone phase objects
    refine ⟨s.withHub (s.hub.phcSourceLoss src), rfl, rfl, ?_, fun locked => ?_, fun acquiring => ?_⟩
    · show (s.hub.phcSourceLoss src).time.present.contains src = false
      rw [eq]
      dsimp only
      split
      · rw [time_coasts]
        exact gone
      · split
        · rw [time_phaseInvalid]
          exact gone
        · exact gone
    · have coasting : s.hub.phcSourceLoss src = g.coasts (phaseCode src) := eq.trans (if_pos locked)
      show (s.hub.phcSourceLoss src).num _ = _ ∧ (s.hub.phcSourceLoss src).num _ = _ ∧ (s.hub.phcSourceLoss src).num _ = _
        ∧ (s.hub.phcSourceLoss src).phaseRaw (s.hub.phcSourceLoss src).now = _
      rw [coasting, num_coasts _ _ (by decide), num_coasts _ _ (by decide), num_coasts _ _ (by decide), coasts_phase, phase]
      exact ⟨rfl, rfl, (objects Obj.phcSource).trans used, rfl⟩
    · have invalid : s.hub.phcSourceLoss src = g.phaseInvalidAt (s.hub.num Obj.nominalFrequency * 1000) :=
        eq.trans ((if_neg (by rw [acquiring]; decide)).trans (if_pos acquiring))
      show (s.hub.phcSourceLoss src).num _ = _ ∧ (s.hub.phcSourceLoss src).num _ = _ ∧ (s.hub.phcSourceLoss src).time.phcFreq = _
      rw [invalid]
      exact phaseInvalidAt_reads g _
  case align =>
    intro s fraction freq src d f acquiring realigns
    refine ⟨?_, ?_, ?_, ?_, fun near => congrArg (fun h => Host.Outcome.next (s.withHub h)) (if_neg near)⟩
    · rintro ⟨own, state⟩ ahead
      have eq := phcLockAchieved_acquiring (d := d) rfl rfl rfl own state
      rw [alignBy_forward s.hub ahead, if_pos rfl] at eq
      obtain ⟨t, next, rest, hub⟩ := next_hub (c := .phcLockAchieved fraction freq) (congrArg (fun h => Host.Outcome.next (s.withHub h)) eq)
      refine ⟨t, next, rest, ?_⟩
      rw [hub]
      refine ⟨num_phaseLocked _ src (by decide) (by decide), num_phaseLocked _ src (by decide) (by decide), fun other => ?_⟩
      have run := (Hub.RunsFrom.stepsAhead (s.hub.notesStep d) f d.toNat).noted.phaseLocked other
      exact ⟨run.freq, run.phase⟩
    · rintro ⟨own, state⟩ behind
      have eq := phcLockAchieved_acquiring (d := d) rfl rfl rfl own state
      rw [alignBy_backward s.hub behind, if_neg Bool.false_ne_true] at eq
      obtain ⟨t, next, rest, hub⟩ := next_hub (c := .phcLockAchieved fraction freq) (congrArg (fun h => Host.Outcome.next (s.withHub h)) eq)
      refine ⟨t, next, rest, ?_⟩
      have run := (Hub.RunsFrom.slowsTo (s.hub.notesStep d) src f d.natAbs).noted
      rw [hub, num_slowsTo, num_notesStep, slow_slowsTo]
      exact ⟨state, run.freq, rfl, run.still⟩
    · rintro ⟨state, far⟩ ahead
      have eq := phcRealign_far (d := d) rfl rfl rfl state far
      rw [alignBy_forward s.hub ahead] at eq
      obtain ⟨t, next, rest, hub⟩ := next_hub (c := .phcRealign fraction freq) (congrArg (fun h => Host.Outcome.next (s.withHub h)) eq)
      refine ⟨t, next, rest, ?_⟩
      rw [hub, num_realigned_track _ _ (by decide), num_realigned_track _ _ (by decide), num_stepsAhead, num_stepsAhead, num_notesStep,
        num_notesStep, if_pos rfl]
      refine ⟨state, rfl, fun other => ?_⟩
      have source : ((s.hub.notesStep d).stepsAhead f d.toNat).num Obj.phcSource ≠ 3 := by
        rw [num_stepsAhead, num_notesStep, if_neg (by decide)]
        exact other
      have run := (Hub.RunsFrom.stepsAhead (s.hub.notesStep d) f d.toNat).noted.realigned true source
      exact ⟨run.phase, run.freq⟩
    · rintro ⟨state, far⟩ behind
      have eq := phcRealign_far (d := d) rfl rfl rfl state far
      rw [alignBy_backward s.hub behind, slowsTo_realigned _ _ _ (Int.natAbs_ne_zero.mpr behind.ne)] at eq
      obtain ⟨t, next, rest, hub⟩ := next_hub (c := .phcRealign fraction freq) (congrArg (fun h => Host.Outcome.next (s.withHub h)) eq)
      refine ⟨t, next, rest, ?_⟩
      have run := Hub.RunsFrom.slowsTo (s.hub.notesStep d) src f d.natAbs
      rw [hub, num_slowsTo, num_slowsTo, num_notesStep, num_notesStep, if_pos rfl, slow_slowsTo]
      exact ⟨state, rfl, rfl, run.freq⟩
  case slowDone =>
    intro s slow
    refine ⟨_, congrArg (fun h => Host.Outcome.next (s.withHub h)) (phcAlignSlowDone_slow slow), rfl, slow_phaseLocked _ _,
      num_phaseLocked _ _ (by decide) (by decide), num_phaseLocked _ _ (by decide) (by decide), fun other => ?_⟩
    have run := ((Hub.RunsFrom.rebase s.hub s.hub.time.phcSlowFreq).endsSlow).phaseLocked other
    exact ⟨run.freq, run.still⟩
  case coast =>
    intro s coasting
    refine ⟨s.withHub s.hub.phcCoastLimit, rfl, rfl, fun none_ => ?_, fun c best other => ?_⟩
    · show s.hub.phcCoastLimit.num _ = _ ∧ s.hub.phcCoastLimit.num _ = _
      rw [phcCoastLimit_none coasting none_]
      obtain ⟨state, source, _⟩ := phaseInvalidAt_reads s.hub (s.hub.num Obj.nominalFrequency * 1000)
      exact ⟨state, source⟩
    · show s.hub.phcCoastLimit.num _ = _ ∧ s.hub.phcCoastLimit.num _ = _
      rw [phcCoastLimit_some coasting best]
      exact acquire_other _ other
  case crossing =>
    intro s freq amplitude mains locked run
    exact ⟨_, rfl, rfl, mainsZeroCrossing_reads mains locked run freq amplitude⟩
end

section
/-!
The ring's TIME and PHASE frames (R51, R104, R119 to R123): what a received frame counts and leaves, what a frame sent adds to its lane, and what the master
followed is.
-/
namespace Sys2Proof.Machine

/-! ### Reception -/

/-- A counter of the ring interface or of a ring port. -/
abbrev ringCounter (k : Nat) : Prop := 0x160110 ≤ k ∧ k < 0x160200 ∨ 0x160207 ≤ k ∧ k < 0x160300 ∨ 0x160307 ≤ k ∧ k < 0x160400

/-- From `h` to `g` the time unit stands, and so does every object but the ring's counters. -/
structure Hub.Counts (h g : Hub) : Prop where
  time : g.time = h.time
  obj : ∀ k, ¬ ringCounter k → g.obj k = h.obj k

namespace Hub.Counts
variable {h g k : Hub}

theorem refl (h : Hub) : h.Counts h := ⟨rfl, fun _ _ => rfl⟩

theorem trans (H : h.Counts g) (G : g.Counts k) : h.Counts k :=
  ⟨G.time.trans H.time, fun o apart => (G.obj o apart).trans (H.obj o apart)⟩

/-- Nothing but the ring's own state changes. -/
theorem ring (time : g.time = h.time) (dict : g.dict = h.dict) : h.Counts g :=
  ⟨time, fun o _ => congrArg (fun d => SMap.get dictDefault d o) dict⟩

theorem count (h : Hub) {c : Nat} (counter : ringCounter c) : h.Counts (h.count c) :=
  ⟨rfl, fun o apart => (Hub.obj_setObj h c o _).trans (if_neg (ne_of_mem_of_not_mem (s := {k | ringCounter k}) counter apart).symm)⟩

theorem num (H : h.Counts g) {o : Nat} (apart : ¬ ringCounter o) : g.num o = h.num o := congrArg Val.nat (H.obj o apart)

theorem now (H : h.Counts g) : g.now = h.now := congrArg (fun t => t.ltc.toNat) H.time

theorem portIx_cases (west : Bool) : portIx west = 0 ∨ portIx west = 1 := by cases west <;> decide

/-- A counter of a ring port. -/
theorem ofPort (west : Bool) {c : Nat} (seventh : 7 ≤ c) (low : c < 0x100) : ringCounter (0x160200 + c + portIx west * 256) := by
  have port := portIx_cases west
  unfold ringCounter
  omega

theorem portUp (H : h.Counts g) (west : Bool) : g.portUp west = h.portUp west := by
  unfold Hub.portUp
  rw [H.num]
  have port := portIx_cases west
  unfold ringCounter Obj.rportLinkState
  omega

theorem frameArrives (h : Hub) (west : Bool) (f : RingFrame) : h.Counts (h.frameArrives west f).2 := by
  have arrived : h.Counts (h.count (Obj.rportFramesRx (portIx west))) := count h (ofPort west (c := 7) (by omega) (by omega))
  unfold Hub.frameArrives
  dsimp only
  split
  · exact refl h
  · split
    · exact arrived.trans (count _ (ofPort west (c := 0xC) (by omega) (by omega)))
    · split
      · exact arrived
      · refine arrived.trans ?_
        unfold Hub.countCrc
        split
        · exact refl _
        · exact count _ (ofPort west (c := 0xB) (by omega) (by omega))
        · exact count _ (ofPort west (c := 0xA) (by omega) (by omega))

theorem setLane (h : Hub) (west : Bool) (l : Lane) : h.Counts (h.setLane west l) := ring (Hub.setLane_time h west l) (Hub.setLane_dict h west l)

theorem unreachable (h : Hub) : h.Counts (h.count Obj.unreachableDrops) := count h (.inl (by decide))

theorem transitOut (h : Hub) (out : Bool) (f : RingFrame) : h.Counts (h.transitOut out f) := by
  unfold Hub.transitOut
  split
  · unfold Hub.transit
    dsimp only
    split
    · exact setLane _ _ _
    · exact setLane _ _ _
  · exact unreachable h

theorem passOn (h : Hub) (west bad : Bool) (f : RingFrame) : h.Counts (h.passOn west bad f) := by
  unfold Hub.passOn
  dsimp only
  split
  · exact refl h
  · split
    · exact count h (ofPort west (c := 0x10) (by omega) (by omega))
    · refine trans ?_ (transitOut _ _ _)
      unfold Hub.when
      split
      · exact count h (ofPort west (c := 9) (by omega) (by omega))
      · exact refl h

theorem windowPass (h : Hub) (f : RingFrame) : h.Counts (h.windowPass f).2 := by
  unfold Hub.windowPass
  split
  · exact ring rfl rfl
  · exact count h (.inl (by decide))
  · exact count h (.inl (by decide))

theorem receiveStamped (h : Hub) (west : Bool) (f : RingFrame) : h.Counts (h.receiveStamped west f).2 := by
  have arrived := frameArrives h west f
  unfold Hub.receiveStamped
  dsimp only
  split
  · exact arrived
  · split
    · exact arrived.trans ((passOn _ _ _ _).trans (windowPass _ _))
    · exact arrived.trans (passOn _ _ _ _)

theorem neighbourFrame (h : Hub) (west : Bool) (f : RingFrame) (subtype : Nat) : h.Counts (h.neighbourFrame west f subtype).2 := by
  have arrived := frameArrives h west f
  unfold Hub.neighbourFrame
  dsimp only
  split
  · exact arrived
  · exact arrived.trans (windowPass _ _)

end Hub.Counts

/-- A stamp is by the time unit and the objects that show its state (R8, R45). -/
theorem Hub.Counts.stamp128At {h g : Hub} (H : h.Counts g) (c : Class) (l frac5 : Nat) : g.stamp128At c l frac5 = h.stamp128At c l frac5 := by
  have st : g.stAt l = h.stAt l := stAt_of_segs (congrArg (fun t => t.segs) H.time) l
  have own : g.timeMark = h.timeMark := by
    unfold Hub.timeMark
    rw [H.now, H.time, H.num (by decide)]
  have mark : g.markAt l = h.markAt l := by
    unfold Hub.markAt
    rw [own, H.time]
  have unc (m : TimeMark) : g.uncertaintyIn m l = h.uncertaintyIn m l := by
    unfold Hub.uncertaintyIn
    rw [H.num (by decide)]
  have uncert : g.uncert c l = h.uncert c l := by
    unfold Hub.uncert
    rw [mark, unc]
  have class_ : g.stampClass c l = h.stampClass c l := by
    unfold Hub.stampClass Hub.mapped
    rw [mark, uncert, H.time]
  unfold Hub.stamp128At
  rw [st, mark, uncert, class_]

/-- A port takes a frame only while it is UP (R93). -/
theorem frameArrives_up {h : Hub} {west : Bool} {f : RingFrame} (taken : (h.frameArrives west f).1 = true) : h.portUp west = true := by
  unfold Hub.frameArrives at taken
  split at taken
  · exact absurd taken Bool.false_ne_true
  next up => exact Bool.of_not_eq_false (not_or.mp up).2

theorem frameArrives_lane (h : Hub) (west w : Bool) (f : RingFrame) : (h.frameArrives west f).2.lane w = h.lane w := by
  unfold Hub.frameArrives
  dsimp only
  split
  · rfl
  · split
    · rfl
    · split
      · rfl
      · unfold Hub.countCrc
        split
        · rfl
        · rfl
        · rfl

theorem windowPass_lane (h : Hub) (f : RingFrame) (w : Bool) : (h.windowPass f).2.lane w = h.lane w := by
  unfold Hub.windowPass
  split
  · rfl
  · rfl
  · rfl

/-- A frame for this hub alone leaves the lanes, and comes by a port that is UP. -/
theorem neighbourFrame_lane (h : Hub) (west w : Bool) (f : RingFrame) (subtype : Nat) : (h.neighbourFrame west f subtype).2.lane w = h.lane w := by
  unfold Hub.neighbourFrame
  dsimp only
  split
  · exact frameArrives_lane h west w f
  · exact (windowPass_lane _ f w).trans (frameArrives_lane h west w f)

theorem neighbourFrame_up {h : Hub} {west : Bool} {f : RingFrame} {subtype : Nat} (taken : (h.neighbourFrame west f subtype).1 = true) :
    h.portUp west = true := by
  unfold Hub.neighbourFrame at taken
  dsimp only at taken
  split at taken
  · exact absurd taken Bool.false_ne_true
  next passes =>
    refine frameArrives_up (f := f) ?_
    revert passes
    cases (h.frameArrives west f).1
    · simp
    · simp

/-! ### Sending -/

theorem lane_setLane_same (h : Hub) (w : Bool) (l : Lane) : (h.setLane w l).lane w = l := by cases w <;> rfl

theorem lane_setLane_other (h : Hub) (w : Bool) (l : Lane) : (h.setLane w l).lane (!w) = h.lane (!w) := by cases w <;> rfl

/-- A local frame joins the lane of its port while that is UP (R104). -/
theorem toLane_up {h : Hub} {west : Bool} (up : h.portUp west = true) (f : RingFrame) :
    h.toLane west f = h.setLane west { h.lane west with loc := (h.lane west).loc ++ [f] } := by
  unfold Hub.toLane Hub.wayOut
  rw [if_pos up]

/-- A frame of both lanes whose port is lost goes nowhere (R104, R109). -/
theorem toLane_lost {h : Hub} {west : Bool} (lost : h.portUp west = false) {f : RingFrame} (both : f.path = 3) :
    h.toLane west f = h.count Obj.unreachableDrops := by
  have back : turnedBack f = none := if_pos (.inl both)
  unfold Hub.toLane Hub.wayOut
  rw [if_neg (by simp [lost]), back]

theorem toLane_other (h : Hub) (west : Bool) {f : RingFrame} (both : f.path = 3) : (h.toLane west f).lane (!west) = h.lane (!west) := by
  rcases Bool.eq_false_or_eq_true (h.portUp west) with up | lost
  · rw [toLane_up up]
    exact lane_setLane_other h west _
  · rw [toLane_lost lost both]
    rfl

theorem Hub.Counts.toLane (h : Hub) (west : Bool) {f : RingFrame} (both : f.path = 3) : h.Counts (h.toLane west f) := by
  rcases Bool.eq_false_or_eq_true (h.portUp west) with up | lost
  · rw [toLane_up up]
    exact setLane _ _ _
  · rw [toLane_lost lost both]
    exact unreachable h

/-- Sealing counts the SEQ alone. -/
theorem Hub.Counts.seal (h : Hub) (f : RingFrame) : h.Counts (h.seal f).2 := by
  unfold Hub.seal Hub.takeSeq
  dsimp only
  split
  · exact ring rfl rfl
  · split
    · exact ring rfl rfl
    · exact ring rfl rfl

theorem seal_lane (h : Hub) (f : RingFrame) (w : Bool) : (h.seal f).2.lane w = h.lane w := by
  unfold Hub.seal Hub.takeSeq
  dsimp only
  split
  · rfl
  · split
    · rfl
    · rfl

/-- What a frame that joins a lane adds to it. -/
theorem toLane_loc {h : Hub} {west : Bool} (up : h.portUp west = true) (f : RingFrame) :
    ((h.toLane west f).lane west).loc = (h.lane west).loc ++ [f] := by
  rw [toLane_up up, lane_setLane_same]

/-- What a frame sent out of one port is (R104). -/
theorem sendPort_loc {h : Hub} {west : Bool} (up : h.portUp west = true) (f : RingFrame) :
    ∃ seq epoch path, ((h.sendPort west f).lane west).loc
      = (h.lane west).loc ++ [{ f with src := h.self, seq := seq, epoch := epoch, path := path }] := by
  have up' := ((Hub.Counts.seal h { f with path := if west then 2 else 1 }).portUp west).trans up
  exact ⟨_, _, _, (toLane_loc up' _).trans (by rw [seal_lane])⟩

/-- What a frame sent on both paths is (R104). -/
theorem sendBoth_loc {h : Hub} {west : Bool} (up : h.portUp west = true) (f : RingFrame) :
    ∃ src seq epoch, ((h.sendBoth f).lane west).loc = (h.lane west).loc ++ [{ f with src := src, seq := seq, epoch := epoch, path := 3 }] := by
  have sealed := Hub.Counts.seal h { f with path := 3 }
  have same := seal_lane h { f with path := 3 } west
  have both : (h.seal { f with path := 3 }).1.path = 3 := rfl
  refine ⟨(h.seal { f with path := 3 }).1.src, (h.seal { f with path := 3 }).1.seq, (h.seal { f with path := 3 }).1.epoch, ?_⟩
  show ((((h.seal { f with path := 3 }).2.toLane false (h.seal { f with path := 3 }).1).toLane true (h.seal { f with path := 3 }).1).lane west).loc
    = (h.lane west).loc ++ [(h.seal { f with path := 3 }).1]
  revert sealed same both
  generalize h.seal { f with path := 3 } = r
  intro sealed same both
  have up' := (sealed.portUp west).trans up
  cases west with
  | false =>
    rw [show (false : Bool) = !true from rfl, toLane_other _ true both, Bool.not_true]
    exact (toLane_loc up' _).trans (congrArg (fun l => l.loc ++ [r.1]) same)
  | true =>
    have up'' := ((Hub.Counts.toLane r.2 false both).portUp true).trans up'
    rw [toLane_loc up'', show (true : Bool) = !false from rfl, toLane_other _ false both]
    exact congrArg (fun l => l.loc ++ [r.1]) same

/-- A port that may asks its neighbour (R120, R121). -/
theorem linkDelayMeasure_asks {h : Hub} {west : Bool} (up : h.portUp west = true) (member : h.isMember = true)
    (some_ : h.num (if west then Obj.neighbourW else Obj.neighbourE) ≠ 0) (sound : h.flag Obj.hubFault = false) :
    h.linkDelayMeasure west = h.sendPort west {
      dst := h.num (if west then Obj.neighbourW else Obj.neighbourE), cls := 1, type := tTime, stamp := true,
      payload := beBytes 4 0x01000000 ++ beBytes 16 0 } := if_neg (by simp [up, member, some_, sound])

/-- The frame that answers a DELAY_REQ with the stamp of its receipt (R120). -/
def delayAnswer (stamp dst : Nat) : RingFrame :=
  { dst := dst, cls := 1, type := tTime, stamp := true, payload := beBytes 4 0x02000000 ++ beBytes 16 stamp ++ beBytes 16 0 }

theorem delayReqRx_taken {h : Hub} {west : Bool} {f : RingFrame} (taken : (h.neighbourFrame west f 1).1 = true) :
    h.delayReqRx west f = (let g := (h.neighbourFrame west f 1).2
      g.sendPort west (delayAnswer (g.stamp128At .H g.now f.frac) f.src)) := by
  unfold Hub.delayReqRx
  dsimp only
  rw [if_neg (by simp [taken])]
  rfl

/-- The delay that a DELAY_RESP shows (R121), in ps. -/
def Hub.delayShown (h : Hub) (west : Bool) (f : RingFrame) : Int :=
  let t2 : Int := stamp128Units (beAt f.payload 4 16)
  let t3 : Int := stamp128Units (beAt f.payload 20 16)
  (((h.stUnits h.now f.frac : Nat) - (h.lane west).delayT1 : Int) - (t3 - t2)) * 500 / 65536 + h.int (Obj.asymmetry (portIx west))

theorem delayRespRx_taken {h : Hub} {west : Bool} {f : RingFrame} (taken : (h.neighbourFrame west f 2).1 = true) :
    h.delayRespRx west f = (let g := (h.neighbourFrame west f 2).2
      let ds := (g.delayShown west f :: (g.lane west).delays).take 8
      (g.setLane west { g.lane west with delays := ds }).setNum (Obj.linkDelay (portIx west))
        ((ds.foldl (· + ·) (0 : Int)) / (ds.length : Int)).toNat) := by
  unfold Hub.delayRespRx
  dsimp only
  rw [if_neg (by simp [taken])]
  rfl

/-! ### The masters followed -/

/-- The lowest-id master is by the syncs seen, the LTC and the ring's objects, and not by the master followed (R119). -/
theorem lowestMaster_congr {h g : Hub} (ring : g.ring = h.ring) (ltc : g.time.ltc = h.time.ltc)
    (obj : ∀ k, k ≠ Obj.timeMasterId → k / 256 = 0x1601 → g.obj k = h.obj k) : g.lowestMaster = h.lowestMaster := by
  have now : g.now = h.now := congrArg BitVec.toNat ltc
  have num (o : Nat) (apart : o ≠ Obj.timeMasterId) (page : o / 256 = 0x1601) : g.num o = h.num o := congrArg Val.nat (obj o apart page)
  have order : g.order = h.order := by
    unfold Hub.order Hub.oct
    rw [obj _ (by decide) (by decide)]
  have reaches : g.reaches = h.reaches := by
    funext dst
    unfold Hub.reaches Hub.reach Hub.self
    rw [order, num Obj.nodeIdInUse (by decide) (by decide), num Obj.breakMap (by decide) (by decide)]
  unfold Hub.lowestMaster
  rw [ring, now, reaches]

/-- From `h` to `g` the ring interface, the LTC and the objects of the ring's own index stand (R41, R119). -/
structure Hub.RingStands (h g : Hub) : Prop where
  ring : g.ring = h.ring
  ltc : g.time.ltc = h.time.ltc
  obj : ∀ k, k / 256 = 0x1601 → g.obj k = h.obj k

namespace Hub.RingStands
variable {h g k : Hub}

theorem refl (h : Hub) : h.RingStands h := ⟨rfl, rfl, fun _ _ => rfl⟩

theorem trans (H : h.RingStands g) (G : g.RingStands k) : h.RingStands k :=
  ⟨G.ring.trans H.ring, G.ltc.trans H.ltc, fun o page => (G.obj o page).trans (H.obj o page)⟩

theorem setObj (h : Hub) {o : Nat} (apart : o / 256 ≠ 0x1601) (v : Val) : h.RingStands (h.setObj o v) :=
  ⟨rfl, rfl, fun j page => (Hub.obj_setObj h o j v).trans (if_neg (ne_of_apply_ne (· / 256) (ne_of_eq_of_ne page apart.symm)))⟩

theorem setNum (h : Hub) {o : Nat} (apart : o / 256 ≠ 0x1601) (n : Nat) : h.RingStands (h.setNum o n) := setObj h apart _

theorem notice (h : Hub) (code fid : Nat) (args : List Nat) : h.RingStands (h.notice code fid args) := by
  have quiet := Quietly.notice (Quietly.refl 63 h) code fid args
  refine ⟨Hub.notice_ring _ _ _ _, by rw [Hub.notice_time], fun o page => quiet.2.2 o ?_ ?_ ?_⟩
  · omega
  · omega
  · intro same
    rw [same] at page
    exact absurd page (by decide)

theorem line (L : h.LineMoves g) : h.RingStands g := by
  obtain ⟨_, _, _, _, _, _, rfl⟩ := L
  exact ⟨rfl, rfl, fun _ _ => rfl⟩

theorem lowestMaster (H : h.RingStands g) : g.lowestMaster = h.lowestMaster :=
  lowestMaster_congr H.ring H.ltc fun o _ page => H.obj o page

theorem newSegment (h : Hub) (st0 : Nat) (rate : Int) : h.RingStands (h.newSegment st0 rate) := ⟨rfl, rfl, (setNum h (by decide) _).obj⟩

theorem stepTime (h : Hub) (ns : Int) : h.RingStands (h.stepTime ns) := by
  unfold Hub.stepTime
  refine trans ?_ (line (LineMoves.trackNominal _))
  refine trans ?_ (notice _ _ _ _)
  refine trans ?_ (setNum _ (by decide) _)
  refine trans ?_ (setNum _ (by decide) _)
  refine trans ?_ (newSegment _ _ _)
  exact (line (LineMoves.leaveNominal h)).trans ⟨rfl, rfl, fun _ _ => rfl⟩

theorem takeUtc (h : Hub) (utc : Option Int) : h.RingStands (h.takeUtc utc) := by
  cases utc with
  | none => exact refl h
  | some u => exact (setNum h (by decide) _).trans (setNum _ (by decide) _)

theorem measureOffset (h : Hub) (ns : Int) : h.RingStands (h.measureOffset ns) := by
  unfold Hub.measureOffset
  split
  · exact ⟨rfl, rfl, fun _ _ => rfl⟩
  · exact stepTime h ns

end Hub.RingStands

/-- The lowest-id master is the one followed (R119). -/
theorem followMaster_follows (h : Hub) : h.followMaster.num Obj.timeMasterId = h.followMaster.lowestMaster := by
  unfold Hub.followMaster
  dsimp only
  split
  next same => exact same
  next =>
    have noticed := Hub.RingStands.notice (h.setNum Obj.timeMasterId h.lowestMaster) N.ringTimeMasterChanged (fidRingPort 0)
      [h.num Obj.timeMasterId, h.lowestMaster]
    have set_ : (h.setNum Obj.timeMasterId h.lowestMaster).lowestMaster = h.lowestMaster :=
      lowestMaster_congr rfl rfl fun o apart _ => (Hub.obj_setObj _ _ _ _).trans (if_neg apart)
    rw [noticed.lowestMaster, set_]
    exact (congrArg Val.nat (noticed.obj _ (by decide))).trans (Hub.num_setNum_self _ _ _)

theorem followMaster_ring (h : Hub) : h.followMaster.ring = h.ring := by
  unfold Hub.followMaster
  dsimp only
  split
  · rfl
  · exact Hub.notice_ring _ _ _ _

/-- Whether the hub is a candidate is not by the master it follows (R119). -/
theorem timeCandidate_followMaster (h : Hub) : h.followMaster.timeCandidate = h.timeCandidate := by
  have now : h.followMaster.now = h.now := congrArg (fun k => k.ltc.toNat) (st_followMaster h)
  unfold Hub.timeCandidate Hub.flag Hub.isMember Hub.self
  rw [followMaster_ring, now, num_followMaster h (by decide) (by decide), num_followMaster h (by decide) (by decide),
    num_followMaster h (by decide) (by decide), num_followMaster h (by decide) (by decide)]

/-- The SYNC that a candidate sends (R119, R120). -/
def Hub.syncFrame (h : Hub) : RingFrame :=
  { dst := broadcastId, cls := 1, type := tTime, stamp := true,
    payload := [0x00, BitVec.ofNat 8 (h.num Obj.utcOffsetKnown), 0, 0] ++ beBytes 16 0 ++ beBytes 8 0
      ++ beBytes 1 (h.num Obj.syncState) ++ beBytes 1 (h.num Obj.timeSource) ++ beBytes 2 (h.num Obj.utcOffset)
      ++ beBytes 4 ((h.uncertaintyU).getD 0xFFFFFFFF) }

/-- Its origin is inserted at departure (R120). -/
theorem syncFrame_take (h : Hub) : h.syncFrame.payload.take 20 = [0, BitVec.ofNat 8 (h.num Obj.utcOffsetKnown), 0, 0] ++ beBytes 16 0 := rfl

/-- The hub once a SYNC has been seen of a sender (R41, R119). -/
def Hub.seesSync (h : Hub) (f : RingFrame) : Hub :=
  { h with ring := { h.ring with
    syncSeen := SMap.set (fun _ => 0) h.ring.syncSeen f.src
      (if byteAt f.payload 28 == 1 || byteAt f.payload 28 == 3 then h.now + 1 else 0) } }

/-- The time of a SYNC of the master followed reaches the time unit where RING is in use (R44, R121, R122). -/
def Hub.takesSync (h : Hub) (west : Bool) (f : RingFrame) : Hub :=
  if h.num Obj.timeMasterId = f.src ∧ h.num Obj.timeSource = 2 then
    (h.takeUtc (if byteAt f.payload 1 % 2 = 1 then some (toSigned 16 (beAt f.payload 30 2)) else none)).measureOffset (h.syncOffset west f)
  else h

theorem Hub.RingStands.takesSync (h : Hub) (west : Bool) (f : RingFrame) : h.RingStands (h.takesSync west f) := by
  unfold Hub.takesSync
  split
  · exact (takeUtc _ _).trans (measureOffset _ _)
  · exact refl h

/-- A SYNC that the hub takes is noted of its sender, the master followed, and its time measured (R41, R119, R121). -/
theorem timeSyncRx_taken {h : Hub} {west : Bool} {f : RingFrame} (sync : f.type = tTime) (sub : byteAt f.payload 0 = 0)
    (taken : (h.receiveStamped west f).1 = true) :
    h.timeSyncRx west f = (((h.receiveStamped west f).2.seesSync f).followMaster).takesSync west f := by
  unfold Hub.timeSyncRx
  rw [if_neg (by simp [sync, sub])]
  dsimp only
  rw [if_neg (by simp [taken])]
  rfl

/-- The phase clock moves from `h` to `g`: the ring interface, the LTC, the nominal frequency and what the followed master said stand (R123). -/
structure Hub.ClockMoves (h g : Hub) : Prop where
  ring : g.ring = h.ring
  ltc : g.time.ltc = h.time.ltc
  ringFreq : g.time.ringFreq = h.time.ringFreq
  ringL0 : g.time.ringL0 = h.time.ringL0
  nominal : g.num Obj.nominalFrequency = h.num Obj.nominalFrequency

namespace Hub.ClockMoves
variable {h g k : Hub}

theorem refl (h : Hub) : h.ClockMoves h := ⟨rfl, rfl, rfl, rfl, rfl⟩

theorem trans (H : h.ClockMoves g) (G : g.ClockMoves k) : h.ClockMoves k :=
  ⟨G.ring.trans H.ring, G.ltc.trans H.ltc, G.ringFreq.trans H.ringFreq, G.ringL0.trans H.ringL0, G.nominal.trans H.nominal⟩

theorem setNum (h : Hub) {o : Nat} (apart : Obj.nominalFrequency ≠ o) (n : Nat) : h.ClockMoves (h.setNum o n) :=
  ⟨rfl, rfl, rfl, rfl, (Hub.num_setNum _ _ _ _).trans (if_neg apart)⟩

theorem notice (h : Hub) (code fid : Nat) (args : List Nat) : h.ClockMoves (h.notice code fid args) :=
  ⟨Hub.notice_ring _ _ _ _, by rw [Hub.notice_time], by rw [Hub.notice_time], by rw [Hub.notice_time],
    Hub.num_notice _ _ _ _ _ (by decide) (by decide) (by decide)⟩

theorem line (L : h.LineMoves g) : h.ClockMoves g := by
  obtain ⟨_, _, _, _, _, _, rfl⟩ := L
  exact ⟨rfl, rfl, rfl, rfl, rfl⟩

theorem candidateFrom (h : Hub) (src : Nat) : h.ClockMoves (h.candidateFrom src) := ⟨rfl, rfl, rfl, rfl, rfl⟩

theorem stepsAhead (h : Hub) (freq d : Nat) : h.ClockMoves (h.stepsAhead freq d) := ⟨rfl, rfl, rfl, rfl, rfl⟩

theorem slowsTo (h : Hub) (src freq d : Nat) : h.ClockMoves (h.slowsTo src freq d) := ⟨rfl, rfl, rfl, rfl, rfl⟩

theorem alignBy (h : Hub) (d : Int) (src freq : Nat) : h.ClockMoves (h.alignBy d src freq).2 := by
  have noted : h.ClockMoves (h.notesStep d) := setNum h (by decide) _
  rcases Int.lt_or_le d 0 with behind | ahead
  · rw [alignBy_backward h behind]
    exact noted.trans (slowsTo _ _ _ _)
  · rw [alignBy_forward h ahead]
    exact noted.trans (stepsAhead _ _ _)

theorem phaseLocked (h : Hub) (src : Nat) : h.ClockMoves (h.phaseLocked src) := by
  refine trans ?_ (line (LineMoves.trackNominal (h.locksOn src)))
  unfold Hub.locksOn
  refine trans ?_ (notice _ _ _ _)
  refine trans ?_ (setNum _ (by decide) _)
  refine trans ?_ (candidateFrom _ _)
  exact (setNum h (by decide) _).trans (setNum _ (by decide) _)

theorem acquire (h : Hub) (src : Nat) : h.ClockMoves (h.acquire src) := by
  have turned : h.ClockMoves (h.turnsToPhase src) :=
    (setNum h (by decide) _).trans ((setNum _ (by decide) _).trans ((candidateFrom _ _).trans (setNum _ (by decide) _)))
  have aligned : h.ClockMoves ((h.turnsToPhase src).alignPhase 3 0 0).2 := turned.trans (alignBy _ _ _ _)
  rw [acquire_eq]
  split
  · split
    · exact aligned.trans (phaseLocked _ _)
    · exact aligned
  · exact turned

theorem phcSourcePresent (h : Hub) (src : PhaseSource) : h.ClockMoves (h.phcSourcePresent src) := by
  unfold Hub.phcSourcePresent
  split
  · exact refl h
  · generalize (if h.time.present.contains src = true then h.time.present else src :: h.time.present) = now
    have shown : h.ClockMoves { h with time := { h.time with present := now } } := ⟨rfl, rfl, rfl, rfl, rfl⟩
    dsimp only
    split
    · exact shown
    · split
      · exact shown.trans (acquire _ _)
      · split
        · exact shown.trans (acquire _ _)
        · exact shown.trans (candidateFrom _ _)

theorem followPhase (h : Hub) (fraction freq : Nat) : h.ClockMoves (h.followPhase fraction freq) := by
  obtain ⟨trim, eq⟩ := followPhase_eq h fraction freq
  rw [eq]
  exact (line (LineMoves.rebase h freq)).trans ⟨rfl, rfl, rfl, rfl, rfl⟩

theorem followRing (h : Hub) : h.ClockMoves h.followRing := by
  unfold Hub.followRing
  split
  · exact refl h
  · have shown := phcSourcePresent h .ring
    dsimp only
    split
    · refine shown.trans (trans ?_ (setNum _ (by decide) _))
      split
      · exact followPhase _ _ _
      · exact refl _
    · exact shown

/-- The lowest-id sender of PHASE frames stays with what was heard of them (R51). -/
theorem lowestPhase (H : h.ClockMoves g) : g.lowestPhase = h.lowestPhase := by
  have now : g.now = h.now := congrArg BitVec.toNat H.ltc
  unfold Hub.lowestPhase Hub.twoCycles
  rw [H.ring, now, H.nominal]

end Hub.ClockMoves

/-- The hub once a PHASE frame has been heard of a sender (R51). -/
def Hub.hearsPhase (h : Hub) (f : RingFrame) : Hub :=
  let g : Hub := { h with ring := { h.ring with phaseSeen := SMap.set (fun _ => 0) h.ring.phaseSeen f.src (h.now + 1) } }
  { g with ring := { g.ring with phaseMasterId := g.lowestPhase } }

theorem phaseRx_taken {h : Hub} {west : Bool} {f : RingFrame} (phase : f.type = tPhase) (taken : (h.receiveStamped west f).1 = true) :
    h.phaseRx west f = (let g := (h.receiveStamped west f).2.hearsPhase f
      if g.ring.phaseMasterId ≠ f.src then g.count Obj.phaseMasterConflicts else (g.takePhase west f).followRing) := by
  unfold Hub.phaseRx
  rw [if_neg (not_not.mpr phase)]
  dsimp only
  rw [if_neg (by simp [taken])]
  rfl

end Sys2Proof.Machine

open Sys2Proof Sys2Proof.Machine

/-- Settles O25: frames are taken by their port's checks, which leave all but counters; what is sent joins its lane; masters follow from what was heard. -/
theorem ringTimeAndPhaseFrames : Obligations.RingTimeAndPhaseFrames := by
  unfold Obligations.RingTimeAndPhaseFrames
  refine ⟨?delay, ?sync, ?phase, ?syncRx, ?phaseRx⟩
  case delay =>
    intro s west nb zeros
    refine ⟨fun up member some_ sound => ?ask, fun f => ⟨fun taken => ?answer, ?measure⟩⟩
    case ask =>
      have eq := linkDelayMeasure_asks up member some_ sound
      obtain ⟨seq, epoch, path, sent⟩ := sendPort_loc up { dst := nb, cls := 1, type := tTime, stamp := true, payload := beBytes 4 0x01000000 ++ zeros }
      obtain ⟨t, next, rest, hub⟩ := next_hub (c := .linkDelayMeasure west) (congrArg (fun h => Host.Outcome.next (s.withHub h)) eq)
      refine ⟨t, next, rest, ?_⟩
      rw [hub, sent, List.map_append]
      rfl
    case answer =>
      have counts := Hub.Counts.neighbourFrame s.hub west f 1
      have same := neighbourFrame_lane s.hub west west f 1
      have up := neighbourFrame_up taken
      have eq := delayReqRx_taken taken
      revert eq counts same
      generalize (s.hub.neighbourFrame west f 1).2 = g
      intro counts same eq
      obtain ⟨seq, epoch, path, sent⟩ := sendPort_loc ((counts.portUp west).trans up) (delayAnswer (g.stamp128At .H g.now f.frac) f.src)
      obtain ⟨t, next, rest, hub⟩ := next_hub (c := .delayReqRx west f) (congrArg (fun h => Host.Outcome.next (s.withHub h)) eq)
      refine ⟨t, next, rest, ?_⟩
      rw [hub, sent, List.map_append, same, counts.now, counts.stamp128At]
      rfl
    case measure =>
      intro taken t1 t2 t3 t4 value ds
      have counts := Hub.Counts.neighbourFrame s.hub west f 2
      have same := neighbourFrame_lane s.hub west west f 2
      have eq := delayRespRx_taken taken
      revert eq counts same
      generalize (s.hub.neighbourFrame west f 2).2 = g
      intro counts same eq
      obtain ⟨t, next, rest, hub⟩ := next_hub (c := .delayRespRx west f) (congrArg (fun h => Host.Outcome.next (s.withHub h)) eq)
      have shown : g.delayShown west f = value := by
        have st : g.stUnits g.now f.frac = s.hub.stUnits s.hub.now f.frac := by
          unfold Hub.stUnits
          rw [counts.now, stAt_of_segs (congrArg (fun t => t.segs) counts.time)]
        have asym : g.int (Obj.asymmetry (portIx west)) = s.hub.int (Obj.asymmetry (portIx west)) :=
          congrArg (toSigned 32) (counts.num (by rcases Hub.Counts.portIx_cases west with port | port <;> rw [port] <;> decide))
        unfold Hub.delayShown
        rw [st, same, asym]
      refine ⟨t, next, rest, ?_⟩
      rw [hub]
      dsimp only
      rw [shown, same]
      refine ⟨?_, Hub.num_setNum_self _ _ _⟩
      exact congrArg Lane.delays (lane_setLane_same g west _)
  case sync =>
    intro s candidate sound
    have master := timeCandidate_followMaster s.hub
    have fault : s.hub.followMaster.flag Obj.hubFault = false := (congrArg (· != 0) (num_followMaster s.hub (by decide) (by decide))).trans sound
    have utc : s.hub.followMaster.num Obj.utcOffsetKnown = s.hub.num Obj.utcOffsetKnown := num_followMaster s.hub (by decide) (by decide)
    have up (w : Bool) : s.hub.followMaster.portUp w = s.hub.portUp w := by
      unfold Hub.portUp
      rw [num_followMaster s.hub] <;> cases w <;> decide
    have lanes (w : Bool) : s.hub.followMaster.lane w = s.hub.lane w := by
      unfold Hub.lane
      rw [followMaster_ring]
    have eq : s.hub.timeSyncSend = s.hub.followMaster.sendBoth s.hub.followMaster.syncFrame := if_pos (by simp [master, candidate, fault])
    obtain ⟨t, next, rest, hub⟩ := next_hub (c := .timeSyncSend) (congrArg (fun h => Host.Outcome.next (s.withHub h)) eq)
    refine ⟨t, next, rest, fun w _ upw => ?_⟩
    obtain ⟨src, seq, epoch, sent⟩ := sendBoth_loc ((up w).trans upw) s.hub.followMaster.syncFrame
    rw [hub, sent, List.map_append, lanes, ← utc, ← syncFrame_take]
    rfl
  case phase =>
    intro s master member sound
    exact congrArg (fun h => Host.Outcome.next (s.withHub h)) (if_pos (by simp [master, member, sound]))
  case syncRx =>
    intro s west f sync sub taken
    have counts := Hub.Counts.receiveStamped s.hub west f
    have eq := timeSyncRx_taken sync sub taken
    revert eq counts
    generalize (s.hub.receiveStamped west f).2 = g
    intro counts eq
    have stands := Hub.RingStands.takesSync (g.seesSync f).followMaster west f
    obtain ⟨t, next, rest, hub⟩ := next_hub (c := .timeSyncRx west f) (congrArg (fun h => Host.Outcome.next (s.withHub h)) eq)
    refine ⟨t, next, rest, ?_⟩
    rw [hub, stands.lowestMaster, stands.ring, followMaster_ring]
    refine ⟨(congrArg Val.nat (stands.obj _ (by decide))).trans (followMaster_follows _), (SMap.get_set_self _ _ _ _).trans ?_⟩
    rw [counts.now]
    simp
  case phaseRx =>
    intro s west f phase taken
    have counts := Hub.Counts.receiveStamped s.hub west f
    have eq := phaseRx_taken phase taken
    revert eq counts
    generalize (s.hub.receiveStamped west f).2 = g
    intro counts eq
    obtain ⟨t, next, rest, hub⟩ := next_hub (c := .phaseRx west f) (congrArg (fun h => Host.Outcome.next (s.withHub h)) eq)
    refine ⟨t, next, rest, ?_⟩
    rw [hub]
    dsimp only
    have seen : SMap.get (fun _ => 0) (g.hearsPhase f).ring.phaseSeen f.src = s.hub.now + 1 :=
      (SMap.get_set_self _ _ _ _).trans (congrArg (· + 1) counts.now)
    have lowest : (g.hearsPhase f).ring.phaseMasterId = (g.hearsPhase f).lowestPhase := rfl
    have tally : (g.hearsPhase f).num Obj.phaseMasterConflicts = s.hub.num Obj.phaseMasterConflicts := counts.num (by decide)
    have now : (g.hearsPhase f).now = s.hub.now := counts.now
    revert seen lowest tally now
    generalize g.hearsPhase f = k
    intro seen lowest tally now
    split
    next other =>
      have counted : k.ClockMoves (k.count Obj.phaseMasterConflicts) := Hub.ClockMoves.setNum k (by decide) _
      refine ⟨seen, lowest.trans counted.lowestPhase.symm, fun _ => ?_, fun own => absurd own other⟩
      rw [Hub.num_count, if_pos rfl, tally]
    next own =>
      have moved : k.RingStands (k.takePhase west f) := ⟨rfl, rfl, fun _ _ => rfl⟩
      have clock : (k.takePhase west f).lowestPhase = k.lowestPhase := rfl
      have took : (k.takePhase west f).time.ringFreq = beAt f.payload 16 4 ∧ (k.takePhase west f).time.ringL0 = k.now := ⟨rfl, rfl⟩
      have follows := Hub.ClockMoves.followRing (k.takePhase west f)
      rw [follows.lowestPhase, clock, follows.ring, moved.ring, follows.ringFreq, follows.ringL0, took.1, took.2, now]
      exact ⟨seen, lowest, fun other => absurd other own, fun _ => ⟨rfl, rfl⟩⟩
end

section
/-!
What the units' work leaves of the time unit: its state and the objects of its own indexes (R3), through the actions of a trigger entry (R66, R67) and a
control-cycle boundary (R59).
-/
namespace Sys2Proof.Machine

/-- An object of the time unit: its phase clock, control cycle, captures, outputs and trigger table. -/
abbrev timeKey (k : Nat) : Prop := 0x140000 ≤ k ∧ k < 0x160000

/-- An object of a unit that comes after the time unit. -/
theorem not_timeKey_row {b i : Nat} (above : 0x160000 ≤ b) : ¬ timeKey (b + i * 256) := by
  unfold timeKey
  omega

/-- From `h` to `g` the time unit stands, and so do its objects. -/
structure Hub.LeavesTime (h g : Hub) : Prop where
  time : g.time = h.time
  obj : ∀ k, timeKey k → g.obj k = h.obj k

namespace Hub.LeavesTime
variable {a h g k : Hub}

theorem refl (h : Hub) : h.LeavesTime h := ⟨rfl, fun _ _ => rfl⟩

theorem trans (H : a.LeavesTime h) (G : h.LeavesTime g) : a.LeavesTime g :=
  ⟨G.time.trans H.time, fun o key => (G.obj o key).trans (H.obj o key)⟩

theorem same (H : a.LeavesTime h) (time : g.time = h.time) (dict : g.dict = h.dict) : a.LeavesTime g :=
  trans H ⟨time, fun o _ => congrArg (SMap.get dictDefault · o) dict⟩

theorem setObj (H : a.LeavesTime h) {o : Nat} (apart : ¬ timeKey o) (v : Val) : a.LeavesTime (h.setObj o v) :=
  trans H ⟨rfl, fun j key => (Hub.obj_setObj h o j v).trans (if_neg (ne_of_mem_of_not_mem (s := {k | timeKey k}) key apart))⟩

theorem setNum (H : a.LeavesTime h) {o : Nat} (apart : ¬ timeKey o) (n : Nat) : a.LeavesTime (h.setNum o n) := setObj H apart _

theorem count (H : a.LeavesTime h) {o : Nat} (apart : ¬ timeKey o) : a.LeavesTime (h.count o) := setObj H apart _

theorem ite (c : Prop) [Decidable c] (H : a.LeavesTime h) (G : a.LeavesTime g) : a.LeavesTime (if c then h else g) := by
  split
  · exact H
  · exact G

theorem maxNum (H : a.LeavesTime h) {o : Nat} (apart : ¬ timeKey o) (n : Nat) : a.LeavesTime (h.maxNum o n) := ite _ (setNum H apart n) H

theorem when (H : a.LeavesTime h) (c : Bool) {f : Hub → Hub} (hf : h.LeavesTime (f h)) : a.LeavesTime (h.when c f) := ite _ (trans H hf) H

theorem foldl {α : Type} {f : Hub → α → Hub} (hf : ∀ h x, Hub.LeavesTime h (f h x)) (l : List α) (H : a.LeavesTime h) : a.LeavesTime (l.foldl f h) := by
  induction l generalizing h with
  | nil => exact H
  | cons x l ih => exact ih (trans H (hf h x))

theorem notice (H : a.LeavesTime h) (code fid : Nat) (args : List Nat) : a.LeavesTime (h.notice code fid args) := by
  have quiet := Quietly.notice (Quietly.refl 63 h) code fid args
  refine trans H ⟨Hub.notice_time _ _ _ _, fun o key => quiet.2.2 o ?_ ?_ ?_⟩
  · omega
  · omega
  · unfold Obj.inlineCheckFailures
    omega

theorem counts (H : a.LeavesTime h) (C : h.Counts g) : a.LeavesTime g :=
  trans H ⟨C.time, fun o key => C.obj o (by unfold ringCounter; omega)⟩

theorem setChan (H : a.LeavesTime h) (c : Nat) (x : Chan) : a.LeavesTime (h.setChan c x) := same H rfl rfl

theorem swArrive (H : a.LeavesTime h) (port : Nat) (p : SwPacket) : a.LeavesTime (h.swArrive port p) := same H rfl rfl

/-! ### Commands of a duplex member (R395, R398) -/

theorem sendRing (H : a.LeavesTime h) (inPort : Nat) (f : RingFrame) (label : Nat) : a.LeavesTime (h.sendRing inPort f label).2 := by
  unfold Hub.sendRing
  split
  · split
    · exact counts H (Counts.unreachable h)
    · exact swArrive (counts H (Counts.seal h _)) _ _
  · split
    · exact counts H (Counts.unreachable h)
    · exact swArrive (counts H (Counts.seal h _)) _ _

theorem sendCmd (H : a.LeavesTime h) (node : Nat) (r : List Byte) : a.LeavesTime (h.sendCmd node r) := sendRing H _ _ _

theorem setDupOut (H : a.LeavesTime h) (n : Nat) (o : DupOut) : a.LeavesTime (h.setDupOut n o) := by
  unfold Hub.setDupOut
  refine setNum (o := Obj.mismatchedOutputs) ?_ (by decide) _
  exact same H rfl rfl

theorem compareCmd (H : a.LeavesTime h) (active : Bool) (node : Nat) (r : List Byte) : a.LeavesTime (h.compareCmd active node r) := by
  have counted : a.LeavesTime (h.count Obj.compareOverflows) := count H (by decide)
  unfold Hub.compareCmd
  dsimp only
  split
  · exact H
  · split
    · split
      · exact counted
      · refine notice ?_ _ _ _
        exact same counted rfl rfl
    · exact setDupOut H _ _

theorem issueCmd (H : a.LeavesTime h) (node : Nat) (r : List Byte) : a.LeavesTime (h.issueCmd node r).2 := by
  unfold Hub.issueCmd
  dsimp only
  split
  · split
    · exact H
    · exact when (f := fun h => h.sendCmd node r) H _ (sendCmd (refl h) _ _)
  · split
    · exact count H (by decide)
    · split
      · split
        · exact when (f := fun h => h.sendCmd h.self r) H _ (sendCmd (refl h) _ _)
        · exact sendCmd H _ _
      · split
        · exact compareCmd H _ _ _
        · exact count H (by decide)

/-! ### The output stage (R260 to R265) -/

theorem drive (H : a.LeavesTime h) (c pin : Nat) (level : Bool) : a.LeavesTime (h.drive c pin level) := by
  unfold Hub.drive
  dsimp only
  exact ite _ H (when (setChan H _ _) _ (same (refl _) rfl rfl))

theorem boutDrive (H : a.LeavesTime h) (c : Nat) (high : Bool) : a.LeavesTime (h.boutDrive c high) := by
  unfold Hub.boutDrive
  have G : a.LeavesTime (h.setNum (Obj.outputCommand c) (b2n high)) := setNum H (not_timeKey_row (by decide)) _
  revert G
  generalize h.setNum (Obj.outputCommand c) (b2n high) = g
  intro G
  dsimp only
  exact ite _ (when G _ (setChan (refl _) _ _)) (drive (when G _ (setChan (refl _) _ _)) _ _ _)

theorem boutSafe (H : a.LeavesTime h) (c : Nat) (cause : Option Nat) : a.LeavesTime (h.boutSafe c cause) := by
  unfold Hub.boutSafe
  have G := setChan H c { h.chan c with pulse := false, angle := none }
  revert G
  generalize h.setChan c { h.chan c with pulse := false, angle := none } = g
  intro G
  dsimp only
  have S := ite (g.num (Obj.boutSafeState c) = 0) (boutDrive G c false) (ite (g.num (Obj.boutSafeState c) = 1) (boutDrive G c true) G)
  cases cause with
  | none => exact S
  | some n => exact notice (count S (not_timeKey_row (by decide))) _ _ _

theorem boutAct (H : a.LeavesTime h) (c cmd ms : Nat) : a.LeavesTime (h.boutAct c cmd ms) := by
  unfold Hub.boutAct
  have G := setChan H c { h.chan c with angle := none }
  revert G
  generalize h.setChan c { h.chan c with angle := none } = g
  intro G
  dsimp only
  refine ite _ (boutDrive (setChan G _ _) _ _) (ite _ (ite _ ?_ ?_) (ite _ ?_ (boutSafe G _ _)))
  · exact boutDrive (setChan G _ _) _ _
  · exact boutDrive (setChan G _ _) _ _
  · exact boutDrive (setChan G _ _) _ _

theorem boutUndo (H : a.LeavesTime h) (c : Nat) : a.LeavesTime (h.boutUndo c) := by
  unfold Hub.boutUndo
  have G := setNum (o := Obj.outputCommand c) (setChan H c { h.chan c with
    pulse := (h.chan c).was.pulse, pulseMs := (h.chan c).was.pulseMs, angle := (h.chan c).was.angle, rbWin := (h.chan c).was.rbWin,
    coilWin := (h.chan c).was.coilWin }) (not_timeKey_row (by decide)) (h.chan c).was.command
  exact ite _ G (drive G _ _ _)

theorem boutOnly (H : a.LeavesTime h) (c : Nat) (r : List Byte) : a.LeavesTime (h.boutOnly c r) := by
  unfold Hub.boutOnly
  dsimp only
  split
  · exact ite _ (setChan H _ _) (ite _ (boutUndo H _) H)
  · exact setChan H _ _

theorem raiseRecord (H : a.LeavesTime h) (g c : Nat) : a.LeavesTime (h.raiseRecord g c) :=
  ite _ H (maxNum H (by unfold timeKey Obj.recordedClaim; omega) _)

theorem boutCommand (H : a.LeavesTime h) (c : Nat) (r : List Byte) : a.LeavesTime (h.boutCommand c r) := by
  unfold Hub.boutCommand
  dsimp only
  refine ite _ (count H (not_timeKey_row (by decide))) (ite _ H (ite _ (count H (not_timeKey_row (by decide)))
    (ite _ (count H (not_timeKey_row (by decide))) (ite _ H (ite _ (notice (count H (not_timeKey_row (by decide))) _ _ _) ?_)))))
  have G := setNum (raiseRecord (boutOnly H c r) (h.num (Obj.boutGroup c)) (recClaim r)) (o := Obj.outputClaim c) (not_timeKey_row (by decide))
    (recClaim r)
  revert G
  generalize Hub.setNum _ (Obj.outputClaim c) (recClaim r) = g
  intro G
  exact ite _ (setChan G _ _) (ite _ (setChan (setChan G _ _) _ _) (boutAct (setChan G _ _) _ _ _))

/-! ### The other actions (R66, R67) -/

theorem fireOutput (H : a.LeavesTime h) (c arg : Nat) : a.LeavesTime (h.fireOutput c arg) := by
  unfold Hub.fireOutput
  dsimp only
  exact ite _ (boutCommand (issueCmd H _ _) _ _) (issueCmd H _ _)

theorem cstartFire (H : a.LeavesTime h) (c : Nat) : a.LeavesTime (h.cstartFire c) := by
  unfold Hub.cstartFire
  have G := count (setChan H c { h.chan c with cstart := true }) (o := Obj.cstartPulses c) (not_timeKey_row (by decide))
  revert G
  generalize Hub.count _ (Obj.cstartPulses c) = g
  intro G
  refine ite _ H (ite _ (count H (not_timeKey_row (by decide))) (when G _ ?_))
  exact drive (refl g) _ _ _

theorem seqEvent (H : a.LeavesTime h) (s e : Nat) : a.LeavesTime (h.seqEvent s e) :=
  ite _ (count H (not_timeKey_row (by decide))) (same H rfl rfl)

theorem wakeSource (H : a.LeavesTime h) (id detail : Nat) (asserted : Bool) : a.LeavesTime (h.wakeSource id detail asserted) := by
  unfold Hub.wakeSource
  refine ite _ H (ite _ H (ite _ H (ite _ ?_ (ite _ ?_ H))))
  · exact same H rfl rfl
  · exact same H rfl rfl

theorem fireCcNotice (H : a.LeavesTime h) (t target : Nat) : a.LeavesTime (h.fireCcNotice t target) := by
  unfold Hub.fireCcNotice
  refine ite _ (notice H _ _ _) (wakeSource ?_ _ _ _)
  exact same H rfl rfl

theorem setObjs {l : List (Nat × Val)} (apart : ∀ p ∈ l, ¬ timeKey p.1) (H : a.LeavesTime h) :
    a.LeavesTime (l.foldl (fun h p => h.setObj p.1 p.2) h) := by
  induction l generalizing h with
  | nil => exact H
  | cons p ps ih => exact ih (fun q hq => apart q (List.mem_cons_of_mem _ hq)) (setObj H (apart p List.mem_cons_self) _)

/-- Values that wait for their boundary become the objects of their keys (R23). -/
theorem applyRwb (H : a.LeavesTime h) {keys : List Nat} (apart : ∀ o ∈ keys, ¬ timeKey o) : a.LeavesTime (h.applyRwb keys) := by
  unfold Hub.applyRwb
  refine setObjs (fun p hp => apart _ (List.contains_iff_mem.mp (List.mem_filter.mp hp).2)) ?_
  exact same H rfl rfl

theorem canBegin (H : a.LeavesTime h) (n i ltc source : Nat) : a.LeavesTime (h.canBegin n i ltc source) := by
  unfold Hub.canBegin
  dsimp only
  have C : a.LeavesTime (h.cycleEnds n ltc) := when H _ (same (refl h) rfl rfl)
  have R : a.LeavesTime ((h.cycleEnds n ltc).when (i == 0) (fun h => h.applyRwb [Obj.canSchedule n])) := by
    refine when C _ (applyRwb (refl _) ?_)
    simp only [List.mem_singleton, forall_eq]
    exact not_timeKey_row (by decide)
  have G := setNum (o := Obj.cycleStartLtc n) (setNum (o := Obj.basicCycle n) R (not_timeKey_row (by decide)) i) (not_timeKey_row (by decide)) ltc
  revert G
  generalize Hub.setNum _ (Obj.cycleStartLtc n) ltc = g
  intro G
  have W : a.LeavesTime (g.setCan n { g.can n with waiting := none, window := none }) := same G rfl rfl
  exact ite _ W (notice (setNum W (not_timeKey_row (by decide)) _) _ _ _)

theorem canStartFire (H : a.LeavesTime h) (n arg ltc : Nat) : a.LeavesTime (h.canStartFire n arg ltc) :=
  ite _ H (ite _ (count H (not_timeKey_row (by decide))) (canBegin H _ _ _ _))

/-! ### The supervisor at a control-cycle boundary (R399 to R415) -/

theorem sendClaim (H : a.LeavesTime h) (dst sub arg claim : Nat) : a.LeavesTime (h.sendClaim dst sub arg claim) := sendRing H _ _ _

theorem heartbeat (H : a.LeavesTime h) : a.LeavesTime h.heartbeat := ite _ H (ite _ (sendClaim H _ _ _ _) (sendClaim H _ _ _ _))

theorem endSwap (H : a.LeavesTime h) : a.LeavesTime h.endSwap := by
  unfold Hub.endSwap
  refine setNum ?_ (o := Obj.swapState) (by decide) _
  exact same H rfl rfl

theorem gocbHand (H : a.LeavesTime h) (g : Nat) (newState : Bool) : a.LeavesTime (h.gocbHand g newState) := by
  unfold Hub.gocbHand
  dsimp only
  refine count (o := Obj.framesPublished) (count (setNum (swArrive ?_ _ _) (not_timeKey_row (by decide)) _) (not_timeKey_row (by decide))) (by decide)
  refine maxNum (o := Obj.maxEncodeTime) ?_ (by decide) _
  exact same H rfl rfl

theorem gocbNewState (H : a.LeavesTime h) (g st t : Nat) : a.LeavesTime (h.gocbNewState g st t) := by
  unfold Hub.gocbNewState
  have G := setNum (setNum (setNum H (o := Obj.stNum g) (not_timeKey_row (by decide)) st) (o := Obj.sqNum g) (not_timeKey_row (by decide)) 0)
    (o := Obj.gocbLastChange g) (not_timeKey_row (by decide)) t
  refine when ?_ _ (gocbHand (refl _) _ _)
  exact same G rfl rfl

theorem gocbActive (H : a.LeavesTime h) : a.LeavesTime h.gocbActive := by
  refine foldl (fun h g => ?_) _ H
  split
  · exact gocbNewState (refl h) _ _ _
  · exact refl h

theorem becomeActive (H : a.LeavesTime h) (c gained : Nat) : a.LeavesTime (h.becomeActive c gained) := by
  unfold Hub.becomeActive
  have G : a.LeavesTime ((((h.setNum Obj.claim c).maxNum Obj.maxClaimSeen c).setNum Obj.persistedRole roleActive).setNum Obj.role roleActive) :=
    setNum (setNum (maxNum (setNum H (by decide) _) (by decide) _) (by decide) _) (by decide) _
  revert G
  generalize Hub.setNum _ Obj.role roleActive = g
  intro G
  dsimp only
  refine gocbActive (when (when (when (endSwap (setNum (o := Obj.mismatchRun) ?_ (by decide) _)) _ ?_) _ ?_) _ ?_)
  · exact same G rfl rfl
  · exact setNum (refl _) (by decide) _
  · exact notice (refl _) _ _ _
  · exact notice (count (refl _) (by decide)) _ _ _

theorem clearCompare (H : a.LeavesTime h) : a.LeavesTime h.clearCompare := by
  unfold Hub.clearCompare
  refine setNum (o := Obj.mismatchRun) (setNum (o := Obj.mismatchedOutputs) ?_ (by decide) _) (by decide) _
  exact same H rfl rfl

theorem reissue (H : a.LeavesTime h) : a.LeavesTime h.reissue := by
  refine foldl (fun h x => ?_) _ (clearCompare H)
  split
  · dsimp only
    exact ite _ (ite _ (swArrive (issueCmd (refl h) _ _) _ _) (issueCmd (refl h) _ _)) (refl h)
  · exact refl h

theorem storeRequest (H : a.LeavesTime h) (rank part offset octets : Nat) : a.LeavesTime (h.storeRequest rank part offset octets) := by
  unfold Hub.storeRequest
  dsimp only
  split
  · exact H
  · split
    · exact same H rfl rfl
    · exact same H rfl rfl

theorem takeClaim (H : a.LeavesTime h) (why : Persist) : a.LeavesTime (h.takeClaim why).2 := by
  unfold Hub.takeClaim
  dsimp only
  split
  · exact notice H _ _ _
  · show a.LeavesTime (Hub.storeRequest _ rankPersist partPersist 0 64)
    refine storeRequest ?_ _ _ _ _
    exact same H rfl rfl

theorem takeOver (H : a.LeavesTime h) (c g : Nat) : a.LeavesTime (h.takeOver c g) := by
  refine ite _ (heartbeat (takeClaim ?_ _)) (reissue (heartbeat (becomeActive H c g)))
  exact same H rfl rfl

theorem sendSwap (H : a.LeavesTime h) (sub arg : Nat) : a.LeavesTime (h.sendSwap sub arg) := sendClaim H _ _ _ _

theorem tryAck (H : a.LeavesTime h) : a.LeavesTime h.tryAck := by
  unfold Hub.tryAck
  have G : a.LeavesTime { h with duplex := { h.duplex with prepareSeq := 0 } } := same H rfl rfl
  exact ite _ H (ite _ (sendSwap G _ _) (ite _ (sendSwap G _ _) (ite _ (sendSwap (setNum G (by decide) _) _ _) H)))

theorem dupBoundary (H : a.LeavesTime h) : a.LeavesTime h.dupBoundary := by
  unfold Hub.dupBoundary
  dsimp only
  refine ite _ H ?_
  have G := ite (h.num Obj.role ≠ roleStandby) H (ite (h.duplex.digestDiffers = true ∨ h.num Obj.mismatchedOutputs = 0)
    (setNum (o := Obj.mismatchRun) H (by decide) 0)
    (count (o := Obj.mismatchCycles) (setNum (o := Obj.mismatchRun) H (by decide) (min 255 (h.num Obj.mismatchRun + 1))) (by decide)))
  revert G
  generalize (if h.num Obj.role ≠ roleStandby then h else _) = g
  intro G
  refine ite _ G ?_
  split
  · exact ite _ (heartbeat (becomeActive G _ _)) (ite _ (takeOver G _ _) (tryAck (heartbeat G)))
  · exact ite _ (heartbeat (setNum G (by decide) _)) (tryAck (heartbeat G))

end Hub.LeavesTime
end Sys2Proof.Machine
end

section
/-!
The trigger table (R60 to R71): an entry's commit, its action, what it counts once it has fired, and an instant that passes.
-/
namespace Sys2Proof.Machine

/-- From `h` to `g` the trigger table and the objects of the time unit stand. -/
structure Hub.TableStands (h g : Hub) : Prop where
  trig : g.time.trig = h.time.trig
  obj : ∀ k, timeKey k → g.obj k = h.obj k

namespace Hub.TableStands
variable {h g k : Hub}

theorem refl (h : Hub) : h.TableStands h := ⟨rfl, fun _ _ => rfl⟩

theorem trans (H : h.TableStands g) (G : g.TableStands k) : h.TableStands k :=
  ⟨G.trig.trans H.trig, fun o key => (G.obj o key).trans (H.obj o key)⟩

theorem leaves (H : h.TableStands g) (L : g.LeavesTime k) : h.TableStands k := trans H ⟨congrArg (fun t => t.trig) L.time, L.obj⟩

theorem num (H : h.TableStands g) {o : Nat} (key : timeKey o) : g.num o = h.num o := congrArg Val.nat (H.obj o key)

theorem entry (H : h.TableStands g) (t : Nat) : g.trig t = h.trig t := congrArg (fun m => SMap.get (fun _ => ({} : TrigState)) m t) H.trig

theorem fireTout (h : Hub) (i arg at_ : Nat) (late : Bool) : h.TableStands (h.fireTout i arg at_ late) := by
  unfold Hub.fireTout
  dsimp only
  split
  · exact refl h
  · split
    · exact ⟨rfl, fun _ _ => rfl⟩
    · exact ⟨rfl, fun _ _ => rfl⟩

theorem toggledAfter (h : Hub) (t t' at_ : Nat) (late : Bool) : h.TableStands (h.toggledAfter t t' at_ late) := by
  unfold Hub.toggledAfter
  dsimp only
  split
  · exact fireTout h _ _ _ _
  · exact refl h

end Hub.TableStands

/-- The hub as an entry acts at an LTC on a target (R65). -/
def Hub.marksAct (h : Hub) (act x t at_ : Nat) : Hub :=
  { h with time := { h.time with lastAct := SMap.set (fun _ => none) h.time.lastAct (act * 65536 + x) (some (at_, t)) } }

/-- The action of an entry, once it is the one that acts (R66, R67). -/
def Hub.performs (h : Hub) (act t x a at_ : Nat) (late yields : Bool) : Hub :=
  match act with
  | 1 => h.fireOutput x a
  | 2 => h.cstartFire x
  | 3 => h.seqEvent x a
  | 4 => h.fireCcNotice t x
  | 5 => if yields then h else h.canStartFire x a at_
  | 6 => h.fireTout x a at_ late
  | 7 => h.snapshot 1 t
  | _ => h

theorem trigAct_acts {h : Hub} {t at_ : Nat}
    (powered : ¬ (h.mode = modeRest ∧ restTarget (h.num (Obj.action t)) (h.num (Obj.actionTarget t)) = true)) (none_ : h.laterAct t at_ = none) (late : Bool) :
    h.trigAct t at_ late
      = (h.marksAct (h.num (Obj.action t)) (h.num (Obj.actionTarget t)) t at_).performs (h.num (Obj.action t)) t (h.num (Obj.actionTarget t))
        (h.num (Obj.actionArg t)) at_ late (h.startYields t at_) := by
  unfold Hub.trigAct
  dsimp only
  rw [if_neg powered, none_]
  rfl

theorem Hub.TableStands.performs (h : Hub) (act t x a at_ : Nat) (late yields : Bool) : h.TableStands (h.performs act t x a at_ late yields) := by
  unfold Hub.performs
  split
  · exact leaves (refl h) (LeavesTime.fireOutput (LeavesTime.refl h) _ _)
  · exact leaves (refl h) (LeavesTime.cstartFire (LeavesTime.refl h) _)
  · exact leaves (refl h) (LeavesTime.seqEvent (LeavesTime.refl h) _ _)
  · exact leaves (refl h) (LeavesTime.fireCcNotice (LeavesTime.refl h) _ _)
  · split
    · exact refl h
    · exact leaves (refl h) (LeavesTime.canStartFire (LeavesTime.refl h) _ _ _)
  · exact fireTout h _ _ _ _
  · exact ⟨rfl, fun _ _ => rfl⟩
  · exact refl h

theorem Hub.TableStands.trigAct (h : Hub) (t at_ : Nat) (late : Bool) : h.TableStands (h.trigAct t at_ late) := by
  by_cases powered : h.mode = modeRest ∧ restTarget (h.num (Obj.action t)) (h.num (Obj.actionTarget t)) = true
  · rw [show h.trigAct t at_ late = h from if_pos powered]
    exact refl h
  · cases later : h.laterAct t at_ with
    | none =>
      have marked : h.TableStands (h.marksAct (h.num (Obj.action t)) (h.num (Obj.actionTarget t)) t at_) := ⟨rfl, fun _ _ => rfl⟩
      rw [trigAct_acts powered later]
      exact marked.trans (performs _ _ _ _ _ _ _ _)
    | some t' =>
      unfold Hub.trigAct
      dsimp only
      rw [if_neg powered, later]
      exact toggledAfter h _ _ _ _

/-- From `h` to `g` only the trigger table and objects change. -/
def Hub.OnlyTable (h g : Hub) : Prop := ∃ table dict, g = { h with time := { h.time with trig := table }, dict := dict }

namespace Hub.OnlyTable
variable {h g k : Hub}

theorem refl (h : Hub) : h.OnlyTable h := ⟨_, _, rfl⟩

theorem trans (H : h.OnlyTable g) (G : g.OnlyTable k) : h.OnlyTable k := by
  obtain ⟨_, _, rfl⟩ := H
  obtain ⟨_, _, rfl⟩ := G
  exact ⟨_, _, rfl⟩

theorem setObj (H : h.OnlyTable g) (o : Nat) (v : Val) : h.OnlyTable (g.setObj o v) := trans H ⟨_, _, rfl⟩

theorem setNum (H : h.OnlyTable g) (o n : Nat) : h.OnlyTable (g.setNum o n) := setObj H o _

theorem setTrig (H : h.OnlyTable g) (t : Nat) (x : TrigState) : h.OnlyTable (g.setTrig t x) := trans H ⟨_, _, rfl⟩

theorem trigFix (h : Hub) (t : Nat) : h.OnlyTable (h.trigFix t) := setNum (setTrig (refl h) _ _) _ _

theorem slotFreed (h : Hub) (full : Bool) : h.OnlyTable (h.slotFreed full) := by
  unfold Hub.slotFreed
  split
  · split
    · exact trigFix h _
    · exact refl h
  · exact refl h

end Hub.OnlyTable

/-- The hub with an entry's firing counted (R60). -/
def Hub.notesFiring (h : Hub) (t at_ : Nat) : Hub :=
  let g := (h.count Obj.firedTally).count (Obj.fireCount t)
  (g.setNum (Obj.lastFireLtc t) at_).setNum (Obj.lastFire t) (g.stamp128At .H at_ 0)

theorem notesFiring_reads (h : Hub) (t at_ : Nat) :
    (h.notesFiring t at_).num (Obj.fireCount t) = satAdd (maxWord 32) (h.num (Obj.fireCount t)) 1
      ∧ (h.notesFiring t at_).num Obj.firedTally = satAdd (maxWord 32) (h.num Obj.firedTally) 1
      ∧ (h.notesFiring t at_).num (Obj.lastFireLtc t) = at_ := by
  have count_last : Obj.fireCount t ≠ Obj.lastFire t ∧ Obj.fireCount t ≠ Obj.lastFireLtc t ∧ Obj.fireCount t ≠ Obj.firedTally := by
    unfold Obj.fireCount Obj.lastFire Obj.lastFireLtc Obj.firedTally
    omega
  have tally_last : Obj.firedTally ≠ Obj.lastFire t ∧ Obj.firedTally ≠ Obj.lastFireLtc t := by
    unfold Obj.lastFire Obj.lastFireLtc Obj.firedTally
    omega
  have ltc_last : Obj.lastFireLtc t ≠ Obj.lastFire t := by
    unfold Obj.lastFire Obj.lastFireLtc
    omega
  unfold Hub.notesFiring
  refine ⟨?_, ?_, ?_⟩
  · rw [Hub.num_setNum, if_neg count_last.1, Hub.num_setNum, if_neg count_last.2.1, Hub.num_count, if_pos rfl, Hub.num_count,
      if_neg count_last.2.2]
  · rw [Hub.num_setNum, if_neg tally_last.1, Hub.num_setNum, if_neg tally_last.2, Hub.num_count, if_neg count_last.2.2.symm, Hub.num_count,
      if_pos rfl]
  · rw [Hub.num_setNum, if_neg ltc_last, Hub.num_setNum_self]

/-- Another object, by its subindex. -/
theorem notesFiring_other (h : Hub) (t at_ : Nat) {o : Nat} (apart : o % 256 ≠ 2 ∧ o % 256 ≠ 0xF ∧ o % 256 ≠ 0x10 ∧ o % 256 ≠ 0x11) :
    (h.notesFiring t at_).num o = h.num o := by
  unfold Hub.notesFiring
  rw [Hub.num_setNum, if_neg (by unfold Obj.lastFire; omega), Hub.num_setNum, if_neg (by unfold Obj.lastFireLtc; omega), Hub.num_count,
    if_neg (by unfold Obj.fireCount; omega), Hub.num_count, if_neg (by unfold Obj.firedTally; omega)]

/-- The objects of an entry's state: whether it is enabled, and how it stands. -/
def Hub.settles (h : Hub) (t state : Nat) (x : TrigState) : Hub := (h.setTrig t x).setNum (Obj.trigState t) state

theorem state_settles (h : Hub) (t state : Nat) (x : TrigState) : (h.settles t state x).num (Obj.trigState t) = state := Hub.num_setNum_self _ _ _

theorem trig_settles (h : Hub) (t state : Nat) (x : TrigState) : (h.settles t state x).trig t = x := Hub.trig_setTrig_self h t x

theorem num_settles (h : Hub) (t state : Nat) (x : TrigState) {o : Nat} (apart : o % 256 ≠ 0xE) : (h.settles t state x).num o = h.num o :=
  (Hub.num_setNum _ _ _ _).trans (if_neg (by unfold Obj.trigState; omega))

/-- Whether an entry has fired for the last time: ONE_SHOT, or as often as repeat-count says (R70). -/
abbrev Hub.firesLast (h : Hub) (t : Nat) : Prop :=
  h.num (Obj.trigShape t) = 0 ∨ h.num (Obj.repeatCount t) ≠ 0 ∧ h.num (Obj.repeatCount t) ≤ (h.trig t).fires + 1

/-- A firing (R60, R70) is counted; a ONE_SHOT entry is DONE and enabled no more, a PERIODIC one DONE after its last, and ARMED for its next otherwise. -/
theorem trigFired_eq (h : Hub) (t at_ next : Nat) : h.trigFired t at_ next =
    if h.num (Obj.trigShape t) = 0 then ((h.notesFiring t at_).settles t tsDone {}).setFlag (Obj.trigEnable t) false
    else if h.num (Obj.repeatCount t) ≠ 0 ∧ h.num (Obj.repeatCount t) ≤ (h.trig t).fires + 1 then (h.notesFiring t at_).settles t tsDone {}
    else (h.notesFiring t at_).settles t tsArmed { target := next, firing := 0, fires := (h.trig t).fires + 1 } := by
  rw [← notesFiring_other h t at_ (o := Obj.trigShape t) (by unfold Obj.trigShape; omega),
    ← notesFiring_other h t at_ (o := Obj.repeatCount t) (by unfold Obj.repeatCount; omega)]
  rfl

theorem trigFired_last {h : Hub} {t : Nat} (last : h.firesLast t) (at_ next : Nat) :
    h.trigFired t at_ next = if h.num (Obj.trigShape t) = 0 then ((h.notesFiring t at_).settles t tsDone {}).setFlag (Obj.trigEnable t) false
      else (h.notesFiring t at_).settles t tsDone {} := by
  rw [trigFired_eq]
  by_cases shot : h.num (Obj.trigShape t) = 0
  · rw [if_pos shot, if_pos shot]
  · rw [if_neg shot, if_neg shot, if_pos (last.resolve_left shot)]

theorem trigFired_again {h : Hub} {t : Nat} (again : ¬ h.firesLast t) (at_ next : Nat) :
    h.trigFired t at_ next = (h.notesFiring t at_).settles t tsArmed { target := next, firing := 0, fires := (h.trig t).fires + 1 } := by
  obtain ⟨shot, last⟩ := not_or.mp again
  rw [trigFired_eq, if_neg shot, if_neg last]

/-- Disabling an entry leaves its state and its counts. -/
theorem num_disabled (h : Hub) (t : Nat) {o : Nat} (apart : o % 256 ≠ 1) : (h.setFlag (Obj.trigEnable t) false).num o = h.num o :=
  (Hub.num_setNum _ _ _ _).trans (if_neg (by unfold Obj.trigEnable; omega))

/-- What an object that counts reads after a firing: as the firing noted it. -/
theorem num_trigFired (h : Hub) (t at_ next : Nat) {o : Nat} (state : o % 256 ≠ 0xE) (enable : o % 256 ≠ 1) :
    (h.trigFired t at_ next).num o = (h.notesFiring t at_).num o := by
  by_cases last : h.firesLast t
  · rw [trigFired_last last]
    split
    · rw [num_disabled _ _ enable, num_settles _ _ _ _ state]
    · rw [num_settles _ _ _ _ state]
  · rw [trigFired_again last, num_settles _ _ _ _ state]

/-- How an entry stands once it has fired. -/
theorem trigFired_entry (h : Hub) (t at_ next : Nat) :
    (h.trigFired t at_ next).num (Obj.trigState t) = (if h.firesLast t then tsDone else tsArmed)
      ∧ (h.trigFired t at_ next).trig t = (if h.firesLast t then {} else { target := next, firing := 0, fires := (h.trig t).fires + 1 }) := by
  by_cases last : h.firesLast t
  · rw [trigFired_last last, if_pos last, if_pos last]
    split
    · rw [num_disabled _ _ (by unfold Obj.trigState; omega)]
      exact ⟨state_settles _ _ _ _, trig_settles _ t tsDone _⟩
    · exact ⟨state_settles _ _ _ _, trig_settles _ _ _ _⟩
  · rw [trigFired_again last, if_neg last, if_neg last]
    exact ⟨state_settles _ _ _ _, trig_settles _ _ _ _⟩

theorem Hub.OnlyTable.settles {h g : Hub} (H : h.OnlyTable g) (t state : Nat) (x : TrigState) : h.OnlyTable (g.settles t state x) :=
  setNum (setTrig H _ _) _ _

theorem Hub.OnlyTable.trigFired (h : Hub) (t at_ next : Nat) : h.OnlyTable (h.trigFired t at_ next) := by
  have noted : h.OnlyTable (h.notesFiring t at_) := setNum (setNum (setNum (setNum (refl h) _ _) _ _) _ _) _ _
  by_cases last : h.firesLast t
  · rw [trigFired_last last]
    split
    · exact setNum (settles noted _ _ _) _ _
    · exact settles noted _ _ _
  · rw [trigFired_again last]
    exact settles noted _ _ _

/-! ### A COMMITTED entry reaches its firing LTC -/

/-- The firing of a COMMITTED entry with its action (R60, R65). -/
theorem trigFire_eq {h : Hub} {t act : Nat} (sound : h.flag Obj.hubFault = false) (committed : h.num (Obj.trigState t) = tsCommitted)
    (acts : h.num (Obj.action t) = act) : h.trigFire t act
      = ((h.trigAct t (h.trig t).firing false).trigFired t (h.trig t).firing (h.nextTarget t (h.trig t).target 1)).slotFreed
        (decide (64 ≤ h.trigCount tsCommitted)) := by
  unfold Hub.trigFire
  rw [if_neg (by simp [sound, committed, acts])]

/-- A slot that is free commits another entry: the counts stand. -/
theorem num_slotFreed (h : Hub) (full : Bool) {o : Nat} (state : o % 256 ≠ 0xE) : (h.slotFreed full).num o = h.num o := by
  unfold Hub.slotFreed
  split
  · split
    · exact num_settles h _ tsCommitted _ state
    · rfl
  · rfl

theorem exec_fire (s : State) (e : Fin 256) : ∀ c ∈ [(0, Instr.triggerFireNone e), (1, .triggerFireOutput e), (2, .triggerFireCstart e),
    (3, .triggerFireSeqEvent e), (4, .triggerFireCcNotice e), (5, .triggerFireCanStart e), (6, .triggerFireToutEdge e),
    (7, .triggerFireLtcCapture e)], exec c.2 s = .next (s.withHub (s.hub.trigFire e.val c.1)) := by
  simp only [List.forall_mem_cons, List.not_mem_nil, false_implies, implies_true, and_true]
  exact ⟨rfl, rfl, rfl, rfl, rfl, rfl, rfl, rfl⟩

/-! ### What the actions do (R67) -/

/-- A channel that changes in other respects, or not at all, leaves a pulse under way. -/
theorem cstart_setChan (h : Hub) (c : Nat) {x : Chan} (kept : x.cstart = (h.chan c).cstart) (stays : Prop) [Decidable stays] (shows : Bool) (o : Out) :
    (Hub.chan (if stays then h else (h.setChan c x).when shows (fun h => h.emit o)) c).cstart = (h.chan c).cstart := by
  have set_ : ((h.setChan c x).chan c).cstart = (h.chan c).cstart := (congrArg Chan.cstart (Hub.chan_setChan_self h c x)).trans kept
  split
  · rfl
  · unfold Hub.when
    split
    · exact set_
    · exact set_

theorem cstart_drive (h : Hub) (c pin : Nat) (level : Bool) : ((h.drive c pin level).chan c).cstart = (h.chan c).cstart := by
  unfold Hub.drive
  refine cstart_setChan h c ?_ _ _ _
  split
  · rfl
  · split
    · rfl
    · rfl

/-- A CSTART action starts a pulse, or one is under way (R270). -/
theorem cstart_cstartFire {h : Hub} {c : Nat} (mode : h.chanIn c modeCstart = true) : ((h.cstartFire c).chan c).cstart = true := by
  unfold Hub.cstartFire
  rw [if_neg (by simp [mode])]
  split
  next runs => exact runs
  next =>
    have started : ((((h.setChan c { h.chan c with cstart := true }).count (Obj.cstartPulses c)).chan c)).cstart = true :=
      congrArg Chan.cstart (Hub.chan_setChan_self h c _)
    revert started
    generalize Hub.count _ (Obj.cstartPulses c) = g
    intro started
    dsimp only
    unfold Hub.when
    split
    · exact (cstart_drive _ _ _ _).trans started
    · exact started

/-- A SEQ_EVENT action sets its event, also where it was set (R327). -/
theorem events_seqEvent (h : Hub) (n e : Nat) : ((h.seqEvent n e).sq n).events = setBit (h.sq n).events e := by
  unfold Hub.seqEvent
  dsimp only
  split
  next held =>
    unfold setBit
    rw [if_pos held]
    rfl
  next => exact congrArg SeqState.events (Hub.sq_setSq_self h n _)

/-- A CC_NOTICE action to the keeper is given to it. -/
theorem out_fireCcNotice (h : Hub) (t : Nat) {x : Nat} (keeper : x ≠ 0) : Out.keeperNotice t ∈ (h.fireCcNotice t x).out := by
  have wake (g : Hub) : (g.wakeSource 6 t true).out = g.out := by
    unfold Hub.wakeSource
    repeat' split
    all_goals rfl
  unfold Hub.fireCcNotice
  rw [if_neg keeper, wake]
  exact List.mem_cons_self

/-- A TOUT_EDGE action drives its pin to the level that its argument names (R73). -/
theorem toutLevel_fireTout {h : Hub} {i arg : Nat} (mode : h.num (Obj.toutMode i) = 1) (level : arg ≤ 1) (at_ : Nat) :
    SMap.get (fun _ => false) (h.fireTout i arg at_ false).time.toutLevel i = (arg == 1) := by
  have named (b : Bool) : toutLevelOf arg b = (arg == 1) := if_neg (by omega)
  unfold Hub.fireTout
  rw [if_neg (not_not.mpr mode), if_neg Bool.false_ne_true]
  exact (SMap.get_set_self _ _ _ _).trans (named _)

/-- A snapshot is by the time unit, and not by what has acted (R74). -/
theorem snap_marksAct (h : Hub) (act x t at_ src trig : Nat) :
    ((h.marksAct act x t at_).snapshot src trig).time.snap = (h.snapshot src trig).time.snap := by
  have phase : (h.marksAct act x t at_).phaseAt (h.marksAct act x t at_).now = h.phaseAt h.now :=
    congrArg (· % 2 ^ 64) (phaseRaw_of_line rfl rfl rfl rfl)
  have stamp : (h.marksAct act x t at_).stamp .H = h.stamp .H := rfl
  unfold Hub.snapshot
  dsimp only
  rw [phase, stamp]
  rfl

/-! ### An instant passes (R64) -/

/-- The hub once instants of an entry that passed have been skipped, counted and notified (R64). -/
def Hub.notesMissed (h : Hub) (t n : Nat) : Hub := (h.countN Obj.missedTally n).notice N.triggerMissed fidTime [t, argSat n]

theorem num_notesMissed (h : Hub) (t n : Nat) {o : Nat} (page : o / 256 ≠ 0x193F ∧ o / 256 ≠ 0x1200 ∧ o ≠ Obj.inlineCheckFailures) :
    (h.notesMissed t n).num o = if o = Obj.missedTally then satAdd (maxWord 32) (h.num Obj.missedTally) n else h.num o :=
  (Hub.num_notice _ _ _ _ _ page.1 page.2.1 page.2.2).trans (Hub.num_setNum _ _ _ _)

/-- The hub once an entry is late, counted and notified (R64). -/
def Hub.notesLate (h : Hub) (t : Nat) (late : Nat) : Hub := (h.count Obj.lateTally).notice N.triggerLate fidTime [t, argSat late]

/-- Under SKIP the instants that have passed are skipped (R64). -/
theorem trigPassed_skip {h : Hub} {t : Nat} (sound : h.flag Obj.hubFault = false) (armed : h.num (Obj.trigState t) = tsArmed)
    (usable : h.trigUsable t = true) (skip : h.num (Obj.latePolicy t) = 0) :
    let n := h.passedCount t (h.trig t).target
    h.trigPassed t = if h.num (Obj.trigShape t) == 0 then (h.notesMissed t n).settles t tsMissed {}
      else (h.notesMissed t n).setTrig t { h.trig t with target := (h.notesMissed t n).nextTarget t (h.trig t).target n } := by
  unfold Hub.trigPassed
  rw [if_neg (by simp [sound, armed, usable])]
  dsimp only
  rw [if_pos skip]
  rfl

/-- Under FIRE a ONE_SHOT entry acts at once, and is late (R64). -/
theorem trigPassed_fire {h : Hub} {t : Nat} (sound : h.flag Obj.hubFault = false) (armed : h.num (Obj.trigState t) = tsArmed)
    (usable : h.trigUsable t = true) (fire : h.num (Obj.latePolicy t) ≠ 0) (shot : h.num (Obj.trigShape t) = 0) :
    ∃ late next, h.trigPassed t = ((h.notesLate t late).trigAct t (h.notesLate t late).now true).trigFired t (h.notesLate t late).now next := by
  have one : h.passedCount t (h.trig t).target = 1 := if_pos shot
  refine ⟨(max 0 (-(h.trigTicks t (h.trig t).target))).toNat * 5 / 2, (h.notesLate t ((max 0 (-(h.trigTicks t (h.trig t).target))).toNat * 5 / 2)).nextTarget
    t (h.trig t).target 1, ?_⟩
  unfold Hub.trigPassed
  rw [if_neg (by simp [sound, armed, usable])]
  dsimp only
  rw [if_neg fire, one, if_pos (beq_iff_eq.mpr shot)]
  rfl

/-- The table and the objects beside the tallies stand through a notice of the trigger table. -/
theorem Hub.TableStands.notesLate (h : Hub) (t late : Nat) :
    (h.notesLate t late).time = h.time ∧ ∀ o, timeKey o → o ≠ Obj.lateTally → (h.notesLate t late).num o = h.num o := by
  refine ⟨Hub.notice_time _ _ _ _, fun o key apart => ?_⟩
  have counted : (h.count Obj.lateTally).num o = h.num o := (Hub.num_count _ _ _).trans (if_neg apart)
  exact ((leaves (refl _) (LeavesTime.notice (LeavesTime.refl _) _ _ _)).num key).trans counted

/-! ### The control cycle (R57, R59) -/

/-- A boundary numbers the cycle, and the supervisor leaves the number (R59). -/
theorem ccNumber_ccBoundary (h : Hub) :
    h.ccBoundary.time.ccNumber = (h.applyRwb [Obj.ccMode, Obj.ccSlices, Obj.ccPeriod, Obj.ccOffset]).ccAt h.now := by
  have taken (l : List (Nat × Val)) : ∀ g : Hub, (l.foldl (fun h p => h.setObj p.1 p.2) g).time = g.time := by
    induction l with
    | nil => exact fun _ => rfl
    | cons p ps ih => exact fun g => ih _
  have time : (h.applyRwb [Obj.ccMode, Obj.ccSlices, Obj.ccPeriod, Obj.ccOffset]).time = h.time := taken _ _
  have now : (h.applyRwb [Obj.ccMode, Obj.ccSlices, Obj.ccPeriod, Obj.ccOffset]).now = h.now := congrArg (fun t => t.ltc.toNat) time
  unfold Hub.ccBoundary
  revert now
  generalize h.applyRwb _ = g
  intro now
  dsimp only
  rw [(Hub.LeavesTime.dupBoundary (Hub.LeavesTime.refl _)).time, now]

end Sys2Proof.Machine

open Sys2Proof Sys2Proof.Machine

/-- Settles O21: an action leaves the trigger table and its objects, so that a firing counts and settles its entry whatever it does. -/
theorem triggersCommitFireAndPass : Obligations.TriggersCommitFireAndPass := by
  unfold Obligations.TriggersCommitFireAndPass
  refine ⟨?commit, ?fire, ?skip, ?late, fun s => ⟨_, rfl, rfl, ccNumber_ccBoundary s.hub⟩⟩
  case commit =>
    intro s e sound armed usable room
    have eq : s.hub.trigCommit e.val = s.hub.trigFix e.val := if_neg (by simp [sound, armed, usable]; exact room)
    obtain ⟨t, next, rest, hub⟩ := next_hub (c := .triggerCommit e) (congrArg (fun h => Host.Outcome.next (s.withHub h)) eq)
    refine ⟨t, next, rest, ?_⟩
    rw [hub]
    exact ⟨state_settles _ _ _ _, trig_settles _ _ tsCommitted _, rfl⟩
  case fire =>
    intro s e c mem sound committed action x a g shot last next room acts h
    have eq : s.hub.trigFire e.val c.1 = _ := trigFire_eq sound committed action
    have nx : s.hub.nextTarget e.val g.target 1 = next := congrArg (fun p => (g.target + p) % _) (Nat.one_mul _)
    rw [nx] at eq
    have stands := Hub.TableStands.trigAct s.hub e.val g.firing false
    have acted (does : acts) : s.hub.trigAct e.val g.firing false
        = h.performs c.1 e.val x a g.firing false (s.hub.startYields e.val g.firing) := by
      rw [trigAct_acts (fun H => does.1 H.1) does.2, action]
      rfl
    revert eq stands acted
    generalize s.hub.trigAct e.val g.firing false = did
    intro eq stands acted
    obtain ⟨t, step, rest, hub⟩ := next_hub ((exec_fire s e c mem).trans (congrArg (fun h => Host.Outcome.next (s.withHub h)) eq))
    obtain ⟨table, dict, onlyTable⟩ : did.OnlyTable t.hub := hub ▸ (Hub.OnlyTable.trigFired did e.val g.firing next).trans (Hub.OnlyTable.slotFreed _ _)
    have roomy (free : room) : t.hub = did.trigFired e.val g.firing next := by
      rw [hub, decide_eq_false (Nat.not_le.mpr free)]
      rfl
    have key (o : Nat) (low : 0x140000 ≤ o) (high : o < 0x148100) : timeKey (o + e.val * 256) := by
      have := e.isLt
      unfold timeKey
      omega
    obtain ⟨counted, tally, stamped⟩ := notesFiring_reads did e.val g.firing
    have noted {o : Nat} (state : o % 256 ≠ 0xE) (enable : o % 256 ≠ 1) : t.hub.num o = (did.notesFiring e.val g.firing).num o := by
      rw [hub, num_slotFreed _ _ state, num_trigFired _ _ _ _ state enable]
    refine ⟨t, step, rest, ?_, ?_, ?_, fun free => ?_, ?_, ?_, ?_, ?_, ?_, ?_, ?_⟩
    · rw [noted (by unfold Obj.fireCount; omega) (by unfold Obj.fireCount; omega), counted,
        stands.num (o := Obj.fireCount e.val) (key 0x148011 (by decide) (by decide))]
    · rw [noted (by decide) (by decide), tally, stands.num (by decide)]
    · rw [noted (by unfold Obj.lastFireLtc; omega) (by unfold Obj.lastFireLtc; omega), stamped]
    · have ends : did.firesLast e.val ↔ shot ∨ last := by
        unfold Hub.firesLast
        rw [stands.num (o := Obj.trigShape e.val) (key 0x148003 (by decide) (by decide)),
          stands.num (o := Obj.repeatCount e.val) (key 0x148012 (by decide) (by decide)), stands.entry]
      obtain ⟨state, entry⟩ := trigFired_entry did e.val g.firing next
      have ran : (did.trig e.val).fires = g.fires := congrArg TrigState.fires (stands.entry e.val)
      rw [roomy free, state, entry]
      exact ⟨if_congr ends rfl rfl, if_congr ends rfl (by rw [ran])⟩
    · intro one does free
      rw [roomy free, acted does, one]
      rfl
    · intro five does alone free
      rw [roomy free, acted does, five, alone]
      rfl
    · intro two does mode
      rw [onlyTable]
      show (did.chan x).cstart = true
      rw [acted does, two]
      exact cstart_cstartFire (h := h) mode
    · intro three does
      rw [onlyTable]
      show (did.sq x).events = _
      rw [acted does, three]
      exact events_seqEvent h x a
    · intro four does keeper
      rw [onlyTable]
      show _ ∈ did.out
      rw [acted does, four]
      exact out_fireCcNotice h e.val keeper
    · intro six does mode level
      rw [onlyTable]
      show SMap.get (fun _ => false) did.time.toutLevel x = _
      rw [acted does, six]
      exact toutLevel_fireTout (h := h) mode level g.firing
    · intro seven does
      rw [onlyTable]
      show did.time.snap = _
      rw [acted does, seven]
      exact snap_marksAct s.hub c.1 x e.val g.firing 1 e.val
  case skip =>
    intro s e sound armed usable skip n
    obtain ⟨t, step, rest, hub⟩ :=
      next_hub (c := .triggerInstantPassed e) (congrArg (fun h => Host.Outcome.next (s.withHub h)) (trigPassed_skip sound armed usable skip))
    have noted {o : Nat} (state : o % 256 ≠ 0xE) : t.hub.num o = (s.hub.notesMissed e.val n).num o := by
      rw [hub]
      split
      · exact num_settles _ _ _ _ state
      · rfl
    have kept {o : Nat} (row : o / 256 = 0x1480 + e.val) : (s.hub.notesMissed e.val n).num o = s.hub.num o := by
      have := e.isLt
      rw [num_notesMissed s.hub e.val n (by unfold Obj.inlineCheckFailures; omega), if_neg (by unfold Obj.missedTally; omega)]
    refine ⟨t, step, rest, ?_, ?_, fun shot => ?_, fun periodic => ?_⟩
    · rw [noted (by decide), num_notesMissed s.hub e.val n (by decide), if_pos rfl]
    · rw [noted (by decide), num_notesMissed s.hub e.val n (by decide), if_neg (by decide)]
    · rw [hub, if_pos (beq_iff_eq.mpr shot)]
      exact ⟨state_settles _ _ _ _, trig_settles _ _ tsMissed _⟩
    · rw [hub, if_neg (fun shot => periodic (beq_iff_eq.mp shot)), Hub.nextTarget, kept (by unfold Obj.period; omega),
        kept (by unfold Obj.trigBasis; omega)]
      exact ⟨(kept (by unfold Obj.trigState; omega)).trans armed, Hub.trig_setTrig_self _ _ _⟩
  case late =>
    intro s e sound armed usable fire shot none_
    obtain ⟨late, next, eq⟩ := trigPassed_fire sound armed usable fire shot
    obtain ⟨t, step, rest, hub⟩ := next_hub (c := .triggerInstantPassed e) (congrArg (fun h => Host.Outcome.next (s.withHub h)) eq)
    obtain ⟨time, object⟩ := Hub.TableStands.notesLate s.hub e.val late
    have now : (s.hub.notesLate e.val late).now = s.hub.now := congrArg (fun t => t.ltc.toNat) time
    have tallied : (s.hub.notesLate e.val late).num Obj.lateTally = satAdd (maxWord 32) (s.hub.num Obj.lateTally) 1 :=
      (Hub.num_notice _ _ _ _ _ (by decide) (by decide) (by decide)).trans ((Hub.num_count _ _ _).trans (if_pos rfl))
    have stands := Hub.TableStands.trigAct (s.hub.notesLate e.val late) e.val s.hub.now true
    rw [now] at hub
    revert hub stands
    generalize (s.hub.notesLate e.val late).trigAct e.val s.hub.now true = did
    intro hub stands
    have row (k : Nat) (low : 0x148000 ≤ k) (high : k < 0x148100) : timeKey (k + e.val * 256) ∧ k + e.val * 256 ≠ Obj.lateTally := by
      have := e.isLt
      unfold timeKey Obj.lateTally
      omega
    have did_row (k : Nat) (low : 0x148000 ≤ k) (high : k < 0x148100) : did.num (k + e.val * 256) = s.hub.num (k + e.val * 256) :=
      (stands.num (row k low high).1).trans (object _ (row k low high).1 (row k low high).2)
    have done : did.firesLast e.val := .inl ((did_row 0x148003 (by decide) (by decide)).trans shot)
    obtain ⟨counted, -, stamped⟩ := notesFiring_reads did e.val s.hub.now
    refine ⟨t, step, rest, ?_, ?_, ?_, ?_⟩
    · rw [hub, (trigFired_entry did e.val s.hub.now next).1, if_pos done]
    · rw [hub, num_trigFired _ _ _ _ (by decide) (by decide), notesFiring_other _ _ _ (by decide), stands.num (by decide), tallied]
    · rw [hub, num_trigFired _ _ _ _ (by unfold Obj.fireCount; omega) (by unfold Obj.fireCount; omega), counted]
      exact congrArg (satAdd (maxWord 32) · 1) (did_row 0x148011 (by decide) (by decide))
    · rw [hub, num_trigFired _ _ _ _ (by unfold Obj.lastFireLtc; omega) (by unfold Obj.lastFireLtc; omega), stamped]
end

section
/-!
The stallholder's write of a write-only object (R23, R424, R440 to R448): how the keeper serves it, and what the objects of the time unit, the ring, the
bridge, the switch, the queues, the channels, the ledger and the CAN controllers do.
-/
namespace Sys2Proof.Machine

/-! ### Numbers in octets -/

theorem length_leBytes (n v : Nat) : (leBytes n v).length = n := by
  induction n generalizing v with
  | zero => rfl
  | succ n ih => exact congrArg (· + 1) (ih _)

theorem leNat_leBytes (n : Nat) {v : Nat} (fits : v < 256 ^ n) : leNat (leBytes n v) = v := by
  induction n generalizing v with
  | zero => exact (Nat.lt_one_iff.mp fits).symm
  | succ n ih =>
    have rest := ih (v := v / 256) (Nat.div_lt_of_lt_mul (by rwa [Nat.pow_succ, Nat.mul_comm] at fits))
    have octet : (BitVec.ofNat 8 v).toNat = v % 256 := BitVec.toNat_ofNat v 8
    unfold leBytes leNat
    omega

/-! ### Rows of write-only objects -/

/-- A subindex that has a row stands at a populated index. -/
theorem populated_of_findDesc {mode idx sub : Nat} {p : Block × Desc} (found : findDesc mode idx sub allBlocks = some p) : populated idx = true := by
  have covered (bs : List Block) (found : findDesc mode idx sub bs = some p) :
      bs.any (fun b => decide (b.base ≤ idx ∧ idx < b.base + b.count)) = true := by
    induction bs with
    | nil => cases found
    | cons b bs ih =>
      rw [List.any_cons, Bool.or_eq_true]
      unfold findDesc at found
      split at found
      next covers => exact .inl (Bool.and_eq_true _ _ ▸ covers).1
      next => exact .inr (ih found)
  exact covered allBlocks found

/-- A row of tables that hold in every mode is found in every mode. -/
theorem findDesc_anyMode {idx sub : Nat} (mode : Nat) {bs : List Block}
    (unmoded : ∀ b ∈ bs, b.mode ≠ 0 → b.base ≤ idx ∧ idx < b.base + b.count → findRow sub b.subs = none) :
    findDesc mode idx sub bs = findDesc 0 idx sub bs := by
  induction bs with
  | nil => rfl
  | cons b bs ih =>
    have rest := ih fun c mem => unmoded c (List.mem_cons_of_mem _ mem)
    unfold findDesc
    rw [rest]
    by_cases any : b.mode = 0
    · simp [Block.covers, any]
    · by_cases here : b.base ≤ idx ∧ idx < b.base + b.count
      · simp [unmoded b List.mem_cons_self any here]
      · simp [Block.covers, here]

/-- The description of a subindex other than 00 is its row's. -/
theorem descOf_row (h : Hub) (idx : Nat) {sub : Nat} (row : sub ≠ 0) : h.descOf idx sub = (findDesc (h.modeOf idx) idx sub allBlocks).map Prod.snd :=
  if_neg row

theorem indexCheck_row {h : Hub} {idx sub : Nat} {d : Desc} (row : h.descOf idx sub = some d) (sub_ : sub ≠ 0) : h.indexCheck idx sub = 0 := by
  have row' := row
  rw [descOf_row h idx sub_, Option.map_eq_some_iff] at row'
  obtain ⟨p, found, -⟩ := row'
  unfold Hub.indexCheck
  rw [populated_of_findDesc found, row]
  rfl

/-! ### Serving the stallholder's write -/

theorem serves_iff {h : Hub} {r : Requester} {m : DictMsg} : h.serves r m = true ↔ h.time.cclk = true ∧ h.keeper.ready = true ∧ h.keeperRuns = true
    ∧ h.upd.halted = false ∧ h.upd.recovery = false ∧ h.keeper.waiting.isEmpty = true ∧ h.ringRepeat (h.request r m) = none := by
  simp only [Hub.serves, Bool.and_eq_true, Bool.not_eq_true', Option.isNone_iff_eq_none, and_assoc]

/-- A request that the keeper serves the moment it comes (R440). -/
theorem ask_serves {h : Hub} {r : Requester} {m : DictMsg} (now : h.serves r m = true) : h.ask r m = h.serve (h.request r m) := by
  obtain ⟨cclk, ready, runs, halted, recovery, empty, fresh⟩ := serves_iff.mp now
  have awake : h.mode < modeRest := of_decide_eq_true (Bool.and_eq_true _ _ ▸ runs).1
  have none_ : h.keeper.waiting = [] := List.isEmpty_iff.mp empty
  have fresh' : h.ringRepeat { by_ := r, msg := m, held := false || h.holdsStall r } = none := fresh
  unfold Hub.ask Hub.arrive
  dsimp only
  rw [if_neg (by simp [cclk, halted]; exact fun H => absurd (H ▸ awake) (by decide)), if_neg (by simp [recovery]), if_neg (by simp [ready]), fresh']
  dsimp only
  rw [if_neg (by simp [none_]), if_pos ⟨empty, runs⟩]
  rfl

variable {h : Hub} {r : Requester} {token key : Nat} {b : List Byte}

/-- The message of a write names its key. -/
theorem key_writeMsg (token key : Nat) (b : List Byte) : (writeMsg token key b).index * 256 + (writeMsg token key b).sub = key := Nat.div_add_mod' key 256

theorem malformed_writeMsg (token key : Nat) (b : List Byte) : malformed (writeMsg token key b) = false := by
  simp [malformed, writeMsg, knownOps, opWrite]

/-- The stallholder's write passes the tests of form and of its path (R448 tests 1 and 2). -/
theorem entryCheck_writeMsg (recovery : h.upd.recovery = false) (may : h.mayWrite r = true) : h.entryCheck r (writeMsg token key b) = 0 := by
  simp only [Hub.mayWrite, Hub.mayRead, Bool.and_eq_true, Bool.or_eq_true, bne_iff_ne] at may
  obtain ⟨⟨ring, station⟩, service⟩ := may
  have op : (writeMsg token key b).op = opWrite := rfl
  unfold Hub.entryCheck
  rw [op, malformed_writeMsg, recovery]
  dsimp only
  rw [if_neg (by decide), if_neg (by decide), if_neg (fun H => absurd H.1 (by decide)), if_neg (fun H => ring.elim (· H.1) (by simp [H.2])),
    if_neg (fun H => station.elim (· H.2.1) (by simp [H.2.2])), if_neg (fun H => service.elim (· H.2.1) (by simp [H.2.2])),
    if_neg (fun H => absurd H.1 (by decide))]

/-- What the stallholder writes to a write-only object reaches the object (R448 tests 3 to 5). -/
theorem serveWrite_wo {q : KReq} {d : Desc} (recovery : h.upd.recovery = false) (owns : h.owns q = true)
    (row : h.descOf q.msg.index q.msg.sub = some d) (sub : q.msg.sub ≠ 0) (acc : d.acc = .wo) (access : accessOf q.msg.index q.msg.sub d = .wo)
    (plain : d.ty.isDomain = false) {g : Hub} (effect : h.woWrite q.msg.index q.msg.sub d q.msg.data = (0, g)) :
    h.serveWrite q = (bare q.msg 0, g.napRefresh.renewFor q.by_ (h.num Obj.leaseTime)) := by
  have desc : h.descAt q.msg.index q.msg.sub = d := by
    unfold Hub.descAt
    rw [row]
    rfl
  have object : h.objectCheck q.msg.index q.msg.sub = 0 := (if_neg (by simp [recovery])).trans (indexCheck_row row sub)
  have entry : h.writeEntry q = 0 := by
    unfold Hub.writeEntry
    dsimp only
    rw [object, desc, access, owns]
    rfl
  have written : h.writeObject false q.msg.index q.msg.sub d q.msg.data = (0, g.napRefresh) := by
    unfold Hub.writeObject
    rw [if_pos acc, effect]
  unfold Hub.serveWrite
  dsimp only
  rw [entry, desc, written, if_neg (by decide), if_neg (by simp [plain]), if_pos rfl]

theorem handle_write {q : KReq} (op : q.msg.op = opWrite) (entry : h.entryCheck q.by_ q.msg = 0) :
    h.handle q = (some (h.serveWrite q).1, (h.serveWrite q).2) := by
  unfold Hub.handle
  dsimp only
  rw [op, entry]
  rfl

/-- A write that is answered, and is no restart of the update, leaves the hub with its response. -/
theorem serve_answered {q : KReq} (unlocked : h.readsLocked q.msg = false) {m : DictMsg} {g : Hub} (handled : h.handle q = (some m, g))
    (stays : q.msg.index * 256 + q.msg.sub ≠ Obj.updateRestart) : h.serve q = g.deliverResponse q m := by
  unfold Hub.serve
  dsimp only
  rw [unlocked, handled, if_neg Bool.false_ne_true]
  exact if_neg (fun H => stays H.2.1)

/-- The stallholder's write of a write-only object has its effect, and the lease and the response follow (R429, R443). -/
theorem ask_accepts {d : Desc} (may : h.canWrite r (writeMsg token key b) = true) (row : h.descOf (key / 256) (key % 256) = some d)
    (sub : key % 256 ≠ 0) (acc : d.acc = .wo) (access : accessOf (key / 256) (key % 256) d = .wo) (plain : d.ty.isDomain = false)
    (free : key ≠ Obj.windowCommit) (stays : key ≠ Obj.updateRestart) {g : Hub} (effect : h.woWrite (key / 256) (key % 256) d b = (0, g)) :
    h.ask r (writeMsg token key b) = h.accepts g r (writeMsg token key b) := by
  simp only [Hub.canWrite, Bool.and_eq_true] at may
  obtain ⟨⟨now, path⟩, holds⟩ := may
  obtain ⟨-, -, -, -, recovery, -, -⟩ := serves_iff.mp now
  have unlocked : h.readsLocked (writeMsg token key b) = false := by simp [Hub.readsLocked, key_writeMsg, free]
  have owns : h.owns (h.request r (writeMsg token key b)) = true := by simp [Hub.owns, Hub.request, holds]
  have written := serveWrite_wo (q := h.request r (writeMsg token key b)) recovery owns row sub acc access plain effect
  have handled := handle_write (q := h.request r (writeMsg token key b)) rfl (entryCheck_writeMsg recovery path)
  rw [written] at handled
  rw [ask_serves now]
  exact serve_answered unlocked handled ((key_writeMsg token key b).trans_ne stays)

/-! ### Write-only BOOL objects -/

/-- The row of a write-only BOOL object. -/
abbrev boolDesc (sub : Nat) : Desc := wo sub .bool (.num 0) []

/-- A key, in a channel mode, is a write-only BOOL object other than a clear-tallies. -/
abbrev TakesTrue (mode key : Nat) : Prop :=
  (findDesc mode (key / 256) (key % 256) allBlocks).map Prod.snd = some (boolDesc (key % 256)) ∧ key % 256 ≠ 0
    ∧ accessOf (key / 256) (key % 256) (boolDesc (key % 256)) = .wo ∧ clearBlock (key / 256) (key % 256) = none
    ∧ key ≠ Obj.windowCommit ∧ key ≠ Obj.updateRestart

/-- True is a value of a BOOL (R423). -/
theorem check_true {d : Desc} (ty : d.ty = .bool) : d.check [1] = 0 := by
  unfold Desc.check
  rw [ty]
  rfl

theorem woWrite_true {idx sub : Nat} {d : Desc} (ty : d.ty = .bool) (effect : clearBlock idx sub = none) : h.woWrite idx sub d [1] = h.trueWritten idx sub := by
  unfold Hub.woWrite
  rw [check_true ty, if_neg (by decide), if_pos ty, if_neg (by decide), effect]

theorem woWrite_clear {idx sub : Nat} {d : Desc} {blk : Block} (ty : d.ty = .bool) (clears : clearBlock idx sub = some blk) :
    h.woWrite idx sub d [1] = (0, h.clearTallies blk idx) := by
  unfold Hub.woWrite
  rw [check_true ty, if_neg (by decide), if_pos ty, if_neg (by decide), clears]

/-- The stallholder writes true (R424). -/
theorem askTrue_accepts (may : h.canWrite r (writeMsg token key [1]) = true) (takes : TakesTrue (h.modeOf (key / 256)) key) {g : Hub}
    (effect : h.trueWritten (key / 256) (key % 256) = (0, g)) : h.askTrue r token key = h.accepts g r (writeMsg token key [1]) := by
  obtain ⟨row, sub, access, clears, free, stays⟩ := takes
  exact ask_accepts may ((descOf_row h _ sub).trans row) sub rfl access rfl free stays ((woWrite_true rfl clears).trans effect)

/-- An index that is no channel's has its objects in every mode. -/
theorem modeOf_unit {idx : Nat} (apart : idx < 0x2000 ∨ 0x20C0 ≤ idx) (h : Hub) : h.modeOf idx = 0 := if_neg (by omega)

/-- A channel's objects are those of its mode (R245). -/
theorem modeOf_channel (h : Hub) (c : Fin 192) : h.modeOf (0x2000 + c.val) = h.num (Obj.chMode c.val) := by
  unfold Hub.modeOf
  rw [if_pos (by omega), Nat.add_sub_cancel_left]

theorem takesTrue_unit : ∀ k ∈ [Obj.disarmAll, Obj.rejoin, Obj.clearFaultLog, Obj.commit, Obj.discard, Obj.clearLedger], TakesTrue 0 k := by
  decide +kernel

theorem takesTrue_flush : ∀ q : Fin 64, TakesTrue 0 (Obj.flush q.val) := by decide +kernel

theorem takesTrue_can : ∀ n : Fin 48, TakesTrue 0 (Obj.busOffRestart n.val) ∧ TakesTrue 0 (Obj.matrixStop n.val) := by decide +kernel

theorem takesTrue_pulse : ∀ c : Fin 192, TakesTrue modePulse ((0x2000 + c.val) * 256 + 0x23) := by decide +kernel

theorem takesTrue_lsRearm : ∀ c : Fin 192, TakesTrue 0 (Obj.lsRearm c.val) := by decide +kernel

/-- The mode subindexes of a channel begin at 20 (R245): ls-rearm stands in every mode. -/
theorem unmoded_lsRearm : ∀ b ∈ allBlocks, b.mode ≠ 0 → findRow 0x11 b.subs = none := by decide +kernel

/-- A unit's object takes true. -/
theorem askTrue_unit (may : h.canWrite r (writeMsg token key [1]) = true) (takes : TakesTrue 0 key)
    (unit : key / 256 < 0x2000 ∨ 0x20C0 ≤ key / 256) {g : Hub} (effect : h.trueWritten (key / 256) (key % 256) = (0, g)) :
    h.askTrue r token key = h.accepts g r (writeMsg token key [1]) :=
  askTrue_accepts may ((modeOf_unit unit h).symm ▸ takes) effect

/-! ### What the objects do -/

theorem trueWritten_queue {q : Nat} (lt : q < 64) (h : Hub) {sub : Nat} (octet : sub < 256) :
    h.trueWritten (0x1900 + q) sub = if h.isOn (fidQueue q) then (0, h.flushQueue q) else (8, h) := by
  unfold Hub.trueWritten Obj.disarmAll Obj.rejoin Obj.clearFaultLog Obj.commit Obj.discard
  dsimp only
  rw [if_neg (by omega), if_neg (by omega), if_neg (by omega), if_neg (by omega), if_neg (by omega), if_pos (by omega), Nat.add_sub_cancel_left]

theorem trueWritten_channel {c : Nat} (lt : c < 192) (h : Hub) {sub : Nat} (octet : sub < 256) :
    h.trueWritten (0x2000 + c) sub = if sub = 0x11 then (0, h.enableDriver c) else (0, h.setNum (Obj.pulseCount c) 0) := by
  unfold Hub.trueWritten Obj.disarmAll Obj.rejoin Obj.clearFaultLog Obj.commit Obj.discard
  dsimp only
  rw [if_neg (by omega), if_neg (by omega), if_neg (by omega), if_neg (by omega), if_neg (by omega), if_neg (by omega), if_pos (by omega),
    Nat.add_sub_cancel_left]

theorem trueWritten_can {n : Nat} (lt : n < 48) (h : Hub) {sub : Nat} (octet : sub < 256) :
    h.trueWritten (0x2300 + n) sub = if sub = 0x12 then (0, h.canRestart n) else (0, h.matrixStop n) := by
  unfold Hub.trueWritten Obj.disarmAll Obj.rejoin Obj.clearFaultLog Obj.commit Obj.discard Obj.clearLedger
  dsimp only
  rw [if_neg (by omega), if_neg (by omega), if_neg (by omega), if_neg (by omega), if_neg (by omega), if_neg (by omega), if_neg (by omega),
    if_neg (by omega), if_pos (by omega), Nat.add_sub_cancel_left]

/-- A commit that passes its checks flips the table (R184). -/
theorem commitWrite_flips (drained : h.drainCount = 0) (passes : h.commitCheck = 0) : h.commitWrite = (0, h.flip) := by
  unfold Hub.commitWrite
  rw [if_neg (by simp [drained]), if_neg (by simp [passes])]

/-- A reset of a resettable function is accepted, also one that merges with another (R35, R492). -/
theorem resetBy_accepted {fid : Nat} (ok : resettable fid = true) (quiet : h.flag Obj.hubFault = false) (path : RegPath) :
    (h.resetBy path fid).1 = true := by
  have done : (h.functionReset fid).1 = true := by
    unfold Hub.functionReset
    rw [ok, quiet, if_neg (by decide)]
    split
    · rfl
    · rfl
  unfold Hub.resetBy
  dsimp only
  split
  · exact done
  · split
    · rfl
    · rfl

/-- A key is a write-only object of 16 or 32 bits without a range. -/
abbrev TakesNumber (key : Nat) (ty : Ty) (n : Nat) : Prop :=
  (findDesc 0 (key / 256) (key % 256) allBlocks).map Prod.snd = some (wo (key % 256) ty (.num 0) []) ∧ key % 256 ≠ 0
    ∧ (key / 256 < 0x2000 ∨ 0x20C0 ≤ key / 256) ∧ (ty = .u16 ∧ n = 2 ∨ ty = .u32 ∧ n = 4) ∧ accessOf (key / 256) (key % 256) (wo (key % 256) ty (.num 0) []) = .wo
    ∧ key ≠ Obj.windowCommit ∧ key ≠ Obj.updateRestart

/-- Every number of its width is a value of such an object (R423). -/
theorem check_leBytes {sub n v : Nat} {ty : Ty} (width : ty = .u16 ∧ n = 2 ∨ ty = .u32 ∧ n = 4) : (wo sub ty (.num 0) []).check (leBytes n v) = 0 := by
  have accepts (ty : Ty) (x : Int) : (wo sub ty (.num 0) []).accepts x = true := by simp [Desc.accepts, wo]
  obtain ⟨rfl, rfl⟩ | ⟨rfl, rfl⟩ := width
  · show (if (leBytes 2 v).length ≠ 2 then 5 else if (wo sub .u16 (.num 0) []).accepts _ = true then 0 else 6) = 0
    rw [if_neg (not_not.mpr (length_leBytes 2 v)), if_pos (accepts _ _)]
  · show (if (leBytes 4 v).length ≠ 4 then 5 else if (wo sub .u32 (.num 0) []).accepts _ = true then 0 else 6) = 0
    rw [if_neg (not_not.mpr (length_leBytes 4 v)), if_pos (accepts _ _)]

/-- The stallholder writes a number to such an object. -/
theorem askNumber_accepts {ty : Ty} {n v : Nat} (may : h.canWrite r (writeMsg token key (leBytes n v)) = true) (takes : TakesNumber key ty n)
    (fits : v < 256 ^ n) {g : Hub} (effect : h.numberWritten (key / 256) (key % 256) v (leBytes n v) = (0, g)) :
    h.ask r (writeMsg token key (leBytes n v)) = h.accepts g r (writeMsg token key (leBytes n v)) := by
  obtain ⟨row, sub, unit, width, access, free, stays⟩ := takes
  have number : ty ≠ .bool ∧ ty.isDomain = false := by
    obtain ⟨rfl, -⟩ | ⟨rfl, -⟩ := width
    · decide
    · decide
  refine ask_accepts may (d := wo (key % 256) ty (.num 0) []) ?_ sub rfl access number.2 free stays ?_
  · rw [descOf_row h _ sub, modeOf_unit unit, row]
  · unfold Hub.woWrite
    rw [check_leBytes width, if_neg (by decide), if_neg (show (wo _ ty (.num 0) []).ty ≠ .bool from number.1), leNat_leBytes n fits, effect]

end Sys2Proof.Machine

open Sys2Proof Sys2Proof.Machine

/-- Settles O13: the keeper serves the stallholder's write at once, the object's row says that it takes the value, and what follows is the object's effect. -/
theorem hubWritesOfTrueTakeEffect : Obligations.HubWritesOfTrueTakeEffect := by
  unfold Obligations.HubWritesOfTrueTakeEffect
  have step {c : Instr} {s : State} {g k : Hub} (runs : exec c s = .next (s.withHub g)) (eq : g = k) : exec c s = .next (s.withHub k) := eq ▸ runs
  refine ⟨?freset, ?clear, ?disarmAll, ?rejoin, ?faultLog, ?commit, ?discard, ?flush, ?pulse, ?lsRearm, ?exportFrom, ?ledger, ?restart, ?matrix⟩
  case freset =>
    intro s r token fid may ok quiet
    refine step (c := .fresetObjectWrite r token fid) rfl (askNumber_accepts (ty := .u16) may (by decide +kernel) fid.isLt ?_)
    show (if (s.hub.resetBy .keeper fid.toNat).1 = true then 0 else 6, _) = _
    rw [resetBy_accepted ok quiet]
    rfl
  case clear =>
    intro s r token index sub blk may clears desc access
    have idx : (index.toNat * 256 + sub.toNat) / 256 = index.toNat := by omega
    have sub_ : (index.toNat * 256 + sub.toNat) % 256 = sub.toNat := by omega
    have clearing (k : Nat) (single : clearBlock (k / 256) (k % 256) = none) : index.toNat * 256 + sub.toNat ≠ k := by
      rintro rfl
      rw [idx, sub_, clears] at single
      cases single
    obtain ⟨d, row, types⟩ := Option.map_eq_some_iff.mp desc
    obtain ⟨acc, ty⟩ := Prod.mk.inj types
    have at_ : s.hub.descAt index.toNat sub.toNat = d := congrArg (Option.getD · _) row
    have nonzero : sub.toNat ≠ 0 := by
      intro zero
      rw [zero, show s.hub.descOf index.toNat 0 = if populated index.toNat then some _ else none from rfl] at row
      split at row
      · cases row
        cases acc
      · cases row
    refine step (c := .clearTallies r token index sub) rfl (ask_accepts may (d := d) ?_ ?_ acc ?_ ?_
      (clearing _ (by decide +kernel)) (clearing _ (by decide +kernel)) ?_)
    · rw [idx, sub_, row]
    · rwa [sub_]
    · rw [idx, sub_, ← at_, access]
    · rw [ty]
      rfl
    · rw [idx, sub_]
      exact woWrite_clear ty clears
  case disarmAll => exact fun s r token may => step (c := .triggerDisarmAll r token) rfl (askTrue_unit may (takesTrue_unit _ (by decide)) (by decide) rfl)
  case rejoin => exact fun s r token may => step (c := .rejoin r token) rfl (askTrue_unit may (takesTrue_unit _ (by decide)) (by decide) rfl)
  case faultLog => exact fun s r token may => step (c := .clearFaultLog r token) rfl (askTrue_unit may (takesTrue_unit _ (by decide)) (by decide) rfl)
  case commit =>
    exact fun s r token may drained passes => step (c := .fwdCommit r token) rfl
      (askTrue_unit may (takesTrue_unit _ (by decide)) (by decide) (commitWrite_flips drained passes))
  case discard => exact fun s r token may => step (c := .fwdDiscard r token) rfl (askTrue_unit may (takesTrue_unit _ (by decide)) (by decide) rfl)
  case flush =>
    intro s r token q may on
    have idx : Obj.flush q.val / 256 = 0x1900 + q.val := by unfold Obj.flush; omega
    refine step (c := .queueFlush r token q) rfl (askTrue_unit may (takesTrue_flush q) (by omega) ?_)
    rw [idx, trueWritten_queue q.isLt s.hub (Nat.mod_lt _ (by decide)), if_pos on]
  case pulse =>
    intro s r token c may mode
    have idx : ((0x2000 + c.val) * 256 + 0x23) / 256 = 0x2000 + c.val := by omega
    refine step (c := .pulseCountReset r token c) rfl (askTrue_accepts may ?_ ?_)
    · rw [idx, modeOf_channel, mode]
      exact takesTrue_pulse c
    · rw [idx, trueWritten_channel c.isLt s.hub (Nat.mod_lt _ (by decide)), if_neg (by omega)]
  case lsRearm =>
    intro s r token c may off
    have idx : Obj.lsRearm c.val / 256 = 0x2000 + c.val := by unfold Obj.lsRearm; omega
    have sub : Obj.lsRearm c.val % 256 = 0x11 := by unfold Obj.lsRearm; omega
    refine step (c := .lsRearm r token c) rfl (askTrue_accepts may ?_ ?_)
    · refine ⟨(findDesc_anyMode _ fun b mem mode _ => ?_) ▸ (takesTrue_lsRearm c).1, (takesTrue_lsRearm c).2⟩
      exact sub ▸ unmoded_lsRearm b mem mode
    · rw [idx, trueWritten_channel c.isLt s.hub (Nat.mod_lt _ (by decide)), if_pos sub]
  case exportFrom =>
    intro s r token from_ may route
    refine step (c := .ledgerExportStart r token from_) rfl (askNumber_accepts (ty := .u32) may (by decide +kernel) from_.isLt ?_)
    exact congrArg (Prod.mk 0) (if_neg route)
  case ledger => exact fun s r token may => step (c := .ledgerClear r token) rfl (askTrue_unit may (takesTrue_unit _ (by decide)) (by decide) rfl)
  case restart =>
    intro s r token n may on off recovery
    have idx : Obj.busOffRestart n.val / 256 = 0x2300 + n.val := by unfold Obj.busOffRestart; omega
    refine step (c := .canBusOffRestart r token n) rfl (askTrue_unit may (takesTrue_can n).1 (by omega) ?_)
    rw [idx, trueWritten_can n.isLt s.hub (Nat.mod_lt _ (by decide)), if_pos (by unfold Obj.busOffRestart; omega)]
    exact congrArg (Prod.mk 0) (if_pos (by simp [on, off, recovery]))
  case matrix =>
    intro s r token n may
    have idx : Obj.matrixStop n.val / 256 = 0x2300 + n.val := by unfold Obj.matrixStop; omega
    refine step (c := .canMatrixStop r token n) rfl (askTrue_unit may (takesTrue_can n).2 (by omega) ?_)
    rw [idx, trueWritten_can n.isLt s.hub (Nat.mod_lt _ (by decide)), if_neg (by unfold Obj.matrixStop; omega)]
    rfl
end

section
/-!
The transmit lanes (R113 to R117): what a lane picks at a frame boundary, rank by rank, and what it does as a frame leaves.
-/
namespace Sys2Proof.Machine

/-- A lane is a part of the ring interface. -/
theorem lane_of_ring {h g : Hub} (ring : g.ring = h.ring) (w : Bool) : g.lane w = h.lane w := by
  unfold Hub.lane
  rw [ring]

/-! ### A frame leaves -/

/-- The lane that a frame leaves behind: a DELAY_REQ leaves the ST of its departure (R121). -/
def Hub.laneAfter (h : Hub) (west : Bool) (l : Lane) (f : RingFrame) : Lane :=
  if f.type = tTime ∧ byteAt f.payload 0 = 1 then { l with delayT1 := h.stUnits h.now (h.txFrac west) } else l

/-- From `h` to `g` a frame has left by a port, and its lane has become `l` before what the departure itself notes. -/
structure Hub.FrameLeft (h : Hub) (west : Bool) (l : Lane) (f : RingFrame) (g : Hub) : Prop where
  lane : g.lane west = h.laneAfter west l f
  other : g.lane (!west) = h.lane (!west)
  out : g.out = (if f.aborted then [.ringControl west .abortMarker, .ringControl west .idle] else [])
    ++ .ringFrame west (h.departing west f).sealed :: h.out
  frames : g.num (Obj.rportFramesTx (portIx west)) = satAdd (maxWord 32) (h.num (Obj.rportFramesTx (portIx west))) 1

theorem laneSend_eq (h : Hub) (west : Bool) (l : Lane) (f : RingFrame) :
    h.laneSend west l f = (((h.setLane west (h.laneAfter west l f)).count (Obj.rportFramesTx (portIx west))).emit
      (.ringFrame west (h.departing west f).sealed)).when f.aborted
        (fun h => (h.emit (.ringControl west .idle)).emit (.ringControl west .abortMarker)) := rfl

/-- A frame that leaves counts in frames-tx, and in no other object (R127). -/
theorem num_laneSend (h : Hub) (west : Bool) (l : Lane) (f : RingFrame) (k : Nat) :
    (h.laneSend west l f).num k = (h.count (Obj.rportFramesTx (portIx west))).num k := by
  have counted : ((h.setLane west (h.laneAfter west l f)).count (Obj.rportFramesTx (portIx west))).num k
      = (h.count (Obj.rportFramesTx (portIx west))).num k := by
    rw [Hub.num_count, Hub.num_count, Hub.num_congr _ h (Hub.setLane_dict h west _), Hub.num_congr _ h (Hub.setLane_dict h west _)]
  rw [laneSend_eq]
  unfold Hub.when
  split
  · exact counted
  · exact counted

theorem laneSend_leaves (h : Hub) (west : Bool) (l : Lane) (f : RingFrame) : h.FrameLeft west l f (h.laneSend west l f) := by
  have frames := (num_laneSend h west l f (Obj.rportFramesTx (portIx west))).trans ((Hub.num_count h _ _).trans (if_pos rfl))
  have out : ((h.setLane west (h.laneAfter west l f)).count (Obj.rportFramesTx (portIx west))).out = h.out := Hub.setLane_out h west _
  have lanes (w : Bool) : ((h.setLane west (h.laneAfter west l f)).count (Obj.rportFramesTx (portIx west))).lane w
      = (h.setLane west (h.laneAfter west l f)).lane w := lane_of_ring (Hub.count_ring _ _) w
  have here := (lanes west).trans (lane_setLane_same h west (h.laneAfter west l f))
  have there := (lanes (!west)).trans (lane_setLane_other h west (h.laneAfter west l f))
  rw [laneSend_eq] at frames ⊢
  revert frames out here there
  generalize (h.setLane west (h.laneAfter west l f)).count (Obj.rportFramesTx (portIx west)) = g
  intro frames out here there
  unfold Hub.when at frames ⊢
  by_cases aborted : f.aborted = true
  · rw [if_pos aborted] at frames ⊢
    exact ⟨here, there, by rw [if_pos aborted, ← out]; rfl, frames⟩
  · rw [if_neg aborted] at frames ⊢
    exact ⟨here, there, by rw [if_neg aborted, ← out]; rfl, frames⟩

/-- A frame that must wait for credit beside the one that leaves counts once (R115). -/
theorem Hub.FrameLeft.waits {h g : Hub} {west : Bool} {l : Lane} {b : RingFrame} (L : h.FrameLeft west l b g) (first : Bool) :
    h.FrameLeft west l b (g.when first (fun h => h.count (Obj.creditWaits (portIx west)))) := by
  unfold Hub.when
  split
  · refine ⟨(lane_of_ring (Hub.count_ring g _) west).trans L.lane, (lane_of_ring (Hub.count_ring g _) _).trans L.other, L.out, ?_⟩
    rw [Hub.num_count, if_neg (by unfold Obj.rportFramesTx Obj.creditWaits; omega)]
    exact L.frames
  · exact L

theorem num_creditWaits (h : Hub) (west : Bool) (l : Lane) (b f : RingFrame) :
    ((h.laneSend west l b).when (!f.waited) (fun h => h.count (Obj.creditWaits (portIx west)))).num (Obj.creditWaits (portIx west))
      = if f.waited then h.num (Obj.creditWaits (portIx west)) else satAdd (maxWord 32) (h.num (Obj.creditWaits (portIx west))) 1 := by
  have sent : (h.laneSend west l b).num (Obj.creditWaits (portIx west)) = h.num (Obj.creditWaits (portIx west)) := by
    rw [num_laneSend, Hub.num_count, if_neg (by unfold Obj.rportFramesTx Obj.creditWaits; omega)]
  unfold Hub.when
  cases f.waited with
  | true => exact sent
  | false => exact (Hub.num_count _ _ _).trans ((if_pos rfl).trans (by rw [sent]; rfl))

/-! ### Picking a frame -/

theorem pickLocal_nil (p : RingFrame → Bool) : pickLocal p [] = none := rfl

theorem pickLocal_head {p : RingFrame → Bool} {f : RingFrame} (fits : p f = true) (fs : List RingFrame) : pickLocal p (f :: fs) = some (f, fs) :=
  if_pos fits

theorem pickLocal_none {p : RingFrame → Bool} {fs : List RingFrame} (unfit : ∀ f ∈ fs, p f = false) : pickLocal p fs = none := by
  induction fs with
  | nil => rfl
  | cons f fs ih =>
    have head : ¬ p f = true := by simp [unfit f (by simp)]
    unfold pickLocal
    rw [if_neg head, ih fun g mem => unfit g (by simp [mem])]
    rfl

theorem pickLocal_noBrk {fs : List RingFrame} (none_ : fs.all (fun f => f.type != tBrk) = true) : pickLocal (fun f => f.type == tBrk) fs = none :=
  pickLocal_none fun f mem => by simpa using List.all_eq_true.mp none_ f mem

/-- A single local frame of classes 2 to 7 is the one that leaves by credit (R113). -/
theorem pickClass_single {f : RingFrame} (brk : f.type ≠ tBrk) (bcn : f.type ≠ tBcn) (low : 2 ≤ f.cls) (high : f.cls ≤ 7) :
    pickClass [f] classOrder = some (f, []) := by
  have known : ∀ cs : List Nat, f.cls ∈ cs → pickClass [f] cs = some (f, []) := by
    intro cs
    induction cs with
    | nil => simp
    | cons c cs ih =>
      intro mem
      unfold pickClass
      by_cases same : f.cls = c
      · rw [pickLocal_head (by simp [same, brk, bcn])]
      · rw [pickLocal_none (by simp [same])]
        exact ih ((List.mem_cons.mp mem).resolve_left same)
  refine known classOrder ?_
  have cls : f.cls = 2 ∨ f.cls = 3 ∨ f.cls = 4 ∨ f.cls = 5 ∨ f.cls = 6 ∨ f.cls = 7 := by omega
  simp only [classOrder, List.mem_cons, List.not_mem_nil, or_false]
  omega

/-- Whether a local frame goes before the classes by credit (R113, R116): a beacon, or classes 0 and 1 with a token. -/
def goesFirst (tokens : Nat) (f : RingFrame) : Bool := f.type == tBcn || (spendsToken f && decide (0 < tokens))

theorem spendsToken_iff (f : RingFrame) : spendsToken f = decide (f.cls ≤ 1) := by
  unfold spendsToken
  rw [Bool.eq_iff_iff, Bool.or_eq_true, beq_iff_eq, beq_iff_eq, decide_eq_true_iff]
  omega

theorem goesFirst_iff {tokens : Nat} {f : RingFrame} : goesFirst tokens f = true ↔ f.type = tBcn ∨ f.cls ≤ 1 ∧ 0 < tokens := by
  simp [goesFirst, spendsToken_iff]

theorem goesFirst_class {f : RingFrame} (tokens : Nat) (bcn : f.type ≠ tBcn) (low : 2 ≤ f.cls) : goesFirst tokens f = false := by
  rw [Bool.eq_false_iff, Ne, goesFirst_iff]
  omega

/-! ### The ranks of a lane that is UP -/

/-- The local frames that a lane may send: in hub fault the hub inserts none (R488). -/
def Hub.ownFrames (h : Hub) (west : Bool) : List RingFrame := if h.flag Obj.hubFault then [] else (h.lane west).loc

theorem ownFrames_sound {h : Hub} (sound : h.flag Obj.hubFault = false) (west : Bool) : h.ownFrames west = (h.lane west).loc :=
  if_neg (by simp [sound])

theorem ownFrames_noBrk {h : Hub} {west : Bool} (none_ : (h.lane west).loc.all (fun f => f.type != tBrk) = true) :
    pickLocal (fun f => f.type == tBrk) (h.ownFrames west) = none := by
  unfold Hub.ownFrames
  split
  · rfl
  · exact pickLocal_noBrk none_

/-- What a lane sends where neither queue has a BRK or a transit frame of ranks 1 and 2, and no local frame goes first (R113 to R115). -/
def Hub.sendsByCredit (h : Hub) (west : Bool) : Hub :=
  let l := h.lane west
  let cand := if bulkBytes l > 16384 then none else pickClass (h.ownFrames west) classOrder
  match l.bulk, cand with
  | [], none => h
  | t :: ts, none => h.laneSend west { l with bulk := ts } t
  | [], some (f, r) => h.laneSend west { l with loc := r } f
  | t :: ts, some (f, r) =>
    if f.occupancy ≤ l.credit then h.laneSend west { l with loc := r, credit := l.credit - f.occupancy } f
    else (h.laneSend west { l with bulk := ts, loc := markWaited f l.loc } t).when (!f.waited)
      (fun h => h.count (Obj.creditWaits (portIx west)))

section
variable {h : Hub} {west : Bool} {f : RingFrame} {fs : List RingFrame}

theorem txFrameDone_down (down : h.portUp west = false) : h.txFrameDone west = h := if_pos down

/-- Rank 1 of a lane: a BRK in transit. -/
theorem txFrameDone_transitBrk (up : h.portUp west = true) (prio : (h.lane west).prio = f :: fs) (brk : f.type = tBrk) :
    h.txFrameDone west = h.laneSend west { h.lane west with prio := fs } f := by
  unfold Hub.txFrameDone
  dsimp only
  rw [if_neg (by simp [up]), prio, pickLocal_head (by simp [brk])]

/-- A local BRK behind it. -/
theorem txFrameDone_ownBrk (up : h.portUp west = true) (prio : (h.lane west).prio.all (fun f => f.type != tBrk) = true)
    (loc : h.ownFrames west = f :: fs) (brk : f.type = tBrk) : h.txFrameDone west = h.laneSend west { h.lane west with loc := fs } f := by
  change (if h.flag Obj.hubFault then [] else (h.lane west).loc) = f :: fs at loc
  unfold Hub.txFrameDone
  dsimp only
  rw [if_neg (by simp [up]), pickLocal_noBrk prio, loc, pickLocal_head (by simp [brk])]

/-- Then the transit frames of ranks 1 and 2. -/
theorem txFrameDone_transit (up : h.portUp west = true) (prio : (h.lane west).prio = f :: fs)
    (noBrk : (h.lane west).prio.all (fun f => f.type != tBrk) = true) (own : (h.lane west).loc.all (fun f => f.type != tBrk) = true) :
    h.txFrameDone west = h.laneSend west { h.lane west with prio := fs } f := by
  have none_ := ownFrames_noBrk own
  unfold Hub.ownFrames at none_
  unfold Hub.txFrameDone
  dsimp only
  rw [if_neg (by simp [up]), pickLocal_noBrk noBrk, none_, prio]

/-- Then the beacons, and classes 0 and 1 with a token. -/
theorem txFrameDone_first (up : h.portUp west = true) (prio : (h.lane west).prio = []) (loc : h.ownFrames west = f :: fs)
    (own : (h.lane west).loc.all (fun f => f.type != tBrk) = true) (first : goesFirst (h.lane west).tokens f = true) :
    h.txFrameDone west = h.laneSend west
      { h.lane west with loc := fs, tokens := if spendsToken f then (h.lane west).tokens - 1 else (h.lane west).tokens } f := by
  have none_ := ownFrames_noBrk own
  have head := pickLocal_head (p := goesFirst (h.lane west).tokens) first fs
  unfold Hub.ownFrames at none_ loc
  unfold goesFirst at head
  unfold Hub.txFrameDone
  dsimp only
  rw [if_neg (by simp [up]), prio, none_, loc, head]
  rfl

/-- Last the classes that leave by credit. -/
theorem txFrameDone_credit (up : h.portUp west = true) (prio : (h.lane west).prio = []) (own : ∀ f ∈ (h.lane west).loc, f.type ≠ tBrk)
    (later : ∀ f ∈ (h.lane west).loc, goesFirst (h.lane west).tokens f = false) : h.txFrameDone west = h.sendsByCredit west := by
  have none_ : pickLocal (fun f => f.type == tBrk) (h.ownFrames west) = none :=
    ownFrames_noBrk (List.all_eq_true.mpr fun f mem => bne_iff_ne.mpr (own f mem))
  have first : pickLocal (goesFirst (h.lane west).tokens) (h.ownFrames west) = none := by
    unfold Hub.ownFrames
    split
    · rfl
    · exact pickLocal_none later
  unfold Hub.ownFrames at none_ first
  unfold goesFirst at first
  unfold Hub.txFrameDone Hub.sendsByCredit Hub.ownFrames
  dsimp only
  rw [if_neg (by simp [up]), prio, pickLocal_nil, none_, first] <;> rfl

end

/-! ### By credit (R114, R115) -/

theorem txFrameDone_single {h : Hub} {west : Bool} {f : RingFrame} (up : h.portUp west = true) (prio : (h.lane west).prio = [])
    (loc : (h.lane west).loc = [f]) (brk : f.type ≠ tBrk) (bcn : f.type ≠ tBcn) (low : 2 ≤ f.cls) : h.txFrameDone west = h.sendsByCredit west :=
  txFrameDone_credit up prio (by simpa [loc] using brk) (by simpa [loc] using goesFirst_class _ bcn low)

theorem txFrameDone_noLocal {h : Hub} {west : Bool} (up : h.portUp west = true) (prio : (h.lane west).prio = [])
    (loc : (h.lane west).loc = []) : h.txFrameDone west = h.sendsByCredit west := txFrameDone_credit up prio (by simp [loc]) (by simp [loc])

theorem bulkBytes_nil {l : Lane} (bulk : l.bulk = []) : bulkBytes l = 0 := by
  unfold bulkBytes
  rw [bulk]
  rfl

section
variable {h : Hub} {west : Bool} {f : RingFrame} {fs : List RingFrame}

/-- What a lane with no local frame sends. -/
theorem sendsByCredit_bulk (loc : (h.lane west).loc = []) :
    h.sendsByCredit west = match (h.lane west).bulk with | [] => h | t :: ts => h.laneSend west { h.lane west with bulk := ts } t := by
  have own : h.ownFrames west = [] := by
    unfold Hub.ownFrames
    rw [loc, ite_self]
  have cand : (if bulkBytes (h.lane west) > 16384 then none else pickClass (h.ownFrames west) classOrder) = none := by
    rw [own]
    exact ite_self _
  unfold Hub.sendsByCredit
  dsimp only
  rw [cand]
  split <;> simp_all

theorem sendsByCredit_own (bulk : (h.lane west).bulk = []) (cand : pickClass (h.ownFrames west) classOrder = some (f, fs)) :
    h.sendsByCredit west = h.laneSend west { h.lane west with loc := fs } f := by
  unfold Hub.sendsByCredit
  dsimp only
  rw [if_neg (by simp [bulkBytes_nil bulk]), cand, bulk]

theorem sendsByCredit_both {b : RingFrame} {bs : List RingFrame} (bulk : (h.lane west).bulk = b :: bs) (room : bulkBytes (h.lane west) ≤ 16384)
    (cand : pickClass (h.ownFrames west) classOrder = some (f, fs)) :
    h.sendsByCredit west = if f.occupancy ≤ (h.lane west).credit
      then h.laneSend west { h.lane west with loc := fs, credit := (h.lane west).credit - f.occupancy } f
      else (h.laneSend west { h.lane west with bulk := bs, loc := markWaited f (h.lane west).loc } b).when (!f.waited)
        (fun h => h.count (Obj.creditWaits (portIx west))) := by
  unfold Hub.sendsByCredit
  dsimp only
  rw [if_neg (by omega), cand, bulk]

end

end Sys2Proof.Machine

open Sys2Proof Sys2Proof.Machine

/-- Settles O24: the first rank that has a frame gives the frame that leaves, and each departure is that of its lane. -/
theorem ringLanesSendByRank : Obligations.RingLanesSendByRank := by
  unfold Obligations.RingLanesSendByRank
  intro s west l sent noBrk first wait
  have send {g : Hub} {l' : Lane} {f : RingFrame} (eq : s.hub.txFrameDone west = g) (L : s.hub.FrameLeft west l' f g) :
      ∃ t, exec (.ringTxFrameDone west) s = .next t ∧ t.hub = g ∧ sent l' f t :=
    ⟨s.withHub g, congrArg (fun h => Host.Outcome.next (s.withHub h)) eq, rfl, rfl, L.lane, L.other, L.out, L.frames⟩
  have leaves {l' : Lane} {f : RingFrame} (eq : s.hub.txFrameDone west = s.hub.laneSend west l' f) :
      ∃ t, exec (.ringTxFrameDone west) s = .next t ∧ sent l' f t := by
    obtain ⟨t, next, -, done⟩ := send eq (laneSend_leaves _ _ _ _)
    exact ⟨t, next, done⟩
  refine ⟨?credit, ?tokens, fun down => ?down, fun up => ⟨?transitBrk, ?ownBrk, ?transit, ?firsts, ?own, ?bulk, ?both, ?idle⟩⟩
  case credit =>
    exact ⟨_, rfl, rfl, lane_setLane_other _ _ _, lane_setLane_same _ _ _⟩
  case tokens =>
    exact ⟨_, rfl, rfl, lane_setLane_other _ _ _, lane_setLane_same _ _ _⟩
  case down =>
    exact congrArg (fun h => Host.Outcome.next (s.withHub h)) (txFrameDone_down down)
  case transitBrk =>
    exact fun f fs prio brk => leaves (txFrameDone_transitBrk up prio brk)
  case ownBrk =>
    exact fun f fs loc brk none_ sound => leaves (txFrameDone_ownBrk up none_ ((ownFrames_sound sound west).trans loc) brk)
  case transit =>
    exact fun f fs prio none_ own => leaves (txFrameDone_transit up prio none_ own)
  case firsts =>
    intro f fs loc prio own sound goes
    have eq := txFrameDone_first up prio ((ownFrames_sound sound west).trans loc) own (goesFirst_iff.mpr goes)
    simp only [spendsToken_iff, decide_eq_true_eq] at eq
    exact leaves eq
  case own =>
    intro f loc prio bulk brk low high bcn sound
    have cand := (congrArg (pickClass · classOrder) ((ownFrames_sound sound west).trans loc)).trans (pickClass_single brk bcn low high)
    have rank := txFrameDone_single up prio loc brk bcn low
    exact leaves (rank.trans (sendsByCredit_own bulk cand))
  case bulk =>
    intro f fs bulk prio loc
    have rank := txFrameDone_noLocal up prio loc
    rw [sendsByCredit_bulk loc, bulk] at rank
    exact leaves rank
  case both =>
    intro b bs bulk f loc prio brk low high bcn sound room
    have cand := (congrArg (pickClass · classOrder) ((ownFrames_sound sound west).trans loc)).trans (pickClass_single brk bcn low high)
    have rank := txFrameDone_single up prio loc brk bcn low
    rw [sendsByCredit_both bulk room cand] at rank
    by_cases enough : f.occupancy ≤ (s.hub.lane west).credit
    · rw [if_pos enough] at rank
      obtain ⟨t, next, done⟩ := leaves rank
      exact ⟨t, next, fun _ => done, fun short => absurd enough (Nat.not_le.mpr short)⟩
    · rw [if_neg enough, loc] at rank
      obtain ⟨t, next, hub, done⟩ := send rank ((laneSend_leaves _ _ _ _).waits _)
      have marked : markWaited f [f] = [{ f with waited := true }] := if_pos rfl
      refine ⟨t, next, fun fits => absurd fits enough, fun _ => ⟨marked ▸ done, ?_⟩⟩
      rw [hub]
      exact num_creditWaits _ _ _ _ _
  case idle =>
    intro prio loc bulk
    have rank := txFrameDone_noLocal up prio loc
    rw [sendsByCredit_bulk loc, bulk] at rank
    exact congrArg (fun h => Host.Outcome.next (s.withHub h)) rank
end
section
/-!
What frames that come and go leave of the hub (R86, R91 to R93, R104 to R109): the time unit, the functions and the channels, the ring interface but for its
lanes, windows and SEQ numbers, and every object but counters.
-/
namespace Sys2Proof.Machine

/-- From `h` to `g` frames have come and gone. -/
structure Hub.Traffic (h g : Hub) : Prop where
  time : g.time = h.time
  funcs : g.funcs = h.funcs
  chans : g.chans = h.chans
  ring : g.ring = { h.ring with
    laneE := g.ring.laneE, laneW := g.ring.laneW, windows := g.ring.windows, seq0 := g.ring.seq0, seq1 := g.ring.seq1, seqN := g.ring.seqN,
    rxSeq := g.ring.rxSeq, rxEpoch := g.ring.rxEpoch }
  obj : ∀ k, ¬ ringCounter k → k ≠ Obj.restDiscards → g.obj k = h.obj k

namespace Hub.Traffic
variable {a h g : Hub}

theorem refl (h : Hub) : h.Traffic h := ⟨rfl, rfl, rfl, rfl, fun _ _ _ => rfl⟩

theorem trans (H : a.Traffic h) (G : h.Traffic g) : a.Traffic g := by
  refine ⟨G.time.trans H.time, G.funcs.trans H.funcs, G.chans.trans H.chans, G.ring.trans ?_, fun k c r => (G.obj k c r).trans (H.obj k c r)⟩
  rw [H.ring]

theorem num (H : h.Traffic g) {k : Nat} (counter : ¬ ringCounter k) (rest : k ≠ Obj.restDiscards) : g.num k = h.num k :=
  congrArg Val.nat (H.obj k counter rest)

theorem isOn (H : h.Traffic g) (fid : Nat) : g.isOn fid = h.isOn fid := by
  unfold Hub.isOn Hub.func
  rw [H.funcs]

theorem chan (H : h.Traffic g) (c : Nat) : g.chan c = h.chan c := by
  unfold Hub.chan
  rw [H.chans]

theorem now (H : h.Traffic g) : g.now = h.now := congrArg (fun t => t.ltc.toNat) H.time

/-- An update of nothing but the switch and of what of the ring frames move. -/
theorem same (H : a.Traffic h) (time : g.time = h.time) (funcs : g.funcs = h.funcs) (chans : g.chans = h.chans) (ring : g.ring = { h.ring with
    laneE := g.ring.laneE, laneW := g.ring.laneW, windows := g.ring.windows, seq0 := g.ring.seq0, seq1 := g.ring.seq1, seqN := g.ring.seqN,
    rxSeq := g.ring.rxSeq, rxEpoch := g.ring.rxEpoch }) (dict : g.dict = h.dict) : a.Traffic g :=
  trans H ⟨time, funcs, chans, ring, fun k _ _ => congrArg (SMap.get dictDefault · k) dict⟩

theorem setObj (H : a.Traffic h) {k : Nat} (counter : ringCounter k ∨ k = Obj.restDiscards) (v : Val) : a.Traffic (h.setObj k v) := by
  refine trans H ⟨rfl, rfl, rfl, rfl, fun j c r => (Hub.obj_setObj h k j v).trans (if_neg ?_)⟩
  rintro rfl
  exact counter.elim c r

theorem count (H : a.Traffic h) {k : Nat} (counter : ringCounter k) : a.Traffic (h.count k) := setObj H (.inl counter) _

/-- A counter of a ring port. -/
theorem countPort (H : a.Traffic h) (west : Bool) {c : Nat} (seventh : 7 ≤ c) (low : c < 0x100) :
    a.Traffic (h.count (0x160200 + c + portIx west * 256)) := count H (Hub.Counts.ofPort west seventh low)

theorem ite (c : Prop) [Decidable c] (H : a.Traffic h) (G : a.Traffic g) : a.Traffic (if c then h else g) := by
  split
  · exact H
  · exact G

theorem when (H : a.Traffic h) (c : Bool) {f : Hub → Hub} (hf : h.Traffic (f h)) : a.Traffic (h.when c f) := ite _ (trans H hf) H

theorem foldl {α : Type} {f : Hub → α → Hub} (hf : ∀ h x, Hub.Traffic h (f h x)) (l : List α) (H : a.Traffic h) : a.Traffic (l.foldl f h) := by
  induction l generalizing h with
  | nil => exact H
  | cons x l ih => exact ih (trans H (hf h x))

theorem setLane (H : a.Traffic h) (west : Bool) (l : Lane) : a.Traffic (h.setLane west l) := by
  cases west with
  | false => exact same H rfl rfl rfl rfl rfl
  | true => exact same H rfl rfl rfl rfl rfl

theorem unreachable (H : a.Traffic h) : a.Traffic (h.count Obj.unreachableDrops) := count H (.inl (by decide))

theorem setWindow (H : a.Traffic h) (src cls : Nat) (w : SeqWindow) : a.Traffic (h.setWindow src cls w) := same H rfl rfl rfl rfl rfl

theorem swArrive (H : a.Traffic h) (port : Nat) (p : SwPacket) : a.Traffic (h.swArrive port p) := same H rfl rfl rfl rfl rfl

/-! ### Receiving -/

theorem countCrc (H : a.Traffic h) (west : Bool) (c : Crc) : a.Traffic (h.countCrc west c) := by
  unfold Hub.countCrc
  split
  · exact H
  · exact countPort H west (c := 0xB) (by omega) (by omega)
  · exact countPort H west (c := 0xA) (by omega) (by omega)

theorem frameArrives (H : a.Traffic h) (west : Bool) (f : RingFrame) : a.Traffic (h.frameArrives west f).2 := by
  have arrived : a.Traffic (h.count (Obj.rportFramesRx (portIx west))) := countPort H west (c := 7) (by omega) (by omega)
  unfold Hub.frameArrives
  dsimp only
  split
  · exact H
  · split
    · exact countPort arrived west (c := 0xC) (by omega) (by omega)
    · exact ite _ arrived (countCrc arrived west _)

theorem transitOut (H : a.Traffic h) (out : Bool) (f : RingFrame) : a.Traffic (h.transitOut out f) := by
  unfold Hub.transitOut
  split
  · exact ite _ (setLane H _ _) (setLane H _ _)
  · exact unreachable H

theorem passOn (H : a.Traffic h) (west bad : Bool) (f : RingFrame) : a.Traffic (h.passOn west bad f) := by
  unfold Hub.passOn
  refine ite _ H (ite _ (countPort H west (c := 0x10) (by omega) (by omega)) (transitOut (when H _ ?_) _ _))
  exact countPort (refl h) west (c := 9) (by omega) (by omega)

theorem extract (H : a.Traffic h) (f : RingFrame) : a.Traffic (h.extract f).2 := by
  unfold Hub.extract
  dsimp only
  split
  · exact setObj H (.inr rfl) _
  · exact H

theorem receive (H : a.Traffic h) (west : Bool) (f : RingFrame) : a.Traffic (h.receive west f).2 := by
  unfold Hub.receive
  have arrived := frameArrives H west f
  revert arrived
  generalize h.frameArrives west f = r
  intro arrived
  dsimp only
  split
  · exact arrived
  · exact extract (when arrived _ (passOn (refl _) west _ f)) f

theorem windowPass (H : a.Traffic h) (f : RingFrame) : a.Traffic (h.windowPass f).2 := by
  unfold Hub.windowPass
  split
  · exact setWindow H _ _ _
  · exact count H (.inl (by decide))
  · exact count H (.inl (by decide))

theorem seqGap (H : a.Traffic h) (f : RingFrame) : a.Traffic (h.seqGap f) := by
  unfold Hub.seqGap
  have counted : ∀ g : Hub, g.Traffic (g.count Obj.seqGaps) := fun g => count (refl g) (.inl (by decide))
  refine when (f := fun h => h.count Obj.seqGaps) ?_ _ (counted _)
  exact same H rfl rfl rfl rfl rfl

theorem dataIn (H : a.Traffic h) (west : Bool) (f : RingFrame) : a.Traffic (h.dataIn west f) := by
  unfold Hub.dataIn
  have taken := receive H west f
  revert taken
  generalize h.receive west f = r
  intro taken
  refine ite _ taken (ite _ (ite _ (swArrive (windowPass taken f) _ _) (windowPass taken f)) (swArrive (seqGap taken f) _ _))

theorem abortedIn (H : a.Traffic h) (west : Bool) (f : RingFrame) : a.Traffic (h.abortedIn west f) := by
  unfold Hub.abortedIn
  have counted : a.Traffic (h.count (Obj.abortedFrames (portIx west))) := countPort H west (c := 0xD) (by omega) (by omega)
  have arrived := frameArrives counted west { f with aborted := true }
  refine ite _ H (ite _ (dataIn counted west _) (ite _ arrived (passOn arrived west _ _)))

/-! ### Sending -/

theorem takeSeq (H : a.Traffic h) (dst cls : Nat) : a.Traffic (h.takeSeq dst cls).2 := by
  unfold Hub.takeSeq
  split
  · exact same H rfl rfl rfl rfl rfl
  · split
    · exact same H rfl rfl rfl rfl rfl
    · exact same H rfl rfl rfl rfl rfl

theorem toLane (H : a.Traffic h) (west : Bool) (f : RingFrame) : a.Traffic (h.toLane west f) := by
  unfold Hub.toLane
  split
  · exact setLane H _ _
  · exact unreachable H

theorem sendBoth (H : a.Traffic h) (f : RingFrame) : a.Traffic (h.sendBoth f) := toLane (toLane (takeSeq H _ _) _ _) _ _

theorem sendPortAs (H : a.Traffic h) (west : Bool) (src : Nat) (f : RingFrame) : a.Traffic (h.sendPortAs west src f) :=
  toLane (takeSeq H _ _) _ _

theorem turnBack (H : a.Traffic h) (west : Bool) : a.Traffic (h.turnBack west) := by
  unfold Hub.turnBack
  exact foldl (fun h f => toLane (refl h) west f) _ (foldl (fun h f => transitOut (refl h) west f) _ (setLane H _ _))

end Hub.Traffic
end Sys2Proof.Machine
end
section
/-!
What a change of the ring's directions does beside it (R110 to R112, R148 step 5): the fences that end because of it move queues, the bridge and SEQ
numbers, and leave the ring interface and its objects as they are.
-/
namespace Sys2Proof.Machine

/-- An object of the ring interface or of a ring port that is no counter. -/
abbrev ringKey (k : Nat) : Prop := k / 65536 = 0x16 ∧ ¬ ringCounter k

/-- An object of a unit that comes after the ring. -/
theorem not_ringKey_row {b i : Nat} (above : 0x170000 ≤ b) : ¬ ringKey (b + i * 256) := by
  unfold ringKey
  omega

theorem ringKey_linkState (w : Bool) : ringKey (Obj.rportLinkState (portIx w)) := by cases w <;> decide

/-- From `h` to `g` the objects of the ring stand but for the keys named. -/
def Hub.Writes (keys : List Nat) (h g : Hub) : Prop := ∀ k, ringKey k → k ∉ keys → g.obj k = h.obj k

namespace Hub.Writes
variable {keys : List Nat} {h g k : Hub}

theorem refl (h : Hub) : h.Writes keys h := fun _ _ _ => rfl

theorem trans (H : h.Writes keys g) (G : g.Writes keys k) : h.Writes keys k := fun o key apart => (G o key apart).trans (H o key apart)

theorem mono {more : List Nat} (H : h.Writes keys g) (sub : keys ⊆ more) : h.Writes more g := fun o key apart => H o key fun mem => apart (sub mem)

theorem dict (same : g.dict = h.dict) : h.Writes keys g := fun k _ _ => congrArg (SMap.get dictDefault · k) same

theorem setObj (h : Hub) {o : Nat} (named : o ∈ keys) (v : Val) : h.Writes keys (h.setObj o v) := by
  intro j _ apart
  rw [Hub.obj_setObj, if_neg]
  rintro rfl
  exact apart named

theorem setNum (H : h.Writes keys g) {o n : Nat} (named : o ∈ keys) : h.Writes keys (g.setNum o n) := trans H (setObj g named _)

theorem traffic (T : h.Traffic g) : h.Writes keys g := fun k key _ => T.obj k key.2 fun same => absurd (same ▸ key.1) (by decide)

theorem num (H : h.Writes keys g) {o : Nat} (key : ringKey o) (apart : o ∉ keys) : g.num o = h.num o := congrArg Val.nat (H o key apart)

theorem oct (H : h.Writes keys g) {o : Nat} (key : ringKey o) (apart : o ∉ keys) : g.oct o = h.oct o := congrArg Val.octets (H o key apart)

theorem portUp (H : h.Writes keys g) (w : Bool) (apart : Obj.rportLinkState (portIx w) ∉ keys) : g.portUp w = h.portUp w :=
  congrArg (· == linkUp) (H.num (ringKey_linkState w) apart)

theorem isMember (H : h.Writes keys g) (apart : Obj.joinState ∉ keys) : g.isMember = h.isMember :=
  congrArg (· == joinMember) (H.num (by decide) apart)

theorem self (H : h.Writes keys g) (apart : Obj.nodeIdInUse ∉ keys) : g.self = h.self := H.num (by decide) apart

end Hub.Writes

/-- From `h` to `g` the ring interface stands but for SEQ numbers, the path policy and the step of the epoch, and its objects but for the keys named. -/
structure Hub.Reroutes (keys : List Nat) (h g : Hub) : Prop where
  ring : g.ring = { h.ring with
    policy := g.ring.policy, stepAt := g.ring.stepAt, seq0 := g.ring.seq0, seq1 := g.ring.seq1, seqN := g.ring.seqN }
  obj : h.Writes keys g

namespace Hub.Reroutes
variable {keys : List Nat} {a h g : Hub}

theorem refl (h : Hub) : h.Reroutes keys h := ⟨rfl, .refl h⟩

theorem trans (H : a.Reroutes keys h) (G : h.Reroutes keys g) : a.Reroutes keys g := by
  refine ⟨G.ring.trans ?_, H.obj.trans G.obj⟩
  rw [H.ring]

theorem mono {more : List Nat} (H : a.Reroutes keys h) (sub : keys ⊆ more) : a.Reroutes more h := ⟨H.ring, H.obj.mono sub⟩

theorem lane (H : h.Reroutes keys g) (w : Bool) : g.lane w = h.lane w := by
  unfold Hub.lane
  rw [H.ring]

theorem window (H : h.Reroutes keys g) (src cls : Nat) : g.window src cls = h.window src cls := by
  unfold Hub.window
  rw [H.ring]

/-- An update of no object, and of nothing of the ring but what a reroute moves. -/
theorem same (H : a.Reroutes keys h) (ring : g.ring = { h.ring with
    policy := g.ring.policy, stepAt := g.ring.stepAt, seq0 := g.ring.seq0, seq1 := g.ring.seq1, seqN := g.ring.seqN }) (dict : g.dict = h.dict) :
    a.Reroutes keys g := trans H ⟨ring, .dict dict⟩

theorem setObj (H : a.Reroutes keys h) {k : Nat} (v : Val) (apart : ¬ ringKey k) : a.Reroutes keys (h.setObj k v) := by
  refine trans H ⟨rfl, fun j key _ => (Hub.obj_setObj h k j v).trans (if_neg ?_)⟩
  rintro rfl
  exact apart key

theorem setNum (H : a.Reroutes keys h) {k : Nat} (n : Nat) (apart : ¬ ringKey k) : a.Reroutes keys (h.setNum k n) := setObj H _ apart
theorem count (H : a.Reroutes keys h) {k : Nat} (apart : ¬ ringKey k) : a.Reroutes keys (h.count k) := setObj H _ apart
theorem countN (H : a.Reroutes keys h) {k : Nat} (n : Nat) (apart : ¬ ringKey k) : a.Reroutes keys (h.countN k n) := setObj H _ apart

/-- A write of one of the keys named. -/
theorem setKey (H : a.Reroutes keys h) {k : Nat} (n : Nat) (named : k ∈ keys) : a.Reroutes keys (h.setNum k n) := trans H ⟨rfl, .setObj h named _⟩

theorem ite (c : Prop) [Decidable c] (H : a.Reroutes keys h) (G : a.Reroutes keys g) : a.Reroutes keys (if c then h else g) := by
  split
  · exact H
  · exact G

theorem when (H : a.Reroutes keys h) (c : Bool) (f : Hub → Hub) (hf : h.Reroutes keys (f h)) : a.Reroutes keys (h.when c f) := ite _ (trans H hf) H

theorem foldl {α : Type} (f : Hub → α → Hub) (hf : ∀ h x, Hub.Reroutes keys h (f h x)) (l : List α) (H : a.Reroutes keys h) :
    a.Reroutes keys (l.foldl f h) := by
  induction l generalizing h with
  | nil => exact H
  | cons x l ih => exact ih (trans H (hf h x))

/-- What a notice, or a packet of queue 63, may write is none of it. -/
theorem quiet (H : a.Reroutes keys h) (Q : Hub.Quiet 63 h g) : a.Reroutes keys g := by
  obtain ⟨rest, -, obj⟩ := Q
  refine trans H ⟨by rw [rest], fun k key _ => obj k ?_ ?_ ?_⟩
  · omega
  · omega
  · intro same
    rw [same] at key
    exact absurd key.1 (by decide)

theorem notice (H : a.Reroutes keys h) (code fid : Nat) (args : List Nat) : a.Reroutes keys (h.notice code fid args) :=
  quiet H (Quietly.notice (Quietly.refl 63 h) _ _ _)

/-! ### Queues -/

theorem emitHost (H : a.Reroutes keys h) (o : Out) : a.Reroutes keys (h.emitHost o) := quiet H (Quietly.emitHost (Quietly.refl 63 h) o)

theorem queueEvent (H : a.Reroutes keys h) (q : Nat) (now_ : Bool) : a.Reroutes keys (h.queueEvent q now_) :=
  quiet H (Quietly.queueEvent (Quietly.refl 63 h) q now_)

theorem setQueue (H : a.Reroutes keys h) (q : Nat) (x : QState) : a.Reroutes keys (h.setQueue q x) := same H rfl rfl

/-- A mark of a queue that latches, or not, writes objects of the queue alone (R233). -/
theorem mark (H : a.Reroutes keys h) (c : Prop) [Decidable c] {j k : Nat} (x y q : Nat) (s : QState) (hj : ¬ ringKey j) (hk : ¬ ringKey k) :
    a.Reroutes keys (if c then ((h.setNum j x).setNum k y).setQueue q s else h) :=
  ite _ (setQueue (setNum (setNum H x hj) y hk) q s) H

theorem afterLevel (H : a.Reroutes keys h) (q old : Nat) : a.Reroutes keys (h.afterLevel q old) := by
  have crossed : a.Reroutes keys (h.crossings q old).1 :=
    mark (mark (setNum H _ (not_ringKey_row (by decide))) _ _ _ _ _ (not_ringKey_row (by decide)) (not_ringKey_row (by decide)))
      _ _ _ _ _ (not_ringKey_row (by decide)) (not_ringKey_row (by decide))
  unfold Hub.afterLevel
  exact when (when crossed _ _ (notice (refl _) _ _ _)) _ _ (notice (refl _) _ _ _)

theorem creditWordNow (H : a.Reroutes keys h) (q : Nat) : a.Reroutes keys (h.creditWordNow q) :=
  ite _ (queueEvent (setQueue (emitHost H _) _ _) _ _) H

theorem checkPtr (H : a.Reroutes keys h) (q : Nat) : a.Reroutes keys (h.checkPtr q) := by
  have dropped : a.Reroutes keys (if h.isD2H q then h else (h.dropWaiting q).2) := ite _ H (same H rfl rfl)
  have cleared : a.Reroutes keys (h.ptrClear q) :=
    creditWordNow (count (countN (setQueue dropped _ _) _ (not_ringKey_row (by decide))) (not_ringKey_row (by decide))) q
  exact ite _ (afterLevel (notice cleared _ _ _) _ _) H

theorem release (H : a.Reroutes keys h) (q n : Nat) : a.Reroutes keys (h.release q n) := by
  unfold Hub.release
  exact ite _ H (checkPtr (afterLevel (when (setQueue H _ _) _ _ (creditWordNow (refl _) q)) _ _) _)

theorem completeH2D (H : a.Reroutes keys h) (q : Nat) (d : QDesc) (status bytes : Nat) : a.Reroutes keys (h.completeH2D q d status bytes) := by
  unfold Hub.completeH2D
  refine when (release (count (when (setQueue (ite _ ?_ ?_) _ _) _ _ (setQueue (refl _) _ _)) (not_ringKey_row (by decide))) _ _) _ _
    (queueEvent (refl _) _ _)
  · exact emitHost H _
  · exact emitHost H _

theorem drain (H : a.Reroutes keys h) (q : Nat) : a.Reroutes keys (h.drain q) := by
  have descs : ∀ n {h : Hub}, a.Reroutes keys h → a.Reroutes keys (h.drainDescs q n) := by
    intro n
    induction n with
    | zero => exact id
    | succ n ih =>
      intro h H
      unfold Hub.drainDescs
      split
      · exact H
      · split
        · exact H
        · exact ite _ H (ih (completeH2D (setQueue H _ _) _ _ _ _))
  exact descs _ H

/-! ### Transactions -/

theorem unreachable (H : a.Reroutes keys h) : a.Reroutes keys (h.count Obj.unreachableDrops) := count H (by decide)

theorem takeSeq (H : a.Reroutes keys h) (dst cls : Nat) : a.Reroutes keys (h.takeSeq dst cls).2 := by
  unfold Hub.takeSeq
  split
  · exact same H rfl rfl
  · split
    · exact same H rfl rfl
    · exact same H rfl rfl

theorem sendRing (H : a.Reroutes keys h) (inPort : Nat) (f : RingFrame) (label : Nat) : a.Reroutes keys (h.sendRing inPort f label).2 := by
  unfold Hub.sendRing
  split
  · split
    · exact unreachable H
    · exact same (takeSeq H f.dst f.cls) rfl rfl
  · split
    · exact unreachable H
    · exact same (takeSeq H f.dst f.cls) rfl rfl

theorem sendTxn (H : a.Reroutes keys h) (f : RingFrame) (label : Nat) : a.Reroutes keys (h.sendTxn f label) :=
  ite _ (same H rfl rfl) (sendRing H _ _ _)

theorem sendWindow (H : a.Reroutes keys h) (w : Nat) (f : RingFrame) (label : Nat) : a.Reroutes keys (h.sendWindow w f label) := by
  unfold Hub.sendWindow
  split
  · exact same H rfl rfl
  · exact sendTxn H _ _

/-! ### Fences (R148 to R153, R223) -/

/-- An update of the bridge alone. -/
theorem bridge (H : a.Reroutes keys h) (b : Bridge) : a.Reroutes keys { h with bridge := b } := same H rfl rfl

theorem finishFence (H : a.Reroutes keys h) (w : Nat) (inc : Bool) : a.Reroutes keys (h.finishFence w inc) := by
  have retired := when H ((h.fence w).tag != 0 && !inc) (fun g => g.writesRetired w (g.tagBefore w (h.fence w).upto)) (bridge (refl h) _)
  unfold Hub.finishFence
  exact when (when (setNum (bridge retired _) _ (not_ringKey_row (by decide))) _ _ (notice (refl _) _ _ _)) _ _ (bridge (refl _) _)

theorem beginFence (H : a.Reroutes keys h) (w : Nat) : a.Reroutes keys (h.beginFence w) := by
  have begun : a.Reroutes keys (h.setFence w { h.fence w with forAll := h.bridge.allLeft.contains w, wrote := false }) := bridge H _
  unfold Hub.beginFence
  refine ite _ (finishFence begun _ _) (ite _ (finishFence begun _ _) (sendWindow ?_ _ _ _))
  exact same begun rfl rfl

theorem finishAll (H : a.Reroutes keys h) : a.Reroutes keys h.finishAll := by
  have rest (h : Hub) (w : Nat) : h.Reroutes keys (h.reportRest w) := by
    refine setNum (k := Obj.faultedSinceFence w) ?_ _ (not_ringKey_row (by decide))
    exact same (refl h) rfl rfl
  unfold Hub.finishAll
  exact ite _ (when (bridge (foldl _ rest h.bridge.allRest H) _) _ _ (notice (refl _) _ _ _)) H

theorem settleAll (H : a.Reroutes keys h) : a.Reroutes keys h.settleAll := by
  have hold (h : Hub) (w : Nat) : h.Reroutes keys (h.fenceOrHold w) := ite _ (bridge (refl h) _) (beginFence (refl h) w)
  have start : a.Reroutes keys h.finishAll.startAll := finishAll (foldl _ hold _ (bridge (finishAll H) _))
  exact ite _ start (finishAll H)

theorem afterFence (H : a.Reroutes keys h) (w : Nat) : a.Reroutes keys (h.afterFence w) :=
  settleAll (ite _ (beginFence (bridge H _) _) H)

theorem bulkFence (H : a.Reroutes keys h) (q : Nat) : a.Reroutes keys (h.bulkFence q) := by
  unfold Hub.bulkFence
  dsimp only
  split
  · exact H
  · refine ite _ H (drain (setQueue (foldl _ (fun h n => ?_) _ (setQueue H _ _)) _ _) _)
    refine ite _ (sendTxn ?_ _ _) (setQueue (refl h) _ _)
    exact same (refl h) rfl rfl

theorem bulkSettle (H : a.Reroutes keys h) (q : Nat) (left : List (Nat × Nat)) (inc : Bool) : a.Reroutes keys (h.bulkSettle q left inc) := by
  unfold Hub.bulkSettle
  exact ite _ (setQueue H _ _) (bulkFence (drain (setQueue (when (setQueue H _ _) _ _ (bridge (refl _) _)) _ _) _) _)

/-- The fences that look to their targets after a change of directions (R148 step 5). -/
theorem fencesReach (H : a.Reroutes keys h) : a.Reroutes keys h.fencesReach := by
  unfold Hub.fencesReach
  refine foldl _ (fun h q => ?_) _ (foldl _ (fun h w => ?_) _ H)
  · exact ite _ (refl h) (bulkSettle (refl h) _ _ _)
  · exact ite _ (refl h) (afterFence (finishFence (refl h) _ _) _)

/-! ### Directions -/

end Hub.Reroutes

/-- The objects that a recompute writes (R110, R112). -/
def routeKeys : List Nat := [Obj.orderingEpoch, Obj.lastReroute]

namespace Hub.Reroutes
variable {keys : List Nat} {a h g : Hub}

theorem rerouted (old new : Hub) : new.Reroutes routeKeys (Hub.rerouted old new) := by
  refine fencesReach ?_
  unfold Hub.recompute
  refine ite _ (refl new) (ite _ (same (refl new) rfl rfl) (setKey (setKey ?_ _ (by decide)) _ (by decide)))
  exact same (refl new) rfl rfl

theorem setSteward (H : a.Reroutes keys h) (named : Obj.stewardId ∈ keys) (id : Nat) : a.Reroutes keys (h.setSteward id) :=
  when (f := fun g => g.notice N.ringStewardChanged (fidRingPort 0) [h.num Obj.stewardId, id]) (setKey H id named) _ (notice (refl _) _ _ _)

theorem breakNotices (H : a.Reroutes keys h) (before after : Nat) : a.Reroutes keys (h.breakNotices before after) :=
  foldl _ (fun h _ => ite _ (refl h) (notice (refl h) _ _ _)) _ H

theorem mergeBreak (h : Hub) (broken : Bool) (m : Nat) : h.Reroutes (Obj.breakMap :: routeKeys) (h.mergeBreak broken m) := by
  unfold Hub.mergeBreak
  refine ite _ (refl h) (notice (trans (setKey (refl h) _ (by simp)) ((rerouted h _).mono (by simp))) _ _ _)

end Hub.Reroutes
end Sys2Proof.Machine
end
section
/-!
The ring's links (R87, R96, R109 to R111, R117): what the break map becomes, how a hub begins to join, and what a link that comes up or goes does to
its lane and to the other one.
-/
namespace Sys2Proof.Machine

/-! ### The break map -/

theorem setBit_of_set {v i : Nat} (set : v.testBit i = true) : setBit v i = v := if_pos set

theorem clearBit_of_clear {v i : Nat} (clear : v.testBit i = false) : clearBit v i = v := if_neg (by simp [clear])

/-- A member's bit is as it was merged last (R110, R111). -/
theorem breakMap_mergeBreak (h : Hub) (broken : Bool) {m : Nat} (one : 1 ≤ m) (top : m ≤ 64) :
    (h.mergeBreak broken m).num Obj.breakMap = if broken then setBit (h.num Obj.breakMap) (m - 1) else clearBit (h.num Obj.breakMap) (m - 1) := by
  unfold Hub.mergeBreak
  split
  next stands =>
    have bit : (h.num Obj.breakMap).testBit (m - 1) = broken := by
      obtain none_ | above | bit := stands
      · omega
      · omega
      · exact bit
    cases broken with
    | false => exact (clearBit_of_clear bit).symm
    | true => exact (setBit_of_set bit).symm
  next =>
    rw [Hub.num_notice _ _ _ _ _ (by decide) (by decide) (by decide), (Hub.Reroutes.rerouted h _).obj.num (by decide) (by decide), Hub.num_setNum_self]

/-- The span of a port is by the hub's id, the ring order and the HELLO from its west (R101, R108). -/
theorem spanOf_congr {h g : Hub} (self : g.self = h.self) (order : g.oct Obj.ringOrder = h.oct Obj.ringOrder)
    (hello : g.ring.helloWestW = h.ring.helloWestW) (west : Bool) : g.spanOf west = h.spanOf west := by
  unfold Hub.spanOf Hub.order
  rw [self, order, hello]

theorem Hub.Reroutes.helloWestW {keys : List Nat} {h g : Hub} (R : h.Reroutes keys g) : g.ring.helloWestW = h.ring.helloWestW := by
  rw [R.ring]

theorem Hub.Traffic.helloWestW {h g : Hub} (T : h.Traffic g) : g.ring.helloWestW = h.ring.helloWestW := by
  rw [T.ring]

theorem Hub.Writes.spanOf {keys : List Nat} {h g : Hub} (W : h.Writes keys g) (id : Obj.nodeIdInUse ∉ keys) (order : Obj.ringOrder ∉ keys)
    (hello : g.ring.helloWestW = h.ring.helloWestW) (west : Bool) : g.spanOf west = h.spanOf west :=
  spanOf_congr (W.self id) (W.oct (by decide) order) hello west

/-! ### A join begins (R95, R96) -/

/-- The objects that a join writes as it begins, or fails. -/
def joinKeys : List Nat :=
  [Obj.nodeId, Obj.class01Rate, Obj.insertionWeight, Obj.idSource, Obj.joinState, Obj.refuseReason, Obj.nodeIdInUse]

theorem applyRwb_writes (h : Hub) {keys more : List Nat} (sub : keys ⊆ more) : h.Writes more (h.applyRwb keys) := by
  have each (l : List (Nat × Val)) (mem : ∀ p ∈ l, p.1 ∈ more) (g : Hub) : g.Writes more (l.foldl (fun h p => h.setObj p.1 p.2) g) := by
    induction l generalizing g with
    | nil => exact .refl g
    | cons p l ih => exact .trans (.setObj g (mem p List.mem_cons_self) _) (ih (fun q hq => mem q (List.mem_cons_of_mem _ hq)) _)
  refine .trans (.dict rfl) (each _ (fun p hp => sub ?_) _)
  exact List.contains_iff_mem.mp (List.mem_filter.mp hp).2

theorem applyRwb_ring (h : Hub) (keys : List Nat) : (h.applyRwb keys).ring = h.ring := by
  have each (l : List (Nat × Val)) (g : Hub) : (l.foldl (fun h p => h.setObj p.1 p.2) g).ring = g.ring := by
    induction l generalizing g with
    | nil => rfl
    | cons p l ih => exact ih _
  exact each _ _

/-- The hub as its join has failed, before the fences and the notice (R96, R97). -/
def Hub.givesUp (h : Hub) (reason : Nat) : Hub :=
  let h := ((h.setNum Obj.joinState joinTransit).setNum Obj.refuseReason reason).setNum Obj.nodeIdInUse 0
  { h with ring := { h.ring with tries := 0, listening := false } }

theorem joinFailed_reroutes (h : Hub) (reason : Nat) : (h.givesUp reason).Reroutes [] (h.joinFailed reason) := by
  have reach : (h.givesUp reason).Reroutes [] (h.givesUp reason).fencesReach := .fencesReach (.refl _)
  exact .ite _ (.notice reach _ _ _) (.notice reach _ _ _)

theorem givesUp_writes (h : Hub) (reason : Nat) : h.Writes joinKeys (h.givesUp reason) := by
  have stored : h.Writes joinKeys (((h.setNum Obj.joinState joinTransit).setNum Obj.refuseReason reason).setNum Obj.nodeIdInUse 0) :=
    .setNum (.setNum (.setNum (.refl h) (by decide)) (by decide)) (by decide)
  exact stored.trans (.dict rfl)

/-- The objects that a hub shows once its join has failed. -/
theorem joinFailed_reads (h : Hub) (reason : Nat) :
    (h.joinFailed reason).num Obj.joinState = joinTransit ∧ (h.joinFailed reason).num Obj.refuseReason = reason ∧ (h.joinFailed reason).self = 0 := by
  have R := (joinFailed_reroutes h reason).obj
  have num (k : Nat) : (h.givesUp reason).num k = (((h.setNum Obj.joinState joinTransit).setNum Obj.refuseReason reason).setNum Obj.nodeIdInUse 0).num k := rfl
  refine ⟨?_, ?_, ?_⟩
  · rw [R.num (by decide) List.not_mem_nil, num, Hub.num_setNum, if_neg (by decide), Hub.num_setNum, if_neg (by decide), Hub.num_setNum_self]
  · rw [R.num (by decide) List.not_mem_nil, num, Hub.num_setNum, if_neg (by decide), Hub.num_setNum_self]
  · rw [R.self List.not_mem_nil]
    exact (num _).trans (Hub.num_setNum_self _ _ _)

/-- The hub as it has taken the id it wants (R95). -/
def Hub.takesId (h : Hub) : Hub :=
  let h := h.applyRwb [Obj.nodeId, Obj.class01Rate, Obj.insertionWeight]
  let dictId := h.num Obj.nodeId
  let id := if dictId ≠ 0 then dictId else if 1 ≤ h.strapId ∧ h.strapId ≤ 64 then h.strapId else 0
  let h := h.setNum Obj.idSource (b2n (dictId != 0))
  { h with ring := { h.ring with wantId := id, heard := 0, tries := 0, stewardLost := false } }

theorem takesId_writes (h : Hub) : h.Writes joinKeys h.takesId := by
  have taken : h.Writes joinKeys (h.applyRwb [Obj.nodeId, Obj.class01Rate, Obj.insertionWeight]) := applyRwb_writes h (by decide)
  exact (taken.setNum (o := Obj.idSource) (by decide)).trans (.dict rfl)

theorem takesId_lane (h : Hub) (w : Bool) : h.takesId.lane w = h.lane w := lane_of_ring (applyRwb_ring h _) w

theorem beginJoin_invalid {h : Hub} (none_ : h.takesId.ring.wantId = 0) :
    ∃ strap, h.beginJoin = (h.takesId.notice N.nodeIdInvalid (fidRingPort 0) [strap]).joinFailed 4 := ⟨_, if_pos none_⟩

theorem beginJoin_valid {h : Hub} (some_ : h.takesId.ring.wantId ≠ 0) :
    h.beginJoin = ({ h.takesId with ring := { h.takesId.ring with listening := true } }).setNum Obj.joinState joinJoining := if_neg some_

/-- What a join that begins leaves, and the state it comes to (R96, R126). -/
structure Hub.BeginsJoin (h g : Hub) : Prop where
  lane : ∀ w, g.lane w = h.lane w
  writes : h.Writes joinKeys g
  state : g.num Obj.joinState = if g.ring.wantId = 0 then joinTransit else joinJoining

theorem beginJoin_begins (h : Hub) : h.BeginsJoin h.beginJoin := by
  by_cases none_ : h.takesId.ring.wantId = 0
  · obtain ⟨strap, eq⟩ := beginJoin_invalid none_
    have noticed : h.takesId.Reroutes [] (h.takesId.notice N.nodeIdInvalid (fidRingPort 0) [strap]) := .notice (.refl _) _ _ _
    rw [eq]
    generalize h.takesId.notice N.nodeIdInvalid (fidRingPort 0) [strap] = g at noticed
    have failed := joinFailed_reroutes g 4
    refine ⟨fun w => ?_, ?_, ?_⟩
    · calc (g.joinFailed 4).lane w = (g.givesUp 4).lane w := failed.lane w
        _ = g.lane w := rfl
        _ = h.lane w := (noticed.lane w).trans (takesId_lane h w)
    · exact (takesId_writes h).trans ((noticed.obj.mono (List.nil_subset _)).trans ((givesUp_writes g 4).trans (failed.obj.mono (List.nil_subset _))))
    · have want : (g.joinFailed 4).ring.wantId = 0 := (congrArg Ring.wantId failed.ring).trans ((congrArg Ring.wantId noticed.ring).trans none_)
      rw [(joinFailed_reads g 4).1, if_pos want]
  · rw [beginJoin_valid none_]
    refine ⟨takesId_lane h, .trans (takesId_writes h) (.trans (g := { h.takesId with ring := { h.takesId.ring with listening := true } }) (.dict rfl) (.setObj _ (by decide) _)), ?_⟩
    rw [Hub.num_setNum_self]
    exact (if_neg none_).symm

/-! ### A link comes up (R87, R111) -/

/-- The port is UP, and says so. -/
def Hub.comesUp (h : Hub) (west : Bool) : Hub :=
  (h.setNum (Obj.rportLinkState (portIx west)) linkUp).notice N.ringLinkUp (fidRingPort (portIx west)) [portIx west]

/-- A member whose link was lost restores the span of it, and says so in both directions (R111). -/
def Hub.restoresSpan (h : Hub) (west lost : Bool) : Hub :=
  if lost && h.isMember && h.spanOf west != 0 then
    (h.mergeBreak false (h.spanOf west)).sendBoth (brkFrame 2 (h.spanOf west) ((h.mergeBreak false (h.spanOf west)).num Obj.breakMap))
  else h

/-- The link is no lost one any more. -/
def Hub.clearsLost (h : Hub) (west : Bool) : Hub := h.setLane west { h.lane west with lost := false }

/-- A hub that is in no ring, and may, begins to join (R96, R97). -/
def Hub.joinsNow (h : Hub) : Hub := if h.isMember || h.num Obj.joinState == joinJoining || h.refused then h else h.beginJoin

theorem linkQualified_eq {h : Hub} {west : Bool} (may : h.mayQualify west = true) :
    h.linkQualified west = (((h.comesUp west).restoresSpan west (h.lane west).lost).clearsLost west).joinsNow := if_neg (by simp [may])

theorem comesUp_reroutes (h : Hub) (west : Bool) : h.Reroutes [Obj.rportLinkState (portIx west)] (h.comesUp west) :=
  .notice (.setKey (.refl h) _ List.mem_cons_self) _ _ _

theorem comesUp_linkState (h : Hub) (west : Bool) : (h.comesUp west).num (Obj.rportLinkState (portIx west)) = linkUp := by
  have noticed : (h.setNum (Obj.rportLinkState (portIx west)) linkUp).Reroutes [] (h.comesUp west) := .notice (.refl _) _ _ _
  exact (noticed.obj.num (ringKey_linkState west) List.not_mem_nil).trans (Hub.num_setNum_self _ _ _)

/-- The objects that a restored span moves. -/
theorem restoresSpan_writes (h : Hub) (west lost : Bool) : h.Writes (Obj.breakMap :: routeKeys) (h.restoresSpan west lost) := by
  unfold Hub.restoresSpan
  split
  · exact (Hub.Reroutes.mergeBreak h _ _).obj.trans (.traffic (.sendBoth (.refl _) _))
  · exact .refl h

/-- What a port UP of a member sends as a span of it is restored. -/
theorem restoresSpan_restores {h : Hub} {west : Bool} (member : h.isMember = true) (one : 1 ≤ h.spanOf west) (top : h.spanOf west ≤ 64) :
    (h.restoresSpan west true).num Obj.breakMap = clearBit (h.num Obj.breakMap) (h.spanOf west - 1)
    ∧ ∀ w, h.portUp w = true → ((h.restoresSpan west true).lane w).loc.map (·.type) = (h.lane w).loc.map (·.type) ++ [tBrk] := by
  have merged := breakMap_mergeBreak h false one top
  have R := Hub.Reroutes.mergeBreak h false (h.spanOf west)
  unfold Hub.restoresSpan
  rw [if_pos (by simp [member, Nat.ne_of_gt one])]
  revert merged R
  generalize h.mergeBreak false (h.spanOf west) = g
  intro merged R
  refine ⟨?_, fun w up => ?_⟩
  · rw [(Hub.Traffic.sendBoth (.refl g) _).num (by decide) (by decide), merged]
    rfl
  · have up' : g.portUp w = true := (R.obj.portUp w (by cases w <;> decide)).trans up
    obtain ⟨src, seq, epoch, eq⟩ := sendBoth_loc up' (brkFrame 2 (h.spanOf west) (g.num Obj.breakMap))
    rw [eq, List.map_append, R.lane]
    rfl

theorem clearsLost_lost (h : Hub) (west : Bool) : ((h.clearsLost west).lane west).lost = false := by
  unfold Hub.clearsLost
  rw [lane_setLane_same]

theorem clearsLost_loc (h : Hub) (west w : Bool) : ((h.clearsLost west).lane w).loc = (h.lane w).loc := by
  unfold Hub.clearsLost
  rcases Bool.eq_or_eq_not w west with rfl | rfl
  · rw [lane_setLane_same]
  · rw [lane_setLane_other]

theorem joinsNow_lane (h : Hub) (w : Bool) : h.joinsNow.lane w = h.lane w := by
  unfold Hub.joinsNow
  split
  · rfl
  · exact (beginJoin_begins h).lane w

theorem joinsNow_writes (h : Hub) : h.Writes joinKeys h.joinsNow := by
  unfold Hub.joinsNow
  split
  · exact .refl h
  · exact (beginJoin_begins h).writes

/-- A hub that is DOWN or transit-only, and was not refused, joins as a port comes UP (R96, R97). -/
theorem joinsNow_state {h : Hub} (out : h.num Obj.joinState = joinDown ∨ h.num Obj.joinState = joinTransit) (may : h.refused = false) :
    h.joinsNow.num Obj.joinState = if h.joinsNow.ring.wantId = 0 then joinTransit else joinJoining := by
  have join : h.joinsNow = h.beginJoin := by
    refine if_neg ?_
    unfold Hub.isMember
    obtain down | transit := out
    · simp [down, may, joinDown, joinMember, joinJoining]
    · simp [transit, may, joinTransit, joinMember, joinJoining]
  rw [join]
  exact (beginJoin_begins h).state

/-- A port that may qualify comes UP: its state, its lane, and what a hub that is in no ring does (R87, R96, R97, R111). -/
theorem linkQualified_up {h : Hub} {west : Bool} (may : h.mayQualify west = true) :
    (h.linkQualified west).num (Obj.rportLinkState (portIx west)) = linkUp ∧ ((h.linkQualified west).lane west).lost = false
    ∧ (h.num Obj.joinState = joinDown ∨ h.num Obj.joinState = joinTransit → h.refused = false →
        (h.linkQualified west).num Obj.joinState = if (h.linkQualified west).ring.wantId = 0 then joinTransit else joinJoining) := by
  rw [linkQualified_eq may]
  have up := comesUp_linkState h west
  have began := (comesUp_reroutes h west).obj
  have spans := restoresSpan_writes (h.comesUp west) west (h.lane west).lost
  revert up began spans
  generalize (h.comesUp west).restoresSpan west (h.lane west).lost = k
  generalize h.comesUp west = g
  intro up began spans
  have cleared : k.Writes [] (k.clearsLost west) := .dict (Hub.setLane_dict k west _)
  have num {o : Nat} (key : ringKey o) (link : o ≠ Obj.rportLinkState (portIx west)) (routes : o ∉ Obj.breakMap :: routeKeys) :
      (k.clearsLost west).num o = h.num o :=
    (cleared.num key List.not_mem_nil).trans ((spans.num key routes).trans (began.num key (by simp [link])))
  refine ⟨?_, ?_, fun out free => joinsNow_state ?_ ?_⟩
  · rw [(joinsNow_writes _).num (ringKey_linkState west) (by cases west <;> decide), cleared.num (ringKey_linkState west) List.not_mem_nil,
      spans.num (ringKey_linkState west) (by cases west <;> decide), up]
  · rw [joinsNow_lane, clearsLost_lost]
  · rw [num (by decide) (by cases west <;> decide) (by decide)]
    exact out
  · unfold Hub.refused at free ⊢
    rw [num (by decide) (by cases west <;> decide) (by decide)]
    exact free

/-- A member's lost link that comes UP (R111). -/
theorem linkQualified_restores {h : Hub} {west : Bool} (may : h.mayQualify west = true) (member : h.isMember = true) (lost : (h.lane west).lost = true)
    (one : 1 ≤ h.spanOf west) (top : h.spanOf west ≤ 64) :
    (h.linkQualified west).num Obj.breakMap = clearBit (h.num Obj.breakMap) (h.spanOf west - 1)
    ∧ ((h.linkQualified west).lane west).loc.map (·.type) = (h.lane west).loc.map (·.type) ++ [tBrk]
    ∧ (h.portUp (!west) = true → ((h.linkQualified west).lane (!west)).loc.map (·.type) = (h.lane (!west)).loc.map (·.type) ++ [tBrk]) := by
  rw [linkQualified_eq may, lost]
  have up : (h.comesUp west).portUp west = true := beq_iff_eq.mpr (comesUp_linkState h west)
  have R := comesUp_reroutes h west
  revert up R
  generalize h.comesUp west = g
  intro up R
  have span : g.spanOf west = h.spanOf west := R.obj.spanOf (by cases west <;> decide) (by cases west <;> decide) R.helloWestW west
  have member' : g.isMember = true := (R.obj.isMember (by cases west <;> decide)).trans member
  obtain ⟨map, sends⟩ := restoresSpan_restores (h := g) (west := west) member' (by rwa [span]) (by rwa [span])
  have loc (w : Bool) (up : g.portUp w = true) :
      ((((g.restoresSpan west true).clearsLost west).joinsNow).lane w).loc.map (·.type) = (h.lane w).loc.map (·.type) ++ [tBrk] := by
    rw [joinsNow_lane, clearsLost_loc, sends w up, R.lane]
  have cleared : (g.restoresSpan west true).Writes [] ((g.restoresSpan west true).clearsLost west) := .dict (Hub.setLane_dict _ west _)
  refine ⟨?_, loc west up, fun other => loc (!west) ((R.obj.portUp (!west) (by cases west <;> decide)).trans other)⟩
  rw [(joinsNow_writes _).num (by decide) (by decide), cleared.num (by decide) List.not_mem_nil, map, span, R.obj.num (by decide) (by cases west <;> decide)]

end Sys2Proof.Machine
end
section
/-!
A ring link goes (R87, R109, R110), and a body that stalls (R117).
-/
namespace Sys2Proof.Machine

/-! ### Turned back (R109) -/

/-- A frame of a port that is lost leaves its lane alone: it goes by the other one, or nowhere. -/
theorem wayOut_lost {h : Hub} {west : Bool} (lost : h.portUp west = false) (f : RingFrame) :
    h.wayOut west f = none ∨ ∃ g, h.wayOut west f = some (!west, g) := by
  unfold Hub.wayOut
  rw [if_neg (by simp [lost])]
  split
  · split
    · exact .inr ⟨_, rfl⟩
    · exact .inl rfl
  · exact .inl rfl

theorem toLane_lane_lost {h : Hub} {west : Bool} (lost : h.portUp west = false) (f : RingFrame) : (h.toLane west f).lane west = h.lane west := by
  unfold Hub.toLane
  obtain none_ | ⟨g, some_⟩ := wayOut_lost lost f
  · rw [none_]
    rfl
  · rw [some_]
    simpa using lane_setLane_other h (!west) { h.lane (!west) with loc := (h.lane (!west)).loc ++ [g] }

theorem transit_lane_other (h : Hub) (w : Bool) (f : RingFrame) : (h.transit w f).lane (!w) = h.lane (!w) := by
  unfold Hub.transit
  dsimp only
  split
  · exact lane_setLane_other h w _
  · exact lane_setLane_other h w _

theorem transitOut_lane_lost {h : Hub} {west : Bool} (lost : h.portUp west = false) (f : RingFrame) :
    (h.transitOut west f).lane west = h.lane west := by
  unfold Hub.transitOut
  obtain none_ | ⟨g, some_⟩ := wayOut_lost lost f
  · rw [none_]
    rfl
  · rw [some_]
    simpa using transit_lane_other h (!west) g

/-- A frame for every node has no way but its port (R109). -/
theorem toLane_lane_broadcast (h : Hub) (west : Bool) {f : RingFrame} (every : f.dst = broadcastId) : (h.toLane west f).lane (!west) = h.lane (!west) := by
  have back : turnedBack f = none := if_pos (.inr (.inl every))
  unfold Hub.toLane Hub.wayOut
  split
  next w g way =>
    rw [back] at way
    by_cases up : h.portUp west = true
    · rw [if_pos up] at way
      obtain ⟨rfl, rfl⟩ := Prod.mk.inj (Option.some.inj way)
      exact lane_setLane_other h west _
    · rw [if_neg up] at way
      exact absurd way (by simp)
  · rfl

theorem Hub.Traffic.portUp {h g : Hub} (T : h.Traffic g) (w : Bool) : g.portUp w = h.portUp w :=
  (Hub.Writes.traffic (keys := []) T).portUp w List.not_mem_nil

/-- What frames that leave a lane alone do, one after the other. -/
theorem foldl_lane {west : Bool} {f : Hub → RingFrame → Hub} (traffic : ∀ h x, Hub.Traffic h (f h x))
    (keep : ∀ h x, h.portUp west = false → (f h x).lane west = h.lane west) (l : List RingFrame) {h : Hub} (lost : h.portUp west = false) :
    (l.foldl f h).lane west = h.lane west := by
  induction l generalizing h with
  | nil => rfl
  | cons x l ih => exact (ih (((traffic h x).portUp west).trans lost)).trans (keep h x lost)

/-- The lane of a lost port is empty once its frames have been turned back. -/
theorem turnBack_lane {h : Hub} {west : Bool} (lost : h.portUp west = false) :
    (h.turnBack west).lane west = { h.lane west with prio := [], bulk := [], loc := [] } := by
  have T : h.Traffic (h.setLane west { h.lane west with prio := [], bulk := [], loc := [] }) := .setLane (.refl h) _ _
  have transits : ∀ (g : Hub) (x : RingFrame), g.Traffic (g.transitOut west x) := fun g x => .transitOut (.refl g) west x
  have locals : ∀ (g : Hub) (x : RingFrame), g.Traffic (g.toLane west x) := fun g x => .toLane (.refl g) west x
  have lost' := (T.portUp west).trans lost
  unfold Hub.turnBack
  dsimp only
  rw [foldl_lane locals (fun _ x none_ => toLane_lane_lost none_ x) _
      ((((Hub.Traffic.refl _).foldl transits _).portUp west).trans lost'),
    foldl_lane transits (fun _ x none_ => transitOut_lane_lost none_ x) _ lost', lane_setLane_same]

/-! ### A link goes -/

/-- The port's link is declared lost, before anything is turned back. -/
def Hub.marksLost (h : Hub) (west : Bool) (state : Nat) : Hub :=
  let h := (h.setNum (Obj.rportLinkState (portIx west)) state).count (Obj.linkLossTally (portIx west))
  h.setLane west { h.lane west with lost := true }

/-- The port's link is lost, and what waited there is turned back (R109). -/
def Hub.linkGoes (h : Hub) (west : Bool) (cause : Nat) (sends : Bool) : Hub :=
  (((h.marksLost west (if cause = 1 then linkRemoteFault else linkDown)).when sends (fun h => h.emit (.ringControl west .remoteFault))).turnBack west).notice
    N.ringLinkLost (fidRingPort (portIx west)) [portIx west, cause]

/-- A member says through its other port that a span of it is broken (R110). -/
def Hub.tellsBreak (h : Hub) (west : Bool) : Hub :=
  if h.isMember && h.spanOf west != 0 then
    (h.mergeBreak true (h.spanOf west)).sendPort (!west) (brkFrame 1 (h.spanOf west) ((h.mergeBreak true (h.spanOf west)).num Obj.breakMap))
  else h

theorem loseLink_eq {h : Hub} {west : Bool} {cause : Nat} (lit : h.num (Obj.rportLinkState (portIx west)) ≠ linkDown)
    (first : ¬ (h.num (Obj.rportLinkState (portIx west)) = linkRemoteFault ∧ cause = 1)) (sends : Bool) :
    h.loseLink west cause sends = (h.linkGoes west cause sends).tellsBreak west := (if_neg lit).trans (if_neg first)

/-- The objects of a port that its loss writes. -/
def lossKeys (west : Bool) : List Nat := [Obj.rportLinkState (portIx west), Obj.linkLossTally (portIx west)]

theorem marksLost_writes (h : Hub) (west : Bool) (state : Nat) : h.Writes (lossKeys west) (h.marksLost west state) := by
  have link : h.Writes (lossKeys west) (h.setNum (Obj.rportLinkState (portIx west)) state) := .setNum (.refl h) List.mem_cons_self
  have tally : h.Writes (lossKeys west) ((h.setNum (Obj.rportLinkState (portIx west)) state).count (Obj.linkLossTally (portIx west))) :=
    link.trans (.setObj _ (List.mem_cons_of_mem _ List.mem_cons_self) _)
  exact tally.trans (.dict (Hub.setLane_dict _ _ _))

theorem marksLost_linkState (h : Hub) (west : Bool) (state : Nat) : (h.marksLost west state).num (Obj.rportLinkState (portIx west)) = state := by
  unfold Hub.marksLost
  dsimp only
  rw [Hub.num_congr _ _ (Hub.setLane_dict _ _ _), Hub.num_count, if_neg (by cases west <;> decide), Hub.num_setNum_self]

theorem marksLost_tally (h : Hub) (west : Bool) (state : Nat) :
    (h.marksLost west state).num (Obj.linkLossTally (portIx west)) = satAdd (maxWord 32) (h.num (Obj.linkLossTally (portIx west))) 1 := by
  unfold Hub.marksLost
  dsimp only
  rw [Hub.num_congr _ _ (Hub.setLane_dict _ _ _), Hub.num_count, if_pos rfl, Hub.num_setNum, if_neg (by cases west <;> decide)]

theorem marksLost_lost (h : Hub) (west : Bool) (state : Nat) : ((h.marksLost west state).lane west).lost = true := by
  unfold Hub.marksLost
  dsimp only
  rw [lane_setLane_same]

theorem marksLost_helloWestW (h : Hub) (west : Bool) (state : Nat) : (h.marksLost west state).ring.helloWestW = h.ring.helloWestW := by
  cases west with
  | false => rfl
  | true => rfl

/-- From `h` to `g` a port's link has gone: its state, its tally and its lane, and what of the ring stands beside them. -/
structure Hub.LinkLost (h : Hub) (west : Bool) (state : Nat) (g : Hub) : Prop where
  linkState : g.num (Obj.rportLinkState (portIx west)) = state
  tally : g.num (Obj.linkLossTally (portIx west)) = satAdd (maxWord 32) (h.num (Obj.linkLossTally (portIx west))) 1
  lost : (g.lane west).lost = true
  loc : (g.lane west).loc = []
  prio : (g.lane west).prio = []
  bulk : (g.lane west).bulk = []
  writes : h.Writes (lossKeys west) g
  hello : g.ring.helloWestW = h.ring.helloWestW

theorem ringKey_linkLossTally (w : Bool) : ringKey (Obj.linkLossTally (portIx w)) := by cases w <;> decide

theorem linkGoes_loses (h : Hub) (west : Bool) (cause : Nat) (sends : Bool) :
    h.LinkLost west (if cause = 1 then linkRemoteFault else linkDown) (h.linkGoes west cause sends) := by
  unfold Hub.linkGoes
  have off : (if cause = 1 then linkRemoteFault else linkDown) ≠ linkUp := by split <;> decide
  revert off
  generalize (if cause = 1 then linkRemoteFault else linkDown) = state
  intro off
  have linkState := marksLost_linkState h west state
  have tally := marksLost_tally h west state
  have lost := marksLost_lost h west state
  have writes := marksLost_writes h west state
  have hello := marksLost_helloWestW h west state
  revert linkState tally lost writes hello
  generalize h.marksLost west state = k
  intro linkState tally lost writes hello
  have emitted : k.Traffic (k.when sends (fun h => h.emit (.ringControl west .remoteFault))) := .when (.refl k) _ ⟨rfl, rfl, rfl, rfl, fun _ _ _ => rfl⟩
  have lane : (k.when sends (fun h => h.emit (.ringControl west .remoteFault))).lane west = k.lane west := by
    unfold Hub.when
    split
    · rfl
    · rfl
  revert emitted lane
  generalize k.when sends (fun h => h.emit (.ringControl west .remoteFault)) = e
  intro emitted lane
  have portLost : e.portUp west = false := by
    rw [emitted.portUp, Hub.portUp, linkState]
    exact beq_eq_false_iff_ne.mpr off
  have T : k.Traffic (e.turnBack west) := .turnBack emitted west
  have empty := turnBack_lane portLost
  rw [lane] at empty
  revert T empty
  generalize e.turnBack west = b
  intro T empty
  have R : b.Reroutes [] (b.notice N.ringLinkLost (fidRingPort (portIx west)) [portIx west, cause]) := .notice (.refl b) _ _ _
  have kept : k.Writes [] (b.notice N.ringLinkLost (fidRingPort (portIx west)) [portIx west, cause]) := (Hub.Writes.traffic T).trans R.obj
  have final := (R.lane west).trans empty
  refine ⟨(kept.num (ringKey_linkState west) List.not_mem_nil).trans linkState, (kept.num (ringKey_linkLossTally west) List.not_mem_nil).trans tally,
    by rw [final]; exact lost, by rw [final], by rw [final], by rw [final], writes.trans (kept.mono (List.nil_subset _)), ?_⟩
  rw [R.helloWestW, T.helloWestW, hello]

theorem sendPortAs_lane_broadcast (h : Hub) (west : Bool) (src : Nat) {f : RingFrame} (every : f.dst = broadcastId) :
    (h.sendPortAs west src f).lane (!west) = h.lane (!west) := by
  refine (toLane_lane_broadcast _ west ?_).trans (seal_lane h { f with path := if west then 2 else 1 } (!west))
  exact every

/-- What a member that tells of a break leaves of the ring: all but the break map and its epoch, and the other lane. -/
theorem tellsBreak_keeps (h : Hub) (west : Bool) : h.Writes (Obj.breakMap :: routeKeys) (h.tellsBreak west) ∧ (h.tellsBreak west).lane west = h.lane west := by
  unfold Hub.tellsBreak
  split
  · have R := Hub.Reroutes.mergeBreak h true (h.spanOf west)
    refine ⟨R.obj.trans (.traffic (.sendPortAs (.refl _) _ _ _)), ?_⟩
    have other := sendPortAs_lane_broadcast (h.mergeBreak true (h.spanOf west)) (!west) (h.mergeBreak true (h.spanOf west)).self
      (f := brkFrame 1 (h.spanOf west) ((h.mergeBreak true (h.spanOf west)).num Obj.breakMap)) rfl
    rw [Bool.not_not] at other
    exact other.trans (R.lane west)
  · exact ⟨.refl h, rfl⟩

/-- The BRK of a member whose link is lost (R102, R110). -/
theorem tellsBreak_tells {h : Hub} {west : Bool} (member : h.isMember = true) (one : 1 ≤ h.spanOf west) (top : h.spanOf west ≤ 64) :
    (h.tellsBreak west).num Obj.breakMap = setBit (h.num Obj.breakMap) (h.spanOf west - 1)
    ∧ (h.portUp (!west) = true → ((h.tellsBreak west).lane (!west)).loc.getLast?.map (fun f => (f.type, f.payload))
        = some (tBrk, [1, BitVec.ofNat 8 (h.spanOf west)] ++ beBytes 8 (setBit (h.num Obj.breakMap) (h.spanOf west - 1)))) := by
  have merged := breakMap_mergeBreak h true one top
  have R := Hub.Reroutes.mergeBreak h true (h.spanOf west)
  unfold Hub.tellsBreak
  rw [if_pos (by simp [member, Nat.ne_of_gt one])]
  revert merged R
  generalize h.mergeBreak true (h.spanOf west) = g
  intro merged R
  refine ⟨?_, fun up => ?_⟩
  · unfold Hub.sendPort
    rw [(Hub.Traffic.sendPortAs (.refl g) _ _ _).num (by decide) (by decide), merged]
    rfl
  · have up' : g.portUp (!west) = true := (R.obj.portUp (!west) (by cases west <;> decide)).trans up
    obtain ⟨seq, epoch, path, eq⟩ := sendPort_loc up' (brkFrame 1 (h.spanOf west) (g.num Obj.breakMap))
    rw [eq, List.getLast?_concat, merged]
    rfl

/-- A port declares its link lost (R87, R109, R110). -/
theorem loseLink_reads {h : Hub} {west : Bool} {cause : Nat} (lit : h.num (Obj.rportLinkState (portIx west)) ≠ linkDown)
    (first : ¬ (h.num (Obj.rportLinkState (portIx west)) = linkRemoteFault ∧ cause = 1)) (sends : Bool) :
    let g := h.loseLink west cause sends
    g.num (Obj.rportLinkState (portIx west)) = (if cause = 1 then linkRemoteFault else linkDown) ∧ (g.lane west).lost = true
    ∧ (g.lane west).loc = [] ∧ (g.lane west).prio = [] ∧ (g.lane west).bulk = []
    ∧ g.num (Obj.linkLossTally (portIx west)) = satAdd (maxWord 32) (h.num (Obj.linkLossTally (portIx west))) 1
    ∧ (h.isMember = true → 1 ≤ h.spanOf west → h.spanOf west ≤ 64 →
        g.num Obj.breakMap = setBit (h.num Obj.breakMap) (h.spanOf west - 1)
        ∧ (h.portUp (!west) = true → (g.lane (!west)).loc.getLast?.map (fun f => (f.type, f.payload))
            = some (tBrk, [1, BitVec.ofNat 8 (h.spanOf west)] ++ beBytes 8 (setBit (h.num Obj.breakMap) (h.spanOf west - 1))))) := by
  have L := linkGoes_loses h west cause sends
  dsimp only
  rw [loseLink_eq lit first]
  revert L
  generalize h.linkGoes west cause sends = g
  intro L
  obtain ⟨W, lane⟩ := tellsBreak_keeps g west
  rw [lane, W.num (ringKey_linkState west) (by cases west <;> decide), W.num (ringKey_linkLossTally west) (by cases west <;> decide)]
  refine ⟨L.linkState, L.lost, L.loc, L.prio, L.bulk, L.tally, fun member one top => ?_⟩
  have span : g.spanOf west = h.spanOf west := L.writes.spanOf (by cases west <;> decide) (by cases west <;> decide) L.hello west
  have member' : g.isMember = true := (L.writes.isMember (by cases west <;> decide)).trans member
  have told := tellsBreak_tells (h := g) (west := west) member' (by rwa [span]) (by rwa [span])
  rw [span, L.writes.num (o := Obj.breakMap) (by decide) (by cases west <;> decide), L.writes.portUp _ (by cases west <;> decide)] at told
  exact told

end Sys2Proof.Machine
end
section
/-!
What the ports make of a body that stalls (R117), of a lock gained or lost (R87), of breaks that others tell (R110) and of windows that age (R106).
-/
namespace Sys2Proof.Machine

/-! ### Bodies that stall (R117) -/

/-- From `h` to `g` the aborted-frames counter of a port stands. -/
abbrev Hub.SameAborted (west : Bool) (h g : Hub) : Prop := g.num (Obj.abortedFrames (portIx west)) = h.num (Obj.abortedFrames (portIx west))

theorem sameAborted_count (west : Bool) (h : Hub) {k : Nat} (apart : Obj.abortedFrames (portIx west) ≠ k) : h.SameAborted west (h.count k) :=
  (Hub.num_count h k _).trans (if_neg apart)

/-- A frame that arrives moves the counters of its port that are its own alone (R93, R127). -/
theorem frameArrives_num (h : Hub) (west : Bool) (f : RingFrame) {k : Nat} (rx : k ≠ Obj.rportFramesRx (portIx west))
    (header : k ≠ Obj.headerErrors (portIx west)) (crc : k ≠ Obj.rportCrcErrors (portIx west)) (stomped : k ≠ Obj.crcStomped (portIx west)) :
    (h.frameArrives west f).2.num k = h.num k := by
  have stands (g : Hub) {c : Nat} (apart : k ≠ c) : (g.count c).num k = g.num k := (Hub.num_count g c k).trans (if_neg apart)
  unfold Hub.frameArrives Hub.countCrc
  dsimp only
  split
  · rfl
  · split
    · exact (stands _ header).trans (stands h rx)
    · split
      · exact stands h rx
      · split
        · exact stands h rx
        · exact (stands _ stomped).trans (stands h rx)
        · exact (stands _ crc).trans (stands h rx)

theorem windowPass_num (h : Hub) (f : RingFrame) {k : Nat} (duplicate : k ≠ Obj.duplicateDiscards) (stale : k ≠ Obj.staleDiscards) :
    (h.windowPass f).2.num k = h.num k := by
  unfold Hub.windowPass
  split
  · rfl
  · exact (Hub.num_count h _ k).trans (if_neg duplicate)
  · exact (Hub.num_count h _ k).trans (if_neg stale)

theorem frameArrives_aborted (h : Hub) (west : Bool) (f : RingFrame) : h.SameAborted west (h.frameArrives west f).2 :=
  frameArrives_num h west f (by cases west <;> decide) (by cases west <;> decide) (by cases west <;> decide) (by cases west <;> decide)

theorem transitOut_aborted (h : Hub) (west out : Bool) (f : RingFrame) : h.SameAborted west (h.transitOut out f) := by
  unfold Hub.transitOut Hub.transit
  split
  · dsimp only
    split
    · exact Hub.num_congr _ _ (Hub.setLane_dict _ _ _) _
    · exact Hub.num_congr _ _ (Hub.setLane_dict _ _ _) _
  · exact sameAborted_count west h (by cases west <;> decide)

theorem passOn_aborted (h : Hub) (west bad : Bool) (f : RingFrame) : h.SameAborted west (h.passOn west bad f) := by
  unfold Hub.passOn Hub.when
  dsimp only
  split
  · rfl
  · split
    · exact sameAborted_count west h (by cases west <;> decide)
    · refine (transitOut_aborted _ west _ _).trans ?_
      split
      · exact sameAborted_count west h (by cases west <;> decide)
      · rfl

theorem receive_aborted (h : Hub) (west : Bool) (f : RingFrame) : h.SameAborted west (h.receive west f).2 := by
  have arrived := frameArrives_aborted h west f
  have passed : (h.frameArrives west f).2.SameAborted west
      ((h.frameArrives west f).2.when (f.dst == broadcastId) (fun h => h.ridge west f)) := by
    unfold Hub.when
    split
    · exact passOn_aborted _ west _ f
    · rfl
  unfold Hub.receive
  dsimp only
  split
  · exact arrived
  · refine Eq.trans ?_ (passed.trans arrived)
    unfold Hub.extract
    dsimp only
    split
    · exact sameAborted_count west _ (by cases west <;> decide)
    · rfl

theorem windowPass_aborted (h : Hub) (west : Bool) (f : RingFrame) : h.SameAborted west (h.windowPass f).2 :=
  windowPass_num h f (by cases west <;> decide) (by cases west <;> decide)

theorem seqGap_aborted (h : Hub) (west : Bool) (f : RingFrame) : h.SameAborted west (h.seqGap f) := by
  unfold Hub.seqGap Hub.when
  dsimp only
  split
  · exact sameAborted_count west _ (by cases west <;> decide)
  · rfl

theorem dataIn_aborted (h : Hub) (west : Bool) (f : RingFrame) : h.SameAborted west (h.dataIn west f) := by
  have taken := receive_aborted h west f
  unfold Hub.dataIn
  dsimp only
  split
  · exact taken
  · split
    · split
      · exact (windowPass_aborted _ west f).trans taken
      · exact (windowPass_aborted _ west f).trans taken
    · exact (seqGap_aborted _ west f).trans taken

/-- A frame that ends with an abort marker counts (R117). -/
theorem abortedIn_counts {h : Hub} {west : Bool} (up : h.portUp west = true) (f : RingFrame) :
    (h.abortedIn west f).num (Obj.abortedFrames (portIx west)) = satAdd (maxWord 32) (h.num (Obj.abortedFrames (portIx west))) 1 := by
  have counted := (Hub.num_count h (Obj.abortedFrames (portIx west)) (Obj.abortedFrames (portIx west))).trans (if_pos rfl)
  have arrived := frameArrives_aborted (h.count (Obj.abortedFrames (portIx west))) west { f with aborted := true }
  unfold Hub.abortedIn
  dsimp only
  rw [if_neg (by simp [up])]
  split
  · exact (dataIn_aborted _ west _).trans counted
  · split
    · exact arrived.trans counted
    · exact (passOn_aborted _ west _ _).trans (arrived.trans counted)

/-- A whole header of a frame whose body stalls: it is counted at its port, without a look at a trailer (R93, R117). -/
theorem frameArrives_stalled {h : Hub} {west : Bool} {f : RingFrame} (up : h.portUp west = true) (awake : h.num Obj.pwrMode ≠ 4)
    (whole : headerError f = false) (stalled : f.aborted = true) : h.frameArrives west f = (true, h.count (Obj.rportFramesRx (portIx west))) := by
  unfold Hub.frameArrives
  dsimp only
  rw [if_neg (by simp [awake, up]), if_neg (by simp [whole]), if_pos stalled]

/-- A frame for another node goes on along the ridge path, aborted (R117). -/
theorem abortedIn_passes {h : Hub} {west : Bool} {f : RingFrame} (up : h.portUp west = true) (whole : headerError f = false)
    (awake : h.num Obj.pwrMode ≠ 4) (single : f.dst ≠ broadcastId) (apart : f.dst ≠ h.self) (foreign : f.src = 0 ∨ f.src ≠ h.self) :
    h.abortedIn west f
      = ((h.count (Obj.abortedFrames (portIx west))).count (Obj.rportFramesRx (portIx west))).ridge west { f with aborted := true } := by
  have C : h.Counts (h.count (Obj.abortedFrames (portIx west))) := .count h (Hub.Counts.ofPort west (c := 0xD) (by omega) (by omega))
  have arrives := frameArrives_stalled (h := h.count (Obj.abortedFrames (portIx west))) (f := { f with aborted := true })
    ((C.portUp west).trans up) (by rwa [C.num (by decide)]) whole rfl
  have self : ((h.count (Obj.abortedFrames (portIx west))).count (Obj.rportFramesRx (portIx west))).self = h.self :=
    (C.trans (.count _ (Hub.Counts.ofPort west (c := 7) (by omega) (by omega)))).num (by decide)
  have self' : (h.count (Obj.abortedFrames (portIx west))).self = h.self := C.num (by decide)
  have stands : ((h.count (Obj.abortedFrames (portIx west))).count (Obj.rportFramesRx (portIx west))).strips { f with aborted := true } = false := by
    unfold Hub.strips
    rw [self]
    obtain none_ | other := foreign
    · by_cases zero : h.self = 0
      · simp [zero]
      · simp [none_, Ne.symm zero]
    · simp [other]
  unfold Hub.abortedIn
  dsimp only
  rw [if_neg (by simp [up]), self', if_neg (by simp [single, apart]), arrives, if_neg (by simp [stands])]

/-! ### Locks, breaks told by others, windows -/

theorem lockGained_qualifies {h : Hub} {west : Bool} (on : h.isOn (fidRingPort (portIx west)) = true) (off : h.portUp west = false) :
    (h.lockGained west).num (Obj.rportLinkState (portIx west)) = linkQualifying ∧ ((h.lockGained west).lane west).lock = true := by
  have T : h.Traffic (h.setLane west { h.lane west with lock := true }) := .setLane (.refl h) _ _
  have may : ((h.setLane west { h.lane west with lock := true }).isOn (fidRingPort (portIx west))
      && !(h.setLane west { h.lane west with lock := true }).portUp west) = true := by
    rw [T.isOn, T.portUp, on, off]
    rfl
  unfold Hub.lockGained Hub.when
  dsimp only
  rw [if_pos may]
  refine ⟨Hub.num_setNum_self _ _ _, ?_⟩
  show ((h.setLane west { h.lane west with lock := true }).lane west).lock = true
  rw [lane_setLane_same]

/-- A port that is ON and not DOWN loses block lock: the frame that was coming is aborted, and the link is lost (R87, R117). -/
theorem lockLost_eq {h : Hub} {west : Bool} (on : h.isOn (fidRingPort (portIx west)) = true) :
    h.lockLost west = (h.setLane west { h.lane west with lock := false }).loseLink west 0 true := by
  have T : h.Traffic (h.setLane west { h.lane west with lock := false }) := .setLane (.refl h) _ _
  unfold Hub.lockLost Hub.when
  dsimp only
  rw [if_pos ((T.isOn _).trans on)]
  rfl

/-- The hub as the frame that was coming has been aborted (R117). -/
def Hub.abortsMid (h : Hub) (west : Bool) (mid : Option RingFrame) : Hub :=
  match mid with
  | some f => h.abortedIn west f
  | none => h

theorem abortsMid_traffic (h : Hub) (west : Bool) (mid : Option RingFrame) : h.Traffic (h.abortsMid west mid) := by
  cases mid with
  | none => exact .refl h
  | some f => exact .abortedIn (.refl h) west f

theorem Hub.Traffic.spanOf {h g : Hub} (T : h.Traffic g) (west : Bool) : g.spanOf west = h.spanOf west :=
  (Hub.Writes.traffic (keys := []) T).spanOf List.not_mem_nil List.not_mem_nil T.helloWestW west

/-- What a lost link of a member comes to is by what frames leave as it was. -/
theorem loseLink_after {h g : Hub} {west : Bool} {cause : Nat} (T : h.Traffic g) (lit : h.num (Obj.rportLinkState (portIx west)) ≠ linkDown)
    (first : ¬ (h.num (Obj.rportLinkState (portIx west)) = linkRemoteFault ∧ cause = 1)) :
    let k := g.loseLink west cause true
    k.num (Obj.rportLinkState (portIx west)) = (if cause = 1 then linkRemoteFault else linkDown) ∧ (k.lane west).lost = true
    ∧ (k.lane west).loc = [] ∧ (k.lane west).prio = [] ∧ (k.lane west).bulk = []
    ∧ k.num (Obj.linkLossTally (portIx west)) = satAdd (maxWord 32) (h.num (Obj.linkLossTally (portIx west))) 1
    ∧ (h.isMember = true → 1 ≤ h.spanOf west → h.spanOf west ≤ 64 →
        k.num Obj.breakMap = setBit (h.num Obj.breakMap) (h.spanOf west - 1)
        ∧ (h.portUp (!west) = true → (k.lane (!west)).loc.getLast?.map (fun f => (f.type, f.payload))
            = some (tBrk, [1, BitVec.ofNat 8 (h.spanOf west)] ++ beBytes 8 (setBit (h.num Obj.breakMap) (h.spanOf west - 1))))) := by
  have W := Hub.Writes.traffic (keys := []) T
  have state := W.num (ringKey_linkState west) List.not_mem_nil
  have reads := loseLink_reads (h := g) (west := west) (cause := cause) (by rwa [state]) (by rwa [state]) true
  rw [W.num (ringKey_linkLossTally west) List.not_mem_nil, W.isMember List.not_mem_nil, T.spanOf, W.num (o := Obj.breakMap) (by decide) List.not_mem_nil,
    T.portUp] at reads
  exact reads

theorem brkRx_merges {h : Hub} {west : Bool} {f : RingFrame} (taken : (h.receive west f).1 = true) (member : h.isMember = true) (brk : f.type = tBrk)
    (one : 1 ≤ byteAt f.payload 1) (top : byteAt f.payload 1 ≤ 64) :
    (h.brkRx west f).num Obj.breakMap = if byteAt f.payload 0 = 1 then setBit (h.num Obj.breakMap) (byteAt f.payload 1 - 1)
      else clearBit (h.num Obj.breakMap) (byteAt f.payload 1 - 1) := by
  have W := Hub.Writes.traffic (keys := []) (Hub.Traffic.receive (.refl h) west f)
  have member' := (W.isMember List.not_mem_nil).trans member
  have merges : h.brkRx west f = (h.receive west f).2.mergeBreak (byteAt f.payload 0 == 1) (byteAt f.payload 1) := by
    unfold Hub.brkRx
    dsimp only
    rw [if_neg (by simp [taken, member', brk])]
  rw [merges, breakMap_mergeBreak _ _ one top, W.num (by decide) List.not_mem_nil]
  simp

theorem orphanBlocks_count (h : Hub) (west : Bool) (n : Nat) :
    ((h.count (Obj.orphanBursts (portIx west))).countN (Obj.orphanBytes (portIx west)) n).num (Obj.orphanBursts (portIx west))
      = satAdd (maxWord 32) (h.num (Obj.orphanBursts (portIx west))) 1
    ∧ ((h.count (Obj.orphanBursts (portIx west))).countN (Obj.orphanBytes (portIx west)) n).num (Obj.orphanBytes (portIx west))
      = satAdd (maxWord 32) (h.num (Obj.orphanBytes (portIx west))) n := by
  have apart : Obj.orphanBursts (portIx west) ≠ Obj.orphanBytes (portIx west) := by cases west <;> decide
  unfold Hub.countN
  rw [Hub.num_setNum, if_neg apart, Hub.num_setNum_self, Hub.num_count, if_pos rfl, Hub.num_count, if_neg apart.symm]
  exact ⟨rfl, rfl⟩

theorem window_setWindow_same (h : Hub) (src cls : Nat) (w : SeqWindow) : (h.setWindow src cls w).window src cls = w :=
  SMap.get_set_self (fun _ => ({} : SeqWindow)) h.ring.windows (src * 2 + cls) w

/-- The window of another source is another entry. -/
theorem window_setWindow_other (h : Hub) {src p : Nat} (cls : Fin 2) (w : SeqWindow) (apart : p ≠ src) :
    (h.setWindow src cls.val w).window p cls.val = h.window p cls.val := SMap.get_set_ne _ _ _ _ _ (by omega)

end Sys2Proof.Machine

open Sys2Proof Sys2Proof.Machine

/-- Settles O22: a link that comes up or goes by its own stages, the rest by what the commands write. -/
theorem ringLinksBreaksAndWindows : Obligations.RingLinksBreaksAndWindows := by
  unfold Obligations.RingLinksBreaksAndWindows
  refine ⟨?gained, ?qualified, ?lost, ?brk, ?stalled, ?orphans, ?window⟩
  case gained =>
    intro s west on off
    exact ⟨_, rfl, rfl, lockGained_qualifies on off⟩
  case qualified =>
    intro s west may
    obtain ⟨state, lane, joins⟩ := linkQualified_up may
    exact ⟨_, rfl, rfl, state, lane, linkQualified_restores may, joins⟩
  case lost =>
    intro s west mid c mem on lit first
    rw [List.mem_cons, List.mem_singleton] at mem
    obtain rfl | rfl := mem
    · have T := abortsMid_traffic s.hub west mid
      have eq := lockLost_eq ((T.isOn _).trans on)
      refine ⟨s.withHub ((s.hub.abortsMid west mid).lockLost west), ?_, rfl, ?_⟩
      · cases mid with
        | none => rfl
        | some f => rfl
      · show ((s.hub.abortsMid west mid).lockLost west).num _ = _ ∧ _
        rw [eq]
        exact loseLink_after (T.trans (.setLane (.refl _) _ _)) lit (by simp)
    · have heard : (s.hub.when (s.hub.isOn (fidRingPort (portIx west))) (fun h => h.declareLost west 1)) = s.hub.loseLink west 1 true := if_pos on
      obtain ⟨t, next, rest, hub⟩ := next_hub (c := .remoteFaultRx west) (s := s) (congrArg (fun h => Host.Outcome.next (s.withHub h)) heard)
      refine ⟨t, next, rest, ?_⟩
      rw [hub]
      exact loseLink_after (.refl _) lit (by simpa using first)
  case brk =>
    intro s west f taken member brk one top
    exact ⟨_, rfl, rfl, brkRx_merges taken member brk one top⟩
  case stalled =>
    intro s west f up
    exact ⟨⟨_, rfl, rfl, abortedIn_counts up f⟩, fun whole awake single apart foreign =>
      congrArg (fun h => Host.Outcome.next (s.withHub h)) (abortedIn_passes up whole awake single apart foreign)⟩
  case orphans =>
    intro s west n up
    have counted : s.hub.when (s.hub.portUp west) (fun h => (h.count (Obj.orphanBursts (portIx west))).countN (Obj.orphanBytes (portIx west)) n)
        = (s.hub.count (Obj.orphanBursts (portIx west))).countN (Obj.orphanBytes (portIx west)) n := if_pos up
    obtain ⟨t, next, rest, hub⟩ := next_hub (c := .ringOrphanBlocks west n) (s := s) (congrArg (fun h => Host.Outcome.next (s.withHub h)) counted)
    refine ⟨t, next, rest, ?_⟩
    rw [hub]
    exact orphanBlocks_count s.hub west n
  case window =>
    intro s src cls
    exact ⟨_, rfl, rfl, rfl, window_setWindow_same s.hub _ _ _, fun p apart => window_setWindow_other s.hub cls {} apart⟩
end
section
/-!
The steward and its members (R96 to R102): what a change of maps leaves once the directions have followed it, and what answers say.
-/
namespace Sys2Proof.Machine

/-! ### Frames that the ring interface sends -/

/-- What a frame sent on both paths says (R104). -/
theorem sendBoth_last {h : Hub} {w : Bool} (up : h.portUp w = true) (f : RingFrame) :
    ((h.sendBoth f).lane w).loc.getLast?.map (fun f => (f.dst, f.payload)) = some (f.dst, f.payload) := by
  obtain ⟨src, seq, epoch, eq⟩ := sendBoth_loc up f
  rw [eq, List.getLast?_concat]
  rfl

theorem sendPortAs_loc {h : Hub} {west : Bool} (up : h.portUp west = true) (src : Nat) (f : RingFrame) :
    ∃ seq epoch path, ((h.sendPortAs west src f).lane west).loc = (h.lane west).loc ++ [{ f with src := src, seq := seq, epoch := epoch, path := path }] := by
  have up' := ((Hub.Counts.seal h { f with path := if west then 2 else 1 }).portUp west).trans up
  exact ⟨_, _, _, (toLane_loc up' _).trans (by rw [seal_lane])⟩

theorem toLane_windows (h : Hub) (west : Bool) (f : RingFrame) : (h.toLane west f).ring.windows = h.ring.windows := by
  unfold Hub.toLane
  split
  next w g way => cases w <;> rfl
  · rfl

theorem takeSeq_windows (h : Hub) (dst cls : Nat) : (h.takeSeq dst cls).2.ring.windows = h.ring.windows := by
  unfold Hub.takeSeq
  split
  · rfl
  · split
    · rfl
    · rfl

/-- What is sent leaves the windows of what is received. -/
theorem sendBoth_window (h : Hub) (f : RingFrame) (src cls : Nat) : (h.sendBoth f).window src cls = h.window src cls := by
  have same : (h.sendBoth f).ring.windows = h.ring.windows := (toLane_windows _ _ _).trans ((toLane_windows _ _ _).trans (takeSeq_windows h f.dst f.cls))
  unfold Hub.window
  rw [same]

/-! ### Objects of the ring that frames leave -/

namespace Hub.Traffic
variable {h g : Hub}

theorem keyNum (T : h.Traffic g) {o : Nat} (key : ringKey o) : g.num o = h.num o := (Hub.Writes.traffic (keys := []) T).num key List.not_mem_nil

theorem self (T : h.Traffic g) : g.self = h.self := T.keyNum (by decide)

theorem isMember (T : h.Traffic g) : g.isMember = h.isMember := congrArg (· == joinMember) (T.keyNum (by decide))

theorem memberOf (T : h.Traffic g) (id : Nat) : g.memberOf id = h.memberOf id := by
  unfold Hub.memberOf
  rw [T.keyNum (by decide)]

theorem grantSum (T : h.Traffic g) : g.grantSum = h.grantSum := by
  unfold Hub.grantSum
  rw [T.ring]

theorem class01Limit (T : h.Traffic g) : g.class01Limit = h.class01Limit := by
  unfold Hub.class01Limit
  rw [T.num (by decide) (by decide)]

theorem flag (T : h.Traffic g) {k : Nat} (counter : ¬ ringCounter k) (rest : k ≠ Obj.restDiscards) : g.flag k = h.flag k := by
  unfold Hub.flag
  rw [T.num counter rest]

theorem lowestPhase (T : h.Traffic g) : g.lowestPhase = h.lowestPhase := by
  unfold Hub.lowestPhase Hub.twoCycles
  rw [T.now, T.num (by decide) (by decide), T.ring]

theorem timeCandidate (T : h.Traffic g) : g.timeCandidate = h.timeCandidate := by
  unfold Hub.timeCandidate
  rw [T.flag (by decide) (by decide), T.isMember, T.now, T.num (by decide) (by decide), T.self, T.ring]

theorem phaseSender (T : h.Traffic g) : g.phaseSender = h.phaseSender := by
  unfold Hub.phaseSender
  rw [T.flag (by decide) (by decide), T.isMember]

/-- A beacon says nothing that frames move (R102). -/
theorem bcnPayload (T : h.Traffic g) : g.bcnPayload = h.bcnPayload := by
  have oct : g.oct Obj.ringOrder = h.oct Obj.ringOrder := congrArg Val.octets (T.obj _ (by decide) (by decide))
  unfold Hub.bcnPayload
  rw [T.timeCandidate, T.phaseSender, T.lowestPhase, T.self, T.grantSum, T.keyNum (o := Obj.timeMasterId) (by decide),
    T.keyNum (o := Obj.memberMap) (by decide), T.keyNum (o := Obj.breakMap) (by decide), oct, T.ring]

end Hub.Traffic

/-! ### A hub becomes steward (R96, R99, R110) -/

theorem setSteward_stewardId (h : Hub) (id : Nat) : (h.setSteward id).num Obj.stewardId = id := by
  unfold Hub.setSteward Hub.when
  dsimp only
  split
  · rw [Hub.num_notice _ _ _ _ _ (by decide) (by decide) (by decide), Hub.num_setNum_self]
  · exact Hub.num_setNum_self _ _ _

/-- The hub with the maps of a steward that is its only member, before its breaks are added. -/
def Hub.standsAlone (h : Hub) : Hub :=
  (((h.setNum Obj.joinState joinMember).setNum Obj.nodeIdInUse h.ring.wantId).setNum Obj.memberMap (2 ^ (h.ring.wantId - 1))).setOct Obj.ringOrder
    (BitVec.ofNat 8 h.ring.wantId :: List.replicate 63 0)

/-- The hub as it becomes steward, before the directions follow. -/
def Hub.stewards (h : Hub) : Hub :=
  let g := ((h.standsAlone.setNum Obj.breakMap h.standsAlone.ownBreaks).setNum Obj.grantedClass01Rate (h.num Obj.class01Rate)).setNum Obj.refuseReason 0
  let g := { g with ring := { g.ring with
    listening := false, tries := 0, stewardLost := false, weightSum := g.num Obj.insertionWeight,
    grants := [(h.ring.wantId, h.num Obj.class01Rate)], weights := [(h.ring.wantId, g.num Obj.insertionWeight)], place := [], spans := 0 } }
  g.setNum Obj.ringClass01Sum g.grantSum

theorem becomeSteward_eq (h : Hub) :
    h.becomeSteward = ((Hub.rerouted h h.stewards).setSteward h.ring.wantId).breakNotices (h.num Obj.breakMap)
      ((Hub.rerouted h h.stewards).num Obj.breakMap) := rfl

theorem num_setOct_other (h : Hub) {k j : Nat} (b : List Byte) (apart : j ≠ k) : (h.setOct k b).num j = h.num j :=
  (Hub.num_setObj h k j _).trans (if_neg apart)

theorem standsAlone_self (h : Hub) : h.standsAlone.self = h.ring.wantId := by
  unfold Hub.standsAlone Hub.self
  rw [num_setOct_other _ _ (by decide), Hub.num_setNum, if_neg (by decide), Hub.num_setNum_self]

theorem standsAlone_breakMap (h : Hub) : h.standsAlone.num Obj.breakMap = h.num Obj.breakMap := by
  unfold Hub.standsAlone
  rw [num_setOct_other _ _ (by decide), Hub.num_setNum, if_neg (by decide), Hub.num_setNum, if_neg (by decide), Hub.num_setNum, if_neg (by decide)]

/-- No lost link of the hub's own adds nothing to its break map (R110). -/
theorem standsAlone_ownBreaks_none {h : Hub} (east : (h.lane false).lost = false) (west : (h.lane true).lost = false) :
    h.standsAlone.ownBreaks = h.num Obj.breakMap := by
  have east' : (h.standsAlone.lane false).lost = false := east
  have west' : (h.standsAlone.lane true).lost = false := west
  unfold Hub.ownBreaks
  simp [east', west', standsAlone_breakMap]

/-- The span of RING-E is the hub's own (R108). -/
theorem standsAlone_ownBreaks_east {h : Hub} (east : (h.lane false).lost = true) (west : (h.lane true).lost = false)
    (one : 1 ≤ h.ring.wantId) (top : h.ring.wantId ≤ 64) : h.standsAlone.ownBreaks = setBit (h.num Obj.breakMap) (h.ring.wantId - 1) := by
  have east' : (h.standsAlone.lane false).lost = true := east
  have west' : (h.standsAlone.lane true).lost = false := west
  have span : h.standsAlone.spanOf false = h.ring.wantId := standsAlone_self h
  unfold Hub.ownBreaks
  simp [east', west', standsAlone_breakMap, span, one, top]

/-- What a hub shows that has become steward (R96, R99). -/
structure Hub.Stewards (h g : Hub) : Prop where
  joinState : g.num Obj.joinState = joinMember
  self : g.self = h.ring.wantId
  steward : g.num Obj.stewardId = h.ring.wantId
  members : g.num Obj.memberMap = 2 ^ (h.ring.wantId - 1)
  breaks : g.num Obj.breakMap = h.standsAlone.ownBreaks
  listening : g.ring.listening = false
  tries : g.ring.tries = 0
  stewardLost : g.ring.stewardLost = false

/-- The maps and states of a steward are what `stewards` wrote last, for the keys named. -/
theorem stewards_num (h : Hub) {k : Nat} (sum : k ≠ Obj.ringClass01Sum) (refuse : k ≠ Obj.refuseReason) (rate : k ≠ Obj.grantedClass01Rate) :
    h.stewards.num k = (h.standsAlone.setNum Obj.breakMap h.standsAlone.ownBreaks).num k := by
  refine (Hub.num_setNum _ _ _ _).trans ((if_neg sum).trans ?_)
  refine (Hub.num_setNum ((h.standsAlone.setNum Obj.breakMap h.standsAlone.ownBreaks).setNum Obj.grantedClass01Rate (h.num Obj.class01Rate)) _ _ 0).trans
    ((if_neg refuse).trans ?_)
  exact (Hub.num_setNum _ _ _ _).trans (if_neg rate)

theorem becomeSteward_stewards (h : Hub) : h.Stewards h.becomeSteward := by
  have R : h.stewards.Reroutes (Obj.stewardId :: routeKeys) h.becomeSteward := by
    rw [becomeSteward_eq]
    exact .breakNotices (.setSteward (.mono (.rerouted _ _) (by simp)) (by simp) _) _ _
  have settled (k : Nat) (apart : k ≠ Obj.breakMap) : (h.standsAlone.setNum Obj.breakMap h.standsAlone.ownBreaks).num k = h.standsAlone.num k :=
    (Hub.num_setNum _ _ _ _).trans (if_neg apart)
  refine ⟨?_, ?_, ?_, ?_, ?_, ?_, ?_, ?_⟩
  · rw [R.obj.num (by decide) (by decide), stewards_num h (by decide) (by decide) (by decide), settled _ (by decide)]
    unfold Hub.standsAlone
    rw [num_setOct_other _ _ (by decide), Hub.num_setNum, if_neg (by decide), Hub.num_setNum, if_neg (by decide), Hub.num_setNum_self]
  · rw [R.obj.self (by decide), Hub.self, stewards_num h (by decide) (by decide) (by decide), settled _ (by decide)]
    exact standsAlone_self h
  · have B : ((Hub.rerouted h h.stewards).setSteward h.ring.wantId).Reroutes [] h.becomeSteward := by
      rw [becomeSteward_eq]
      exact .breakNotices (.refl _) _ _
    rw [B.obj.num (by decide) List.not_mem_nil, setSteward_stewardId]
  · rw [R.obj.num (by decide) (by decide), stewards_num h (by decide) (by decide) (by decide), settled _ (by decide)]
    unfold Hub.standsAlone
    rw [num_setOct_other _ _ (by decide), Hub.num_setNum_self]
  · rw [R.obj.num (by decide) (by decide), stewards_num h (by decide) (by decide) (by decide), Hub.num_setNum_self]
  · rw [R.ring]
    rfl
  · rw [R.ring]
    rfl
  · rw [R.ring]
    rfl

end Sys2Proof.Machine
end
section
/-!
Requests to join, their answers, and members that leave (R96, R97, R99, R100, R102).
-/
namespace Sys2Proof.Machine

/-! ### The joiner -/

/-- The hub has heard enough (R96). -/
def Hub.stopsListening (h : Hub) : Hub := { h with ring := { h.ring with listening := false } }

/-- The hub is at its `n`-th request (R96). -/
def Hub.atTry (h : Hub) (n : Nat) : Hub := { h with ring := { h.ring with tries := n } }

/-- The hub with the nonce of its next request. -/
def Hub.draws (h : Hub) : Hub := { h.nextFree with ring := { h.ring with nonce := Config.free 32 h.freeCtr } }

/-- A JOIN_REQ of the hub (R96, R102). -/
def Hub.joinReq (h : Hub) : RingFrame :=
  ringOp h.ring.heard opJoinReq h.ring.wantId (h.num Obj.class01Rate) (h.num Obj.insertionWeight) h.ring.nonce.toNat

theorem sendJoinReq_eq (h : Hub) : h.sendJoinReq = h.draws.sendPortAs h.ring.heardWest 0 h.draws.joinReq := rfl

theorem sendJoinReq_traffic (h : Hub) : h.draws.Traffic h.sendJoinReq := by
  rw [sendJoinReq_eq]
  exact .sendPortAs (.refl _) _ _ _

theorem sendJoinReq_ring (h : Hub) : h.sendJoinReq.ring.tries = h.ring.tries ∧ h.sendJoinReq.ring.listening = h.ring.listening
    ∧ h.sendJoinReq.ring.nonce = Config.free 32 h.freeCtr ∧ h.sendJoinReq.num Obj.joinState = h.num Obj.joinState := by
  have T := sendJoinReq_traffic h
  refine ⟨?_, ?_, ?_, T.keyNum (by decide)⟩
  · rw [T.ring]
    rfl
  · rw [T.ring]
    rfl
  · rw [T.ring]
    rfl

/-- The request leaves by the port that the steward's beacon came by. -/
theorem sendJoinReq_loc {h : Hub} (up : h.portUp h.ring.heardWest = true) :
    (h.sendJoinReq.lane h.ring.heardWest).loc.map (fun f => (f.src, f.dst, f.payload))
      = (h.lane h.ring.heardWest).loc.map (fun f => (f.src, f.dst, f.payload)) ++ [(0, h.ring.heard, h.draws.joinReq.payload)] := by
  have up' : h.draws.portUp h.ring.heardWest = true := up
  obtain ⟨seq, epoch, path, eq⟩ := sendPortAs_loc up' 0 h.draws.joinReq
  rw [sendJoinReq_eq, eq, List.map_append]
  rfl

theorem joinListenExpired_alone {h : Hub} (joining : h.num Obj.joinState = joinJoining) (listening : h.ring.listening = true)
    (none_ : h.ring.heard = 0) : h.joinListenExpired = h.stopsListening.becomeSteward :=
  (if_pos ⟨joining, listening⟩).trans (if_pos none_)

theorem joinListenExpired_asks {h : Hub} (joining : h.num Obj.joinState = joinJoining) (listening : h.ring.listening = true)
    (some_ : h.ring.heard ≠ 0) : h.joinListenExpired = (h.stopsListening.atTry 1).sendJoinReq :=
  (if_pos ⟨joining, listening⟩).trans (if_neg some_)

theorem joinTimeout_again {h : Hub} (joining : h.num Obj.joinState = joinJoining) (asked : h.ring.tries ≠ 0) (again : h.ring.tries < 3) :
    h.joinTimeout = (h.atTry (h.ring.tries + 1)).sendJoinReq := (if_pos ⟨joining, asked⟩).trans (if_pos again)

theorem joinTimeout_fails {h : Hub} (joining : h.num Obj.joinState = joinJoining) (asked : h.ring.tries ≠ 0) (third : 3 ≤ h.ring.tries) :
    h.joinTimeout = h.joinFailed 3 := (if_pos ⟨joining, asked⟩).trans (if_neg (by omega))

/-! ### The steward grants and refuses (R97, R100) -/

/-- The steward's tables with a joiner (R97, R102). -/
def Hub.lists (h : Hub) (f : RingFrame) (grant : Nat) : Hub :=
  Hub.sumWeights { h with ring := { h.ring with
    grants := SMap.put h.ring.grants (byteAt f.payload 1) grant
    weights := SMap.put h.ring.weights (byteAt f.payload 1) (byteAt f.payload 3) } }

/-- The steward's tables and maps with a joiner taken in, before the directions follow. -/
def Hub.takesIn (h : Hub) (west : Bool) (f : RingFrame) (grant : Nat) : Hub :=
  let id := byteAt f.payload 1
  let g := ((h.lists f grant).setNum Obj.memberMap (setBit (h.num Obj.memberMap) (id - 1))).placeJoiner west id f.hops
  ((g.setNum Obj.ringClass01Sum g.grantSum).setWindow id 0 {}).setWindow id 1 {}

/-- The rate that a request is granted (R100). -/
def Hub.grantFor (h : Hub) (f : RingFrame) : Nat := min (byteAt f.payload 2) (h.class01Limit - h.grantSum)

/-- The answer to a request, and the hub that sends it. -/
def Hub.answersReq (h : Hub) (west : Bool) (f : RingFrame) : Hub :=
  let id := byteAt f.payload 1
  let nonce := beAt f.payload 4 4
  if h.memberOf id ∨ id = 0 ∨ 64 < id then h.sendBoth (ringOp broadcastId opJoinRefuse id 1 0 nonce)
  else if h.grantFor f = 0 then h.sendBoth (ringOp broadcastId opJoinRefuse id 2 0 nonce)
  else (Hub.rerouted h (h.takesIn west f (h.grantFor f))).sendBoth (ringOp broadcastId opJoinAck id (h.grantFor f) 0 nonce)

theorem joinReqRx_eq {h : Hub} {west : Bool} {f : RingFrame} (taken : (h.receive west f).1 = true) (member : h.isMember = true)
    (steward : h.num Obj.stewardId = h.self) (mgmt : f.type = tMgmt) (op : byteAt f.payload 0 = 0x80) :
    h.joinReqRx west f = (h.receive west f).2.answersReq west f := by
  have T := Hub.Traffic.receive (.refl h) west f
  have member' := T.isMember.trans member
  have steward' : (h.receive west f).2.num Obj.stewardId = (h.receive west f).2.self := by
    rw [T.keyNum (by decide), T.self]
    exact steward
  unfold Hub.joinReqRx
  dsimp only
  rw [if_neg (by simp [taken, member', steward', isRingOp, mgmt, op, opJoinReq])]
  rfl

theorem placeJoiner_writes (h : Hub) (west : Bool) (id hops : Nat) : h.Writes [Obj.ringOrder] (h.placeJoiner west id hops) := by
  have placed (g : Hub) (ord : List Nat) : g.Writes [Obj.ringOrder] (g.setOrder ord) := .setObj g List.mem_cons_self _
  have place (p : SMap Nat) : h.Writes [Obj.ringOrder] { h with ring := { h.ring with place := p } } := .dict rfl
  unfold Hub.placeJoiner
  dsimp only
  split
  · exact (place _).trans (placed _ _)
  · exact (place _).trans (placed _ _)

/-- What admitting writes of the ring's objects. -/
def admitKeys : List Nat := [Obj.memberMap, Obj.ringOrder, Obj.ringClass01Sum]

theorem takesIn_reads (h : Hub) (west : Bool) (f : RingFrame) (grant : Nat) :
    h.Writes admitKeys (h.takesIn west f grant)
    ∧ (h.takesIn west f grant).num Obj.memberMap = setBit (h.num Obj.memberMap) (byteAt f.payload 1 - 1)
    ∧ (h.takesIn west f grant).window (byteAt f.payload 1) 0 = {} ∧ (h.takesIn west f grant).window (byteAt f.payload 1) 1 = {} := by
  have listed : h.Writes admitKeys (h.lists f grant) := .dict rfl
  unfold Hub.takesIn
  dsimp only
  revert listed
  generalize h.lists f grant = l
  generalize byteAt f.payload 1 = id
  intro listed
  have mapped : h.Writes admitKeys (l.setNum Obj.memberMap (setBit (h.num Obj.memberMap) (id - 1))) := .setNum listed (by decide)
  have map := Hub.num_setNum_self l Obj.memberMap (setBit (h.num Obj.memberMap) (id - 1))
  revert mapped map
  generalize l.setNum Obj.memberMap (setBit (h.num Obj.memberMap) (id - 1)) = k
  intro mapped map
  have placed := placeJoiner_writes k west id f.hops
  have map' := (placed.num (o := Obj.memberMap) (by decide) (by decide)).trans map
  revert placed map'
  generalize k.placeJoiner west id f.hops = p
  intro placed map'
  have summed : h.Writes admitKeys (p.setNum Obj.ringClass01Sum p.grantSum) := .setNum (mapped.trans (placed.mono (by decide))) (by decide)
  refine ⟨summed.trans (.dict rfl), ?_, ?_, ?_⟩
  · exact (Hub.num_setNum _ _ _ _).trans ((if_neg (by decide)).trans map')
  · unfold Hub.setWindow Hub.window
    dsimp only
    rw [SMap.get_set_ne _ _ _ _ _ (by omega), SMap.get_set_self]
  · exact window_setWindow_same _ _ _ _

theorem answersReq_refuses {h : Hub} {west : Bool} {f : RingFrame} {reason : Nat}
    (refuse : h.answersReq west f = h.sendBoth (ringOp broadcastId opJoinRefuse (byteAt f.payload 1) reason 0 (beAt f.payload 4 4))) :
    (h.answersReq west f).num Obj.memberMap = h.num Obj.memberMap
    ∧ ∀ w, h.portUp w = true → ((h.answersReq west f).lane w).loc.getLast?.map (fun f => (f.dst, f.payload))
      = some (broadcastId, [BitVec.ofNat 8 0x82, BitVec.ofNat 8 (byteAt f.payload 1), BitVec.ofNat 8 reason, 0] ++ beBytes 4 (beAt f.payload 4 4)) := by
  rw [refuse]
  exact ⟨(Hub.Traffic.sendBoth (.refl h) _).keyNum (by decide), fun w up => sendBoth_last up _⟩

theorem answersReq_grants {h : Hub} {west : Bool} {f : RingFrame} (new : h.memberOf (byteAt f.payload 1) = false) (one : 1 ≤ byteAt f.payload 1)
    (top : byteAt f.payload 1 ≤ 64) (some_ : h.grantFor f ≠ 0) :
    (h.answersReq west f).num Obj.memberMap = setBit (h.num Obj.memberMap) (byteAt f.payload 1 - 1)
    ∧ (∀ w, h.portUp w = true → ((h.answersReq west f).lane w).loc.getLast?.map (fun f => (f.dst, f.payload))
      = some (broadcastId, [BitVec.ofNat 8 0x81, BitVec.ofNat 8 (byteAt f.payload 1), BitVec.ofNat 8 (h.grantFor f), 0] ++ beBytes 4 (beAt f.payload 4 4)))
    ∧ (h.answersReq west f).window (byteAt f.payload 1) 0 = {} ∧ (h.answersReq west f).window (byteAt f.payload 1) 1 = {} := by
  have grant : h.answersReq west f = (Hub.rerouted h (h.takesIn west f (h.grantFor f))).sendBoth
      (ringOp broadcastId opJoinAck (byteAt f.payload 1) (h.grantFor f) 0 (beAt f.payload 4 4)) :=
    (if_neg (by simp [new]; omega)).trans (if_neg some_)
  obtain ⟨writes, map, zero, one_⟩ := takesIn_reads h west f (h.grantFor f)
  have R := Hub.Reroutes.rerouted h (h.takesIn west f (h.grantFor f))
  rw [grant]
  revert writes map zero one_ R
  generalize h.takesIn west f (h.grantFor f) = a
  intro writes map zero one_ R
  refine ⟨?_, fun w up => sendBoth_last ?_ _, ?_, ?_⟩
  · rw [(Hub.Traffic.sendBoth (.refl _) _).keyNum (by decide), R.obj.num (by decide) (by decide), map]
  · rw [R.obj.portUp w (by cases w <;> decide), writes.portUp w (by cases w <;> decide), up]
  · rw [sendBoth_window, R.window, zero]
  · rw [sendBoth_window, R.window, one_]

/-! ### The answers -/

/-- The hub as a JOIN_ACK has made it a member (R96). -/
def Hub.isTaken (h : Hub) (id src granted : Nat) : Hub :=
  let g := ((h.setNum Obj.joinState joinMember).setNum Obj.nodeIdInUse id).setSteward src
  ((g.setNum Obj.grantedClass01Rate granted).setNum Obj.refuseReason 0).atTry 0

/-- The hub as it says that it was granted less than it asked for. -/
def Hub.saysLimited (h : Hub) (want granted : Nat) : Hub :=
  h.when (decide (granted < want)) (fun h => h.notice N.ringClass01Limited (fidRingPort 0) [want, granted])

theorem joinAckRx_eq {h : Hub} {west : Bool} {f : RingFrame} (taken : (h.receive west f).1 = true) (mgmt : f.type = tMgmt)
    (op : byteAt f.payload 0 = 0x81) (joining : h.num Obj.joinState = joinJoining) (asked : h.ring.tries ≠ 0)
    (mine : beAt f.payload 4 4 = h.ring.nonce.toNat) :
    ∃ g, h.Traffic g ∧ h.joinAckRx west f
      = ((g.isTaken (byteAt f.payload 1) f.src (byteAt f.payload 2)).saysLimited (g.num Obj.class01Rate) (byteAt f.payload 2)).when
      (decide (byteAt f.payload 1 < f.src)) Hub.becomeSteward := by
  have T := Hub.Traffic.receive (.refl h) west f
  have cleared : h.Traffic (((h.receive west f).2.setWindow (byteAt f.payload 1) 0 {}).setWindow (byteAt f.payload 1) 1 {}) :=
    .setWindow (.setWindow T _ _ _) _ _ _
  refine ⟨_, cleared, ?_⟩
  have cond : ((h.receive west f).2.setWindow (byteAt f.payload 1) 0 {}).num Obj.joinState = joinJoining
      ∧ (h.receive west f).2.ring.tries ≠ 0 ∧ beAt f.payload 4 4 = (h.receive west f).2.ring.nonce.toNat := by
    refine ⟨(T.keyNum (by decide)).trans joining, ?_, ?_⟩
    · rw [T.ring]
      exact asked
    · rw [T.ring]
      exact mine
  unfold Hub.joinAckRx
  dsimp only
  rw [if_neg (by simp [taken, isRingOp, mgmt, op, opJoinAck])]
  exact if_pos cond

/-- What a hub shows that a JOIN_ACK has made a member. -/
theorem isTaken_reads (h : Hub) (id src granted : Nat) :
    (h.isTaken id src granted).num Obj.joinState = joinMember ∧ (h.isTaken id src granted).self = id
    ∧ (h.isTaken id src granted).num Obj.stewardId = src ∧ (h.isTaken id src granted).num Obj.grantedClass01Rate = granted := by
  have last (k : Nat) (rate : k ≠ Obj.grantedClass01Rate) (refuse : k ≠ Obj.refuseReason) : (h.isTaken id src granted).num k
      = (((h.setNum Obj.joinState joinMember).setNum Obj.nodeIdInUse id).setSteward src).num k :=
    (Hub.num_setNum _ Obj.refuseReason k 0).trans ((if_neg refuse).trans ((Hub.num_setNum _ _ _ _).trans (if_neg rate)))
  have S : ((h.setNum Obj.joinState joinMember).setNum Obj.nodeIdInUse id).Reroutes [Obj.stewardId]
      (((h.setNum Obj.joinState joinMember).setNum Obj.nodeIdInUse id).setSteward src) := .setSteward (.refl _) List.mem_cons_self src
  refine ⟨?_, ?_, ?_, ?_⟩
  · rw [last _ (by decide) (by decide), S.obj.num (by decide) (by decide), Hub.num_setNum, if_neg (by decide), Hub.num_setNum_self]
  · rw [Hub.self, last _ (by decide) (by decide), S.obj.num (by decide) (by decide), Hub.num_setNum_self]
  · rw [last _ (by decide) (by decide), setSteward_stewardId]
  · exact (Hub.num_setNum _ Obj.refuseReason _ 0).trans ((if_neg (by decide)).trans (Hub.num_setNum_self _ _ _))

theorem isTaken_wantId (h : Hub) (id src granted : Nat) : (h.isTaken id src granted).ring.wantId = h.ring.wantId := by
  have S : ((h.setNum Obj.joinState joinMember).setNum Obj.nodeIdInUse id).Reroutes [Obj.stewardId]
      (((h.setNum Obj.joinState joinMember).setNum Obj.nodeIdInUse id).setSteward src) := .setSteward (.refl _) List.mem_cons_self src
  show (((h.setNum Obj.joinState joinMember).setNum Obj.nodeIdInUse id).setSteward src).ring.wantId = _
  rw [S.ring]
  rfl

theorem saysLimited_reroutes (h : Hub) (want granted : Nat) : h.Reroutes [] (h.saysLimited want granted) :=
  .when (.refl h) _ _ (.notice (.refl h) _ _ _)

/-- A joiner that is taken is a member, under its steward or as one where its id is the lower (R96, R99). -/
theorem joinAckRx_joins {h : Hub} {west : Bool} {f : RingFrame} (taken : (h.receive west f).1 = true) (mgmt : f.type = tMgmt)
    (op : byteAt f.payload 0 = 0x81) (joining : h.num Obj.joinState = joinJoining) (asked : h.ring.tries ≠ 0)
    (mine : beAt f.payload 4 4 = h.ring.nonce.toNat) :
    (h.joinAckRx west f).num Obj.joinState = joinMember ∧ (h.joinAckRx west f).ring.tries = 0
    ∧ (f.src ≤ byteAt f.payload 1 → (h.joinAckRx west f).self = byteAt f.payload 1 ∧ (h.joinAckRx west f).num Obj.stewardId = f.src
      ∧ (h.joinAckRx west f).num Obj.grantedClass01Rate = byteAt f.payload 2)
    ∧ (byteAt f.payload 1 < f.src → (h.joinAckRx west f).self = h.ring.wantId ∧ (h.joinAckRx west f).num Obj.stewardId = h.ring.wantId) := by
  obtain ⟨g, T, eq⟩ := joinAckRx_eq taken mgmt op joining asked mine
  obtain ⟨state, self, steward, rate⟩ := isTaken_reads g (byteAt f.payload 1) f.src (byteAt f.payload 2)
  have wants : (g.isTaken (byteAt f.payload 1) f.src (byteAt f.payload 2)).ring.wantId = h.ring.wantId := by
    rw [isTaken_wantId, T.ring]
  have tries : (g.isTaken (byteAt f.payload 1) f.src (byteAt f.payload 2)).ring.tries = 0 := rfl
  have N := saysLimited_reroutes (g.isTaken (byteAt f.payload 1) f.src (byteAt f.payload 2)) (g.num Obj.class01Rate) (byteAt f.payload 2)
  rw [eq]
  revert state self steward rate wants tries N
  generalize g.isTaken (byteAt f.payload 1) f.src (byteAt f.payload 2) = k
  generalize k.saysLimited (g.num Obj.class01Rate) (byteAt f.payload 2) = n
  intro state self steward rate wants tries N
  unfold Hub.when
  by_cases lower : byteAt f.payload 1 < f.src
  · have S := becomeSteward_stewards n
    have wants' : n.ring.wantId = h.ring.wantId := by
      rw [N.ring]
      exact wants
    rw [if_pos (decide_eq_true lower)]
    exact ⟨S.joinState, S.tries, fun le => absurd lower (by omega), fun _ => ⟨S.self.trans wants', S.steward.trans wants'⟩⟩
  · rw [if_neg (by simp [lower])]
    refine ⟨(N.obj.num (by decide) List.not_mem_nil).trans state, ?_, fun _ => ⟨(N.obj.self List.not_mem_nil).trans self,
      (N.obj.num (by decide) List.not_mem_nil).trans steward, (N.obj.num (by decide) List.not_mem_nil).trans rate⟩, fun lt => absurd lt lower⟩
    rw [N.ring]
    exact tries

theorem joinRefuseRx_eq {h : Hub} {west : Bool} {f : RingFrame} (taken : (h.receive west f).1 = true) (mgmt : f.type = tMgmt)
    (op : byteAt f.payload 0 = 0x82) (joining : h.num Obj.joinState = joinJoining) (asked : h.ring.tries ≠ 0)
    (mine : beAt f.payload 4 4 = h.ring.nonce.toNat) : h.joinRefuseRx west f = (h.receive west f).2.joinFailed (byteAt f.payload 2) := by
  have T := Hub.Traffic.receive (.refl h) west f
  have tries : (h.receive west f).2.ring.tries = h.ring.tries := by rw [T.ring]
  have nonce : (h.receive west f).2.ring.nonce = h.ring.nonce := by rw [T.ring]
  have state : (h.receive west f).2.num Obj.joinState = joinJoining := (T.keyNum (by decide)).trans joining
  unfold Hub.joinRefuseRx
  dsimp only
  rw [if_pos (by simp [taken, isRingOp, mgmt, op, opJoinRefuse, state, tries, asked, nonce, mine])]

/-! ### A member leaves (R102) -/

theorem testBit_clearBit (v i : Nat) : (clearBit v i).testBit i = false := by
  unfold clearBit
  split
  next set =>
    obtain ⟨x, rfl⟩ := Nat.exists_eq_add_of_le (Nat.ge_two_pow_of_testBit set)
    rw [Nat.testBit_two_pow_add_eq] at set
    rw [Nat.add_sub_cancel_left]
    simpa using set
  next clear => exact Bool.eq_false_of_not_eq_true clear

/-- The hub with a member gone from its maps, order and sums, before the directions follow. -/
def Hub.removes (h : Hub) (id : Nat) : Hub :=
  let g := (h.setNum Obj.memberMap (clearBit (h.num Obj.memberMap) (id - 1))).setOrder (h.order.filter (· != id))
  let g := { g with ring := { g.ring with grants := SMap.erase g.ring.grants id, weights := SMap.erase g.ring.weights id,
                                          place := SMap.set placeUnknown g.ring.place id 1000 } }
  g.when (g.num Obj.stewardId == g.self) (fun h => h.sumWeights.setNum Obj.ringClass01Sum h.grantSum)

theorem leaveRx_eq {h : Hub} {west : Bool} {f : RingFrame} (taken : (h.receive west f).1 = true) (mgmt : f.type = tMgmt)
    (op : byteAt f.payload 0 = 0x83) (member : h.isMember = true) (of_ : h.memberOf (byteAt f.payload 1) = true) :
    h.leaveRx west f = Hub.rerouted (h.receive west f).2 ((h.receive west f).2.removes (byteAt f.payload 1)) := by
  have T := Hub.Traffic.receive (.refl h) west f
  have member' := T.isMember.trans member
  have of' := (T.memberOf _).trans of_
  unfold Hub.leaveRx
  dsimp only
  rw [if_neg (by simp [taken, member', of', isRingOp, mgmt, op, opLeave])]
  rfl

theorem removes_memberMap (h : Hub) (id : Nat) : (h.removes id).num Obj.memberMap = clearBit (h.num Obj.memberMap) (id - 1) := by
  have map : ((h.setNum Obj.memberMap (clearBit (h.num Obj.memberMap) (id - 1))).setOrder (h.order.filter (· != id))).num Obj.memberMap
      = clearBit (h.num Obj.memberMap) (id - 1) := (num_setOct_other _ _ (by decide)).trans (Hub.num_setNum_self _ _ _)
  unfold Hub.removes Hub.when
  dsimp only
  split
  · exact (Hub.num_setNum _ _ _ _).trans ((if_neg (by decide)).trans map)
  · exact map

theorem leaveRx_removes {h : Hub} {west : Bool} {f : RingFrame} (taken : (h.receive west f).1 = true) (mgmt : f.type = tMgmt)
    (op : byteAt f.payload 0 = 0x83) (member : h.isMember = true) (of_ : h.memberOf (byteAt f.payload 1) = true) :
    (h.leaveRx west f).num Obj.memberMap = clearBit (h.num Obj.memberMap) (byteAt f.payload 1 - 1)
    ∧ (h.leaveRx west f).memberOf (byteAt f.payload 1) = false := by
  have T := Hub.Traffic.receive (.refl h) west f
  have map : (h.leaveRx west f).num Obj.memberMap = clearBit (h.num Obj.memberMap) (byteAt f.payload 1 - 1) := by
    rw [leaveRx_eq taken mgmt op member of_, (Hub.Reroutes.rerouted _ _).obj.num (by decide) (by decide), removes_memberMap, T.keyNum (by decide)]
  refine ⟨map, ?_⟩
  unfold Hub.memberOf
  rw [map, testBit_clearBit, Bool.and_false]

end Sys2Proof.Machine
end
section
/-!
Beacons and HELLO (R96, R98, R99, R101): what a hub takes of them, and what it sends.
-/
namespace Sys2Proof.Machine

/-! ### A beacon is taken (R99, R110) -/

/-- The hub with the maps, order and sums of a beacon, before the directions follow. -/
def Hub.beaconMaps (h : Hub) (f : RingFrame) : Hub :=
  let g := ((h.setNum Obj.memberMap (beAt f.payload 0 8)).setNum Obj.breakMap (beAt f.payload 8 8)).setOct Obj.ringOrder (slice f.payload 16 64)
  let g := g.setNum Obj.ringClass01Sum (beAt f.payload 80 2)
  { g with ring := { g.ring with weightSum := max 1 (beAt f.payload 82 2) } }

theorem takeBeacon_reroutes (h : Hub) (f : RingFrame) : (h.beaconMaps f).Reroutes routeKeys (h.takeBeacon f) :=
  .breakNotices (.rerouted h (h.beaconMaps f)) _ _

theorem beaconMaps_num (h : Hub) (f : RingFrame) (k : Nat) : (h.beaconMaps f).num k
    = ((((h.setNum Obj.memberMap (beAt f.payload 0 8)).setNum Obj.breakMap (beAt f.payload 8 8)).setOct Obj.ringOrder (slice f.payload 16 64)).setNum
        Obj.ringClass01Sum (beAt f.payload 80 2)).num k := rfl

/-- What a hub shows that has taken a beacon: the maps and sums of it, and its steward as before. -/
theorem takeBeacon_reads (h : Hub) (f : RingFrame) :
    (h.takeBeacon f).num Obj.memberMap = beAt f.payload 0 8 ∧ (h.takeBeacon f).num Obj.breakMap = beAt f.payload 8 8
    ∧ (h.takeBeacon f).num Obj.ringClass01Sum = beAt f.payload 80 2 ∧ (h.takeBeacon f).num Obj.stewardId = h.num Obj.stewardId
    ∧ (h.takeBeacon f).ring.stewardLost = h.ring.stewardLost := by
  have R := takeBeacon_reroutes h f
  refine ⟨?_, ?_, ?_, ?_, ?_⟩
  · rw [R.obj.num (by decide) (by decide), beaconMaps_num, Hub.num_setNum, if_neg (by decide), num_setOct_other _ _ (by decide), Hub.num_setNum,
      if_neg (by decide), Hub.num_setNum_self]
  · rw [R.obj.num (by decide) (by decide), beaconMaps_num, Hub.num_setNum, if_neg (by decide), num_setOct_other _ _ (by decide), Hub.num_setNum_self]
  · rw [R.obj.num (by decide) (by decide), beaconMaps_num, Hub.num_setNum_self]
  · rw [R.obj.num (by decide) (by decide), beaconMaps_num, Hub.num_setNum, if_neg (by decide), num_setOct_other _ _ (by decide), Hub.num_setNum,
      if_neg (by decide), Hub.num_setNum, if_neg (by decide)]
  · rw [R.ring]
    rfl

/-- The sender of a frame that a hub takes is another node, or none (R108). -/
theorem receive_foreign {h : Hub} {west : Bool} {f : RingFrame} (taken : (h.receive west f).1 = true) :
    headerError f = false ∧ (f.src = 0 ∨ f.src ≠ h.self) := by
  have self : (h.frameArrives west f).2.self = h.self := (Hub.Counts.frameArrives h west f).num (by decide)
  unfold Hub.receive at taken
  dsimp only at taken
  rw [self] at taken
  split at taken
  · exact absurd taken Bool.false_ne_true
  next passes =>
    have arrived : (h.frameArrives west f).1 = true ∧ (f.src = 0 ∨ f.src ≠ h.self) := by
      simpa [Decidable.imp_iff_not_or] using passes
    refine ⟨?_, arrived.2⟩
    refine Bool.eq_false_of_not_eq_true fun bad => ?_
    have refused : (h.frameArrives west f).1 = false := by
      unfold Hub.frameArrives
      dsimp only
      split
      · rfl
      · rfl
    exact absurd arrived.1 (by simp [refused])

/-- A beacon has a sender (R89, R91). -/
theorem beacon_src {f : RingFrame} (whole : headerError f = false) (beacon : f.type = tBcn) : f.src ≠ 0 := by
  intro none_
  have mgmt : (f.type == tMgmt) = false := by rw [beacon]; rfl
  simp [headerError, none_, mgmt] at whole

/-- What a taken beacon comes to, by what the hub is (R96, R98, R99). -/
def Hub.hearsBeacon (h : Hub) (west : Bool) (f : RingFrame) : Hub :=
  if h.num Obj.joinState = joinJoining then
    if h.ring.listening then { h with ring := { h.ring with heard := f.src, heardWest := west } } else h
  else if h.isMember then
    if f.src = h.num Obj.stewardId then Hub.takeBeacon { h with ring := { h.ring with stewardLost := false } } f
    else if h.num Obj.stewardId = h.self ∧ h.self < f.src then h
    else (h.setSteward f.src).beginJoin
  else (h.setSteward f.src).takeBeacon f

theorem bcnRx_hears {h : Hub} {west : Bool} {f : RingFrame} (taken : (h.receive west f).1 = true) (beacon : f.type = tBcn) :
    h.bcnRx west f = (h.receive west f).2.hearsBeacon west f := by
  have T := Hub.Traffic.receive (.refl h) west f
  obtain ⟨whole, foreign⟩ := receive_foreign taken
  have other : f.src ≠ (h.receive west f).2.self := by
    rw [T.self]
    exact foreign.resolve_left (beacon_src whole beacon)
  unfold Hub.bcnRx
  dsimp only
  rw [if_neg (not_not.mpr beacon), if_neg (fun own => other own.1), if_neg (by simp [taken])]
  rfl

/-- What a hub that hears a beacon shows (R96, R98, R99). -/
theorem hearsBeacon_reads (h : Hub) (west : Bool) (f : RingFrame) :
    (h.num Obj.joinState = joinJoining → h.ring.listening = true →
      (h.hearsBeacon west f).ring.heard = f.src ∧ (h.hearsBeacon west f).ring.heardWest = west)
    ∧ (h.isMember = true → f.src = h.num Obj.stewardId → (h.hearsBeacon west f).ring.stewardLost = false
      ∧ (h.hearsBeacon west f).num Obj.memberMap = beAt f.payload 0 8 ∧ (h.hearsBeacon west f).num Obj.breakMap = beAt f.payload 8 8
      ∧ (h.hearsBeacon west f).num Obj.ringClass01Sum = beAt f.payload 80 2)
    ∧ (h.isMember = true → f.src ≠ h.num Obj.stewardId → f.src < h.self ∨ h.num Obj.stewardId ≠ h.self →
      (h.hearsBeacon west f).num Obj.stewardId = f.src ∧ (h.hearsBeacon west f).num Obj.joinState ≠ joinMember)
    ∧ (h.isMember = false → h.num Obj.joinState ≠ joinJoining → (h.hearsBeacon west f).num Obj.stewardId = f.src
      ∧ (h.hearsBeacon west f).num Obj.memberMap = beAt f.payload 0 8 ∧ (h.hearsBeacon west f).num Obj.breakMap = beAt f.payload 8 8) := by
  have apart (member : h.isMember = true) : h.num Obj.joinState ≠ joinJoining := by
    rw [beq_iff_eq.mp member]
    decide
  refine ⟨fun joining listening => ?_, fun member own => ?_, fun member other may => ?_, fun out joined => ?_⟩
  · have hears : h.hearsBeacon west f = { h with ring := { h.ring with heard := f.src, heardWest := west } } :=
      (if_pos joining).trans (if_pos listening)
    rw [hears]
    exact ⟨rfl, rfl⟩
  · have takes : h.hearsBeacon west f = Hub.takeBeacon { h with ring := { h.ring with stewardLost := false } } f :=
      (if_neg (apart member)).trans ((if_pos member).trans (if_pos own))
    obtain ⟨members, breaks, sum, -, lost⟩ := takeBeacon_reads { h with ring := { h.ring with stewardLost := false } } f
    rw [takes]
    exact ⟨lost, members, breaks, sum⟩
  · have joins : h.hearsBeacon west f = (h.setSteward f.src).beginJoin :=
      (if_neg (apart member)).trans ((if_pos member).trans ((if_neg other).trans (if_neg (by omega))))
    have B := beginJoin_begins (h.setSteward f.src)
    rw [joins, B.writes.num (by decide) (by decide), setSteward_stewardId, B.state]
    refine ⟨rfl, ?_⟩
    split
    · decide
    · decide
  · have follows : h.hearsBeacon west f = (h.setSteward f.src).takeBeacon f :=
      (if_neg joined).trans (if_neg (by simp [out]))
    obtain ⟨members, breaks, -, steward, -⟩ := takeBeacon_reads (h.setSteward f.src) f
    rw [follows]
    exact ⟨steward.trans (setSteward_stewardId h f.src), members, breaks⟩

theorem bcnRx_reads {h : Hub} {west : Bool} {f : RingFrame} (taken : (h.receive west f).1 = true) (beacon : f.type = tBcn) :
    (h.num Obj.joinState = joinJoining → h.ring.listening = true → (h.bcnRx west f).ring.heard = f.src ∧ (h.bcnRx west f).ring.heardWest = west)
    ∧ (h.isMember = true → f.src = h.num Obj.stewardId → (h.bcnRx west f).ring.stewardLost = false
      ∧ (h.bcnRx west f).num Obj.memberMap = beAt f.payload 0 8 ∧ (h.bcnRx west f).num Obj.breakMap = beAt f.payload 8 8
      ∧ (h.bcnRx west f).num Obj.ringClass01Sum = beAt f.payload 80 2)
    ∧ (h.isMember = true → f.src ≠ h.num Obj.stewardId → f.src < h.self ∨ h.num Obj.stewardId ≠ h.self →
      (h.bcnRx west f).num Obj.stewardId = f.src ∧ (h.bcnRx west f).num Obj.joinState ≠ joinMember)
    ∧ (h.isMember = false → h.num Obj.joinState ≠ joinJoining → (h.bcnRx west f).num Obj.stewardId = f.src
      ∧ (h.bcnRx west f).num Obj.memberMap = beAt f.payload 0 8 ∧ (h.bcnRx west f).num Obj.breakMap = beAt f.payload 8 8) := by
  have T := Hub.Traffic.receive (.refl h) west f
  have listening : (h.receive west f).2.ring.listening = h.ring.listening := by rw [T.ring]
  have reads := hearsBeacon_reads (h.receive west f).2 west f
  rw [bcnRx_hears taken beacon]
  rw [T.keyNum (o := Obj.joinState) (by decide), T.isMember, T.keyNum (o := Obj.stewardId) (by decide), T.self, listening] at reads
  exact reads

/-! ### HELLO (R101) -/

/-- The ring order with a neighbour of the steward in its place, before the directions follow. -/
def Hub.orders (h : Hub) (west : Bool) (nb : Nat) : Hub :=
  let rest := (h.order.filter (fun x => x != nb && x != h.self))
  let n := { h with ring := { h.ring with place := SMap.set placeUnknown h.ring.place nb (if west then 2000 else 1) } }
  n.setOrder (if west then h.self :: rest ++ [nb] else h.self :: nb :: rest)

theorem placeNeighbour_eq (h : Hub) (west : Bool) (nb : Nat) : h.placeNeighbour west nb
    = if h.isMember && h.num Obj.stewardId == h.self && h.memberOf nb && nb != h.self then Hub.rerouted h (h.orders west nb) else h := rfl

theorem orders_writes (h : Hub) (west : Bool) (nb : Nat) : h.Writes (Obj.ringOrder :: routeKeys) (h.orders west nb) := by
  unfold Hub.orders Hub.setOrder Hub.setOct
  exact .trans (.dict rfl) (.setObj _ List.mem_cons_self _)

theorem placeNeighbour_keeps (h : Hub) (west : Bool) (nb : Nat) :
    h.Writes (Obj.ringOrder :: routeKeys) (h.placeNeighbour west nb)
    ∧ (h.placeNeighbour west nb).ring.helloWestW = h.ring.helloWestW ∧ (h.placeNeighbour west nb).ring.helloWestE = h.ring.helloWestE := by
  rw [placeNeighbour_eq]
  split
  · have R := Hub.Reroutes.rerouted h (h.orders west nb)
    refine ⟨(orders_writes h west nb).trans (R.obj.mono (by simp)), ?_, ?_⟩
    · rw [R.ring]
      rfl
    · rw [R.ring]
      rfl
  · exact ⟨.refl h, rfl, rfl⟩

/-- The hub with what a HELLO tells of its neighbour. -/
def Hub.meets (h : Hub) (west : Bool) (id wm : Nat) : Hub :=
  if west then { h.setNum Obj.neighbourW id with ring := { h.ring with helloWestW := wm } }
  else { h.setNum Obj.neighbourE id with ring := { h.ring with helloWestE := wm } }

theorem helloRx_eq {h : Hub} {west : Bool} {f : RingFrame} (taken : (h.frameArrives west f).1 = true) (intact : f.intact = true)
    (mgmt : f.type = tMgmt) (op : byteAt f.payload 0 = 0x84) :
    ∃ nb, h.helloRx west f = ((h.frameArrives west f).2.meets west (byteAt f.payload 1) (byteAt f.payload 2)).placeNeighbour west nb := by
  have hello : ¬ ((!(h.frameArrives west f).1 || !f.intact || !isRingOp f opHello) = true) := by
    simp [taken, intact, isRingOp, mgmt, op, opHello]
  cases west with
  | false => exact ⟨_, if_neg hello⟩
  | true => exact ⟨_, if_neg hello⟩

theorem helloRx_tells {h : Hub} {west : Bool} {f : RingFrame} (taken : (h.frameArrives west f).1 = true) (intact : f.intact = true)
    (mgmt : f.type = tMgmt) (op : byteAt f.payload 0 = 0x84) :
    (h.helloRx west f).num (if west then Obj.neighbourW else Obj.neighbourE) = byteAt f.payload 1
    ∧ (if west then (h.helloRx west f).ring.helloWestW else (h.helloRx west f).ring.helloWestE) = byteAt f.payload 2 := by
  obtain ⟨nb, eq⟩ := helloRx_eq taken intact mgmt op
  obtain ⟨W, westW, westE⟩ := placeNeighbour_keeps ((h.frameArrives west f).2.meets west (byteAt f.payload 1) (byteAt f.payload 2)) west nb
  rw [eq]
  cases west with
  | false => exact ⟨(W.num (by decide) (by decide)).trans (Hub.num_setNum_self _ Obj.neighbourE _), westE⟩
  | true => exact ⟨(W.num (by decide) (by decide)).trans (Hub.num_setNum_self _ Obj.neighbourW _), westW⟩

/-- The HELLO of a member (R101). -/
def Hub.hello (h : Hub) : RingFrame := ringOp broadcastId opHello h.self h.self 0 0

theorem helloPort_member {h : Hub} (member : h.isMember = true) (west : Bool) :
    h.helloPort west = if h.portUp west then h.sendPortAs west h.self h.hello else h := by
  unfold Hub.helloPort Hub.when
  dsimp only
  rw [if_pos member, if_pos member]
  rfl

theorem helloPort_traffic {h : Hub} (member : h.isMember = true) (west : Bool) : h.Traffic (h.helloPort west) := by
  rw [helloPort_member member]
  exact .ite _ (.sendPortAs (.refl h) _ _ _) (.refl h)

/-- A HELLO leaves by its own port alone. -/
theorem helloPort_other {h : Hub} (member : h.isMember = true) (west : Bool) : (h.helloPort west).lane (!west) = h.lane (!west) := by
  rw [helloPort_member member]
  split
  · exact sendPortAs_lane_broadcast h west _ rfl
  · rfl

theorem helloPort_same {h : Hub} (member : h.isMember = true) (west : Bool) :
    ((h.helloPort west).lane west).loc.map (fun f => (f.type, f.payload)) = (h.lane west).loc.map (fun f => (f.type, f.payload))
      ++ (if h.portUp west = true then [(tMgmt, [0x84, BitVec.ofNat 8 h.self, BitVec.ofNat 8 h.self, 0, 0, 0, 0, 0])] else []) := by
  rw [helloPort_member member]
  split
  next up =>
    obtain ⟨seq, epoch, path, eq⟩ := sendPortAs_loc up h.self h.hello
    rw [eq, List.map_append]
    rfl
  · rw [List.append_nil]

/-- HELLO leaves by each port that is UP (R101). -/
theorem helloSend_hellos {h : Hub} (member : h.isMember = true) (sound : h.flag Obj.hubFault = false) (w : Bool) :
    (h.helloSend.lane w).loc.map (fun f => (f.type, f.payload)) = (h.lane w).loc.map (fun f => (f.type, f.payload))
      ++ (if h.portUp w = true then [(tMgmt, [0x84, BitVec.ofNat 8 h.self, BitVec.ofNat 8 h.self, 0, 0, 0, 0, 0])] else []) := by
  have T := helloPort_traffic member false
  have member' := T.isMember.trans member
  have sends : h.helloSend = (h.helloPort false).helloPort true := if_neg (by simp [sound])
  rw [sends]
  cases w with
  | false =>
    have other := helloPort_other member' true
    rw [Bool.not_true] at other
    rw [other]
    exact helloPort_same member false
  | true =>
    have other := helloPort_other member false
    rw [Bool.not_false] at other
    have same := helloPort_same member' true
    rw [T.portUp, T.self, other] at same
    exact same

/-! ### The steward's beacon (R99) -/

/-- The hub with the number of its next beacon. -/
def Hub.numbersBeacon (h : Hub) : Hub := { h with ring := { h.ring with beaconCount := (h.ring.beaconCount + 1) % 2 ^ 32 } }

theorem bcnSend_eq {h : Hub} (member : h.isMember = true) (steward : h.num Obj.stewardId = h.self) (id : h.self ≠ 0)
    (sound : h.flag Obj.hubFault = false) : h.bcnSend
      = h.numbersBeacon.sendBoth { dst := broadcastId, cls := 7, type := tBcn, payload := h.numbersBeacon.bcnPayload } :=
  if_pos (by simp [member, steward, id, sound])

theorem bcnSend_beacons {h : Hub} (member : h.isMember = true) (steward : h.num Obj.stewardId = h.self) (id : h.self ≠ 0)
    (sound : h.flag Obj.hubFault = false) :
    h.bcnSend.ring.beaconCount = (h.ring.beaconCount + 1) % 2 ^ 32
    ∧ ∀ w, h.portUp w = true → (h.bcnSend.lane w).loc.map (fun f => (f.type, f.payload))
      = (h.lane w).loc.map (fun f => (f.type, f.payload)) ++ [(tBcn, h.bcnSend.bcnPayload)] := by
  rw [bcnSend_eq member steward id sound]
  have T := Hub.Traffic.sendBoth (.refl h.numbersBeacon) { dst := broadcastId, cls := 7, type := tBcn, payload := h.numbersBeacon.bcnPayload }
  refine ⟨?_, fun w up => ?_⟩
  · rw [T.ring]
    rfl
  · have up' : h.numbersBeacon.portUp w = true := up
    obtain ⟨src, seq, epoch, eq⟩ := sendBoth_loc up' { dst := broadcastId, cls := 7, type := tBcn, payload := h.numbersBeacon.bcnPayload }
    rw [eq, T.bcnPayload, List.map_append]
    rfl

/-- A member takes over once its rank wait is up (R99). -/
theorem rankWaitExpired_stewards {h : Hub} (member : h.isMember = true) (lost : h.ring.stewardLost = true) :
    Hub.Stewards { h with ring := { h.ring with wantId := h.self } } h.rankWaitExpired := by
  have takes : h.rankWaitExpired = Hub.becomeSteward { h with ring := { h.ring with wantId := h.self } } := if_pos (by simp [member, lost])
  rw [takes]
  exact becomeSteward_stewards _

end Sys2Proof.Machine

open Sys2Proof Sys2Proof.Machine

/-- Settles O23: requests, answers and beacons by what each leaves once the directions have followed it. -/
theorem ringJoinsAndStewardship : Obligations.RingJoinsAndStewardship := by
  unfold Obligations.RingJoinsAndStewardship
  refine ⟨?listened, ?unanswered, ?received, ?hello, ?member⟩
  case listened =>
    intro s joining listening
    by_cases none_ : s.hub.ring.heard = 0
    · obtain ⟨t, next, rest, hub⟩ := next_hub (c := .joinListenExpired) (s := s)
        (congrArg (fun h => Host.Outcome.next (s.withHub h)) (joinListenExpired_alone joining listening none_))
      have S := becomeSteward_stewards s.hub.stopsListening
      rw [← hub] at S
      exact ⟨t, next, rest, S.listening, fun _ => ⟨S.joinState, S.self, S.steward, S.members,
        fun east west => S.breaks.trans (standsAlone_ownBreaks_none east west),
        fun east west one top => S.breaks.trans (standsAlone_ownBreaks_east east west one top)⟩, fun some_ => absurd none_ some_⟩
    · obtain ⟨t, next, rest, hub⟩ := next_hub (c := .joinListenExpired) (s := s)
        (congrArg (fun h => Host.Outcome.next (s.withHub h)) (joinListenExpired_asks joining listening none_))
      obtain ⟨tries, stopped, nonce, state⟩ := sendJoinReq_ring (s.hub.stopsListening.atTry 1)
      have sent := sendJoinReq_loc (h := s.hub.stopsListening.atTry 1)
      rw [← hub] at tries stopped nonce state sent
      refine ⟨t, next, rest, stopped, fun heard => absurd heard none_, fun _ => ⟨state.trans joining, tries, nonce, fun up => ?_⟩⟩
      rw [nonce]
      exact sent up
  case unanswered =>
    intro s joining asked
    by_cases again : s.hub.ring.tries < 3
    · obtain ⟨t, next, rest, hub⟩ := next_hub (c := .joinAnswerTimeout) (s := s)
        (congrArg (fun h => Host.Outcome.next (s.withHub h)) (joinTimeout_again joining asked again))
      obtain ⟨tries, -, nonce, state⟩ := sendJoinReq_ring (s.hub.atTry (s.hub.ring.tries + 1))
      rw [← hub] at tries nonce state
      exact ⟨t, next, rest, fun _ => ⟨tries, nonce, state.trans joining⟩, fun third => absurd third (by omega)⟩
    · obtain ⟨t, next, rest, hub⟩ := next_hub (c := .joinAnswerTimeout) (s := s)
        (congrArg (fun h => Host.Outcome.next (s.withHub h)) (joinTimeout_fails joining asked (by omega)))
      have failed := joinFailed_reads s.hub 3
      rw [← hub] at failed
      exact ⟨t, next, rest, fun less => absurd less again, fun _ => failed⟩
  case received =>
    intro s west f taken op id mine grant reply
    have T := Hub.Traffic.receive (.refl s.hub) west f
    refine ⟨?req, ?ack, ?refuse, ?leave, ?beacon⟩
    case req =>
      intro mgmt code member steward
      obtain ⟨t, next, rest, hub⟩ := next_hub (c := .joinReqRx west f) (s := s)
        (congrArg (fun h => Host.Outcome.next (s.withHub h)) (joinReqRx_eq taken member steward mgmt code))
      have granted : (s.hub.receive west f).2.grantFor f = grant := by
        unfold Hub.grantFor
        rw [T.class01Limit, T.grantSum]
      have refuses (reason : Nat) (eq : (s.hub.receive west f).2.answersReq west f
          = (s.hub.receive west f).2.sendBoth (ringOp broadcastId opJoinRefuse id reason 0 (beAt f.payload 4 4))) :
          t.hub.num Obj.memberMap = s.hub.num Obj.memberMap ∧ reply t.hub 0x82 reason := by
        obtain ⟨map, answer⟩ := answersReq_refuses eq
        rw [hub]
        exact ⟨map.trans (T.keyNum (by decide)), fun w _ up => answer w ((T.portUp w).trans up)⟩
      refine ⟨t, next, rest, fun bad => refuses 1 (if_pos ?_), fun new one top none_ => refuses 2 ((if_neg ?_).trans (if_pos ?_)),
        fun new one top some_ => ?_⟩
      · rw [T.memberOf]
        exact bad
      · rw [T.memberOf, new]
        simp only [Bool.false_eq_true, false_or, not_or]
        omega
      · rw [granted]
        exact none_
      · obtain ⟨map, answer, zero, one_⟩ := answersReq_grants (west := west) ((T.memberOf _).trans new) one top (by rw [granted]; exact some_)
        rw [granted] at answer
        rw [hub]
        exact ⟨map.trans (by rw [T.keyNum (by decide)]), fun w _ up => answer w ((T.portUp w).trans up), zero, one_⟩
    case ack =>
      rintro mgmt code ⟨joining, asked, own⟩
      exact ⟨_, rfl, rfl, joinAckRx_joins taken mgmt code joining asked own⟩
    case refuse =>
      rintro mgmt code ⟨joining, asked, own⟩
      obtain ⟨t, next, rest, hub⟩ := next_hub (c := .joinRefuseRx west f) (s := s)
        (congrArg (fun h => Host.Outcome.next (s.withHub h)) (joinRefuseRx_eq taken mgmt code joining asked own))
      have failed := joinFailed_reads (s.hub.receive west f).2 (byteAt f.payload 2)
      rw [← hub] at failed
      exact ⟨t, next, rest, failed⟩
    case leave =>
      intro mgmt code member of_
      exact ⟨_, rfl, rfl, leaveRx_removes taken mgmt code member of_⟩
    case beacon =>
      intro beacon
      exact ⟨_, rfl, rfl, bcnRx_reads taken beacon⟩
  case hello =>
    intro s west f taken intact mgmt op
    exact ⟨_, rfl, rfl, helloRx_tells taken intact mgmt op⟩
  case member =>
    intro s member
    refine ⟨fun steward id sound => ?_, fun other => ?_, fun lost => ?_, fun sound => ⟨_, rfl, rfl, fun w _ => helloSend_hellos member sound w⟩⟩
    · obtain ⟨count, sent⟩ := bcnSend_beacons member steward id sound
      exact ⟨_, rfl, rfl, count, fun w _ up => sent w up⟩
    · exact congrArg (fun h => Host.Outcome.next (s.withHub h)) (if_pos (by simp [member, other]))
    · have S := rankWaitExpired_stewards member lost
      exact ⟨_, rfl, rfl, S.steward, beq_iff_eq.mpr S.joinState, S.stewardLost⟩
end
section
/-!
Output commands (R261, R262, R392 to R397): what the dispatcher makes of a packet, what the output stage does with the record of a CMD frame under its
claim, and what a frame does that passes on.
-/
namespace Sys2Proof.Machine

/-! ### The dispatcher (R395, R397) -/

/-- The hub with the packet at the dispatcher's head taken. -/
def Hub.takesPacket (h : Hub) (d : Delivered) (ds : List Delivered) : Hub :=
  (h.setInbox inboxCmd ds).packetTaken { data := d.data, queue := d.queue, credits := d.credits, descs := d.descs } true

/-- The record the dispatcher makes of a packet (R262, R397). -/
def Hub.recordOf (h : Hub) (d : Delivered) : List Byte :=
  let node := byteAt d.data 16
  let g := if (node = 0 ∨ node = h.self) ∧ recChannel d.data < 192 then h.num (Obj.boutGroup (recChannel d.data)) else recGroup d.data
  leBytes 4 (if h.inGroup g then d.claim else 0) ++ [BitVec.ofNat 8 g] ++ slice d.data 5 2 ++ [2] ++ slice d.data 8 8

/-- A record on its way: what the supervisor lets through goes to a stage of this hub where it has one. -/
def Hub.issues (h : Hub) (node c : Nat) (r : List Byte) : Hub :=
  if (h.issueCmd node r).1 = false ∨ 192 ≤ c then (h.issueCmd node r).2 else (h.issueCmd node r).2.localCmd 16 r

/-- A packet that is no command (R397). -/
def malformedPacket (d : Delivered) : Prop := d.data.length ≠ 20 ∨ leAt d.data 17 3 ≠ 0 ∨ 64 < byteAt d.data 16

theorem dispatchCmd_malformed {h : Hub} {d : Delivered} {ds : List Delivered} (head : h.inbox inboxCmd = d :: ds) (bad : malformedPacket d) :
    h.dispatchCmd = (h.takesPacket d ds).count Obj.cmdMalformed := by
  unfold Hub.dispatchCmd
  rw [head]
  exact if_pos bad

theorem dispatchCmd_record {h : Hub} {d : Delivered} {ds : List Delivered} (head : h.inbox inboxCmd = d :: ds) (good : ¬ malformedPacket d) :
    h.dispatchCmd = (h.takesPacket d ds).issues (byteAt d.data 16) (recChannel d.data) ((h.takesPacket d ds).recordOf d) := by
  unfold Hub.dispatchCmd
  rw [head]
  exact if_neg good

section
variable {h : Hub} {node c : Nat} {r : List Byte}

/-- A record for this hub that may go reaches its stage; that of an ACTIVE unit goes on the ring too (R395). -/
theorem issues_local (goes : h.inGroup (recGroup r) = false ∨ h.flag Obj.hubFault = false ∧ h.num Obj.role = roleActive)
    (here : node = 0 ∨ node = h.self) (stage : c < 192) :
    h.issues node c r = (h.when (h.inGroup (recGroup r) && h.self != 0) (fun h => h.sendCmd h.self r)).localCmd 16 r := by
  have issued : h.issueCmd node r = (true, h.when (h.inGroup (recGroup r) && h.self != 0) (fun h => h.sendCmd h.self r)) := by
    unfold Hub.issueCmd
    dsimp only
    cases own : h.inGroup (recGroup r) with
    | false =>
      rw [Bool.not_false, if_pos rfl, if_pos here]
      rfl
    | true =>
      obtain ⟨sound, active⟩ := goes.resolve_left (by simp [own])
      rw [if_neg (by simp), if_neg (by simp [sound]), if_pos active, if_pos here, Bool.true_and]
  unfold Hub.issues
  rw [issued, if_neg (by simp; omega)]

/-- A record for another node goes as a CMD frame (R396). -/
theorem issues_remote (goes : h.inGroup (recGroup r) = false ∨ h.flag Obj.hubFault = false ∧ h.num Obj.role = roleActive)
    (away : ¬ (node = 0 ∨ node = h.self)) (sound : h.flag Obj.hubFault = false) : h.issues node c r = h.sendCmd node r := by
  have issued : h.issueCmd node r = (false, h.sendCmd node r) := by
    unfold Hub.issueCmd
    dsimp only
    cases own : h.inGroup (recGroup r) with
    | false =>
      rw [Bool.not_false, if_pos rfl, if_neg away, sound]
      rfl
    | true =>
      obtain ⟨-, active⟩ := goes.resolve_left (by simp [own])
      rw [if_neg (by simp), if_neg (by simp [sound]), if_pos active, if_neg away]
  unfold Hub.issues
  rw [issued, if_pos (.inl rfl)]

/-- A STANDBY compares (R404). -/
theorem issues_standby (own : h.inGroup (recGroup r) = true) (sound : h.flag Obj.hubFault = false) (standby : h.num Obj.role = roleStandby) :
    h.issues node c r = h.compareCmd false (if node = 0 then h.self else node) r := by
  have issued : h.issueCmd node r = (false, h.compareCmd false (if node = 0 then h.self else node) r) := by
    unfold Hub.issueCmd
    dsimp only
    rw [if_neg (by simp [own]), if_neg (by simp [sound]), if_neg (by rw [standby]; decide), if_pos standby]
  unfold Hub.issues
  rw [issued, if_pos (.inl rfl)]

/-- Any other role, and a hub in fault, withholds (R395). -/
theorem issues_withheld (own : h.inGroup (recGroup r) = true)
    (bars : h.flag Obj.hubFault = true ∨ h.num Obj.role ≠ roleActive ∧ h.num Obj.role ≠ roleStandby) : h.issues node c r = h.count Obj.cmdWithheld := by
  have issued : h.issueCmd node r = (false, h.count Obj.cmdWithheld) := by
    unfold Hub.issueCmd
    dsimp only
    rw [if_neg (by simp [own])]
    by_cases fault : h.flag Obj.hubFault = true
    · rw [if_pos fault]
    · obtain ⟨active, standby⟩ := bars.resolve_left fault
      rw [if_neg fault, if_neg active, if_neg standby]
  unfold Hub.issues
  rw [issued, if_pos (.inl rfl)]

end

/-! ### A CMD frame for the hub (R396) -/

/-- A delivered frame differs by its stamp alone (R94), of which the stage reads nothing. -/
theorem applyCmd_delivered (h k : Hub) (west : Bool) (f : RingFrame) : k.applyCmd west (h.delivered f) = k.applyCmd west f := by
  unfold Hub.delivered
  split
  · rfl
  · rfl

theorem cmdFrame_applies {h : Hub} {west : Bool} {f : RingFrame} (mine : f.dst = h.self) (admits : h.admits west f = true) (cmd : f.type = tCmd) :
    h.cmdFrame west f = ((h.afterWindow west f).applyCmd west f).snoop f := by
  unfold Hub.admits at admits
  rw [Bool.and_eq_true, Bool.and_eq_true] at admits
  obtain ⟨⟨taken, member⟩, pass⟩ := admits
  unfold Hub.cmdFrame
  dsimp only
  rw [if_neg (fun away => away.1 mine), if_neg (by simp [taken, member, cmd]), if_pos pass, applyCmd_delivered]
  rfl

theorem applyCmd_malformed {h : Hub} {west : Bool} {f : RingFrame} (stage : recChannel (f.payload.take 16) < 192)
    (bad : f.payload.length ≠ 20 ∨ recClaim (f.payload.take 16) ≠ f.claim) :
    h.applyCmd west f = h.count (Obj.chMalformed (recChannel (f.payload.take 16))) := by
  unfold Hub.applyCmd
  dsimp only
  rw [if_neg (by omega), if_pos bad]

/-- A record as it reaches the stage by the ring: SOURCE 3 (R261, R396). -/
def ringRecord (r : List Byte) : List Byte := r.take 7 ++ [3] ++ r.drop 8

theorem applyCmd_crosses {h : Hub} {west : Bool} {f : RingFrame} (stage : recChannel (f.payload.take 16) < 192) (length : f.payload.length = 20)
    (claim : recClaim (f.payload.take 16) = f.claim) (pass : (h.crossCore (12 + portIx west) (recChannel (f.payload.take 16) / 16) f).1 = true) :
    h.applyCmd west f = (h.crossCore (12 + portIx west) (recChannel (f.payload.take 16) / 16) f).2.boutCommand (recChannel (f.payload.take 16))
      (ringRecord (f.payload.take 16)) := by
  unfold Hub.applyCmd
  dsimp only
  rw [if_neg (by omega), if_neg (by simp [length, claim]), if_pos pass]
  rfl

/-- A frame for one output that is ON is admitted as it is, or dropped (R186). -/
theorem admitCopies_single {h : Hub} {cls n o : Nat} (on : ¬ (!h.portOn o) = true)
    (some_ : (h.admitCopies cls n [{ port := o }]).1.isEmpty = false) : (h.admitCopies cls n [{ port := o }]).2 = h := by
  revert some_
  unfold Hub.admitCopies
  rw [if_neg on]
  split
  · exact fun _ => rfl
  · split
    · exact fun _ => rfl
    · exact fun none_ => absurd none_ (by simp [Hub.admitCopies])

/-- A frame that crosses the core counts at its two ports, and moves nothing else (R191; log entry 98). -/
theorem crossCore_passes {h : Hub} {i o : Nat} {f : RingFrame} (pass : (h.crossCore i o f).1 = true) :
    (h.crossCore i o f).2 = (h.count (Obj.framesIn i)).count (Obj.framesOut o) := by
  unfold Hub.crossCore at pass ⊢
  dsimp only at pass ⊢
  split at pass
  · exact absurd pass Bool.false_ne_true
  next input =>
    split at pass
    · exact absurd pass Bool.false_ne_true
    next output =>
      rw [if_neg input, if_neg output]
      split at pass
      next zero =>
        split at pass
        next room => rw [if_pos zero, if_pos room]
        · exact absurd pass Bool.false_ne_true
      next other =>
        split at pass
        · exact absurd pass Bool.false_ne_true
        next some_ => rw [if_neg other, if_neg some_, admitCopies_single output (Bool.eq_false_of_not_eq_true some_)]

end Sys2Proof.Machine
end
section
/-!
The output stage under its claims (R261, R263, R393, R394), and what a STANDBY does that looks on (R404).
-/
namespace Sys2Proof.Machine

/-! ### Records (R261) -/

/-- SOURCE is octet 7 alone. -/
theorem ringRecord_eq_set {r : List Byte} (length : r.length = 16) : ringRecord r = r.set 7 3 := by
  rw [List.set_eq_take_append_cons_drop, if_pos (by omega)]
  simp [ringRecord]

theorem byteAt_ringRecord {r : List Byte} (length : r.length = 16) {i : Nat} (apart : i ≠ 7) : byteAt (ringRecord r) i = byteAt r i := by
  unfold byteAt
  rw [ringRecord_eq_set length, List.getD_eq_getElem?_getD, List.getD_eq_getElem?_getD, List.getElem?_set_ne apart.symm]

theorem leAt_ringRecord_later {r : List Byte} (length : r.length = 16) {i : Nat} (later : 7 < i) (n : Nat) : leAt (ringRecord r) i n = leAt r i n := by
  unfold leAt slice
  rw [ringRecord_eq_set length, List.drop_set_of_lt later]

theorem recClaim_ringRecord {r : List Byte} (length : r.length = 16) : recClaim (ringRecord r) = recClaim r := by
  unfold recClaim leAt slice
  rw [ringRecord_eq_set length, List.drop_zero, List.drop_zero, List.take_set, List.set_eq_of_length_le (by simp [length])]

/-- A record that an output's stage can take as a command of its own (R261). -/
structure WellFormed (c group : Nat) (r : List Byte) : Prop where
  length : r.length = 16
  channel : recChannel r = c
  group : recGroup r = group
  cmd : recCmd r ≤ 3
  zeros : leAt r 12 4 = 0
  pulse : recPulse r ≤ 60000

theorem WellFormed.ringRecord {c group : Nat} {r : List Byte} (W : WellFormed c group r) : WellFormed c group (ringRecord r) where
  length := by rw [ringRecord_eq_set W.length, List.length_set, W.length]
  channel := (byteAt_ringRecord W.length (by decide)).trans W.channel
  group := (byteAt_ringRecord W.length (by decide)).trans W.group
  cmd := (byteAt_ringRecord W.length (by decide)).trans_le W.cmd
  zeros := (leAt_ringRecord_later W.length (by decide) 4).trans W.zeros
  pulse := (leAt_ringRecord_later W.length (by decide) 4).trans_le W.pulse

/-! ### What acts at an output (R263, R265) -/

/-- An object that stands either way. -/
theorem num_either {a b h : Hub} {k : Nat} (p : Prop) [Decidable p] (ha : a.num k = h.num k) (hb : b.num k = h.num k) :
    (if p then a else b).num k = h.num k := by
  split
  · exact ha
  · exact hb

theorem num_when {h : Hub} {f : Hub → Hub} {k : Nat} (b : Bool) (stands : (f h).num k = h.num k) : (h.when b f).num k = h.num k :=
  num_either _ stands rfl

theorem num_drive (h : Hub) (c pin : Nat) (level : Bool) (k : Nat) : (h.drive c pin level).num k = h.num k := by
  have driven (x : Chan) : ((h.setChan c x).when (!h.eavesHolds c) (fun h => h.emit (.pin c pin level))).num k = h.num k :=
    (num_when _ (Hub.num_emit _ _ _)).trans (Hub.num_setChan h c x k)
  exact num_either _ rfl (driven _)

/-- Driving an output writes output-command alone. -/
theorem num_boutDrive (h : Hub) (c : Nat) (high : Bool) {k : Nat} (apart : k ≠ Obj.outputCommand c) : (h.boutDrive c high).num k = h.num k := by
  have commanded : (h.setNum (Obj.outputCommand c) (b2n high)).num k = h.num k := (Hub.num_setNum _ _ _ _).trans (if_neg apart)
  have windows : ((h.setNum (Obj.outputCommand c) (b2n high)).when (h.commanded c != high) (fun h => h.setChan c { h.chan c with
      rbWin := h.num (Obj.boutReadback c) != 0, coilWin := h.num (Obj.boutCoilSense c) != 0 })).num k = h.num k :=
    (num_when _ (Hub.num_setChan _ _ _ _)).trans commanded
  exact num_either _ windows ((num_drive _ _ _ _ _).trans windows)

theorem num_boutSafe_quiet (h : Hub) (c : Nat) {k : Nat} (apart : k ≠ Obj.outputCommand c) : (h.boutSafe c none).num k = h.num k :=
  num_either _ (num_boutDrive _ c _ apart) (num_either _ (num_boutDrive _ c _ apart) rfl)

theorem num_boutAct (h : Hub) (c cmd ms : Nat) {k : Nat} (apart : k ≠ Obj.outputCommand c) : (h.boutAct c cmd ms).num k = h.num k :=
  num_either _ (num_boutDrive _ c _ apart) (num_either _ (num_either _ (num_boutDrive _ c _ apart) (num_boutDrive _ c _ apart))
    (num_either _ (num_boutDrive _ c _ apart) (num_boutSafe_quiet _ c apart)))

theorem num_boutUndo (h : Hub) (c : Nat) {k : Nat} (apart : k ≠ Obj.outputCommand c) : (h.boutUndo c).num k = h.num k := by
  have commanded (x : Chan) (n : Nat) : ((h.setChan c x).setNum (Obj.outputCommand c) n).num k = h.num k :=
    (Hub.num_setNum _ _ _ _).trans (if_neg apart)
  exact num_either _ (commanded _ _) ((num_drive _ _ _ _ _).trans (commanded _ _))

theorem num_boutOnly (h : Hub) (c : Nat) (r : List Byte) {k : Nat} (apart : k ≠ Obj.outputCommand c) : (h.boutOnly c r).num k = h.num k := by
  unfold Hub.boutOnly
  dsimp only
  split
  · split
    · rfl
    · split
      · exact num_boutUndo h c apart
      · rfl
  · rfl

/-- No command of this cycle, so none of a higher claim (R29). -/
theorem boutOutranked_first {h : Hub} {c : Nat} (first : h.commandedNow c = false) (r : List Byte) : h.boutOutranked c r = false := by
  unfold Hub.commandedNow at first
  unfold Hub.boutOutranked
  split
  next l k src last =>
    rw [last] at first
    rw [show (l == h.now) = false from first, Bool.false_and]
  · rfl

/-! ### The claim filter (R393, R394) -/

/-- The hub as a command is taken at an output: the records of its claim are up, and nothing has acted yet. -/
def Hub.takesClaim (h : Hub) (c : Nat) (r : List Byte) : Hub :=
  ((h.boutOnly c r).raiseRecord (h.num (Obj.boutGroup c)) (recClaim r)).setNum (Obj.outputClaim c) (recClaim r)

section
variable {h : Hub} {c : Nat} {r : List Byte}

/-- A record below the recorded claim of its group is refused (R394). -/
theorem boutCommand_refuses (formed : WellFormed c (h.num (Obj.boutGroup c)) r) (on : h.chanIn c modeBout = true) (sound : h.flag Obj.hubFault = false)
    (below : recClaim r < h.recorded (h.num (Obj.boutGroup c))) : h.boutCommand c r = h.count (Obj.claimRefused c) := by
  unfold Hub.boutCommand
  dsimp only
  rw [if_neg (by simp [formed.length, formed.channel, formed.group, formed.cmd, formed.zeros, formed.pulse]), if_neg (by simp [on]),
    if_neg (by simp [sound]), if_pos below]

/-- A record that is not below it is taken, and what follows leaves all objects but output-command as they are then (R263, R393). -/
theorem boutCommand_takes (formed : WellFormed c (h.num (Obj.boutGroup c)) r) (on : h.chanIn c modeBout = true) (sound : h.flag Obj.hubFault = false)
    (level : h.recorded (h.num (Obj.boutGroup c)) ≤ recClaim r) (first : h.commandedNow c = false) (now : h.num (Obj.boutShape c) ≠ 2) {k : Nat}
    (apart : k ≠ Obj.outputCommand c) : (h.boutCommand c r).num k = (h.takesClaim c r).num k := by
  unfold Hub.boutCommand
  dsimp only
  rw [if_neg (by simp [formed.length, formed.channel, formed.group, formed.cmd, formed.zeros, formed.pulse]), if_neg (by simp [on]),
    if_neg (by simp [sound]), if_neg (Nat.not_lt.mpr level), if_neg (by simp [boutOutranked_first first]), if_neg (by simp [now])]
  show _ = (((h.boutOnly c r).raiseRecord (h.num (Obj.boutGroup c)) (recClaim r)).setNum (Obj.outputClaim c) (recClaim r)).num k
  generalize ((h.boutOnly c r).raiseRecord (h.num (Obj.boutGroup c)) (recClaim r)).setNum (Obj.outputClaim c) (recClaim r) = g
  split
  · rfl
  · split
    · rfl
    · exact num_boutAct _ c _ _ apart

end

theorem takesClaim_outputClaim (h : Hub) (c : Nat) (r : List Byte) : (h.takesClaim c r).num (Obj.outputClaim c) = recClaim r := Hub.num_setNum_self _ _ _

theorem recordedClaim_apart {c : Nat} (stage : c < 192) {g : Nat} : Obj.recordedClaim g ≠ Obj.outputClaim c ∧ Obj.recordedClaim g ≠ Obj.outputCommand c := by
  unfold Obj.recordedClaim Obj.outputClaim Obj.outputCommand
  omega

/-- The record of the group is the claim that was taken (R393). -/
theorem takesClaim_recorded {h : Hub} {c : Nat} {r : List Byte} (stage : c < 192) (one : 1 ≤ h.num (Obj.boutGroup c))
    (top : h.num (Obj.boutGroup c) ≤ 32) (level : h.recorded (h.num (Obj.boutGroup c)) ≤ recClaim r) :
    (h.takesClaim c r).num (Obj.recordedClaim (h.num (Obj.boutGroup c) - 1)) = recClaim r := by
  obtain ⟨claim, command⟩ := recordedClaim_apart stage (g := h.num (Obj.boutGroup c) - 1)
  unfold Hub.recorded at level
  rw [if_neg (by omega)] at level
  unfold Hub.takesClaim Hub.raiseRecord Hub.maxNum
  rw [Hub.num_setNum, if_neg claim, if_neg (by omega), num_boutOnly h c r command]
  split
  · exact Hub.num_setNum_self _ _ _
  · rw [num_boutOnly h c r command]
    omega

/-! ### A STANDBY looks on (R404) -/

/-- The objects that the comparator, the swap and notices write, and the count of frames that found no way. -/
abbrev snoopKey (k : Nat) : Prop := k / 256 = 0x3001 ∨ k / 256 = 0x193F ∨ k / 256 = 0x1200 ∨ k = Obj.inlineCheckFailures ∨ k = Obj.unreachableDrops

/-- From `h` to `g` the lanes stand, and every object but those. -/
structure Hub.Snoops (h g : Hub) : Prop where
  lane : ∀ w, g.lane w = h.lane w
  num : ∀ k, ¬ snoopKey k → g.num k = h.num k

namespace Hub.Snoops
variable {a h g : Hub}

theorem refl (h : Hub) : h.Snoops h := ⟨fun _ => rfl, fun _ _ => rfl⟩

theorem trans (H : a.Snoops h) (G : h.Snoops g) : a.Snoops g := ⟨fun w => (G.lane w).trans (H.lane w), fun k apart => (G.num k apart).trans (H.num k apart)⟩

theorem setNum (H : a.Snoops h) {k : Nat} (key : snoopKey k) (n : Nat) : a.Snoops (h.setNum k n) := by
  refine trans H ⟨fun _ => rfl, fun j apart => (Hub.num_setNum h k j n).trans (if_neg ?_)⟩
  rintro rfl
  exact apart key

theorem count (H : a.Snoops h) {k : Nat} (key : snoopKey k) : a.Snoops (h.count k) := setNum H key _

theorem notice (H : a.Snoops h) (code fid : Nat) (args : List Nat) : a.Snoops (h.notice code fid args) := by
  refine trans H ⟨lane_of_ring (Hub.notice_ring h _ _ _), fun k apart => ?_⟩
  simp only [snoopKey, not_or] at apart
  obtain ⟨-, queue, table, check, -⟩ := apart
  exact Hub.num_notice h _ _ _ k queue table check

theorem sendRing (h : Hub) (inPort : Nat) (f : RingFrame) (label : Nat) : h.Snoops (h.sendRing inPort f label).2 := by
  have sealed (f : RingFrame) (p : SwPacket) : h.Snoops ((h.seal f).2.swArrive inPort p) := by
    refine ⟨fun w => seal_lane h f w, fun k _ => ?_⟩
    show (h.seal f).2.num k = h.num k
    unfold Hub.seal Hub.takeSeq
    dsimp only
    split
    · rfl
    · split
      · rfl
      · rfl
  have lost : h.Snoops (h.count Obj.unreachableDrops) := count (refl h) (by decide)
  unfold Hub.sendRing
  split
  · split
    · exact lost
    · exact sealed _ _
  · split
    · exact lost
    · exact sealed _ _

theorem sendSwap (H : a.Snoops h) (sub arg : Nat) : a.Snoops (h.sendSwap sub arg) := trans H (sendRing h _ _ _)

theorem setDupOut (H : a.Snoops h) (k : Nat) (o : DupOut) : a.Snoops (h.setDupOut k o) := by
  unfold Hub.setDupOut
  refine setNum (trans H ?_) (by decide) _
  exact ⟨fun _ => rfl, fun _ _ => rfl⟩

theorem compareCmd (h : Hub) (active : Bool) (node : Nat) (r : List Byte) : h.Snoops (h.compareCmd active node r) := by
  have counted : h.Snoops (h.count Obj.compareOverflows) := count (refl h) (by decide)
  unfold Hub.compareCmd
  dsimp only
  split
  · exact refl h
  · split
    · split
      · exact counted
      · refine notice (trans counted ?_) _ _ _
        exact ⟨fun _ => rfl, fun _ _ => rfl⟩
    · exact setDupOut (refl h) _ _

theorem tryAck (h : Hub) : h.Snoops h.tryAck := by
  have done : h.Snoops { h with duplex := { h.duplex with prepareSeq := 0 } } := ⟨fun _ => rfl, fun _ _ => rfl⟩
  unfold Hub.tryAck
  dsimp only
  split
  · exact refl h
  · split
    · exact sendSwap done _ _
    · split
      · exact sendSwap done _ _
      · split
        · exact sendSwap (setNum done (by decide) _) _ _
        · exact refl h

theorem snoop (h : Hub) (f : RingFrame) : h.Snoops (h.snoop f) := by
  unfold Hub.snoop
  split
  · exact trans (compareCmd h _ _ _) (tryAck _)
  · exact refl h

end Hub.Snoops
end Sys2Proof.Machine
end
section
/-!
A CMD frame from its port to its stage (R93, R106, R396), and a frame that goes on along the ridge path (R108, R109).
-/
namespace Sys2Proof.Machine

/-! ### From the port to the stage -/

/-- From `h` to `g` stands what an output stage reads: the channels, their functions, the tick, and the objects of the units after the switch. -/
structure Hub.StageStands (h g : Hub) : Prop where
  isOn : ∀ fid, g.isOn fid = h.isOn fid
  chan : ∀ c, g.chan c = h.chan c
  now : g.now = h.now
  num : ∀ k, 0x200000 ≤ k → k ≠ Obj.restDiscards → g.num k = h.num k

namespace Hub.StageStands
variable {h g : Hub}

/-- A frame that a sequence window has let through, and that has crossed the core. -/
theorem crossed (h : Hub) (west : Bool) (f : RingFrame) {i o : Nat} (input : i < 18) (output : o < 18) :
    h.StageStands (((h.afterWindow west f).count (Obj.framesIn i)).count (Obj.framesOut o)) := by
  have T : h.Traffic (h.afterWindow west f) := .windowPass (.receive (.refl h) west f) f
  have ring (k : Nat) (after : 0x200000 ≤ k) : ¬ ringCounter k := by
    unfold ringCounter
    omega
  revert T
  generalize h.afterWindow west f = g
  intro T
  refine ⟨T.isOn, T.chan, T.now, fun k after rest => ?_⟩
  rw [Hub.num_count, if_neg (by unfold Obj.framesOut; omega), Hub.num_count, if_neg (by unfold Obj.framesIn; omega)]
  exact T.num (ring k after) rest

theorem chanIn (S : h.StageStands g) {c : Nat} (stage : c < 192) (mode : Nat) : g.chanIn c mode = h.chanIn c mode := by
  unfold Hub.chanIn
  rw [S.isOn, S.num _ (by unfold Obj.chMode; omega) (by unfold Obj.chMode Obj.restDiscards; omega)]

theorem commandedNow (S : h.StageStands g) (c : Nat) : g.commandedNow c = h.commandedNow c := by
  unfold Hub.commandedNow
  rw [S.chan, S.now]

theorem recorded (S : h.StageStands g) (n : Nat) : g.recorded n = h.recorded n := by
  unfold Hub.recorded
  split
  · rfl
  · exact S.num _ (by unfold Obj.recordedClaim; omega) (by unfold Obj.recordedClaim Obj.restDiscards; omega)

theorem boutGroup (S : h.StageStands g) (c : Nat) : g.num (Obj.boutGroup c) = h.num (Obj.boutGroup c) :=
  S.num _ (by unfold Obj.boutGroup; omega) (by unfold Obj.boutGroup Obj.restDiscards; omega)

theorem boutShape (S : h.StageStands g) (c : Nat) : g.num (Obj.boutShape c) = h.num (Obj.boutShape c) :=
  S.num _ (by unfold Obj.boutShape; omega) (by unfold Obj.boutShape Obj.restDiscards; omega)

theorem hubFault (S : h.StageStands g) : g.flag Obj.hubFault = h.flag Obj.hubFault := by
  unfold Hub.flag
  rw [S.num _ (by decide) (by decide)]

end Hub.StageStands

theorem not_snoopKey_outputClaim (c : Nat) (stage : c < 192) : ¬ snoopKey (Obj.outputClaim c) := by
  unfold snoopKey Obj.outputClaim Obj.inlineCheckFailures Obj.unreachableDrops
  omega

theorem not_snoopKey_claimRefused (c : Nat) (stage : c < 192) : ¬ snoopKey (Obj.claimRefused c) := by
  unfold snoopKey Obj.claimRefused Obj.inlineCheckFailures Obj.unreachableDrops
  omega

theorem not_snoopKey_recordedClaim {n : Nat} (group : n < 32) : ¬ snoopKey (Obj.recordedClaim n) := by
  unfold snoopKey Obj.recordedClaim Obj.inlineCheckFailures Obj.unreachableDrops
  omega

/-- A record under a claim that is not below the group's is taken: the output and its group show its claim (R393, R394). -/
theorem boutCommand_claims {h g : Hub} (S : h.StageStands g) {c : Nat} {r : List Byte} (stage : c < 192)
    (formed : WellFormed c (h.num (Obj.boutGroup c)) r) (on : h.chanIn c modeBout = true) (sound : h.flag Obj.hubFault = false)
    (now : h.num (Obj.boutShape c) ≠ 2) (level : h.recorded (recGroup r) ≤ recClaim r) (first : h.commandedNow c = false) (f : RingFrame) :
    ((g.boutCommand c (ringRecord r)).snoop f).num (Obj.outputClaim c) = recClaim r
    ∧ (1 ≤ recGroup r → recGroup r ≤ 32 → ((g.boutCommand c (ringRecord r)).snoop f).recorded (recGroup r) = recClaim r) := by
  have claim := recClaim_ringRecord formed.length
  rw [formed.group] at level ⊢
  rw [← S.recorded, ← claim, ← S.boutGroup] at level
  rw [← S.boutGroup] at formed ⊢
  have takes {k : Nat} (apart : k ≠ Obj.outputCommand c) := boutCommand_takes formed.ringRecord ((S.chanIn stage _).trans on) (S.hubFault.trans sound)
    level ((S.commandedNow c).trans first) (by rwa [S.boutShape]) apart
  have looks := Hub.Snoops.snoop (g.boutCommand c (ringRecord r)) f
  refine ⟨?_, fun one top => ?_⟩
  · rw [looks.num _ (not_snoopKey_outputClaim c stage), takes (by unfold Obj.outputClaim Obj.outputCommand; omega), takesClaim_outputClaim, claim]
  · unfold Hub.recorded
    rw [if_neg (by omega), looks.num _ (not_snoopKey_recordedClaim (by omega)), takes (recordedClaim_apart stage).2,
      takesClaim_recorded stage one top level, claim]

/-- A record below it is refused, and counted. -/
theorem boutCommand_outclaimed {h g : Hub} (S : h.StageStands g) {c : Nat} {r : List Byte} (stage : c < 192)
    (formed : WellFormed c (h.num (Obj.boutGroup c)) r) (on : h.chanIn c modeBout = true) (sound : h.flag Obj.hubFault = false)
    (below : recClaim r < h.recorded (recGroup r)) (f : RingFrame) :
    ((g.boutCommand c (ringRecord r)).snoop f).num (Obj.outputClaim c) = h.num (Obj.outputClaim c)
    ∧ ((g.boutCommand c (ringRecord r)).snoop f).num (Obj.claimRefused c) = satAdd (maxWord 32) (h.num (Obj.claimRefused c)) 1 := by
  have claim := recClaim_ringRecord formed.length
  rw [formed.group, ← S.recorded, ← claim, ← S.boutGroup] at below
  rw [← S.boutGroup] at formed
  rw [boutCommand_refuses formed.ringRecord ((S.chanIn stage _).trans on) (S.hubFault.trans sound) below]
  have looks := Hub.Snoops.snoop (g.count (Obj.claimRefused c)) f
  rw [looks.num _ (not_snoopKey_outputClaim c stage), looks.num _ (not_snoopKey_claimRefused c stage), Hub.num_count, Hub.num_count, if_pos rfl,
    if_neg (by unfold Obj.outputClaim Obj.claimRefused; omega)]
  refine ⟨S.num _ (by unfold Obj.outputClaim; omega) (by unfold Obj.outputClaim Obj.restDiscards; omega), ?_⟩
  rw [S.num _ (by unfold Obj.claimRefused; omega) (by unfold Obj.claimRefused Obj.restDiscards; omega)]

/-! ### A frame passes on (R108, R109) -/

/-- A frame as it leaves this hub: a span on, and with the inverse of its trailer where that had failed (R93, R108). -/
def onward (f : RingFrame) : RingFrame := { f with hops := f.hops + 1, stomp := decide (f.crc ≠ .ok) }

/-- The lane a transit frame joins is by its rank (R113). -/
def Lane.carries (l : Lane) (k : RingFrame) : Lane :=
  if k.cls ≤ 1 ∨ k.type = tBcn ∨ k.type = tBrk then { l with prio := l.prio ++ [k] } else { l with bulk := l.bulk ++ [k] }

theorem transit_eq (h : Hub) (o : Bool) (k : RingFrame) : h.transit o k = h.setLane o ((h.lane o).carries k) :=
  (apply_ite (h.setLane o) _ _ _).symm

theorem ridge_transits {h : Hub} {west : Bool} {f : RingFrame} {o : Bool} {k : RingFrame} (far : neighbourOnly f = false) (hops : f.hops < 127)
    (way : h.wayOut (!west) (onward f) = some (o, k)) : h.ridge west f = (h.count (Obj.transitFrames (portIx west))).transit o k := by
  have C : h.Counts (h.count (Obj.transitFrames (portIx west))) := .count h (Hub.Counts.ofPort west (c := 9) (by omega) (by omega))
  have way' : (h.count (Obj.transitFrames (portIx west))).wayOut (!west) (onward f) = some (o, k) := by
    unfold Hub.wayOut at way ⊢
    rw [C.portUp, C.portUp]
    exact way
  have counts : (h.when (h.wayOut (!west) (onward f)).isSome (fun h => h.count (Obj.transitFrames (portIx west))))
      = h.count (Obj.transitFrames (portIx west)) := if_pos (by rw [way]; rfl)
  have passes : h.ridge west f = (h.when (h.wayOut (!west) (onward f)).isSome (fun h => h.count (Obj.transitFrames (portIx west)))).transitOut (!west)
      (onward f) := (if_neg (by simp [far])).trans (if_neg (by omega))
  rw [passes, counts]
  unfold Hub.transitOut
  rw [way']

/-- A frame whose port ahead is lost comes back by the other one, wrapped (R109). -/
theorem wayOut_cases {h : Hub} {out o : Bool} {f k : RingFrame} (way : h.wayOut out f = some (o, k)) :
    (h.portUp out = true → o = out ∧ k = f) ∧ (h.portUp out = false → o = !out ∧ k.wrap = true) := by
  unfold Hub.wayOut at way
  refine ⟨fun up => ?_, fun lost => ?_⟩
  · rw [if_pos up] at way
    obtain ⟨rfl, rfl⟩ := Prod.mk.inj (Option.some.inj way)
    exact ⟨rfl, rfl⟩
  · rw [if_neg (by simp [lost])] at way
    unfold turnedBack at way
    split at way
    next g back =>
      split at back
      · exact absurd back (by simp)
      · split at way
        · obtain ⟨rfl, rfl⟩ := Prod.mk.inj (Option.some.inj way)
          obtain rfl := Option.some.inj back
          exact ⟨rfl, rfl⟩
        · exact absurd way (by simp)
    · exact absurd way (by simp)

/-- The arrival of a frame does not count it as one in transit. -/
theorem frameArrives_transitFrames (h : Hub) (west : Bool) (f : RingFrame) :
    (h.frameArrives west f).2.num (Obj.transitFrames (portIx west)) = h.num (Obj.transitFrames (portIx west)) :=
  frameArrives_num h west f (by cases west <;> decide) (by cases west <;> decide) (by cases west <;> decide) (by cases west <;> decide)

theorem windowPass_transitFrames (h : Hub) (west : Bool) (f : RingFrame) :
    (h.windowPass f).2.num (Obj.transitFrames (portIx west)) = h.num (Obj.transitFrames (portIx west)) :=
  windowPass_num h f (by cases west <;> decide) (by cases west <;> decide)

/-- What a STANDBY makes of a frame that has passed on (R404). -/
def Hub.overhears (h : Hub) (f : RingFrame) : Hub :=
  if f.type = tCmd ∧ f.intact = true ∧ h.num Obj.role = roleStandby ∧ f.src = h.num Obj.peerNode then
    if (h.windowPass f).1 then (h.windowPass f).2.snoop f else (h.windowPass f).2
  else h

theorem overhears_stands (h : Hub) (west : Bool) (f : RingFrame) :
    (∀ w, (h.overhears f).lane w = h.lane w) ∧ (h.overhears f).num (Obj.transitFrames (portIx west)) = h.num (Obj.transitFrames (portIx west)) := by
  have looks := Hub.Snoops.snoop (h.windowPass f).2 f
  unfold Hub.overhears
  split
  · split
    · exact ⟨fun w => (looks.lane w).trans (windowPass_lane h f w),
        (looks.num _ (by cases west <;> decide)).trans (windowPass_transitFrames h west f)⟩
    · exact ⟨windowPass_lane h f, windowPass_transitFrames h west f⟩
  · exact ⟨fun _ => rfl, rfl⟩

theorem ridgePass_eq {h : Hub} {west : Bool} {f : RingFrame} (taken : (h.frameArrives west f).1 = true) (foreign : h.strips f = false) :
    h.ridgePass west f = ((h.frameArrives west f).2.ridge west f).overhears f := by
  have self : (h.frameArrives west f).2.self = h.self := (Hub.Counts.frameArrives h west f).num (by decide)
  have foreign' : (h.frameArrives west f).2.strips f = false := by
    unfold Hub.strips at foreign ⊢
    rw [self]
    exact foreign
  unfold Hub.ridgePass
  dsimp only
  rw [if_neg (by simp [taken, foreign'])]
  rfl

/-- A frame for another node goes on: the lane it joins, the lane that stands, and its count (R108, R109, R127). -/
theorem ridgePass_transits {h : Hub} {west : Bool} {f : RingFrame} {o : Bool} {k : RingFrame} (taken : (h.frameArrives west f).1 = true)
    (foreign : h.strips f = false) (far : neighbourOnly f = false) (hops : f.hops < 127) (way : h.wayOut (!west) (onward f) = some (o, k)) :
    (h.ridgePass west f).lane o = (h.lane o).carries k ∧ (h.ridgePass west f).lane (!o) = h.lane (!o)
    ∧ (h.ridgePass west f).num (Obj.transitFrames (portIx west)) = satAdd (maxWord 32) (h.num (Obj.transitFrames (portIx west))) 1 := by
  have C := Hub.Counts.frameArrives h west f
  have lanes (w : Bool) := frameArrives_lane h west w f
  have count := frameArrives_transitFrames h west f
  rw [ridgePass_eq taken foreign]
  revert C lanes count
  generalize (h.frameArrives west f).2 = g
  intro C lanes count
  have way' : g.wayOut (!west) (onward f) = some (o, k) := by
    unfold Hub.wayOut at way ⊢
    rw [C.portUp, C.portUp]
    exact way
  obtain ⟨lane, transits⟩ := overhears_stands (g.ridge west f) west f
  have same (w : Bool) : (g.count (Obj.transitFrames (portIx west))).lane w = h.lane w := lanes w
  rw [lane, lane, transits, ridge_transits far hops way', transit_eq, lane_setLane_same, lane_setLane_other, same, same,
    Hub.num_congr _ _ (Hub.setLane_dict _ _ _), Hub.num_count, if_pos rfl, count]
  exact ⟨rfl, rfl, rfl⟩

end Sys2Proof.Machine

open Sys2Proof Sys2Proof.Machine

/-- Settles O48: the dispatcher by what the supervisor makes of its record, a CMD frame by the claim filter of its output, a passing frame by its way out. -/
theorem commandsReachOutputsUnderTheirClaim : Obligations.CommandsReachOutputsUnderTheirClaim := by
  unfold Obligations.CommandsReachOutputsUnderTheirClaim
  refine ⟨?dispatched, ?received, ?passed⟩
  case dispatched =>
    intro s d ds head h node c here g r good goes sent
    have packet (ok : good) : ¬ malformedPacket d := by
      rintro (length | zeros | id)
      · exact length ok.1
      · exact zeros ok.2.1
      · exact absurd ok.2.2 (Nat.not_le.mpr id)
    have issues (ok : good) {k : Hub} (eq : h.issues node c r = k) : exec .cmdDispatchPacket s = .next (s.withHub k) :=
      congrArg (fun h => Host.Outcome.next (s.withHub h)) ((dispatchCmd_record head (packet ok)).trans eq)
    refine ⟨fun bad => ?_, fun ok may own stage => issues ok (issues_local may own stage), fun ok may away sound => issues ok (issues_remote may away sound),
      fun ok own sound standby => issues ok (issues_standby own sound standby), fun ok own bars => issues ok (issues_withheld own bars)⟩
    have malformed : malformedPacket d := by
      by_contra fine_
      simp only [malformedPacket, not_or, not_not, Nat.not_lt] at fine_
      exact bad fine_
    exact congrArg (fun h => Host.Outcome.next (s.withHub h)) (dispatchCmd_malformed head malformed)
  case received =>
    intro s west f mine admits cmd r c h x stage
    have applies {k : Hub} (eq : h.applyCmd west f = k) : exec (.cmdRx west f) s = .next (s.withHub (k.snoop f)) :=
      congrArg (fun h => Host.Outcome.next (s.withHub h)) ((cmdFrame_applies mine admits cmd).trans (congrArg (fun k => k.snoop f) eq))
    refine ⟨fun bad => applies (applyCmd_malformed stage bad), fun length claim pass => ⟨applies (applyCmd_crosses stage length claim pass), ?_⟩⟩
    intro group code zeros pulse on sound shape t eq
    have S : s.hub.StageStands x.2 := by
      show s.hub.StageStands (h.crossCore (12 + portIx west) (c / 16) f).2
      rw [crossCore_passes pass]
      exact .crossed s.hub west f (by cases west <;> decide) (by omega)
    have formed : WellFormed c (s.hub.num (Obj.boutGroup c)) r :=
      ⟨by show (f.payload.take 16).length = 16; rw [List.length_take, length]; rfl, rfl, group, code, zeros, pulse⟩
    subst eq
    exact ⟨fun level first => boutCommand_claims S stage formed on sound shape level first f,
      fun below => boutCommand_outclaimed S stage formed on sound below f⟩
  case passed =>
    intro s west f taken foreign far hops o k way
    obtain ⟨joins, stands, counts⟩ := ridgePass_transits taken foreign far hops way
    obtain ⟨ahead, back⟩ := wayOut_cases way
    rw [Bool.not_not] at back
    exact ⟨_, rfl, rfl, joins, stands, ahead, back, counts⟩
end

section
/-!
The post SRAM stays canonical (R130): every write of octets keeps the canonical form, a start leaves an empty post SRAM, and all other operations leave it
alone (Sys2Proof/Laws/Keeps.lean).
-/
namespace Sys2Proof.Machine

/-- The post SRAM of a hub is in its canonical form. -/
def Hub.Canonical (h : Hub) : Prop := Memory.wf h.host.sram = true

/-- A conditional operation reads the post SRAM of the branch taken. -/
@[simp] theorem sram_when (h : Hub) (c : Bool) (f : Hub → Hub) :
    (h.when c f).host.sram = if c = true then (f h).host.sram else h.host.sram := by
  unfold Hub.when
  split <;> rfl

@[simp] theorem sram_seqGap (h : Hub) (f : RingFrame) : (h.seqGap f).host.sram = h.host.sram := by
  unfold Hub.seqGap
  simp

@[simp] theorem sram_dataIn (h : Hub) (west : Bool) (f : RingFrame) : (h.dataIn west f).host.sram = h.host.sram := by
  unfold Hub.dataIn
  dsimp only
  repeat' split
  all_goals simp

@[simp] theorem sram_abortedIn (h : Hub) (west : Bool) (f : RingFrame) : (h.abortedIn west f).host.sram = h.host.sram := by
  unfold Hub.abortedIn
  dsimp only
  repeat' split
  all_goals simp

@[simp] theorem sram_lockGained (h : Hub) (west : Bool) : (h.lockGained west).host.sram = h.host.sram := by
  unfold Hub.lockGained
  simp

@[simp] theorem sram_bulkTimeout (h : Hub) (q : Nat) : (h.bulkTimeout q).host.sram = h.host.sram := by
  unfold Hub.bulkTimeout
  dsimp only
  repeat' split
  all_goals simp

@[simp] theorem sram_round (h : Hub) (m : PowerSample) : (h.round m).host.sram = h.host.sram := by
  unfold Hub.round Hub.timerStarts Hub.settingsAct Hub.takeSettings
  simp

@[simp] theorem sram_msixWrite (h : Hub) (offset v : Nat) : (h.msixWrite offset v).host.sram = h.host.sram := by
  unfold Hub.msixWrite
  repeat' split
  all_goals simp

theorem sram_sleepRecord (h : Hub) (before after rtc : Nat) : (h.sleepRecord before after rtc).host.sram = h.host.sram := by
  unfold Hub.sleepRecord Hub.sleepTimes
  simp only [Hub.notice_keeps, Hub.count_keeps, Hub.setNum_keeps]

theorem sram_sleepHoldover (h : Hub) : h.sleepHoldover.host.sram = h.host.sram := by
  unfold Hub.sleepHoldover
  dsimp only
  split
  · rw [(Hub.setNum_keeps _ _ _).1]
  · rw [(Hub.setNum_keeps _ _ _).1, (Hub.newSegment_keeps _ _ _).1, (Hub.setNum_keeps _ _ _).1, (Hub.setNum_keeps _ _ _).1]

namespace Hub.Canonical
variable {h g : Hub}

/-- An operation that leaves the post SRAM alone keeps its form. -/
theorem of_sram (H : h.Canonical) (e : g.host.sram = h.host.sram) : g.Canonical := by
  unfold Hub.Canonical at *
  rwa [e]

theorem ite (c : Prop) [Decidable c] (H : h.Canonical) (G : g.Canonical) : (if c then h else g).Canonical := by
  split
  · exact H
  · exact G

theorem setNum (H : h.Canonical) (k n : Nat) : (h.setNum k n).Canonical := H

theorem keeper (H : h.Canonical) (k : Keeper) : Hub.Canonical { h with keeper := k } := H

/-- A start leaves no octet (R597). -/
theorem hubReset (h : Hub) (cause : Nat) : (h.hubReset cause).Canonical := rfl

theorem updateRestart (h : Hub) : h.updateRestart.Canonical := hubReset _ _

theorem porRelease (H : h.Canonical) (straps : Nat) : (h.porRelease straps).Canonical := by
  unfold Hub.porRelease
  exact ite _ H (H.of_sram (by simp))

theorem rearmAll (H : h.Canonical) : h.rearmAll.Canonical := by
  unfold Hub.rearmAll
  generalize List.range 256 = entries
  exact List.foldlRecOn _ _ H (fun _ G _ _ => ite _ (G.setNum _ _) G)

/-- DORMANT keeps nothing of the post SRAM (R535), and the records of the wake are objects. -/
theorem afterSleep (h : Hub) (rtc : Nat) : (h.afterSleep rtc).Canonical := by
  have asleep : (h.slept rtc).Canonical := rfl
  unfold Hub.afterSleep
  exact asleep.rearmAll.of_sram ((Hub.phaseInvalidAt_keeps _ _).1.trans ((sram_sleepHoldover _).trans (sram_sleepRecord _ _ _ _)))

theorem dormantWake (H : h.Canonical) (rtc : Nat) : (h.dormantWake rtc).Canonical := by
  have awake := afterSleep h rtc
  unfold Hub.dormantWake
  revert awake
  generalize h.afterSleep rtc = g
  intro awake
  refine ite _ H (awake.of_sram ?_)
  simp only [Hub.bootStart_keeps, Hub.setMode_keeps, Hub.wakeRecord_keeps, Hub.setNum_keeps]

theorem railLeaves (H : h.Canonical) (rail : Rail) : (h.railLeaves rail).Canonical := ite _ (hubReset h _) (H.of_sram (by simp))

/-! ### The target of a transaction (R132, R133, R162) -/

theorem sramWrite (H : h.Canonical) (off : Nat) (data : List Byte) : (h.sramWrite off data).Canonical := Memory.wf_writeN data _ _ H

theorem retire (H : h.Canonical) (l : Nat) (data : List Byte) : (h.retire l data).Canonical := by
  unfold Hub.retire
  refine ite _ H (ite _ (H.of_sram (by simp)) (ite _ (H.sramWrite _ _) ?_))
  split
  · exact H.of_sram (by simp)
  · exact H

theorem serveTxn (H : h.Canonical) (f : RingFrame) : (h.serveTxn f).Canonical := by
  have stored := H.retire (addrLocal (txAddr f)) (txData f)
  unfold Hub.serveTxn
  refine ite _ (H.of_sram (by simp)) (ite _ (H.of_sram (by simp)) (ite _ (H.of_sram (by simp)) (ite _ (H.of_sram (by simp)) (ite _ ?_ ?_))))
  · split <;> exact H.of_sram (by simp)
  · refine ite _ stored ?_
    split <;> exact stored.of_sram (by simp)

theorem unlockWrite (H : h.Canonical) (f : RingFrame) : (h.unlockWrite f).Canonical := by
  unfold Hub.unlockWrite
  refine ite _ (H.of_sram (by simp)) (ite _ (H.of_sram (by simp)) ?_)
  split
  · exact H.of_sram (by simp)
  next k _ =>
    have freed : (h.dropLock k).Canonical := H.of_sram (by simp)
    refine of_sram (ite _ freed ?_) (Hub.respondTxn_keeps _ f tWack 0 []).1
    split
    · exact freed.of_sram (by simp)
    · exact freed.sramWrite _ _

/-! ### What waits for a lock (R163) -/

theorem sramStore (H : h.Canonical) (off : Nat) (data : List Byte) : (h.sramStore off data).Canonical :=
  ite _ (H.of_sram (by simp)) (H.sramWrite _ _)

theorem mailAnswer (H : h.Canonical) (seq target code : Nat) (b : List Byte) : (h.mailAnswer seq target code b).Canonical := by
  have written := ((H.sramWrite 0x1008 b).sramWrite 0x1004 [BitVec.ofNat 8 target]).sramWrite 0x1000 (leBytes 4 seq)
  unfold Hub.mailAnswer
  exact ite _ (H.of_sram (by simp)) (written.of_sram (by simp))

theorem serveAgain (H : h.Canonical) (w : Waiting) : (h.serveAgain w).Canonical := by
  cases w with
  | ring f => exact ite _ (H.of_sram (by simp)) (ite _ (H.unlockWrite f) (H.serveTxn f))
  | hostRead off n => exact H.of_sram (Hub.sramRead_keeps h off n).1
  | hostWrite off data => exact H.sramStore off data
  | mailbox seq target code data => exact H.mailAnswer seq target code data

theorem servePass (H : h.Canonical) : h.servePass.Canonical :=
  List.foldlRecOn _ _ (H.of_sram rfl) (fun _ G w _ => G.serveAgain w)

theorem serveWaiting (H : h.Canonical) : h.serveWaiting.Canonical := List.foldlRecOn _ _ H (fun _ G _ _ => G.servePass)

theorem lockExpired (H : h.Canonical) (l : Nat) : (h.lockExpired l).Canonical := by
  unfold Hub.lockExpired
  split
  · exact H
  · exact serveWaiting (H.of_sram (by simp))

theorem fetchDone (H : h.Canonical) (retry : Nat) (ok : Bool) (data : List Byte) : (h.fetchDone retry ok data).Canonical := by
  unfold Hub.fetchDone
  split
  · exact H
  · split
    · exact H
    · exact ite _ (H.of_sram (by simp)) (serveWaiting (H.of_sram (by simp)))

/-! ### What reaches the bridge -/

theorem bridgeRx (H : h.Canonical) (f : RingFrame) : (h.bridgeRx f).Canonical := by
  have left : ∀ {g : Hub}, g.host.sram = h.host.sram → g.Canonical := H.of_sram
  unfold Hub.bridgeRx
  exact ite _ (H.serveTxn f) (ite _ (left (by simp)) (ite _ (left (by simp)) (ite _ (left (by simp)) (ite _ (left (by simp))
    (ite _ (left (by simp)) (ite _ (left (by simp)) (ite _ (H.unlockWrite f).serveWaiting H)))))))

theorem bridgeFrame (H : h.Canonical) (type : Nat) (west : Bool) (f : RingFrame) : (h.bridgeFrame type west f).Canonical := by
  have received : (h.receive west f).2.Canonical := H.of_sram (by simp)
  have gaps : ((h.receive west f).2.when (f.cls == 5) (fun h => h.seqGap f)).Canonical := received.of_sram (by simp)
  have crossed : (((h.receive west f).2.when (f.cls == 5) (fun h => h.seqGap f)).crossCore (12 + portIx west) 16 f).2.Canonical :=
    gaps.of_sram (by simp)
  exact ite _ (ite _ gaps (ite _ (bridgeRx crossed _) crossed)) received

theorem bridgeLoop (H : h.Canonical) : h.bridgeLoop.Canonical := by
  unfold Hub.bridgeLoop
  split
  · exact H
  next f fs _ => exact bridgeRx (h := { h with bridge := { h.bridge with loop := fs } }) H f

theorem hostStore (H : h.Canonical) (bar : HostBar) (offset : Nat) (data : List Byte) (mark : WriteMark) :
    (h.hostStore bar offset data mark).Canonical := by
  unfold Hub.hostStore
  refine ite _ (H.of_sram (by simp)) (ite _ (H.of_sram (by simp)) ?_)
  cases bar
  case bar4 => exact H.sramStore _ _
  case bar0 | outside => exact H
  all_goals
    refine H.of_sram ?_
    simp

/-! ### The keeper's answers (R429, R433, R434) -/

theorem carry (H : h.Canonical) (q : KReq) (code : Nat) (b : List Byte) : (h.carry q code b).Canonical := by
  unfold Hub.carry
  split
  case h_3 => exact H.mailAnswer _ _ _ _
  all_goals
    refine H.of_sram ?_
    simp

theorem deliverResponse (H : h.Canonical) (q : KReq) (m : DictMsg) : (h.deliverResponse q m).Canonical := by
  unfold Hub.deliverResponse
  exact carry (H.of_sram (by simp)) _ _ _

theorem electionAnswers (w : Option Requester) (qs : List KReq) : ∀ {h : Hub}, h.Canonical → (h.electionAnswers w qs).Canonical := by
  induction qs with
  | nil => exact id
  | cons q qs ih => exact fun H => ih (H.deliverResponse q _)

theorem electionClose (H : h.Canonical) : h.electionClose.Canonical := by
  unfold Hub.electionClose
  refine ite _ H (electionAnswers _ _ ?_)
  split <;> exact H.of_sram (by simp)

theorem forwardRetry (H : h.Canonical) : h.forwardRetry.Canonical := by
  unfold Hub.forwardRetry
  split
  · exact H
  · exact ite _ (H.of_sram (by simp)) (deliverResponse (H.keeper _) _ _)

theorem mgmtResponse (H : h.Canonical) (west : Bool) (f : RingFrame) : (h.mgmtResponse west f).Canonical := by
  have taken : (h.mgmtIn west f).2.Canonical := H.of_sram (by simp)
  unfold Hub.mgmtResponse
  dsimp only
  split
  · exact ite _ (mailAnswer (taken.keeper _) _ _ _ _) taken
  · exact taken

/-! ### Requests (R434, R435, R440) -/

theorem serve (H : h.Canonical) (q : KReq) : (h.serve q).Canonical := by
  have handled : (h.handle q).2.Canonical := H.of_sram (by simp)
  unfold Hub.serve
  refine ite _ H ?_
  dsimp only
  split
  · exact handled
  · exact ite _ (updateRestart _) (handled.deliverResponse q _)

theorem ringRepeat {q : KReq} (H : h.Canonical) (e : h.ringRepeat q = some g) : g.Canonical := by
  have waiting : h.waitingRepeat q = some g → g.Canonical := by
    unfold Hub.waitingRepeat
    split
    · rintro ⟨⟩; exact H.of_sram (by simp)
    · rintro ⟨⟩
  unfold Hub.ringRepeat at e
  split at e
  · cases e
  · split at e
    · split at e
      · cases e; exact carry (H.of_sram (Hub.count_keeps h Obj.ringRepeats).1) q 0 _
      · exact waiting e
    · exact waiting e

theorem arrive (H : h.Canonical) (q : KReq) : (h.arrive q).Canonical := by
  unfold Hub.arrive
  refine ite _ H (ite _ (ite _ (H.serve _) H) (ite _ (ite _ H H) ?_))
  split
  next g e => exact H.ringRepeat e
  next => exact ite _ (H.deliverResponse _ _) (ite _ (H.serve _) H)

theorem ask (H : h.Canonical) (r : Requester) (m : DictMsg) : (h.ask r m).Canonical := H.arrive _

theorem askTrue (H : h.Canonical) (r : Requester) (token key : Nat) : (h.askTrue r token key).Canonical := H.ask r _

theorem mailTake (H : h.Canonical) : h.mailTake.Canonical := by
  unfold Hub.mailTake
  exact ite _ H (ite _ (arrive (H.keeper _) _) (ite _ (deliverResponse (H.keeper _) _ _)
    (ite _ (deliverResponse (H.keeper _) _ _) (H.of_sram (by simp)))))

theorem mailPost (H : h.Canonical) (path : RegPath) (v : Nat) : (h.mailPost path v).Canonical := by
  unfold Hub.mailPost
  refine ite _ H (ite _ (H.of_sram (by simp)) (ite _ (H.of_sram (by simp)) (ite _ H (ite _ ?_ (ite _ H.mailTake H)))))
  exact ite _ H.mailTake H

theorem mgmtRequest (H : h.Canonical) (west : Bool) (f : RingFrame) : (h.mgmtRequest west f).Canonical := by
  have taken : (h.mgmtIn west f).2.Canonical := H.of_sram (by simp)
  exact ite _ (arrive taken _) taken

theorem stationRequest (H : h.Canonical) (u : UdpRequest) : (h.stationRequest u).Canonical := by
  unfold Hub.stationRequest
  exact ite _ H (ite _ (H.of_sram (by simp)) (ite _ (H.of_sram (by simp)) (arrive (H.setNum _ _) _)))

theorem ceilingPersisted (H : h.Canonical) (ok : Bool) : (h.ceilingPersisted ok).Canonical := by
  unfold Hub.ceilingPersisted
  dsimp only
  split
  · exact H
  · split
    · exact ite _ (H.of_sram (by simp)) (ite _ (arrive (H.of_sram (by simp)) _) (H.of_sram (by simp)))
    · exact H

theorem keeperReady (H : h.Canonical) (us : Nat) : (h.keeperReady us).Canonical := by
  have started : (h.keeperStart us).Canonical := H.of_sram (by simp)
  exact ite _ started.mailTake started

theorem rxPd (H : h.Canonical) (i : Fin 8) {f : Hub → Hub} (hf : ∀ h, (f h).host.sram = h.host.sram) : (h.rxPd i f).Canonical := by
  unfold Hub.rxPd
  dsimp only
  exact ite _ H (ite _ H (H.of_sram (by simp [hf])))

/-! ### One period of CCLK -/

theorem keeperReads (H : h.Canonical) : h.keeperReads.Canonical := by
  have took : (h.when (h.keeper.mboxEarly && (h.keeper.ready || h.upd.recovery)) Hub.mailTake).Canonical := ite _ H.mailTake H
  unfold Hub.keeperReads
  exact took.of_sram (by simp)

theorem keeperTurn (H : h.Canonical) : h.keeperTurn.Canonical := by
  unfold Hub.keeperTurn
  refine ite _ H ?_
  split
  next q qs _ => exact serve (h := { h with keeper := { h.keeper with waiting := qs } }) H q
  next => exact ite _ H H

theorem tick (H : h.Canonical) : h.tick.Canonical := by
  have counted : ({ h.answerLocks.markUsable with time := { h.answerLocks.markUsable.time with ltc := h.answerLocks.markUsable.time.ltc + 1 } }
      : Hub).settleEchoes.canOffers.acquireListed.Canonical := by
    unfold Hub.acquireListed
    refine ite _ ?_ (H.of_sram (by simp))
    split <;> exact H.of_sram (by simp)
  unfold Hub.tick
  refine ite _ H (bridgeLoop ?_)
  exact of_sram counted.keeperReads.keeperTurn (by simp)

end Hub.Canonical

/-- A command answers the state with another hub. -/
theorem pending_exec {c : Instr} {s t : State} (e : exec c s = .next t) : t.pending = s.pending := by
  cases c <;> exact (congrArg State.pending (Host.Outcome.next.inj e)).symm

/-- Every command keeps the post SRAM canonical. -/
theorem canonical_exec {c : Instr} {s t : State} (H : s.hub.Canonical) (e : exec c s = .next t) : t.hub.Canonical := by
  cases c <;> obtain rfl := Host.Outcome.next.inj e <;> dsimp only
  case hubResetIn | vddSenLow | coreRailLow => exact .hubReset _ _
  case supplyOutOfWindow => exact H.railLeaves _
  case nporRelease => exact H.porRelease _
  case dormantWake => exact H.dormantWake _
  case keeperReady => exact H.keeperReady _
  case mboxPost => exact H.mailPost _ _
  case mgmtDictRequestRx => exact H.mgmtRequest _ _
  case mgmtDictResponseRx => exact H.mgmtResponse _ _
  case mgmtForwardRetry => exact H.forwardRetry
  case stallElectionClose => exact H.electionClose
  case stationDictRequest => exact H.stationRequest _
  case keyCeilingPersisted => exact H.ceilingPersisted _
  case serviceDictRequest => exact H.arrive _
  case dictRead | dictWrite | segStart | segData | segAbort | stallRequest | keepalive | stallRelease | stallHandover | who
      | regRead | regWrite | fresetObjectWrite | pulseCountReset | ledgerRangeRead | ledgerExportStart | claimReset | keyWrite | pwrModeRequest
      | eavesRelease | windowCommit | fallbackPart | keyRevoke => exact H.ask _ _
  case clearTallies | triggerDisarmAll | rejoin | clearFaultLog | fwdCommit | fwdDiscard | queueFlush | lsRearm | ledgerClear | canBusOffRestart
      | canMatrixStop | dupSwap | dupRejoin | dupClaimClear | saveConfig | restoreDefaults | scanStop | faultTest | faultRecordClear | fetFaultClear
      | stagingVerify | stagingErase | updateArm | updateDisarm | updateRestart | updateConfirm => exact H.askTrue _ _ _
  case rdRx | rdrRx | rdxRx | wrpRx | wrnRx | wackRx | wnakRx | lkrdRx | lkrtRx | wrulRx => exact H.bridgeFrame _ _ _
  case hostWindowWrite => exact H.hostStore _ _ _ _
  case lockWatchdogExpired => exact H.lockExpired _
  case registerWriteOther path offset value west f =>
    cases path
    case ring => exact H.bridgeFrame _ _ _
    case pcie => exact Hub.Canonical.ite _ (H.of_sram (by simp)) (H.of_sram (by simp))
    all_goals exact H
  case pcieCompletionTimeout queue id =>
    have ended : (s.hub.aer aerTimeout false).readEnded.Canonical := H.of_sram (by simp)
    exact Hub.Canonical.ite _ (ended.fetchDone _ _ _) (Hub.Canonical.ite _ (ended.of_sram (by simp)) (ended.of_sram (by simp)))
  case ringLockLoss | fenceTimeout | pdGoodcrcTimeout | moistureTest | storeBurstComplete =>
    refine H.of_sram ?_
    repeat' split
    all_goals simp
  case pdPsRdyRx =>
    refine Hub.Canonical.rxPd H _ (fun h => ?_)
    split <;> simp
  case pdDrSwapResponseRx =>
    refine Hub.Canonical.rxPd H _ (fun h => ?_)
    split <;> simp
  case apertureFetchComplete => exact Hub.Canonical.fetchDone (H.of_sram (by simp)) _ _ _
  all_goals
    refine H.of_sram ?_
    simp

end Sys2Proof.Machine

open Sys2Proof Sys2Proof.Machine

/-- Settles O4: a step is a command, which keeps the commands behind it and the form of the post SRAM, or a period of CCLK. -/
theorem everyStepKeepsSound : Obligations.EveryStepKeepsSound := by
  unfold Obligations.EveryStepKeepsSound
  intro s t sound e
  obtain ⟨canonical, formed⟩ := (Bool.and_eq_true _ _).mp sound
  unfold step at e
  unfold State.sound
  split at e
  next idle =>
    obtain rfl := Host.Outcome.next.inj e
    exact (Bool.and_eq_true _ _).mpr ⟨Hub.Canonical.tick canonical, formed⟩
  next c cs waiting =>
    have queue : t.pending = cs := pending_exec e
    refine (Bool.and_eq_true _ _).mpr ⟨canonical_exec (s := { s with pending := cs }) canonical e, ?_⟩
    unfold State.queueOk at formed ⊢
    rw [waiting, List.all_cons, Bool.and_eq_true] at formed
    rw [queue]
    exact formed.2
end

section
/-!
Transactions of the bridge (R134 to R138, R147, R159): what a transaction that is sent adds, what an entry of the fault log adds, and what both leave.
-/
namespace Sys2Proof.Machine

/-! ### Sending (R104, R138, R147) -/

/-- What a frame from the bridge to the ring may move: SEQ numbers, the switch's inputs, and the count of frames without a way. -/
structure Hub.Sends (h g : Hub) : Prop where
  rest : g = { h with ring := g.ring, sw := g.sw, dict := g.dict, bridge := g.bridge }
  obj : ∀ k, k ≠ Obj.unreachableDrops → g.obj k = h.obj k

theorem Hub.Sends.num {h g : Hub} (S : h.Sends g) {k : Nat} (apart : k ≠ Obj.unreachableDrops) : g.num k = h.num k :=
  congrArg Val.nat (S.obj k apart)

/-- A frame that is sealed takes a SEQ, and nothing beside the ring moves (R105). -/
theorem seal_rest (h : Hub) (f : RingFrame) : ∃ r, (h.seal f).2 = { h with ring := r } := by
  unfold Hub.seal Hub.takeSeq
  dsimp only
  split
  · exact ⟨_, rfl⟩
  · split
    · exact ⟨_, rfl⟩
    · exact ⟨_, rfl⟩

theorem Hub.Sends.drop (h : Hub) : h.Sends (h.count Obj.unreachableDrops) :=
  ⟨rfl, fun k apart => (Hub.obj_setObj h _ k _).trans (if_neg apart)⟩

theorem Hub.Sends.swArrive {h g : Hub} (rest : ∃ r, g = { h with ring := r }) (port : Nat) (p : SwPacket) : h.Sends (g.swArrive port p) := by
  obtain ⟨r, rfl⟩ := rest
  exact ⟨rfl, fun _ _ => rfl⟩

theorem sendRing_sends (h : Hub) (port : Nat) (f : RingFrame) (label : Nat) : h.Sends (h.sendRing port f label).2 := by
  unfold Hub.sendRing
  split
  · split
    · exact .drop h
    · exact .swArrive (seal_rest h _) _ _
  · split
    · exact .drop h
    · exact .swArrive (seal_rest h _) _ _

theorem sendRing_bridge (h : Hub) (port : Nat) (f : RingFrame) (label : Nat) : (h.sendRing port f label).2.bridge = h.bridge := by
  have sealed (f : RingFrame) : (h.seal f).2.bridge = h.bridge := by
    obtain ⟨r, eq⟩ := seal_rest h f
    rw [eq]
  unfold Hub.sendRing
  split
  · split
    · rfl
    · exact sealed _
  · split
    · rfl
    · exact sealed _

theorem sendTxn_sends (h : Hub) (f : RingFrame) (label : Nat) : h.Sends (h.sendTxn f label) := by
  unfold Hub.sendTxn
  split
  · exact ⟨rfl, fun _ _ => rfl⟩
  · exact sendRing_sends h 16 f label

/-- A transaction to the hub's own id waits in the bridge, any other leaves (R138). -/
theorem sendTxn_bridge (h : Hub) (f : RingFrame) (label : Nat) :
    (h.sendTxn f label).bridge = { h.bridge with loop := if f.dst = h.self then h.bridge.loop ++ [{ f with src := h.self }] else h.bridge.loop } := by
  unfold Hub.sendTxn
  split
  · rfl
  · exact sendRing_bridge h 16 f label

theorem sendWindow_sends (h : Hub) (w : Nat) (f : RingFrame) (label : Nat) : h.Sends (h.sendWindow w f label) := by
  unfold Hub.sendWindow
  split
  · exact ⟨rfl, fun _ _ => rfl⟩
  · exact sendTxn_sends h f label

theorem sendWindow_free {h : Hub} {w : Nat} (free : h.lastUnsent w = none) (f : RingFrame) (label : Nat) :
    h.sendWindow w f label = h.sendTxn f label := by
  unfold Hub.sendWindow
  rw [free]

theorem sendWindow_behind {h : Hub} {w : Nat} {a : AtomicOp} (last : h.lastUnsent w = some a) (f : RingFrame) (label : Nat) :
    h.sendWindow w f label = { h with bridge := { h.bridge with behind := h.bridge.behind ++ [{ after := a.tag, frame := f, label := label }] } } := by
  unfold Hub.sendWindow
  rw [last]

/-- A transaction of a window moves of the bridge what waits alone (R147). -/
theorem sendWindow_bridge (h : Hub) (w : Nat) (f : RingFrame) (label : Nat) : (h.sendWindow w f label).bridge =
    { h.bridge with loop := (h.sendWindow w f label).bridge.loop, behind := (h.sendWindow w f label).bridge.behind } := by
  cases last : h.lastUnsent w with
  | none => rw [sendWindow_free last, sendTxn_bridge]
  | some a => rw [sendWindow_behind last]

theorem respondTxn_sends (h : Hub) (f : RingFrame) (type b7 : Nat) (data : List Byte) : h.Sends (h.respondTxn f type b7 data) := sendTxn_sends h _ _

theorem respondTxn_bridge (h : Hub) (f : RingFrame) (type b7 : Nat) (data : List Byte) :
    (h.respondTxn f type b7 data).bridge = { h.bridge with loop := (h.respondTxn f type b7 data).bridge.loop } := by
  unfold Hub.respondTxn
  rw [sendTxn_bridge]

/-! ### The fault log (R159 to R161, R170) -/

/-- The objects that an entry of the fault log writes: its counters, those of queue 63 and of the notices. -/
abbrev faultKey (k : Nat) : Prop :=
  k = Obj.faultLogCount ∨ k = Obj.faultLogOverwritten ∨ k / 256 = 0x193F ∨ k / 256 = 0x1200 ∨ k = Obj.inlineCheckFailures

theorem num_logFault (h : Hub) (reason init kind tag addr len : Nat) {k : Nat} (apart : ¬ faultKey k) :
    (h.logFault reason init kind tag addr len).num k = h.num k := by
  simp only [faultKey, not_or] at apart
  obtain ⟨entries, lost, queue, notices, checks⟩ := apart
  unfold Hub.logFault
  rw [Hub.num_notice _ _ _ _ _ queue notices checks]
  refine (num_when _ ?_).trans ?_
  · rw [Hub.num_count, if_neg lost]
  · rw [Hub.num_setNum, if_neg entries]
    rfl

theorem logFault_bridge (h : Hub) (reason init kind tag addr len : Nat) :
    (h.logFault reason init kind tag addr len).bridge = { h.bridge with
      log := (h.logFault reason init kind tag addr len).bridge.log, logSlot := (h.bridge.logSlot + 1) % 64, logSeq := h.bridge.logSeq + 1 } := by
  unfold Hub.logFault Hub.when
  dsimp only
  rw [Hub.notice_bridge]
  split <;> rfl

theorem completerAbort_bridge (h : Hub) : h.completerAbort.bridge = h.bridge := rfl
theorem num_completerAbort (h : Hub) (k : Nat) : h.completerAbort.num k = h.num k := rfl

/-! ### Arrival (R93, R105, R134, R176) -/

/-- An object that the arrival of a frame counts: the ring's counters, and those of the switch. -/
abbrev arrivalKey (k : Nat) : Prop := ringCounter k ∨ k = Obj.restDiscards ∨ k / 65536 = 0x17

/-- From `h` to `g` a frame has arrived: of the ring interface and the objects its counters and lanes alone move. -/
def Hub.Rings (h g : Hub) : Prop := ∃ r d, g = { h with ring := r, dict := d }

namespace Hub.Rings
variable {a h g : Hub}

theorem refl (h : Hub) : h.Rings h := ⟨_, _, rfl⟩

theorem trans (H : a.Rings h) (G : h.Rings g) : a.Rings g := by
  obtain ⟨_, _, rfl⟩ := H
  obtain ⟨_, _, rfl⟩ := G
  exact ⟨_, _, rfl⟩

theorem count (H : a.Rings h) (k : Nat) : a.Rings (h.count k) := trans H ⟨_, _, rfl⟩

theorem setLane (H : a.Rings h) (west : Bool) (l : Lane) : a.Rings (h.setLane west l) := by
  cases west with
  | false => exact trans H ⟨_, _, rfl⟩
  | true => exact trans H ⟨_, _, rfl⟩

theorem ite (c : Prop) [Decidable c] (H : a.Rings h) (G : a.Rings g) : a.Rings (if c then h else g) := by
  split
  · exact H
  · exact G

theorem when (H : a.Rings h) (c : Bool) {f : Hub → Hub} (hf : h.Rings (f h)) : a.Rings (h.when c f) := ite _ (trans H hf) H

theorem frameArrives (h : Hub) (west : Bool) (f : RingFrame) : h.Rings (h.frameArrives west f).2 := by
  have arrived := (refl h).count (Obj.rportFramesRx (portIx west))
  unfold Hub.frameArrives
  dsimp only
  split
  · exact refl h
  · split
    · exact arrived.count _
    · refine ite _ arrived ?_
      unfold Hub.countCrc
      split
      · exact arrived
      · exact arrived.count _
      · exact arrived.count _

theorem transitOut (H : a.Rings h) (out : Bool) (f : RingFrame) : a.Rings (h.transitOut out f) := by
  unfold Hub.transitOut
  split
  · exact ite _ (setLane H _ _) (setLane H _ _)
  · exact count H _

theorem ridge (H : a.Rings h) (west : Bool) (f : RingFrame) : a.Rings (h.ridge west f) := by
  unfold Hub.ridge Hub.passOn
  exact ite _ H (ite _ (count H _) (transitOut (ite _ (count H _) H) _ _))

theorem extract (H : a.Rings h) (f : RingFrame) : a.Rings (h.extract f).2 := by
  unfold Hub.extract
  dsimp only
  split
  · exact count H _
  · exact H

theorem receive (h : Hub) (west : Bool) (f : RingFrame) : h.Rings (h.receive west f).2 := by
  have arrived := frameArrives h west f
  unfold Hub.receive
  revert arrived
  generalize h.frameArrives west f = r
  intro arrived
  dsimp only
  split
  · exact arrived
  · exact extract (when arrived _ (ridge (refl _) west f)) f

theorem seqGap (h : Hub) (f : RingFrame) : h.Rings (h.seqGap f) := by
  unfold Hub.seqGap
  exact when ⟨_, _, rfl⟩ _ (count (refl _) _)

end Hub.Rings

/-- What the arrival of a transaction at the bridge leaves. -/
structure Hub.Arrives (h g : Hub) : Prop where
  rest : h.Rings g
  num : ∀ k, ¬ arrivalKey k → g.num k = h.num k

namespace Hub.Arrives
variable {h g : Hub}

theorem bridge (A : h.Arrives g) : g.bridge = h.bridge := by
  obtain ⟨_, _, rfl⟩ := A.rest
  rfl

theorem host (A : h.Arrives g) : g.host = h.host := by
  obtain ⟨_, _, rfl⟩ := A.rest
  rfl

theorem self (A : h.Arrives g) : g.self = h.self := A.num _ (by decide)

/-- A frame that crosses the core reaches the bridge. -/
theorem bridged {west : Bool} {f : RingFrame} (pass : (h.bridged west f).1 = true) : h.Arrives (h.bridged west f).2 := by
  have rings := (Rings.receive h west f).when (f := fun h => h.seqGap f) (f.cls == 5) (Rings.seqGap _ f)
  have traffic := (Traffic.receive (.refl h) west f).when (f := fun h => h.seqGap f) (f.cls == 5) (Traffic.seqGap (.refl _) f)
  unfold Hub.bridged at pass ⊢
  rw [crossCore_passes pass]
  refine ⟨(rings.count _).count _, fun k apart => ?_⟩
  have switch_ : k / 65536 ≠ 0x17 := fun c => apart (.inr (.inr c))
  have port := Hub.Counts.portIx_cases west
  rw [Hub.num_count, if_neg (by unfold Obj.framesOut; omega), Hub.num_count, if_neg (by unfold Obj.framesIn; omega),
    traffic.num (fun c => apart (.inl c)) (fun c => apart (.inr (.inl c)))]

end Hub.Arrives

/-- An object of a window is none that the fault log writes, nor the ring's. -/
theorem windowKey {k b w : Nat} (row : k = b + w * 256) (low : 0x181000 ≤ b) (high : b < 0x181100) (window : w < 16) :
    ¬ faultKey k ∧ k ≠ Obj.unreachableDrops := by
  simp only [faultKey, Obj.faultLogCount, Obj.faultLogOverwritten, Obj.inlineCheckFailures, Obj.unreachableDrops]
  omega

/-- The byte lanes of a window are none of what an arrival moves. -/
theorem Hub.Arrives.winLane {h g : Hub} (A : h.Arrives g) (w : Nat) (bs : List Byte) : g.winLane w bs = h.winLane w bs := by
  have apart {k b : Nat} (row : k = b + w * 256) (low : 0x181000 ≤ b) (octet : b % 256 ≠ 0x0A) : ¬ arrivalKey k := by
    simp only [arrivalKey, ringCounter, Obj.restDiscards]
    omega
  unfold Hub.winLane
  rw [A.num (Obj.byteLane w) (apart rfl (by decide) (by decide)), A.num (Obj.diUnit w) (apart rfl (by decide) (by decide))]

/-- An intact transaction for the hub is delivered to the bridge (R94, R134). -/
theorem bridgeFrame_takes {h : Hub} {type : Nat} {west : Bool} {f : RingFrame} (takes : h.bridgeTakes type west f = true) :
    ∃ o, h.bridgeFrame type west f = (h.bridged west f).2.bridgeRx { f with rxStamp := o } := by
  unfold Hub.bridgeTakes at takes
  simp only [Bool.and_eq_true] at takes
  obtain ⟨⟨⟨⟨received, member⟩, kind⟩, intact⟩, pass⟩ := takes
  have delivered : ∃ o, (h.bridged west f).2.delivered f = { f with rxStamp := o } := by
    unfold Hub.delivered
    split
    · exact ⟨_, rfl⟩
    · exact ⟨_, rfl⟩
  obtain ⟨o, eq⟩ := delivered
  refine ⟨o, eq ▸ ?_⟩
  unfold Hub.bridgeFrame
  dsimp only
  rw [if_pos (by simp only [received, member, kind, Bool.and_self]), if_neg (by simp [intact])]
  exact if_pos pass

theorem bridgeTakes_arrives {h : Hub} {type : Nat} {west : Bool} {f : RingFrame} (takes : h.bridgeTakes type west f = true) :
    f.type = type ∧ h.Arrives (h.bridged west f).2 := by
  unfold Hub.bridgeTakes at takes
  simp only [Bool.and_eq_true, beq_iff_eq] at takes
  obtain ⟨⟨⟨-, kind⟩, -⟩, pass⟩ := takes
  exact ⟨kind, .bridged pass⟩

/-- A command that gives a transaction to the bridge. -/
theorem exec_takes {s : State} {i : Instr} {type : Nat} {west : Bool} {f : RingFrame}
    (run : exec i s = s.answer fun h => h.bridgeFrame type west f) (takes : s.hub.bridgeTakes type west f = true) :
    ∃ o, exec i s = .next (s.withHub ((s.hub.bridged west f).2.bridgeRx { f with rxStamp := o })) := by
  obtain ⟨o, eq⟩ := bridgeFrame_takes takes
  exact ⟨o, run.trans (congrArg (fun h => Host.Outcome.next (s.withHub h)) eq)⟩

end Sys2Proof.Machine
end

section
/-!
What the host asks of a window (R138 to R141, R147, R156 to R158, R162, R165, R209): its reads, its writes and its AtomicOps, as they are refused or leave.
-/
namespace Sys2Proof.Machine

/-! ### Accesses (R138, R139) -/

theorem windowOf_lt (x : Nat) : (windowOf x).1 < 16 := Nat.mod_lt _ (by decide)

/-- An access within one aligned block is one part (R139). -/
theorem splitAccess_single {max_ off len : Nat} (fuel : Nat) (some_ : 0 < len) (fits : off % max_ + len ≤ max_) :
    splitAccess max_ (fuel + 1) off len = [(off, len)] := by
  have whole : min len (max_ - off % max_) = len := by omega
  have rest : splitAccess max_ fuel (off + len) (len - len) = [] := by
    cases fuel with
    | zero => rfl
    | succ fuel => exact if_pos (Nat.sub_self len)
  unfold splitAccess
  rw [if_neg (by omega)]
  dsimp only
  rw [whole, rest]

/-! ### Reads (R139, R141, R147, R156, R157) -/

theorem windowRead_refused {h : Hub} {w offset len : Nat} {whole : Bool} (r : h.refusal w offset len whole 2 (h.readLabel w) ≠ 0) :
    h.windowRead w offset len whole = ((h.count (Obj.refusedAccesses w)).logFault (h.refusal w offset len whole 2 (h.readLabel w)) w 1 0
      (h.num (Obj.ringBase w) + offset) len).completerAbort := if_pos r

/-- The part of a read that is all of one block. -/
def Hub.wholePart (h : Hub) (w offset len : Nat) : ReadPart :=
  { tag := h.bridge.nextTag, host := h.bridge.nextHost, w := w, addr := h.num (Obj.ringBase w) + offset, len := len }

/-- The hub as a read of one part begins, before its RD leaves. -/
def Hub.begins (h : Hub) (p : ReadPart) : Hub :=
  ({ h with bridge := { h.bridge with
    nextHost := h.bridge.nextHost + 1, nextTag := (h.bridge.nextTag + 1) % 65536, parts := h.bridge.parts ++ [p] } }).count (Obj.readsIssued p.w)

theorem windowRead_begins {h : Hub} {w offset len : Nat} {whole : Bool} (r : h.refusal w offset len whole 2 (h.readLabel w) = 0) (some_ : 0 < len)
    (fits : offset % h.num (Obj.accessMax w) + len ≤ h.num (Obj.accessMax w)) :
    h.windowRead w offset len whole = (h.begins (h.wholePart w offset len)).issueRead (h.wholePart w offset len) := by
  unfold Hub.windowRead
  dsimp only
  rw [if_neg (not_not.mpr r)]
  show List.foldl _ _ (splitAccess (h.num (Obj.accessMax w)) (len + 1) offset len) = _
  rw [splitAccess_single len some_ fits]
  rfl

/-- The RD of a part. -/
def Hub.rdOf (h : Hub) (p : ReadPart) : RingFrame :=
  { txn (addrNode p.addr) tRd 2 p.addr p.w 0 p.tag (beBytes 2 p.len ++ beBytes 2 p.retry) with src := h.self }

theorem issueRead_loop {h : Hub} {p : ReadPart} (free : h.lastUnsent p.w = none) (own : addrNode p.addr = h.self) :
    (h.issueRead p).bridge.loop = h.bridge.loop ++ [h.rdOf p] := by
  unfold Hub.issueRead
  rw [sendWindow_free free, sendTxn_bridge]
  exact if_pos own

theorem issueRead_bridge (h : Hub) (p : ReadPart) :
    (h.issueRead p).bridge = { h.bridge with loop := (h.issueRead p).bridge.loop, behind := (h.issueRead p).bridge.behind } := sendWindow_bridge h _ _ _

theorem issueRead_behind {h : Hub} {p : ReadPart} {a : AtomicOp} (last : h.lastUnsent p.w = some a) :
    (h.issueRead p).bridge.loop = h.bridge.loop ∧ (h.issueRead p).bridge.behind.map (·.after) = h.bridge.behind.map (·.after) ++ [a.tag] := by
  unfold Hub.issueRead
  rw [sendWindow_behind last]
  exact ⟨rfl, List.map_append⟩

theorem num_issueRead (h : Hub) (p : ReadPart) {k : Nat} (apart : k ≠ Obj.unreachableDrops) : (h.issueRead p).num k = h.num k :=
  (sendWindow_sends h _ _ _).num apart

/-- A read that fails ends as Completer Abort, and its parts go (R139, R157). -/
theorem failRead_ends (h : Hub) (p : ReadPart) (reason : Nat) :
    (h.failRead p reason).out.head? = some .hostAbort ∧ (h.failRead p reason).bridge.parts = h.bridge.parts.filter (fun q => q.host != p.host)
    ∧ (h.failRead p reason).bridge.logSeq = h.bridge.logSeq + 1 := by
  unfold Hub.failRead
  refine ⟨rfl, ?_, ?_⟩
  · rw [completerAbort_bridge, logFault_bridge]
    rfl
  · rw [completerAbort_bridge, logFault_bridge]
    rfl

/-- The part that an answer names is found alone. -/
theorem find_single {α : Type} {l : List α} {x : α} {p : α → Bool} (one : l = [x]) (named : p x = true) : l.find? p = some x := by
  rw [one, List.find?_cons_of_pos named]

/-- An RDR for the one part of a read ends the read (R157). -/
theorem takeRdr_ends {h : Hub} {f : RingFrame} {p : ReadPart} (one : h.bridge.parts = [p]) (tag : p.tag = f.tag) (init : p.w = txInit f) :
    (h.takeRdr f).bridge.parts = []
    ∧ (h.takeRdr f).out.head? = some (if txB7 f = 0 then .hostData (h.winLane p.w (txData f)) else .hostAbort)
    ∧ (txB7 f ≠ 0 → (h.takeRdr f).bridge.logSeq = h.bridge.logSeq + 1) := by
  have found : h.bridge.parts.find? (fun q => q.tag == f.tag && q.w == txInit f) = some p := find_single one (by simp [tag, init])
  unfold Hub.takeRdr
  rw [found]
  dsimp only
  split
  next bad =>
    obtain ⟨out, parts, log⟩ := failRead_ends h p (txB7 f)
    refine ⟨parts.trans ?_, out.trans ?_, fun _ => log⟩
    · simp [one]
    · exact congrArg some (if_neg bad).symm
  next ok =>
    have status : txB7 f = 0 := not_not.mp ok
    simp [Hub.setPart, Hub.dropRead, Hub.emit, one, status]
    rfl

/-- An RDX lets the part wait with its retry tag, and with none after NO_BUFFER (R156). -/
theorem takeRdx_waits {h : Hub} {f : RingFrame} {p : ReadPart} (one : h.bridge.parts = [p]) (tag : p.tag = f.tag) (init : p.w = txInit f) :
    (h.takeRdx f).bridge.parts = [{ p with retry := if txB7 f = 0 then beAt f.payload 8 2 else 0, waits := true }] := by
  have found : h.bridge.parts.find? (fun q => q.tag == f.tag && q.w == txInit f) = some p := find_single one (by simp [tag, init])
  unfold Hub.takeRdx
  rw [found]
  simp [Hub.setPart, one]

theorem retryRead_issues {h : Hub} {tag : Nat} {p : ReadPart} (one : h.bridge.parts = [p]) (named : p.tag = tag) (waits : p.waits = true) :
    h.retryRead tag = (h.setPart { p with waits := false }).issueRead { p with waits := false } := by
  have found : h.bridge.parts.find? (fun q => q.tag == tag && q.waits) = some p := find_single one (by simp [named, waits])
  unfold Hub.retryRead
  rw [found]

theorem readTimeout_issues {h : Hub} {tag : Nat} {p : ReadPart} (one : h.bridge.parts = [p]) (named : p.tag = tag) (waits : p.waits = false)
    (data : p.data = none) (behind : h.isBehind tRd p.tag = false) : h.readTimeout tag = h.issueRead p := by
  have found : h.bridge.parts.find? (fun q => q.tag == tag && q.data.isNone && !q.waits && !h.isBehind tRd tag) = some p :=
    find_single one (by simp [named, waits, data, named ▸ behind])
  unfold Hub.readTimeout
  rw [found]

theorem budgetExpired_fails {h : Hub} {tag : Nat} {p : ReadPart} (one : h.bridge.parts = [p]) (named : p.tag = tag) :
    h.budgetExpired tag = (h.count Obj.readBudgetAborts).failRead p stBudget := by
  have found : h.bridge.parts.find? (fun q => q.tag == tag) = some p := find_single one (by simp [named])
  unfold Hub.budgetExpired
  rw [found]

/-! ### Writes (R139, R140, R158) -/

theorem windowWrite_refused {h : Hub} {w offset : Nat} {data : List Byte} {whole : Bool}
    (r : h.refusal w offset data.length whole (h.num (Obj.writeClass w)) (0x100 + w) ≠ 0) :
    h.windowWrite w offset data whole = ((h.count (Obj.refusedAccesses w)).faultWrite w 1).logFault
      (h.refusal w offset data.length whole (h.num (Obj.writeClass w)) (0x100 + w)) w 0 0 (h.num (Obj.ringBase w) + offset) data.length := if_pos r

theorem num_faultWrite (h : Hub) (w n : Nat) {k : Nat} (apart : k ≠ Obj.faultedSinceFence w) :
    (h.faultWrite w n).num k = if k = Obj.writesFaulted w then satAdd (maxWord 32) (h.num k) n else h.num k := by
  unfold Hub.faultWrite
  rw [Hub.num_setNum, if_neg apart]
  unfold Hub.countN
  rw [Hub.num_setNum]
  split
  next eq => rw [eq]
  · rfl

/-- The hub as a write of a window begins, before its WRP leaves. -/
def Hub.writes (h : Hub) (w : Nat) (addr len : Nat) : Hub :=
  let g := (h.setFence w { h.fence w with wrote := true }).count (Obj.writesIssued w)
  let tag := SMap.get (fun _ => 0) g.bridge.wtags w
  { g with bridge := { g.bridge with
    wtags := SMap.set (fun _ => 0) g.bridge.wtags w ((tag + 1) % 65536)
    wsent := SMap.set (fun _ => (0, 0)) g.bridge.wsent (w * 65536 + tag) (addr, len) } }

theorem windowWrite_writes {h : Hub} {w offset : Nat} {data : List Byte} {whole : Bool} (window : w < 16)
    (r : h.refusal w offset data.length whole (h.num (Obj.writeClass w)) (0x100 + w) = 0) (some_ : data ≠ [])
    (fits : offset % h.num (Obj.accessMax w) + data.length ≤ h.num (Obj.accessMax w)) :
    h.windowWrite w offset data whole =
      (h.writes w (h.num (Obj.ringBase w) + offset) (slice (h.winLane w data) 0 data.length).length).sendWindow w
        (txn (addrNode (h.num (Obj.ringBase w) + offset)) tWrp (h.num (Obj.writeClass w)) (h.num (Obj.ringBase w) + offset) w 0
          (SMap.get (fun _ => 0) h.bridge.wtags w) (slice (h.winLane w data) 0 data.length)) (0x100 + w) := by
  have length : 0 < data.length := List.length_pos_iff.mpr some_
  unfold Hub.windowWrite
  dsimp only
  rw [if_neg (not_not.mpr r)]
  show List.foldl _ _ (splitAccess (h.num (Obj.accessMax w)) (data.length + 1) offset data.length) = _
  rw [splitAccess_single data.length length fits, List.foldl_cons, List.foldl_nil]
  unfold Hub.postWrite
  dsimp only
  rw [if_pos window, Nat.sub_self]
  rfl

/-! ### AtomicOps (R141, R147, R157, R162, R165) -/

theorem sendBehind_bridge (h : Hub) (a : AtomicOp) :
    (h.sendBehind a).bridge = { h.bridge with loop := (h.sendBehind a).bridge.loop, behind := (h.sendBehind a).bridge.behind } := by
  have sent (l : List BehindTxn) (h : Hub) : (l.foldl (fun h x => h.sendTxn x.frame x.label) h).bridge =
      { h.bridge with loop := (l.foldl (fun h x => h.sendTxn x.frame x.label) h).bridge.loop } := by
    induction l generalizing h with
    | nil => rfl
    | cons x l ih => rw [List.foldl_cons, ih, sendTxn_bridge]
  unfold Hub.sendBehind
  dsimp only
  split
  · rfl
  · rw [sent]

/-- With nothing behind an AtomicOp nothing follows it. -/
theorem sendBehind_loop {h : Hub} (none_ : h.bridge.behind = []) (a : AtomicOp) : (h.sendBehind a).bridge.loop = h.bridge.loop := by
  unfold Hub.sendBehind
  dsimp only
  rw [none_]
  split
  · rfl
  · rfl

theorem startLock_bridge (h : Hub) (a : AtomicOp) : (h.startLock a).bridge = { h.bridge with
    slot := some { a with phase := 1 }, atomics := h.bridge.atomics.filter (fun b => b.tag != a.tag)
    loop := (h.startLock a).bridge.loop, behind := (h.startLock a).bridge.behind } := by
  unfold Hub.startLock
  dsimp only
  rw [sendBehind_bridge, sendTxn_bridge]

theorem startLock_loop {h : Hub} {a : AtomicOp} (none_ : h.bridge.behind = []) (own : addrNode (h.atomicAddr a) = h.self) :
    (h.startLock a).bridge.loop = h.bridge.loop
      ++ [{ txn (addrNode (h.atomicAddr a)) tLkrd 2 (h.atomicAddr a) a.w a.size a.tag [] with src := h.self }] := by
  unfold Hub.startLock
  dsimp only
  rw [sendBehind_loop (by rw [sendTxn_bridge]; exact none_), sendTxn_bridge]
  exact if_pos own

theorem nextAtomic_none {h : Hub} (none_ : h.bridge.atomics = []) : h.nextAtomic = { h with bridge := { h.bridge with slot := none } } := by
  unfold Hub.nextAtomic
  rw [none_]

theorem hostAtomic_refused {h : Hub} {a : AtomicOp} (r : h.refusal a.w a.offset a.size true 2 (0x100 + a.w) ≠ 0 ∨ h.flag (Obj.atomicEnable a.w) = false) :
    ∃ reason, h.hostAtomic a =
      ((h.count (Obj.refusedAccesses a.w)).logFault reason a.w 2 0 (h.num (Obj.ringBase a.w) + a.offset) a.size).completerAbort := by
  refine ⟨_, if_pos ?_⟩
  split
  · decide
  next bad => exact r.elim id fun off zero => bad ⟨zero, off⟩

theorem hostAtomic_taken {h : Hub} {a : AtomicOp} (r : h.refusal a.w a.offset a.size true 2 (0x100 + a.w) = 0)
    (on : h.flag (Obj.atomicEnable a.w) = true) : h.hostAtomic a =
      if h.bridge.slot.isNone then h.takeTag.2.startLock { a with tag := h.bridge.nextTag }
      else { h.takeTag.2 with bridge := { h.takeTag.2.bridge with atomics := h.bridge.atomics ++ [{ a with tag := h.bridge.nextTag }] } } := by
  unfold Hub.hostAtomic
  dsimp only
  rw [if_neg (by simp [r, on])]
  rfl

theorem abortAtomic_ends (h : Hub) (a : AtomicOp) (reason : Nat) :
    (h.abortAtomic a reason).out.head? = some .hostAbort ∧ (h.abortAtomic a reason).bridge.atomics = h.bridge.atomics
    ∧ (h.abortAtomic a reason).bridge.retrying = h.bridge.retrying := by
  unfold Hub.abortAtomic
  rw [completerAbort_bridge, logFault_bridge]
  exact ⟨rfl, rfl, rfl⟩

/-- An AtomicOp that waits fails, and waits no more (R157). -/
theorem failWaiting_ends (h : Hub) (a : AtomicOp) (reason : Nat) :
    (h.failWaiting a reason).out.head? = some .hostAbort ∧ (h.failWaiting a reason).bridge.atomics = h.bridge.atomics.filter (fun b => b.tag != a.tag)
    ∧ (h.failWaiting a reason).bridge.retrying = h.bridge.retrying.filter (fun b => b.tag != a.tag) := by
  unfold Hub.failWaiting
  obtain ⟨out, atomics, retrying⟩ := abortAtomic_ends { h.sendBehind a with bridge := { (h.sendBehind a).bridge with
    atomics := (h.sendBehind a).bridge.atomics.filter (fun b => b.tag != a.tag)
    retrying := (h.sendBehind a).bridge.retrying.filter (fun b => b.tag != a.tag) } } a reason
  refine ⟨out, atomics.trans ?_, retrying.trans ?_⟩
  · show (h.sendBehind a).bridge.atomics.filter _ = _
    rw [sendBehind_bridge]
  · show (h.sendBehind a).bridge.retrying.filter _ = _
    rw [sendBehind_bridge]

/-! ### Memory -/

theorem readN_eq_map (m : Memory) (a n : Nat) : Memory.readN m a n = (List.range n).map (fun i => Memory.read m (a + i)) := by
  induction n generalizing a with
  | zero => rfl
  | succ n ih =>
    have next (i : Nat) : a + 1 + i = a + (i + 1) := by omega
    rw [Memory.readN, ih, List.range_succ_eq_map, List.map_cons, List.map_map]
    simp [Function.comp_def, next]

/-- A write of octets is read where it stands, and nothing else changes. -/
theorem read_writeN (m : Memory) (a p : Nat) (bs : List Byte) :
    Memory.read (Memory.writeN m a bs) p = if a ≤ p ∧ p < a + bs.length then bs.getD (p - a) 0 else Memory.read m p := by
  induction bs generalizing m a with
  | nil => exact (if_neg (by rw [List.length_nil]; omega)).symm
  | cons b bs ih =>
    rw [Memory.writeN, ih, Memory.read_write, List.length_cons]
    by_cases first : p = a
    · subst first
      rw [if_neg (by omega), if_pos rfl, if_pos (by omega), Nat.sub_self, List.getD_cons_zero]
    · by_cases later : a + 1 ≤ p ∧ p < a + 1 + bs.length
      · rw [if_pos later, if_pos (by omega), show p - a = p - (a + 1) + 1 by omega, List.getD_cons_succ]
      · rw [if_neg later, if_neg first, if_neg (by omega)]

end Sys2Proof.Machine
end

section
/-!
The host's accesses of the BARs and the ends of its reads and AtomicOps (R138 to R141, R147, R156, R157, R162, R165, R205, R206, R209), by what each one leaves.
-/
namespace Sys2Proof.Machine

/-! ### The BARs (R204 to R206, R209) -/

theorem barHolds_bar2 {h : Hub} {x n : Nat} (d0 : h.inD0 = true) (fits : x + n ≤ 2 ^ 30) : ¬ h.barHolds .bar2 x n = false := by
  rw [Bool.not_eq_false]
  exact Bool.and_eq_true_iff.mpr ⟨d0, decide_eq_true fits⟩

theorem barHolds_bar4 {h : Hub} {x n : Nat} (d0 : h.inD0 = true) (fits : x + n ≤ 2 ^ 21) : ¬ h.barHolds .bar4 x n = false := by
  rw [Bool.not_eq_false]
  exact Bool.and_eq_true_iff.mpr ⟨d0, decide_eq_true fits⟩

/-- A whole aligned register that is no QPORT is read alone (R206). -/
theorem registerRead_word {h : Hub} {x : Nat} (aligned : x % 4 = 0) (plain : qportAt x = none) :
    h.registerRead x 4 = (h.regRead .pcie x).2.emit (.hostData (leBytes 4 (h.regRead .pcie x).1)) := by
  have low : x / 4 * 4 = x := by omega
  have length : (x + 4 + 3) / 4 * 4 - x = 4 := by omega
  have word : h.regBytes .pcie 5 x 4 = (leBytes 4 (h.regRead .pcie x).1, (h.regRead .pcie x).2) := by
    simp [Hub.regBytes, plain, regOctets]
  unfold Hub.registerRead
  dsimp only
  rw [low, length, word]

/-- The post SRAM is read as it stands (R133). -/
theorem sramRead_reads {h : Hub} {x len : Nat} (unlocked : h.sramLocked x len = false) (sound : h.poisoned x len = false) :
    h.sramRead x len = h.emit (.hostData ((List.range len).map (fun i => Memory.read h.host.sram (x + i)))) := by
  unfold Hub.sramRead
  rw [unlocked, sound, readN_eq_map]
  rfl

/-- A write that is not poisoned goes to its BAR. -/
theorem hostStore_unpoisoned {h : Hub} {bar : HostBar} {x : Nat} {data : List Byte} (whole : Bool)
    (holds : ¬ h.barHolds bar x data.length = false) :
    (bar = .bar2 → h.hostStore bar x data (if whole then .whole else .bytes) = h.windowWrite (windowOf x).1 (windowOf x).2 data whole)
    ∧ (bar = .bar4 → h.hostStore bar x data (if whole then .whole else .bytes) = h.sramStore x data) := by
  have mark : (if whole then WriteMark.whole else .bytes) ≠ .poisoned ∧ ((if whole then WriteMark.whole else .bytes) == .whole) = whole := by
    cases whole <;> decide
  unfold Hub.hostStore
  rw [if_neg holds, if_neg mark.1, mark.2]
  constructor
  · rintro rfl
    rfl
  · rintro rfl
    rfl

/-- A poisoned write is discarded, and counts in its window (R209). -/
theorem hostStore_poisoned {h : Hub} {bar : HostBar} {x : Nat} {data : List Byte} (holds : ¬ h.barHolds bar x data.length = false) :
    h.hostStore bar x data .poisoned = (h.aer aerPoisoned false).when (bar == .bar2) (fun h => h.count (Obj.refusedAccesses (windowOf x).1)) :=
  (if_neg holds).trans (if_pos rfl)

/-! ### What an access of a window leaves -/

/-- An object of a window that an entry of the fault log and its Completer Abort leave. -/
theorem num_refused (h : Hub) (reason kind tag addr len : Nat) {w : Nat} (window : w < 16) :
    ((h.count (Obj.refusedAccesses w)).logFault reason w kind tag addr len).num (Obj.refusedAccesses w)
      = satAdd (maxWord 32) (h.num (Obj.refusedAccesses w)) 1 := by
  rw [num_logFault _ _ _ _ _ _ _ (windowKey (k := Obj.refusedAccesses w) rfl (by decide) (by decide) window).1, Hub.num_count, if_pos rfl]

/-- A read of a window that is refused (R139, R141). -/
theorem windowRead_refuses {h : Hub} {w offset len : Nat} {whole : Bool} (window : w < 16)
    (r : h.refusal w offset len whole 2 (h.readLabel w) ≠ 0) :
    (h.windowRead w offset len whole).out.head? = some .hostAbort ∧ (h.windowRead w offset len whole).bridge.parts = h.bridge.parts
    ∧ (h.windowRead w offset len whole).bridge.logSeq = h.bridge.logSeq + 1
    ∧ (h.windowRead w offset len whole).num (Obj.refusedAccesses w) = satAdd (maxWord 32) (h.num (Obj.refusedAccesses w)) 1 := by
  rw [windowRead_refused r, completerAbort_bridge, num_completerAbort, num_refused _ _ _ _ _ _ window, logFault_bridge]
  exact ⟨rfl, rfl, rfl, rfl⟩

theorem begins_self (h : Hub) (p : ReadPart) : (h.begins p).self = h.self := by
  show (Hub.count _ (Obj.readsIssued p.w)).num Obj.nodeIdInUse = _
  rw [Hub.num_count, if_neg (by unfold Obj.nodeIdInUse Obj.readsIssued; omega)]
  rfl

/-- A read of a window that is one part becomes its RD (R138, R139, R147). -/
theorem windowRead_issues {h : Hub} {w offset len : Nat} {whole : Bool} (window : w < 16)
    (r : h.refusal w offset len whole 2 (h.readLabel w) = 0) (some_ : 0 < len)
    (fits : offset % h.num (Obj.accessMax w) + len ≤ h.num (Obj.accessMax w)) :
    (h.windowRead w offset len whole).bridge.parts = h.bridge.parts ++ [h.wholePart w offset len]
    ∧ (h.windowRead w offset len whole).num (Obj.readsIssued w) = satAdd (maxWord 32) (h.num (Obj.readsIssued w)) 1
    ∧ (h.windowRead w offset len whole).bridge.nextTag = (h.bridge.nextTag + 1) % 65536
    ∧ (h.lastUnsent w = none → addrNode (h.num (Obj.ringBase w) + offset) = h.self →
        (h.windowRead w offset len whole).bridge.loop = h.bridge.loop ++ [h.rdOf (h.wholePart w offset len)])
    ∧ (∀ a, h.lastUnsent w = some a → (h.windowRead w offset len whole).bridge.loop = h.bridge.loop
        ∧ (h.windowRead w offset len whole).bridge.behind.map (·.after) = h.bridge.behind.map (·.after) ++ [a.tag]) := by
  have self := begins_self h (h.wholePart w offset len)
  rw [windowRead_begins r some_ fits]
  refine ⟨?_, ?_, ?_, fun free own => ?_, fun a last => issueRead_behind (h := h.begins _) last⟩
  · rw [issueRead_bridge]
    rfl
  · rw [num_issueRead _ _ (windowKey (k := Obj.readsIssued w) rfl (by decide) (by decide) window).2]
    exact (Hub.num_count _ _ _).trans (if_pos rfl)
  · rw [issueRead_bridge]
    rfl
  · rw [issueRead_loop free (own.trans self.symm)]
    unfold Hub.rdOf
    rw [self]
    rfl

/-- A write of a window that is refused (R139, R141, R149). -/
theorem windowWrite_refuses {h : Hub} {w offset : Nat} {data : List Byte} {whole : Bool} (window : w < 16)
    (r : h.refusal w offset data.length whole (h.num (Obj.writeClass w)) (0x100 + w) ≠ 0) :
    (h.windowWrite w offset data whole).bridge.logSeq = h.bridge.logSeq + 1
    ∧ (h.windowWrite w offset data whole).num (Obj.refusedAccesses w) = satAdd (maxWord 32) (h.num (Obj.refusedAccesses w)) 1
    ∧ (h.windowWrite w offset data whole).num (Obj.writesFaulted w) = satAdd (maxWord 32) (h.num (Obj.writesFaulted w)) 1 := by
  have faulted : Obj.writesFaulted w ≠ Obj.faultedSinceFence w := by unfold Obj.writesFaulted Obj.faultedSinceFence; omega
  have refused : Obj.refusedAccesses w ≠ Obj.faultedSinceFence w := by unfold Obj.refusedAccesses Obj.faultedSinceFence; omega
  have apart : Obj.refusedAccesses w ≠ Obj.writesFaulted w := by unfold Obj.refusedAccesses Obj.writesFaulted; omega
  rw [windowWrite_refused r]
  refine ⟨?_, ?_, ?_⟩
  · rw [logFault_bridge]
    rfl
  · rw [num_logFault _ _ _ _ _ _ _ (windowKey (k := Obj.refusedAccesses w) rfl (by decide) (by decide) window).1, num_faultWrite _ _ _ refused, if_neg apart,
      Hub.num_count, if_pos rfl]
  · rw [num_logFault _ _ _ _ _ _ _ (windowKey (k := Obj.writesFaulted w) rfl (by decide) (by decide) window).1, num_faultWrite _ _ _ faulted, if_pos rfl,
      Hub.num_count, if_neg apart.symm]

theorem writes_self (h : Hub) (w addr len : Nat) : (h.writes w addr len).self = h.self := by
  show (Hub.count _ (Obj.writesIssued w)).num Obj.nodeIdInUse = _
  rw [Hub.num_count, if_neg (by unfold Obj.nodeIdInUse Obj.writesIssued; omega)]
  rfl

/-- A write of a window that is one part becomes its WRP (R138 to R140, R158). -/
theorem windowWrite_leaves {h : Hub} {w offset : Nat} {data : List Byte} {whole : Bool} (window : w < 16)
    (r : h.refusal w offset data.length whole (h.num (Obj.writeClass w)) (0x100 + w) = 0) (some_ : data ≠ [])
    (fits : offset % h.num (Obj.accessMax w) + data.length ≤ h.num (Obj.accessMax w)) :
    ((h.windowWrite w offset data whole).fence w).wrote = true
    ∧ (h.windowWrite w offset data whole).num (Obj.writesIssued w) = satAdd (maxWord 32) (h.num (Obj.writesIssued w)) 1
    ∧ SMap.get (fun _ => 0) (h.windowWrite w offset data whole).bridge.wtags w = (SMap.get (fun _ => 0) h.bridge.wtags w + 1) % 65536
    ∧ (h.lastUnsent w = none → addrNode (h.num (Obj.ringBase w) + offset) = h.self →
        (h.windowWrite w offset data whole).bridge.loop = h.bridge.loop
          ++ [{ txn (addrNode (h.num (Obj.ringBase w) + offset)) tWrp (h.num (Obj.writeClass w)) (h.num (Obj.ringBase w) + offset) w 0
                  (SMap.get (fun _ => 0) h.bridge.wtags w) (slice (h.winLane w data) 0 data.length) with src := h.self }]) := by
  rw [windowWrite_writes window r some_ fits]
  generalize (slice (h.winLane w data) 0 data.length).length = len
  have self := writes_self h w (h.num (Obj.ringBase w) + offset) len
  refine ⟨?_, ?_, ?_, fun free own => ?_⟩
  · unfold Hub.fence
    rw [sendWindow_bridge]
    show ((h.setFence w { h.fence w with wrote := true }).fence w).wrote = true
    rw [Hub.fence_setFence_self]
  · rw [(sendWindow_sends _ _ _ _).num (windowKey (k := Obj.writesIssued w) rfl (by decide) (by decide) window).2]
    exact (Hub.num_count _ _ _).trans (if_pos rfl)
  · rw [sendWindow_bridge]
    exact SMap.get_set_self _ _ _ _
  · rw [sendWindow_free (h := h.writes w _ len) free, sendTxn_bridge, self]
    exact if_pos own

theorem hostAtomic_refuses {h : Hub} {a : AtomicOp} (window : a.w < 16)
    (r : h.refusal a.w a.offset a.size true 2 (0x100 + a.w) ≠ 0 ∨ h.flag (Obj.atomicEnable a.w) = false) :
    (h.hostAtomic a).out.head? = some .hostAbort ∧ (h.hostAtomic a).bridge.slot = h.bridge.slot
    ∧ (h.hostAtomic a).num (Obj.refusedAccesses a.w) = satAdd (maxWord 32) (h.num (Obj.refusedAccesses a.w)) 1 := by
  obtain ⟨reason, eq⟩ := hostAtomic_refused r
  rw [eq, completerAbort_bridge, num_completerAbort, num_refused _ _ _ _ _ _ window, logFault_bridge]
  exact ⟨rfl, rfl, rfl⟩

/-- An AtomicOp takes the one slot, or waits for it (R162). -/
theorem hostAtomic_takes {h : Hub} {a : AtomicOp} (r : h.refusal a.w a.offset a.size true 2 (0x100 + a.w) = 0)
    (on : h.flag (Obj.atomicEnable a.w) = true) :
    (h.bridge.slot = none → (h.hostAtomic a).bridge.slot = some { a with tag := h.bridge.nextTag, phase := 1 }
      ∧ (h.bridge.behind = [] → addrNode (h.atomicAddr a) = h.self → (h.hostAtomic a).bridge.loop = h.bridge.loop
          ++ [{ txn (addrNode (h.atomicAddr a)) tLkrd 2 (h.atomicAddr a) a.w a.size h.bridge.nextTag [] with src := h.self }]))
    ∧ (h.bridge.slot ≠ none → (h.hostAtomic a).bridge.slot = h.bridge.slot
      ∧ (h.hostAtomic a).bridge.atomics = h.bridge.atomics ++ [{ a with tag := h.bridge.nextTag }]) := by
  rw [hostAtomic_taken r on]
  constructor
  · intro free
    rw [free, if_pos Option.isNone_none, startLock_bridge]
    exact ⟨rfl, fun behind own => startLock_loop (h := h.takeTag.2) behind own⟩
  · intro busy
    rw [if_neg (by simpa using busy)]
    exact ⟨rfl, rfl⟩

/-! ### What answers (R134) -/

theorem bridgeRx_rdr {h : Hub} {f : RingFrame} (kind : f.type = tRdr) : h.bridgeRx f = h.takeRdr f := by
  unfold Hub.bridgeRx
  rw [kind]
  rfl

theorem bridgeRx_rdx {h : Hub} {f : RingFrame} (kind : f.type = tRdx) : h.bridgeRx f = h.takeRdx f := by
  unfold Hub.bridgeRx
  rw [kind]
  rfl

theorem bridgeRx_lkrt {h : Hub} {f : RingFrame} (kind : f.type = tLkrt) : h.bridgeRx f = h.takeLkrt f := by
  unfold Hub.bridgeRx
  rw [kind]
  rfl

/-! ### Ends and retries (R156, R157, R165) -/

/-- An AtomicOp that is locked out frees the slot, and waits or fails (R165). -/
theorem takeLkrt_frees {h : Hub} {f : RingFrame} {a : AtomicOp} (slot : h.bridge.slot = some a) (phase : a.phase = 1) (tag : a.tag = f.tag)
    (last : h.bridge.atomics = []) :
    (h.takeLkrt f).num Obj.lkrtReceived = satAdd (maxWord 32) (h.num Obj.lkrtReceived) 1 ∧ (h.takeLkrt f).bridge.slot = none
    ∧ (a.lkrts + 1 < h.num Obj.lockRetries → (h.takeLkrt f).bridge.retrying = h.bridge.retrying ++ [{ a with lkrts := a.lkrts + 1, phase := 3 }])
    ∧ (h.num Obj.lockRetries ≤ a.lkrts + 1 → (h.takeLkrt f).bridge.retrying = h.bridge.retrying ∧ (h.takeLkrt f).out.head? = some .hostAbort) := by
  have retries : (h.count Obj.lkrtReceived).num Obj.lockRetries = h.num Obj.lockRetries := (Hub.num_count _ _ _).trans (if_neg (by decide))
  have counted : (h.count Obj.lkrtReceived).num Obj.lkrtReceived = satAdd (maxWord 32) (h.num Obj.lkrtReceived) 1 :=
    (Hub.num_count _ _ _).trans (if_pos rfl)
  unfold Hub.takeLkrt
  rw [slot]
  dsimp only
  rw [if_pos ⟨phase, tag⟩, retries]
  split
  next few =>
    obtain ⟨out, atomics, retrying⟩ := abortAtomic_ends (h.count Obj.lkrtReceived) { a with lkrts := a.lkrts + 1, phase := 3 } stLockTimeout
    unfold Hub.failAtomic
    rw [nextAtomic_none (atomics.trans last)]
    refine ⟨?_, rfl, fun more => absurd few (Nat.not_le.mpr more), fun _ => ⟨retrying, out⟩⟩
    exact (num_logFault _ _ _ _ _ _ _ (by decide)).trans counted
  next more =>
    rw [nextAtomic_none]
    · exact ⟨counted, rfl, fun _ => rfl, fun few => absurd few more⟩
    · exact last

theorem budgetExpired_ends {h : Hub} {tag : Nat} {p : ReadPart} (one : h.bridge.parts = [p]) (named : p.tag = tag) :
    (h.budgetExpired tag).bridge.parts = [] ∧ (h.budgetExpired tag).out.head? = some .hostAbort
    ∧ (h.budgetExpired tag).num Obj.readBudgetAborts = satAdd (maxWord 32) (h.num Obj.readBudgetAborts) 1 := by
  obtain ⟨out, parts, -⟩ := failRead_ends (h.count Obj.readBudgetAborts) p stBudget
  rw [budgetExpired_fails one named]
  refine ⟨parts.trans ?_, out, ?_⟩
  · show h.bridge.parts.filter _ = []
    simp [one]
  · exact (num_logFault _ _ _ _ _ _ _ (by decide)).trans ((Hub.num_count _ _ _).trans (if_pos rfl))

theorem budgetExpired_waits {h : Hub} {tag : Nat} {a : AtomicOp} (none_ : h.bridge.parts = []) (named : h.atomicOf tag = some a)
    (waits : h.bridge.slot ≠ some a) : h.budgetExpired tag = (h.count Obj.readBudgetAborts).failWaiting a stBudget := by
  unfold Hub.budgetExpired
  rw [none_, List.find?_nil, named]
  exact if_neg waits

/-- The first AtomicOp that waited after its LKRT takes the slot or waits for it (R165). -/
theorem lockRetry_goes {h : Hub} {a : AtomicOp} (one : h.bridge.retrying = [a]) :
    h.lockRetry.bridge.retrying = [] ∧ (h.bridge.slot = none → h.lockRetry.bridge.slot = some { a with phase := 1 })
    ∧ (h.bridge.slot ≠ none → h.lockRetry.bridge.slot = h.bridge.slot ∧ h.lockRetry.bridge.atomics = h.bridge.atomics ++ [{ a with phase := 0 }]) := by
  unfold Hub.lockRetry
  rw [one]
  dsimp only
  split
  next free =>
    rw [startLock_bridge]
    exact ⟨rfl, fun _ => rfl, fun busy => absurd (Option.isNone_iff_eq_none.mp free) busy⟩
  next busy => exact ⟨rfl, fun free => absurd (Option.isNone_iff_eq_none.mpr free) busy, fun _ => ⟨rfl, rfl⟩⟩

end Sys2Proof.Machine

open Sys2Proof Sys2Proof.Machine

/-- Settles O26: the host's reads, writes and AtomicOps of the BARs, then the answers to them and the ends of their waits. -/
theorem windowsReadWriteAndLock : Obligations.WindowsReadWriteAndLock := by
  unfold Obligations.WindowsReadWriteAndLock
  refine ⟨?reads, ?writes, ?atomics, ?answers, ?waits, ?budget, ?again⟩
  case reads =>
    intro s x len whole w addr r rd
    have window : w < 16 := windowOf_lt x
    have goes {bar : HostBar} {n : Nat} {g : Hub} (eq : s.hub.hostRead bar x n whole = g) :
        exec (.hostWindowRead bar x n whole) s = .next (s.withHub g) := congrArg (fun h => Host.Outcome.next (s.withHub h)) eq
    refine ⟨fun d0 fits refused => ?_, fun d0 fits taken some_ block => ?_, fun d0 fits unlocked sound => ?_, ?_, ?_, ?_⟩
    · exact ⟨_, goes (if_neg (barHolds_bar2 d0 fits)), rfl, windowRead_refuses window refused⟩
    · exact ⟨_, goes (if_neg (barHolds_bar2 d0 fits)), rfl, windowRead_issues window taken some_ block⟩
    · exact goes ((if_neg (barHolds_bar4 d0 fits)).trans (sramRead_reads unlocked sound))
    · exact fun d0 fits aligned plain =>
        goes (bar := .bar0) ((if_neg ((Bool.not_eq_false _).mpr (Bool.and_eq_true_iff.mpr ⟨d0, decide_eq_true fits⟩))).trans (registerRead_word aligned plain))
    · exact fun fits => goes (bar := .config) (if_neg ((Bool.not_eq_false _).mpr (decide_eq_true fits)))
    · exact fun bar _ out => goes (if_pos out)
  case writes =>
    intro s x data whole w addr cls r tag body in2 in4
    have window : w < 16 := windowOf_lt x
    have goes {bar : HostBar} {mark : WriteMark} {g : Hub} (eq : s.hub.hostStore bar x data mark = g) :
        exec (.hostWindowWrite bar x data mark) s = .next (s.withHub g) := congrArg (fun h => Host.Outcome.next (s.withHub h)) eq
    refine ⟨fun ⟨d0, fits⟩ refused => ?_, fun ⟨d0, fits⟩ taken some_ block => ?_, fun ⟨d0, fits⟩ unlocked => ?_, fun ⟨d0, fits⟩ => ?_,
      fun ⟨d0, fits⟩ => ?_, fun bar _ out => goes (if_pos out)⟩
    · exact ⟨_, goes ((hostStore_unpoisoned whole (barHolds_bar2 d0 fits)).1 rfl), rfl, windowWrite_refuses window refused⟩
    · exact ⟨_, goes ((hostStore_unpoisoned whole (barHolds_bar2 d0 fits)).1 rfl), rfl, windowWrite_leaves window taken some_ block⟩
    · refine ⟨_, goes ((hostStore_unpoisoned whole (barHolds_bar4 d0 fits)).2 rfl |>.trans (if_neg ?_)), rfl, fun p => read_writeN _ _ p _⟩
      rw [unlocked]
      decide
    · exact ⟨_, goes (hostStore_poisoned (barHolds_bar2 d0 fits)), rfl, rfl, (Hub.num_count _ _ _).trans (if_pos rfl)⟩
    · exact ⟨_, goes (hostStore_poisoned (barHolds_bar4 d0 fits)), rfl, rfl⟩
  case atomics =>
    intro s x wide kind operand compare w a addr r in2
    have window : w < 16 := windowOf_lt x
    let op : AtomicOp := { w := w, offset := (windowOf x).2, wide := wide, kind := kind, operand := operand, compare := compare }
    have goes (held : in2) : exec (.hostAtomicop .bar2 x wide kind operand compare) s = .next (s.withHub (s.hub.hostAtomic op)) :=
      congrArg (fun h => Host.Outcome.next (s.withHub h)) (if_pos ⟨rfl, (Bool.not_eq_false _).mp (barHolds_bar2 held.1 held.2)⟩)
    refine ⟨fun held refused => ⟨_, goes held, rfl, hostAtomic_refuses (a := op) window refused⟩,
      fun held taken on => ⟨_, goes held, rfl, hostAtomic_takes (a := op) taken on⟩, fun bar other => ?_⟩
    refine congrArg (fun h => Host.Outcome.next (s.withHub h)) (if_neg fun both => ?_)
    rw [both.1] at other
    exact absurd other (by decide)
  case answers =>
    intro s west f
    refine ⟨fun takes p one tag init => ?_, fun takes p one tag init => ?_, fun takes a slot phase tag last => ?_⟩
    · obtain ⟨kind, A⟩ := bridgeTakes_arrives takes
      obtain ⟨o, runs⟩ := exec_takes (i := .rdrRx west f) rfl takes
      rw [bridgeRx_rdr (f := { f with rxStamp := o }) kind] at runs
      obtain ⟨parts, out, log⟩ := takeRdr_ends (f := { f with rxStamp := o }) (A.bridge ▸ one) tag init
      refine ⟨_, runs, rfl, parts, out.trans ?_, fun bad => (log bad).trans (A.bridge ▸ rfl)⟩
      rw [A.winLane]
      rfl
    · obtain ⟨kind, A⟩ := bridgeTakes_arrives takes
      obtain ⟨o, runs⟩ := exec_takes (i := .rdxRx west f) rfl takes
      rw [bridgeRx_rdx (f := { f with rxStamp := o }) kind] at runs
      exact ⟨_, runs, rfl, takeRdx_waits (f := { f with rxStamp := o }) (A.bridge ▸ one) tag init⟩
    · obtain ⟨kind, A⟩ := bridgeTakes_arrives takes
      obtain ⟨o, runs⟩ := exec_takes (i := .lkrtRx west f) rfl takes
      rw [bridgeRx_lkrt (f := { f with rxStamp := o }) kind] at runs
      have frees := takeLkrt_frees (f := { f with rxStamp := o }) (A.bridge ▸ slot) phase tag (A.bridge ▸ last)
      rw [A.num Obj.lkrtReceived (by decide), A.num Obj.lockRetries (by decide), A.bridge] at frees
      exact ⟨_, runs, rfl, frees⟩
  case waits =>
    intro s tag p one named
    refine ⟨fun waits => ?_, fun issued data behind => ?_, ⟨_, rfl, rfl, budgetExpired_ends one named⟩⟩
    · refine ⟨_, congrArg (fun h => Host.Outcome.next (s.withHub h)) (retryRead_issues one named waits), rfl, ?_, fun free own => issueRead_loop
        (h := s.hub.setPart { p with waits := false }) (p := { p with waits := false }) free own⟩
      show Bridge.parts (Hub.issueRead _ _).bridge = _
      rw [issueRead_bridge]
      simp [Hub.setPart, one]
    · exact congrArg (fun h => Host.Outcome.next (s.withHub h)) (readTimeout_issues one named issued data behind)
  case budget =>
    intro s tag none_ a named waits
    obtain ⟨out, atomics, retrying⟩ := failWaiting_ends (s.hub.count Obj.readBudgetAborts) a stBudget
    exact ⟨_, congrArg (fun h => Host.Outcome.next (s.withHub h)) (budgetExpired_waits none_ named waits), rfl, atomics, retrying, out⟩
  case again =>
    intro s a one
    exact ⟨_, rfl, rfl, lockRetry_goes one⟩
end

section
/-!
The bridge as a target (R129 to R133, R137, R143 to R145, R154, R155, R162 to R165): what each guard and each operation makes of a transaction.
-/
namespace Sys2Proof.Machine

/-! ### Host memory (R204, R207, R209) -/

/-- From `h` to `g` a request to the host, or the end of one, moved the host interface, and not its queues. -/
def Hub.Asks (h g : Hub) : Prop := ∃ x o, g = { h with host := x, out := o } ∧ x.queues = h.host.queues

namespace Hub.Asks
variable {a h g : Hub}

theorem refl (h : Hub) : h.Asks h := ⟨_, _, rfl, rfl⟩

theorem trans (H : a.Asks h) (G : h.Asks g) : a.Asks g := by
  obtain ⟨_, _, rfl, queues⟩ := H
  obtain ⟨_, _, rfl, queues'⟩ := G
  exact ⟨_, _, rfl, queues'.trans queues⟩

theorem bridge (H : h.Asks g) : g.bridge = h.bridge := by
  obtain ⟨_, _, rfl, -⟩ := H
  rfl

theorem num (H : h.Asks g) (k : Nat) : g.num k = h.num k := by
  obtain ⟨_, _, rfl, -⟩ := H
  rfl

theorem queue (H : h.Asks g) (q : Nat) : g.queue q = h.queue q := by
  obtain ⟨_, _, rfl, queues⟩ := H
  unfold Hub.queue
  rw [queues]

theorem apUnit (H : h.Asks g) (p : Nat) : g.apUnit p = h.apUnit p := by
  unfold Hub.apUnit
  rw [H.num, H.num]

theorem aer (h : Hub) (bit : Nat) (advisory : Bool) : h.Asks (h.aer bit advisory) := ⟨_, _, rfl, rfl⟩

theorem askHost (h : Hub) (addr len : Nat) : h.Asks (h.askHost addr len) := by
  unfold Hub.askHost
  split
  · exact ⟨_, _, rfl, rfl⟩
  · split
    · exact ⟨_, _, rfl, rfl⟩
    · exact ⟨_, _, rfl, rfl⟩

theorem readEnded (h : Hub) : h.Asks h.readEnded := by
  unfold Hub.readEnded
  dsimp only
  split
  · exact ⟨_, _, rfl, rfl⟩
  · exact trans ⟨_, _, rfl, rfl⟩ (askHost _ _ _)

theorem readFault (h : Hub) (r : ReadEnd) : h.Asks (h.readFault r) := by
  unfold Hub.readFault
  cases r with
  | data => exact readEnded h
  | poisoned => exact (aer h _ _).trans (readEnded _)
  | unsupported => exact trans ⟨_, _, rfl, rfl⟩ (readEnded _)
  | aborted => exact trans ⟨_, _, rfl, rfl⟩ (readEnded _)

end Hub.Asks

/-! ### Requests and their guards (R129, R130, R137, R143) -/

theorem addrLocal_idem (a : Nat) : addrLocal (addrLocal a) = addrLocal a := Nat.mod_mod a _

/-- The aperture of an address is that of its local address. -/
theorem apertureOf_local (a : Nat) : apertureOf (addrLocal a) = apertureOf a := by
  unfold apertureOf
  rw [addrLocal_idem]

theorem inSram_bounds {l n : Nat} (inside : inSram l n = true) : 0x100000000 ≤ l ∧ l < 0x100200000 := by
  have bounds := of_decide_eq_true inside
  unfold sramBase sramSize at bounds
  omega

/-- The post SRAM lies in no aperture (R130). -/
theorem apertureOf_sram {l n : Nat} (inside : inSram l n = true) : apertureOf l = none := by
  have bounds := inSram_bounds inside
  have below : addrLocal l = l := Nat.mod_eq_of_lt (by omega)
  unfold apertureOf
  rw [below, if_neg (by omega)]

/-- A request that its flow and its form let through to its guard (R137, R143). -/
def Hub.Fits (h : Hub) (f : RingFrame) : Prop :=
  h.flowWaits f = false ∧ 8 ≤ f.payload.length ∧ reqLen f ≤ 4088 ∧ (0 < reqLen f ∨ f.type = tWrn)

/-- A request that fits meets its guard. -/
theorem serveTxn_guards {h : Hub} {f : RingFrame} (fits : h.Fits f) : h.serveTxn f =
    (let g := h.guardTxn f (reqLen f) (if f.type == tRd then 0 else 1)
     if g ≠ stOk then h.deny f g
     else if h.lockedRange (txAddr f) (reqLen f) then h.holdRequest (.ring f)
     else if f.type == tRd then
       match apertureOf (addrLocal (txAddr f)) with
       | some a => h.apRead f a (reqLen f)
       | none => h.chipRead f (addrLocal (txAddr f)) (reqLen f)
     else
       let h := h.retire (addrLocal (txAddr f)) (txData f)
       if f.type ≠ tWrn then h
       else
         match apertureOf (addrLocal (txAddr f)) with
         | some a =>
           ({ h with bridge := { h.bridge with flushes := h.bridge.flushes ++ [f] } }).askHost
             (h.num (Obj.hostBase a) + addrLocal (txAddr f) % 2 ^ 36) 0
         | none => h.respondTxn f tWack 0 []) := by
  obtain ⟨flow, length, most, some_⟩ := fits
  unfold Hub.serveTxn
  exact (if_neg (by simp [flow])).trans (if_neg (by omega))

theorem serveTxn_denies {h : Hub} {f : RingFrame} {op : Nat} (fits : h.Fits f) (kind : (if f.type == tRd then 0 else 1) = op)
    (guard : h.guardTxn f (reqLen f) op ≠ 0) : h.serveTxn f = h.deny f (h.guardTxn f (reqLen f) op) := by
  subst kind
  rw [serveTxn_guards fits]
  exact if_pos guard

/-- A read that its guard lets through. -/
theorem serveTxn_reads {h : Hub} {f : RingFrame} (kind : f.type = tRd) (fits : h.Fits f) (guard : h.guardTxn f (reqLen f) 0 = 0)
    (unlocked : h.lockedRange (txAddr f) (reqLen f) = false) : h.serveTxn f =
      match apertureOf (addrLocal (txAddr f)) with
      | some a => h.apRead f a (reqLen f)
      | none => h.chipRead f (addrLocal (txAddr f)) (reqLen f) := by
  have read : (f.type == tRd) = true := by simp [kind]
  rw [serveTxn_guards fits]
  dsimp only
  rw [if_pos read, guard, if_neg (by decide), unlocked, if_neg (by decide), if_pos read]

/-- A write that its guard lets through to on-chip memory: WRN is answered (R132, R137). -/
theorem serveTxn_writes {h : Hub} {f : RingFrame} (kind : f.type ≠ tRd) (fits : h.Fits f) (guard : h.guardTxn f (reqLen f) 1 = 0)
    (unlocked : h.lockedRange (txAddr f) (reqLen f) = false) (chip : apertureOf (addrLocal (txAddr f)) = none) : h.serveTxn f =
      if f.type ≠ tWrn then h.retire (addrLocal (txAddr f)) (txData f)
      else (h.retire (addrLocal (txAddr f)) (txData f)).respondTxn f tWack 0 [] := by
  have write : ¬ (f.type == tRd) = true := by simp [kind]
  rw [serveTxn_guards fits]
  dsimp only
  rw [if_neg write, guard, if_neg (by decide), unlocked, if_neg (by decide), if_neg write, chip]

/-! ### The post SRAM (R132, R133) -/

theorem chipRead_sram {h : Hub} {f : RingFrame} {l n : Nat} (inside : inSram l n = true) : h.chipRead f l n =
    if h.poisoned (l - sramBase) n then h.respondTxn f tRdr stEcc []
    else h.respondTxn f tRdr stOk ((List.range n).map (fun i => Memory.read h.host.sram (l - sramBase + i))) := by
  have bounds := inSram_bounds inside
  unfold Hub.chipRead
  rw [if_neg (by omega), if_pos inside, readN_eq_map]

/-- No octets write nothing. -/
theorem sramWrite_nil (h : Hub) (off : Nat) : h.sramWrite off [] = h := by
  have kept : h.safety.poison.filter (fun w => !decide (off ≤ 8 * w ∧ 8 * w + 8 ≤ off + ([] : List Byte).length)) = h.safety.poison := by
    refine List.filter_eq_self.mpr fun w _ => ?_
    rw [List.length_nil]
    simp only [Bool.not_eq_true', decide_eq_false_iff_not]
    omega
  unfold Hub.sramWrite
  rw [kept]
  rfl

theorem retire_sram {h : Hub} {l : Nat} {data : List Byte} (inside : inSram l data.length = true) :
    h.retire l data = h.sramWrite (l - sramBase) data := by
  have bounds := inSram_bounds inside
  unfold Hub.retire
  split
  next none_ => rw [List.isEmpty_iff.mp none_, sramWrite_nil]
  · rw [if_neg (by omega)]

theorem serveTxn_readsSram {h : Hub} {f : RingFrame} (kind : f.type = tRd) (fits : h.Fits f) (guard : h.guardTxn f (reqLen f) 0 = 0)
    (inside : inSram (addrLocal (txAddr f)) (reqLen f) = true) (unlocked : h.lockedRange (txAddr f) (reqLen f) = false) : h.serveTxn f =
      if h.poisoned (addrLocal (txAddr f) - sramBase) (reqLen f) then h.respondTxn f tRdr stEcc []
      else h.respondTxn f tRdr stOk ((List.range (reqLen f)).map (fun i => Memory.read h.host.sram (addrLocal (txAddr f) - sramBase + i))) := by
  rw [serveTxn_reads kind fits guard unlocked, apertureOf_sram inside]
  exact chipRead_sram inside

/-- A write of the post SRAM covers its data (R132). -/
theorem reqLen_write {f : RingFrame} (kind : f.type = tWrp ∨ f.type = tWrn) : reqLen f = (txData f).length := by
  unfold reqLen
  rcases kind with kind | kind <;> rw [kind] <;> rfl

theorem serveTxn_writesSram {h : Hub} {f : RingFrame} (kind : f.type = tWrp ∨ f.type = tWrn) (fits : h.Fits f) (guard : h.guardTxn f (reqLen f) 1 = 0)
    (inside : inSram (addrLocal (txAddr f)) (reqLen f) = true) (unlocked : h.lockedRange (txAddr f) (reqLen f) = false) : h.serveTxn f =
      if f.type ≠ tWrn then h.sramWrite (addrLocal (txAddr f) - sramBase) (txData f)
      else (h.sramWrite (addrLocal (txAddr f) - sramBase) (txData f)).respondTxn f tWack 0 [] := by
  have write : f.type ≠ tRd := by rcases kind with kind | kind <;> rw [kind] <;> decide
  rw [serveTxn_writes write fits guard unlocked (apertureOf_sram inside), retire_sram (reqLen_write kind ▸ inside)]

theorem serveTxn_readsAperture {h : Hub} {f : RingFrame} {p : Nat} (kind : f.type = tRd) (fits : h.Fits f) (guard : h.guardTxn f (reqLen f) 0 = 0)
    (unlocked : h.lockedRange (txAddr f) (reqLen f) = false) (aperture : apertureOf (txAddr f) = some p) : h.serveTxn f = h.apRead f p (reqLen f) := by
  rw [serveTxn_reads kind fits guard unlocked, apertureOf_local, aperture]

/-! ### Reads of an aperture (R154, R155) -/

/-- The buffer of a read of an aperture that is begun. -/
def Hub.newFetch (h : Hub) (f : RingFrame) (a n : Nat) : FetchBuf :=
  { retry := h.bridge.nextRetry, src := f.src, init := txInit f, addr := txAddr f, len := n, ap := a }

/-- A first read begins a fetch (R154). -/
theorem apRead_begins {h : Hub} {f : RingFrame} {a n : Nat} (first : beAt f.payload 10 2 = 0) (room : h.bridge.fetches.length < 32) :
    (h.apRead f a n).bridge.fetches = h.bridge.fetches ++ [h.newFetch f a n]
    ∧ (h.apRead f a n).num Obj.fetchBuffersHeld = h.bridge.fetches.length + 1
    ∧ (h.apRead f a n).num Obj.rdxSent = satAdd (maxWord 32) (h.num Obj.rdxSent) 1 := by
  have none_ : h.bridge.fetches.find? (fun b => beAt f.payload 10 2 != 0 && b.retry == beAt f.payload 10 2 && b.src == f.src && b.init == txInit f) = none :=
    List.find?_eq_none.mpr fun b _ => by simp [first]
  unfold Hub.apRead
  dsimp only
  rw [none_]
  unfold Hub.firstFetch
  dsimp only
  rw [if_neg (Nat.not_le.mpr room)]
  refine ⟨?_, ?_, ?_⟩
  · rw [respondTxn_bridge, (Hub.Asks.askHost _ _ _).bridge]
    rfl
  · rw [(respondTxn_sends _ _ _ _ _).num (by decide), (Hub.Asks.askHost _ _ _).num, Hub.num_count, if_neg (by decide), Hub.num_setNum_self]
    exact List.length_append
  · rw [(respondTxn_sends _ _ _ _ _).num (by decide), (Hub.Asks.askHost _ _ _).num, Hub.num_count, if_pos rfl, Hub.num_setNum, if_neg (by decide)]
    rfl

theorem freeFetch_single {h : Hub} {b : FetchBuf} (one : h.bridge.fetches = [b]) :
    (h.freeFetch b.retry).bridge.fetches = [] ∧ (h.freeFetch b.retry).num Obj.fetchBuffersHeld = 0 := by
  have gone : h.bridge.fetches.filter (fun x => x.retry != b.retry) = [] := by simp [one]
  unfold Hub.freeFetch
  dsimp only
  rw [gone, Hub.num_setNum_self]
  exact ⟨rfl, rfl⟩

/-- A read with its retry tag takes what was fetched, once (R155). -/
theorem apRead_hands {h : Hub} {f : RingFrame} {a n : Nat} {b : FetchBuf} (one : h.bridge.fetches = [b]) (again : beAt f.payload 10 2 ≠ 0)
    (retry : b.retry = beAt f.payload 10 2) (src : b.src = f.src) (init : b.init = txInit f) (done : b.result.isSome = true) :
    (h.apRead f a n).bridge.fetches = [] ∧ (h.apRead f a n).num Obj.fetchBuffersHeld = 0 := by
  obtain ⟨r, result⟩ := Option.isSome_iff_exists.mp done
  have found : h.bridge.fetches.find? (fun b => beAt f.payload 10 2 != 0 && b.retry == beAt f.payload 10 2 && b.src == f.src && b.init == txInit f) = some b :=
    find_single one (by simp [again, retry, src, init])
  obtain ⟨fetches, held⟩ := freeFetch_single one
  unfold Hub.apRead
  dsimp only
  rw [found]
  dsimp only
  rw [result]
  dsimp only
  rw [← retry]
  constructor
  · rw [respondTxn_bridge]
    unfold Hub.when
    split
    · exact fetches
    · exact fetches
  · rw [(respondTxn_sends _ _ _ _ _).num (by decide)]
    refine (num_when _ ?_).trans held
    rw [Hub.num_count, if_neg]
    unfold Obj.fetchBuffersHeld Obj.readsServed
    omega

/-- A fetch that waits holds what came, or that nothing did (R154, R209). -/
theorem fetchDone_holds {h : Hub} {b : FetchBuf} (one : h.bridge.fetches = [b]) (waits : b.result = none) (ok : Bool) (data : List Byte) :
    (h.fetchDone b.retry ok data).bridge.fetches = [{ b with result := some (if ok
      then (0, slice (swapUnits (h.apUnit b.ap) data) (addrLocal b.addr % 2 ^ 36 % h.apUnit b.ap) b.len) else (stEcc, [])) }] := by
  have found : h.bridge.fetches.find? (fun x => x.retry == b.retry && x.result.isNone) = some b := find_single one (by simp [waits])
  unfold Hub.fetchDone
  rw [found]
  simp only [one, List.map_cons, List.map_nil, if_true]
  rfl

/-- Held data that nobody claims goes (R154). -/
theorem fetchExpiry_frees {h : Hub} {b : FetchBuf} (one : h.bridge.fetches = [b]) (done : b.result.isSome = true) :
    (h.fetchExpiry b.retry).bridge.fetches = [] ∧ (h.fetchExpiry b.retry).num Obj.fetchBuffersHeld = 0
    ∧ (h.fetchExpiry b.retry).num Obj.fetchExpired = satAdd (maxWord 32) (h.num Obj.fetchExpired) 1 := by
  obtain ⟨fetches, held⟩ := freeFetch_single one
  have expired : (h.freeFetch b.retry).num Obj.fetchExpired = h.num Obj.fetchExpired := (Hub.num_setNum _ _ _ _).trans (if_neg (by decide))
  unfold Hub.fetchExpiry
  rw [if_pos (by simp [one, done])]
  refine ⟨fetches, ?_, ?_⟩
  · rw [Hub.num_count, if_neg (by decide), held]
  · rw [Hub.num_count, if_pos rfl, expired]

/-- The read behind the oldest WRN is done, and answers it (R137). -/
theorem flushDone1_answers {h : Hub} {f : RingFrame} {fs : List RingFrame} (flushes : h.bridge.flushes = f :: fs) :
    h.flushDone1 = { h.readEnded with bridge := { h.readEnded.bridge with flushes := fs } }.respondTxn f tWack 0 [] := by
  have kept : h.readEnded.bridge.flushes = f :: fs := (Hub.Asks.readEnded h).bridge ▸ flushes
  unfold Hub.flushDone1
  dsimp only
  rw [kept]

/-! ### Locks (R162 to R165) -/

/-- What an LKRD asks for. -/
def lockOf (f : RingFrame) : Lock :=
  { granule := granuleOf (txAddr f), src := f.src, init := txInit f, addr := txAddr f, size := txB7 f, tag := f.tag, fresh := true }

/-- The lock that stands where an LKRD asks for one. -/
def Hub.lockBefore (h : Hub) (f : RingFrame) : Option Lock := h.bridge.locks.find? (fun k => k.granule == granuleOf (txAddr f))

/-- An LKRD that its flow, its form and its guard let through (R137, R162). -/
structure Hub.Asked (h : Hub) (f : RingFrame) : Prop where
  flow : h.flowWaits f = false
  size : txB7 f = 4 ∨ txB7 f = 8
  aligned : addrLocal (txAddr f) % txB7 f = 0
  guard : h.guardTxn f (txB7 f) 2 = 0
  sound : apertureOf (addrLocal (txAddr f)) = none → h.poisoned (addrLocal (txAddr f) - sramBase) (txB7 f) = false

theorem takeLkrd_asked {h : Hub} {f : RingFrame} (asked : h.Asked f) : h.takeLkrd f =
    if h.slotBusy f && decide (f.src < h.self) then (h.count Obj.lkrtSent).respondTxn f tLkrt 0 []
    else
      match h.lockBefore f with
      | some k =>
        if k.fresh = true ∧ k.src < f.src then
          (({ h with bridge := { h.bridge with locks := h.bridge.locks.map (fun x => if x = k then lockOf f else x) } }).count Obj.lkrtSent).respondTxn
            (h.lockRequest k) tLkrt 0 []
        else (h.count Obj.lkrtSent).respondTxn f tLkrt 0 []
      | none => ({ h with bridge := { h.bridge with locks := h.bridge.locks ++ [lockOf f] } }).count Obj.lockGrants := by
  obtain ⟨flow, size, aligned, guard, sound⟩ := asked
  have unpoisoned : ¬ ((apertureOf (addrLocal (txAddr f))).isNone && h.poisoned (addrLocal (txAddr f) - sramBase) (txB7 f)) = true := by
    rw [Bool.and_eq_true, Option.isNone_iff_eq_none]
    rintro ⟨chip, bad⟩
    rw [sound chip] at bad
    exact Bool.false_ne_true bad
  unfold Hub.takeLkrd
  dsimp only
  rw [if_neg (by simp [flow]), if_neg (by omega), guard, if_neg (by decide), if_neg unpoisoned]
  rfl

/-- The answer LKRT. -/
theorem lkrt_counts (h : Hub) (f : RingFrame) :
    ((h.count Obj.lkrtSent).respondTxn f tLkrt 0 []).bridge.locks = h.bridge.locks
    ∧ ((h.count Obj.lkrtSent).respondTxn f tLkrt 0 []).num Obj.lkrtSent = satAdd (maxWord 32) (h.num Obj.lkrtSent) 1 := by
  rw [respondTxn_bridge, (respondTxn_sends _ _ _ _ _).num (by decide), Hub.num_count, if_pos rfl]
  exact ⟨rfl, rfl⟩

/-- An LKRD is turned away: the hub's own one goes first, or another has the granule (R163, R165). -/
def Hub.Turned (h : Hub) (f : RingFrame) : Prop :=
  (h.slotBusy f = true ∧ f.src < h.self) ∨ ∃ k ∈ h.lockBefore f, ¬ (k.fresh = true ∧ k.src < f.src)

theorem takeLkrd_turned {h : Hub} {f : RingFrame} (asked : h.Asked f) (turned : h.Turned f) :
    (h.takeLkrd f).bridge.locks = h.bridge.locks ∧ (h.takeLkrd f).num Obj.lkrtSent = satAdd (maxWord 32) (h.num Obj.lkrtSent) 1 := by
  rw [takeLkrd_asked asked]
  split
  · exact lkrt_counts h f
  next quiet =>
    obtain ⟨k, before, stays⟩ := turned.resolve_left fun ⟨busy, first⟩ => quiet (by simp [busy, first])
    rw [Option.mem_def.mp before]
    dsimp only
    rw [if_neg stays]
    exact lkrt_counts h f

theorem takeLkrd_displaces {h : Hub} {f : RingFrame} (asked : h.Asked f) {k : Lock} (before : h.lockBefore f = some k) (turned : ¬ h.Turned f) :
    (h.takeLkrd f).bridge.locks = h.bridge.locks.map (fun x => if x = k then lockOf f else x)
    ∧ (h.takeLkrd f).num Obj.lkrtSent = satAdd (maxWord 32) (h.num Obj.lkrtSent) 1 := by
  have quiet : ¬ (h.slotBusy f && decide (f.src < h.self)) = true := fun busy =>
    turned (.inl ((Bool.and_eq_true_iff.mp busy).imp_right of_decide_eq_true))
  have lower : k.fresh = true ∧ k.src < f.src := by
    by_contra stays
    exact turned (.inr ⟨k, before, stays⟩)
  rw [takeLkrd_asked asked, if_neg quiet, before]
  dsimp only
  rw [if_pos lower, respondTxn_bridge, (respondTxn_sends _ _ _ _ _).num (by decide), Hub.num_count, if_pos rfl]
  exact ⟨rfl, rfl⟩

theorem takeLkrd_grants {h : Hub} {f : RingFrame} (asked : h.Asked f) (before : h.lockBefore f = none) (turned : ¬ h.Turned f) :
    (h.takeLkrd f).bridge.locks = h.bridge.locks ++ [lockOf f]
    ∧ (h.takeLkrd f).num Obj.lockGrants = satAdd (maxWord 32) (h.num Obj.lockGrants) 1 := by
  have quiet : ¬ (h.slotBusy f && decide (f.src < h.self)) = true := fun busy =>
    turned (.inl ((Bool.and_eq_true_iff.mp busy).imp_right of_decide_eq_true))
  rw [takeLkrd_asked asked, if_neg quiet, before]
  exact ⟨rfl, (Hub.num_count _ _ _).trans (if_pos rfl)⟩

/-- Where nothing waits nothing is served. -/
theorem serveWaiting_none {h : Hub} (none_ : h.bridge.waiting = []) : h.serveWaiting = h := by
  have pass : h.servePass = h := by
    unfold Hub.servePass
    rw [none_, List.foldl_nil, ← none_]
  unfold Hub.serveWaiting
  dsimp only
  rw [none_]
  exact pass

theorem refuseTxn_waiting (h : Hub) (f : RingFrame) (status : Nat) : (h.refuseTxn f status).bridge.waiting = h.bridge.waiting := by
  unfold Hub.refuseTxn
  split
  · rw [respondTxn_bridge]
  · rw [Hub.count_bridge, respondTxn_bridge]

theorem deny_waiting (h : Hub) (f : RingFrame) (status : Nat) : (h.deny f status).bridge.waiting = h.bridge.waiting := by
  unfold Hub.deny
  dsimp only
  rw [refuseTxn_waiting]
  split
  · unfold Hub.when
    split
    · rfl
    · rfl
  · rfl

theorem wrulWaits_none {h : Hub} (none_ : h.bridge.waiting = []) (f : RingFrame) : h.wrulWaits f = false := by
  unfold Hub.wrulWaits
  rw [none_, List.find?_nil]

theorem takeWrul_denies {h : Hub} {f : RingFrame} (none_ : h.bridge.waiting = []) (guard : h.guardTxn f (txData f).length 2 ≠ 0) :
    h.takeWrul f = h.deny f (h.guardTxn f (txData f).length 2) := by
  have denied : h.unlockWrite f = h.deny f (h.guardTxn f (txData f).length 2) := by
    unfold Hub.unlockWrite
    dsimp only
    rw [wrulWaits_none none_, if_neg (by decide)]
    exact if_pos guard
  unfold Hub.takeWrul
  rw [denied, serveWaiting_none ((deny_waiting _ _ _).trans none_)]

theorem takeWrul_lockless {h : Hub} {f : RingFrame} (none_ : h.bridge.waiting = []) (guard : h.guardTxn f (txData f).length 2 = 0)
    (lockless : h.bridge.locks = []) : h.takeWrul f = h.refuseTxn f stLockTimeout := by
  have refused : h.unlockWrite f = h.refuseTxn f stLockTimeout := by
    unfold Hub.unlockWrite
    dsimp only
    rw [wrulWaits_none none_, if_neg (by decide), guard, if_neg (by decide), lockless, List.find?_nil]
  unfold Hub.takeWrul
  rw [refused, serveWaiting_none ((refuseTxn_waiting _ _ _).trans none_)]

theorem dropLock_single {h : Hub} {k : Lock} (one : h.bridge.locks = [k]) : (h.dropLock k).bridge.locks = [] := by
  unfold Hub.dropLock
  simp [one]

/-- A WRUL with its lock, to on-chip memory (R162). -/
theorem takeWrul_unlocks {h : Hub} {f : RingFrame} {k : Lock} (none_ : h.bridge.waiting = []) (guard : h.guardTxn f (txData f).length 2 = 0)
    (one : h.bridge.locks = [k]) (src : k.src = f.src) (init : k.init = txInit f) (addr : k.addr = txAddr f) (tag : k.tag = f.tag)
    (chip : apertureOf (addrLocal (txAddr f)) = none) : h.takeWrul f =
      (if (txB7 f).testBit 0 || (txData f).length != k.size then h.dropLock k
       else (h.dropLock k).sramWrite (addrLocal (txAddr f) - sramBase) (txData f)).respondTxn f tWack 0 [] := by
  have found : h.bridge.locks.find? (fun k => k.src == f.src && k.init == txInit f && k.addr == txAddr f && k.tag == f.tag) = some k :=
    find_single one (by simp [src, init, addr, tag])
  have unlocked : h.unlockWrite f = (if (txB7 f).testBit 0 || (txData f).length != k.size then h.dropLock k
       else (h.dropLock k).sramWrite (addrLocal (txAddr f) - sramBase) (txData f)).respondTxn f tWack 0 [] := by
    unfold Hub.unlockWrite
    dsimp only
    rw [wrulWaits_none none_, if_neg (by decide), guard, if_neg (by decide), found, chip]
  unfold Hub.takeWrul
  rw [unlocked, serveWaiting_none]
  rw [respondTxn_bridge]
  split
  · exact none_
  · exact none_

/-- Such a WRUL gives its lock free, and writes its operand unless NOWRITE (R162). -/
theorem takeWrul_leaves {h : Hub} {f : RingFrame} {k : Lock} (none_ : h.bridge.waiting = []) (guard : h.guardTxn f (txData f).length 2 = 0)
    (one : h.bridge.locks = [k]) (src : k.src = f.src) (init : k.init = txInit f) (addr : k.addr = txAddr f) (tag : k.tag = f.tag)
    (chip : apertureOf (addrLocal (txAddr f)) = none) :
    (h.takeWrul f).bridge.locks = []
    ∧ ((txB7 f).testBit 0 = false → (txData f).length = k.size →
        (h.takeWrul f).host.sram = Memory.writeN h.host.sram (addrLocal (txAddr f) - sramBase) (txData f))
    ∧ ((txB7 f).testBit 0 = true → (h.takeWrul f).host.sram = h.host.sram) := by
  rw [takeWrul_unlocks none_ guard one src init addr tag chip, respondTxn_bridge, (Hub.respondTxn_keeps _ _ _ _ _).1]
  refine ⟨?_, fun whole length => ?_, fun nowrite => ?_⟩
  · split
    · exact dropLock_single one
    · exact dropLock_single one
  · rw [whole, length, if_neg (by simp)]
    rfl
  · rw [nowrite, Bool.true_or, if_pos rfl]
    rfl

/-- The watchdog of the one lock ends it, counted and logged (R164). -/
theorem lockExpired_ends {h : Hub} {l : Nat} {k : Lock} (one : h.bridge.locks = [k]) (granule : k.granule = granuleOf l)
    (none_ : h.bridge.waiting = []) : (h.lockExpired l).bridge.locks = [] ∧ (h.lockExpired l).bridge.logSeq = h.bridge.logSeq + 1
    ∧ (h.lockExpired l).num Obj.lockWatchdogAborts = satAdd (maxWord 32) (h.num Obj.lockWatchdogAborts) 1 := by
  have found : h.bridge.locks.find? (fun k => k.granule == granuleOf l) = some k := find_single one (by simp [granule])
  unfold Hub.lockExpired
  rw [found]
  dsimp only
  rw [serveWaiting_none (by rw [logFault_bridge]; exact none_), num_logFault _ _ _ _ _ _ _ (by decide), Hub.num_count, if_pos rfl, logFault_bridge]
  exact ⟨dropLock_single one, rfl, rfl⟩

theorem bridgeRx_serves {h : Hub} {f : RingFrame} (kind : f.type = tRd ∨ f.type = tWrp ∨ f.type = tWrn) : h.bridgeRx f = h.serveTxn f := if_pos kind

theorem bridgeRx_lkrd {h : Hub} {f : RingFrame} (kind : f.type = tLkrd) : h.bridgeRx f = h.takeLkrd f := by
  unfold Hub.bridgeRx
  rw [kind]
  rfl

theorem bridgeRx_wrul {h : Hub} {f : RingFrame} (kind : f.type = tWrul) : h.bridgeRx f = h.takeWrul f := by
  unfold Hub.bridgeRx
  rw [kind]
  rfl

/-! ### Registers (R4, R13, R212, R226) -/

/-- Offsets outside the MSI-X table take nothing. -/
theorem msixWrite_outside {h : Hub} {off : Nat} (outside : off < 0x20000 ∨ 0x20800 ≤ off) (v : Nat) : h.msixWrite off v = h := if_pos outside

/-- A word of the MSI-X table is kept (R211, R212). -/
theorem msixReg_msixWrite {h : Hub} {off v : Nat} (low : 0x20000 ≤ off) (high : off < 0x20800) (word : off % 16 / 4 < 3) (fits : v < 2 ^ 32) :
    (h.msixWrite off v).msixReg off = v := by
  have kept : (h.msixWrite off v).host.msixTable =
      SMap.set (fun _ => 0) h.host.msixTable (4 * ((off - 0x20000) / 16) + off % 16 / 4) (v % 2 ^ 32) := by
    unfold Hub.msixWrite
    dsimp only
    rw [if_neg (by omega), if_pos word]
  unfold Hub.msixReg
  rw [if_pos ⟨low, high⟩]
  unfold Hub.msixWord
  rw [if_neg (by omega), kept, SMap.get_set_self, Nat.mod_eq_of_lt fits]

/-- CREDIT without SYNC changes nothing, but counts where the queue does not take it (R226). -/
theorem creditSync_plain (h : Hub) (q : Nat) : h.creditSync .pcie q false =
    if h.qOn q = true ∧ (h.func (fidQueue q)).inReset = false then h else h.count (Obj.refusedWrites q) := by
  unfold Hub.creditSync
  split
  next off =>
    rw [if_neg]
    · exact if_neg (by simp)
    · simpa [imp_iff_not_or] using off
  next on =>
    rw [if_pos]
    · rfl
    · simpa using on

end Sys2Proof.Machine

open Sys2Proof Sys2Proof.Machine

/-- Settles O28: the transactions of a target by the command that brings each, then the ends of fetches, flushes and locks, and the registers. -/
theorem targetServesSramAndApertures : Obligations.TargetServesSramAndApertures := by
  unfold Obligations.TargetServesSramAndApertures
  refine ⟨?transactions, ?fetches, ?flushes, ?watchdog, ?queues, ?registers⟩
  case transactions =>
    intro s west f h a off n fits sram stored
    have takesAs {i : Instr} {type : Nat} (run : exec i s = s.answer fun h => h.bridgeFrame type west f) (takes : s.hub.bridgeTakes type west f = true)
        {op : Hub → RingFrame → Hub} (eq : ∀ k : RingFrame, k.type = type → h.bridgeRx k = op h k) :
        f.type = type ∧ s.hub.Arrives h ∧ ∃ o, ∀ g, op h { f with rxStamp := o } = g → exec i s = .next (s.withHub g) := by
      obtain ⟨kind, A⟩ := bridgeTakes_arrives takes
      obtain ⟨o, runs⟩ := exec_takes run takes
      exact ⟨kind, A, o, fun g same => runs.trans (congrArg (fun h => Host.Outcome.next (s.withHub h)) ((eq { f with rxStamp := o } kind).trans same))⟩
    have served (type : Nat) (kind : type = tRd ∨ type = tWrp ∨ type = tWrn) (k : RingFrame) (same : k.type = type) : h.bridgeRx k = h.serveTxn k :=
      bridgeRx_serves (same ▸ kind)
    have stores {t : State} (A : s.hub.Arrives h) (sram : t.hub.host.sram = Memory.writeN h.host.sram off (txData f)) : stored t := by
      intro p
      rw [sram, read_writeN, A.host]
    refine ⟨?denied, ?reads, ?posted, ?answered, ?aperture, ?locks, ?unlocks⟩
    case denied =>
      have denies {i : Instr} {type op : Nat} (run : exec i s = s.answer fun h => h.bridgeFrame type west f) (takes : s.hub.bridgeTakes type west f = true)
          (kinds : type = tRd ∨ type = tWrp ∨ type = tWrn) (as_ : (if type == tRd then 0 else 1) = op) (fit : fits) (refused : h.guardTxn f n op ≠ 0) :
          exec i s = .next (s.withHub (h.deny f (h.guardTxn f n op))) := by
        obtain ⟨kind, -, o, runs⟩ := takesAs run takes (served type kinds)
        exact runs _ (serveTxn_denies (f := { f with rxStamp := o }) fit (kind ▸ as_) refused)
      intro c mem takes fit g refused
      simp only [List.mem_cons, List.not_mem_nil, or_false] at mem
      rcases mem with rfl | rfl | rfl
      · exact denies rfl takes (.inl rfl) rfl fit refused
      · exact denies rfl takes (.inr (.inl rfl)) rfl fit refused
      · exact denies rfl takes (.inr (.inr rfl)) rfl fit refused
    case reads =>
      intro takes fit guard inside
      obtain ⟨kind, -, o, runs⟩ := takesAs (i := .rdRx west f) rfl takes (served tRd (.inl rfl))
      exact runs _ (serveTxn_readsSram (f := { f with rxStamp := o }) kind fit guard inside.1 inside.2)
    case posted =>
      intro takes fit guard inside
      obtain ⟨kind, A, o, runs⟩ := takesAs (i := .wrpRx west f) rfl takes (served tWrp (.inr (.inl rfl)))
      have writes := serveTxn_writesSram (f := { f with rxStamp := o }) (.inl kind) fit guard inside.1 inside.2
      exact ⟨_, runs _ (writes.trans (if_pos (by rw [kind]; decide))), rfl, stores A rfl, rfl⟩
    case answered =>
      intro takes fit guard inside
      obtain ⟨kind, A, o, runs⟩ := takesAs (i := .wrnRx west f) rfl takes (served tWrn (.inr (.inr rfl)))
      have writes := serveTxn_writesSram (f := { f with rxStamp := o }) (.inr kind) fit guard inside.1 inside.2
      exact ⟨_, runs _ (writes.trans (if_neg (not_not.mpr kind))), rfl, stores A (Hub.respondTxn_keeps _ _ _ _ _).1, rfl⟩
    case aperture =>
      intro p aperture takes fit guard unlocked retry
      obtain ⟨kind, A, o, runs⟩ := takesAs (i := .rdRx west f) rfl takes (served tRd (.inl rfl))
      have reads := serveTxn_readsAperture (f := { f with rxStamp := o }) kind fit guard unlocked aperture
      refine ⟨fun first room => ⟨_, runs _ reads, rfl, ?_⟩, fun b one again named src init done => ⟨_, runs _ reads, rfl, ?_⟩⟩
      · have begins := apRead_begins (f := { f with rxStamp := o }) (a := p) (n := n) first room
        rw [A.num Obj.rdxSent (by decide)] at begins
        exact begins
      · exact apRead_hands (f := { f with rxStamp := o }) one again named src init done
    case locks =>
      intro takes flow size aligned guard sound before busy turned mine
      obtain ⟨kind, A, o, runs⟩ := takesAs (i := .lkrdRx west f) rfl takes fun k same => bridgeRx_lkrd same
      have asked : h.Asked { f with rxStamp := o } := ⟨flow, size, aligned, guard, sound⟩
      have same : turned ↔ h.Turned { f with rxStamp := o } := by
        show ((_ ∧ f.src < s.hub.self) ∨ _) ↔ _
        rw [← A.self]
        exact Iff.rfl
      refine ⟨_, runs (h.takeLkrd { f with rxStamp := o }) rfl, rfl, fun away => ?_, fun k stands stays => ?_, fun free stays => ?_⟩
      · rw [← A.num Obj.lkrtSent (by decide)]
        exact takeLkrd_turned asked (same.mp away)
      · rw [← A.num Obj.lkrtSent (by decide)]
        exact takeLkrd_displaces asked stands (mt same.mpr stays)
      · rw [← A.num Obj.lockGrants (by decide)]
        exact takeLkrd_grants asked free (mt same.mpr stays)
    case unlocks =>
      intro takes none_ g
      obtain ⟨kind, A, o, runs⟩ := takesAs (i := .wrulRx west f) rfl takes fun k same => bridgeRx_wrul same
      refine ⟨fun refused => runs _ (takeWrul_denies (f := { f with rxStamp := o }) none_ refused),
        fun guard lockless => runs _ (takeWrul_lockless (f := { f with rxStamp := o }) none_ guard lockless), ?_⟩
      intro k one guard src init addr tag _ chip
      have leaves := takeWrul_leaves (f := { f with rxStamp := o }) none_ guard one src init addr tag chip
      have run := runs _ rfl
      revert leaves run
      generalize h.takeWrul { f with rxStamp := o } = g
      rintro ⟨locks, whole, nowrite⟩ run
      exact ⟨_, run, rfl, locks, fun bit length => stores A (whole bit length), fun bit => (nowrite bit).trans (congrArg HostIf.sram A.host)⟩
  case fetches =>
    intro s retry r data b one named
    have holds {h : Hub} (A : s.hub.Asks h) (waits : b.result = none) (ok : Bool) (data : List Byte) :
        (h.fetchDone retry.toNat ok data).bridge.fetches = [{ b with result := some (if ok
          then (0, slice (swapUnits (s.hub.apUnit b.ap) data) (addrLocal b.addr % 2 ^ 36 % s.hub.apUnit b.ap) b.len) else (stEcc, [])) }] := by
      rw [← named, fetchDone_holds (A.bridge ▸ one) waits, A.apUnit]
    refine ⟨fun waits => ⟨⟨_, rfl, rfl, ?_⟩, fun failed => ⟨_, rfl, rfl, ?_⟩⟩, fun done => ⟨_, rfl, rfl, ?_⟩⟩
    · have held := holds (.readFault s.hub r) waits (decide (r = .data)) data
      simp only [decide_eq_true_eq] at held
      exact held
    · rw [if_neg failed]
      exact holds ((Hub.Asks.aer s.hub _ _).trans (.readEnded _)) waits false []
    · exact named ▸ fetchExpiry_frees one done
  case flushes =>
    intro s f fs flushes
    exact congrArg (fun h => Host.Outcome.next (s.withHub h)) (flushDone1_answers flushes)
  case watchdog =>
    intro s l k one granule none_
    exact ⟨_, rfl, rfl, lockExpired_ends one granule none_⟩
  case queues =>
    intro s q
    have id : (BitVec.ofNat 16 q.val).toNat % 64 = q.val := by
      rw [BitVec.toNat_ofNat]
      omega
    refine congrArg (fun h => Host.Outcome.next (s.withHub h)) ?_
    dsimp only
    rw [id, ((Hub.Asks.aer s.hub _ _).trans (.readEnded _)).queue]
    cases (s.hub.queue q.val).reads with
    | nil => rfl
    | cons r rs => rfl
  case registers =>
    intro s path offset value west f other
    have writes {g : Hub} (pcie : path = .pcie) (eq : (if 0x10000 ≤ offset.toNat ∧ offset.toNat < 0x11000 ∧ offset.toNat % 64 = 4
        then s.hub.creditSync .pcie ((offset.toNat - 0x10000) / 64) (value.toNat.testBit 0) else s.hub.msixWrite offset.toNat value.toNat) = g) :
        exec (.registerWriteOther path offset value west f) s = .next (s.withHub g) := by
      subst pcie
      exact congrArg (fun h => Host.Outcome.next (s.withHub h)) eq
    refine ⟨fun outside => ?_, fun q pcie place sync => ?_, fun pcie low high aligned word => ?_⟩
    · by_cases pcie : path = .pcie
      · have places := outside.resolve_left (not_not.mpr pcie)
        refine writes pcie ?_
        rw [if_neg (by omega), msixWrite_outside (by omega)]
      · cases path with
        | pcie => exact absurd rfl pcie
        | ring => exact absurd rfl other
        | _ => rfl
    · have plain : value.toNat.testBit 0 = false := by simp [Nat.testBit_zero, sync]
      have queue : (offset.toNat - 0x10000) / 64 = q.val := by omega
      have at_ := q.isLt
      refine (writes pcie (if_pos (by omega))).trans ?_
      rw [queue, plain, creditSync_plain]
      split
      · rfl
      · rfl
    · exact ⟨_, writes pcie (if_neg (by omega)), rfl, msixReg_msixWrite low high (by omega) value.isLt⟩
end

section
/-!
The fences of the windows (R148 to R153): what beginning, finishing and reporting the fence of one window leaves of the others, and what the fences that
follow it, and FENCE_ALL, leave of it.
-/
namespace Sys2Proof.Machine

/-! ### What the fences of one window move -/

/-- The objects that a fence moves beside the count of its window: those of a notice, and the count of frames without a way. -/
abbrev fenceKey (k : Nat) : Prop := k = Obj.unreachableDrops ∨ k / 256 = 0x193F ∨ k / 256 = 0x1200 ∨ k = Obj.inlineCheckFailures

/-- From `h` to `g` the fence of window `w` alone has moved, and its part of FENCE_ALL. -/
structure Hub.Fences (w : Nat) (h g : Hub) : Prop where
  policy : g.ring.policy = h.ring.policy
  obj : ∀ k, ¬ fenceKey k → k ≠ Obj.faultedSinceFence w → g.obj k = h.obj k
  fence : ∀ v, v ≠ w → g.fence v = h.fence v
  running : g.bridge.allRunning = h.bridge.allRunning
  held : g.bridge.allHeld = h.bridge.allHeld
  left : ∀ v, v ≠ w → (v ∈ g.bridge.allLeft ↔ v ∈ h.bridge.allLeft)

/-- A frame that is sealed changes no policy. -/
theorem seal_policy (h : Hub) (f : RingFrame) : (h.seal f).2.ring.policy = h.ring.policy := by
  unfold Hub.seal Hub.takeSeq
  dsimp only
  split
  · rfl
  · split
    · rfl
    · rfl

theorem sendTxn_policy (h : Hub) (f : RingFrame) (label : Nat) : (h.sendTxn f label).ring.policy = h.ring.policy := by
  unfold Hub.sendTxn
  split
  · rfl
  · unfold Hub.sendRing
    split
    · split
      · rfl
      · exact seal_policy h _
    · split
      · rfl
      · exact seal_policy h _

theorem sendWindow_policy (h : Hub) (w : Nat) (f : RingFrame) (label : Nat) : (h.sendWindow w f label).ring.policy = h.ring.policy := by
  unfold Hub.sendWindow
  split
  · rfl
  · exact sendTxn_policy h f label

/-- Whether a node can be reached rests on the maps of the ring and on its policy (R107, R108, R141). -/
theorem canReach_congr {h g : Hub} (policy : g.ring.policy = h.ring.policy)
    (maps : ∀ k ∈ [Obj.nodeIdInUse, Obj.memberMap, Obj.ringOrder, Obj.breakMap], g.obj k = h.obj k) (node cls label : Nat) :
    g.canReach node cls label = h.canReach node cls label := by
  have self : g.self = h.self := congrArg Val.nat (maps _ (by simp))
  have order : g.order = h.order := congrArg (fun v => ((Val.octets v).map BitVec.toNat).takeWhile (· != 0)) (maps Obj.ringOrder (by simp))
  have members (id : Nat) : g.memberOf id = h.memberOf id := by
    unfold Hub.memberOf Hub.num
    rw [maps Obj.memberMap (by simp)]
  have reach (id : Nat) : g.reach id = h.reach id := by
    unfold Hub.reach Hub.num
    rw [order, self, maps Obj.breakMap (by simp)]
  have direction : g.direction node cls label = h.direction node cls label := by
    unfold Hub.direction Hub.directionBy
    rw [self, members, reach, policy]
  unfold Hub.canReach
  rw [self, direction]

namespace Hub.Fences
variable {w : Nat} {a h g : Hub}

theorem refl (h : Hub) : h.Fences w h := ⟨rfl, fun _ _ _ => rfl, fun _ _ => rfl, rfl, rfl, fun _ _ => Iff.rfl⟩

theorem trans (H : a.Fences w h) (G : h.Fences w g) : a.Fences w g :=
  ⟨G.policy.trans H.policy, fun k other count => (G.obj k other count).trans (H.obj k other count),
    fun v other => (G.fence v other).trans (H.fence v other), G.running.trans H.running, G.held.trans H.held,
    fun v other => (G.left v other).trans (H.left v other)⟩

theorem ite (c : Prop) [Decidable c] (H : a.Fences w h) (G : a.Fences w g) : a.Fences w (if c then h else g) := by
  split
  · exact H
  · exact G

theorem when (H : a.Fences w h) (c : Bool) (f : Hub → Hub) (hf : h.Fences w (f h)) : a.Fences w (h.when c f) := ite _ (trans H hf) H

theorem setFence (H : a.Fences w h) (x : Fence) : a.Fences w (h.setFence w x) :=
  trans H ⟨rfl, fun _ _ _ => rfl, fun v other => (Hub.fence_setFence h w v x).trans (if_neg other), rfl, rfl, fun _ _ => Iff.rfl⟩

theorem addToAll (H : a.Fences w h) (faulted : Nat) (inc ep : Bool) : a.Fences w (h.addToAll w faulted inc ep) := by
  refine trans H ⟨rfl, fun _ _ _ => rfl, fun _ _ => rfl, rfl, rfl, fun v other => ?_⟩
  show v ∈ h.bridge.allLeft.filter (· != w) ↔ _
  rw [List.mem_filter]
  simp [other]

theorem setFaulted (H : a.Fences w h) (n : Nat) : a.Fences w (h.setNum (Obj.faultedSinceFence w) n) :=
  trans H ⟨rfl, fun _ _ other => (Hub.obj_setObj h _ _ _).trans (if_neg other), fun _ _ => rfl, rfl, rfl, fun _ _ => Iff.rfl⟩

/-- Tags and the writes they name are none of a fence. -/
theorem tags (H : a.Fences w h) (nextTag : Nat) (wsent : SMap (Nat × Nat)) :
    a.Fences w { h with bridge := { h.bridge with nextTag := nextTag, wsent := wsent } } :=
  trans H ⟨rfl, fun _ _ _ => rfl, fun _ _ => rfl, rfl, rfl, fun _ _ => Iff.rfl⟩

theorem notice (H : a.Fences w h) (code fid : Nat) (args : List Nat) : a.Fences w (h.notice code fid args) := by
  refine trans H ⟨by rw [Hub.notice_ring], fun k other _ => ?_, fun v _ => ?_, by rw [Hub.notice_bridge], by rw [Hub.notice_bridge], fun v _ => by rw [Hub.notice_bridge]⟩
  · simp only [fenceKey, not_or] at other
    obtain ⟨-, queue, notices, checks⟩ := other
    exact (Quietly.notice (Quietly.refl 63 h) code fid args).2.2 k queue notices checks
  · unfold Hub.fence
    rw [Hub.notice_bridge]

theorem sendWindow (H : a.Fences w h) (v : Nat) (f : RingFrame) (label : Nat) : a.Fences w (h.sendWindow v f label) := by
  have bridge := sendWindow_bridge h v f label
  refine trans H ⟨sendWindow_policy h v f label, fun k other _ => (sendWindow_sends h v f label).obj k fun same => other (.inl same), fun u _ => ?_, ?_, ?_, fun u _ => ?_⟩
  · unfold Hub.fence
    rw [bridge]
  · rw [bridge]
  · rw [bridge]
  · rw [bridge]

theorem finishFence (H : a.Fences w h) (inc : Bool) : a.Fences w (h.finishFence w inc) := by
  unfold Hub.finishFence
  exact when (when (setFaulted (setFence (when H _ _ (tags (refl h) _ _)) _) _) _ _ (notice (refl _) _ _ _)) _ _ (addToAll (refl _) _ _ _)

theorem beginFence (H : a.Fences w h) : a.Fences w (h.beginFence w) := by
  unfold Hub.beginFence
  refine ite _ (finishFence (setFence H _) _) (ite _ (finishFence (setFence H _) _) (sendWindow (setFence ?_ _) _ _ _))
  exact tags (setFence H _) _ _

theorem fenceOrHold (H : a.Fences w h) : a.Fences w (h.fenceOrHold w) := ite _ (setFence H _) (beginFence H)

theorem reportRest (H : a.Fences w h) : a.Fences w (h.reportRest w) := setFaulted (setFence (addToAll H _ _ _) _) _

/-! ### What stands -/

theorem epoch (H : h.Fences w g) : g.num Obj.orderingEpoch = h.num Obj.orderingEpoch :=
  congrArg Val.nat (H.obj _ (by decide) (by unfold Obj.orderingEpoch Obj.faultedSinceFence; omega))

theorem faulted (H : h.Fences w g) {v : Nat} (window : v < 16) (other : v ≠ w) :
    g.num (Obj.faultedSinceFence v) = h.num (Obj.faultedSinceFence v) := by
  refine congrArg Val.nat (H.obj _ ?_ ?_)
  · simp only [fenceKey, Obj.faultedSinceFence, Obj.unreachableDrops, Obj.inlineCheckFailures]
    omega
  · unfold Obj.faultedSinceFence
    omega

/-- Where a window's writes go, and whether that can be reached, is none of the fences (R141). -/
theorem reach (H : h.Fences w g) {v : Nat} (window : v < 16) :
    g.canReach (addrNode (g.num (Obj.ringBase v))) (g.num (Obj.writeClass v)) (0x100 + v)
      = h.canReach (addrNode (h.num (Obj.ringBase v))) (h.num (Obj.writeClass v)) (0x100 + v) := by
  have base : g.num (Obj.ringBase v) = h.num (Obj.ringBase v) := by
    refine congrArg Val.nat (H.obj _ ?_ ?_)
    · simp only [fenceKey, Obj.ringBase, Obj.unreachableDrops, Obj.inlineCheckFailures]
      omega
    · unfold Obj.ringBase Obj.faultedSinceFence
      omega
  have cls : g.num (Obj.writeClass v) = h.num (Obj.writeClass v) := by
    refine congrArg Val.nat (H.obj _ ?_ ?_)
    · simp only [fenceKey, Obj.writeClass, Obj.unreachableDrops, Obj.inlineCheckFailures]
      omega
    · unfold Obj.writeClass Obj.faultedSinceFence
      omega
  rw [base, cls]
  refine canReach_congr H.policy (fun k map => H.obj k ?_ ?_) _ _ _
  · revert k
    decide
  · unfold Obj.faultedSinceFence
    simp only [List.mem_cons, List.not_mem_nil, or_false, Obj.nodeIdInUse, Obj.memberMap, Obj.ringOrder, Obj.breakMap] at map
    omega

end Hub.Fences

end Sys2Proof.Machine
end

section
/-!
The fences of the windows and FENCE_ALL (R148 to R150, R153): the reports they leave, and what follows a fence that has completed.
-/
namespace Sys2Proof.Machine

/-! ### One fence (R148, R149) -/

/-- The fence of a window as it completes (R149). -/
def Hub.finished (h : Hub) (w : Nat) (inc : Bool) : Fence :=
  { h.fence w with
    tag := 0, resent := false, forAll := false, epoch := h.num Obj.orderingEpoch, seq := ((h.fence w).seq + 1) % 256
    incomplete := inc, epochChanged := decide ((h.fence w).epoch ≠ h.num Obj.orderingEpoch), faulted := h.num (Obj.faultedSinceFence w) }

theorem fence_when {h : Hub} {f : Hub → Hub} {w : Nat} (c : Bool) (stands : (f h).fence w = h.fence w) : (h.when c f).fence w = h.fence w := by
  unfold Hub.when
  split
  · exact stands
  · rfl

theorem fence_notice (h : Hub) (code fid : Nat) (args : List Nat) (w : Nat) : (h.notice code fid args).fence w = h.fence w := by
  unfold Hub.fence
  rw [Hub.notice_bridge]

theorem fence_finishFence (h : Hub) (w : Nat) (inc : Bool) : (h.finishFence w inc).fence w = h.finished w inc := by
  have retired (k : Nat) (c : Bool) (p : Hub → Nat → Bool) : (h.when c (fun g => g.writesRetired w (p g))).num k = h.num k := num_when _ rfl
  unfold Hub.finishFence
  dsimp only
  refine (fence_when _ rfl).trans ((fence_when _ (fence_notice _ _ _ _ _)).trans ?_)
  refine (Hub.fence_setFence_self _ w _).trans ?_
  unfold Hub.finished
  rw [retired, retired]

theorem faultedKey {w : Nat} (window : w < 16) : ¬ fenceKey (Obj.faultedSinceFence w) := by
  simp only [fenceKey, Obj.faultedSinceFence, Obj.unreachableDrops, Obj.inlineCheckFailures]
  omega

theorem num_notice_apart (h : Hub) (code fid : Nat) (args : List Nat) {k : Nat} (apart : ¬ fenceKey k) : (h.notice code fid args).num k = h.num k := by
  simp only [fenceKey, not_or] at apart
  obtain ⟨-, queue, notices, checks⟩ := apart
  exact Hub.num_notice h code fid args k queue notices checks

theorem faulted_finishFence (h : Hub) {w : Nat} (window : w < 16) (inc : Bool) : (h.finishFence w inc).num (Obj.faultedSinceFence w) = 0 := by
  unfold Hub.finishFence
  dsimp only
  exact (num_when _ rfl).trans ((num_when _ (num_notice_apart _ _ _ _ (faultedKey window))).trans (Hub.num_setNum_self _ _ _))

/-- The hub as the fence of a window begins: what it writes from here on is for the next one (R148). -/
def Hub.begun (h : Hub) (w : Nat) : Hub := h.setFence w { h.fence w with forAll := h.bridge.allLeft.contains w, wrote := false }

/-- Whether the target of a window can be reached (R141). -/
def Hub.windowReach (h : Hub) (w : Nat) : Bool := h.canReach (addrNode (h.num (Obj.ringBase w))) (h.num (Obj.writeClass w)) (0x100 + w)

theorem beginFence_unwritten {h : Hub} {w : Nat} (none_ : (h.fence w).wrote = false) : h.beginFence w = (h.begun w).finishFence w false := by
  unfold Hub.beginFence
  dsimp only
  rw [none_]
  rfl

theorem beginFence_unreachable {h : Hub} {w : Nat} (wrote : (h.fence w).wrote = true) (away : h.windowReach w = false) :
    h.beginFence w = (h.begun w).finishFence w true := by
  unfold Hub.beginFence
  dsimp only
  rw [wrote, if_neg (by decide)]
  exact if_pos (congrArg (!·) away)

/-- The hub as the marker of a window's fence leaves. -/
def Hub.marked (h : Hub) (w : Nat) : Hub :=
  let g := (h.begun w).markerTag w (h.num (Obj.ringBase w))
  (g.2.setFence w { g.2.fence w with tag := g.1 + 1, upto := SMap.get (fun _ => 0) g.2.bridge.wtags w }).sendWindow w
    (txn (addrNode (h.num (Obj.ringBase w))) tWrn (h.num (Obj.writeClass w)) (h.num (Obj.ringBase w)) w 0 g.1 []) (0x100 + w)

theorem beginFence_marked {h : Hub} {w : Nat} (wrote : (h.fence w).wrote = true) (reach : h.windowReach w = true) : h.beginFence w = h.marked w := by
  unfold Hub.beginFence
  dsimp only
  rw [wrote, if_neg (by decide)]
  refine (if_neg ?_).trans rfl
  exact fun away => Bool.false_ne_true ((congrArg (!·) reach).symm.trans away)

theorem fence_sendWindow (h : Hub) (v : Nat) (f : RingFrame) (label w : Nat) : (h.sendWindow v f label).fence w = h.fence w := by
  unfold Hub.fence
  rw [sendWindow_bridge]

theorem fence_marked (h : Hub) (w : Nat) :
    ((h.marked w).fence w).tag = (h.markerTag w (h.num (Obj.ringBase w))).1 + 1 ∧ ((h.marked w).fence w).wrote = false := by
  unfold Hub.marked
  dsimp only
  rw [fence_sendWindow, Hub.fence_setFence_self]
  exact ⟨rfl, congrArg Fence.wrote (Hub.fence_setFence_self h w _)⟩

/-- A marker that leaves ends no part of FENCE_ALL. -/
theorem marked_all (h : Hub) (w : Nat) :
    (h.marked w).bridge.allRunning = h.bridge.allRunning ∧ (h.marked w).bridge.allLeft = h.bridge.allLeft := by
  unfold Hub.marked
  dsimp only
  rw [sendWindow_bridge]
  exact ⟨rfl, rfl⟩

/-! ### Where a fence rests, or runs on -/

/-- The fence of a window stands as it completed, and its count of faulted writes is empty. -/
structure Hub.Rests (w : Nat) (x : Fence) (h : Hub) : Prop where
  fence : h.fence w = x
  faulted : h.num (Obj.faultedSinceFence w) = 0
  epoch : h.num Obj.orderingEpoch = x.epoch

theorem finishFence_rests (h : Hub) {w : Nat} (window : w < 16) (inc : Bool) : (h.finishFence w inc).Rests w (h.finished w inc) :=
  ⟨fence_finishFence h w inc, faulted_finishFence h window inc, (Hub.Fences.finishFence (.refl h) inc).epoch⟩

/-- The fence of a window runs, and is held for once more where it was. -/
structure Hub.Runs (w tag : Nat) (wrote held : Bool) (h : Hub) : Prop where
  tag : (h.fence w).tag = tag
  wrote : (h.fence w).wrote = wrote
  held : held = true → (h.fence w).held = true

/-- What is said of the fence of a window, and stands whatever FENCE_ALL reports of it. -/
structure FencePart (P : Hub → Prop) : Prop where
  reports : ∀ h v, P h → P (h.reportRest v)
  same : ∀ h g : Hub, g.bridge.fences = h.bridge.fences → (∀ k, ¬ fenceKey k → g.num k = h.num k) → P h → P g

theorem fence_reportRest (h : Hub) (w : Nat) : (h.reportRest w).fence w = { h.fence w with epoch := h.num Obj.orderingEpoch } :=
  Hub.fence_setFence_self _ w _

theorem Hub.Rests.apart {w v : Nat} {x : Fence} {h g : Hub} (R : h.Rests w x) (window : w < 16) (other : w ≠ v) (F : h.Fences v g) : g.Rests w x :=
  ⟨(F.fence w other).trans R.fence, (F.faulted window other).trans R.faulted, F.epoch.trans R.epoch⟩

theorem Hub.Rests.part {w : Nat} (x : Fence) (window : w < 16) : FencePart (Hub.Rests w x) where
  reports := by
    intro h v R
    by_cases other : w = v
    · subst other
      refine ⟨?_, Hub.num_setNum_self _ _ _, (Hub.Fences.reportRest (.refl h)).epoch.trans R.epoch⟩
      rw [fence_reportRest, R.fence, R.epoch]
    · exact R.apart window other (.reportRest (.refl h))
  same := by
    intro h g fences num R
    refine ⟨?_, (num _ (faultedKey window)).trans R.faulted, (num _ (by decide)).trans R.epoch⟩
    unfold Hub.fence
    rw [fences]
    exact R.fence

theorem Hub.Runs.apart {w v tag : Nat} {wrote held : Bool} {h g : Hub} (R : h.Runs w tag wrote held) (other : w ≠ v) (F : h.Fences v g) :
    g.Runs w tag wrote held := by
  have fence := F.fence w other
  exact ⟨fence ▸ R.tag, fence ▸ R.wrote, fence ▸ R.held⟩

theorem Hub.Runs.part (w tag : Nat) (wrote held : Bool) : FencePart (Hub.Runs w tag wrote held) where
  reports := by
    intro h v R
    by_cases other : w = v
    · subst other
      have fence := fence_reportRest h w
      exact ⟨fence ▸ R.tag, fence ▸ R.wrote, fence ▸ R.held⟩
    · exact R.apart other (.reportRest (.refl h))
  same := by
    intro h g fences _ R
    have fence : g.fence w = h.fence w := by
      unfold Hub.fence
      rw [fences]
    exact ⟨fence ▸ R.tag, fence ▸ R.wrote, fence ▸ R.held⟩

/-- The hub as a request is held behind the running fence of its window (R150). -/
def Hub.heldBehind (h : Hub) (w : Nat) : Hub := h.setFence w { h.fence w with held := true }

theorem fence_heldBehind (h : Hub) (w : Nat) :
    ((h.heldBehind w).fence w).tag = (h.fence w).tag ∧ ((h.heldBehind w).fence w).wrote = (h.fence w).wrote ∧ ((h.heldBehind w).fence w).held = true := by
  unfold Hub.heldBehind
  rw [Hub.fence_setFence_self]
  exact ⟨rfl, rfl, rfl⟩

theorem fenceOrHold_held {h : Hub} {w : Nat} (runs : (h.fence w).tag ≠ 0) : h.fenceOrHold w = h.heldBehind w := if_pos runs

/-- A running fence is not begun anew (R150). -/
theorem fenceOrHold_runs {h : Hub} {w tag : Nat} {wrote held : Bool} (R : h.Runs w tag wrote held) (runs : tag ≠ 0) (v : Nat) :
    (h.fenceOrHold v).Runs w tag wrote held := by
  by_cases other : w = v
  · subst other
    obtain ⟨same, unwritten, waits⟩ := fence_heldBehind h w
    rw [fenceOrHold_held (R.tag ▸ runs)]
    exact ⟨same.trans R.tag, unwritten.trans R.wrote, fun _ => waits⟩
  · exact R.apart other (.fenceOrHold (.refl h))

/-! ### FENCE_ALL (R148 to R150) -/

/-- FENCE_ALL as it completes, before its notice. -/
def Hub.allDone (h : Hub) : Hub :=
  let g := h.bridge.allRest.foldl Hub.reportRest h
  { g with bridge := { g.bridge with
    allRunning := false, allRest := [], allSeq := (g.bridge.allSeq + 1) % 256, allFaulted := g.bridge.allAcc, allInc := g.bridge.allAccInc
    allEpoch := g.bridge.allAccEpoch } }

theorem finishAll_eq (h : Hub) : h.finishAll = if h.bridge.allRunning && h.bridge.allLeft.isEmpty
    then h.allDone.when (h.allDone.flag Obj.fenceNotice) (fun h => h.notice N.fenceDone fidBridge [0xFF, h.fenceAllRep]) else h := rfl

theorem doneNotice_bridge (h : Hub) (c : Bool) : (h.when c (fun h => h.notice N.fenceDone fidBridge [0xFF, h.fenceAllRep])).bridge = h.bridge := by
  unfold Hub.when
  split
  · exact Hub.notice_bridge _ _ _ _
  · rfl

theorem finishAll_keeps {P : Hub → Prop} (K : FencePart P) {h : Hub} (H : P h) : P h.finishAll := by
  rw [finishAll_eq]
  split
  · refine K.same h.allDone _ (by rw [doneNotice_bridge]) (fun k apart => num_when _ (num_notice_apart _ _ _ _ apart)) ?_
    exact K.same (h.bridge.allRest.foldl Hub.reportRest h) _ rfl (fun _ _ => rfl) (List.foldlRecOn _ _ H fun g G v _ => K.reports g v G)
  · exact H

theorem startAll_keeps {P : Hub → Prop} (K : FencePart P) {h : Hub} (H : P h)
    (due : ∀ v, ((h.fence v).wrote || (h.fence v).tag != 0) = true → ∀ g, P g → P (g.fenceOrHold v)) : P h.startAll := by
  unfold Hub.startAll
  refine finishAll_keeps K (List.foldlRecOn _ _ (K.same h _ rfl (fun _ _ => rfl) H) fun g G v mem => due v ?_ g G)
  exact (List.mem_filter.mp mem).2

theorem settleAll_keeps {P : Hub → Prop} (K : FencePart P) {h : Hub} (H : P h)
    (due : h.bridge.allHeld = true → ∀ v, ((h.finishAll.fence v).wrote || (h.finishAll.fence v).tag != 0) = true → ∀ g, P g → P (g.fenceOrHold v)) :
    P h.settleAll := by
  have held : h.finishAll.bridge.allHeld = h.bridge.allHeld := by
    have rest : (h.bridge.allRest.foldl Hub.reportRest h).bridge.allHeld = h.bridge.allHeld :=
      List.foldlRecOn (motive := fun g : Hub => g.bridge.allHeld = h.bridge.allHeld) _ _ rfl fun g same v _ => same
    rw [finishAll_eq]
    split
    · rw [doneNotice_bridge]
      exact rest
    · rfl
  unfold Hub.settleAll
  dsimp only
  split
  next again =>
    refine startAll_keeps K (finishAll_keeps K H) (due ?_)
    exact held ▸ (Bool.and_eq_true_iff.mp again).2
  · exact finishAll_keeps K H

/-- A fence that rests stays so, where it wrote nothing since or no FENCE_ALL is held. -/
theorem settleAll_rests {h : Hub} {w : Nat} {x : Fence} (window : w < 16) (R : h.Rests w x)
    (quiet : (x.wrote = false ∧ x.tag = 0) ∨ h.bridge.allHeld = false) : h.settleAll.Rests w x := by
  refine settleAll_keeps (Hub.Rests.part x window) R fun held v due g G => ?_
  have other : w ≠ v := by
    rintro rfl
    obtain ⟨unwritten, idle⟩ := quiet.resolve_right (by simp [held])
    rw [(finishAll_keeps (Hub.Rests.part x window) R).fence, unwritten, idle] at due
    exact absurd due (by decide)
  exact G.apart window other (.fenceOrHold (.refl g))

theorem settleAll_runs {h : Hub} {w tag : Nat} {wrote held : Bool} (R : h.Runs w tag wrote held) (runs : tag ≠ 0) : h.settleAll.Runs w tag wrote held :=
  settleAll_keeps (Hub.Runs.part w tag wrote held) R fun _ v _ _ G => fenceOrHold_runs G runs v

/-! ### A request for a fence (R148, R150) -/

theorem fenceOrHold_begins {h : Hub} {w : Nat} (idle : (h.fence w).tag = 0) : h.fenceOrHold w = h.beginFence w := if_neg (not_not.mpr idle)

/-- A request for a fence that runs is held (R150). -/
theorem requestFence_held {h : Hub} {w : Nat} (runs : (h.fence w).tag ≠ 0) :
    ((h.requestFence w).fence w).held = true ∧ ((h.requestFence w).fence w).tag = (h.fence w).tag := by
  obtain ⟨same, unwritten, waits⟩ := fence_heldBehind h w
  have stands : (h.fenceOrHold w).Runs w (h.fence w).tag (h.fence w).wrote true := by
    rw [fenceOrHold_held runs]
    exact ⟨same, unwritten, fun _ => waits⟩
  have settled := settleAll_runs stands runs
  exact ⟨settled.held rfl, settled.tag⟩

theorem finished_begun (h : Hub) (w : Nat) (inc : Bool) : (h.begun w).finished w inc = { h.finished w inc with wrote := false } := by
  unfold Hub.finished Hub.begun
  rw [Hub.fence_setFence_self]
  rfl

/-- A fence that completes as it is requested (R148 steps 1 and 5). -/
theorem requestFence_completes {h : Hub} {w : Nat} {inc : Bool} (window : w < 16) (idle : (h.fence w).tag = 0)
    (ends : h.beginFence w = (h.begun w).finishFence w inc) : (h.requestFence w).Rests w { h.finished w inc with wrote := false } := by
  have rests := finishFence_rests (h.begun w) window inc
  rw [finished_begun] at rests
  unfold Hub.requestFence
  rw [fenceOrHold_begins idle, ends]
  exact settleAll_rests window rests (.inl ⟨rfl, rfl⟩)

/-- A fence whose marker leaves (R148 step 1). -/
theorem requestFence_marks {h : Hub} {w : Nat} (idle : (h.fence w).tag = 0) (wrote : (h.fence w).wrote = true) (reach : h.windowReach w = true) :
    ((h.requestFence w).fence w).tag = (h.markerTag w (h.num (Obj.ringBase w))).1 + 1 ∧ ((h.requestFence w).fence w).wrote = false := by
  obtain ⟨tag, none_⟩ := fence_marked h w
  have stands : (h.marked w).Runs w ((h.markerTag w (h.num (Obj.ringBase w))).1 + 1) false false := ⟨tag, none_, fun never => absurd never (by decide)⟩
  unfold Hub.requestFence
  rw [fenceOrHold_begins idle, beginFence_marked wrote reach]
  have settled := settleAll_runs stands (Nat.succ_ne_zero _)
  exact ⟨settled.tag, settled.wrote⟩

/-! ### A request for FENCE_ALL (R148 to R150) -/

/-- FENCE_ALL runs, and a window has not completed its part. -/
structure Hub.Counted (w : Nat) (h : Hub) : Prop where
  running : h.bridge.allRunning = true
  left : w ∈ h.bridge.allLeft

/-- A window that FENCE_ALL must wait for: its fence runs, or has a marker to send. -/
def Hub.Waited (w : Nat) (h : Hub) : Prop := (h.fence w).tag ≠ 0 ∨ (h.fence w).wrote = true ∧ h.windowReach w = true

theorem Hub.Counted.apart {w v : Nat} {h g : Hub} (C : h.Counted w) (other : w ≠ v) (F : h.Fences v g) : g.Counted w :=
  ⟨F.running.trans C.running, (F.left w other).mpr C.left⟩

theorem Hub.Waited.apart {w v : Nat} {h g : Hub} (W : h.Waited w) (window : w < 16) (other : w ≠ v) (F : h.Fences v g) : g.Waited w := by
  unfold Hub.Waited Hub.windowReach at *
  rw [F.fence w other, F.reach window]
  exact W

/-- Such a window's fence runs, and is not done, once it is begun. -/
theorem fenceOrHold_waited {h : Hub} {w : Nat} (C : h.Counted w) (W : h.Waited w) :
    (h.fenceOrHold w).Counted w ∧ ((h.fenceOrHold w).fence w).tag ≠ 0 := by
  by_cases runs : (h.fence w).tag = 0
  · obtain ⟨wrote, reach⟩ := W.resolve_left (not_not.mpr runs)
    obtain ⟨running, left⟩ := marked_all h w
    rw [fenceOrHold_begins runs, beginFence_marked wrote reach]
    exact ⟨⟨running.trans C.running, left ▸ C.left⟩, (fence_marked h w).1 ▸ Nat.succ_ne_zero _⟩
  · rw [fenceOrHold_held runs]
    exact ⟨⟨C.running, C.left⟩, (fence_heldBehind h w).1 ▸ runs⟩

/-- The windows that FENCE_ALL fences (R148). -/
def Hub.dueWindows (h : Hub) : List Nat := (List.range 16).filter fun w => (h.fence w).wrote || (h.fence w).tag != 0

/-- The hub as FENCE_ALL starts, before its fences. -/
def Hub.allStarts (h : Hub) : Hub :=
  { h with bridge := { h.bridge with
    allRunning := true, allHeld := false, allLeft := h.dueWindows, allAcc := 0, allAccInc := false, allAccEpoch := false
    allRest := (List.range 16).filter fun w => !((h.fence w).wrote || (h.fence w).tag != 0) } }

theorem startAll_eq (h : Hub) : h.startAll = (h.dueWindows.foldl Hub.fenceOrHold h.allStarts).finishAll := rfl

/-- FENCE_ALL waits for such a window (R148). -/
theorem startAll_waits {h : Hub} {w : Nat} (window : w < 16) (W : h.Waited w) : h.startAll.Counted w ∧ (h.startAll.fence w).tag ≠ 0 := by
  have step (g : Hub) (v : Nat) (G : g.Counted w ∧ g.Waited w) : (g.fenceOrHold v).Counted w ∧ (g.fenceOrHold v).Waited w := by
    by_cases other : w = v
    · subst other
      exact (fenceOrHold_waited G.1 G.2).imp_right .inl
    · exact ⟨G.1.apart other (.fenceOrHold (.refl g)), G.2.apart window other (.fenceOrHold (.refl g))⟩
  have later (g : Hub) (v : Nat) (G : g.Counted w ∧ (g.fence w).tag ≠ 0) : (g.fenceOrHold v).Counted w ∧ ((g.fenceOrHold v).fence w).tag ≠ 0 := by
    by_cases other : w = v
    · subst other
      exact fenceOrHold_waited G.1 (.inl G.2)
    · exact ⟨G.1.apart other (.fenceOrHold (.refl g)), Hub.Fences.fence (.fenceOrHold (.refl g)) w other ▸ G.2⟩
  have due : w ∈ h.dueWindows := by
    refine List.mem_filter.mpr ⟨List.mem_range.mpr window, ?_⟩
    rcases W with runs | ⟨wrote, -⟩
    · simp [runs]
    · simp [wrote]
  have starts : h.allStarts.Counted w ∧ h.allStarts.Waited w := ⟨⟨rfl, due⟩, W⟩
  obtain ⟨before, after, split_⟩ := List.append_of_mem due
  rw [startAll_eq, split_, List.foldl_append, List.foldl_cons]
  obtain ⟨C, W⟩ := List.foldlRecOn (motive := fun g : Hub => g.Counted w ∧ g.Waited w) before _ starts fun g G v _ => step g v G
  obtain ⟨C, runs⟩ := List.foldlRecOn (motive := fun g : Hub => g.Counted w ∧ (g.fence w).tag ≠ 0) after _ (fenceOrHold_waited C W)
    fun g G v _ => later g v G
  rw [finishAll_eq, if_neg]
  · exact ⟨C, runs⟩
  · intro done
    have none_ := List.isEmpty_iff.mp (Bool.and_eq_true_iff.mp done).2
    exact List.not_mem_nil (none_ ▸ C.left)

/-- What FENCE_ALL reports of the windows that it does not fence: their counts, summed (R149). -/
theorem reportRest_sums (l : List Nat) (windows : ∀ v ∈ l, v < 16) (once : l.Nodup) (h : Hub) :
    (l.foldl Hub.reportRest h).bridge.allAcc = l.foldl (fun n v => min 0xFFFF (n + h.num (Obj.faultedSinceFence v))) h.bridge.allAcc := by
  induction l generalizing h with
  | nil => rfl
  | cons v l ih =>
    obtain ⟨fresh, once⟩ := List.nodup_cons.mp once
    rw [List.foldl_cons, ih (fun u mem => windows u (List.mem_cons_of_mem _ mem)) once, List.foldl_cons]
    refine List.foldl_ext _ _ _ fun n u mem => ?_
    have other : u ≠ v := fun same => fresh (same ▸ mem)
    rw [Hub.Fences.faulted (.reportRest (.refl h)) (windows u (List.mem_cons_of_mem _ mem)) other]

/-- FENCE_ALL with nothing to fence completes at once, with the sum of all (R149). -/
theorem startAll_rest {h : Hub} (quiet : (List.range 16).all (fun v => !(h.fence v).wrote && (h.fence v).tag == 0) = true) :
    h.startAll.bridge.allRunning = false ∧ h.startAll.bridge.allSeq = (h.bridge.allSeq + 1) % 256
    ∧ h.startAll.bridge.allFaulted = (List.range 16).foldl (fun n v => min 0xFFFF (n + h.num (Obj.faultedSinceFence v))) 0 := by
  have idle (v : Nat) (mem : v ∈ List.range 16) : ((h.fence v).wrote || (h.fence v).tag != 0) = false := by
    have both := List.all_eq_true.mp quiet v mem
    simp only [Bool.and_eq_true, Bool.not_eq_true', beq_iff_eq] at both
    simp [both.1, both.2]
  have due : h.dueWindows = [] := List.filter_eq_nil_iff.mpr fun v mem => by simp [idle v mem]
  have rest : h.allStarts.bridge.allRest = List.range 16 := List.filter_eq_self.mpr fun v mem => by rw [idle v mem]; rfl
  have seq : (h.allStarts.bridge.allRest.foldl Hub.reportRest h.allStarts).bridge.allSeq = h.bridge.allSeq :=
    List.foldlRecOn (motive := fun g : Hub => g.bridge.allSeq = h.bridge.allSeq) _ _ rfl fun g same v _ => same
  have sum := reportRest_sums (List.range 16) (fun v mem => List.mem_range.mp mem) List.nodup_range h.allStarts
  have left : (h.allStarts.bridge.allRunning && h.allStarts.bridge.allLeft.isEmpty) = true := List.isEmpty_iff.mpr due
  rw [startAll_eq, due, List.foldl_nil, finishAll_eq, if_pos left, doneNotice_bridge]
  refine ⟨rfl, congrArg (fun n => (n + 1) % 256) seq, ?_⟩
  show (h.allStarts.bridge.allRest.foldl Hub.reportRest h.allStarts).bridge.allAcc = _
  rw [rest, sum]
  rfl

/-! ### What answers a marker (R148, R150) -/

/-- A fence that completes while none of its window and no FENCE_ALL is held (R148, R150). -/
theorem finishFence_settles {h : Hub} {w : Nat} (window : w < 16) (free : (h.fence w).held = false) (all : h.bridge.allHeld = false) (inc : Bool) :
    ((h.finishFence w inc).afterFence w).Rests w (h.finished w inc) := by
  have rests := finishFence_rests h window inc
  have free' : ¬ ((h.finishFence w inc).fence w).held = true := by
    rw [rests.fence]
    exact Bool.eq_false_iff.mp free
  unfold Hub.afterFence
  rw [if_neg free']
  exact settleAll_rests window rests (.inr ((Hub.Fences.finishFence (.refl h) inc).held.trans all))

/-- fence-timeout passes for a window (R148 step 4). -/
theorem fenceTimeout_ends {h : Hub} {w : Nat} (window : w < 16) (runs : (h.fence w).tag ≠ 0) (free : (h.fence w).held = false)
    (all : h.bridge.allHeld = false) :
    ((h.fence w).resent = false → (h.fenceTimeout w).fence w = { h.fence w with resent := true })
    ∧ ((h.fence w).resent = true → (h.fenceTimeout w).Rests w (h.finished w true)) := by
  unfold Hub.fenceTimeout
  dsimp only
  rw [if_neg runs]
  refine ⟨fun first => ?_, fun second => ?_⟩
  · rw [first, if_neg (by decide), fence_sendWindow]
    exact Hub.fence_setFence_self h w _
  · rw [second, if_pos rfl]
    exact finishFence_settles window free all true

end Sys2Proof.Machine
end

section
/-!
The FENCE of a BULK descriptor (R151, R223): a queue without markers and without a descriptor that waits for them stays so, whatever descriptors complete and
whatever notices are written, into queue 63 itself too.
-/
namespace Sys2Proof.Machine

/-- No marker of a queue is out, and none of its descriptors waits for one to be sent. -/
def Hub.Unfenced (q : Nat) (h : Hub) : Prop := (h.queue q).bulkMarkers = [] ∧ ∀ d ∈ (h.queue q).descs, d.fence ≠ 1

namespace Hub.Unfenced
variable {q : Nat} {h g : Hub}

/-- An update of no queue. -/
theorem same (H : h.Unfenced q) (queues : g.host.queues = h.host.queues) : g.Unfenced q := by
  unfold Hub.Unfenced Hub.queue at *
  rw [queues]
  exact H

/-- An update of a queue that adds no marker and no descriptor. -/
theorem setQueue (H : h.Unfenced q) (r : Nat) (x : QState) (markers : x.bulkMarkers = (h.queue r).bulkMarkers ∨ x.bulkMarkers = [])
    (descs : x.descs ⊆ (h.queue r).descs) : (h.setQueue r x).Unfenced q := by
  unfold Hub.Unfenced
  rw [Hub.queue_setQueue]
  split
  next other =>
    subst other
    exact ⟨markers.elim (fun kept => kept.trans H.1) id, fun d mem => H.2 d (descs mem)⟩
  · exact H

/-- An update of a queue of neither. -/
theorem keepQueue (H : h.Unfenced q) (r : Nat) (x : QState)
    (kept : x.bulkMarkers = (h.queue r).bulkMarkers ∧ x.descs = (h.queue r).descs) : (h.setQueue r x).Unfenced q :=
  H.setQueue r x (.inl kept.1) (kept.2 ▸ List.Subset.refl _)

theorem ite (c : Prop) [Decidable c] (H : h.Unfenced q) (G : g.Unfenced q) : (if c then h else g).Unfenced q := by
  split
  · exact H
  · exact G

theorem when (H : h.Unfenced q) (c : Bool) (f : Hub → Hub) (hf : ∀ {h}, Hub.Unfenced q h → Hub.Unfenced q (f h)) : (h.when c f).Unfenced q := ite _ (hf H) H

theorem setNum (H : h.Unfenced q) (k n : Nat) : (h.setNum k n).Unfenced q := H
theorem countN (H : h.Unfenced q) (k n : Nat) : (h.countN k n).Unfenced q := H
theorem count (H : h.Unfenced q) (k : Nat) : (h.count k).Unfenced q := H

/-! ### Completions -/

theorem emitHost (H : h.Unfenced q) (o : Out) : (h.emitHost o).Unfenced q := ite _ H (H.same (by rfl))

theorem vector (H : h.Unfenced q) (v : Nat) : (h.vector v).Unfenced q := ite _ (ite _ H (H.same (by rfl))) (ite _ H (H.same (by rfl)))

theorem queueEvent (H : h.Unfenced q) (r : Nat) (now_ : Bool) : (h.queueEvent r now_).Unfenced q :=
  ite _ H (ite _ (H.vector r) (ite _ ((H.keepQueue r _ (by exact ⟨rfl, rfl⟩)).vector r) (H.keepQueue r _ (by exact ⟨rfl, rfl⟩))))

theorem completeD2H (H : h.Unfenced q) (r idx : Nat) (sop eop err : Bool) (stamp : Option Nat) (status bytes inPort route : Nat) :
    (h.completeD2H r idx sop eop err stamp status bytes inPort route).Unfenced q := by
  unfold Hub.completeD2H
  exact ((H.emitHost _).keepQueue r _ (by exact ⟨rfl, rfl⟩)).count _

theorem badGrants (r n : Nat) : ∀ {h}, Hub.Unfenced q h → (h.badGrants r n).Unfenced q := by
  induction n with
  | zero => exact id
  | succ n ih =>
    intro h H
    unfold Hub.badGrants
    split
    · exact ih (completeD2H (H.keepQueue r _ (by exact ⟨rfl, rfl⟩)) _ _ _ _ _ _ _ _ _ _)
    · exact H

theorem fillBuffers (r hold n : Nat) : ∀ {h}, Hub.Unfenced q h → (h.fillBuffers r hold n).Unfenced q := by
  induction n with
  | zero => exact id
  | succ n ih =>
    intro h H
    unfold Hub.fillBuffers
    have granted := badGrants r (h.queue r).bufs.length H
    revert granted
    generalize h.badGrants r _ = g
    intro G
    dsimp only
    split
    · refine ite _ G (ite _ ?_ (ite _ ?_ G))
      · exact ih (keepQueue (completeD2H (emitHost G _) _ _ _ _ _ _ _ _ _ _) _ _ (by exact ⟨rfl, rfl⟩))
      · exact queueEvent (keepQueue (completeD2H (emitHost G _) _ _ _ _ _ _ _ _ _ _) _ _ (by exact ⟨rfl, rfl⟩)) _ _
    · exact G

/-! ### Packets -/

theorem pushItem (H : h.Unfenced q) (r : Nat) (i : QItem) : (h.pushItem r i).Unfenced q := (H.keepQueue r _ (by exact ⟨rfl, rfl⟩)).count _

theorem placeItems (r hold n : Nat) : ∀ {h}, Hub.Unfenced q h → (h.placeItems r hold n).Unfenced q := by
  induction n with
  | zero => exact id
  | succ n ih =>
    intro h H
    unfold Hub.placeItems
    dsimp only
    split
    · exact H
    · refine ite _ ?_ (ite _ ?_ H)
      · exact ih (keepQueue (pushItem H _ _) _ _ (by exact ⟨rfl, rfl⟩))
      · exact keepQueue (pushItem H _ _) _ _ (by exact ⟨rfl, rfl⟩)

theorem applyRwb (H : h.Unfenced q) (keys : List Nat) : (h.applyRwb keys).Unfenced q := by
  unfold Hub.applyRwb
  exact List.foldlRecOn _ _ (H.same (by rfl)) fun _ G _ _ => G

theorem d2hData (H : h.Unfenced q) (r : Nat) (data : List Byte) (ended err more pre : Bool) : (h.d2hData r data ended err more pre).Unfenced q := by
  unfold Hub.d2hData
  split
  · exact H
  · dsimp only
    generalize (if (ended && !err) = true then _ else _ : Bool × List Byte) = p
    have counted := when (when H p.1 (fun h => h.count Obj.inlineCheckFailures) (count · _)) (ended && (err || p.1))
      (fun h => h.count (Obj.qErrTerminated r)) (count · _)
    revert counted
    generalize Hub.when (Hub.when h _ _) _ _ = g
    intro G
    refine ite _ (keepQueue G _ _ (by exact ⟨rfl, rfl⟩)) (ite _ ?_ (fillBuffers _ _ _ (keepQueue G _ _ (by exact ⟨rfl, rfl⟩))))
    exact ite _ (when (keepQueue (placeItems _ _ _ (keepQueue G _ _ (by exact ⟨rfl, rfl⟩))) _ _ (by exact ⟨rfl, rfl⟩)) _ _ (queueEvent · _ _))
      (placeItems _ _ _ (keepQueue G _ _ (by exact ⟨rfl, rfl⟩)))

theorem putPacket (H : h.Unfenced q) (r : Nat) (data : List Byte) (err : Bool) (stamp : Option Nat) (inPort route : Nat) :
    (h.putPacket r data err stamp inPort route).Unfenced q := by
  unfold Hub.putPacket Hub.d2hStart
  exact d2hData (keepQueue (applyRwb H _) _ _ (by exact ⟨rfl, rfl⟩)) _ _ _ _ _ _

theorem crossings (H : h.Unfenced q) (r old : Nat) : (h.crossings r old).1.Unfenced q := by
  unfold Hub.crossings
  dsimp only
  refine ite _ (keepQueue (setNum (setNum (ite _ ?_ ?_) _ _) _ _) r _ (by constructor <;> dsimp only [Hub.queue_setNum])) (ite _ ?_ ?_)
  · exact keepQueue (setNum (setNum (setNum H _ _) _ _) _ _) r _ (by constructor <;> dsimp only [Hub.queue_setNum])
  · exact setNum H _ _
  · exact keepQueue (setNum (setNum (setNum H _ _) _ _) _ _) r _ (by constructor <;> dsimp only [Hub.queue_setNum])
  · exact setNum H _ _

/-! ### Notices (R236 to R238) -/

theorem pend (H : h.Unfenced q) (cls : Nat) : (h.pend cls).Unfenced q := ite _ H (vector (H.same (by rfl)) _)

theorem recordCore (H : h.Unfenced q) (n : Notice) (seq : Nat) : (h.recordCore n seq).1.Unfenced q := by
  have put := putPacket H 63 (noticeRecord n seq (h.num Obj.nodeIdInUse)) false none 16 0
  unfold Hub.recordCore
  dsimp only
  revert put
  generalize Hub.putPacket h 63 _ false none 16 0 = g
  intro G
  exact pend (crossings (same G (by rfl)) _ _) _

theorem deliverBy (H : h.Unfenced q) (w : Hub → Hub) (n : Notice) (seq : Nat) (hw : ∀ {h}, Hub.Unfenced q h → Hub.Unfenced q (w h)) :
    (h.deliverBy w n seq).Unfenced q := ite _ (hw H) (ite _ (H.same (by rfl)) (pend (H.same (by rfl)) _))

theorem ownNotice (H : h.Unfenced q) (code : Nat) (args : List Nat) : (h.ownNotice code args).Unfenced q :=
  ite _ H (deliverBy (H.same (by rfl)) _ _ _ fun G => recordCore G _ _)

theorem creditWordNow (H : h.Unfenced q) (r : Nat) : (h.creditWordNow r).Unfenced q := by
  unfold Hub.creditWordNow
  exact ite _ (queueEvent (keepQueue (emitHost H _) r _ (by exact ⟨rfl, rfl⟩)) _ _) H

theorem ptrClear (H : h.Unfenced q) (r : Nat) : (h.ptrClear r).Unfenced q := by
  have dropped : (if h.isD2H r then h else (h.dropWaiting r).2).Unfenced q := ite _ H (H.same (by rfl))
  unfold Hub.ptrClear
  exact creditWordNow (count (countN (setQueue dropped r _ (.inr (by dsimp only)) (by exact List.nil_subset _)) _ _) _) r

theorem writeRecord (H : h.Unfenced q) (n : Notice) (seq : Nat) : (h.writeRecord n seq).Unfenced q := by
  have recorded := recordCore H n seq
  unfold Hub.writeRecord
  revert recorded
  generalize h.recordCore n seq = r
  intro recorded
  have marked := when (when recorded r.2.1 (fun h => h.ownNotice N.queueWmHigh [63, h.num (Obj.wmHighLevel 63)]) (ownNotice · _ _))
    r.2.2 (fun h => h.ownNotice N.queueWmLow [63, h.num (Obj.wmLowLevel 63)]) (ownNotice · _ _)
  exact ite _ marked (ownNotice (ptrClear marked _) _ _)

theorem flushBacklog (n : Nat) : ∀ {h}, Hub.Unfenced q h → (h.flushBacklog n).Unfenced q := by
  induction n with
  | zero => exact id
  | succ n ih =>
    intro h H
    unfold Hub.flushBacklog
    split
    · exact H
    · split
      · exact ih (writeRecord (same H (by rfl)) _ _)
      · exact H

theorem overflowNow (H : h.Unfenced q) : h.overflowNow.Unfenced q := by
  have flushed := flushBacklog h.host.backlog.length H
  unfold Hub.overflowNow
  exact ite _ (writeRecord (same flushed (by rfl)) _ _) flushed

theorem numberNotice (H : h.Unfenced q) (n : Notice) : (h.numberNotice n).Unfenced q := by
  have flushed := overflowNow H
  unfold Hub.numberNotice Hub.deliverNotice
  revert flushed
  generalize h.overflowNow = g
  intro G
  exact deliverBy (same G (by rfl)) _ _ _ fun K => writeRecord K _ _

theorem placeNotice (H : h.Unfenced q) (n : Notice) : (h.placeNotice n).Unfenced q := ite _ (ite _ (H.same (by rfl)) (H.same (by rfl))) (H.numberNotice n)

theorem notice (H : h.Unfenced q) (code fid : Nat) (args : List Nat) : (h.notice code fid args).Unfenced q := by
  unfold Hub.notice Hub.noticeStamped
  refine ite _ H ?_
  dsimp only
  split
  · exact H.same (by rfl)
  · exact placeNotice (count H _) _

/-! ### Descriptors (R221, R227, R231) -/

theorem afterLevel (H : h.Unfenced q) (r old : Nat) : (h.afterLevel r old).Unfenced q := by
  have crossed := crossings H r old
  unfold Hub.afterLevel
  exact when (when crossed _ _ (notice · _ _ _)) _ _ (notice · _ _ _)

theorem checkPtr (H : h.Unfenced q) (r : Nat) : (h.checkPtr r).Unfenced q := ite _ (afterLevel (notice (ptrClear H r) _ _ _) _ _) H

theorem release (H : h.Unfenced q) (r n : Nat) : (h.release r n).Unfenced q :=
  ite _ H (checkPtr (afterLevel (when (keepQueue H r _ (by exact ⟨rfl, rfl⟩)) _ _ (creditWordNow · r)) _ _) _)

theorem completeH2D (H : h.Unfenced q) (r : Nat) (d : QDesc) (status bytes : Nat) : (h.completeH2D r d status bytes).Unfenced q := by
  unfold Hub.completeH2D
  dsimp only
  refine when (release (count ?_ _) _ _) _ _ (queueEvent · _ _)
  refine when (keepQueue (ite _ ?_ ?_) r _ (by exact ⟨rfl, rfl⟩)) _ _ (keepQueue · r _ (by exact ⟨rfl, rfl⟩))
  · exact emitHost H _
  · exact emitHost H _

theorem drainDescs (r n : Nat) : ∀ {h}, Hub.Unfenced q h → (h.drainDescs r n).Unfenced q := by
  induction n with
  | zero => exact id
  | succ n ih =>
    intro h H
    unfold Hub.drainDescs
    split
    · exact H
    next d ds descs =>
      split
      · exact H
      · have rest : ds ⊆ (h.queue r).descs := by
          rw [descs]
          exact List.subset_cons_self d ds
        exact ite _ H (ih (completeH2D (setQueue H r _ (.inl (by dsimp only)) (by exact rest)) _ _ _ _))

theorem drain (H : h.Unfenced q) (r : Nat) : (h.drain r).Unfenced q := drainDescs r _ H

end Hub.Unfenced

/-- A queue with no descriptor that waits sends no marker. -/
theorem bulkFence_none {h : Hub} {q : Nat} (H : h.Unfenced q) : h.bulkFence q = h := by
  have none_ : (h.queue q).descs.find? (fun d => d.fence == 1) = none := List.find?_eq_none.mpr fun d mem => by simp [H.2 d mem]
  unfold Hub.bulkFence
  dsimp only
  rw [none_]

/-- The state of a queue as its markers are given up together. -/
def QState.markersEnd (s : QState) : QState := { s with bulkMarkers := [], bulkInc := s.bulkInc || true }

/-- The hub as the markers of a BULK fence are given up together. -/
def Hub.markersEnd (h : Hub) (q : Nat) : Hub :=
  let g := h.setQueue q (h.queue q).markersEnd
  g.when (!(g.queue q).bulkInc) (fun k => k.writesRetired 0x11 (fun t =>
    SMap.get (fun _ => 0) k.host.bulkOwner t == q + 1 && k.tagBefore 0x11 (h.queue q).bulkUpto t))

theorem markersEnd_queue (h : Hub) (q : Nat) : (h.markersEnd q).queue q = (h.queue q).markersEnd := by
  unfold Hub.markersEnd Hub.when
  dsimp only
  split
  · exact Hub.queue_setQueue_self h q _
  · exact Hub.queue_setQueue_self h q _

/-- The descriptors that wait for the markers of a queue wait for them no more. -/
def Hub.descsEnd (h : Hub) (q : Nat) : Hub :=
  h.setQueue q { h.queue q with descs := (h.queue q).descs.map (fun (x : QDesc) => if x.fence = 2 then { x with fence := 0 } else x) }

theorem bulkSettle_none (h : Hub) (q : Nat) : h.bulkSettle q [] true = (((h.markersEnd q).descsEnd q).drain q).bulkFence q := by
  unfold Hub.bulkSettle Hub.descsEnd Hub.markersEnd QState.markersEnd
  exact if_neg (by decide)

/-- With the last marker the descriptors that waited for it complete, and no marker is out (R148 step 4, R151). -/
theorem bulkSettle_ends {h : Hub} {q : Nat} (none_ : (h.queue q).descs.all (fun d => d.fence != 1) = true) : (h.bulkSettle q [] true).Unfenced q := by
  have ended : ((h.markersEnd q).descsEnd q).Unfenced q := by
    unfold Hub.Unfenced Hub.descsEnd
    rw [Hub.queue_setQueue_self, markersEnd_queue]
    refine ⟨rfl, fun d mem => ?_⟩
    obtain ⟨x, was, rfl⟩ := List.mem_map.mp mem
    split
    · exact Nat.zero_ne_one
    · simpa using List.all_eq_true.mp none_ x was
  rw [bulkSettle_none, bulkFence_none (ended.drain q)]
  exact ended.drain q

/-- The markers of a BULK queue go once more, and its queues stand (R148 step 4). -/
theorem sendMarkers_queue (h : Hub) (q : Nat) (l : List (Nat × Nat)) : (l.foldl (fun h m => h.sendMarker q m) h).queue q = h.queue q := by
  refine List.foldlRecOn (motive := fun g : Hub => g.queue q = h.queue q) l _ rfl fun g same m _ => ?_
  unfold Hub.sendMarker Hub.queue
  rw [(sendTxn_sends g _ _).rest]
  exact same

end Sys2Proof.Machine
end

section
/-!
What a completed fence reports (R149), and the answers of a target to writes and fence markers (R148, R149, R158, R159, R162).
-/
namespace Sys2Proof.Machine

/-- The report of a fence that has completed (R149). -/
theorem Hub.Rests.report {h g : Hub} {w : Nat} {inc wrote : Bool} (R : g.Rests w { h.finished w inc with wrote := wrote }) :
    (g.fence w).tag = 0 ∧ (g.fence w).seq = ((h.fence w).seq + 1) % 256 ∧ (g.fence w).incomplete = inc
    ∧ (g.fence w).faulted = h.num (Obj.faultedSinceFence w) ∧ (g.fence w).epochChanged = decide ((h.fence w).epoch ≠ h.num Obj.orderingEpoch)
    ∧ (g.fence w).epoch = h.num Obj.orderingEpoch := by
  rw [R.fence]
  exact ⟨rfl, rfl, rfl, rfl, rfl, rfl⟩

theorem requestAll_holds {h : Hub} (runs : h.bridge.allRunning = true) (w : Nat) :
    h.requestAll.bridge.allHeld = true ∧ h.requestAll.fence w = h.fence w := by
  unfold Hub.requestAll
  rw [if_pos runs]
  exact ⟨rfl, rfl⟩

theorem requestAll_starts {h : Hub} (idle : h.bridge.allRunning = false) : h.requestAll = h.startAll := if_neg (Bool.eq_false_iff.mp idle)

/-- fence-timeout passes for a BULK queue (R148 step 4): its markers go once more, then the fence ends without them. -/
theorem bulkTimeout_ends {h : Hub} {q : Nat} (out : (h.queue q).bulkMarkers ≠ []) (none_ : (h.queue q).descs.all (fun d => d.fence != 1) = true) :
    ((h.queue q).bulkResent = false → ((h.bulkTimeout q).queue q).bulkResent = true
      ∧ ((h.bulkTimeout q).queue q).bulkMarkers = (h.queue q).bulkMarkers)
    ∧ ((h.queue q).bulkResent = true → ((h.bulkTimeout q).queue q).bulkMarkers = []) := by
  unfold Hub.bulkTimeout
  dsimp only
  rw [if_neg (fun empty => out (List.isEmpty_iff.mp empty))]
  refine ⟨fun first => ?_, fun second => ?_⟩
  · rw [first, if_neg (by decide), sendMarkers_queue, Hub.queue_setQueue_self]
    exact ⟨rfl, rfl⟩
  · rw [second, if_pos rfl]
    exact (bulkSettle_ends none_).1

/-- What arrives with a frame moves no fence. -/
theorem Hub.Arrives.fence {h g : Hub} (A : h.Arrives g) (w : Nat) : g.fence w = h.fence w := by
  unfold Hub.fence
  rw [A.bridge]

theorem Hub.Arrives.fenceOf {h g : Hub} (A : h.Arrives g) (tag : Nat) : g.fenceOf tag = h.fenceOf tag := by
  unfold Hub.fenceOf Hub.fence
  rw [A.bridge]

theorem bridgeRx_wack {h : Hub} {f : RingFrame} (kind : f.type = tWack) : h.bridgeRx f = h.takeWack f := by
  unfold Hub.bridgeRx
  rw [kind]
  rfl

theorem bridgeRx_wnak {h : Hub} {f : RingFrame} (kind : f.type = tWnak) : h.bridgeRx f = h.takeWnak f := by
  unfold Hub.bridgeRx
  rw [kind]
  rfl

theorem fenceOf_some {h : Hub} {tag w : Nat} (found : h.fenceOf tag = some w) : w < 16 ∧ (h.fence w).tag = tag + 1 :=
  ⟨List.mem_range.mp (List.mem_of_find?_eq_some found), beq_iff_eq.mp (List.find?_some (p := fun v => (h.fence v).tag == tag + 1) found)⟩

/-- What a frame's arrival moves is no object of the bridge. -/
theorem Hub.Arrives.bridgeNum {h g : Hub} (A : h.Arrives g) {k : Nat} (bridge : 0x180000 ≤ k) (other : k ≠ Obj.restDiscards) : g.num k = h.num k := by
  refine A.num k ?_
  simp only [arrivalKey, ringCounter]
  omega

/-- A WACK for the marker of a window completes its fence (R148). -/
theorem takeWack_finishes {h : Hub} {f : RingFrame} {w : Nat} (window : txInit f < 16) (found : h.fenceOf f.tag = some w) (slot : h.bridge.slot = none)
    (own : w = txInit f) : h.takeWack f = (h.finishFence w false).afterFence w := by
  have unanswered : h.slotAnswered f = none := by
    unfold Hub.slotAnswered
    rw [slot]
    rfl
  unfold Hub.takeWack
  dsimp only
  rw [if_neg (by omega), if_neg (by omega), unanswered, found]
  exact if_pos own

/-- The answer to WRUL ends the AtomicOp with its old value (R162). -/
theorem takeWack_ends {h : Hub} {f : RingFrame} {a : AtomicOp} (window : txInit f < 16) (slot : h.bridge.slot = some a) (phase : a.phase = 2)
    (tag : a.tag = f.tag) (own : a.w = txInit f) (addr : h.atomicAddr a = txAddr f) (last : h.bridge.atomics = []) :
    (h.takeWack f).bridge.slot = none ∧ (h.takeWack f).out.head? = some (.hostData a.old) := by
  have answered : h.slotAnswered f = some a := by
    unfold Hub.slotAnswered
    rw [slot, Option.filter_some, if_pos]
    simp [phase, tag, own, addr]
  unfold Hub.takeWack
  dsimp only
  rw [if_neg (by omega), if_neg (by omega), answered]
  dsimp only
  rw [nextAtomic_none (h := h.emit _) last]
  exact ⟨rfl, rfl⟩

/-- A WNAK that names no marker counts the write that it names as faulted, and is logged (R149, R158, R159). -/
theorem takeWnak_logs {h : Hub} {f : RingFrame} (window : txInit f < 16) (slot : h.bridge.slot = none) (none_ : h.fenceOf f.tag = none) :
    (h.takeWnak f).bridge.logSeq = h.bridge.logSeq + 1
    ∧ (h.takeWnak f).num Obj.wnakReceived = satAdd (maxWord 32) (h.num Obj.wnakReceived) 1
    ∧ (h.takeWnak f).num (Obj.writesFaulted (txInit f)) = (if (h.sentWrite (txInit f) f.tag).1 = txAddr f
        then satAdd (maxWord 32) (h.num (Obj.writesFaulted (txInit f))) 1 else h.num (Obj.writesFaulted (txInit f))) := by
  have unanswered : (h.count Obj.wnakReceived).slotAnswered f = none := by
    unfold Hub.slotAnswered
    rw [Hub.count_bridge, slot]
    rfl
  have unmarked : (h.count Obj.wnakReceived).fenceOf f.tag = none := none_
  have counted : (h.count Obj.wnakReceived).num Obj.wnakReceived = satAdd (maxWord 32) (h.num Obj.wnakReceived) 1 :=
    (Hub.num_count _ _ _).trans (if_pos rfl)
  have faulted : (h.count Obj.wnakReceived).num (Obj.writesFaulted (txInit f)) = h.num (Obj.writesFaulted (txInit f)) :=
    (Hub.num_count _ _ _).trans (if_neg (by unfold Obj.writesFaulted Obj.wnakReceived; omega))
  have logged := (windowKey (k := Obj.writesFaulted (txInit f)) rfl (by decide) (by decide) window).1
  unfold Hub.takeWnak
  dsimp only
  rw [if_neg (by omega), if_neg (by omega), if_neg (by omega), unanswered]
  dsimp only
  rw [if_neg (by rw [unmarked]; exact fun both => absurd both.1 (by simp))]
  split
  next mine =>
    refine ⟨by rw [logFault_bridge]; rfl, ?_, ?_⟩
    · rw [num_logFault _ _ _ _ _ _ _ (by decide)]
      refine (num_faultWrite _ _ _ ?_).trans ((if_neg ?_).trans counted)
      · unfold Obj.faultedSinceFence Obj.wnakReceived
        omega
      · unfold Obj.writesFaulted Obj.wnakReceived
        omega
    · rw [num_logFault _ _ _ _ _ _ _ logged, if_pos (beq_iff_eq.mp mine)]
      refine (num_faultWrite _ _ _ ?_).trans ((if_pos rfl).trans (congrArg (satAdd (maxWord 32) · 1) faulted))
      unfold Obj.faultedSinceFence Obj.writesFaulted
      omega
  next other =>
    refine ⟨by rw [logFault_bridge]; rfl, ?_, ?_⟩
    · rw [num_logFault _ _ _ _ _ _ _ (by decide), counted]
    · rw [num_logFault _ _ _ _ _ _ _ logged, if_neg (fun same => other (beq_iff_eq.mpr same)), faulted]

end Sys2Proof.Machine

open Sys2Proof Sys2Proof.Machine

/-- Settles O27: a window's fence and FENCE_ALL by what each request and timeout leaves, the fence of a BULK queue, then the answers of targets. -/
theorem fencesCompleteWithTheirReports : Obligations.FencesCompleteWithTheirReports := by
  unfold Obligations.FencesCompleteWithTheirReports
  refine ⟨?windows, ?bulk, ?answers⟩
  case windows =>
    intro s path w f reach done
    refine ⟨⟨_, rfl, rfl, fun runs => requestFence_held runs, fun idle unwritten => ?_, fun idle wrote away => ?_,
      fun idle wrote near => requestFence_marks idle wrote near⟩, ⟨_, rfl, rfl, fun runs => ?_, fun idle waits => ?_, fun idle quiet => ?_⟩,
      fun runs free all => ?_⟩
    · have rests := requestFence_completes w.isLt idle (beginFence_unwritten unwritten)
      exact ⟨rests.report, rests.faulted⟩
    · have rests := requestFence_completes w.isLt idle (beginFence_unreachable wrote away)
      exact ⟨rests.report, congrArg Fence.wrote rests.fence, rests.faulted⟩
    · exact requestAll_holds runs w.val
    · have starts := (startAll_waits w.isLt waits).imp_left Hub.Counted.running
      rw [← requestAll_starts idle] at starts
      exact starts
    · have starts := startAll_rest quiet
      rw [← requestAll_starts idle] at starts
      exact starts
    · have ends := fenceTimeout_ends w.isLt runs free all
      exact ⟨_, rfl, rfl, ends.1, fun second => (ends.2 second).report⟩
  case bulk =>
    intro s q out none_
    exact ⟨_, rfl, rfl, bulkTimeout_ends out none_⟩
  case answers =>
    intro s west f
    refine ⟨fun takes window => ⟨fun w found slot own free all => ?_, fun a slot phase tag own addr last => ?_⟩, fun takes window slot none_ => ?_⟩
    · obtain ⟨kind, A⟩ := bridgeTakes_arrives takes
      obtain ⟨o, runs⟩ := exec_takes (i := .wackRx west f) rfl takes
      rw [bridgeRx_wack (f := { f with rxStamp := o }) kind, takeWack_finishes (f := { f with rxStamp := o }) window ((A.fenceOf _).trans found)
        ((congrArg Bridge.slot A.bridge).trans slot) own] at runs
      have rests := finishFence_settles (fenceOf_some found).1 ((congrArg Fence.held (A.fence w)).trans free)
        ((congrArg Bridge.allHeld A.bridge).trans all) false
      obtain ⟨tag, seq, inc, -⟩ := rests.report
      exact ⟨_, runs, rfl, tag, inc, seq.trans (congrArg (fun x => (Fence.seq x + 1) % 256) (A.fence w))⟩
    · obtain ⟨kind, A⟩ := bridgeTakes_arrives takes
      obtain ⟨o, runs⟩ := exec_takes (i := .wackRx west f) rfl takes
      have base : (s.hub.bridged west f).2.atomicAddr a = txAddr f := by
        refine (congrArg (· + a.offset) (A.bridgeNum ?_ ?_)).trans addr
        · unfold Obj.ringBase
          omega
        · unfold Obj.ringBase Obj.restDiscards
          omega
      have ends := takeWack_ends (f := { f with rxStamp := o }) window ((congrArg Bridge.slot A.bridge).trans slot) phase tag own base
        ((congrArg Bridge.atomics A.bridge).trans last)
      rw [bridgeRx_wack (f := { f with rxStamp := o }) kind] at runs
      exact ⟨_, runs, rfl, ends⟩
    · obtain ⟨kind, A⟩ := bridgeTakes_arrives takes
      obtain ⟨o, runs⟩ := exec_takes (i := .wnakRx west f) rfl takes
      obtain ⟨log, wnaks, faults⟩ := takeWnak_logs (f := { f with rxStamp := o }) window ((congrArg Bridge.slot A.bridge).trans slot) ((A.fenceOf _).trans none_)
      have counted := A.bridgeNum (k := Obj.wnakReceived) (by decide) (by decide)
      have faulted : (s.hub.bridged west f).2.num (Obj.writesFaulted (txInit f)) = s.hub.num (Obj.writesFaulted (txInit f)) := by
        refine A.bridgeNum ?_ ?_
        · unfold Obj.writesFaulted
          omega
        · unfold Obj.writesFaulted Obj.restDiscards
          omega
      have sent : (s.hub.bridged west f).2.sentWrite (txInit f) f.tag = s.hub.sentWrite (txInit f) f.tag := by
        unfold Hub.sentWrite
        rw [A.bridge]
      rw [bridgeRx_wnak (f := { f with rxStamp := o }) kind] at runs
      rw [A.bridge] at log
      rw [counted] at wnaks
      change _ = (if ((s.hub.bridged west f).2.sentWrite (txInit f) f.tag).1 = txAddr f then _ else _) at faults
      rw [sent] at faults
      exact ⟨_, runs, rfl, log, wnaks, faults.trans (by rw [← faulted]; rfl)⟩
end
